-- ==== Sys2Proof/Word.lean ====
section
/-! DEFINITION. Word.lean: the word types, and the sparse map in which every indexed store of the block is held. -/

namespace Sys2Proof

/-- A 32-bit register word (R9). -/
abbrev Word := BitVec 32

/-- A byte of a dictionary value, a frame or the MRAM. -/
abbrev Byte := BitVec 8

/-- A sparse store: keys strictly rising, no entry equal to the default of the store. -/
abbrev SMap (α : Type) := List (Nat × α)

/-- Three variants of Table 0.1 (R3). -/
inductive Variant where
  | c192
  | c192L
  | c096
  deriving DecidableEq, Repr

/-- The two safety channels: A is SP, B is the embankment logic (R285). -/
inductive Chan where
  | a
  | b
  deriving DecidableEq, Repr

/-- The access path of a dictionary request or a session: the host port or one Zeley address (R328). -/
inductive Path where
  | host
  | zeley (addr : Nat)
  deriving DecidableEq, Repr

/-- Wake sources of STANDBY (R89). -/
inductive WakeSrc where
  | comparator
  | zeley
  | host
  deriving DecidableEq, Repr

/-- Class of an event: the highest threshold crossed (R147). -/
inductive EvClass where
  | base
  | heart
  | top
  deriving DecidableEq, Repr

end Sys2Proof
end

