-- ==== Sys2Proof/Syntax.lean ====
section
/-! DEFINITION. Syntax.lean: the commands of the block, one constructor per row of spec/opcode_table.json, in the
table's order, with the operands the row's rule needs. `t` is always the instant of the command in ns on the local
clock (R402), or the field `t` of the reading that it carries; analogue quantities that the device measures are operands in the unit of the register that shows them. -/

namespace Sys2Proof

/-- One set of supply readings taken by the energy meter (R60, Table 2.10): levels in mV, the voltage across the shunt in µV, the
integral of VIN times that voltage since the last refresh in mV·µV·ms, and the store voltages VSTS0 to VSTS3 in mV (R132). -/
structure Meter where
  vin : Nat
  shunt : Nat
  vhold : Nat
  vossd : Nat
  vld : Nat
  prod : Nat
  vst : List Nat
  deriving DecidableEq, Repr

/-- A supply level of `mv` at the instant `t`. -/
structure Reading where
  t : Nat
  mv : Nat
  deriving DecidableEq, Repr

/-- A supply level of `mv` at the instant `t`, at or above which it has stayed for `heldNs` ns. -/
structure HeldReading where
  t : Nat
  mv : Nat
  heldNs : Nat
  deriving DecidableEq, Repr

/-- One round of the clock checks of Table 3.3: an LFX edge was seen, the deviations in ppm, HFX runs. -/
structure ClockMeas where
  lfxEdge : Bool
  mrcA : Int
  mrcB : Int
  hfx : Int
  hfxRuns : Bool
  deriving DecidableEq, Repr

/-- The levels of the sixteen safe input terminals in mV: entry 2i is SINiA, entry 2i + 1 SINiB (R288). -/
structure SinLevels where
  mv : List Int
  deriving DecidableEq, Repr

/-- The levels of the terminals as each channel's own comparators read them (R285). -/
structure ChannelLevels where
  a : SinLevels
  b : SinLevels
  deriving DecidableEq, Repr

/-- A sink output and the LED supply at LMVS, in mV (R452, R458). -/
structure SinkReading where
  mv : Nat
  supply : Nat
  deriving DecidableEq, Repr

/-- An edge of MIX at the instant `t` (R126). -/
structure MixSeen where
  t : Nat
  rising : Bool
  deriving DecidableEq, Repr

/-- The voltage of the sense input FCSn, in µV (R129). -/
structure SenseLevel where
  n : Fin 16
  uv : Nat
  deriving DecidableEq, Repr

/-- The input current of a channel around one excursion (R143, R147): from each instant, in TDC steps from the start of the azimuth
step, the current in nA above the restored baseline, up to the next instant. -/
structure Excursion where
  wave : List (Int × Nat)
  deriving DecidableEq, Repr

/-- What one blotter listen of a channel saw (R159, R160): events, an event that began before the injection,
the TDC time less the injection time, the class and the TOT in TDC steps. -/
structure BlotSeen where
  events : Nat
  early : Bool
  m : Int
  cls : EvClass
  tot : Nat
  deriving DecidableEq, Repr

/-- A write and the path on which it comes. -/
structure PathWrite where
  path : Path
  data : List Byte
  deriving DecidableEq, Repr

/-- A dictionary request in the layout of Table 18.5 (R405). -/
structure DictReq where
  index : Nat
  sub : Nat
  epoch : Nat
  tid : Nat
  val : Nat
  data : List Byte
  deriving DecidableEq, Repr

/-- The command byte behind OP, and the address (Tables 19.1 and 19.2). -/
structure SpiHead where
  inc : Bool
  crc : Bool
  wait : Nat
  addr : Nat
  deriving DecidableEq, Repr

/-- One SPI READ transfer (R416, R419): its header, the HCRC byte received where CRC = 1, the SCLK period in ns, the words shifted out
whole, and whether the transfer ended inside the header. -/
structure SpiRead where
  head : SpiHead
  hcrc : Byte
  tsclk : Nat
  words : Nat
  inHeader : Bool
  deriving DecidableEq, Repr

/-- One SPI WRITE transfer (R416, R421): each whole word with its DCRC byte where CRC = 1; `cut` = a last word was cut short. -/
structure SpiWrite where
  head : SpiHead
  hcrc : Byte
  words : List (Word × Byte)
  cut : Bool
  inHeader : Bool
  deriving DecidableEq, Repr

/-- The content of a received track-link frame (Table 17.5), with its LEN and its CRC-32C. -/
structure TlFrame where
  isEvent : Bool
  len : Nat
  src : Nat
  seq : Nat
  sync : Bool
  time : Nat
  cp : Nat
  dirBA : Bool
  vehicle : Bool
  epoch : Nat
  health : BitVec 32
  states : BitVec 64
  secexp : BitVec 32
  crc : Word
  deriving DecidableEq, Repr

/-- A Zeley frame on the line (Tables 18.1 and 18.2): `len` is LEN, `body` the bytes after SEQ, `hcrc` HCRC and `crc` the CRC-32C. -/
structure ZlFrame where
  type : Nat
  dmode : Nat
  dst : Nat
  unasg : Bool
  src : Nat
  hops : Nat
  seq : Nat
  len : Nat
  body : List Byte
  hcrc : BitVec 16
  crc : Word
  deriving DecidableEq, Repr

/-- The commands of the block. -/
inductive Instr where
  -- start-up, reset, boundary scan (chapter 4)
  | powerUp (t : Nat) (govAOk govBOk : Bool)
  | uvloEngage (t : Nat)
  | configLoad (t : Nat) (aOk bOk cntAOk cntBOk : Bool)
  | selfTestDone (t : Nat) (c : Chan) (pass : Bool)
  | safetyOperational (t : Nat) (lv : ChannelLevels)
  | hpStartReady (t : Nat)
  | resetPinAssert (t : Nat) (lowNs : Nat)
  | resetPinRelease (t : Nat)
  | railUndervoltage (t : Nat)
  | mpWatchdogExpiry (t : Nat)
  | syResetDataPlane (t : Nat)
  | syResetMgmtPlane (t : Nat)
  | syResetDevice (t : Nat)
  | resetCmdDataPlane (t : Nat)
  | resetCmdMgmtPlane (t : Nat)
  | resetCmdDevice (t : Nat)
  | resetTakesEffect (t : Nat)
  | mgmtResetDone (t : Nat)
  | jtagExtest (t : Nat)
  | jtagClamp (t : Nat)
  | jtagHighz (t : Nat)
  | jtagSamplePreload (t : Nat)
  | jtagBypass (t : Nat)
  | jtagPinInstructionExit (t : Nat)
  | spDebugHalt (t : Nat)
  -- boundaries (chapter 1)
  | frameBoundary (t : Nat)
  | nominalBoundary (t : Nat)
  -- supply and mains (chapter 2)
  | emRefresh (t : Nat) (m : Meter)
  | saveComplete (t : Nat)
  | vbusLoss (t : Nat)
  | rideEnter (vin : Reading)
  | rideExit (vin : HeldReading)
  | vossdFault (t : Nat)
  | vldRangeChange (t : Nat) (vldMv : Nat)
  | cmeasDone (t fromMv vholdMv : Nat)
  | chargerStop (vhold : Reading)
  | chargerResume (vhold : Reading)
  | accountingInterval (t : Nat)
  | mramStage (t : Nat)
  | mwRefresh (t : Nat) (first second : List Int)
  | mwForcedRefresh (t : Nat) (samples : List Int)
  | mwRecoveryEnd (t : Nat)
  -- clocks, mirror, power states, wake (chapters 3 and 5)
  | clockCheck (t : Nat) (m : ClockMeas)
  | pllLossOfLock (t : Nat)
  | hfxStable (t : Nat)
  | pllLocked (t : Nat)
  | dataPlaneReady (t : Nat)
  | mixEdge (e : MixSeen)
  | mixPeriodTimeout (t : Nat)
  | mencEdge (t : Nat) (forward : Bool)
  | mencStallTimeout (t : Nat)
  | mirrorCheckTimeout (t : Nat)
  | pwrReqWrite (t : Nat) (req : Nat)
  | wakeEvent (t : Nat)
  | pwrIdleExpiry (t : Nat)
  | standbyEntryDone (t : Nat)
  | standbyWake (t : Nat) (src : WakeSrc)
  | wcTick (t : Nat) (n : Fin 8) (mv : Nat)
  | wcStatWrite (v : Word)
  | wcLatchWrite (v : Byte)
  -- emitters and governor (chapter 5), planner expander (chapter 10)
  | azimuthStepStart (t : Nat)
  | shotListTake (t : Nat) (tk : BitVec 64)
  | expanderBuild (t : Nat) (inTime : Bool)
  | burstTest (t : Nat) (q k : Fin 4) (slot : Fin 8) (vstMv : Nat)
  | subPulse (e : Fin 16) (slot : Fin 8) (k : Fin 7)
  | govSubwindow (w100 : Bool)
  | fcTrip (sense : SenseLevel)
  | fcStatWrite (trip high : BitVec 16)
  | fcTripWrite (path : Path) (v : BitVec 16)
  | fcCntWrite (n : Fin 16)
  | governorLock (t : Nat) (path : Path) (crc : BitVec 32)
  -- receive channels and histograms (chapters 6 and 7)
  | rxEvent (ch : Fin 192) (x : Excursion)
  | rxEventLongClose (ch : Fin 192) (x : Excursion)
  | eventBinning (strip : Fin 16) (atTdc : Int)
  | windowClose (e : Fin 16) (slot : Fin 8)
  | pickerRun (strip : Fin 16)
  | baseNoteUpdate (ch : Fin 192)
  | blotterInjection (q : Fin 4)
  | blotterListenEnd (ch : Fin 192) (x : BlotSeen)
  | hvBiasAdjust (t : Nat) (q : Fin 4) (hv10mV : Nat) (tempC : Int)
  | hvFaultTimeout (t : Nat) (q : Fin 4)
  | healthClr (ch : Fin 192)
  | zrefLatch (q : Fin 4)
  | bufferRelease (t : Nat) (q : Fin 4)
  | hgSnapCmd (q : Fin 4) (w : Word)
  | snapshotComplete (q : Fin 4)
  -- echo instructions (chapter 8): q is the note engine, d a b the register fields, imm the immediate field
  | neNop (q : Fin 4)
  | neLi (q : Fin 4) (d : BitVec 4) (imm : BitVec 14)
  | neLg (q : Fin 4) (d a : BitVec 4)
  | neGli (q : Fin 4) (d : BitVec 4) (imm : BitVec 14)
  | neGlh (q : Fin 4) (d : BitVec 4) (imm : BitVec 14)
  | neGadd (q : Fin 4) (d a : BitVec 4) (imm : BitVec 14)
  | neAdd (q : Fin 4) (d a b : BitVec 4)
  | neSub (q : Fin 4) (d a b : BitVec 4)
  | neAddi (q : Fin 4) (d a : BitVec 4) (imm : BitVec 14)
  | neMul (q : Fin 4) (d a b : BitVec 4)
  | neShr (q : Fin 4) (d a : BitVec 4) (imm : BitVec 14)
  | neShl (q : Fin 4) (d a : BitVec 4) (imm : BitVec 14)
  | neMin (q : Fin 4) (d a b : BitVec 4)
  | neMax (q : Fin 4) (d a b : BitVec 4)
  | neMset (q : Fin 4) (a b : BitVec 4) (imm : BitVec 14)
  | neMseti (q : Fin 4) (a : BitVec 4) (imm : BitVec 14)
  | neMpush (q : Fin 4)
  | neMpop (q : Fin 4)
  | neMnot (q : Fin 4)
  | neBr (q : Fin 4) (imm : BitVec 14)
  | neBany (q : Fin 4) (imm : BitVec 14)
  | neBnone (q : Fin 4) (imm : BitVec 14)
  | neLoop (q : Fin 4) (a : BitVec 4) (imm : BitVec 14)
  | neEnd (q : Fin 4)
  | neCtx (q : Fin 4) (d : BitVec 4) (imm : BitVec 14)
  | neWin (q : Fin 4) (a b : BitVec 4)
  | neBin (q : Fin 4) (d a : BitVec 4) (imm : BitVec 14)
  | neBgs (q : Fin 4) (d : BitVec 4) (imm : BitVec 14)
  | neBgw (q : Fin 4) (a : BitVec 4)
  | nePeak (q : Fin 4) (d a b : BitVec 4)
  | neVmin (q : Fin 4) (d a b : BitVec 4)
  | neCent (q : Fin 4) (d a : BitVec 4) (imm : BitVec 14)
  | neFwid (q : Fin 4) (d a : BitVec 4)
  | neEclr (q : Fin 4)
  | neErng (q : Fin 4) (a : BitVec 4)
  | neEint (q : Fin 4) (a : BitVec 4) (imm : BitVec 14)
  | neEqlt (q : Fin 4) (a : BitVec 4)
  | neEflg (q : Fin 4) (imm : BitVec 14)
  | neCls (q : Fin 4) (d a : BitVec 4)
  | neEmit (q : Fin 4) (imm : BitVec 14)
  | neBudgetCut (q : Fin 4)
  -- point stream, zones, mailbox (chapters 1, 11, 12)
  | psPacketSent (lane : Fin 2)
  | echoEvaluate
  | pointWordEvaluate
  | zoneFrameLatch (t : Nat)
  | mapExpansionDone (t : Nat)
  | mailboxPost (t : Nat)
  | mailboxReceive (t : Nat) (c : Chan) (crcOk : Bool)
  | mailboxDeadline (t : Nat) (c : Chan)
  -- safety channels (chapters 13 and 14)
  | sinSample (t : Nat) (c : Chan) (lv : SinLevels)
  | pairEvaluate (t : Nat) (c : Chan)
  | discrepancyTimeout (t : Nat) (c : Chan) (n : Fin 8)
  | crossWordSend (t : Nat) (c : Chan)
  | crossWordReceive (t : Nat) (c : Chan) (valid : Bool)
  | crossWordTimeout (t : Nat) (c : Chan)
  | readbackSample (t : Nat) (c : Chan) (mv : List Int)
  | testPulseStart (t : Nat) (p : Fin 4)
  | testPulseEnd (t : Nat) (p : Fin 4) (mvA mvB : Int)
  | encoderEdge (t : Nat) (c : Chan) (m : Fin 2) (enc : Fin 2) (ab : BitVec 2)
  | driveSpeedCompute (t : Nat) (c : Chan)
  | resetFallingEdge (t : Nat) (c : Chan)
  | resetJamTimeout (t : Nat) (c : Chan)
  -- track front end and axle counting (chapters 16 and 17)
  | tfSampleDeliver (t : Nat) (n : Fin 16) (raw : Int)
  | tfOnsetRearm (t : Nat) (n : Fin 16)
  | tfDrydownEnd (t : Nat) (n : Fin 16)
  | tfblankPinChange (t : Nat) (high : Bool)
  | tfBlankEnd (t : Nat) (n : Fin 16)
  | tfSblank (t : Nat) (w : Word)
  | tfOpenDetect (t : Nat) (n : Fin 16) (rxMv exUa : Nat)
  | tfOpenEnd (t : Nat) (n : Fin 16)
  | tfCaptureArm (w : Word)
  | tfCaptureComplete
  | tfOnsetWrite (v : BitVec 16)
  | headHealthyTimer (t : Nat) (h : Fin 8)
  | countCopyAWritten (t : Nat)
  | countCopyBWritten (t : Nat)
  | sectionReset (t : Nat) (sec : Fin 32) (src : Option Path)
  | sectrstJamTimeout (t : Nat) (sin : Fin 8)
  | sectionWordSend (t : Nat)
  | sectionWordReceive (t : Nat) (c : Chan) (valid : Bool)
  | sectionWordTimeout (t : Nat) (c : Chan)
  | tlEventSend (l : Fin 2)
  | tlStatusSend (t : Nat) (l : Fin 2)
  | tlFrameReceive (t : Nat) (l : Fin 2) (f : TlFrame)
  | tlDownTimeout (t : Nat) (l : Fin 2)
  -- commits and accords (chapters 1, 9, 15)
  | commitGo (t : Nat) (path : Path)
  | commitVerifyDone (t : Nat) (intactA intactB : Bool)
  | commitDeadline (t : Nat)
  | configCopiesWritten (t : Nat)
  | assignWrite (t : Nat) (w : PathWrite)
  | assignStale (t : Nat)
  | reassign (t : Nat)
  | coordRefresh (t : Nat)
  | coordGenCheck (t : Nat) (d : Fin 1024)
  | acStatWrite (v : Word)
  | acCntWrite
  -- plan programs (chapter 10)
  | planProgramStart (t : Nat)
  | planDeadline (t : Nat)
  | fpNop
  | fpLi (d : BitVec 4) (imm : BitVec 14)
  | fpLih (d : BitVec 4) (imm : BitVec 14)
  | fpAdd (d a b : BitVec 4)
  | fpSub (d a b : BitVec 4)
  | fpAddi (d a : BitVec 4) (imm : BitVec 14)
  | fpMul (d a b : BitVec 4)
  | fpDiv (d a b : BitVec 4)
  | fpShr (d a : BitVec 4) (imm : BitVec 14)
  | fpShl (d a : BitVec 4) (imm : BitVec 14)
  | fpMin (d a b : BitVec 4)
  | fpMax (d a b : BitVec 4)
  | fpAnd (d a b : BitVec 4)
  | fpOr (d a b : BitVec 4)
  | fpBr (imm : BitVec 14)
  | fpBc (a b : BitVec 4) (imm : BitVec 14)
  | fpLoop (a : BitVec 4) (imm : BitVec 14)
  | fpEnd
  | fpIn (d : BitVec 4) (imm : BitVec 14)
  | fpQld (d a : BitVec 4)
  | fpFld (d a : BitVec 4)
  | fpPut (a b : BitVec 4)
  | fpPutall (b : BitVec 4)
  -- sessions, log, map (chapters 11 and 15)
  | sessionOpen (t : Nat) (path : Path) (data : List Byte)
  | sessionClose (t : Nat) (path : Path)
  | sessionIdleExpiry (t : Nat)
  | passSet (t : Nat) (path : Path) (data : List Byte)
  | lockoutExpiry (t : Nat)
  | lockoutSave (t : Nat)
  | logClear (t : Nat) (path : Path) (data : List Byte)
  | safetyErase (t : Nat) (path : Path) (data : List Byte)
  | mapFill (t : Nat) (path : Path) (data : List Byte)
  | mapClear (t : Nat) (path : Path)
  | mapRevert (t : Nat) (path : Path)
  -- Zeley link (chapter 18): p = 0 is ZA, 1 is ZB
  | zlPortSyncing (t : Nat) (p : Fin 2)
  | zlPortUp (t : Nat) (p : Fin 2)
  | zlPortCodeErrors (t : Nat) (p : Fin 2)
  | zlCommaTimeout (t : Nat) (p : Fin 2)
  | zlFrameTooLong (t : Nat) (p : Fin 2)
  | zlFrameReceive (t : Nat) (p : Fin 2) (f : ZlFrame)
  | zlQueuedFrameSend (t : Nat) (p : Fin 2)
  | zlTimeFrame (t : Nat) (p : Fin 2) (f : ZlFrame)
  | zlCommitFrame (t : Nat) (p : Fin 2) (f : ZlFrame)
  | zlHelloFrame (t : Nat) (p : Fin 2) (f : ZlFrame)
  | zlReqFrame (t : Nat) (p : Fin 2) (f : ZlFrame)
  | zlPdelayFrame (t : Nat) (p : Fin 2) (f : ZlFrame)
  | zlHelloSend (t : Nat)
  | zlConflictEnd (t : Nat)
  | zlMasterTimeout (t : Nat)
  | zlTimeSend (t : Nat)
  | zlPdelaySend (t : Nat) (p : Fin 2)
  | zlSyncTimeout (t : Nat)
  | timeSet (t : Nat) (v : BitVec 64)
  -- dictionary and host port (chapters 18 and 19)
  | dictRead (t : Nat) (path : Path) (r : DictReq)
  | dictReadSeg (t : Nat) (path : Path) (r : DictReq)
  | dictWrite (t : Nat) (path : Path) (r : DictReq)
  | dictWriteSeg (t : Nat) (path : Path) (r : DictReq)
  | dictCancel (t : Nat) (path : Path) (r : DictReq)
  | dictTransferExpiry (t : Nat) (path : Path) (tid : Nat)
  | hpRead (t : Nat) (r : SpiRead)
  | hpWrite (t : Nat) (w : SpiWrite)
  | hpStatusCmd (t : Nat) (h : SpiHead) (hcrc : Byte) (inHeader : Bool)
  | hpBadcmd (t : Nat) (h : SpiHead) (hcrc : Byte)
  | registerWrite (addr : Nat) (w : Word)
  | resultStatusRead (addr : Nat)
  | zlTimeloRead
  | hpMbxGo (t : Nat) (w : Word)
  | hpMbxResponsePost (t : Nat)
  | hpCntWrite
  -- event distributor (chapter 19)
  | edSrcWrite (n : Fin 384) (w : Word)
  | edTcfgWrite (tg : Fin 10) (w : Word)
  | edClaim (tg : Fin 10)
  | edComplete (tg : Fin 10) (w : Word)
  | edLsetWrite (tg : Fin 10) (w : Word)
  | edLpendWrite (tg : Fin 10) (w : Word)
  | edLcntWrite (tg : Fin 10)
  | edStatWrite (w : Word)
  | edSwiWrite (w : Word)
  | edSecchgWrite (w : Word)
  | edEvtWrite (flags : BitVec 64)
  | exMirCntWrite (w : Word)
  | zlIdWrite (w : Word)
  -- CRC units (chapter 20)
  | crcGo (n : Fin 2) (init : Bool)
  | crcStop (n : Fin 2)
  | crcScanDone (n : Fin 2)
  | crcRunloWrite (n : Fin 2) (w : Word)
  | crcRunhiWrite (n : Fin 2) (w : Word)
  | crcRunloRead (n : Fin 2)
  | crcRunWrite (n : Fin 2) (v : BitVec 64)
  -- indicator matrix (chapter 21)
  | lmSlotStart (t : Nat)
  | lmPrechargeEnd (t : Nat)
  | lmSinkOff (die : Fin 48)
  | lmDiagSample (die : Fin 48) (r : SinkReading)
  | lmMeasureSlot (r g b : BitVec 12)
  | lmRegulationPeriod
  | lmShow (page : Fin 2) (time : BitVec 64)
  | lmEvtWrite (v : BitVec 4)
  | lmOpenWrite (w : Fin 18) (v : Word)
  -- rows added after the rest
  | zlHeaderReceive (t : Nat) (p : Fin 2) (f : ZlFrame)
  | railRecovery (t : Nat)
  | planesLeaveReset (t : Nat)
  | neUnlistedOpcode (q : Fin 4)
  | fpUnlistedOpcode
  deriving DecidableEq, Repr

end Sys2Proof
end

