-- ==== Sys2Proof/WellFormed.lean ====
section
/-! DEFINITION. WellFormed.lean: the checks on a command's operands that its type does not make: the ranges of the words and
addresses that the command carries. -/

namespace Sys2Proof

/-- A byte address of the host address map is below 2^24 (R416). -/
def addrOk (a : Nat) : Bool := decide (a < 2 ^ 24)

/-- The fields of a dictionary request fit Table 18.5, and its data is at most 992 bytes (R405). -/
def DictReq.wf (r : DictReq) : Bool :=
  decide (r.index < 2 ^ 16) && decide (r.sub < 2 ^ 8) && decide (r.epoch < 2 ^ 16) && decide (r.tid < 2 ^ 16) &&
  decide (r.val < 2 ^ 32) && decide (r.data.length ≤ 992)

/-- A path over the Zeley link names an address of 0 to 1,023 (R390). -/
def Path.wf (p : Path) : Bool :=
  match p with
  | .host => true
  | .zeley a => decide (a < 1024)

/-- The fields of a Zeley frame fit Table 18.1. -/
def ZlFrame.wf (f : ZlFrame) : Bool :=
  decide (f.type < 16) && decide (f.dmode < 4) && decide (f.dst < 1024) && decide (f.src < 1024) && decide (f.hops < 1024) &&
  decide (f.seq < 2 ^ 16) && decide (2 ≤ f.len) && decide (f.len ≤ 1522) && decide (f.body.length ≤ f.len)

/-- The instants of an excursion rise. -/
def Excursion.wf (x : Excursion) : Bool := (x.wave.zip x.wave.tail).all fun e => decide (e.1.1 < e.2.1)

/-- The fields of a transfer's header fit Tables 19.1 and 19.2. -/
def SpiHead.wf (h : SpiHead) : Bool := decide (h.wait < 16) && addrOk h.addr

/-- The fields of a track-link frame fit Table 17.5. -/
def TlFrame.wf (f : TlFrame) : Bool :=
  decide (f.len < 256) && decide (f.src < 1024) && decide (f.seq < 2 ^ 16) && decide (f.time < 2 ^ 64) && decide (f.cp < 32) && decide (f.epoch < 2 ^ 16)

/-- Every safe input terminal has its level (R288). -/
def SinLevels.wf (l : SinLevels) : Bool := l.mv.length == 16

/-- The operands of a command are of the form that the spec gives them. -/
def Instr.wf (i : Instr) : Bool :=
  match i with
  | .safetyOperational _ lv => lv.a.wf && lv.b.wf
  | .sinSample _ _ lv => lv.wf
  | .governorLock _ p _ | .commitGo _ p | .sessionClose _ p | .mapClear _ p | .mapRevert _ p => p.wf
  | .sessionOpen _ p d | .passSet _ p d | .logClear _ p d | .safetyErase _ p d | .mapFill _ p d =>
    p.wf && decide (d.length ≤ 4096)
  | .sectionReset _ _ (some p) => p.wf
  | .dictRead _ p r | .dictReadSeg _ p r | .dictWrite _ p r | .dictWriteSeg _ p r | .dictCancel _ p r => p.wf && r.wf
  | .dictTransferExpiry _ p _ => p.wf
  | .rxEvent _ x | .rxEventLongClose _ x => x.wf
  | .readbackSample _ _ mv => mv.length == 4
  | .hpRead _ r => r.head.wf
  | .hpWrite _ w => w.head.wf
  | .hpStatusCmd _ h _ _ | .hpBadcmd _ h _ => h.wf
  | .registerWrite a _ | .resultStatusRead a => addrOk a && decide (a % 4 = 0)
  | .zlFrameReceive _ _ f | .zlTimeFrame _ _ f | .zlCommitFrame _ _ f | .zlHelloFrame _ _ f | .zlReqFrame _ _ f
  | .zlPdelayFrame _ _ f | .zlHeaderReceive _ _ f => f.wf
  | .tlFrameReceive _ _ f => f.wf
  | .assignWrite _ w => w.path.wf && decide (w.data.length ≤ 4096)
  | .fcTripWrite p _ => p.wf
  | _ => true

end Sys2Proof
end

