-- ==== Sys2Proof/Config.lean ====
section
/-! DEFINITION. Config.lean: what the spec leaves open and one part fixes: the free values, constants with no body. -/

namespace Sys2Proof.Config

/-- The free values of the block: the n-th open value drawn, 64 bits. Nothing constrains it (assumption 1): the salt
of a passphrase slot (R327), the NONCE (R398), the outcome inside a two-outcome band (Tables 13.5 and 14.3, RESET_N between
1 and 10 µs), the meter error below 6 V (KL-09), a bin read during a buffer swap (KL-01), and every result for which the
spec states no value. -/
opaque freeBits : Nat → BitVec 64

end Sys2Proof.Config
end

