-- ==== Sys2Proof/Machine/Bits.lean ====
section
/-! DEFINITION. Machine/Bits.lean: bit fields, byte orders, the sparse map, saturating counters, the check values and the hash
that the spec names (R417, R390, R34, R327), and the 8b/10b code groups (R270, R388). -/

namespace Sys2Proof.Machine

/-! ### Bit fields -/

/-- Field of `n` bits from bit `lo` of a number. -/
def fld (w lo n : Nat) : Nat := w / 2 ^ lo % 2 ^ n

/-- Bit `i` of a number. -/
def bitAt (w i : Nat) : Bool := w / 2 ^ i % 2 == 1

/-- 2^i where the flag is set, else 0. -/
def bitIf (b : Bool) (i : Nat) : Nat := if b then 2 ^ i else 0

/-- `x` as a field of `n` bits from bit `lo`. -/
def put (x lo n : Nat) : Nat := x % 2 ^ n * 2 ^ lo

/-- Two's complement of an integer in `n` bits. -/
def toU (n : Nat) (x : Int) : Nat := (x % (2 ^ n : Int)).toNat

/-- The integer that `n` bits in two's complement hold. -/
def toS (n w : Nat) : Int := if w % 2 ^ n < 2 ^ (n - 1) then (w % 2 ^ n : Nat) else (w % 2 ^ n : Nat) - (2 ^ n : Int)

/-- Saturation of an integer into `n` bits of two's complement. -/
def satS (n : Nat) (x : Int) : Int := max (-(2 ^ (n - 1) : Int)) (min ((2 ^ (n - 1) : Int) - 1) x)

/-- A counter of occurrences saturates at the largest value of its `n` bits (R21). -/
def satAdd (n c d : Nat) : Nat := min (c + d) (2 ^ n - 1)

/-- Saturation of a count to `n` bits (R21). -/
def sat (n c : Nat) : Nat := min c (2 ^ n - 1)

/-- Clamp into a range. -/
def clampI (lo hi x : Int) : Int := max lo (min hi x)

/-- Clamp into a range. -/
def clampN (lo hi x : Nat) : Nat := max lo (min hi x)

/-- Ceiling of a quotient. -/
def ceilDiv (a b : Nat) : Nat := (a + b - 1) / b

/-- Quotient rounded to nearest, ties upwards. -/
def roundDiv (a b : Int) : Int := (2 * a + b) / (2 * b)

/-- The numbers below `n` at which a predicate holds, as a bit mask. -/
def maskOf (n : Nat) (p : Nat → Bool) : Nat := ((List.range n).map fun i => bitIf (p i) i).sum

/-- Bit `i` of a vector of any width. -/
def bget {n : Nat} (v : BitVec n) (i : Nat) : Bool := v.getLsbD i

/-- `v` with bit `i` set to `b`. -/
def bset {n : Nat} (v : BitVec n) (i : Nat) (b : Bool) : BitVec n :=
  if b then v ||| BitVec.ofNat n (2 ^ i) else v &&& ~~~ BitVec.ofNat n (2 ^ i)

/-- W1C: the bits at which `w` is 1 are cleared (R9). -/
def w1c {n : Nat} (v w : BitVec n) : BitVec n := v &&& ~~~ w

/-! ### The sparse map -/

/-- Read with the store's default. -/
def mget {α : Type} (d : α) : SMap α → Nat → α
  | [], _ => d
  | (k', v) :: m, k => if k = k' then v else mget d m k

/-- The entry of a key, if there is one. -/
def mlook {α : Type} : SMap α → Nat → Option α
  | [], _ => none
  | (k', v) :: m, k => if k = k' then some v else mlook m k

/-- Insert or replace. -/
def mput {α : Type} : SMap α → Nat → α → SMap α
  | [], k, v => [(k, v)]
  | (k', v') :: m, k, v =>
    if k < k' then (k, v) :: (k', v') :: m else if k = k' then (k, v) :: m else (k', v') :: mput m k v

/-- Remove every entry of a key. -/
def mdel {α : Type} : SMap α → Nat → SMap α
  | [], _ => []
  | (k', v') :: m, k => if k = k' then mdel m k else (k', v') :: mdel m k

/-- Write: the entry of a key that takes the default is removed, so equal stores are equal data. -/
def mset {α : Type} [DecidableEq α] (d : α) (m : SMap α) (k : Nat) (v : α) : SMap α :=
  if v = d then mdel m k else mput m k v

/-- Update in place. -/
def mupd {α : Type} [DecidableEq α] (d : α) (m : SMap α) (k : Nat) (f : α → α) : SMap α :=
  mset d m k (f (mget d m k))

/-- Keys strictly rising from `lo` and no entry equal to the default. -/
def mwfFrom {α : Type} [DecidableEq α] (d : α) : Nat → SMap α → Bool
  | _, [] => true
  | lo, (k, v) :: m => decide (lo ≤ k) && decide (v ≠ d) && mwfFrom d (k + 1) m

/-- The canonical form of a store. -/
def mwf {α : Type} [DecidableEq α] (d : α) (m : SMap α) : Bool := mwfFrom d 0 m

/-- The entries whose key satisfies a predicate. -/
def mfilter {α : Type} (p : Nat → Bool) (m : SMap α) : SMap α := m.filter fun e => p e.1

/-- A store of `n` entries from a function. -/
def mtab {α : Type} [DecidableEq α] (d : α) (n : Nat) (f : Nat → α) : SMap α :=
  ((List.range n).map fun i => (i, f i)).filter fun e => decide (e.2 ≠ d)

/-- Write a run of consecutive keys. -/
def mputs {α : Type} [DecidableEq α] (d : α) (m : SMap α) (k : Nat) : List α → SMap α
  | [] => m
  | v :: vs => mputs d (mset d m k v) (k + 1) vs

/-! ### Byte orders -/

/-- `n` bytes of a number, least significant first (R390, R408). -/
def leBytes : Nat → Nat → List Byte
  | 0, _ => []
  | n + 1, w => BitVec.ofNat 8 w :: leBytes n (w / 256)

/-- The number that bytes spell, least significant first. -/
def leNat : List Byte → Nat
  | [] => 0
  | b :: bs => b.toNat + 256 * leNat bs

/-- Field of `n` bytes at offset `o`, least significant first. -/
def leAt (bs : List Byte) (o n : Nat) : Nat := leNat ((bs.drop o).take n)

/-- `n` bytes of a number, most significant first. -/
def beBytes (n w : Nat) : List Byte := (leBytes n w).reverse

/-- The four bytes of each word, least significant first. -/
def wordsLE (ws : List Nat) : List Byte := ws.flatMap (leBytes 4)

/-- Zero padding to a multiple of 4 bytes (R411). -/
def padTo4 (bs : List Byte) : List Byte := bs ++ List.replicate ((4 - bs.length % 4) % 4) 0

/-! ### Check values -/

/-- One bit of a reflected CRC: the register shifts right, the polynomial in reversed bit order. -/
def crcRBit (poly c : Nat) : Nat := if c % 2 = 1 then Nat.xor (c / 2) poly else c / 2

/-- One byte of a reflected CRC. -/
def crcRByte (poly c : Nat) (b : Byte) : Nat :=
  (List.range 8).foldl (fun c _ => crcRBit poly c) (Nat.xor c b.toNat)

/-- One bit of an unreflected CRC of width `n`. -/
def crcLBit (n poly c : Nat) : Nat :=
  if c / 2 ^ (n - 1) % 2 = 1 then Nat.xor (2 * c % 2 ^ n) poly else 2 * c % 2 ^ n

/-- One byte of an unreflected CRC of width `n` (n ≥ 8). -/
def crcLByte (n poly c : Nat) (b : Byte) : Nat :=
  (List.range 8).foldl (fun c _ => crcLBit n poly c) (Nat.xor c (b.toNat * 2 ^ (n - 8)))

/-- CRC-32C (Castagnoli) of bytes (R34, R390, R411; Table 20.1 of the CRC units). -/
def crc32c (bs : List Byte) : Nat :=
  Nat.xor (bs.foldl (crcRByte 0x82F63B78) 0xFFFFFFFF) 0xFFFFFFFF

/-- CRC-16/CCITT-FALSE of bytes (Table 18.1). -/
def crc16 (bs : List Byte) : Nat := bs.foldl (crcLByte 16 0x1021) 0xFFFF

/-- CRC-8 of the host port: polynomial 0x2F, initial 0xFF, final XOR 0xFF, unreflected (R417). -/
def crc8 (bs : List Byte) : Nat := Nat.xor (bs.foldl (crcLByte 8 0x2F) 0xFF) 0xFF

/-! ### SHA-256 (R327) -/

/-- The k-th root of `x`, rounded down, where it has at most `n` bits. -/
def rootFloor (k n x : Nat) : Nat :=
  (List.range n).foldl (fun r j => let c := r + 2 ^ (n - 1 - j); if c ^ k ≤ x then c else r) 0

/-- The 64 primes below 312, from which the constants of SHA-256 come. -/
def shaPrimes : List Nat :=
  (List.range 312).filter fun n => decide (2 ≤ n) && (List.range n).all fun d => decide (d < 2) || n % d != 0

/-- The 64 round constants: 32 bits of the fraction of each prime's cube root. -/
def shaK : List Nat := shaPrimes.map fun p => rootFloor 3 36 (p * 2 ^ 96) % 2 ^ 32

/-- The hash before the first block: 32 bits of the fraction of the square roots of the first eight primes. -/
def shaStart : List Nat := (shaPrimes.take 8).map fun p => rootFloor 2 40 (p * 2 ^ 64) % 2 ^ 32

/-- Rotation right of 32 bits. -/
def rotr (x n : Nat) : Nat := x / 2 ^ n + x % 2 ^ n * 2 ^ (32 - n)

/-- XOR of three words. -/
def xor3 (a b c : Nat) : Nat := Nat.xor (Nat.xor a b) c

/-- The next word of the message schedule; the words so far, newest first. -/
def shaNextW (ws : List Nat) : Nat :=
  let w2 := ws.getD 1 0
  let w7 := ws.getD 6 0
  let w15 := ws.getD 14 0
  let w16 := ws.getD 15 0
  (xor3 (rotr w2 17) (rotr w2 19) (w2 / 2 ^ 10) + w7 + xor3 (rotr w15 7) (rotr w15 18) (w15 / 2 ^ 3) + w16) % 2 ^ 32

/-- The 64 words of the schedule from the 16 words of a block. -/
def shaSchedule (block : List Nat) : List Nat :=
  ((List.range 48).foldl (fun ws _ => shaNextW ws :: ws) block.reverse).reverse

/-- One round on the eight working words. -/
def shaRound (v : List Nat) (kw : Nat × Nat) : List Nat :=
  match v with
  | [a, b, c, d, e, f, g, h] =>
    let ch := Nat.xor (Nat.land e f) (Nat.land (2 ^ 32 - 1 - e) g)
    let t1 := h + xor3 (rotr e 6) (rotr e 11) (rotr e 25) + ch + kw.1 + kw.2
    let maj := xor3 (Nat.land a b) (Nat.land a c) (Nat.land b c)
    let t2 := xor3 (rotr a 2) (rotr a 13) (rotr a 22) + maj
    [(t1 + t2) % 2 ^ 32, a, b, c, (d + t1) % 2 ^ 32, e, f, g]
  | _ => v

/-- One block. -/
def shaBlock (h block : List Nat) : List Nat :=
  let v := (shaK.zip (shaSchedule block)).foldl shaRound h
  (h.zip v).map fun p => (p.1 + p.2) % 2 ^ 32

/-- Big-endian words of bytes; `n` bounds the number of words. -/
def beWords : Nat → List Byte → List Nat
  | 0, _ => []
  | n + 1, bs => leNat (bs.take 4).reverse :: beWords n (bs.drop 4)

/-- SHA-256 of bytes. -/
def sha256 (bs : List Byte) : List Byte :=
  let padded := bs ++ [(0x80 : Byte)] ++ List.replicate ((119 - bs.length % 64) % 64) 0 ++ beBytes 8 (8 * bs.length)
  let h := (List.range (padded.length / 64)).foldl
    (fun h i => shaBlock h (beWords 16 (padded.drop (64 * i)))) shaStart
  h.flatMap (beBytes 4)

/-- SHA-256 iterated `n` more times, each over the result before it. -/
def shaIter : Nat → List Byte → List Byte
  | 0, bs => bs
  | n + 1, bs => shaIter n (sha256 bs)

/-- The hash of a passphrase slot: SHA-256 iterated 1,000 times over the salt followed by the passphrase (R327). That each
iteration runs over the 32 bytes of the one before is DEDUCED (assumption 9). -/
def passHash (salt pass : List Byte) : List Byte := shaIter 999 (sha256 (salt ++ pass))

/-! ### Code groups (R270, R271, R388)

The 8b/10b code, the delimiters and the idle ordered sets are those of IEEE 802.3 clause 36; the spec gives them by reference only (PRESUMED, assumption 121). A code group is written abcdei fghj, first bit first. -/

/-- abcdei of the value 0 to 31 at negative running disparity. -/
def sixOf : List (BitVec 6) :=
  [0b100111, 0b011101, 0b101101, 0b110001, 0b110101, 0b101001, 0b011001, 0b111000, 0b111001, 0b100101, 0b010101] ++
  [0b110100, 0b001101, 0b101100, 0b011100, 0b010111, 0b011011, 0b100011, 0b010011, 0b110010, 0b001011, 0b101010] ++
  [0b011010, 0b111010, 0b110011, 0b100110, 0b010110, 0b110110, 0b001110, 0b101110, 0b011110, 0b101011]

/-- fghj of the value 0 to 7 at negative running disparity. -/
def fourOf : List (BitVec 4) := [0b1011, 0b1001, 0b0101, 0b1100, 0b1101, 0b1010, 0b0110, 0b1110]

def ones {w : Nat} (x : BitVec w) : Nat := ((List.range w).filter fun i => x.getLsbD i).length

/-- A block at running disparity `rd`: unequal blocks, and the two that the standard names, are complemented at positive disparity. -/
def block {w : Nat} (x : BitVec w) (alt rd : Bool) : BitVec w := if rd && (2 * ones x != w || alt) then ~~~x else x

/-- The running disparity after a block. -/
def rdAfter {w : Nat} (x : BitVec w) (rd : Bool) : Bool := if 2 * ones x = w then rd else !rd

/-- The alternate form of D.x.7. -/
def altSeven (x : Nat) (rd : Bool) : Bool := if rd then x == 11 || x == 13 || x == 14 else x == 17 || x == 18 || x == 20

/-- /Dx.y/ at running disparity `rd`, and the disparity after it. -/
def dGroup (b : Nat) (rd : Bool) : BitVec 10 × Bool :=
  let x := b % 32
  let y := b / 32 % 8
  let six0 := sixOf.getD x 0
  let six := block six0 (x == 7) rd
  let rd1 := rdAfter six rd
  let four0 := if y = 7 ∧ altSeven x rd1 = true then 0b0111 else fourOf.getD y 0
  let four := block four0 (y == 3) rd1
  (six ++ four, rdAfter four rd1)

/-- The special code groups: /K28.5/, /S/ = /K27.7/, which is SOF, /T/ = /K29.7/, which is EOF, /R/ = /K23.7/. -/
inductive Special where
  | comma | start | terminate | extend
  deriving DecidableEq, Repr

/-- A special code group: complemented at positive running disparity. -/
def kGroup (k : Special) (rd : Bool) : BitVec 10 × Bool :=
  let g : BitVec 10 := match k with
    | .comma => 0b0011111010 | .start => 0b1101101000 | .terminate => 0b1011101000 | .extend => 0b1110101000
  let g' := if rd then ~~~g else g
  (g', rdAfter g' rd)

/-- One code group of a packet. -/
inductive Group where
  | data (b : Nat)
  | special (k : Special)
  deriving DecidableEq, Repr

def groupOf (g : Group) (rd : Bool) : BitVec 10 × Bool := match g with | .data b => dGroup b rd | .special k => kGroup k rd

/-- A sequence of code groups, with the disparity after it. -/
def groupsOf (l : List Group) (rd : Bool) : List (BitVec 10) × Bool :=
  l.foldl (fun r g => let x := groupOf g r.2; (r.1 ++ [x.1], x.2)) ([], rd)

end Sys2Proof.Machine
end

