-- ==== Sys2Proof/Machine/State.lean ====
section
/-! DEFINITION. Machine/State.lean: the state of the block as plain data, the two reason types, and the state after reset.

Every field that is written `name : T := v` has the reset value `v`. A comment names the rule that gives the field, or
says `model` where the field is the model's own bookkeeping of something the spec implies (a timer, a run length). Times are
ns on the local clock. -/

namespace Sys2Proof.Machine

/-- No command of the block ends in a fault: the spec gives every access a result (R418), every wrong request an abort
or a code (Tables 18.7 and 19.3), and every error a latch or an event. The type is therefore empty. -/
inductive Fault where
  deriving DecidableEq, Repr

/-- Refusals. -/
inductive Refusal where
  /-- Raised by `Dispatch.exec` alone, for a command that has no meaning yet. Safe: the model stops where the device goes on. -/
  | notModelled (mnemonic : String)
  deriving DecidableEq, Repr

/-- Result status word bits [31] VALID, [30] FRESH, [27:24] SEQ (R13, R14). -/
structure Res where
  valid : Bool := false
  fresh : Bool := false
  seq : Nat := 0
  deriving DecidableEq, Repr

/-- Boundary-scan instruction in the test access port (R111). -/
inductive Jtag where
  | bypass
  | samplePreload
  | extest
  | clamp
  | highz
  deriving DecidableEq, Repr

/-- The data plane (Tables 3.6 and 4.4): unpowered, starting, ready with the mirror check running, scanning, or stopped and
powered only until the mailbox of the last scanned frame is posted (R85). -/
inductive Dp where
  | off
  | starting
  | ready
  | scanning
  | stopped
  deriving DecidableEq, Repr

/-- Start-up, reset, identity and time (chapters 0, 1, 3, 4). -/
structure Sys where
  variant : Variant := .c192          -- R3 IDENT[15:12]; DESIGN CHOICE c192, log 2
  powered : Bool := true              -- R97 power-up has begun; false = OFF
  now : Nat := 0                      -- model: local time, ns (R402)
  sysTime : BitVec 64 := 0            -- R97, R402 system time, ns
  slewLeft : Int := 0                 -- R401 correction still to be slewed in, ns
  slewEnd : Nat := 0                  -- R401 end of the slew, 1 s after its start
  bootAt : Nat := 0                   -- R97 start of the last power-up
  ctrlUp : Bool := false              -- R97 control plane out of reset
  mgmtUp : Bool := false              -- R97, R107 management plane out of reset
  hpUp : Bool := false                -- R425 the host port takes transfers
  pinReset : Bool := false            -- R106 RESET_N held low
  railLow : Bool := false             -- R106 an internal rail is below its threshold
  resetDue : List (Nat × Nat) := []   -- R110 SCOPE and instant of the scheduled resets, oldest first
  cause : Nat := 0                    -- R114 SY_CAUSE.CAUSE
  planes : BitVec 3 := 7              -- R114 SY_CAUSE.PLANES
  resets : Nat := 0                   -- R114 SY_CAUSE.COUNT
  safeMs : Nat := 0                   -- R114 SY_BOOT.SAFE_MS
  frameMs : Nat := 0                  -- R114 SY_BOOT.FRAME_MS
  frameDone : Bool := false           -- model: FRAME_MS has been taken since power-up
  stA : Option Bool := none           -- R99 outcome of SP's self-tests
  stB : Option Bool := none           -- R99 outcome of the embankment logic's self-tests
  oper : Bool := false                -- R98 safety operational
  cameFromStandby : Bool := false     -- R89 the running start is a wake, so PWR_BOOT is not requested
  jtag : Jtag := .bypass              -- R111
  bscan : SMap Bool := []             -- R111 boundary-scan register: cells of the digital pins of `pinLevel`
  spHalt : Bool := false              -- R113 SP halted by the debug port
  saveRecord : Bool := false          -- R72 MRAM holds a save-complete record of the last power-off
  everOff : Bool := false             -- R57 the device has been powered before (MRAM)
  unsaved : Nat := 0                  -- R57 UNSAVED
  saves : Nat := 0                    -- R77 SAVES
  stops : Nat := 0                    -- R113 protective stops counted at entry to boundary scan
  lastSec : Nat := 0                  -- R22 second of system time whose start was the last accounting boundary
  freeCtr : Nat := 0                  -- model: the next free value (assumption 1)
  deriving DecidableEq, Repr

/-- Supply, energy meter and grant (chapter 2, Table 1.8). -/
structure Sup where
  vinPath : Bool := true              -- R55 VIN_GATE on
  holdPath : Bool := false            -- R55 HOLD_GATE on
  uvlo : Bool := false                -- R54 undervoltage lockout engaged; released as power-up begins (R97)
  vstate : Nat := 0                   -- R70 0 NORMAL, 1 RIDE, 2 SAVE
  holdReady : Bool := false           -- R62
  holdLow : Bool := false             -- R61
  vin : Nat := 0                      -- R76 EM_VIN.VIN, mV
  iin : Nat := 0                      -- R76 EM_VIN.IIN, mA
  vhold : Nat := 0                    -- R76 EM_VHOLD.VHOLD, mV
  vossd : Nat := 0                    -- R76 EM_VEXT.VOSSD, mV
  vld : Nat := 0                      -- R76 EM_VEXT.VLD, mV
  vldBad : Bool := false              -- R59, R42 VLD out of range
  vossdOkSince : Option Nat := none   -- model: instant since which VOSSD is within 18.0 to 31.0 V (Table 14.4)
  avail : Nat := 0                    -- R60 E_avail, µJ
  free : Nat := 0                     -- R60 E_free, µJ
  cmeas : Nat := 0                    -- R61 CMEAS, µF, 0 until measured
  chgOn : Bool := false               -- R63 charger running
  chgI : Nat := 100                   -- R63 charge current set, mA
  chgFull : Bool := false             -- R63 the charger has stopped at 34 V and waits for 33 V
  chgAt : Nat := 0                    -- R61, R63 instant up to which the charge and the charger's energy are integrated
  runV : Option Nat := none           -- R61 VHOLD at the start of the charging run in progress, mV
  spanV : Option Nat := none          -- R61 VHOLD at the start of its measuring span, mV
  spanQ : Nat := 0                    -- R61 charge delivered in the span, pC
  eFrame : Nat := 0                   -- R64 E_VIN of the frame in progress, µJ
  eRem : Nat := 0                     -- R60 part of 1 µJ integrated and not yet counted, in mV·µV·ms × ppm
  eChg : Nat := 0                     -- R63 E_CHG × 0.94 of the frame in progress, fJ
  eVinLast : Nat := 0                 -- R76 EM_EFRAME.EVIN
  eTotal : Nat := 0                   -- R77 E_TOTAL, µJ
  eTotalMram : Nat := 0               -- R75 energy totals last written to MRAM
  eInt : Nat := 0                     -- R76 EIN of the running interval, saturating
  rides : Nat := 0                    -- R76 RIDE entries of the running interval
  throttle : Nat := 0                 -- R76 THROTTLE of the running interval
  intervals : Nat := 0                -- R75 accounting intervals since the last MRAM write of the totals
  t0 : Option Nat := none             -- R72 t0 of a SAVE sequence in progress
  grant : Nat := 0                    -- R42 EM_GRANT.GRANT, µJ
  whyPstate : Nat := 3                -- R42 EM_GRANT_WHY.PSTATE
  whyMissing : Bool := false          -- R42, R44 MISSING
  whyMains : Bool := false            -- R42 MAINS
  whyRate : Bool := false             -- R42 RATE
  spendAcc : Nat := 0                 -- R118 energy fired in the frame, units of 0.390625 pJ
  spent : Nat := 0                    -- R42 FP_SPEND.SPENT, µJ
  floorUj : Nat := 0                  -- R42, R237 FP_FLOOR.FLOOR, µJ
  deriving DecidableEq, Repr

/-- Mains watch (chapter 2). -/
structure Mw where
  mstate : Nat := 0                   -- R76 MSTATE 0 NONE, 1 NORMAL, 2 DIP, 3 INTERRUPTION, 4 SWELL
  rms : Nat := 0                      -- R76 0.01 % of MW_NOMINAL
  period : Nat := 0                   -- R76 PERIOD, µs
  minRms : Nat := 65535               -- R76 lowest of the running interval; DESIGN CHOICE 65535 before the first refresh, log 3
  swells : Nat := 0                   -- R76
  ints : Nat := 0                     -- R76
  dips : Nat := 0                     -- R76
  recoverAt : Option Nat := none      -- R69 start of the recovery
  crossAt : Nat := 0                  -- R67 last zero crossing; the start of the watch before the first
  crossPrev : Option Nat := none      -- R76 PERIOD: the crossing before it
  pos : Option Bool := none           -- R67 sign of the input after the last crossing
  forcedAt : Option Nat := none       -- R67 last forced refresh since the last crossing
  deriving DecidableEq, Repr

/-- Clocks, power state, wake (chapter 3). -/
structure Pw where
  st : Nat := 3                       -- R95 PW_STATE.STATE
  wakeCause : Nat := 0                -- R95 PW_STATE.CAUSE
  wcMask : BitVec 8 := 0              -- R95 PW_STATE.WCMASK
  req : Nat := 5                      -- R95 PW_REQ.REQ
  demand : Nat := 5                   -- R86 the automatic demand; DESIGN CHOICE 5 as PW_REQ, log 4
  idleFrom : Nat := 0                 -- R86 start of the idle timer
  pllBlock : Bool := false            -- R82, Table 3.5 row 3
  wakeHold : Bool := false            -- R87 a wake latched during STANDBY entry
  standbyAt : Option Nat := none      -- R87 boundary at which STANDBY entry began
  hfxReq : Option Nat := none         -- R81 HFX start requested
  hfxOk : Bool := false               -- R95 HFX_OK
  pllC : Bool := false                -- R95 PLLC_LOCK
  pllT : Bool := false                -- R95 PLLT_LOCK
  pllS : Bool := false                -- R95 PLLS_LOCK
  lfxFail : Bool := false             -- R95 LFX_FAIL
  mrcAOkSince : Option Nat := some 0  -- R82, Table 14.4 MRC-A within ±3 % since
  mrcBOkSince : Option Nat := some 0  -- R82, R359 MRC-B within ±3 % since
  mrcBFault : Bool := false           -- R359 from an MRC-B fault until it has stayed in range for 1 s
  mrcBSince : Nat := 0                -- R359 instant of the fault
  mrcBEnd : Nat := 0                  -- R359 end of the last such time
  mrcAFault : Bool := false           -- R95 MRC-A is out of range
  dp : Dp := .off                     -- R85, Table 3.6
  readyAt : Nat := 0                  -- R100 the data plane became ready
  frameNo : BitVec 32 := 0            -- R32 number of the frame in progress; DESIGN CHOICE 0 at power-up, log 5
  frameSys : BitVec 64 := 0           -- R274 system time at the start of the frame in progress
  lastB : Nat := 0                    -- R33 local instant of the last boundary
  scanned : Bool := false             -- R84 the frame in progress is scanned
  firstScan : Bool := true            -- R233 it is the first scanned frame after a data-plane start
  abandoned : Bool := false           -- R128 the frame in progress was abandoned
  mirrorRaised : Bool := false        -- R100 the MIRROR event of the 2.0 s limit was raised
  deriving DecidableEq, Repr

/-- One wake comparator (R91 to R93). -/
structure Wc where
  above : Bool := false               -- R95 WC_STAT.STATE
  run : Nat := 0                      -- R93 consecutive samples in the selected polarity
  latch : Bool := false               -- R95 WC_STAT.LATCH
  fresh : Bool := true                -- R92 no sample yet since power-up or enabling
  changed : Bool := false             -- R93 model: the state has changed to the selected polarity
  tickAt : Option Nat := none         -- R91 model: instant of the last sample
  deriving DecidableEq, Repr

/-- Mirror synchronisation (R126 to R128). -/
structure Mir where
  lastMix : Option Nat := none        -- R126 last MIX edge
  period : Nat := 0                   -- R140 EX_MIR_STAT.PERIOD, ns here
  good : Nat := 0                     -- R100 consecutive good periods
  locked : Bool := false              -- R140 LOCKED
  lastMenc : Option Nat := none       -- R127 last MENC edge
  mencInt : Nat := 0                  -- R127 interval between the last two edges, ns
  count : Nat := 0                    -- R128 MENC edges since the last MIX edge
  turn : Nat := 0                     -- R126 MIX edges since the one from which the frame in progress measures its angle
  lastCount : Nat := 0                -- R140 EX_MIR_CNT.COUNT
  fault : BitVec 4 := 0               -- R140 EX_MIR_CNT.FAULT: period, count, stall, reverse
  deriving DecidableEq, Repr

/-- A shot list entry (Table 10.4). -/
structure Shot where
  e : Nat
  slot : Nat
  member : Nat
  pass : Nat                          -- 1 coarse, 2 fine, 3 full
  deriving DecidableEq, Repr

/-- A burst admitted in the step in progress: emitter, slot, code, pass, first sub-pulse in TDC steps from the step start,
sub-pulses still to fire (the trip latch stops them), and whether its listening window has closed. -/
structure Burst where
  e : Nat
  slot : Nat
  code : Nat
  pass : Nat
  start : Nat
  fired : Nat := 0
  closed : Bool := false
  deriving DecidableEq, Repr

/-- Counters of one emitter in the frame (Table 5.3). -/
structure ExCnt where
  fired : Nat := 0                    -- R140 EX_FIREDn
  gvref : Nat := 0                    -- R140
  tripblk : Nat := 0                  -- R140
  late : Nat := 0                     -- R140
  ignored : Nat := 0                  -- R140
  deriving DecidableEq, Repr

/-- Emitter sequencer (chapter 5) with the shot lists of the expander (chapter 10). -/
structure Ex where
  step : Nat := 0                     -- R126 azimuth step in progress
  stepAt : Nat := 0                   -- R126 its start, ns
  stepTdc : Nat := 0                  -- R127 its start on the PLLT grid, 15.625 ps
  open_ : Bool := false               -- R168 a step of a scanned frame is in progress
  begun : Nat := 0                    -- R184 steps that have begun in the frame in progress
  prevLen : Nat := 0                  -- R168 length of the step before, 15.625 ps
  stepsRun : Nat := 0                 -- R158 steps since the data plane started
  list : List Shot := []              -- R123 list of the step in progress
  next : List Shot := []              -- R238 list built for the next step
  nextStep : Nat := 0                 -- R238 the step it is built for
  nextReady : Bool := false           -- R243 the build has completed
  taken : List Shot := []             -- R123 the list taken for the next step
  takenOk : Bool := false             -- R123 a list has been taken for the next step
  missed : Bool := false              -- R243 the sequencer found no complete list for the next step
  todo : List Shot := []              -- R124 listed bursts of the step in progress not tested yet
  nextPhase : Nat := 0                -- R219 PHASE, hop and j computed at the take for the next step
  nextHop : Nat := 0
  nextJ : Nat := 0
  bursts : List Burst := []           -- R124 bursts admitted in the step in progress
  listPrev : List Shot := []          -- R168 list of the step before
  burstsPrev : List Burst := []       -- R168 its bursts, whose events may still reach the binner
  phase : Nat := 0                    -- R140 EX_PHASE, 15.625 ps
  hop : Nat := 0                      -- R229 AC_HOP.HOP
  j : Nat := 0                        -- R229 AC_HOP.J
  cnt : SMap ExCnt := []              -- R139 per emitter, the frame in progress
  shotCol : SMap Nat := []            -- R125 bursts fired, key 8192 × emitter + step, the frame in progress
  qFired : SMap Nat := []             -- R228 bursts fired per quadrant, the frame in progress
  shotPrev : SMap Nat := []           -- R257 shotCol of the frame that closed last
  qFiredPrev : SMap Nat := []         -- R228 qFired of the frame that closed last
  deriving DecidableEq, Repr

/-- One locked governor block as MRAM holds it (R137). -/
structure GovBlock where
  limb : SMap Nat
  lim5 : SMap Nat
  lim100 : SMap Nat
  deriving DecidableEq, Repr

/-- Charge windows of one emitter, in charge units: the sub-window in progress and the complete ones, newest first (R135). -/
structure Win where
  cur : Nat := 0
  past : List Nat := []
  deriving DecidableEq, Repr

/-- Eye-safety governor and comparators (chapter 5). -/
structure Gov where
  limb : SMap Nat := []               -- R137 LIMB, charge units
  lim5 : SMap Nat := []               -- R137 LIM5, nC
  lim100 : SMap Nat := []             -- R137 LIM100, nC
  locked : Bool := false              -- R140 GV_LOCK.LOCKED
  crcBad : Bool := false              -- R138 GV_LOCK.CRC_BAD
  w5 : SMap Win := []                 -- R135 5 ms windows
  w100 : SMap Win := []               -- R135 100 ms windows
  storeOv : BitVec 4 := 0             -- R140 GV_LOCK.STOREOV
  copyA : Option GovBlock := none     -- R138 MRAM copy A (none = no marker)
  copyB : Option GovBlock := none     -- R138 MRAM copy B
  trip : BitVec 16 := 0               -- R141 FC_STAT.TRIP
  level : BitVec 16 := 0              -- R141 FC_STAT.LEVEL
  fcs : SMap Nat := []                -- R129 FCSn, µV
  fcCnt : SMap Nat := []              -- R141 FC_CNTn
  vst : SMap Nat := []                -- R141 CC_VSTq, mV
  deriving DecidableEq, Repr

/-- An event on its way to the binner (Table 6.2), with the corrected time. -/
structure Ev where
  buf : Nat                           -- model: buffer of the step in which its burst was fired (R168)
  ch : Nat
  slot : Nat
  t : Int
  cls : EvClass
  tot : Nat
  sat : Bool
  long : Bool
  loss : Bool
  deriving DecidableEq, Repr

/-- An event held by the code gate for its burst (R172), and whether it took part in an increment or has been judged (R174). -/
structure Held where
  ev : Ev
  used : Bool
  deriving DecidableEq, Repr

/-- A walk-table entry: walk and TOT with four fraction bits (R159). -/
structure Walk where
  walk16 : Int
  tot16 : Nat
  deriving DecidableEq, Repr

/-- Counters of one receive channel in a frame (Table 6.4). -/
structure RxCnt where
  inj : Nat := 0                      -- R164 INJ
  events : Nat := 0                   -- R164 EVENTS
  drops : Nat := 0                    -- R157
  early : Nat := 0                    -- R155
  busy : Nat := 0                     -- R160
  deriving DecidableEq, Repr

/-- One receive channel (chapter 6). -/
structure RxCh where
  base : Nat := 40                    -- R151 base note, mV; DESIGN CHOICE 40 before the first data-plane start, log 6
  baseNext : Nat := 40                -- R152 base note from the next step
  gap : Nat := 0                      -- R151 C, the quiet-gap count
  steps : Nat := 0                    -- R151 steps that have ended since the last update
  amb : Nat := 0                      -- R164 AMB, events/s
  noisyRun : Nat := 0                 -- R153
  calmRun : Nat := 0                  -- R153
  noisy : Bool := false               -- R153
  silentRun : Nat := 0                -- R153
  silent : Bool := false              -- R153
  deadUntil : Int := 0                -- R149 end of the TDC dead time, TDC steps of the step in progress
  zofs16 : Int := 0                   -- R159 ZOFS with four fraction bits
  zofsGot : Bool := false             -- R159 a level-15 result has been taken since the data-plane start
  walk : SMap Walk := []              -- R159 valid walk entries
  zofsL : Int := 0                    -- R155 latched ZOFS
  walkL : SMap Walk := []             -- R155 latched walk entries
  zofsP : Int := 0                    -- R155 ZOFS latched before: events of the frame that closed last are still corrected with it
  walkP : SMap Walk := []             -- R155 walk entries latched before
  spread : List Int := []             -- R159 the last 16 level-15 results
  inj : Nat := 0                      -- R158 injections since the data-plane start
  miss : Nat := 0                     -- R161 consecutive listens without event
  notTop : Nat := 0                   -- R161 consecutive level-15 results not TOP
  dead : Bool := false                -- R161 latch
  thr : Bool := false                 -- R161 latch
  drift : Bool := false               -- R161 latch
  clr : BitVec 3 := 0                 -- R162 HEALTH_CLR given for DEAD, THRFAULT, CALDRIFT: the next check decides
  uncal : Bool := false               -- R161
  health : Nat := 0                   -- R162 health code in effect
  cnt : RxCnt := {}                   -- R164 counters of the frame in progress
  last : RxCnt := {}                  -- R163 counters of the frame that closed last, until they are posted
  shown : List Nat := []              -- R163 the other words of its result, as at the boundary, until they are posted
  deriving DecidableEq, Repr

/-- One quadrant's bias control (R144, R145). -/
structure Rq where
  bias : Nat := 0                     -- R144 BIASq, mV
  notOk : Nat := 0                    -- R164 NOTOK as at the last boundary
  hv : Nat := 0                       -- R164 measured bias, 10 mV
  temp : Int := 0                     -- R164 receiver die temperature, °C; DESIGN CHOICE 0 before the first reading, log 7
  badSince : Option Nat := none       -- R145
  okSince : Option Nat := none        -- Table 6.3
  hvFault : Bool := false             -- R145
  injN : Nat := 0                     -- R159 injections since the data-plane start
  deriving DecidableEq, Repr

/-- Context of one channel-point in one buffer (R181, Table 7.4). -/
structure Ctx where
  mode : Nat := 0                     -- 0 NONE, 1 ZOOM, 2 FULL
  nc : Nat := 0
  nf : Nat := 0
  mean : Nat := 0
  mixed : Bool := false
  nowin : Bool := false
  evloss : Bool := false              -- R157
  lossSlot : BitVec 8 := 0            -- R156 slots in which an event was dropped
  foreign : Nat := 0
  incr : Nat := 0
  wins : List (Nat × Nat) := []       -- placed windows in order: S_w in TDC steps and CBIN
  notOk : Bool := false               -- R162 health not OK in the step
  health : Nat := 0
  deriving DecidableEq, Repr

/-- Counters of one quadrant's histograms in the frame (Table 7.6). -/
structure HgCnt where
  incr : Nat := 0
  foreign : Nat := 0
  outspan : Nat := 0
  lateev : Nat := 0
  mixed : Nat := 0
  nowin : Nat := 0
  ovt : Nat := 0
  unwin : Nat := 0
  deriving DecidableEq, Repr

/-- Snapshot unit of one quadrant (R183, R184). -/
structure Snap where
  state : Nat := 0                    -- R186 0 idle, 1 armed, 2 copying
  last : Nat := 0                     -- Table 7.3
  at1 : Bool := false
  ch : Nat := 0
  step : Nat := 0
  frame : Nat := 0                    -- R186 HG_SNAP_FRMq
  armFrame : BitVec 32 := 0           -- R184 frame latched at the command
  bins : SMap Nat := []               -- R183 the snapshot area: 4,096 bins
  hdr : SMap Nat := []                -- R185 header words 0 to 15, status bits [31:24] apart
  deriving DecidableEq, Repr

/-- Histogram store (chapter 7). -/
structure Hg where
  buf : Nat := 0                      -- R186 HG_LIVEq.BUF: buffer accumulating now
  bins : SMap Nat := []               -- R166 bins, key 0xC0000 × buffer + 0x1000 × channel + bin
  ctx : SMap Ctx := []                -- R181 contexts, key 192 × buffer + channel
  queue : SMap (List Ev) := []        -- R156 the 16 strip queues
  held : SMap (List Held) := []       -- R172 held events, key 8 × (192 × buffer + channel) + slot
  incs : SMap (List Int) := []        -- R172 increments made, same key
  cnt : SMap HgCnt := []              -- R186 per quadrant, the frame in progress
  last : SMap HgCnt := []             -- R186 the frame that closed last, until it is posted
  curFrame : BitVec 32 := 0           -- R168 frame of the step that accumulates now
  oldFrame : BitVec 32 := 0           -- R168 frame of the step before
  snap : SMap Snap := []              -- R184 per quadrant
  relBuf : Nat := 0                   -- R168 buffer of the last step that ended
  relDue : BitVec 4 := 0              -- R168 quadrants whose release is still to come
  relAt : Nat := 0                    -- R168 its instant, 150 ns after the step ended
  relStep : Nat := 0                  -- R168 step held by the released buffer
  relFrame : BitVec 32 := 0           -- R194 its frame
  relStime : Nat := 0                 -- R275 its start less the start of its frame, ns
  deriving DecidableEq, Repr

/-- Echo record under construction or staged (Table 8.5). -/
structure Echo where
  range : Nat := 0
  intensity : Nat := 0
  quality : Nat := 0
  index : Nat := 0
  ovt : Bool := false
  sil : Bool := false
  pass : Nat := 0
  edge : Bool := false
  evloss : Bool := false
  np : Bool := false
  usr : BitVec 6 := 0
  deriving DecidableEq, Repr

/-- One lane of a note engine (Table 8.1). -/
structure Lane where
  r : SMap Word := []                 -- L0 to L15
  wbase : Nat := 0
  wlen : Nat := 0
  bg : Nat := 0
  e : Echo := {}
  slots : List Echo := []
  j0 : Nat := 0                       -- R203 bin recorded by ERNG
  deriving DecidableEq, Repr

/-- One note engine (chapter 8). -/
structure Ne where
  run : Bool := false                 -- R190 a step is being processed
  group : Nat := 0                    -- R188
  pc : Nat := 0                       -- Table 8.1
  g : SMap Word := []                 -- G0 to G7
  mask : BitVec 8 := 0
  stack : List (BitVec 8) := []
  lanes : SMap Lane := []
  cyc : Nat := 0                      -- R190 cycles of the step
  buf : Nat := 0                      -- R190 the released buffer
  step : Nat := 0
  stime : Nat := 0                    -- R275 start of the step in the frame, ns
  frame : BitVec 32 := 0
  lastStep : Bool := false            -- R194 it is the last step of its frame
  latched : Bool := false             -- R261 the statistics of the closed frame are latched
  cycMax : Nat := 0                   -- Table 8.9
  overruns : Nat := 0
  notproc : Nat := 0
  echoes : Nat := 0
  capdrop : Nat := 0
  dups : Nat := 0
  sillage : Nat := 0
  ovtecho : Nat := 0
  progfault : Nat := 0
  winerr : Nat := 0
  cause : Nat := 0
  faultPc : Nat := 0
  errRange : Bool := false            -- R213 ERR_RANGE of NE_CFGq
  deriving DecidableEq, Repr

/-- An accord assignment (Table 9.4). -/
structure Assign where
  codes : List Nat
  phi : Nat
  hop : Bool
  coord : Nat
  apply : Nat
  gen : Nat
  deriving DecidableEq, Repr

/-- Accords and coordinator (chapter 9). -/
structure Ac where
  assign : Option Assign := none      -- R220 the assignment committed
  staged : Option Assign := none      -- R222 its staged successor
  stagedAt : Nat := 0                 -- R493 local instant at which it was staged
  isDefault : Bool := false           -- R221 model: the default accord is in effect and its event was raised
  lastAssign : Nat := 0               -- R224 instant of the last accepted ASSIGN
  stale : Bool := false               -- R229 STALE
  conflict : Bool := false            -- R229 CONFLICT
  stopped : Bool := false             -- R226 stopped coordinating
  applied : Nat := 0                  -- R229 AC_CNT.APPLIED
  interfere : Nat := 0                -- R229 AC_CNT.INTERFERE
  colours : SMap (Option Nat) := []   -- R225 colour by address; none = DEFAULTED
  changed : List Nat := []            -- R225 devices whose GEN is to be read back
  asked : List (Nat × Nat) := []      -- R225 device and TID of each READ of GEN sent since the last writes
  gen : Nat := 0                      -- R225 generation last given out
  coordApply : Nat := 0               -- R225 APPLY of the last writes
  lastRefresh : Nat := 0              -- R225
  deriving DecidableEq, Repr

/-- What the build of a step counted, until the step begins: bursts wanted and listed of classes 1 to 6, energies in units of
0.390625 pJ, and the flags of the step (R238 to R243). -/
structure Built where
  want : List Nat := []
  listed : List Nat := []
  energy : Nat := 0
  floorE : Nat := 0
  ceil : Nat := 0
  memberFix : Bool := false
  step0 : Bool := false
  late : Bool := false
  deriving DecidableEq, Repr

/-- Frame planner (chapter 10). -/
structure Fp where
  plan : SMap Nat := []               -- R249 plan table in effect, 1,024 entries
  work : SMap Nat := []               -- R232 working table
  nextPlan : Option (SMap Nat) := none -- R233 table for the next frame, when END was reached
  run : Bool := false                 -- R232 the plan program runs
  pc : Nat := 0
  cyc : Nat := 0
  p : SMap Word := []                 -- R232 P0 to P15
  inp : SMap Word := []               -- Table 10.7 inputs at program start
  planLate : Bool := false            -- R249 FP_STAT bits of the frame
  progFault : Bool := false
  cause : Nat := 0
  faultPc : Nat := 0
  cycUsed : Nat := 0
  memberFix : Bool := false
  step0 : Bool := false
  shortfall : Bool := false
  prevShort : Bool := false           -- Table 10.7 SHORT: frame n − 1
  vigilReq : Bool := false            -- R246
  shortRun : Nat := 0                 -- R246
  fullRun : Nat := 0                  -- R246
  listed : Nat := 0                   -- R249 counters of the frame
  shed : SMap Nat := []               -- R249 SHED1 to SHED6, key = class
  ceil : Nat := 0
  listLate : Nat := 0
  keep : SMap Nat := []               -- R240 KEEP of classes 1 to 6
  acc : SMap Nat := []                -- R240 accumulators
  fillClass : Nat := 0                -- R249 FP_FILL
  fillKeep : Nat := 0
  sUnits : Nat := 0                   -- R240 S, energy listed in the frame, 0.390625 pJ
  sFloor : Nat := 0                   -- R242 floor energy listed in the frame
  grantU : Nat := 0                   -- R240 the grant the frame began with, in the same units
  lowU : Option Nat := none           -- R242 the grant as lowered within the frame
  pend : Option Built := none         -- R243 the step built and not begun yet
  unreach : Nat := 0                  -- R249 FP_DERIV.UNREACH
  qual : SMap Nat := []               -- R248 quality table latched
  qualAcc : SMap (Nat × Nat × Nat) := [] -- R248 INDEX 0 echoes, sum of QUALITY, NP points of the frame
  errRange : Bool := false            -- R249 ERR_RANGE
  deriving DecidableEq, Repr

/-- Context of one zone (Table 11.8). -/
structure Zn where
  hits : Nat := 0
  minr : Nat := 524287
  ovt : Bool := false
  np : Bool := false
  short : Bool := false
  npcells : Nat := 0
  shortcells : Nat := 0
  silsk : Nat := 0
  ovthits : Nat := 0
  h : List Bool := []                 -- R259 newest first, at most 15
  occ : Bool := false
  word : Word := 0                    -- R268 state word as posted
  refillPost : Bool := false          -- R260 refill due after the debounce of the frame that closed
  deriving DecidableEq, Repr

/-- A mailbox on its way to a channel (Table 1.5): the frame, the boundary that closed it, zone words, CRC-32C. -/
structure Mbox where
  frame : BitVec 32
  boundary : Nat
  words : SMap Word
  crc : BitVec 32
  deriving DecidableEq, Repr

/-- The zone map: cells (key 1,800 × channel + column) and interval pool (R251, R252). -/
structure ZMap where
  cells : SMap Nat := []
  pool : SMap Nat := []
  deriving DecidableEq, Repr

/-- An echo waiting for the evaluator (R258): channel, step, record. -/
structure QEcho where
  frame : BitVec 32
  ch : Nat
  step : Nat
  e : Echo
  deriving DecidableEq, Repr

/-- A point word (Table 8.6) waiting for the evaluator. -/
structure QPoint where
  frame : BitVec 32
  ch : Nat
  step : Nat
  np : Bool
  deriving DecidableEq, Repr

/-- Counters of the zone evaluator in a frame (Table 11.9). -/
structure ZeCnt where
  echoes : Nat := 0
  pass0 : Nat := 0
  inacthit : Nat := 0
  qpeak : Nat := 0
  qfull : Nat := 0
  deriving DecidableEq, Repr

/-- Zone evaluator (chapter 11). -/
structure Ze where
  zn : SMap Zn := []                  -- R268 zone contexts
  refillAll : Bool := false           -- R260 every zone is refilled before the next frame debounced
  q : List QEcho := []                -- R258 echo queue
  qp : List QPoint := []              -- R257 point words
  expanding : Bool := false           -- R267 a new map is being expanded
  latchDue : Bool := false            -- R261 a scanned frame has closed and is not latched yet
  frame : BitVec 32 := 0              -- R268 ZE_FRAME
  latchFrame : BitVec 32 := 0         -- R261 frame last latched
  latchAt : Nat := 0                  -- R268 boundary of that frame
  latchOk : Bool := false             -- R261 a frame is latched and not yet posted
  cnt : ZeCnt := {}                   -- R268 counters of the frame
  lat : SMap Zn := []                 -- R261 zone contexts of the latched frame, state words included
  latCnt : ZeCnt := {}                -- R261 counters of the latched frame
  unmapped : Nat := 0                 -- R268 ZE_UNMAP
  mboxA : Option Mbox := none         -- R34 channel A's copy
  mboxB : Option Mbox := none         -- R34 channel B's copy
  deriving DecidableEq, Repr

/-- One point stream lane (chapter 12). -/
structure Lps where
  up : Bool := false                  -- R283 UP
  ending : Bool := false              -- R272 the lane stops after the packet that it is sending
  rd : Bool := false                  -- R270 running disparity is positive; PRESUMED negative at a lane's start, log 121
  wire : List (BitVec 10) := []       -- R271 code groups of the last packet sent, the idle after it included
  sent : Bool := false                -- R274 a header has been sent since the lane started
  aband : Bool := false               -- R274 the frame of the last header was abandoned
  fill : Nat := 0                     -- R283 FILL, bytes
  queue : List (Nat × List Byte) := [] -- R279 queued packets: bytes of backlog with framing, and content
  prev : Nat := 0                     -- R274 PREV
  dropn : Nat := 0                    -- R279 of the frame
  drop0 : Nat := 0
  pkts : Nat := 0
  peak : Nat := 0
  lastDropn : Nat := 0                -- R274 of the previous frame, for the header
  lastDrop0 : Nat := 0
  lastPkts : Nat := 0
  deriving DecidableEq, Repr

/-- Point stream (chapter 12). -/
structure Ps where
  l0 : Lps := {}
  l1 : Lps := {}
  asm : SMap (List Byte) := []        -- R277 step packet being assembled, per quadrant
  pts : SMap Nat := []                -- R277 channel-points offered to it
  ready : SMap (List Byte) := []      -- R275 complete packets that wait for a lower quadrant of the step
  hdrDue : Bool := false              -- R274 the frame header waits for the last packets of the frame before
  sync : Bool := false                -- R274 ZL_TIME.SYNC as it stood at the last boundary that opened a scanned frame
  echo : Nat := 0                     -- R283 ECHO
  deriving DecidableEq, Repr

/-- One safe input pair in one channel (Tables 13.2 to 13.5). -/
structure Pair where
  fA : Bool := false                  -- R290 filtered terminal A reads ACTIVE
  fB : Bool := false                  -- R290 filtered terminal B reads ACTIVE
  runA : Nat := 0                     -- R290 agreeing samples of the new reading
  runB : Nat := 0
  active : Bool := false              -- R291 pair state
  partialS : Bool := false            -- R293 PARTIAL
  seenSafe : Bool := true             -- R291 both terminals SAFE together since last ACTIVE
  disc : Bool := false                -- R294 discrepancy fault latched
  discSafe : Bool := false            -- R295 both terminals have read SAFE together since
  timer : Option Nat := none          -- R294 discrepancy timer
  deriving DecidableEq, Repr

/-- One drive monitor in one channel (R316 to R320). -/
structure Dm where
  st : Nat := 0                       -- R318 0 UNKNOWN, 1 IDLE, 2 RAMP, 3 STO
  ab1 : Option (BitVec 2) := none     -- R317 last quadrature reading
  ab2 : Option (BitVec 2) := none
  c1 : Int := 0                       -- R299 edge counts
  c2 : Int := 0
  h1 : List Int := []                 -- R316 counts of the last computations, newest first
  h2 : List Int := []
  v : Nat := 0                        -- R316 monitored speed, mU/s
  v0 : Nat := 0                       -- R319
  ts : Nat := 0                       -- R319
  stillSince : Option Nat := none     -- R319 v ≤ V_STILL since
  okSince : Option Nat := none        -- R318 legal signals without DRIVE condition since
  diffRun : Nat := 0                  -- R317
  oppRun : Nat := 0                   -- R317
  illegal : Bool := false             -- R317 an illegal transition since the last computation
  latched : Bool := false             -- R317 this monitor latched DRIVE
  dstop : Bool := false               -- R319 this channel asserts DSTOPd
  deriving DecidableEq, Repr

/-- A cross word (R287). -/
structure Cross where
  terms : BitVec 16
  pairs : BitVec 8
  disc : BitVec 8
  latches : BitVec 16
  frame : BitVec 32
  crc : BitVec 32
  got : Bool
  sw : BitVec 4
  deriving DecidableEq, Repr

/-- One safety channel (chapters 13 and 14). -/
structure Saf where
  pairs : SMap Pair := []             -- R288 eight pairs
  latch : BitVec 16 := 0              -- R305 fault latches, Table 13.10
  mbFrame : BitVec 32 := 0            -- R304 SF_MBOX: frame of the last mailbox accepted
  mbCrc : BitVec 32 := 0              -- R287
  mbGot : Bool := false               -- R37 a mailbox has been accepted since safety operational
  mbWords : SMap Word := []           -- R41 zone words of it (channel A: the mirror)
  zunk : Bool := true                 -- R304 zones unknown to the channel
  zdisc : List Nat := []              -- R51 zones whose entry was discarded in the last mailbox
  lastBnd : Option Nat := none        -- R37 last boundary observed while operational
  lastBndFrame : BitVec 32 := 0       -- R38 frame that it closed
  dlDone : Bool := false              -- R38 its deadline has been judged
  crcFail : Nat := 0                  -- R304 counters of the interval
  staleN : Nat := 0
  lateN : Nat := 0
  unknownN : Nat := 0
  gapN : Nat := 0
  epd : Nat := 0
  sw : BitVec 4 := 0                  -- R325 switch closed
  opened : SMap Nat := []             -- R312 instant of the last opening, per pair
  closed : SMap Nat := []             -- R312 instant of the last closing, per pair
  rwait : BitVec 4 := 15              -- R311 RESTART_WAIT
  demand : BitVec 4 := 0              -- R309 immediate demands at the last evaluation
  ss1 : BitVec 4 := 0                 -- R309 SS1 demands at the last evaluation
  rbOnSince : SMap Nat := []          -- R312 output reads on since
  rbOffSince : SMap Nat := []         -- R312 output reads off since
  offOpenSince : SMap Nat := []       -- Table 14.4 read off with own switch open since
  rstHigh : Option Nat := none        -- R321 rising edge of the reset pulse in progress
  rstLowSince : Option Nat := none    -- Table 14.4 reset pair LOW since
  rstLowBefore : Nat := 0             -- Table 14.4 LOW time before the rising edge, ns
  rstLowSeen : Bool := false          -- Table 4.3 the reset input has been low
  operAt : Nat := 0                   -- Table 4.3 instant of safety operational
  dm0 : Dm := {}                      -- R316
  dm1 : Dm := {}                      -- R316
  xIn : Option Cross := none          -- R287 last cross word received
  xAt : Nat := 0                      -- R287 instant of the last valid cross word
  xDiff : SMap Nat := []              -- R287 consecutive words with a different pair state, per pair
  xFrameDiff : Nat := 0               -- R287 consecutive boundaries with different frame numbers
  secStates : SMap Nat := []          -- R378 section states of the last section word
  secGot : Bool := false              -- R378
  secAt : Nat := 0                    -- R378
  secUnk : Bool := true               -- R378 every section is treated as not CLEAR
  deriving DecidableEq, Repr

/-- Test pulses of one pair (R313 to R315). -/
structure Tp where
  due : Option Nat := none            -- R313 next pulse due
  num : Nat := 1                      -- R313 number of the next pulse
  by_ : Option Chan := none           -- R313 pulse running, by this channel's switch
  start : Nat := 0                    -- R313 its start
  dropped : Bool := false             -- R315 a demand arrived during the pulse
  deriving DecidableEq, Repr

/-- Counters of the safety mirror as latched at the last accounting interval (R304, R325). -/
structure SafLat where
  mbA : Nat := 0                      -- R304 SF_MBCNTA as latched
  mbB : Nat := 0                      -- R304 SF_MBCNTB as latched
  gap : Nat := 0                      -- R304 SF_GAP as latched
  epd : Nat := 0                      -- R304 SF_EPOCH as latched
  tcnt : Nat := 0                     -- R325 SF_TCNT as latched
  ignored : Nat := 0                  -- R325 SF_RST.IGNORED as latched
  deriving DecidableEq, Repr

/-- What the two channels share at the terminals (chapter 14). -/
structure Out where
  on : BitVec 4 := 0                  -- R325 SQp reads back on
  tp : SMap Tp := []                  -- R313
  lastEnd : Nat := 0                  -- R313 end of the last pulse
  tests : Nat := 0                    -- R325 counters of the interval
  discarded : Nat := 0
  ignored : Nat := 0
  last : Nat := 0                     -- R325 SF_RST.LAST
  lat : SafLat := {}                  -- R304, R325
  xA : Option Cross := none           -- R287 cross word on its way to channel A
  xB : Option Cross := none           -- R287 cross word on its way to channel B
  secWord : Option (SMap Nat × Nat) := none -- R378 section word on its way: states and sequence number
  secSeq : Nat := 0                   -- R378
  deriving DecidableEq, Repr

/-- A change-log entry (Table 15.4). -/
structure LogE where
  kind : Nat
  user : Nat
  nobj : Nat
  time : BitVec 64
  frame : BitVec 32
  count : Nat
  oldCrc : BitVec 32
  newCrc : BitVec 32
  objs : List Nat
  flags : Nat
  deriving DecidableEq, Repr

/-- One configuration copy in MRAM (R102): commit count, objects, map, safety state (R492), epochs (R49), assignment (R224). -/
structure Copy where
  count : Nat := 0
  objs : SMap (List Byte) := []
  map : ZMap := {}
  safety : Bool := false
  epochs : SMap Nat := []
  assign : Option Assign := none
  deriving DecidableEq, Repr

/-- A commit that is pending (R46, Table 15.2). -/
structure Pend where
  mode : Nat
  frame : BitVec 32
  time : BitVec 64
  safety : Bool
  verified : Bool
  crc : Nat                           -- COMMIT_CRC as it matched at COMMIT_GO
  writeAt : Option Nat                -- R493 start of the copy writes
  written : Bool
  user : Nat
  set : SMap (List Byte)              -- the staged entries and the staged map as they stood at COMMIT_GO
  map : Option ZMap
  deriving DecidableEq, Repr

/-- Configuration, staged set, commit (chapters 1, 4, 15). -/
structure Cf where
  eff : SMap (List Byte) := []        -- R45 objects in effect that differ from their default, key 256 × index + subindex
  effPrev : SMap (List Byte) := []    -- R194, R256 objects in effect for the frame before the one in progress
  mapPrev : ZMap := {}                -- R256 zone map in effect for that frame
  epochsPrev : SMap Nat := []         -- R35 role epochs when that frame began
  staged : SMap (List Byte) := []     -- R45 the staged set
  live : SMap (List Byte) := []       -- R414, R442, R451 writable objects that act at once
  map : ZMap := {}                    -- R266 the zone map in effect
  mapStage : Option ZMap := none      -- R265 the map stage buffer
  epochs : SMap Nat := []             -- R49 role epochs that differ from 1, key 4096 × kind + number
  safety : Bool := false              -- R492 a safety set is loaded
  defaults : Bool := true             -- R103 safe defaults in use; before the load
  repaired : Bool := false            -- R114 REPAIRED
  aBad : Bool := false                -- R114 A_BAD
  bBad : Bool := false                -- R114 B_BAD
  used : Bool := false                -- R114 USED
  loaded : Bool := false              -- R102 the configuration has been loaded
  count : Nat := 0                    -- R115 CFG_COUNT
  copyA : Copy := {}                  -- R102 MRAM copy A; factory: empty (R103)
  copyB : Copy := {}                  -- R102 MRAM copy B
  pend : Option Pend := none          -- R46
  status : Nat := 0                   -- Table 1.9 COMMIT_STATUS[7:0]
  verify : Nat := 0                   -- R333 VERIFY_CAUSE
  unacked : List (Path × DictReq) := [] -- R74 writes received and not yet staged
  deriving DecidableEq, Repr

/-- Sessions and change log (chapter 15). -/
structure Sess where
  user : Nat := 0                     -- R339 USER, 0 = no session
  path : Path := .host                -- R328
  lastAct : Nat := 0                  -- R330
  slots : SMap (List Byte × List Byte) := [] -- R327 salt and hash of the filled slots
  fails : Nat := 0                    -- R339 FAILS
  lockLeft : Nat := 0                 -- R339 LOCKLEFT, ns here
  lockAt : Nat := 0                   -- R329 instant at which lockLeft was taken
  lockMram : Nat := 0                 -- R329 remaining time in MRAM, ns
  log : List LogE := []               -- R335 entries, oldest first
  clears : Nat := 0                   -- R340 CLEARS
  deriving DecidableEq, Repr

/-- One track front end channel (chapter 16). -/
structure Tf where
  gain : Nat := 0                     -- R361 GAIN
  gainOld : Nat := 0                  -- R346 gain before the last commit of GAIN_FIX
  gainFrom : Nat := 0                 -- R346 conversions that begin from then on have the new gain
  sample : BitVec 24 := 0             -- R361 last delivered sample
  hiRun : Nat := 0                    -- R348
  loRun : Nat := 0                    -- R348
  excited : Bool := false             -- R359 excitation running
  dry : List Nat := []                -- R351 starts of the drydowns that a sample still to come can overlap
  lastAt : Nat := 0                   -- R365 instant of the last delivery
  blankIv : List (Nat × Nat) := []    -- R353, R354 blanked intervals that a sample still to come can overlap
  pinFrom : Option Nat := none        -- R353 blanked by TFBLANK since
  openRx : Bool := false              -- R355
  openEx : Bool := false              -- R355
  open_ : Bool := false               -- R356 OPEN state
  openClear : Nat := 0                -- R357 no open condition since
  openUntil : Nat := 0                -- R357 end of the last OPEN state
  basel : Int := 0                    -- R358 baseline, µV × 2^16
  baseGot : Bool := false             -- R358 model: a first OK sample has set the baseline
  onRun : Nat := 0                    -- R358
  frozen : Bool := false              -- R358 fired and not re-armed yet
  fired : Bool := false               -- R361 FIRED
  quietSince : Option Nat := none     -- R358
  rangech : Nat := 0                  -- R361 counters of the interval
  clips : Nat := 0
  blanks : Nat := 0
  opens : Nat := 0
  settles : Nat := 0
  deriving DecidableEq, Repr

/-- Track front end (chapter 16). -/
structure Tfu where
  ch : SMap Tf := []
  pin : Bool := false                 -- R353 level of TFBLANK
  pinRel : Option Nat := none         -- R353 last release of TFBLANK
  capState : Nat := 0                 -- R361 TF_CAPST.STATE
  capCh : Nat := 0
  capTrig : Bool := false             -- R360
  cap : List (BitVec 24) := []        -- R360 samples of the running capture, newest first
  capArea : List (BitVec 24) := []    -- R360 the capture area
  deriving DecidableEq, Repr

/-- Phases of Table 17.1. -/
inductive Ph where
  | idle | a1 | mp | b2 | b1 | mm | a2 | wait | tp | tm
  deriving DecidableEq, Repr

/-- One counting head (R363 to R368). -/
structure Head where
  onA : Bool := false
  onB : Bool := false
  runA : Nat := 0
  runB : Nat := 0
  ph : Ph := .idle
  faulty : Bool := false
  blindFrom : Option Nat := none      -- R366
  overBridge : Bool := false          -- R373 BRIDGE exceeded since the last disturbance
  offSince : Option Nat := none       -- R368 both channels OK and off since
  passAB : Nat := 0
  passBA : Nat := 0
  deriving DecidableEq, Repr

/-- One optical gate pair (R364, R369). -/
structure Gate where
  onA : Bool := false
  onB : Bool := false
  blind : Bool := false
  ph : Ph := .idle
  gapN : Nat := 0                     -- R364 evaluations spent in T+ or T−
  blindN : Nat := 0
  deriving DecidableEq, Repr

/-- One section (R374 to R377): 0 DISTURBED, 1 PREPARATORY, 2 OCCUPIED, 3 CLEAR. -/
structure Sec where
  st : Nat := 0
  count : Int := 0
  cause : Nat := 1
  zrun : Nat := 0                     -- R375 consecutive accepted mailboxes with every zone EMPTY
  zlast : BitVec 32 := 0              -- R375 frame of the last of them
  zprep : Nat := 0                    -- R377 the same, since the section became PREPARATORY
  rose : Bool := false                -- R377 the count has risen above 0 in PREPARATORY
  deriving DecidableEq, Repr

/-- A passage waiting for the write of copy A (R372): counting point, direction BA, unit, epoch, time. -/
structure Pass where
  cp : Nat
  ba : Bool
  vehicle : Bool
  time : BitVec 64
  epoch : Nat
  deriving DecidableEq, Repr

/-- One copy of the section counts in MRAM (R379). -/
structure CntCopy where
  num : Nat := 0
  counts : SMap Int := []
  deriving DecidableEq, Repr

/-- One track link (R380 to R385). -/
structure Tl where
  up : Bool := false
  psync : Bool := false
  peer : Nat := 0
  rxseq : Option Nat := none          -- R383 none = the next valid frame sets the expected SEQ
  rxShow : Nat := 0                   -- R386 RXSEQ
  statusRun : Nat := 0                -- R384
  health : BitVec 32 := 0
  states : BitVec 64 := 0
  lastRx : Nat := 0
  txseq : Nat := 0
  lastStatus : Nat := 0
  evq : List Pass := []               -- R381 passages to send
  crcfail : Nat := 0
  gap : Nat := 0
  stale : Nat := 0
  wrongpeer : Nat := 0
  downs : Nat := 0
  txframes : Nat := 0
  out : List (List Byte) := []        -- R380 frames sent, oldest first
  wire : List Bool := []              -- R380 bits of the last frame on the line; true = mark
  deriving DecidableEq, Repr

/-- Axle evaluator (chapter 17). -/
structure Ax where
  heads : SMap Head := []
  gates : SMap Gate := []
  secs : SMap Sec := []
  queue : List Pass := []             -- R372 passages detected, not yet in a write
  writing : List Pass := []           -- R379 passages of the write in progress
  wcounts : SMap Int := []            -- R379 the counts at the start of the write in progress
  wstate : Nat := 0                   -- R379 0 idle, 1 copy A in progress, 2 copy B in progress
  cntA : CntCopy := {}                -- R379
  cntB : CntCopy := {}                -- R379
  tl0 : Tl := {}
  tl1 : Tl := {}
  disturbs : Nat := 0
  passages : Nat := 0
  epdisc : Nat := 0
  rstref : Nat := 0
  dirty : Bool := false               -- R379 a change of a count waits for the next write
  srHigh : SMap Nat := []             -- R376 rising edge of SECTRESET pairs
  srLow : SMap Nat := []              -- R376 LOW since
  srJam : SMap Bool := []             -- R376 jammed
  deriving DecidableEq, Repr

/-- A frame in a port's queue: for a forwarded frame the SOF arrival in ns and the ingress link delay in ps (R395, R400). -/
structure ZlQ where
  f : ZlFrame
  from_ : Option (Nat × Nat)
  deriving DecidableEq, Repr

/-- One Zeley port (R388 to R395). -/
structure Zp where
  st : Nat := 0                       -- R413 0 DOWN, 1 SYNCING, 2 UP
  delayPs : Nat := 0                  -- R400 link delay, ps
  q : List ZlQ := []                  -- R395 queue, in arrival order
  hdr : Bool := false                 -- R395 the frame being received has been handled at its header
  busyTo : Nat := 0                   -- R395 instant at which the frame being sent ends
  frames : Nat := 0                   -- R413 counters of the interval
  crcerr : Nat := 0
  codeerr : Nat := 0
  pdT1 : Option Nat := none           -- R400 t1 of a PDELAY request in flight
  pdAt : Option Nat := none           -- R400 last PDELAY request
  commaAt : Nat := 0                  -- R389 first comma, or the latest restart of the comma timer
  rd : Bool := false                  -- R388 running disparity is positive; PRESUMED negative, log 121
  wire : List (BitVec 10) := []       -- R388 code groups of the last frame sent
  deriving DecidableEq, Repr

/-- An entry of DEVICES (R398): instant of the last HELLO, hop distance, conflict seen, and the port it came in on. -/
structure Dev where
  at_ : Nat
  hops : Nat
  conflict : Bool
  port : Nat
  nonce : Nat
  deriving DecidableEq, Repr

/-- Zeley link (chapter 18). -/
structure Zl where
  p0 : Zp := {}
  p1 : Zp := {}
  conflict : Bool := false            -- R413 ZL_ID.CONFLICT
  inConflict : Bool := false          -- R398 treats itself as unassigned for unicast
  lastConflict : Nat := 0
  nonce : BitVec 32 := 0              -- R398; drawn at power-up
  seq : Nat := 0                      -- R390 SEQ of the next frame originated; DESIGN CHOICE 0, log 8
  timeHi : Word := 0                  -- R413 ZL_TIMEHI as latched
  sync : Bool := false
  master : Bool := false
  mhops : Nat := 0
  maddr : Nat := 0
  ofs : Int := 0
  goodRun : Nat := 0                  -- R401 consecutive TIME frames within 200 ns
  stepDue : Bool := true              -- R401 the next TIME frame is the first since SYNC has become 0
  lastTime : Nat := 0                 -- R401 last TIME frame
  lastLower : Nat := 0                -- R399 last TIME frame from a lower address
  qdrop : Nat := 0
  dups : Nat := 0
  longfwd : Nat := 0
  timesteps : Nat := 0
  downs : Nat := 0
  aborts : Nat := 0
  seen : List (Nat × Bool × Nat × Nat) := [] -- R394 SRC, UNASG, SEQ and instant of accepted frames
  devs : SMap Dev := []               -- R398 DEVICES by address
  out : List (Nat × ZlFrame) := []    -- R393 frames sent, oldest first: port and frame
  lastHello : Option Nat := none      -- R398 last HELLO
  timeAt : Option Nat := none         -- R400 last TIME frame sent as master
  deriving DecidableEq, Repr

/-- An open dictionary transfer (R406): path, TID, object, expected length, bytes so far or the copy read. -/
structure Xfer where
  path : Path
  tid : Nat
  write : Bool
  key : Nat
  epoch : Nat
  total : Nat
  data : List Byte
  last : Nat
  deriving DecidableEq, Repr

/-- A dictionary response (Table 18.5). -/
structure DictRsp where
  op : Nat := 0
  index : Nat := 0
  sub : Nat := 0
  tid : Nat := 0
  abort : Nat := 0
  val : Nat := 0
  data : List Byte := []
  deriving DecidableEq, Repr

/-- Dictionary server (R405 to R410). -/
structure Dc where
  xfers : List Xfer := []             -- R406
  rsps : List (Path × DictRsp) := []  -- R405 responses, oldest first
  prev : List (Path × Nat × Nat × DictReq × DictRsp) := [] -- R409 previous request of a source: OP, instant, request, response
  deriving DecidableEq, Repr

/-- Host port (chapter 19). -/
structure Hp where
  crcOnly : Bool := false             -- R440
  woke : Bool := true                 -- R424
  tcount : Nat := 0                   -- R424
  last : Nat := 0                     -- R424
  status : Word := 0xC1010000         -- R440 as it stood at the start of this transfer
  miso : List Word := []              -- R416 words shifted out in the last transfer
  check : List Byte := []             -- R416 check bytes shifted out in it: HCRC of the status word, DCRC of each word read
  crcErr : Nat := 0                   -- R440
  errors : Nat := 0                   -- R440
  busy : Bool := false                -- R428 MBXBUSY
  req : SMap Byte := []               -- R440 HP_MBX_REQ
  rsp : SMap Byte := []               -- R440 HP_MBX_RSP
  rlen : Nat := 0                     -- R440 RLEN
  deriving DecidableEq, Repr

/-- One shared source of the event distributor (R433). -/
structure EdSrc where
  en : Bool := false
  inserv : Option Nat := none         -- claimed by this target
  sig : Option Nat := none            -- R435 signalled to this target
  ptr : Nat := 9
  level : Nat := 0
  tmask : BitVec 10 := 0
  again : Bool := false               -- R438 still asserted at its last completion; the next claim may return 0x3FF
  deriving DecidableEq, Repr

/-- One target (R429 to R434). -/
structure EdTgt where
  en : Bool := false
  sleep : Bool := false
  pol : Bool := false
  od : Bool := true
  thr : Nat := 0
  stack : List (Nat × Nat) := []      -- R431 level and source, top first
  claimed : List (Nat × Nat) := []    -- R432 level and source
  withdrawn : Bool := false           -- R437 a claim returns 0x3FF
  wakereq : Bool := false
  lpend : BitVec 32 := 0
  len : BitVec 32 := 0
  llvl : SMap Nat := []
  lcnt : Nat := 0
  lasti : Nat := 0
  deriving DecidableEq, Repr

/-- Event distributor (chapter 19). -/
structure Ed where
  src : SMap EdSrc := []
  tgt : SMap EdTgt := []
  waket : Nat := 5
  routeErr : Bool := false
  eoiErr : Nat := 0
  swi : BitVec 3 := 0
  secchg : BitVec 32 := 0
  evt : BitVec 56 := 0                -- R441 ED_EVT0 and ED_EVT1; bit 39 is unused, source 359 is LM_EVT
  lastClaim : Nat := 0x3FE            -- R436 model: what the last claim returned
  deriving DecidableEq, Repr

/-- One CRC unit (chapter 20). -/
structure Crc where
  poly : Nat := 2
  start : Nat := 0
  len : Nat := 0
  busy : Bool := false
  sPoly : Nat := 0                    -- latched at GO
  sAddr : Nat := 0                    -- next byte to read
  sLeft : Nat := 0                    -- bytes left
  sinceSwap : Nat := 78               -- R446, KL-01 words read since the last one that a buffer swap may have met
  run : BitVec 64 := 0
  runHiHold : Word := 0               -- R448 held write
  runHiLatch : Word := 0              -- R448 latched read
  goIgnored : Nat := 0                -- R447 GOs ignored, each posts after the running scan
  outcome : Nat := 0
  shownPoly : Nat := 0
  result : BitVec 64 := 0
  deriving DecidableEq, Repr

/-- Indicator matrix (chapter 21). -/
structure Lm where
  configured : Bool := false          -- R456 a matrix setting has been committed
  run : Bool := false                 -- R461 RUN
  page : Nat := 0
  armed : Option (Nat × Nat × Bool) := none -- R460 page, SHOW_TIME, late
  showTime : BitVec 64 := 0
  trimR : Nat := 256
  trimG : Nat := 256
  trimB : Nat := 256
  senR : Nat := 0
  senG : Nat := 0
  senB : Nat := 0
  evt : BitVec 4 := 0
  open_ : SMap Bool := []             -- R458 576 dies
  openRun : SMap Bool := []           -- R458 last sample was open
  pix : SMap Word := []               -- R461 key 192 × page + pixel
  slot : Nat := 0                     -- R453
  cycle : Nat := 0                    -- R453 cycle number: system time ÷ 832,000 ns
  row : Option Nat := none            -- R454 row switch on
  pre : Bool := false                 -- R454 pre-charge running
  sinks : BitVec 48 := 0              -- R454 sinks conducting
  onT : List Nat := []                -- R454, R460 on-times of the row slot's 48 dies, fixed at its start
  lit : Option (Nat × Nat × Nat) := none -- R457 last lit sample
  sumR : Int := 0
  sumG : Int := 0
  sumB : Int := 0
  nRead : Nat := 0
  satur : BitVec 3 := 0               -- R457 colours with a lit sample of 4,095 in the period
  swapTime : BitVec 64 := 0
  swapLate : Bool := false
  deriving DecidableEq, Repr

/-- The whole block. -/
structure State where
  sys : Sys := {}
  sup : Sup := {}
  mw : Mw := {}
  pw : Pw := {}
  wc : SMap Wc := []                  -- R91 eight comparators
  mir : Mir := {}
  ex : Ex := {}
  gov : Gov := {}
  rx : SMap RxCh := []                -- R143 192 channels
  rq : SMap Rq := []                  -- R144 four quadrants
  hg : Hg := {}
  ne : SMap Ne := []                  -- R188 four engines
  ac : Ac := {}
  fp : Fp := {}
  ze : Ze := {}
  ps : Ps := {}
  safA : Saf := {}
  safB : Saf := {}
  out : Out := {}
  cf : Cf := {}
  sess : Sess := {}
  tf : Tfu := {}
  ax : Ax := {}
  zl : Zl := {}
  dc : Dc := {}
  hp : Hp := {}
  ed : Ed := {}
  crc0 : Crc := {}
  crc1 : Crc := {}
  lm : Lm := {}
  res : SMap Res := []                -- R13 result status words, key = host address of the word
  regs : SMap Nat := []               -- R16 data words of posted results, key = host address
  pending : List Instr := []
  deriving DecidableEq, Repr

/-- The block right after power-up has begun for the first time: the undervoltage lockout has released, the planes are in
reset and MRAM holds the factory state (R97, R103). -/
def State.reset : State := {}

end Sys2Proof.Machine
end

