-- ==== Sys2Proof/Machine/Operands.lean ====
section
/-! DEFINITION. Machine/Operands.lean: the operand forms of the commands: the object dictionary (types, access rights, ranges,
defaults, presence), the configuration values, and the register fields that show them or stage them. -/

namespace Sys2Proof.Machine

/-! ### The object table (Tables 1.9, 2.11, 3.9, 4.6, 5.5, 6.5, 7.7, 8.10, 9.7, 10.11, 11.10, 12.6, 13.11, 14.7, 15.7, 16.7, 17.9,
18.11, 19.12, 20.3, 21.3 and IDENT, VENDOR) -/

/-- Access rights (R11). -/
inductive Acc where
  | ro | rw | wo | rws | wos
  deriving DecidableEq, Repr

/-- Object types (R408). -/
inductive Ty where
  | bool | u8 | u16 | u32 | u64 | i16 | i32 | q16 | dom
  deriving DecidableEq, Repr

/-- When a write acts: never (ro), by commit (R45), or at once (R410). -/
inductive Eff where
  | none | commit | now
  deriving DecidableEq, Repr

/-- A row of an object table: first index, number of indices and stride, first subindex, number and stride, type, access,
effect, range (of the length, for a DOMAIN), step and default. -/
structure Obj where
  i0 : Nat
  ni : Nat
  ist : Nat
  s0 : Nat
  ns : Nat
  sst : Nat
  ty : Ty
  acc : Acc
  eff : Eff
  lo : Int
  hi : Int
  step : Int
  dflt : Int
  deriving DecidableEq, Repr

/-- A read-only scalar. -/
def oRo (i s : Nat) (ty : Ty) (n : Nat := 1) (ni : Nat := 1) (ist : Nat := 1) : Obj :=
  ⟨i, ni, ist, s, n, 1, ty, .ro, .none, 0, 0, 1, 0⟩

/-- A read-only DOMAIN. -/
def oRoD (i s : Nat) (n : Nat := 1) (ni : Nat := 1) : Obj := ⟨i, ni, 1, s, n, 1, .dom, .ro, .none, 0, 4096, 1, 0⟩

/-- A staged object that takes effect by commit. -/
def oCm (i s : Nat) (ty : Ty) (lo hi dflt : Int) (step : Int := 1) (n : Nat := 1) (ni : Nat := 1) (ist : Nat := 1) : Obj :=
  ⟨i, ni, ist, s, n, 1, ty, .rw, .commit, lo, hi, step, dflt⟩

/-- A staged rw-s object. -/
def oCs (i s : Nat) (ty : Ty) (lo hi dflt : Int) (step : Int := 1) (n : Nat := 1) (ni : Nat := 1) : Obj :=
  ⟨i, ni, 1, s, n, 1, ty, .rws, .commit, lo, hi, step, dflt⟩

/-- An object that acts at once. -/
def oNow (i s : Nat) (ty : Ty) (acc : Acc) (lo hi dflt : Int) (n : Nat := 1) (ni : Nat := 1) (ist : Nat := 1) : Obj :=
  ⟨i, ni, ist, s, n, 1, ty, acc, .now, lo, hi, 1, dflt⟩

def maxU32 : Int := 0xFFFFFFFF
def maxU64 : Int := 0xFFFFFFFFFFFFFFFF

/-- Identity, reset, load, power states, commit, energy, clocks, link, host port, events, CRC units (R5, R6, R115, R45, R96, R77,
R414, R442, R451). -/
def objs1 : List Obj :=
  [oRo 0x1000 1 .u32, oRo 0x1001 1 .u32, oRo 0x1002 1 .u32, oNow 0x1003 1 .u32 .wo 0 maxU32 0,
   oRo 0x1004 1 .u8, oRo 0x1004 2 .u32, oRo 0x1005 1 .u8, oRo 0x1006 1 .u16 2,
   oRo 0x1100 1 .u8, oNow 0x1100 2 .u8 .rw 2 5 5, oCm 0x1100 3 .bool 0 1 0, oCm 0x1100 4 .u8 3 4 3,
   oCm 0x1100 5 .u8 4 5 5, oCm 0x1100 6 .u16 1 65535 60, oCm 0x1100 7 .u8 0 250 0, oCm 0x1100 8 .u8 3 5 5,
   oRo 0x1100 9 .u16, oNow 0x1100 0x10 .u32 .rw 0 maxU32 0, oNow 0x1100 0x11 .u8 .rw 1 2 1,
   oNow 0x1100 0x12 .u32 .rw 0 maxU32 0, oNow 0x1100 0x13 .u64 .rw 0 maxU64 0, oNow 0x1100 0x14 .bool .wo 1 1 0,
   oRo 0x1100 0x15 .u32] ++
  [oRo 0x1200 1 .u8, oRo 0x1200 2 .u32 2, oCs 0x1200 4 .u32 2000 100000 6000, oCs 0x1200 5 .u16 100 4700 470,
   oCm 0x1200 6 .u32 0 16777215 72000, oCm 0x1200 7 .u32 0 200000 8000, oCm 0x1200 8 .u16 4500 34000 16000 100,
   oCm 0x1200 9 .u8 0 2 0, oCm 0x1200 0xA .u16 20 400 100 20, oCm 0x1200 0xB .u32 1000 100000 10000,
   oCm 0x1200 0xC .u16 12000 48000 12000, oCm 0x1200 0xD .u16 12000 48000 48000, oCm 0x1200 0x10 .u16 0 690 0,
   oCm 0x1200 0x11 .q16 655360 65536000 26214400, oCm 0x1200 0x12 .u8 50 60 50 10, oCm 0x1200 0x13 .u8 0 100 20,
   oCm 0x1200 0x14 .u16 0 1000 100, oRo 0x1200 0x15 .u8, oRo 0x1200 0x16 .u16, oRo 0x1200 0x20 .u64,
   oRo 0x1200 0x21 .u32 2, oCm 0x1200 0x40 .i16 (-20000) 20000 0, oRoD 0x1200 0x41] ++
  [oRo 0x1300 1 .u8, oCm 0x1300 2 .bool 0 1 1,
   oCm 0x1400 1 .u16 0 0xFFFF 0xFFFF, oRo 0x1400 2 .bool, oCm 0x1400 3 .u8 0 1 0, oRo 0x1400 4 .u64,
   oNow 0x1400 5 .u64 .wo 0 maxU64 0, oRo 0x1400 6 .bool, oRo 0x1400 7 .u16, oNow 0x1400 8 .u16 .rw 0 65535 0,
   oRo 0x1400 9 .u32, oRo 0x1400 0xA .bool, oRo 0x1400 0xB .i32, oRoD 0x1400 0x40 2,
   oNow 0x1500 1 .bool .rw 0 1 0, oRo 0x1500 2 .u32, oRo 0x1500 3 .u8,
   oRo 0x1600 1 .u64, oNow 0x1600 2 .u64 .wo 0 maxU64 0, oNow 0x1600 3 .u8 .rw 5 9 5, oNow 0x1600 4 .u32 .rw 0 maxU32 0,
   oNow 0x1600 0x40 .dom .rw 1536 1536 0, oNow 0x1600 0x41 .dom .rw 40 40 0] ++
  [⟨0x1700, 1, 1, 1, 2, 16, .u8, .rw, .now, 0, 3, 1, 2⟩, ⟨0x1700, 1, 1, 2, 2, 16, .u32, .rw, .now, 0, 0xFFFFFC, 1, 0⟩,
   ⟨0x1700, 1, 1, 3, 2, 16, .u32, .rw, .now, 0, 16777215, 1, 0⟩, ⟨0x1700, 1, 1, 4, 2, 16, .u8, .wo, .now, 1, 2, 1, 0⟩,
   ⟨0x1700, 1, 1, 5, 2, 16, .u64, .rw, .now, 0, maxU64, 1, 0⟩, oRoD 0x1700 0x40 2]

/-- Comparators, emitters, governor, receive channels, histograms, note engines (R96, R142, R165, R187, R214). -/
def objs2 : List Obj :=
  [oCm 0x1800 1 .u32 0 maxU32 0x83FF 1 16, oNow 0x1800 0x11 .u16 .rw 0 65535 0, oCm 0x1800 0x20 .u32 0 maxU32 0x048013C0 1 4,
   oRo 0x1800 0x24 .u16 4, oCm 0x1800 0x30 .u32 0 maxU32 0x5400 1 8, oNow 0x1800 0x38 .u8 .rw 0 255 0,
   oCm 0x2000 1 .bool 0 1 0 1 1 16, oCm 0x2000 2 .u16 1000 10000 2500 125 1 16, oCm 0x2000 3 .u16 1000 40000 10000 125 1 16,
   oCm 0x2000 4 .u8 0 3 0 1 1 16, oCm 0x2000 5 .u8 1 15 15 1 1 16, oRo 0x2000 6 .u16 1 16, oRo 0x2000 7 .u32 2 16,
   oRoD 0x2000 0x40 1 16, oCm 0x2000 0x20 .u8 10 50 25, oCm 0x2000 0x21 .u16 360 65535 7200, oCm 0x2000 0x22 .u16 0 65535 0,
   oCm 0x2000 0x23 .bool 0 1 0, oRo 0x2000 0x24 .u16, oRo 0x2000 0x25 .u32] ++
  [oRo 0x2100 1 .u8, oNow 0x2100 2 .u32 .rws 0 maxU32 0, oNow 0x2100 0x10 .u32 .rws 0 179200 0 16,
   oNow 0x2100 0x20 .u32 .rws 0 maxU32 0 16, oNow 0x2100 0x30 .u32 .rws 0 maxU32 0 16, oRoD 0x2100 0x40] ++
  [oCm 0x2200 1 .bool 0 1 1 1 1 192, oCm 0x2200 2 .u8 0 3 2 1 1 192, oCm 0x2200 3 .u16 8 500 40 4 1 192,
   oCm 0x2200 4 .u16 16 900 120 4 1 192, oCm 0x2200 5 .u16 24 992 800 4 1 192, oCm 0x2200 6 .i16 (-32768) 32767 0 1 1 192,
   oCm 0x2200 7 .u16 0 65535 0 1 1 192, oRo 0x2200 8 .u8 1 192, oRo 0x2200 9 .u16 1 192, oRo 0x2200 0xA .u32 1 192,
   oRo 0x2200 0xB .u16 1 192, oNow 0x2200 0xC .bool .wo 1 1 0 1 192, oRoD 0x2200 0x40 1 192,
   oCm 0x2200 0x20 .u8 1 255 8 1 1 4 48, oCm 0x2200 0x21 .u8 1 255 16 1 1 4 48, oCm 0x2200 0x22 .u16 0 4095 45 1 1 4 48,
   oCm 0x2200 0x23 .u8 0 255 0 1 1 4 48, oCm 0x2200 0x24 .u8 0 255 0 1 1 4 48, oCm 0x2200 0x25 .bool 0 1 1 1 1 4 48,
   oCm 0x2200 0x26 .u16 0 2500 0 1 1 4 48, oCm 0x2200 0x27 .i16 (-500) 500 0 1 1 4 48,
   oNow 0x2200 0x28 .bool .wo 1 1 0 1 4 48, oRo 0x2200 0x29 .u16 1 4 48] ++
  [oCm 0x2400 1 .u16 0 65535 1, oCm 0x2400 2 .u16 0 65535 16, oCm 0x2400 3 .u16 0 65535 256, oCm 0x2400 4 .u16 0 65535 16384,
   oCm 0x2400 5 .u8 1 7 7, oCm 0x2400 6 .u8 0 63 24, oCm 0x2400 7 .u16 0 65535 8, oCm 0x2400 8 .u8 1 8 8,
   oCm 0x2400 0x10 .u8 0 88 0 1 16, oRoD 0x2400 0x20 4, oNow 0x2400 0x40 .u32 .wo 0 maxU32 0 4,
   oNow 0x2400 0x44 .u32 .rw 0 maxU32 0 4, oRo 0x2400 0x48 .u8 4, oRoD 0x2400 0x4C 4, oRoD 0x2400 0x50 4, oRoD 0x2400 0x54 4] ++
  [oCm 0x2500 1 .u8 0 1 0, oCm 0x2500 2 .u8 0 1 0, oCm 0x2500 3 .u16 1000 17440 17440, oCm 0x2500 4 .u32 0 524287 20000,
   oCm 0x2500 5 .u16 0 65535 6000, oCm 0x2500 6 .u16 0 4095 400, oCm 0x2500 7 .u16 0 1023 60,
   oCm 0x2500 8 .i32 (-2147483648) 2147483647 0 1 8, oCm 0x2500 0x10 .u16 0 1024 0, oCm 0x2500 0x11 .dom 0 4096 0,
   oRoD 0x2500 0x20 4, oCm 0x2500 0x40 .dom 0 4096 0 1 4, oCm 0x2500 0x44 .u16 0 1024 0 1 4]

/-- Accords, planner, point stream, zones, map (R230, R250, R284, R269). ASSIGN acts outside the host's staged set (R222). -/
def objs3 : List Obj :=
  [oCm 0x2600 1 .u8 0 1 0, oRo 0x2600 2 .u32, oRo 0x2600 3 .u8, oRo 0x2600 4 .u8, oCm 0x2600 5 .u8 0 63 0 1 4,
   oCm 0x2600 9 .u8 0 15 0, oCm 0x2600 0xA .u16 0 65535 65535, oCm 0x2600 0xB .u16 0 65535 0, oCm 0x2600 0xC .bool 0 1 0,
   oCm 0x2600 0xD .u16 5 3600 30, oRo 0x2600 0xE .bool, oRo 0x2600 0xF .u16, oRo 0x2600 0x10 .u32,
   oNow 0x2600 0x40 .dom .rw 24 24 0, oCm 0x2600 0x41 .u8 0 87 8, oCm 0x2600 0x42 .u16 50 10000 200,
   oNow 0x2600 0x43 .bool .wo 1 1 0, oRo 0x2600 0x44 .u32, oCm 0x2600 0x48 .dom 0 4096 0 1 8, oRo 0x2600 0x50 .u16] ++
  [oCm 0x2700 1 .u8 0 1 0, oCm 0x2700 2 .u16 0 2048 0, oCm 0x2700 3 .u16 0 65535 0x8400, oCm 0x2700 4 .u8 0 2 1,
   oCm 0x2700 5 .u8 1 255 3, oRo 0x2700 6 .bool, oRo 0x2700 7 .u32 2, oCm 0x2700 0x10 .u32 0 maxU32 0 1 8,
   oRoD 0x2700 0x20, oCm 0x2700 0x40 .dom 0 4096 0 1 2, oRoD 0x2700 0x42 3, oRo 0x2700 0x45 .u16] ++
  [oCm 0x2800 1 .u8 1 8 3, oCm 0x2800 2 .u8 0 3 3, oCm 0x2800 3 .u8 0 15 12, oCm 0x2800 4 .bool 0 1 1,
   oCm 0x2800 5 .u16 1024 28672 16384, oRo 0x2800 6 .u32, oRoD 0x2800 0x40] ++
  [oCs 0x3000 1 .bool 0 1 0 1 1 1024, oCs 0x3000 2 .u8 0 3 0 1 1 1024, oCs 0x3000 3 .u8 1 15 1 1 1 1024,
   oCs 0x3000 4 .u8 1 15 1 1 1 1024, oCs 0x3000 5 .u8 1 255 1 1 1 1024, oCs 0x3000 6 .bool 0 1 0 1 1 1024,
   oRo 0x3000 7 .u16 1 1024, oRo 0x3000 8 .u32 2 1024, oRoD 0x3000 0x40 1 1024] ++
  [oRo 0x3400 1 .u32 3, oNow 0x3400 0x10 .u32 .rw 0 2764792 0, oNow 0x3400 0x11 .dom .rws 0 4096 0,
   oNow 0x3400 0x12 .u32 .rw 0 2097144 0, oNow 0x3400 0x13 .dom .rws 0 4096 0, oNow 0x3400 0x14 .dom .wos 16 16 0,
   oNow 0x3400 0x15 .bool .wos 1 1 0, oNow 0x3400 0x16 .bool .wo 1 1 0, oCs 0x3400 0x20 .u32 0 maxU32 0 1 16,
   oRoD 0x3400 0x40]

/-- Safety, sessions, log, safe stop, track front end, axle counting, matrix (R306, R326, R340, R362, R387, R462). -/
def objs4 : List Obj :=
  [oRo 0x4000 1 .u8, oRo 0x4000 2 .u16 3, oRo 0x4000 5 .u32 3, oCs 0x4000 0x10 .u8 0 4 0 1 8, oCs 0x4000 0x18 .u8 0 1 0 1 8,
   oCs 0x4000 0x20 .u16 4 2000 100 1 8, oCs 0x4000 0x28 .u8 1 12 6 1 8, oRoD 0x4000 0x40,
   oNow 0x4000 0x30 .dom .wo 0 34 0, oNow 0x4000 0x31 .bool .wos 1 1 0, oRo 0x4000 0x32 .u32,
   oCs 0x4000 0x33 .u16 30 3600 300, oNow 0x4000 0x34 .dom .wo 2 34 0, oNow 0x4000 0x35 .dom .wos 11 35 0, oRo 0x4000 0x36 .u16] ++
  [oRo 0x4400 1 .u32, oRo 0x4400 2 .u32 2, oCs 0x4400 0x10 .u8 0 2 0 1 4, oCs 0x4400 0x14 .u8 0 1 0 1 4,
   oCs 0x4400 0x18 .u8 0 255 0 1 4, oCs 0x4400 0x1C .u16 5 500 100 1 4, oCs 0x4400 0x20 .u16 80 400 200 10 4,
   oCs 0x4400 0x28 .dom 1024 1024 0, oCs 0x4400 0x30 .bool 0 1 0 1 2, oCs 0x4400 0x32 .u32 1 16777215 4096 1 2,
   oCs 0x4400 0x34 .u32 1 16777215 4096 1 2, oCs 0x4400 0x36 .u32 1 16777215 100 1 2, oCs 0x4400 0x38 .u16 5 1000 50 1 2,
   oCs 0x4400 0x3A .u32 1 16777215 1000 1 2, oCs 0x4400 0x3C .u16 0 5000 200 1 2, oCs 0x4400 0x3E .u16 10 60000 5000 1 2,
   oCs 0x4400 0x40 .u32 0 16777215 500 1 2, oCs 0x4400 0x42 .u32 0 16777215 100 1 2, oRoD 0x4400 0x44] ++
  [oRo 0x4800 1 .u16, oRo 0x4800 2 .u32 2, oNow 0x4800 4 .u32 .rw 0 65408 0, oRoD 0x4800 5, oNow 0x4800 6 .dom .wos 17 41 0,
   oRo 0x4800 7 .u32] ++
  [oCs 0x5000 1 .bool 0 1 0 1 1 16, oCs 0x5000 2 .u8 0 3 0 1 1 16, oCs 0x5000 3 .u16 1000 20000 10000 100 1 16,
   oCs 0x5000 4 .u16 0 359 0 1 1 16, oCs 0x5000 5 .bool 0 1 1 1 1 16, oCs 0x5000 6 .u8 0 3 0 1 1 16,
   oCs 0x5000 7 .bool 0 1 0 1 1 16, oCs 0x5000 8 .u16 0 10000 0 100 1 16, oCs 0x5000 9 .u16 0 10000 0 100 1 16,
   oRo 0x5000 0xA .u32 1 16, oCm 0x5000 0xB .bool 0 1 0 1 1 16, oCm 0x5000 0xC .u16 1 65535 500 1 1 16,
   oCm 0x5000 0xD .bool 0 1 0 1 1 16, oRoD 0x5000 0x40 1 16, oCs 0x5000 0x20 .bool 0 1 0,
   oNow 0x5000 0x21 .u32 .wo 0 maxU32 0, oNow 0x5000 0x22 .u32 .wo 0 maxU32 0, oRo 0x5000 0x23 .u32, oRoD 0x5000 0x24 2,
   oNow 0x5000 0x26 .u16 .rw 0 65535 0] ++
  [oCs 0x5100 1 .u32 0 maxU32 0 1 8, oCs 0x5100 0x10 .u32 1 400000 2000 1 8, oCs 0x5100 0x18 .u32 1 400000 3000 1 8,
   oCs 0x5100 0x20 .u16 0 2000 2000 40, oCs 0x5100 0x21 .u8 0 2 1, oCs 0x5100 0x22 .u8 0 15 0, oCs 0x5100 0x23 .dom 256 256 0,
   oRoD 0x5100 0x40, oRo 0x5200 1 .u8 1 32, oRo 0x5200 2 .i16 1 32, oRo 0x5200 3 .u8 1 32, oRo 0x5200 4 .u16 1 32,
   oCs 0x5200 5 .dom 0 16 0 1 1 32, oCs 0x5200 6 .u8 1 15 2 1 1 32, oCs 0x5200 7 .bool 0 1 0 1 1 32,
   oCs 0x5200 8 .u8 0 255 0 1 1 32, oCs 0x5200 9 .u8 0 31 0 1 1 32, oNow 0x5200 0xA .bool .wos 1 1 0 1 32,
   oRoD 0x5200 0x40 1 32, oCs 0x5300 1 .u16 0 0xFFFF 0xFFFF 1 2, oCs 0x5300 3 .u32 0 maxU32 0 1 2,
   oCs 0x5300 5 .u32 0 maxU32 0 1 2, oRoD 0x5300 0x40 2] ++
  [oCm 0x5800 1 .bool 0 1 0, oCm 0x5800 2 .u16 0 60000 20000 250 3, oCm 0x5800 5 .u8 0 255 128, oCm 0x5800 6 .u8 0 3 1,
   oCm 0x5800 7 .bool 0 1 0, oCm 0x5800 8 .bool 0 1 1, oCm 0x5800 9 .bool 0 1 0, oCm 0x5800 0xA .u8 0 0xBF 0,
   oCm 0x5800 0xB .u16 0 4095 2048 1 3, oCm 0x5800 0xE .u8 0 255 16, oRo 0x5800 0xF .u32, oRo 0x5800 0x10 .u8,
   oNow 0x5800 0x11 .u8 .wo 0 15 0, oNow 0x5800 0x40 .dom .rw 768 768 0 2, oNow 0x5800 0x42 .dom .wo 9 9 0,
   oRoD 0x5800 0x43 2, oNow 0x5800 0x45 .dom .wo 72 72 0]

def objs : List Obj := objs1 ++ objs2 ++ objs3 ++ objs4

/-- `x` lies in the arithmetic progression of `n` terms from `x0` with stride `st`. -/
def inRun (x x0 n st : Nat) : Bool := decide (x0 ≤ x) && decide ((x - x0) % st = 0) && decide ((x - x0) / st < n)

/-- The row covers the index. -/
def Obj.hasIx (o : Obj) (i : Nat) : Bool := inRun i o.i0 o.ni o.ist

/-- The row covers the object. -/
def Obj.has (o : Obj) (i s : Nat) : Bool := o.hasIx i && inRun s o.s0 o.ns o.sst

/-- The row of an object. -/
def objAt (i s : Nat) : Option Obj := objs.find? fun o => o.has i s

/-- Step 1 of Table 18.7: the index is one of Table 18.9. -/
def indexDefined (i : Nat) : Bool := objs.any fun o => o.hasIx i

/-- The units of index `i`, subindex `s` are present in the variant (R8; R137 for the governor, R187 and R214 for the quadrants). -/
def unitPresent (v : Variant) (i s : Nat) : Bool :=
  match v with
  | .c192 => true
  | .c192L => !(decide (0x5000 ≤ i) && decide (i ≤ 0x58FF))
  | .c096 =>
    !((decide (0x2008 ≤ i) && decide (i ≤ 0x200F)) || (decide (0x2260 ≤ i) && decide (i ≤ 0x22BF)) ||
      (i == 0x2100 && (inRun s 0x18 8 1 || inRun s 0x28 8 1 || inRun s 0x38 8 1)) ||
      (i == 0x2400 && (inRun s 0x18 8 1 || inRun s 0x22 2 1 || inRun s 0x42 2 1 || inRun s 0x46 2 1 || inRun s 0x4A 2 1 ||
        inRun s 0x4E 2 1 || inRun s 0x52 2 1 || inRun s 0x56 2 1)) ||
      (i == 0x2500 && (inRun s 0x22 2 1 || inRun s 0x42 2 1 || inRun s 0x46 2 1)) ||
      (i == 0x1800 && (inRun s 0x09 8 1 || inRun s 0x22 2 1 || inRun s 0x26 2 1)))

/-- Quadrants present in the variant. -/
def quadrants (v : Variant) : Nat := if v = .c096 then 2 else 4

/-! ### Values (R408) -/

/-- Size of a scalar type in bytes. -/
def Ty.size : Ty → Nat
  | .bool => 1 | .u8 => 1 | .u16 => 2 | .u32 => 4 | .u64 => 8 | .i16 => 2 | .i32 => 4 | .q16 => 4 | .dom => 0

/-- The type is two's complement. -/
def Ty.signed : Ty → Bool
  | .i16 => true | .i32 => true | .q16 => true | _ => false

/-- The encoding of a scalar (Table 18.8). -/
def encVal (ty : Ty) (x : Int) : List Byte := leBytes ty.size (toU (8 * ty.size) x)

/-- The scalar that bytes encode. -/
def decVal (ty : Ty) (bs : List Byte) : Int :=
  if ty.signed then toS (8 * ty.size) (leNat bs) else (leNat bs : Nat)

/-- Initial values G0 to G7 (Table 8.10). -/
def ginitDefault (j : Nat) : Int := [20, 8, 4, 0, 8, 0, 0, 0].getD j 0

/-- Defaults that differ along a row of a table. -/
def Obj.default (o : Obj) (i s : Nat) : Int :=
  if o.i0 = 0x2000 ∧ s = 4 then ((i - 0x2000) % 4 : Nat)
  else if i = 0x2500 ∧ 8 ≤ s ∧ s < 16 then ginitDefault (s - 8)
  else if i = 0x2600 ∧ 5 ≤ s ∧ s < 9 then [20, 31, 42, 53].getD (s - 5) 0
  else if o.i0 = 0x5000 ∧ s = 2 then ((i - 0x5000) % 4 : Nat)
  else if i = 0x5100 ∧ 1 ≤ s ∧ s < 9 then (0x02000000 + 0x10 * (2 * (s - 1) + 1) + 2 * (s - 1) : Nat)
  else o.dflt

/-- The bytes of an object's default. -/
def Obj.defaultBytes (o : Obj) (i s : Nat) : List Byte :=
  match o.ty with
  | .dom => if i = 0x4400 then List.replicate 1024 0 else if i = 0x5100 then List.replicate 256 0 else []
  | ty => encVal ty (o.default i s)

/-- The bits that a packed object holds; other bits read 0 (R10). -/
def packMask (i s : Nat) : Option Nat :=
  if i = 0x1800 then
    if 1 ≤ s ∧ s ≤ 16 then some 0xC3FF else if 0x20 ≤ s ∧ s < 0x24 then some 0x8FFF3FFF
    else if 0x30 ≤ s ∧ s < 0x38 then some 0x003FFF07 else none
  else none

/-- Frame rates of Table 1.3. -/
def frameRates : List Nat := [10, 12, 15, 18, 20, 24, 25, 30, 36, 40, 45, 50]

/-- Step 10 of Table 18.7 for one value by itself: range, step and the special forms of the tables' Range column. -/
def valueOk (o : Obj) (i s : Nat) (bs : List Byte) : Bool :=
  match o.ty with
  | .dom =>
    if i = 0x4400 ∧ s = 0x28 then bs.all fun b => decide (b.toNat < 32)
    else if 0x5200 ≤ i ∧ i < 0x5220 ∧ s = 5 then
      (List.range (bs.length / 2)).all fun k => decide (leAt bs (2 * k) 2 < 1024)
    else if i = 0x2600 ∧ 0x48 ≤ s ∧ s < 0x50 then
      (List.range (bs.length / 2)).all fun k => decide (leAt bs (2 * k) 2 < 1024)
    else true
  | ty =>
    let x := decVal ty bs
    decide (o.lo ≤ x) && decide (x ≤ o.hi) && decide (x % o.step = 0) &&
    (if i = 0x1200 ∧ s = 0x10 then decide (x = 0 ∨ 100 ≤ x)
     else if i = 0x2000 ∧ s = 0x20 then frameRates.contains x.toNat
     else if o.i0 = 0x2200 ∧ s = 0x26 then decide (x = 0 ∨ 200 ≤ x)
     else if (i = 0x1400 ∧ s = 1) ∨ (i = 0x5300 ∧ (s = 1 ∨ s = 2)) then decide (x < 1024 ∨ x = 0xFFFF)
     else if i = 0x2600 ∧ s = 0xA then decide (x ≤ 24000 ∨ x = 65535)
     else if i = 0x1003 then decide (x.toNat / 65536 = 0xA5C3 ∧ 1 ≤ x.toNat % 65536 ∧ x.toNat % 65536 ≤ 3)
     else if i = 0x5100 ∧ 1 ≤ s ∧ s < 9 then
       decide (1 ≤ fld x.toNat 24 4 ∧ fld x.toNat 24 4 ≤ 8 ∧ fld x.toNat 28 2 = 0 ∧ fld x.toNat 8 16 = 0)
     else if i = 0x3400 ∧ 0x20 ≤ s ∧ s < 0x30 then decide (fld x.toNat 26 5 = 0 ∧ fld x.toNat 10 6 = 0)
     else true)

/-- Step 8 of Table 18.7: the length rule of the object (R408, R442, R462, R214, R250, and the tables). -/
def lengthOk (o : Obj) (i s n : Nat) : Bool :=
  match o.ty with
  | .dom =>
    decide (o.lo ≤ n) && decide (n ≤ o.hi) &&
    (if (i = 0x2500 ∨ i = 0x2700 ∨ (i = 0x2600 ∧ 0x48 ≤ s)) then decide (n % 4 = 0)
     else if i = 0x3400 ∧ (s = 0x11 ∨ s = 0x13) then decide (n % 8 = 0)
     else if 0x5200 ≤ i ∧ i < 0x5220 then decide (n % 2 = 0)
     else true)
  | ty => n == ty.size

/-! ### Configuration values -/

/-- The key of an object, or of quadrant q's own value of a per-quadrant object. -/
def okey (i s : Nat) : Nat := 256 * i + s
def qkey (q i s : Nat) : Nat := 0x1000000 * q + 256 * i + s
def keyIx (k : Nat) : Nat := k % 0x1000000 / 256
def keySub (k : Nat) : Nat := k % 256

/-- Objects with one value per quadrant (R187, R214): their writes set every present quadrant. -/
def perQuadrant (i s : Nat) : Bool :=
  (i == 0x2400 && decide (1 ≤ s) && decide (s ≤ 8)) || (i == 0x2500 && decide (1 ≤ s) && decide (s ≤ 0x11))

/-- The stored keys that a write of an object sets. -/
def storeKeys (v : Variant) (i s : Nat) : List Nat :=
  if perQuadrant i s then (List.range (quadrants v)).map fun q => qkey q i s
  else if i = 0x2500 ∧ 0x40 ≤ s ∧ s < 0x44 then [qkey (s - 0x40) i 0x11]
  else if i = 0x2500 ∧ 0x44 ≤ s ∧ s < 0x48 then [qkey (s - 0x44) i 0x10]
  else [okey i s]

/-- The stored key that a read of an object shows. -/
def readKey (i s : Nat) : Nat :=
  if i = 0x2500 ∧ 0x40 ≤ s ∧ s < 0x44 then qkey (s - 0x40) i 0x11
  else if i = 0x2500 ∧ 0x44 ≤ s ∧ s < 0x48 then qkey (s - 0x44) i 0x10
  else okey i s

/-- The default of a stored key. -/
def keyDefault (k : Nat) : List Byte :=
  match objAt (keyIx k) (keySub k) with
  | some o => o.defaultBytes (keyIx k) (keySub k)
  | none => []

/-- The value of a stored key in a set of values that differ from their default. -/
def valIn (m : SMap (List Byte)) (k : Nat) : List Byte := (mlook m k).getD (keyDefault k)

/-- Store a value, keeping the canonical form: no entry equals its default. -/
def valPut (m : SMap (List Byte)) (k : Nat) (v : List Byte) : SMap (List Byte) :=
  if v = keyDefault k then mdel m k else mput m k v

/-- The configuration as it would stand after the commit of the staged set (R411). -/
def afterCommit (eff staged : SMap (List Byte)) : SMap (List Byte) := staged.foldl (fun m e => valPut m e.1 e.2) eff

/-- A scalar of a set. -/
def intIn (m : SMap (List Byte)) (k : Nat) : Int :=
  match objAt (keyIx k) (keySub k) with
  | some o => decVal o.ty (valIn m k)
  | none => 0

/-- The bytes of object (i, s) in effect. -/
def cfgB (s : State) (i sub : Nat) : List Byte := valIn s.cf.eff (okey i sub)

/-- A scalar object in effect. -/
def cfgI (s : State) (i sub : Nat) : Int := intIn s.cf.eff (okey i sub)

/-- An unsigned object in effect. -/
def cfgN (s : State) (i sub : Nat) : Nat := (cfgI s i sub).toNat

/-- A BOOL object in effect. -/
def cfgF (s : State) (i sub : Nat) : Bool := decide (cfgI s i sub ≠ 0)

/-- Quadrant q's value of a per-quadrant object in effect. -/
def cfgQI (s : State) (q i sub : Nat) : Int := intIn s.cf.eff (qkey q i sub)

def cfgQN (s : State) (q i sub : Nat) : Nat := (cfgQI s q i sub).toNat

def cfgQB (s : State) (q i sub : Nat) : List Byte := valIn s.cf.eff (qkey q i sub)

/-- An object that acts at once and holds a value (R410). -/
def liveN (s : State) (i sub : Nat) : Nat := (intIn s.cf.live (okey i sub)).toNat

/-- Set an object that acts at once. -/
def setLive (s : State) (i sub : Nat) (v : List Byte) : State :=
  { s with cf := { s.cf with live := valPut s.cf.live (okey i sub) v } }

/-- Role epoch of an object: kind 0 zone, 1 counting head, 2 counting point, 3 section, 4 emitter (R49). -/
def epochOf (m : SMap Nat) (kind n : Nat) : Nat := mget 1 m (4096 * kind + n)

/-- The next epoch: it advances from 0xFFFF to 0x0001 (R49). -/
def epochNext (e : Nat) : Nat := if e = 0xFFFF then 1 else e + 1

/-! ### Register fields that show or stage configuration (R139, R163, R186, R213, R229, R249, R268, R283, R361, R95, R461) -/

/-- A field of a configuration register: first address, number of registers and their stride, bit position and width, the
object of the first register, its index and subindex strides, whether the register number is a quadrant with its own
value, the scale (value = ofs + mul × code), the range to which values act (the nearer end), signedness, and whether
a write stages it. -/
structure RegFld where
  a : Nat
  n : Nat
  st : Nat
  lo : Nat
  w : Nat
  i : Nat
  ist : Nat
  s : Nat
  sst : Nat
  quad : Bool
  mul : Int
  ofs : Int
  vmin : Int
  vmax : Int
  sgn : Bool
  rw : Bool
  deriving DecidableEq, Repr

/-- A field of one of `n` registers, staged by writes. -/
def rf (a n st lo w i ist s sst : Nat) (mul ofs vmin vmax : Int) (quad sgn : Bool := false) (rw : Bool := true) : RegFld :=
  ⟨a, n, st, lo, w, i, ist, s, sst, quad, mul, ofs, vmin, vmax, sgn, rw⟩

def regFlds1 : List RegFld :=
  [-- wake comparators, trip comparators, chargers
   rf 0x010500 8 4 0 32 0x1800 0 0x30 1 1 0 0 maxU32, rf 0x040000 16 4 0 32 0x1800 0 1 1 1 0 0 maxU32,
   rf 0x040100 4 4 0 32 0x1800 0 0x20 1 1 0 0 maxU32,
   -- emitters and mirror
   rf 0x080000 16 0x40 31 1 0x2000 1 1 0 1 0 0 1, rf 0x080000 16 0x40 24 2 0x2000 1 4 0 1 0 0 3,
   rf 0x080000 16 0x40 20 4 0x2000 1 5 0 1 0 0 15, rf 0x080004 16 0x40 16 9 0x2000 1 3 0 125 0 1000 40000,
   rf 0x080004 16 0x40 0 7 0x2000 1 2 0 125 1000 1000 10000, rf 0x080410 1 4 16 16 0x2000 0 0x21 0 1 0 360 65535,
   rf 0x080410 1 4 0 1 0x2000 0 0x23 0 1 0 0 1, rf 0x080414 1 4 0 16 0x2000 0 0x22 0 1 0 0 65535,
   -- accords
   rf 0x080450 1 4 16 16 0x2600 0 0xB 0 1 0 0 65535, rf 0x080450 1 4 0 1 0x2600 0 1 0 1 0 0 1,
   rf 0x080454 1 4 0 6 0x2600 0 5 0 1 0 0 63, rf 0x080454 1 4 8 6 0x2600 0 6 0 1 0 0 63,
   rf 0x080454 1 4 16 6 0x2600 0 7 0 1 0 0 63, rf 0x080454 1 4 24 6 0x2600 0 8 0 1 0 0 63,
   rf 0x080458 1 4 16 4 0x2600 0 9 0 1 0 0 15, rf 0x080458 1 4 0 16 0x2600 0 0xA 0 1 0 0 65535] ++
  [-- receiver quadrants
   rf 0x0A0000 4 0x4000 24 8 0x2200 48 0x20 0 1 0 1 255, rf 0x0A0000 4 0x4000 16 8 0x2200 48 0x21 0 1 0 1 255,
   rf 0x0A0000 4 0x4000 0 12 0x2200 48 0x22 0 1 0 0 4095, rf 0x0A0004 4 0x4000 24 8 0x2200 48 0x23 0 1 0 0 255,
   rf 0x0A0004 4 0x4000 16 8 0x2200 48 0x24 0 1 0 0 255, rf 0x0A0004 4 0x4000 0 1 0x2200 48 0x25 0 1 0 0 1,
   rf 0x0A0008 4 0x4000 16 16 0x2200 48 0x27 0 1 0 (-500) 500 false true, rf 0x0A0008 4 0x4000 0 12 0x2200 48 0x26 0 1 0 0 2500,
   -- histograms
   rf 0x0A1800 4 0x4000 16 16 0x2400 0 7 0 1 0 0 65535 true, rf 0x0A1800 4 0x4000 8 6 0x2400 0 6 0 1 0 0 63 true,
   rf 0x0A1800 4 0x4000 4 3 0x2400 0 5 0 1 0 1 7 true, rf 0x0A1800 4 0x4000 0 4 0x2400 0 8 0 1 0 1 8 true,
   rf 0x0A1804 4 0x4000 16 16 0x2400 0 2 0 1 0 0 65535 true, rf 0x0A1804 4 0x4000 0 16 0x2400 0 1 0 1 0 0 65535 true,
   rf 0x0A1808 4 0x4000 16 16 0x2400 0 4 0 1 0 0 65535 true, rf 0x0A1808 4 0x4000 0 16 0x2400 0 3 0 1 0 0 65535 true,
   rf 0x0A180C 4 0x4000 0 7 0x2400 0 0x10 4 1 0 0 88, rf 0x0A180C 4 0x4000 8 7 0x2400 0 0x11 4 1 0 0 88,
   rf 0x0A180C 4 0x4000 16 7 0x2400 0 0x12 4 1 0 0 88, rf 0x0A180C 4 0x4000 24 7 0x2400 0 0x13 4 1 0 0 88] ++
  [-- note engines
   rf 0x0E0000 4 0x4000 16 11 0x2500 0 0x10 0 1 0 0 1024 true, rf 0x0E0000 4 0x4000 1 1 0x2500 0 2 0 1 0 0 1 true,
   rf 0x0E0000 4 0x4000 0 1 0x2500 0 1 0 1 0 0 1 true, rf 0x0E0004 4 0x4000 0 15 0x2500 0 3 0 1 0 1000 17440 true,
   rf 0x0E0008 4 0x4000 20 12 0x2500 0 6 0 1 0 0 4095 true, rf 0x0E0008 4 0x4000 0 19 0x2500 0 4 0 1 0 0 524287 true,
   rf 0x0E000C 4 0x4000 16 10 0x2500 0 7 0 1 0 0 1023 true, rf 0x0E000C 4 0x4000 0 16 0x2500 0 5 0 1 0 0 65535 true] ++
  ((List.range 8).map fun j => rf (0x0E0020 + 4 * j) 4 0x4000 0 32 0x2500 0 (8 + j) 0 1 0 (-2147483648) 2147483647 true true)

def regFlds2 : List RegFld :=
  [-- planner
   rf 0x0C0000 1 4 16 12 0x2700 0 2 0 1 0 0 2048, rf 0x0C0000 1 4 2 2 0x2700 0 4 0 1 0 0 2,
   rf 0x0C0000 1 4 0 1 0x2700 0 1 0 1 0 0 1, rf 0x0C0004 1 4 0 16 0x2700 0 3 0 1 0 0 65535,
   rf 0x0C0008 1 4 0 8 0x2700 0 5 0 1 0 1 255, rf 0x0C0010 8 4 0 32 0x2700 0 0x10 1 1 0 0 maxU32,
   -- point stream
   rf 0x480000 1 4 16 4 0x2800 0 1 0 1 0 1 8, rf 0x480000 1 4 7 1 0x2800 0 4 0 1 0 0 1,
   rf 0x480000 1 4 4 2 0x2800 0 2 0 1 0 0 3, rf 0x480000 1 4 0 4 0x2800 0 3 0 1 0 0 15,
   rf 0x480004 1 4 0 16 0x2800 0 5 0 1 0 1024 28672,
   -- indicator matrix
   rf 0x5C0000 1 4 31 1 0x5800 0 1 0 1 0 0 1, rf 0x5C0000 1 4 30 1 0x5800 0 9 0 1 0 0 1,
   rf 0x5C0000 1 4 29 1 0x5800 0 8 0 1 0 0 1, rf 0x5C0000 1 4 28 1 0x5800 0 7 0 1 0 0 1,
   rf 0x5C0000 1 4 26 2 0x5800 0 6 0 1 0 0 3, rf 0x5C0000 1 4 0 8 0x5800 0 5 0 1 0 0 255,
   rf 0x5C0004 1 4 16 8 0x5800 0 4 0 250 0 0 60000, rf 0x5C0004 1 4 8 8 0x5800 0 3 0 250 0 0 60000,
   rf 0x5C0004 1 4 0 8 0x5800 0 2 0 250 0 0 60000, rf 0x5C0008 1 4 24 8 0x5800 0 0xE 0 1 0 0 255,
   rf 0x5C0008 1 4 16 8 0x5800 0 0xA 0 1 0 0 255, rf 0x5C000C 1 4 16 12 0x5800 0 0xC 0 1 0 0 4095,
   rf 0x5C000C 1 4 0 12 0x5800 0 0xB 0 1 0 0 4095, rf 0x5C0010 1 4 0 12 0x5800 0 0xD 0 1 0 0 4095] ++
  [-- shown only: zones, track front end, energy meter
   rf 0x400000 1024 0x40 31 1 0x3000 1 1 0 1 0 0 1 false false false, rf 0x400000 1024 0x40 30 1 0x3000 1 6 0 1 0 0 1 false false false,
   rf 0x400000 1024 0x40 28 2 0x3000 1 2 0 1 0 0 3 false false false, rf 0x400000 1024 0x40 24 4 0x3000 1 3 0 1 0 1 15 false false false,
   rf 0x400000 1024 0x40 20 4 0x3000 1 4 0 1 0 1 15 false false false, rf 0x400000 1024 0x40 0 8 0x3000 1 5 0 1 0 1 255 false false false,
   rf 0x500100 16 0x20 31 1 0x5000 1 1 0 1 0 0 1 false false false, rf 0x500100 16 0x20 30 1 0x5000 1 5 0 1 0 0 1 false false false,
   rf 0x500100 16 0x20 28 2 0x5000 1 2 0 1 0 0 3 false false false, rf 0x500100 16 0x20 26 2 0x5000 1 6 0 1 0 0 3 false false false,
   rf 0x500100 16 0x20 16 8 0x5000 1 3 0 100 0 0 20000 false false false, rf 0x500100 16 0x20 0 9 0x5000 1 4 0 1 0 0 359 false false false,
   rf 0x500104 16 0x20 16 8 0x5000 1 8 0 100 0 0 10000 false false false, rf 0x500104 16 0x20 8 8 0x5000 1 9 0 100 0 0 10000 false false false,
   rf 0x500104 16 0x20 0 1 0x5000 1 7 0 1 0 0 1 false false false, rf 0x500108 16 0x20 31 1 0x5000 1 0xB 0 1 0 0 1 false false false,
   rf 0x500108 16 0x20 30 1 0x5000 1 0xD 0 1 0 0 1 false false false, rf 0x500108 16 0x20 0 16 0x5000 1 0xC 0 1 0 0 65535 false false false]

/-- Receive channel registers at 0x0A_0000 + 0x4000 × q + base + stride × local channel; `rxBase` and `rxStride` are those of
Table 6.4. -/
def rxBase : Nat := 0x0400
def rxStride : Nat := 0x40

def regFldsRx : List RegFld :=
  (List.range 4).flatMap fun q =>
    let a := 0x0A0000 + 0x4000 * q + rxBase
    [rf a 48 rxStride 31 1 (0x2200 + 48 * q) 1 1 0 1 0 0 1, rf a 48 rxStride 24 2 (0x2200 + 48 * q) 1 2 0 1 0 0 3,
     rf (a + 4) 48 rxStride 16 8 (0x2200 + 48 * q) 1 5 0 4 0 24 992, rf (a + 4) 48 rxStride 8 8 (0x2200 + 48 * q) 1 4 0 4 0 16 900,
     rf (a + 4) 48 rxStride 0 8 (0x2200 + 48 * q) 1 3 0 4 0 8 500, rf (a + 8) 48 rxStride 16 16 (0x2200 + 48 * q) 1 7 0 1 0 0 65535,
     rf (a + 8) 48 rxStride 0 16 (0x2200 + 48 * q) 1 6 0 1 0 (-32768) 32767 false true]

def regFlds : List RegFld := regFlds1 ++ regFlds2 ++ regFldsRx

/-- The fields of the register at an address, each with the number of the register in its row. -/
def fieldsAt (addr : Nat) : List (RegFld × Nat) :=
  regFlds.filterMap fun f => if inRun addr f.a f.n f.st then some (f, (addr - f.a) / f.st) else none

/-- Index, subindex and stored key of field `f` in register number `k`. -/
def RegFld.obj (f : RegFld) (k : Nat) : Nat × Nat := (f.i + f.ist * k, f.s + f.sst * k)

def RegFld.key (f : RegFld) (k : Nat) : Nat :=
  if f.quad then qkey k f.i f.s else okey (f.i + f.ist * k) (f.s + f.sst * k)

/-- The code that shows a value. -/
def RegFld.code (f : RegFld) (x : Int) : Nat := toU f.w ((x - f.ofs) / f.mul)

/-- The value that a code stages: beyond the range it acts as the nearer end. Table 5.3 says so of most fields; that a CPR code below 360
acts as 360 is the model's choice (DESIGN CHOICE, assumption 113). -/
def RegFld.value (f : RegFld) (c : Nat) : Int :=
  let raw := if f.sgn then toS f.w c else (c : Int)
  clampI f.vmin f.vmax (f.ofs + f.mul * raw)

/-- A configuration register reads the values in effect. -/
def cfgRegRead (s : State) (addr : Nat) : Nat :=
  ((fieldsAt addr).map fun p => put (p.1.code (intIn s.cf.eff (p.1.key p.2))) p.1.lo p.1.w).sum

/-- The state as the configuration of frame `f` shows it: records of the frame before the one in progress are processed under the
configuration that governed it (R194, R256, R282). -/
def viewFrame (f : BitVec 32) (s : State) : State :=
  if f = s.pw.frameNo then s else { s with cf := { s.cf with eff := s.cf.effPrev, map := s.cf.mapPrev, epochs := s.cf.epochsPrev } }

end Sys2Proof.Machine
end

