-- ==== Sys2Proof/Machine/Flags.lean ====
section
/-! DEFINITION. Machine/Flags.lean: the flag computations of the block: result status words (R13 to R16), the event
distributor's levels, arbitration and request lines (R429 to R437), event flags and local edges (R433, R434), and free values. -/

namespace Sys2Proof.Machine

/-! ### Free values -/

/-- The next free value (assumption 1). -/
def freeNow (s : State) : Nat := (Config.freeBits s.sys.freeCtr).toNat

/-- Advance to the next free value. -/
def drawn (s : State) : State := { s with sys := { s.sys with freeCtr := s.sys.freeCtr + 1 } }

/-! ### Result words -/

/-- Reset values of posted words that are not 0: SF_STAT and SF_OSTAT (R14), EM_FREEB (Table 2.10), and the walk tables (Table 6.4). -/
def regDefault (a : Nat) : Nat :=
  if a = 0x4C0000 then 0x30 else if a = 0x4C0040 then 0xF000 else if a = 0x010108 then 0x1770
  else if 0x0A0000 ≤ a ∧ a < 0x0B0000 ∧ 0x400 ≤ a % 0x4000 ∧ a % 0x4000 < 0x1000 ∧ 0x20 ≤ a % 0x40 then 0xFFFFFFFF else 0

/-- A posted word. -/
def regGet (s : State) (a : Nat) : Nat := (mlook s.regs a).getD (regDefault a)

/-- Store a posted word, keeping the canonical form. -/
def regPut (a v : Nat) (s : State) : State :=
  { s with regs := if v = regDefault a then mdel s.regs a else mput s.regs a v }

def regPuts (ws : List (Nat × Nat)) (s : State) : State := ws.foldl (fun s e => regPut e.1 e.2 s) s

/-- Status of the result whose status word lies at `a`. -/
def resGet (s : State) (a : Nat) : Res := mget {} s.res a

/-- The status word (R13): VALID, FRESH, SEQ and the unit-specific bits. -/
def statusWord (s : State) (a : Nat) : Nat :=
  bitIf (resGet s a).valid 31 + bitIf (resGet s a).fresh 30 + put (resGet s a).seq 24 4 + regGet s a % 2 ^ 24

/-- The key that stands for COMMIT_STATUS, which has no register. -/
def aCommit : Nat := 0x10110015

/-- Status addresses of sources 16 to 45 (Table 19.6). -/
def srcResult : List Nat :=
  [0x010200, 0x010100, 0x010140, 0x010300, 0x0C0030, 0x0E0040, 0x0E4040, 0x0E8040, 0x0EC040, 0x0A1820, 0x0A5820, 0x0A9820,
   0x0AD820, 0x0A1FC0, 0x0A5FC0, 0x0A9FC0, 0x0ADFC0, 0x0A0010, 0x0A4010, 0x0A8010, 0x0AC010, 0x410000, 0x480020, 0x4C0000,
   0x540010, 0x500010, 0x500018, 0x580040, aCommit, 0x050014]

/-- Source number of a result, if it is a shared source. -/
def srcOfResult (a : Nat) : Option Nat := (srcResult.findIdx? (· == a)).map (· + 16)

/-! ### Targets -/

/-- Data-class targets are T0 to T4 (Table 19.5). -/
def dataClass (t : Nat) : Bool := decide (t < 5)

/-- The target is awake (Table 19.5). T5 is always awake in the model: a pending source wakes MP at once (R437; DEDUCED,
assumption 11). -/
def tAwake (s : State) (t : Nat) : Bool :=
  if t = 0 then s.pw.dp ≠ .off
  else if t < 5 then s.pw.dp ≠ .off && decide (t ≤ quadrants s.sys.variant)
  else if t = 5 then true
  else !(mget ({} : EdTgt) s.ed.tgt t).sleep

/-- The running level of a system-class target (R432) or the top of a data-class stack (R431). -/
def runLevel (x : EdTgt) (t : Nat) : Option Nat :=
  if dataClass t then x.stack.head?.map (·.1) else (x.claimed.map (·.1)).max?

/-- The target can accept a source of this level (R431, R432). -/
def tAccepts (x : EdTgt) (t lvl : Nat) : Bool :=
  (match runLevel x t with | none => true | some r => decide (r < lvl)) &&
  (if dataClass t then decide (x.stack.length < 8) else decide (x.thr < lvl))

/-- The target is eligible for source `n` (R429). -/
def eligible (s : State) (n t : Nat) : Bool :=
  let src := mget ({} : EdSrc) s.ed.src n
  let x := mget ({} : EdTgt) s.ed.tgt t
  bget src.tmask t && x.en && tAwake s t && tAccepts x t src.level

/-- Shared sources signalled to a target. -/
def signalledTo (s : State) (t : Nat) : List (Nat × EdSrc) := s.ed.src.filter fun e => e.2.sig == some t

/-- Local sources signalled to their target: pending, enabled and accepted by an enabled, awake target (R434). -/
def localReady (s : State) (t : Nat) : List Nat :=
  let x := mget ({} : EdTgt) s.ed.tgt t
  if x.en && tAwake s t then
    (List.range 32).filter fun i => bget x.lpend i && bget x.len i && tAccepts x t (mget 0 x.llvl i)
  else []

/-- The request output (R430); a withdrawn signal keeps it asserted until the claim (Table 19.9). -/
def tLine (s : State) (t : Nat) : Bool :=
  let x := mget ({} : EdTgt) s.ed.tgt t
  !(signalledTo s t).isEmpty || x.withdrawn || !(localReady s t).isEmpty || (!dataClass t && x.wakereq)

/-! ### Levels of the shared sources -/

/-- The level of shared source `n` (Tables 19.6 and 19.7). -/
def srcLevel (s : State) (n : Nat) : Bool :=
  if n < 8 then (mget ({} : Wc) s.wc n).latch
  else if n = 8 then decide (s.gov.trip ≠ 0)
  else if n = 9 then s.tf.ch.any fun e => e.2.fired
  else if 16 ≤ n ∧ n < 46 then (resGet s (srcResult.getD (n - 16) 0)).fresh
  else if 64 ≤ n ∧ n < 96 then bget s.ed.secchg (n - 64)
  else if n = 359 then decide (s.lm.evt ≠ 0)
  else if 320 ≤ n ∧ n < 360 then bget s.ed.evt (n - 320)
  else if 376 ≤ n ∧ n < 381 then tLine s (n - 376)
  else if 381 ≤ n ∧ n < 384 then bget s.ed.swi (n - 381)
  else false

/-! ### Arbitration (R435, R437) -/

def edSrcSet (n : Nat) (x : EdSrc) (s : State) : State := { s with ed := { s.ed with src := mset {} s.ed.src n x } }
def edTgtSet (t : Nat) (x : EdTgt) (s : State) : State := { s with ed := { s.ed with tgt := mset {} s.ed.tgt t x } }

/-- The next eligible target after the pointer, in ascending order with wrap-around. -/
def nextTarget (s : State) (n : Nat) : Option Nat :=
  let p := (mget ({} : EdSrc) s.ed.src n).ptr
  ((List.range 10).map fun k => (p + 1 + k) % 10).find? fun t => eligible s n t

/-- The wake request of WAKET is set; T6 to T9 leave SLEEP (R437). -/
def wakeRequest (s : State) : State :=
  let t := s.ed.waket
  let x := mget ({} : EdTgt) s.ed.tgt t
  edTgtSet t { x with wakereq := true, sleep := false } s

/-- One source: signal it where it is pending, enabled and not signalled (R435); take it back as withdrawn where it is signalled
and masked or deasserted (R437). The request lines of the data-class targets are sources themselves (R430): `fuel` bounds
that chain of five. -/
def edUpdate (fuel n : Nat) (s : State) : State :=
  match fuel with
  | 0 => s
  | fuel + 1 =>
    let x := mget ({} : EdSrc) s.ed.src n
    let live := srcLevel s n && x.en
    match x.sig with
    | some t =>
      if live then s
      else
        let s := edSrcSet n { x with sig := none } s
        let s := edTgtSet t { mget ({} : EdTgt) s.ed.tgt t with withdrawn := true } s
        if dataClass t then edUpdate fuel (376 + t) s else s
    | none =>
      if live && x.inserv == none && decide (x.tmask ≠ 0) then
        match nextTarget s n with
        | some t =>
          let s := edSrcSet n { x with sig := some t, ptr := t } s
          if dataClass t then edUpdate fuel (376 + t) s else s
        | none =>
          let s := wakeRequest s
          match nextTarget s n with
          | some t => edSrcSet n { x with sig := some t, ptr := t } s
          | none => s
      else s

/-- After a change of level of source `n`. -/
def edSync (n : Nat) (s : State) : State := edUpdate 7 n s

/-- After a change of the request line of a data-class target. -/
def edLine (t : Nat) (s : State) : State := if dataClass t then edSync (376 + t) s else s

/-- Arbitration over every source (R435): routes, enables, levels, thresholds, wakes and completions. -/
def edArbitrate (s : State) : State := (s.ed.src.map (·.1)).foldl (fun s n => edSync n s) s

/-! ### Events -/

/-- Raise event flag j: bit j of ED_EVT, source 320 + j (R433). The distributor belongs to the management plane (R107). -/
def raise (j : Nat) (s : State) : State :=
  if s.sys.mgmtUp then edSync (320 + j) { s with ed := { s.ed with evt := bset s.ed.evt j true } } else s

/-- Raise a flag where the condition holds. -/
def raiseIf (b : Bool) (j : Nat) (s : State) : State := if b then raise j s else s

/-- A rising edge on local source i of target t: pending, or coalesced and counted (R434). -/
def localEdgeT (i t : Nat) (s : State) : State :=
  let x := mget ({} : EdTgt) s.ed.tgt t
  let x := if bget x.lpend i then { x with lcnt := satAdd 16 x.lcnt 1, lasti := i }
    else { x with lpend := bset x.lpend i true }
  edLine t (edTgtSet t x s)

/-- A hardware edge on local source i of every target (R434). -/
def localEdge (i : Nat) (s : State) : State :=
  if s.sys.mgmtUp then (List.range 10).foldl (fun s t => localEdgeT i t s) s else s

/-- Post a result: SEQ from 1, modulo 16; VALID and FRESH (R13 to R16); the words of the block; its source (Table 19.6). -/
def post (a low : Nat) (ws : List (Nat × Nat)) (s : State) : State :=
  let r := resGet s a
  let s := { s with res := mset {} s.res a { valid := true, fresh := true, seq := if r.valid then (r.seq + 1) % 16 else 1 } }
  let s := regPuts ((a, low) :: ws) s
  match srcOfResult a with
  | some n => if s.sys.mgmtUp then edSync n s else s
  | none => s

/-- The first read of a result clears FRESH (R15). -/
def clearFresh (a : Nat) (s : State) : State :=
  let s := { s with res := mset {} s.res a { resGet s a with fresh := false } }
  match srcOfResult a with
  | some n => edSync n s
  | none => s

/-! ### Event numbers (Table 19.7) -/

def evRide := 0
def evVld := 1
def evHoldLow := 2
def evDip := 3
def evInterruption := 4
def evSwell := 5
def evClock := 6
def evMirror := 7
def evStandbyRefused := 8
def evCfgRollback := 9
def evCfgCopy := 10
def evCfgLost := 11
def evGovCopy := 12
def evGovLost := 13
def evRxHealth := 14
def evNeOverrun := 18
def evNeProgfault := 22
def evFpShort := 26
def evFpUnreach := 27
def evAccDefault := 28
def evCoordLost := 29
def evCoordConflict := 30
def evInterfere := 31
def evZlPort := 32
def evZlConflict := 33
def evLogHigh := 34
def evLogFull := 35
def evSectrstJam := 36
def evCountLost := 37
def evTfOpen := 38

end Sys2Proof.Machine
end

