-- ==== Sys2Proof/Machine/Ops.lean ====
section
/-! DEFINITION. Machine/Ops.lean: the named operations that the commands share: time, frames, the two safety channels' switches
and latches, sections' disturbance, sessions, and commit status. -/

namespace Sys2Proof.Machine

/-! ### Time (R402) -/

def msNs : Nat := 1000000
def secNs : Nat := 1000000000

/-- The part of the running slew that falls into `dt` ns: linear over the second of the slew (R401). -/
def slewPart (s : State) (dt : Nat) : Int :=
  let left := s.sys.slewEnd - s.sys.now
  if left = 0 then 0 else if left ≤ dt then s.sys.slewLeft else s.sys.slewLeft * dt / left

/-- Time runs on to `t`: local time never goes back, and system time advances with it (R402), slewed under R401. -/
def advance (t : Nat) (s : State) : State :=
  let dt := t - s.sys.now
  let a := slewPart s dt
  { s with sys := { s.sys with
      now := s.sys.now + dt
      sysTime := s.sys.sysTime + BitVec.ofInt 64 (dt + a)
      slewLeft := s.sys.slewLeft - a } }

/-- Milliseconds since the start of the last power-up (R114), in 16 bits. -/
def bootMs (s : State) : Nat := sat 16 ((s.sys.now - s.sys.bootAt) / msNs)

/-! ### Frames (R30) -/

def frameRate (s : State) : Nat := cfgN s 0x2000 0x20
/-- Steps per frame: N × F = 45,000 (Table 1.3). -/
def stepsPerFrame (s : State) : Nat := if frameRate s = 0 then 0 else 45000 / frameRate s
/-- The nominal frame period in ns. -/
def framePeriod (s : State) : Nat := if frameRate s = 0 then 0 else secNs / frameRate s
/-- The data plane is powered (Table 3.6). -/
def dpOn (s : State) : Bool := s.pw.dp ≠ .off
/-- Frames are scanned: the mirror is locked and boundaries are derived from it (R100). -/
def scanning (s : State) : Bool := s.pw.dp == .scanning
/-- D of R84: WATCH_DIV, or ⌊F ÷ 2⌋ where it is 0. -/
def watchDiv (s : State) : Nat := let d := cfgN s 0x1100 7; if d = 0 then frameRate s / 2 else d
/-- The frame `n` is scanned in state `st` (R84). -/
def scannedIn (s : State) (st n : Nat) : Bool := st == 5 || (st == 4 && n % watchDiv s == 0)
/-- A unit of the variant C192-L's cut is present (R3). -/
def hasTrack (s : State) : Bool := s.sys.variant ≠ .c192L

/-- Counting and excitation have stopped in SAVE: 50 µs after t0 (R359, R379). -/
def saveStopped (s : State) : Bool :=
  match s.sup.t0 with | some t0 => s.sup.vstate == 2 && decide (t0 + 50000 ≤ s.sys.now) | none => false

/-- Channel `c`'s register block is in one of the quadrants present. -/
def chPresent (s : State) (ch : Nat) : Bool := decide (ch < 48 * quadrants s.sys.variant)
def qPresent (s : State) (q : Nat) : Bool := decide (q < quadrants s.sys.variant)
def emtPresent (s : State) (e : Nat) : Bool := decide (e < 4 * quadrants s.sys.variant)

/-! ### The two channels (R285) -/

def getC (s : State) (c : Chan) : Saf := match c with | .a => s.safA | .b => s.safB
def setC (c : Chan) (f : Saf) (s : State) : State := match c with | .a => { s with safA := f } | .b => { s with safB := f }
def updC (c : Chan) (g : Saf → Saf) (s : State) : State := setC c (g (getC s c)) s
/-- Both channels. -/
def bothC (g : Chan → State → State) (s : State) : State := g .b (g .a s)
/-- The other channel. -/
def otherC (c : Chan) : Chan := match c with | .a => .b | .b => .a

def sqFunc (s : State) (p : Nat) : Nat := cfgN s 0x4400 (0x10 + p)
def sqDm (s : State) (p : Nat) : Nat := cfgN s 0x4400 (0x14 + p)
def sinRole (s : State) (i : Nat) : Nat := cfgN s 0x4000 (0x10 + i)
def sinMode (s : State) (i : Nat) : Nat := cfgN s 0x4000 (0x18 + i)

def tpGet (s : State) (p : Nat) : Tp := mget {} s.out.tp p
def tpSet (p : Nat) (x : Tp) (s : State) : State := { s with out := { s.out with tp := mset {} s.out.tp p x } }

/-- Channel `c`'s switch in pair `p` is closed now: commanded closed and not opened by its own test pulse (R313). -/
def swClosed (s : State) (c : Chan) (p : Nat) : Bool := bget (getC s c).sw p && (tpGet s p).by_ ≠ some c

/-- The pair is on: both switches commanded closed (R322). -/
def pairOn (s : State) (p : Nat) : Bool := bget s.safA.sw p && bget s.safB.sw p

/-- A channel's switch in pair `p` is open, since `at_` where it was closed, and the pair in RESTART_WAIT. -/
def leaveOpen (p at_ : Nat) (f : Saf) : Saf :=
  { f with
    sw := bset f.sw p false
    rwait := bset f.rwait p true
    opened := if bget f.sw p then mput f.opened p at_ else f.opened }

/-- Channel `c` opens its switch in pair `p`, which is then in RESTART_WAIT (R311). A test pulse that runs on the pair is
discarded (R315), and the switch that the pulse has opened stays open; the next pulse is scheduled from the next switch-on. -/
def openSwitch (c : Chan) (p : Nat) (s : State) : State :=
  let was := bget (getC s c).sw p
  let s := updC c (leaveOpen p s.sys.now) s
  let x := tpGet s p
  if was then
    let s := match x.by_ with | some d => updC d (leaveOpen p x.start) s | none => s
    let drop := x.by_.isSome && !x.dropped
    let s := tpSet p { x with due := none, dropped := x.dropped || x.by_.isSome } s
    if drop then { s with out := { s.out with discarded := satAdd 16 s.out.discarded 1 } } else s
  else s

/-- Channel `c` opens its switch in every pair. -/
def openAll (c : Chan) (s : State) : State := (List.range 4).foldl (fun s p => openSwitch c p s) s

/-- Both channels open their switches in every pair: STANDBY, SAVE, boundary scan, erase (R87, R72, R113, R338). -/
def openBoth (s : State) : State := bothC openAll s

/-- Channel `c` latches fault `b` of Table 13.10, which keeps every pair off through its switches (R305). -/
def latchFault (c : Chan) (b : Nat) (s : State) : State :=
  openAll c (updC c (fun f => { f with latch := bset f.latch b true }) s)

def fltStartup := 0
def fltClock := 1
def fltSupply := 2
def fltDisc := 3
def fltCross := 4
def fltReadback := 5
def fltJammed := 6
def fltDrive := 7

/-! ### Sections (R374, Table 17.3) -/

def secGet (s : State) (k : Nat) : Sec := mget {} s.ax.secs k
def secSet (k : Nat) (x : Sec) (s : State) : State := { s with ax := { s.ax with secs := mset {} s.ax.secs k x } }

/-- A state change of section `k` sets its ED_SECCHG bit (Table 19.6). -/
def secChange (k : Nat) (s : State) : State :=
  if s.sys.mgmtUp then edSync (64 + k) { s with ed := { s.ed with secchg := bset s.ed.secchg k true } } else s

/-- Section `k` becomes DISTURBED for `cause`, from any state (R374). Its count stays. -/
def disturb (cause k : Nat) (s : State) : State :=
  let x := secGet s k
  let s := secSet k { x with st := 0, cause := cause, rose := false } s
  if x.st = 0 then s
  else secChange k { s with ax := { s.ax with disturbs := satAdd 16 s.ax.disturbs 1 } }

/-! ### The indicator matrix's outputs (R453, R456) -/

/-- Every row switch and every sink is off. -/
def lmOff (s : State) : State := { s with lm := { s.lm with row := none, pre := false, sinks := 0 } }

/-- System time has been stepped: the slot in progress ends, and scanning resumes at the next cycle. -/
def lmStepped (s : State) : State := let s := lmOff s; { s with lm := { s.lm with slot := 13 } }

/-! ### Commit status (Table 1.9) -/

/-- Post COMMIT_STATUS. -/
def postCommit (st : Nat) (s : State) : State := post aCommit st [] { s with cf := { s.cf with status := st } }

/-! ### Wake events and the state selected for the next boundary (R86) -/

/-- A wake latch with WAKE = 1 is set. -/
def wakeLatched (s : State) : Bool :=
  (List.range 8).any fun n => (mget {} s.wc n).latch && bitAt (cfgN s 0x1800 (0x30 + n)) 2

/-- The requested state. While VIGILREQ stands under SF_ACT 2, the automatic demand does not raise the state; after the device has
acted as if 3 had been written, it stays at VIGIL (R246; DEDUCED, assumption 28). -/
def requested (s : State) : Nat :=
  if cfgF s 0x1100 3 then
    if s.fp.vigilReq && cfgN s 0x2700 4 == 2 then min s.pw.demand (if s.pw.req = 3 then 3 else max 3 s.pw.st) else s.pw.demand
  else s.pw.req

/-- Table 3.5, and PW_STATE.TARGET. Until PWR_BOOT is requested at safety operational, the state is VIGIL (Table 4.1; DEDUCED,
assumption 29). -/
def selectState (s : State) : Nat :=
  if s.sup.vstate = 2 then 1
  else if s.cf.defaults || s.pw.pllBlock || (!s.sys.oper && !s.sys.cameFromStandby) then 3
  else
    let r := requested s
    if r = 2 then (if wakeLatched s then s.pw.st else 2)
    else if s.sup.vstate = 1 then
      let ride := cfgN s 0x1200 9
      if ride = 2 then min r 3 else if ride = 1 then min r 4 else r
    else r

/-- A wake event sets the automatic demand to PWR_WAKE_TO, restarts the idle timer and ends the hold of a PLL fault (Table 3.5). -/
def wake (s : State) : State :=
  { s with pw := { s.pw with demand := cfgN s 0x1100 5, idleFrom := s.sys.now, pllBlock := false } }

/-! ### Sessions (R328, R330) -/

def sessionOn (s : State) (p : Path) : Bool := decide (s.sess.user ≠ 0) && s.sess.path == p

/-- The staged set contains an rw-s object or a change of the map (R47). -/
def isSafetyKey (k : Nat) : Bool := match objAt (keyIx k) (keySub k) with | some o => o.acc == .rws | none => false
def stagedSafety (s : State) : Bool := s.cf.staged.any (fun e => isSafetyKey e.1) || s.cf.mapStage.isSome

/-- A session ends: with no safety commit pending, every staged rw-s value is discarded (R330). -/
def endSession (s : State) : State :=
  if s.sess.user = 0 then s
  else
    let s := { s with sess := { s.sess with user := 0, path := .host } }
    match s.cf.pend with
    | some p => if p.safety then s else
        { s with cf := { s.cf with staged := s.cf.staged.filter (fun e => !isSafetyKey e.1), mapStage := none } }
    | none => { s with cf := { s.cf with staged := s.cf.staged.filter (fun e => !isSafetyKey e.1), mapStage := none } }

/-- A read or write of an rw-s or wo-s object on the session's path keeps the session open (R330). -/
def touchSession (p : Path) (s : State) : State :=
  if sessionOn s p then { s with sess := { s.sess with lastAct := s.sys.now } } else s

end Sys2Proof.Machine
end

