-- ==== Sys2Proof/Machine/SafeChannels.lean ====
section
/-! DEFINITION. Machine/SafeChannels.lean: the two safety channels: safe inputs, discrepancy, cross words, demands, switches,
readback, test pulses, drive monitors and the restart interlock (chapters 13 and 14). -/

namespace Sys2Proof.Machine

/-! ### Inputs -/

def prGet (f : Saf) (i : Nat) : Pair := mget {} f.pairs i
def prSet (i : Nat) (x : Pair) (f : Saf) : Saf := { f with pairs := mset {} f.pairs i x }

/-- A terminal reads ACTIVE (Table 13.2), by V_ON = 11 V and V_OFF = 5 V; between the thresholds it reads SAFE (R288). -/
def termReads (s : State) (i : Nat) (b : Bool) (lv : SinLevels) : Bool :=
  let k := 2 * i + b.toNat
  let mv := lv.mv.getD k 0
  if b && sinMode s i == 1 then decide (mv < 5000) else decide (11000 < mv)

/-- T_FILT in samples of 0.25 ms (R290). -/
def tFilt (s : State) (i : Nat) : Nat := cfgN s 0x4000 (0x28 + i)

/-- One sample of one terminal: the filtered reading and the run of samples that agree on a new reading (R290). -/
def filterStep (n : Nat) (cur : Bool) (run : Nat) (raw : Bool) : Bool × Nat :=
  if raw == cur then (cur, 0) else if n ≤ run + 1 then (raw, 0) else (cur, run + 1)

/-- The safe input pair with ROLE 3 (R321). -/
def resetPair (s : State) : Option Nat := (List.range 8).find? fun i => sinRole s i == 3

/-- Both terminals of a pair read ACTIVE at their levels. -/
def pairHigh (s : State) (i : Nat) (lv : SinLevels) : Bool := termReads s i false lv && termReads s i true lv

/-- One sample of the sixteen terminals by channel `c` (R288, R290). A reset input that is seen low, at its terminals and in its
filtered readings, is ready for an edge (Table 4.3). -/
def sampleSin (c : Chan) (lv : SinLevels) (s : State) : State :=
  let f := (List.range 8).foldl (fun f i =>
    let x := prGet f i
    let a := filterStep (tFilt s i) x.fA x.runA (termReads s i false lv)
    let b := filterStep (tFilt s i) x.fB x.runB (termReads s i true lv)
    prSet i { x with fA := a.1, runA := a.2, fB := b.1, runB := b.2 } f) (getC s c)
  let low := match resetPair s with
    | some i => !pairHigh s i lv && !((prGet f i).fA && (prGet f i).fB)
    | none => false
  setC c { f with rstLowSeen := f.rstLowSeen || low } s

def execSinSample (t : Nat) (c : Chan) (lv : SinLevels) (s : State) : Host.Outcome State Fault Refusal :=
  let s := advance t s
  .next (if s.sys.oper then sampleSin c lv s else s)

/-! ### Demands (Table 14.2, R378) -/

def pairActive (s : State) (c : Chan) (i : Nat) : Bool := (prGet (getC s c) i).active

/-- The role epoch of zone `z` in the configuration in effect. -/
def znEpoch (v : State) (z : Nat) : Nat := epochOf v.cf.epochs 0 z

/-- A protective zone is occupied in the channel's view (R38, R51): also where it reads EMPTY under an epoch that is not the current one
(R39). -/
def zoneOccupied (s : State) (f : Saf) (z : Nat) : Bool :=
  f.zunk || f.zdisc.contains z ||
  (let w := (mget 0 f.mbWords z).toNat
   let st := fld w 12 2
   st == 0 || st == 2 || (st == 1 && fld w 16 16 != znEpoch s z))

/-- Zones whose ZONE_SQ byte names pair `p`, of SS1 kind or immediate, of which one is occupied. -/
def zoneDemand (s : State) (f : Saf) (p : Nat) (ss1 : Bool) : Bool :=
  (cfgB s 0x4400 0x28).zipIdx.any fun e =>
    bitAt e.1.toNat p && bitAt e.1.toNat 4 == ss1 && zoneOccupied s f e.2

/-- A section that acts on pair `p` is not CLEAR (R378). -/
def sectionDemand (s : State) (f : Saf) (p : Nat) (ss1 : Bool) : Bool :=
  (List.range 32).any fun k =>
    let q := cfgN s (0x5200 + k) 9
    bitAt q p && bitAt q 4 == ss1 && (f.secUnk || mget 0 f.secStates k != 3)

/-- A safe input pair of ROLE `role` on SQ_SINp is SAFE (R291). -/
def sinDemand (s : State) (f : Saf) (p role : Nat) : Bool :=
  (List.range 8).any fun i =>
    bitAt (cfgN s 0x4400 (0x18 + p)) i && sinRole s i == role && !(prGet f i).active

/-- A boundary-scan instruction that controls pins is in force (R113). -/
def pinScan (s : State) : Bool :=
  s.sys.jtag == .extest || s.sys.jtag == .clamp || s.sys.jtag == .highz

/-- Entry to STANDBY, SAVE or a pin-controlling boundary scan (Table 14.2). -/
def powerDemand (s : State) : Bool :=
  s.pw.standbyAt.isSome || s.pw.st == 2 || s.pw.st == 1 || s.sup.vstate == 2 || pinScan s

/-- The start-up conditions of Table 14.2, and the undervoltage lockout, during which every OSSD switch is open (R464). -/
def startDemand (s : State) : Bool := !s.sys.oper || !s.cf.safety || s.cf.defaults || !s.sup.holdReady || s.sup.uvlo

def dmGet (f : Saf) (d : Nat) : Dm := if d = 0 then f.dm0 else f.dm1
def dmSet (d : Nat) (x : Dm) (f : Saf) : Saf := if d = 0 then { f with dm0 := x } else { f with dm1 := x }

/-- Channel `c` sees an immediate demand on pair `p` (Table 14.2; SS1 demands act at once on DIRECT pairs, Table 14.1). A halted SP
demands every pair (R113). -/
def demandNow (s : State) (c : Chan) (p : Nat) : Bool :=
  let f := getC s c
  let fn := sqFunc s p
  sinDemand s f p 1 || zoneDemand s f p false || sectionDemand s f p false || decide (f.latch ≠ 0) || startDemand s ||
  powerDemand s || (c == .a && s.sys.spHalt) ||
  (fn == 2 && (let m := (dmGet f (sqDm s p)).st; m == 0 || m == 3)) ||
  (fn == 1 && (sinDemand s f p 2 || zoneDemand s f p true || sectionDemand s f p true))

/-- Channel `c` sees an SS1 demand on STO pair `p`. -/
def demandSs1 (s : State) (c : Chan) (p : Nat) : Bool :=
  let f := getC s c
  sqFunc s p == 2 && (sinDemand s f p 2 || zoneDemand s f p true || sectionDemand s f p true)

/-- SS1 start on monitor `d` (R319 step 1). -/
def startRamp (c : Chan) (d : Nat) (s : State) : State :=
  updC c (fun f => let m := dmGet f d
    dmSet d { m with st := 2, v0 := m.v, ts := s.sys.now, dstop := true } f) s

/-- The demands of channel `c` are evaluated: the switch opens on an immediate demand (R309, R311), and an SS1 demand starts the
ramp of an IDLE monitor (R319). -/
def evalDemands (c : Chan) (s : State) : State :=
  let im := (List.range 4).filter fun p => demandNow s c p
  let ss := (List.range 4).filter fun p => demandSs1 s c p
  let s := im.foldl (fun s p => if sqFunc s p = 0 then s else openSwitch c p s) s
  let s := ss.foldl (fun s p => if (dmGet (getC s c) (sqDm s p)).st = 1 then startRamp c (sqDm s p) s else s) s
  updC c (fun f => { f with demand := BitVec.ofNat 4 (maskOf 4 im.contains), ss1 := BitVec.ofNat 4 (maskOf 4 ss.contains) }) s

/-! ### Pair states (R291 to R296) -/

/-- T_DISC of pair `i` in ns. -/
def tDisc (s : State) (i : Nat) : Nat := cfgN s 0x4000 (0x20 + i) * msNs

/-- Channel `c` latches the discrepancy fault of pair `i` (R294). -/
def latchDisc (c : Chan) (i : Nat) (s : State) : State :=
  latchFault c fltDisc (updC c (fun f => prSet i { prGet f i with disc := true, discSafe := false, active := false } f) s)

/-- A timer that started at safety operational, `operAt`, runs on until the filters can show the disagreement (R296). -/
def timerHeld (s : State) (operAt i : Nat) (x : Pair) : Bool :=
  x.timer == some operAt && decide (s.sys.now ≤ operAt + 250000 * tFilt s i + 500000)

/-- The discrepancy timer of pair `i` after an evaluation (R294). -/
def pairTimer (s : State) (operAt i : Nat) (x : Pair) : Option Nat :=
  if x.fA == x.fB then (if timerHeld s operAt i x then x.timer else none) else some (x.timer.getD s.sys.now)

/-- One evaluation of pair `i` from the filtered readings (Table 13.4, R293, R294), in a channel operational since `operAt`. A pair of
ROLE 0 is not evaluated (Table 13.3). PARTIAL stays set until both terminals have read SAFE together and then both ACTIVE (R293;
DEDUCED, assumption 12). -/
def pairStep (s : State) (operAt i : Nat) (x : Pair) : Pair :=
  if sinRole s i = 0 then { x with active := false, timer := none } else
  let both := x.fA && x.fB
  let none := !x.fA && !x.fB
  let x := { x with
    timer := pairTimer s operAt i x
    seenSafe := x.seenSafe || none
    discSafe := x.discSafe || (x.disc && none) }
  if s.cf.defaults || x.disc || !both then { x with active := false }
  else if x.active || x.seenSafe then { x with active := true, seenSafe := false, partialS := false }
  else { x with active := false, partialS := true }

/-- A disagreement of T_DISC + 1 ms or longer latches the fault (Table 13.5). -/
def discDue (s : State) (i : Nat) (x : Pair) : Bool :=
  match x.timer with
  | some t0 => !x.disc && sinRole s i != 0 && decide (t0 + tDisc s i + msNs ≤ s.sys.now)
  | none => false

/-- The reset input of channel `c` before and after an evaluation: a rising edge is timed (R321), unless the input has stood high
since safety operational (Table 4.3). -/
def resetLevel (c : Chan) (was is : Bool) (s : State) : State :=
  updC c (fun f =>
    if is && !was && f.rstLowSeen then
      { f with rstHigh := some s.sys.now, rstLowBefore := match f.rstLowSince with | some l => s.sys.now - l | none => 0, rstLowSince := none }
    else if !is then { f with rstLowSince := match f.rstLowSince with | some l => some l | none => some s.sys.now }
    else f) s

/-- The pair states of channel `c` (every 0.5 ms), discrepancy faults, the reset input, then the demands. -/
def evalPairs (c : Chan) (s : State) : State :=
  let was := match resetPair s with | some i => pairActive s c i | none => false
  let s := updC c (fun f => (List.range 8).foldl (fun f i => prSet i (pairStep s f.operAt i (prGet f i)) f) f) s
  let s := (List.range 8).foldl (fun s i => if discDue s i (prGet (getC s c) i) then latchDisc c i s else s) s
  let is := match resetPair s with | some i => pairActive s c i | none => false
  let s := resetLevel c was is s
  evalDemands c s

/-- The timer of pair `n` reaches the band of Table 13.5: more than T_DISC − 1 ms and less than T_DISC + 1 ms gives either outcome. -/
def discTimeout (c : Chan) (n : Nat) (s : State) : State :=
  let x := prGet (getC s c) n
  match x.timer with
  | none => s
  | some t0 =>
    let el := s.sys.now - t0
    if x.disc || sinRole s n = 0 || el + msNs ≤ tDisc s n then s
    else if tDisc s n + msNs ≤ el then latchDisc c n s
    else if bitAt (freeNow s) 0 then latchDisc c n (drawn s) else drawn s

def execDiscrepancyTimeout (t : Nat) (c : Chan) (n : Fin 8) (s : State) : Host.Outcome State Fault Refusal :=
  let s := advance t s
  .next (if s.sys.oper then discTimeout c n s else s)

/-! ### Drive monitors (R316 to R320) -/

/-- The step of one quadrature input: +1, −1, 0, or illegal (both lines change) (R317). -/
def quadStep (old new : BitVec 2) : Option Int :=
  if old = new then some 0
  else if old ^^^ new = 3 then none
  else if (old, new) = (0, 1) ∨ (old, new) = (1, 3) ∨ (old, new) = (3, 2) ∨ (old, new) = (2, 0) then some 1
  else some (-1)

/-- Monitor `d` is in use. -/
def dmUsed (s : State) (d : Nat) : Bool := cfgF s 0x4400 (0x30 + d)

/-- DRIVE latched for monitor `d` (R317); an IDLE monitor enters UNKNOWN (R318). -/
def latchDrive (c : Chan) (d : Nat) (s : State) : State :=
  latchFault c fltDrive (updC c (fun f => let m := dmGet f d
    dmSet d { m with latched := true, okSince := none, st := if m.st = 1 then 0 else m.st } f) s)

def encStep (c : Chan) (d e : Nat) (ab : BitVec 2) (s : State) : State :=
  let f := getC s c
  let m := dmGet f d
  let old := if e = 0 then m.ab1 else m.ab2
  let q := match old with | none => some (0 : Int) | some o => quadStep o ab
  let k := q.getD 0
  let m := if e = 0 then { m with ab1 := some ab, c1 := m.c1 + k } else { m with ab2 := some ab, c2 := m.c2 + k }
  let s := setC c (dmSet d { m with illegal := m.illegal || q.isNone } f) s
  if q.isNone && dmUsed s d then latchDrive c d s else s

def execEncoderEdge (t : Nat) (c : Chan) (m enc : Fin 2) (ab : BitVec 2) (s : State) : Host.Outcome State Fault Refusal :=
  let s := advance t s
  .next (if s.sys.oper then encStep c m enc ab s else s)

/-- Speed in mU/s from the edges of the last 8 ms and the edges per unit, rounded toward zero (R316; the rounding is a DESIGN CHOICE,
assumption 13). -/
def speedOf (edges : Int) (perUnit : Nat) : Int := Int.tdiv (edges * 125000) (perUnit : Int)

/-- The envelope of R319 step 2 at time t. -/
def envelope (s : State) (d : Nat) (m : Dm) : Nat :=
  let el := (s.sys.now - m.ts) / msNs
  let dl := cfgN s 0x4400 (0x3C + d)
  let top := m.v0 + cfgN s 0x4400 (0x40 + d)
  if el < dl then top
  else max (cfgN s 0x4400 (0x36 + d)) (top - cfgN s 0x4400 (0x3A + d) * ((s.sys.now - m.ts) - dl * msNs) / secNs)

/-- The counts of the last 8 ms: the difference to the count eight computations ago. -/
def windowCount (c : Int) (h : List Int) : Int := c - (h.getD 7 (h.getLast?.getD 0))

/-- The monitor enters STO: the channel opens its switch in every STO pair bound to it (R319 step 4). -/
def enterSto (c : Chan) (d : Nat) (s : State) : State :=
  let s := updC c (fun f => dmSet d { dmGet f d with st := 3 } f) s
  (List.range 4).foldl (fun s p => if sqFunc s p = 2 ∧ sqDm s p = d then openSwitch c p s else s) s

/-- `since`, where a condition holds; from now where it starts. -/
def holdSince (cond : Bool) (since : Option Nat) (now : Nat) : Option Nat :=
  if cond then some (since.getD now) else none

/-- A condition has held for `d` ns. -/
def heldFor (since : Option Nat) (d now : Nat) : Bool := match since with | some t0 => decide (t0 + d ≤ now) | none => false

/-- The states of monitor `d` in use after a computation (R318 to R320). -/
def monitorStep (c : Chan) (d : Nat) (s : State) : State :=
  let m := dmGet (getC s c) d
  if m.st = 0 then
    if !bget (getC s c).latch fltDrive && heldFor m.okSince (100 * msNs) s.sys.now then
      updC c (fun f => dmSet d { dmGet f d with st := 1 } f) s
    else s
  else if m.st = 2 then
    if envelope s d m < m.v then enterSto c d (latchDrive c d s)
    else if heldFor m.stillSince (cfgN s 0x4400 (0x38 + d) * msNs) s.sys.now ||
        decide (m.ts + cfgN s 0x4400 (0x3E + d) * msNs ≤ s.sys.now) then enterSto c d s
    else s
  else s

/-- One computation of monitor `d` by channel `c` (R316 to R320). The counters run and the speeds are computed whether or not the monitor
is in use; only one in use latches DRIVE and changes its state. -/
def speedStep (c : Chan) (d : Nat) (s : State) : State :=
  let f := getC s c
  let m := dmGet f d
  let used := dmUsed s d
  let v1 := speedOf (windowCount m.c1 m.h1) (cfgN s 0x4400 (0x32 + d))
  let v2 := speedOf (windowCount m.c2 m.h2) (cfgN s 0x4400 (0x34 + d))
  let v := max v1.natAbs v2.natAbs
  let tol := cfgN s 0x4400 (0x42 + d)
  let diffRun := if used && decide (tol + v / 32 < (v1 - v2).natAbs) then m.diffRun + 1 else 0
  let oppRun := if used && decide (v1 * v2 < 0) && decide (tol < v) then m.oppRun + 1 else 0
  let bad := m.illegal || decide (20 ≤ diffRun) || decide (20 ≤ oppRun)
  let m := { m with
    v := v, h1 := (m.c1 :: m.h1).take 8, h2 := (m.c2 :: m.h2).take 8, diffRun := diffRun, oppRun := oppRun, illegal := false
    stillSince := holdSince (decide (v ≤ cfgN s 0x4400 (0x36 + d))) m.stillSince s.sys.now
    okSince := holdSince (!bad) m.okSince s.sys.now }
  let s := setC c (dmSet d m f) s
  if used then
    monitorStep c d (if decide (20 ≤ diffRun) || decide (20 ≤ oppRun) then latchDrive c d s else s)
  else s

/-- The computation of both monitors (every 1 ms). -/
def driveCompute (c : Chan) (s : State) : State := evalDemands c ((List.range 2).foldl (fun s d => speedStep c d s) s)

def execDriveSpeedCompute (t : Nat) (c : Chan) (s : State) : Host.Outcome State Fault Refusal :=
  let s := advance t s
  .next (if s.sys.oper then driveCompute c s else s)

/-- DSTOPd is asserted when either channel asserts it (R319). -/
def dstop (s : State) (d : Nat) : Bool := (dmGet s.safA d).dstop || (dmGet s.safB d).dstop

/-! ### The mirror (R304, R325) -/

def b2 (hi lo : Nat) : Nat := put hi 16 16 + put lo 0 16

/-- SF_SIN; channel B's part is that of the last cross word that channel A has received. -/
def sfSin (s : State) : Nat :=
  put (match s.safA.xIn with | some w => w.pairs.toNat | none => 0) 24 8 + put (maskOf 8 fun i => pairActive s .a i) 16 8 +
  put (maskOf 8 fun i => (prGet s.safA i).fB) 8 8 + maskOf 8 fun i => (prGet s.safA i).fA

/-- SF_DISC, channel A's view. -/
def sfDisc (s : State) : Nat :=
  put (maskOf 8 fun i => (prGet s.safA i).partialS) 16 8 + put (maskOf 8 fun i => (prGet s.safA i).timer.isSome) 8 8 +
  maskOf 8 fun i => (prGet s.safA i).disc

/-- Low 24 bits of SF_STAT. -/
def sfStatLow (s : State) : Nat :=
  bitIf s.cf.safety 7 + bitIf s.sys.oper 6 + bitIf s.safB.zunk 5 + bitIf s.safA.zunk 4

/-- Low 24 bits of SF_OSTAT. -/
def sfOstatLow (s : State) : Nat :=
  put (s.safA.demand ||| s.safA.ss1 ||| s.safB.demand ||| s.safB.ss1).toNat 16 4 + put (s.safA.rwait ||| s.safB.rwait).toNat 12 4 +
  put (maskOf 4 fun p => swClosed s .b p) 8 4 + put (maskOf 4 fun p => swClosed s .a p) 4 4 + s.out.on.toNat

/-- SF_DMd and SF_DMENVd, channel A's view. -/
def sfDm (s : State) (d : Nat) : Nat :=
  let m := dmGet s.safA d
  put m.st 30 2 + bitIf (dstop s d) 29 + sat 24 m.v
def sfDmEnv (s : State) (d : Nat) : Nat :=
  let m := dmGet s.safA d
  if m.st = 2 then sat 24 (envelope s d m) else 0

/-- The mirror is posted every 1 ms from the cross words: what it shows of channel B is what the last word received by channel A says.
The counters are those latched at the last accounting interval. ZUNK_B and the outputs, which no cross word carries as shown, are posted as
they stand (DEDUCED, assumption 123). -/
def postMirror (s : State) : State :=
  let w := s.safA.xIn
  let l := s.out.lat
  let s := post 0x4C0000 (sfStatLow s)
    [(0x4C0004, sfSin s), (0x4C0008, sfDisc s), (0x4C000C, b2 (w.elim 0 fun w => w.latches.toNat) s.safA.latch.toNat),
     (0x4C0010, s.safA.mbFrame.toNat), (0x4C0014, w.elim 0 fun w => w.frame.toNat), (0x4C0018, l.mbA), (0x4C001C, l.mbB),
     (0x4C0020, l.gap), (0x4C0024, l.epd)] s
  post 0x4C0040 (sfOstatLow s)
    [(0x4C0044, l.tcnt), (0x4C0048, put l.ignored 16 16 + s.out.last % 8),
     (0x4C0050, sfDm s 0), (0x4C0054, sfDmEnv s 0), (0x4C0058, sfDm s 1), (0x4C005C, sfDmEnv s 1)] s

/-! ### Cross words (R287) -/

/-- The cross word of channel `c`. -/
def crossOf (s : State) (c : Chan) : Cross :=
  let f := getC s c
  { terms := BitVec.ofNat 16 (maskOf 16 fun k => if k % 2 = 0 then (prGet f (k / 2)).fA else (prGet f (k / 2)).fB)
    pairs := BitVec.ofNat 8 (maskOf 8 fun i => (prGet f i).active)
    disc := BitVec.ofNat 8 (maskOf 8 fun i => (prGet f i).disc)
    latches := f.latch
    frame := f.mbFrame
    crc := f.mbCrc
    got := f.mbGot
    sw := f.sw }

def sendCross (c : Chan) (s : State) : State :=
  match c with
  | .a => { s with out := { s.out with xB := some (crossOf s .a) } }
  | .b => { s with out := { s.out with xA := some (crossOf s .b) } }

def execCrossWordSend (t : Nat) (c : Chan) (s : State) : Host.Outcome State Fault Refusal :=
  let s := advance t s
  .next (if s.sys.oper then sendCross c s else s)

/-- Pairs in use whose state differs from the other channel's, counted in consecutive words. -/
def xDiffs (s : State) (f : Saf) (w : Cross) : SMap Nat :=
  (List.range 8).foldl (fun m i =>
    let diff := sinRole s i != 0 && (prGet f i).active != bget w.pairs i
    mset 0 m i (if diff then min 20 (mget 0 m i + 1) else 0)) f.xDiff

/-- Channel `c` takes a valid cross word: it adopts the other's discrepancy faults, compares pair states and mailboxes (R287). -/
def takeCross (c : Chan) (w : Cross) (s : State) : State :=
  let f := getC s c
  let s := setC c { f with xIn := some w, xAt := s.sys.now, xDiff := xDiffs s f w } s
  let s := (List.range 8).foldl (fun s i =>
    if bget w.disc i && sinRole s i != 0 && !(prGet (getC s c) i).disc then latchDisc c i s else s) s
  let f := getC s c
  if f.xDiff.any (fun e => decide (20 ≤ e.2)) || (f.mbGot && w.got && f.mbFrame == w.frame && f.mbCrc != w.crc) then
    latchFault c fltCross s
  else s

/-- A cross word arrives at channel `c`; an invalid one counts as none. Channel A's posts the mirror (R304). -/
def receiveCross (c : Chan) (valid : Bool) (s : State) : State :=
  let w := match c with | .a => s.out.xA | .b => s.out.xB
  let s := match c with
    | .a => { s with out := { s.out with xA := none } }
    | .b => { s with out := { s.out with xB := none } }
  let s := match w with | some w => if valid then takeCross c w s else s | none => s
  if c == .a then postMirror s else s

def execCrossWordReceive (t : Nat) (c : Chan) (valid : Bool) (s : State) : Host.Outcome State Fault Refusal :=
  let s := advance t s
  .next (if s.sys.oper then receiveCross c valid s else s)

def execCrossWordTimeout (t : Nat) (c : Chan) (s : State) : Host.Outcome State Fault Refusal :=
  let s := advance t s
  .next (if s.sys.oper && decide ((getC s c).xAt + 3 * msNs ≤ s.sys.now) then latchFault c fltCross s else s)

/-! ### Readback and test pulses (R312 to R315) -/

/-- The last opening of either switch of pair `p`, test pulses included. -/
def lastOpened (s : State) (p : Nat) : Nat :=
  let x := tpGet s p
  max (max ((mlook s.safA.opened p).getD 0) ((mlook s.safB.opened p).getD 0)) (if x.by_.isSome then x.start else 0)

/-- The second closing of pair `p`. -/
def lastClosed (s : State) (p : Nat) : Nat :=
  max ((mlook s.safA.closed p).getD 0) ((mlook s.safB.closed p).getD 0)

/-- Keep or drop an instant: the start of a condition. -/
def sinceMap (m : SMap Nat) (p : Nat) (cond : Bool) (now : Nat) : SMap Nat :=
  if cond then (match mlook m p with | some _ => m | none => mput m p now) else mdel m p

/-- Channel `c` reads the terminal of pair `p` back (R312); pairs of SQ_FUNC 0 raise no readback fault (Table 14.1). -/
def readback (c : Chan) (p : Nat) (on : Bool) (s : State) : State :=
  let f := getC s c
  let cl := swClosed s .a p && swClosed s .b p
  let now := s.sys.now
  let f := { f with
    rbOnSince := sinceMap f.rbOnSince p (on && !cl && decide (lastOpened s p + msNs < now)) now
    rbOffSince := sinceMap f.rbOffSince p (!on && cl && decide (lastClosed s p + 5 * msNs < now)) now
    offOpenSince := sinceMap f.offOpenSince p (!on && !swClosed s c p) now }
  let s := setC c f s
  if sqFunc s p != 0 && (heldFor (mlook f.rbOnSince p) msNs now || heldFor (mlook f.rbOffSince p) msNs now) then
    latchFault c fltReadback s
  else s

/-- An output terminal at `mv` reads on at a readback comparator, whose threshold is 5 V (R312). -/
def readsOn (mv : Int) : Bool := decide (5000 < mv)

def execReadbackSample (t : Nat) (c : Chan) (mv : List Int) (s : State) : Host.Outcome State Fault Refusal :=
  let s := advance t s
  let on := BitVec.ofNat 4 (maskOf 4 fun p => readsOn (mv.getD p 0))
  let s := if c == .a then { s with out := { s.out with on := on } } else s
  .next (if s.sys.oper then (List.range 4).foldl (fun s p => readback c p (bget on p) s) s else s)

def tpPeriod (s : State) (p : Nat) : Nat := cfgN s 0x4400 (0x1C + p) * msNs

/-- A demand on pair `p` is pending in either channel, an SS1 ramp of its monitor included (R315). -/
def tpBlocked (s : State) (p : Nat) : Bool :=
  bget (s.safA.demand ||| s.safA.ss1 ||| s.safB.demand ||| s.safB.ss1) p ||
  (sqFunc s p == 2 && ((dmGet s.safA (sqDm s p)).st == 2 || (dmGet s.safB (sqDm s p)).st == 2))

/-- A test pulse of another pair runs (R313). -/
def tpBusy (s : State) : Bool := s.out.tp.any fun e => e.2.by_.isSome

/-- A pulse that fell due at `d` may start: at once, or, where it fell due while another ran, 20 µs after that one's end (R313). -/
def pulseFree (d : Nat) (s : State) : Bool :=
  decide (d ≤ s.sys.now) && !tpBusy s && (decide (s.out.lastEnd ≤ d) || decide (s.out.lastEnd + 20000 ≤ s.sys.now))

/-- A pulse that is due starts: channel A's switch for odd numbers, B's for even ones (R313). -/
def startPulse (p : Nat) (s : State) : State :=
  let x := tpGet s p
  match x.due with
  | some d =>
    if pulseFree d s && pairOn s p && !tpBlocked s p then
      tpSet p { x with by_ := some (if x.num % 2 = 1 then .a else .b), start := s.sys.now, dropped := false,
                       due := some (s.sys.now + tpPeriod s p) } s
    else s
  | none => s

def execTestPulseStart (t : Nat) (p : Fin 4) (s : State) : Host.Outcome State Fault Refusal :=
  .next (startPulse p (advance t s))

/-- TP_WIDTH of pair `p`, ns. -/
def tpWidth (s : State) (p : Nat) : Nat := cfgN s 0x4400 (0x20 + p) * 1000

/-- A pulse ends, TP_WIDTH after its start. A channel whose readback, 10 µs before the end, read on latches READBACK; a discarded pulse is not judged
(R314, R315). The closing counts as the second closing of R312. -/
def endPulse (p : Nat) (onA onB : Bool) (s : State) : State :=
  let x := tpGet s p
  if x.by_.isNone || decide (s.sys.now < x.start + tpWidth s p) then s
  else
    let s := tpSet p { x with by_ := none, num := x.num + 1, dropped := false } s
    let s := { s with out := { s.out with lastEnd := s.sys.now, tests := if x.dropped then s.out.tests else satAdd 16 s.out.tests 1 } }
    if x.dropped then s
    else
      let s := bothC (fun c s => updC c (fun f => { f with closed := mput f.closed p s.sys.now }) s) s
      let s := if onA then latchFault .a fltReadback s else s
      if onB then latchFault .b fltReadback s else s

def execTestPulseEnd (t : Nat) (p : Fin 4) (mvA mvB : Int) (s : State) : Host.Outcome State Fault Refusal :=
  .next (endPulse p (readsOn mvA) (readsOn mvB) (advance t s))

/-! ### The restart interlock (R321 to R324) -/

/-- The clearing condition of latch `b` at a valid reset edge (Table 14.4). -/
def clearable (s : State) (c : Chan) (b : Nat) : Bool :=
  let f := getC s c
  let now := s.sys.now
  if b = fltClock then heldFor (match c with | .a => s.pw.mrcAOkSince | .b => s.pw.mrcBOkSince) secNs now
  else if b = fltSupply then heldFor s.sup.vossdOkSince (100 * msNs) now
  else if b = fltDisc then
    (List.range 8).all fun i => !(prGet f i).disc || ((prGet f i).discSafe && resetPair s != some i)
  else if b = fltReadback then
    (List.range 4).all fun p => sqFunc s p == 0 || heldFor (mlook f.offOpenSince p) (100 * msNs) now
  else if b = fltJammed then decide (secNs ≤ f.rstLowBefore)
  else if b = fltDrive then
    (List.range 2).all fun d => let m := dmGet f d
      !m.latched || (heldFor m.stillSince (cfgN s 0x4400 (0x38 + d) * msNs) now && heldFor m.okSince (100 * msNs) now)
  else false

/-- Clear the latches whose condition holds (R322); each pair's own discrepancy fault is cleared under R295, and its state is then
judged afresh, since the edge that clears a latch is also the restart edge (Table 14.4; DEDUCED, assumption 48). -/
def clearLatches (c : Chan) (s : State) : State :=
  let now := (List.range 8).filter fun b => clearable s c b
  updC c (fun f =>
    let f := (List.range 8).foldl (fun f i =>
      let x := prGet f i
      if x.disc && x.discSafe && resetPair s != some i then prSet i (pairStep s f.operAt i { x with disc := false, discSafe := false }) f else f) f
    let f := if now.contains fltDrive then { f with dm0 := { f.dm0 with latched := false }, dm1 := { f.dm1 with latched := false } } else f
    { f with latch := now.foldl (fun l b => bset l b false) f.latch }) s

/-- Monitor `d` moves from STO or UNKNOWN to IDLE (R318). -/
def edgeMonitor (c : Chan) (d : Nat) (s : State) : State :=
  let f := getC s c
  let m := dmGet f d
  if (m.st = 0 ∨ m.st = 3) ∧ dmUsed s d = true ∧ bget f.latch fltDrive = false ∧
      heldFor m.stillSince (cfgN s 0x4400 (0x38 + d) * msNs) s.sys.now = true ∧ heldFor m.okSince (100 * msNs) s.sys.now = true then
    setC c (dmSet d { m with st := 1 } f) s
  else s

/-- Every switch-on condition of R322 is met for pair `p` in channel `c`; SAVE counts from its t0 on (Table 2.7). -/
def mayClose (s : State) (c : Chan) (p : Nat) : Bool :=
  let f := getC s c
  bget (s.safA.rwait ||| s.safB.rwait) p && sqFunc s p != 0 && !demandNow s c p && !demandSs1 s c p && f.latch == 0 &&
  (sqFunc s p != 2 || (dmGet f (sqDm s p)).st == 1) && s.pw.st != 1 && s.pw.st != 2 && s.sup.vstate != 2

/-- Channel `c` closes its switch in pair `p`. Where both are then closed the pair is on: its first test pulse is due after
TP_PERIOD, and DSTOP of an STO pair's monitor is released (R313, R320). -/
def closeSwitch (c : Chan) (p : Nat) (s : State) : State :=
  let s := updC c (fun f => { f with
    sw := bset f.sw p true
    rwait := bset f.rwait p false
    closed := if bget f.sw p then f.closed else mput f.closed p s.sys.now }) s
  if pairOn s p then
    let s := tpSet p { due := some (s.sys.now + tpPeriod s p), num := 1, by_ := none, start := 0, dropped := false } s
    if sqFunc s p = 2 then
      bothC (fun c s => updC c (fun f => dmSet (sqDm s p) { dmGet f (sqDm s p) with dstop := false } f) s) s
    else s
  else s

/-- What SF_RST shows is channel A's view (R325). -/
def noteEdge (c : Chan) (last : Nat) (ignored : Bool) (s : State) : State :=
  if c == .a then
    { s with out := { s.out with last := last, ignored := if ignored then satAdd 16 s.out.ignored 1 else s.out.ignored } }
  else s

/-- A valid reset edge in channel `c` (R322): latches, then monitors, then switches. -/
def validEdge (c : Chan) (s : State) : State :=
  let l0 := (getC s c).latch
  let s := clearLatches c s
  let s := edgeMonitor c 1 (edgeMonitor c 0 s)
  let go := (List.range 4).filter fun p => mayClose s c p
  let acted := decide ((getC s c).latch ≠ l0) || !go.isEmpty
  let s := go.foldl (fun s p => closeSwitch c p s) s
  noteEdge c (if acted then 1 else 4) (!acted) s

/-- The falling edge of the reset pulse (Table 14.3). -/
def resetFall (c : Chan) (s : State) : State :=
  match (getC s c).rstHigh with
  | none => s
  | some h =>
    let d := s.sys.now - h
    let s := updC c (fun f => { f with rstHigh := none, rstLowSince := some s.sys.now }) s
    let jam := fun s => noteEdge c 3 false (latchFault c fltJammed s)
    if d ≤ 99 * msNs then noteEdge c 2 true s
    else if d < 101 * msNs then
      if bitAt (freeNow s) 0 then validEdge c (drawn s) else noteEdge c 2 true (drawn s)
    else if d ≤ 2999 * msNs then validEdge c s
    else if d < 3001 * msNs then
      if bitAt (freeNow s) 0 then validEdge c (drawn s) else jam (drawn s)
    else jam s

def execResetFallingEdge (t : Nat) (c : Chan) (s : State) : Host.Outcome State Fault Refusal :=
  let s := advance t s
  .next (if s.sys.oper then resetFall c s else s)

/-- JAMMED is latched; the falling edge of the pulse is ignored (Table 14.3). -/
def jamNow (c : Chan) (s : State) : State := noteEdge c 3 false (latchFault c fltJammed (updC c (fun f => { f with rstHigh := none }) s))

/-- The reset input has been HIGH for too long (Table 14.3), or has stood high for more than 3 s since safety operational
(Table 4.3). -/
def resetJam (c : Chan) (s : State) : State :=
  let f := getC s c
  match f.rstHigh with
  | some h =>
    let d := s.sys.now - h
    if 3001 * msNs ≤ d then jamNow c s
    else if 2999 * msNs < d then
      if bitAt (freeNow s) 0 then jamNow c (drawn s) else drawn s
    else s
  | none =>
    let high := match resetPair s with | some i => (prGet f i).active | none => false
    if high && !f.rstLowSeen && decide (f.operAt + 3000 * msNs < s.sys.now) then jamNow c s else s

def execResetJamTimeout (t : Nat) (c : Chan) (s : State) : Host.Outcome State Fault Refusal :=
  let s := advance t s
  .next (if s.sys.oper then resetJam c s else s)

/-- The state of both channels after a reset that includes the control plane, and before safety operational (R105, R324): switches
open, restart interlock armed, filtered readings SAFE, latches clear, monitors UNKNOWN. -/
def safReset : Saf := {}

/-- The counters latched at the accounting interval (R304, R325): CRCFAIL, STALE, LATE, UNKNOWN; GAP; EPD; TESTS, DISCARDED, IGNORED. -/
def mbCount (f : Saf) : Nat := put f.crcFail 24 8 + put f.staleN 16 8 + put f.lateN 8 8 + put f.unknownN 0 8

def clearCounts (f : Saf) : Saf := { f with crcFail := 0, staleN := 0, lateN := 0, unknownN := 0, gapN := 0, epd := 0 }

/-- They are posted with the next mirror result. -/
def latchSafety (s : State) : State :=
  let o := s.out
  { s with
    safA := clearCounts s.safA
    safB := clearCounts s.safB
    out := { o with
      tests := 0, discarded := 0, ignored := 0
      lat := { mbA := mbCount s.safA, mbB := mbCount s.safB, gap := b2 s.safB.gapN s.safA.gapN, epd := b2 s.safB.epd s.safA.epd
               tcnt := b2 o.tests o.discarded, ignored := o.ignored } } }

end Sys2Proof.Machine
end

