-- ==== Sys2Proof/Machine/Axle.lean ====
section
/-! DEFINITION. Machine/Axle.lean: axle counting, sections and track links (chapter 17). -/

namespace Sys2Proof.Machine

/-! ### Configuration of heads, gate pairs and counting points -/

def headCfg (s : State) (h : Nat) : Nat := cfgN s 0x5100 (1 + h)
def headOn (s : State) (h : Nat) : Bool := bitAt (headCfg s h) 31
def headA (s : State) (h : Nat) : Nat := fld (headCfg s h) 0 4
def headB (s : State) (h : Nat) : Nat := fld (headCfg s h) 4 4
def gateCfg (s : State) (g : Nat) : Nat := cfgN s 0x3400 (0x20 + g)
def gateOn (s : State) (g : Nat) : Bool := bitAt (gateCfg s g) 31
def gateA (s : State) (g : Nat) : Nat := fld (gateCfg s g) 16 10
def gateB (s : State) (g : Nat) : Nat := fld (gateCfg s g) 0 10

/-- A counting point entry (Table 17.2). -/
structure CpEntry where
  src : Nat
  ref : Nat
  aside : Nat
  bside : Nat
  repoch : Nat
  deriving DecidableEq, Repr

/-- Entry `c` of a CP_TABLE value. -/
def cpOf (tab : List Byte) (c : Nat) : CpEntry :=
  ⟨leAt tab (8 * c) 1, leAt tab (8 * c + 1) 1, leAt tab (8 * c + 2) 1, leAt tab (8 * c + 3) 1, leAt tab (8 * c + 4) 2⟩

def cpAt (s : State) (c : Nat) : CpEntry := cpOf (cfgB s 0x5100 0x23) c

/-- Counting points that use a source: SRC and REF. -/
def cpsWith (s : State) (src ref : Nat) : List Nat :=
  (List.range 32).filter fun c => (cpAt s c).src == src && (cpAt s c).ref == ref

/-- Counting points that bound section `k`. -/
def cpsOf (s : State) (k : Nat) : List Nat :=
  (List.range 32).filter fun c => (cpAt s c).src != 0 && ((cpAt s c).aside == k || (cpAt s c).bside == k)

/-- Sections that counting point `c` bounds; 0xFF bounds none. -/
def secsOf (s : State) (c : Nat) : List Nat :=
  [(cpAt s c).aside, (cpAt s c).bside].filter fun k => decide (k < 32)

/-- An event of Table 17.3 at counting points. -/
def disturbCps (cause : Nat) (cps : List Nat) (s : State) : State :=
  (cps.flatMap (secsOf s)).foldl (fun s k => disturb cause k s) s

def hdGet (s : State) (h : Nat) : Head := mget {} s.ax.heads h
def hdSet (h : Nat) (x : Head) (s : State) : State := { s with ax := { s.ax with heads := mset {} s.ax.heads h x } }
def gtGet (s : State) (g : Nat) : Gate := mget {} s.ax.gates g
def gtSet (g : Nat) (x : Gate) (s : State) : State := { s with ax := { s.ax with gates := mset {} s.ax.gates g x } }
def tlGet (s : State) (l : Nat) : Tl := if l = 0 then s.ax.tl0 else s.ax.tl1
def tlSet (l : Nat) (x : Tl) (s : State) : State :=
  if l = 0 then { s with ax := { s.ax with tl0 := x } } else { s with ax := { s.ax with tl1 := x } }

/-! ### The passage sequence (Table 17.1) -/

/-- What one evaluation does: the next phase, a passage (some true = BA), a disturbance. -/
structure PhStep where
  ph : Ph
  pass : Option Bool
  dist : Bool
  deriving DecidableEq, Repr

def phGo (ph : Ph) : PhStep := ⟨ph, none, false⟩
def phDist : PhStep := ⟨.wait, none, true⟩

/-- Table 17.1: the phase and the channel states; `gap` = a gate pair with GATE_GAP > 0; `late` = T+ or T− has lasted more than
GATE_GAP evaluations. -/
def phStep (ph : Ph) (a b gap late : Bool) : PhStep :=
  match ph, a, b with
  | .idle, false, false => phGo .idle
  | .idle, true, false => phGo .a1
  | .idle, false, true => phGo .b1
  | .idle, true, true => phDist
  | .a1, false, false => if gap then phGo .tp else phDist
  | .a1, true, false => phGo .a1
  | .a1, false, true => phDist
  | .a1, true, true => phGo .mp
  | .mp, false, true => phGo .b2
  | .mp, true, true => phGo .mp
  | .mp, _, false => phDist
  | .b2, false, false => ⟨.idle, some false, false⟩
  | .b2, false, true => phGo .b2
  | .b2, true, _ => phDist
  | .b1, false, false => if gap then phGo .tm else phDist
  | .b1, true, false => phDist
  | .b1, false, true => phGo .b1
  | .b1, true, true => phGo .mm
  | .mm, true, false => phGo .a2
  | .mm, true, true => phGo .mm
  | .mm, false, _ => phDist
  | .a2, false, false => ⟨.idle, some true, false⟩
  | .a2, true, false => phGo .a2
  | .a2, _, true => phDist
  | .tp, false, false => if late then phDist else phGo .tp
  | .tp, false, true => phGo .b2
  | .tp, true, _ => phDist
  | .tm, false, false => if late then phDist else phGo .tm
  | .tm, true, false => phGo .a2
  | .tm, _, true => phDist
  | .wait, false, false => phGo .idle
  | .wait, _, _ => phGo .wait

/-! ### Health and section states (R373 to R377) -/

/-- A counting point is healthy (R373). -/
def cpHealthy (s : State) (c : Nat) : Bool :=
  let e := cpAt s c
  if e.src = 1 then let h := hdGet s e.ref; headOn s e.ref && !h.faulty && !h.overBridge && h.ph != .wait
  else if e.src = 2 then let g := gtGet s e.ref; gateOn s e.ref && !g.blind && g.ph != .wait
  else if e.src = 3 then let l := tlGet s (fld e.ref 5 1); l.up && bget l.health (fld e.ref 0 5)
  else false

/-- A passage is in progress at a counting point (R364, R372). -/
def cpInPassage (s : State) (c : Nat) : Bool :=
  let e := cpAt s c
  (if e.src = 1 then (hdGet s e.ref).ph != .idle else if e.src = 2 then (gtGet s e.ref).ph != .idle else false) ||
  s.ax.queue.any (fun p => p.cp == c) || s.ax.writing.any (fun p => p.cp == c)

/-- The zones of section `k`. -/
def secZones (s : State) (k : Nat) : List Nat :=
  let b := cfgB s (0x5200 + k) 5
  (List.range (b.length / 2)).map fun j => leAt b (2 * j) 2

/-- The zones of the section are clear: the last ZCLR_FRAMES accepted mailboxes showed every one EMPTY. -/
def secZclear (s : State) (k : Nat) : Bool :=
  !(secZones s k).isEmpty && decide (cfgN s (0x5200 + k) 6 ≤ (secGet s k).zrun)

def secProgress (s : State) (k : Nat) : Bool := (cpsOf s k).any (cpInPassage s)
def secHealthy (s : State) (k : Nat) : Bool := (cpsOf s k).all (cpHealthy s)

/-- Table 17.4. -/
def secTable (s : State) (k : Nat) : Nat :=
  if (secGet s k).count ≠ 0 then 2
  else if secProgress s k then 2
  else if !secHealthy s k then 2
  else if (secZones s k).isEmpty || secZclear s k then 3 else 2

/-- Optical verification of a PREPARATORY section (R377). -/
def optVerified (s : State) (k : Nat) : Bool :=
  cfgF s (0x5200 + k) 7 && (secGet s k).count == 0 && !secProgress s k && secHealthy s k && decide (3 ≤ (secGet s k).zprep)

def secGo (k st : Nat) (s : State) : State :=
  let x := secGet s k
  if x.st = st then s else secChange k (secSet k { x with st := st } s)

/-- Section `k` is brought up to date (R374 to R377). -/
def secUpdate (k : Nat) (s : State) : State :=
  let x := secGet s k
  if (cpsOf s k).isEmpty then
    let s := secSet k { x with st := 0, cause := 0 } s
    if x.st = 0 then s else secChange k s
  else if x.st = 0 then s
  else if x.count < 0 ∨ 1023 < x.count then disturb 9 k s
  else if x.st = 1 then
    if optVerified s k then secGo k 3 s
    else if x.rose ∧ x.count = 0 then secGo k (secTable s k) s
    else s
  else secGo k (secTable s k) s

def secUpdateAll (s : State) : State := (List.range 32).foldl (fun s k => secUpdate k s) s

/-! ### Passages and their writes (R372, R379) -/

/-- The sample of channel `n` as the evaluator sees it. -/
def tfGet (s : State) (n : Nat) : Tf := mget {} s.tf.ch n

/-- Channels of the enabled heads. -/
def headChans (s : State) : List Nat := ((List.range 8).filter (headOn s)).flatMap fun h => [headA s h, headB s h]

/-- Of the channels of the heads some have delivered their sample of this instant and others not yet: the evaluation instant is not
complete, and its passages enter one write together (R372). -/
def instantOpen (s : State) : Bool :=
  let at_ := (headChans s).filter fun n => (tfGet s n).excited
  at_.any (fun n => (tfGet s n).lastAt == s.sys.now) && at_.any fun n => (tfGet s n).lastAt != s.sys.now

def secCounts (s : State) : SMap Int := mtab 0 32 fun k => (secGet s k).count

/-- A write of the counts starts where one is due and none runs (R379): it holds the counts as they stand, and the passages that wait. -/
def startWrite (s : State) : State :=
  if s.ax.wstate = 0 ∧ (s.ax.queue ≠ [] ∨ s.ax.dirty = true) ∧ instantOpen s = false then
    { s with ax := { s.ax with wstate := 1, writing := s.ax.queue, wcounts := secCounts s, queue := [], dirty := false } }
  else s

/-- A passage at the counting points of a source: detected, and counted when copy A is written. -/
def passageAt (src ref : Nat) (ba vehicle : Bool) (s : State) : State :=
  (cpsWith s src ref).foldl (fun s c =>
    { s with ax := { s.ax with queue := s.ax.queue ++ [⟨c, ba, vehicle, s.sys.sysTime, epochOf s.cf.epochs 2 c⟩] } }) s

/-- The change of a count by passages, saturating (R374). -/
def countAdd (x d : Int) : Int := clampI (-32768) 32767 (x + d)

/-- What a passage makes of the count of section `k`: AB adds to BSIDE and takes from ASIDE, BA the reverse (R370). -/
def passAdd (s : State) (p : Pass) (k : Nat) (x : Int) : Int :=
  let e := cpAt s p.cp
  let up := if p.ba then e.aside else e.bside
  let dn := if p.ba then e.bside else e.aside
  if k = up then countAdd x 1 else if k = dn then countAdd x (-1) else x

/-- One passage applied to the counts. -/
def applyPass (s : State) (p : Pass) : State :=
  (secsOf s p.cp).foldl (fun s k => secSet k { secGet s k with count := passAdd s p k (secGet s k).count } s) s

/-- A passage has the epoch that its counting point has now (R50). -/
def passFresh (s : State) (p : Pass) : Bool := p.epoch == epochOf s.cf.epochs 2 p.cp

/-- A passage of an older epoch is discarded and counted, and the sections bounded become DISTURBED (R50, R51). -/
def passDiscard (s : State) (p : Pass) : State :=
  disturbCps 8 [p.cp] { s with ax := { s.ax with epdisc := satAdd 16 s.ax.epdisc 1 } }

/-- PEER of a link; 0xFFFF = off (R380). -/
def tlPeer (s : State) (l : Nat) : Nat := cfgN s 0x5300 (1 + l)

/-- EVENT frames are due on each link in use whose CPEXP names the counting point (R381). -/
def exportPass (s : State) (p : Pass) : State :=
  (List.range 2).foldl (fun s l =>
    if tlPeer s l != 0xFFFF && bitAt (cfgN s 0x5300 (3 + l)) p.cp then tlSet l { tlGet s l with evq := (tlGet s l).evq ++ [p] } s else s) s

/-- A PREPARATORY section whose count has risen above 0 (R377). -/
def noteRose (s : State) : State :=
  (List.range 32).foldl (fun s k =>
    let x := secGet s k
    if x.st = 1 ∧ 0 < x.count ∧ x.rose = false then secSet k { x with rose := true } s else s) s

/-- Copy A is written: every passage of the write is counted together (R372), and the results are tested after all of them. Counts out of
range disturb the section from any state (cause 9). The copy holds the counts of the start of the write and its passages. -/
def copyAWritten (s : State) : State :=
  let s := startWrite s
  if s.ax.wstate = 1 then
    let ps := s.ax.writing.filter (passFresh s)
    let s := (s.ax.writing.filter fun p => !passFresh s p).foldl passDiscard s
    let image := mtab 0 32 fun k => ps.foldl (fun x p => passAdd s p k x) (mget 0 s.ax.wcounts k)
    let s := ps.foldl applyPass s
    let s := ps.foldl exportPass s
    let s := { s with ax := { s.ax with
      writing := [], wstate := 2, passages := satAdd 16 s.ax.passages ps.length
      cntA := ⟨max s.ax.cntA.num s.ax.cntB.num + 1, image⟩ } }
    let s := noteRose s
    let hit := ps.flatMap fun p => secsOf s p.cp
    let s := (List.range 32).foldl (fun s k =>
      let c := (secGet s k).count
      if hit.contains k ∧ (c < 0 ∨ 1023 < c) then disturb 9 k s else s) s
    secUpdateAll s
  else s

def copyBWritten (s : State) : State :=
  if s.ax.wstate = 2 then startWrite { s with ax := { s.ax with wstate := 0, cntB := s.ax.cntA } } else s

def execCountCopyAWritten (t : Nat) (s : State) : Host.Outcome State Fault Refusal := .next (copyAWritten (advance t s))
def execCountCopyBWritten (t : Nat) (s : State) : Host.Outcome State Fault Refusal := .next (copyBWritten (advance t s))

/-! ### Heads (R363 to R368) -/

/-- Full scale of a range in µV (Table 16.3). -/
def rangeFs (r : Nat) : Nat := [400000, 100000, 25000, 6250].getD r 0

/-- A sample as delivered: range, status and data (Table 16.2). -/
def smpRange (w : BitVec 24) : Nat := fld w.toNat 22 2
def smpStatus (w : BitVec 24) : Nat := fld w.toNat 20 2
def smpData (w : BitVec 24) : Int := toS 20 w.toNat

/-- The magnitude of a sample against a threshold in µV: |DATA| × full scale < threshold × 2^19. -/
def smpBelow (w : BitVec 24) (th : Nat) : Bool := decide ((smpData w).natAbs * rangeFs (smpRange w) < th * 524288)
def smpAbove (w : BitVec 24) (th : Nat) : Bool := decide (th * 524288 < (smpData w).natAbs * rangeFs (smpRange w))

/-- One channel of a head: on or off after ON_N consecutive OK samples (R363). -/
def headChan (s : State) (h : Nat) (on : Bool) (run : Nat) (w : BitVec 24) : Bool × Nat :=
  let cfg := headCfg s h
  let thOn := cfgN s 0x5100 (0x10 + h)
  let thOff := cfgN s 0x5100 (0x18 + h)
  let pol := bitAt cfg 30
  let turns := if on then (if pol then smpBelow w thOff else smpAbove w thOff)
    else (if pol then smpAbove w thOn else smpBelow w thOn)
  if turns then (if fld cfg 24 4 ≤ run + 1 then (!on, 0) else (on, run + 1)) else (on, 0)

/-- A passage at head `h`. -/
def headPass (h : Nat) (ba : Bool) (s : State) : State :=
  let x := hdGet s h
  let s := hdSet h (if ba then { x with passBA := satAdd 16 x.passBA 1 } else { x with passAB := satAdd 16 x.passAB 1 }) s
  passageAt 1 h ba false s

/-- One channel of a head at a sample, where the head is not blind: an OK sample may turn it, any other ends its run. -/
def headSide (s : State) (h : Nat) (on : Bool) (run : Nat) (w : BitVec 24) : Bool × Nat :=
  if smpStatus w = 0 then headChan s h on run w else (on, 0)

/-- One evaluation of head `h`, both of whose channels have delivered their sample of this instant (R365). -/
def headEval (h : Nat) (s : State) : State :=
  let x := hdGet s h
  let wA := (tfGet s (headA s h)).sample
  let wB := (tfGet s (headB s h)).sample
  let now := s.sys.now
  let off := fun (w : BitVec 24) => smpStatus w == 1 || smpStatus w == 2
  let past := fun (t0 : Nat) => decide (t0 + cfgN s 0x5100 0x20 * 1000 < now)
  if off wA || off wB then
    let t0 := x.blindFrom.getD now
    hdSet h { x with runA := 0, runB := 0, offSince := none, blindFrom := some t0, overBridge := x.overBridge || past t0 } s
  else
    let ok := smpStatus wA == 0 && smpStatus wB == 0
    let late := x.blindFrom.any past
    let a := headSide s h x.onA x.runA wA
    let b := headSide s h x.onB x.runB wB
    let x := { x with onA := a.1, runA := a.2, onB := b.1, runB := b.2, blindFrom := none
                      offSince := if !ok || a.1 || b.1 then none else some (x.offSince.getD now) }
    if late then
      disturbCps 4 (cpsWith s 1 h) (hdSet h { x with overBridge := false, ph := if x.faulty then .idle else .wait } s)
    else if x.faulty || !ok then hdSet h x s
    else
      let st := phStep x.ph x.onA x.onB false false
      let s := hdSet h { x with ph := st.ph, overBridge := x.overBridge && !st.dist } s
      let s := if st.dist then disturbCps 3 (cpsWith s 1 h) s else s
      match st.pass with | some ba => headPass h ba s | none => s

/-- The heads whose two channels have delivered at this instant, channel `n` among them (R365). -/
def headsDue (s : State) (n : Nat) : List Nat :=
  (List.range 8).filter fun h =>
    headOn s h && (headA s h == n || headB s h == n) &&
    (tfGet s (headA s h)).lastAt == s.sys.now && (tfGet s (headB s h)).lastAt == s.sys.now

/-- A sample of channel `n` reaches the evaluator. -/
def axleSample (n : Nat) (s : State) : State :=
  let s := (headsDue s n).foldl (fun s h => headEval h s) s
  startWrite (secUpdateAll s)

/-- Head `h` is FAULTY; where it was not, the sections that its counting points bound become DISTURBED (R368). -/
def headFaulty (h : Nat) (s : State) : State :=
  let x := hdGet s h
  let s := hdSet h { x with faulty := true, ph := .idle, offSince := none } s
  if x.faulty then s else disturbCps 5 (cpsWith s 1 h) s

/-- Channel `n` is OPEN: every head that uses it becomes FAULTY. -/
def headsFaulty (n : Nat) (s : State) : State :=
  secUpdateAll (((List.range 8).filter fun h => headOn s h && (headA s h == n || headB s h == n)).foldl (fun s h => headFaulty h s) s)

/-- Heads that a set enables on, or moves to, a channel that is OPEN. -/
def headsOpen (s : State) : State :=
  ((List.range 8).filter fun h => headOn s h && ((tfGet s (headA s h)).open_ || (tfGet s (headB s h)).open_)).foldl
    (fun s h => headFaulty h s) s

/-- A FAULTY head becomes healthy: no channel OPEN, and both have delivered OK samples reading off for 1.0 s (R368). -/
def headHealthy (h : Nat) (s : State) : State :=
  let x := hdGet s h
  if x.faulty && !(tfGet s (headA s h)).open_ && !(tfGet s (headB s h)).open_ && heldFor x.offSince secNs s.sys.now then
    secUpdateAll (hdSet h { x with faulty := false } s)
  else s

def execHeadHealthyTimer (t : Nat) (h : Fin 8) (s : State) : Host.Outcome State Fault Refusal := .next (headHealthy h (advance t s))

/-! ### Gate pairs (R365, R369) -/

/-- A gate in channel A's mailbox: some true = on, some false = off, none = blind. -/
def gateReads (s : State) (z : Nat) : Option Bool :=
  let st := fld (mget 0 s.safA.mbWords z).toNat 12 2
  if s.safA.zdisc.contains z then some true
  else if st = 0 then some true else if st = 1 then some false else none

/-- One evaluation of gate pair `g`; `mb` = a mailbox was accepted (else a deadline passed without one). -/
def gateEval (mb : Bool) (g : Nat) (s : State) : State :=
  let x := gtGet s g
  match (if mb then gateReads s (gateA s g) else none), (if mb then gateReads s (gateB s g) else none) with
  | some a, some b =>
    let gap := cfgN s 0x5100 0x22
    let st := phStep x.ph a b (decide (0 < gap)) (decide (gap < x.gapN + 1))
    let gapN := if st.ph = .tp ∨ st.ph = .tm then (if x.ph = st.ph then x.gapN + 1 else 1) else 0
    let s := gtSet g { x with onA := a, onB := b, blind := false, blindN := 0, ph := st.ph, gapN := gapN } s
    let s := if st.dist then disturbCps 3 (cpsWith s 2 g) s else s
    match st.pass with | some ba => passageAt 2 g ba true s | none => s
  | _, _ =>
    let n := x.blindN + 1
    let late := n = cfgN s 0x5100 0x21 + 1
    let s := gtSet g { x with blind := true, blindN := min n 15, ph := if late then .wait else x.ph } s
    if late then disturbCps 4 (cpsWith s 2 g) s else s

/-- The zone evidence of section `k` at a mailbox of frame `n` accepted by channel A, or at a deadline without one. -/
def zoneEvidence (mb : Bool) (k : Nat) (s : State) : State :=
  let x := secGet s k
  let zs := secZones s k
  if zs.isEmpty then s
  else if mb then
    let empty := zs.all fun z => !s.safA.zdisc.contains z && fld (mget 0 s.safA.mbWords z).toNat 12 2 == 1
    let next := x.zlast + 1 == s.safA.mbFrame
    let run := fun (r : Nat) => if empty then (if next || r == 0 then min 15 (r + 1) else 1) else 0
    secSet k { x with zrun := run x.zrun, zprep := run x.zprep, zlast := s.safA.mbFrame } s
  else secSet k { x with zrun := 0, zprep := 0 } s

/-- Gate pairs and zone evidence at an accepted mailbox, or at a deadline passed without one (R365). -/
def axleMailbox (mb : Bool) (s : State) : State :=
  if hasTrack s && !saveStopped s then
    let s := (List.range 16).foldl (fun s g => if gateOn s g then gateEval mb g s else s) s
    let s := (List.range 32).foldl (fun s k => zoneEvidence mb k s) s
    startWrite (secUpdateAll s)
  else s

/-! ### Section resets (R376) -/

/-- The evaluator accepts a request only for a DISTURBED section whose bounding points are all healthy and none in passage; any other
is refused and counted. -/
def sectionRequest (k : Nat) (s : State) : State :=
  let x := secGet s k
  if x.st = 0 ∧ (cpsOf s k).isEmpty = false ∧ secHealthy s k = true ∧ secProgress s k = false then
    let s := secChange k (secSet k { x with st := 1, count := 0, zprep := 0, rose := false } s)
    startWrite (if x.count = 0 then s else { s with ax := { s.ax with dirty := true } })
  else { s with ax := { s.ax with rstref := satAdd 16 s.ax.rstref 1 } }

/-- Channel A's SECTRESET pairs at a pair evaluation: the rising and falling edges are timed; a jammed pair is freed by 1 s of LOW. -/
def sectLevels (was : List Bool) (s : State) : State :=
  (List.range 8).foldl (fun s i =>
    let is := pairActive s .a i
    let w := was.getD i false
    if sinRole s i ≠ 4 then s
    else if is && !w then
      let free := match mlook s.ax.srLow i with | some l => decide (l + secNs ≤ s.sys.now) | none => true
      { s with ax := { s.ax with srHigh := mput s.ax.srHigh i s.sys.now,
                                 srJam := if free then mset false s.ax.srJam i false else s.ax.srJam } }
    else if !is && w then { s with ax := { s.ax with srLow := mput s.ax.srLow i s.sys.now } }
    else s) s

/-- PAIR_EVALUATE: the pairs of a channel; channel A's levels also feed the SECTRESET pairs. -/
def pairEvaluate (c : Chan) (s : State) : State :=
  if !s.sys.oper then s
  else
    let was := (List.range 8).map (pairActive s .a)
    let s := evalPairs c s
    match c with | .a => if hasTrack s then sectLevels was s else s | .b => s

def execPairEvaluate (t : Nat) (c : Chan) (s : State) : Host.Outcome State Fault Refusal := .next (pairEvaluate c (advance t s))

/-- The HIGH period of pair `i` that has just ended, if its falling edge is at most 1 ms old. -/
def sectPulse (s : State) (i : Nat) : Option Nat :=
  match mlook s.ax.srHigh i, mlook s.ax.srLow i with
  | some h, some l => if h ≤ l ∧ s.sys.now ≤ l + msNs ∧ mget false s.ax.srJam i = false then some (l - h) else none
  | _, _ => none

/-- A falling edge of a SECTRESET pair in RST_SIN: valid, refused or free under the limits of Table 14.3. -/
def sectEdge (k : Nat) (s : State) : State :=
  let ds := ((List.range 8).filter fun i => bitAt (cfgN s (0x5200 + k) 8) i && sinRole s i == 4).filterMap (sectPulse s)
  if ds.any fun d => decide (101 * msNs ≤ d) && decide (d ≤ 2999 * msNs) then sectionRequest k s
  else if ds.any fun d => decide (99 * msNs < d) && decide (d < 3000 * msNs) then
    if bitAt (freeNow s) 0 then sectionRequest k (drawn s) else drawn s
  else s

/-- SECTION_RESET: from a SECTRESET pair, or from the RESET object inside a safety session on the writing path. -/
def sectionReset (k : Nat) (src : Option Path) (s : State) : State :=
  if hasTrack s && s.sys.ctrlUp && !saveStopped s then
    match src with
    | none => sectEdge k s
    | some p => if sessionOn s p then sectionRequest k (touchSession p s) else s
  else s

def execSectionReset (t : Nat) (sec : Fin 32) (src : Option Path) (s : State) : Host.Outcome State Fault Refusal :=
  .next (sectionReset sec src (advance t s))

/-- A HIGH period of 3 s or longer raises SECTRST_JAM and jams the pair (R376). -/
def sectJam (i : Nat) (s : State) : State :=
  match mlook s.ax.srHigh i with
  | some h =>
    if sinRole s i = 4 ∧ pairActive s .a i = true ∧ mget false s.ax.srJam i = false ∧ h + 3000 * msNs ≤ s.sys.now then
      raise evSectrstJam { s with ax := { s.ax with srJam := mset false s.ax.srJam i true } }
    else s
  | none => s

def execSectrstJamTimeout (t : Nat) (i : Fin 8) (s : State) : Host.Outcome State Fault Refusal :=
  .next (sectJam i (advance t s))

/-! ### Section words (R378) -/

def sendSecWord (s : State) : State :=
  { s with out := { s.out with secWord := some (mtab 0 32 (fun k => (secGet s k).st), s.out.secSeq), secSeq := s.out.secSeq + 1 } }

def execSectionWordSend (t : Nat) (s : State) : Host.Outcome State Fault Refusal :=
  let s := advance t s
  .next (if s.sys.ctrlUp && hasTrack s then sendSecWord s else s)

def takeSecWord (c : Chan) (valid : Bool) (s : State) : State :=
  match s.out.secWord with
  | some w => if valid && s.sys.oper then
      updC c (fun f => { f with secStates := w.1, secGot := true, secAt := s.sys.now, secUnk := false }) s else s
  | none => s

def execSectionWordReceive (t : Nat) (c : Chan) (valid : Bool) (s : State) : Host.Outcome State Fault Refusal :=
  .next (takeSecWord c valid (advance t s))

def execSectionWordTimeout (t : Nat) (c : Chan) (s : State) : Host.Outcome State Fault Refusal :=
  let s := advance t s
  .next (if s.sys.oper && decide ((getC s c).secAt + 3 * msNs ≤ s.sys.now) then
    updC c (fun f => { f with secUnk := true }) s else s)

/-! ### Track links (R380 to R385) -/

/-- The links run: the units are present and safety is operational (Table 4.3). -/
def tlRuns (s : State) : Bool := hasTrack s && s.sys.oper && !saveStopped s

/-- The link is in use: the links run and it has a peer. -/
def tlLive (s : State) (l : Nat) : Bool := tlRuns s && tlPeer s l != 0xFFFF

/-- The passages waiting for a link that a set has switched off are not sent (R380, R381). -/
def tlCommitted (s : State) : State :=
  (List.range 2).foldl (fun s l => if tlPeer s l == 0xFFFF then tlSet l { tlGet s l with evq := [] } s else s) s

/-- The Zeley address in effect; 0 when unassigned (Table 18.10). -/
def zlAddr (s : State) : Nat := let a := cfgN s 0x1400 1; if a < 1024 then a else 0
def zlAssigned (s : State) : Bool := decide (cfgN s 0x1400 1 < 1024)

/-- A frame on the line: 0x55, 0xD5, the content and its CRC-32C (Table 17.5). -/
def tlFrameBytes (kind : Nat) (s : State) (l : Nat) (time : BitVec 64) (rest : List Byte) : List Byte :=
  let c := leBytes 1 kind ++ leBytes 1 (16 + rest.length + 4) ++ leBytes 2 (zlAddr s) ++ leBytes 2 (tlGet s l).txseq ++
    leBytes 2 s.zl.sync.toNat ++ leBytes 8 time.toNat ++ rest
  [0x55, 0xD5] ++ c ++ leBytes 4 (crc32c c)

/-- Bytes on the line: a start bit, eight data bits, the least significant first, and a stop bit, which is mark (R380). -/
def lineBits (f : List Byte) : List Bool :=
  f.flatMap fun b => [false] ++ (List.range 8).map (fun i => b.getLsbD i) ++ [true]

def tlSent (l : Nat) (f : List Byte) (s : State) : State :=
  let x := tlGet s l
  tlSet l { x with out := x.out ++ [f], wire := lineBits f, txseq := (x.txseq + 1) % 65536, txframes := satAdd 16 x.txframes 1 } s

/-- The oldest counted passage is sent as an EVENT frame. -/
def tlSendEvent (l : Nat) (s : State) : State :=
  let x := tlGet s l
  match x.evq with
  | [] => s
  | p :: rest =>
    let f := tlFrameBytes 1 s l p.time (leBytes 1 p.cp ++ leBytes 1 (p.ba.toNat + 2 * p.vehicle.toNat) ++ leBytes 2 p.epoch)
    let s := tlSent l f s
    tlSet l { tlGet s l with evq := rest } s

def execTlEventSend (l : Fin 2) (s : State) : Host.Outcome State Fault Refusal :=
  .next (if tlLive s l then tlSendEvent l s else s)

/-- The states of the sections in a mask, two bits each (AX_STATE0, AX_STATE1). -/
def secStatesWord (s : State) (mask : Nat) : Nat :=
  ((List.range 32).map fun k => if bitAt mask k then put (secGet s k).st (2 * k) 2 else 0).sum

/-- Health of the 32 counting points. -/
def cpHealthWord (s : State) : Nat := maskOf 32 (cpHealthy s)

def tlSendStatus (l : Nat) (s : State) : State :=
  let exp := cfgN s 0x5300 (5 + l)
  let f := tlFrameBytes 2 s l s.sys.sysTime (leBytes 4 (cpHealthWord s) ++ leBytes 8 (secStatesWord s exp) ++ leBytes 4 exp)
  let s := tlSent l f s
  tlSet l { tlGet s l with lastStatus := s.sys.now } s

def execTlStatusSend (t : Nat) (l : Fin 2) (s : State) : Host.Outcome State Fault Refusal :=
  let s := advance t s
  .next (if tlLive s l then tlSendStatus l s else s)

/-- Counting points with SRC 3 on link `l`. -/
def linkCps (s : State) (l : Nat) : List Nat :=
  (List.range 32).filter fun c => (cpAt s c).src == 3 && fld (cpAt s c).ref 5 1 == l

/-- A lost frame (R383). -/
def tlLost (l : Nat) (s : State) : State :=
  let x := tlGet s l
  disturbCps 7 (linkCps s l) (tlSet l { x with gap := satAdd 16 x.gap 1, statusRun := 0 } s)

/-- The unit of section `k`, from its heads or gate pairs (R371); none where it has neither. -/
def secUnit (s : State) (k : Nat) : Option Bool :=
  let src := (cpsOf s k).map fun c => (cpAt s c).src
  if src.contains 1 then some false else if src.contains 2 then some true else none

/-- A unit is that of each section that counting point `c` bounds, where the section has one (R385). -/
def unitFits (s : State) (c : Nat) (vehicle : Bool) : Bool :=
  (secsOf s c).all fun k => match secUnit s k with | some v => v == vehicle | none => true

/-- A received EVENT (R385). -/
def tlEvent (l : Nat) (f : TlFrame) (s : State) : State :=
  let cs := (linkCps s l).filter fun c => fld (cpAt s c).ref 0 5 == f.cp
  cs.foldl (fun s c =>
    if f.epoch ≠ (cpAt s c).repoch ∨ unitFits s c f.vehicle = false then
      disturbCps 8 [c] { s with ax := { s.ax with epdisc := satAdd 16 s.ax.epdisc 1 } }
    else
      { s with ax := { s.ax with queue := s.ax.queue ++
        [⟨c, f.dirBA, f.vehicle, BitVec.ofNat 64 f.time, epochOf s.cf.epochs 2 c⟩] } }) s

/-- The times differ by more than 5 ms. -/
def tlStale (s : State) (f : TlFrame) : Bool :=
  s.zl.sync && f.sync && decide (5 * msNs < ((f.time : Int) - s.sys.sysTime.toNat).natAbs)

/-- A valid frame: its sequence, its content, and the link's state (R383 to R385). -/
def tlValid (l : Nat) (f : TlFrame) (s : State) : State :=
  let x := tlGet s l
  let inSeq := match x.rxseq with | some q => f.seq == (q + 1) % 65536 | none => true
  let s := if inSeq then s else tlLost l s
  let x := tlGet s l
  let run := if f.isEvent then x.statusRun else min 3 ((if inSeq then x.statusRun else 0) + 1)
  let x := { x with rxseq := some f.seq, rxShow := f.seq, psync := f.sync, peer := f.src, lastRx := s.sys.now, statusRun := run
                    up := x.up || decide (3 ≤ run) }
  let x := if f.isEvent then x else { x with health := f.health, states := f.states }
  let s := tlSet l x s
  let s := if f.isEvent then tlEvent l f s else s
  startWrite (secUpdateAll s)

/-- The content of a frame from 0x00 to its CRC-32C (Table 17.5). -/
def tlContent (f : TlFrame) : List Byte :=
  leBytes 1 (if f.isEvent then 1 else 2) ++ leBytes 1 f.len ++ leBytes 2 f.src ++ leBytes 2 f.seq ++ leBytes 2 f.sync.toNat ++
    leBytes 8 f.time ++
    if f.isEvent then leBytes 1 f.cp ++ leBytes 1 (f.dirBA.toNat + 2 * f.vehicle.toNat) ++ leBytes 2 f.epoch
    else leBytes 4 f.health.toNat ++ leBytes 8 f.states.toNat ++ leBytes 4 f.secexp.toNat

def tlCrc (f : TlFrame) : Word := BitVec.ofNat 32 (crc32c (tlContent f))

/-- The CRC-32C and LEN of a frame hold. -/
def tlWhole (f : TlFrame) : Bool := f.crc == tlCrc f && f.len == (tlContent f).length + 4

/-- A frame arrives (R382): discards are counted and are losses. -/
def tlReceive (l : Nat) (f : TlFrame) (s : State) : State :=
  let x := tlGet s l
  if !tlWhole f then secUpdateAll (tlLost l (tlSet l { x with crcfail := satAdd 16 x.crcfail 1 } s))
  else if f.src ≠ tlPeer s l then secUpdateAll (tlLost l (tlSet l { x with wrongpeer := satAdd 16 x.wrongpeer 1 } s))
  else if tlStale s f then secUpdateAll (tlLost l (tlSet l { x with stale := satAdd 16 x.stale 1 } s))
  else tlValid l f s

def execTlFrameReceive (t : Nat) (l : Fin 2) (f : TlFrame) (s : State) : Host.Outcome State Fault Refusal :=
  let s := advance t s
  .next (if tlLive s l then tlReceive l f s else s)

/-- No valid frame for 20 ms: the link is DOWN, one that a set has switched off too (R384). -/
def tlDown (l : Nat) (s : State) : State :=
  let x := tlGet s l
  if x.lastRx + 20 * msNs ≤ s.sys.now then
    let s := tlSet l { x with up := false, rxseq := none, statusRun := 0, downs := if x.up then satAdd 16 x.downs 1 else x.downs } s
    if x.up then secUpdateAll (disturbCps 6 (linkCps s l) s) else s
  else s

def execTlDownTimeout (t : Nat) (l : Fin 2) (s : State) : Host.Outcome State Fault Refusal :=
  let s := advance t s
  .next (if tlRuns s then tlDown l s else s)

/-! ### The accounting interval and the start -/

/-- AX_STAT, AX_CNT1, AX_CNT2, AX_HCNTh and TL_CNT are latched (R386). -/
def latchAxle (s : State) : State :=
  let tl := fun l => let x := tlGet s l
    [(0x540810 + 0x20 * l, b2 x.crcfail x.gap), (0x540814 + 0x20 * l, b2 x.stale x.wrongpeer),
     (0x540818 + 0x20 * l, b2 x.downs x.txframes)]
  let s' := post 0x540010 0
    ([(0x540014, b2 s.ax.disturbs s.ax.passages), (0x540018, b2 s.ax.epdisc s.ax.rstref)] ++ tl 0 ++ tl 1 ++
     (List.range 8).map fun h => (0x540204 + 8 * h, b2 (hdGet s h).passAB (hdGet s h).passBA)) s
  let clr := fun (x : Tl) => { x with crcfail := 0, gap := 0, stale := 0, wrongpeer := 0, downs := 0, txframes := 0 }
  { s' with ax := { s'.ax with
      disturbs := 0, passages := 0, epdisc := 0, rstref := 0, tl0 := clr s'.ax.tl0, tl1 := clr s'.ax.tl1
      heads := s'.ax.heads.filterMap (fun e =>
        let x := { e.2 with passAB := 0, passBA := 0 }; if x = {} then none else some (e.1, x)) } }

/-- The evaluator after a start: phases idle, links down, the counts restored, every section DISTURBED (R379, Table 17.3). -/
def axleStart (cause : Nat) (aOk bOk : Bool) (s : State) : State :=
  let a := s.ax.cntA
  let b := s.ax.cntB
  let cnt := match aOk, bOk with
    | true, true => if a.num < b.num then b.counts else a.counts
    | true, false => a.counts
    | false, true => b.counts
    | false, false => []
  let s := { s with ax := { ({} : Ax) with cntA := a, cntB := b } }
  let s := (List.range 32).foldl (fun s k =>
    secSet k { st := 0, count := mget 0 cnt k, cause := if (cpsOf s k).isEmpty then 0 else cause } s) s
  raiseIf (!aOk && !bOk) evCountLost s

end Sys2Proof.Machine
end

