-- ==== Sys2Proof/Machine/TrackFront.lean ====
section
/-! DEFINITION. Machine/TrackFront.lean: the track front end (chapter 16). -/

namespace Sys2Proof.Machine

def tfPut (n : Nat) (x : Tf) (s : State) : State := { s with tf := { s.tf with ch := mset {} s.tf.ch n x } }

/-- The front end runs: off in STANDBY from its entry, and from t0 + 50 µs of SAVE (R359). -/
def tfRuns (s : State) : Bool := hasTrack s && s.sys.ctrlUp && s.pw.standbyAt.isNone && !saveStopped s

/-- Channel `n` is enabled and excited. -/
def tfActive (s : State) (n : Nat) : Bool := tfRuns s && cfgF s (0x5000 + n) 1 && (tfGet s n).excited

/-- TFBLANK is active (R353). -/
def tfPinActive (s : State) : Bool := s.tf.pin != cfgF s 0x5000 0x20

def drydownNs : Nat := 1200000
/-- A sample is delivered 80 µs after the end of its conversion of 40 µs (R345). -/
def convStart (t : Nat) : Nat := t - 120000
def convEnd (t : Nat) : Nat := t - 80000

/-- A conversion delivered at `t` overlaps an interval. -/
def convIn (t a b : Nat) : Bool := decide (convStart t < b) && decide (a < convEnd t)

/-- The MRC-B blanking of R359 covers a time after `a` and before `b`. -/
def mrcBIn (s : State) (a b : Nat) : Bool :=
  decide (a < s.pw.mrcBEnd) || (s.pw.mrcBFault && decide (s.pw.mrcBSince < b) &&
    match s.pw.mrcBOkSince with | some x => decide (a < x + secNs) | none => true)

/-- Status of the sample that channel `n` delivers at `t` (Table 16.4). -/
def tfStatus (s : State) (n t : Nat) : Nat :=
  let x := tfGet s n
  if x.open_ || decide (convStart t < x.openUntil) then 3
  else if x.blankIv.any (fun e => convIn t e.1 e.2) || mrcBIn s (convStart t) (convEnd t) ||
      x.pinFrom.any (fun f => decide (f < convEnd t)) then 2
  else if x.dry.any (fun f => convIn t f (f + drydownNs)) then 1 else 0

/-- The channel is in drydown now. -/
def tfSettling (s : State) (n : Nat) : Bool := (tfGet s n).dry.any fun f => decide (s.sys.now < f + drydownNs)

/-- The channel is blanked now. -/
def tfBlanked (s : State) (n : Nat) : Bool :=
  (tfGet s n).blankIv.any (fun e => decide (e.1 ≤ s.sys.now) && decide (s.sys.now < e.2)) ||
  mrcBIn s s.sys.now (s.sys.now + 1) || (tfGet s n).pinFrom.isSome

/-- Blank channel `n` over an interval; intervals that no sample to come can overlap are dropped. -/
def tfBlank (n a b : Nat) (s : State) : State :=
  if a < b then
    let x := tfGet s n
    tfPut n { x with blankIv := (a, b) :: x.blankIv.filter (fun e => decide (s.sys.now < e.2 + 120000)) } s
  else s

/-- A drydown starts, and POSTBLANK with it (R351, R354). -/
def tfDrydown (n : Nat) (s : State) : State :=
  let x := tfGet s n
  let dry := s.sys.now :: x.dry.filter fun f => decide (s.sys.now < f + drydownNs + 120000)
  let s := tfPut n { x with dry := dry, settles := satAdd 8 x.settles 1 } s
  tfBlank n s.sys.now (s.sys.now + cfgN s (0x5000 + n) 9 * 1000) s

/-- The blanking of channel `n` by TFBLANK is brought up to date: it holds while the pin is active and PINMASK is 1, and for BLANK_EXT
from the release (R353). -/
def tfPinUpdate (n : Nat) (s : State) : State :=
  let x := tfGet s n
  let mask := cfgF s (0x5000 + n) 7
  let ext := cfgN s (0x5000 + n) 8 * 1000
  let s := if mask && !tfPinActive s then
      match s.tf.pinRel with | some r => tfBlank n s.sys.now (r + ext) s | none => s
    else s
  match x.pinFrom with
  | none => if mask && tfPinActive s then tfPut n { tfGet s n with pinFrom := some s.sys.now } s else s
  | some f =>
    if mask && tfPinActive s then s
    else
      let s := tfPut n { tfGet s n with pinFrom := none } s
      tfBlank n f s.sys.now s

def tfPinUpdateAll (s : State) : State := (List.range 16).foldl (fun s n => tfPinUpdate n s) s

/-- Excitation of channel `n` starts where the channel is enabled, but not in SAVE (R359). -/
def tfStart (n : Nat) (s : State) : State :=
  if hasTrack s && cfgF s (0x5000 + n) 1 && s.sup.vstate != 2 then
    tfDrydown n (tfPut n { tfGet s n with excited := true, hiRun := 0, loRun := 0 } s)
  else s

/-- With AUTO = 0 the gain is GAIN_FIX (R349), for the conversions that begin from now on. -/
def tfGain (n : Nat) (s : State) : State :=
  let x := tfGet s n
  let g := cfgN s (0x5000 + n) 6
  if cfgF s (0x5000 + n) 5 || x.gain == g then s
  else tfPut n { x with gain := g, gainOld := x.gain, gainFrom := s.sys.now, hiRun := 0, loRun := 0 } s

/-- The gain of the conversion whose sample is delivered at `t` (R346). -/
def gainOf (x : Tf) (t : Nat) : Nat := if convStart t < x.gainFrom then x.gainOld else x.gain

/-- The configuration is loaded: every channel takes its gain, and the enabled ones are excited. -/
def tfStartAll (s : State) : State := tfPinUpdateAll ((List.range 16).foldl (fun s n => tfStart n (tfGain n s)) s)

/-- The front end stops; a capture that is armed or running is abandoned (R359, R360). -/
def tfStopAll (s : State) : State :=
  let s := (List.range 16).foldl (fun s n => tfPut n { tfGet s n with excited := false, dry := [], onRun := 0 } s) s
  { s with tf := { s.tf with capState := 0, cap := [] } }

/-- The boundary at which a set takes effect: a channel that is switched on or off, a change of CARRIER, AMPLITUDE or DPHASE
(R344, R351), the gain, the onset detector, and the blanking by the pin; `old` is the state before the commit. -/
def tfCommitted (old : State) (s : State) : State :=
  if tfRuns s then
    let s := { s with tf := { s.tf with pinRel := if tfPinActive old && !tfPinActive s then some s.sys.now else s.tf.pinRel } }
    tfPinUpdateAll ((List.range 16).foldl (fun s n =>
      let i := 0x5000 + n
      let was := cfgF old i 1
      let is := cfgF s i 1
      let s := if is && !was then tfStart n s
        else if was && !is then tfPut n { tfGet s n with excited := false, dry := [] } s
        else if is && [2, 3, 4].any (fun k => cfgB old i k != cfgB s i k) then tfDrydown n s else s
      let s := tfGain n s
      if cfgF s i 0xB && cfgF old i 0xB then s else tfPut n { tfGet s n with frozen := false, onRun := 0, quietSince := none, baseGot := false } s) s)
  else s

/-! ### Delivery (R345 to R350) -/

/-- Automatic ranging on a sample (R348). -/
def tfRange (auto ok : Bool) (data : Int) (x : Tf) : Tf :=
  if !auto || !ok then { x with hiRun := 0, loRun := 0 }
  else
    let hi := if 471858 < data.natAbs then min 4 (x.hiRun + 1) else 0
    let lo := if data.natAbs < 104858 then min 32 (x.loRun + 1) else 0
    let go := fun (g : Nat) => { x with gain := g, gainFrom := 0, hiRun := 0, loRun := 0, rangech := satAdd 16 x.rangech 1 }
    if hi = 4 ∧ 0 < x.gain then go (x.gain - 1)
    else if lo = 32 ∧ x.gain < 3 then go (x.gain + 1)
    else { x with hiRun := hi, loRun := lo }

/-- The onset detector on a sample: µV × 2^16 against the baseline; the first OK sample is the first average, and the time
constant of 1.0 s is a step of 1 in 25,000 (assumption 14). Whether it fires. -/
def tfOnset (th : Nat) (ok : Bool) (uv : Int) (now : Nat) (x : Tf) : Tf × Bool :=
  if !ok then ({ x with onRun := 0 }, false)
  else if !x.baseGot then ({ x with basel := uv, baseGot := true, onRun := 0 }, false)
  else
    let d := (uv - x.basel).natAbs
    if x.frozen then
      ({ x with quietSince := if 2 * d < th * 65536 then some (x.quietSince.getD now) else none }, false)
    else
      let run := if th * 65536 < d then x.onRun + 1 else 0
      if 3 ≤ run then ({ x with onRun := 0, frozen := true, fired := true, quietSince := none }, true)
      else ({ x with onRun := run, basel := x.basel + (uv - x.basel) / 25000 }, false)

/-- A capture takes the sample (R360). -/
def tfCapture (n : Nat) (w : BitVec 24) (fire : Bool) (s : State) : State :=
  if s.tf.capCh ≠ n ∨ s.tf.capState = 0 then s
  else if s.tf.capState = 1 then
    if !s.tf.capTrig || fire then { s with tf := { s.tf with capState := 2, cap := [w] } } else s
  else if s.tf.cap.length < 2048 then { s with tf := { s.tf with cap := w :: s.tf.cap } }
  else s

/-- Channel `n` delivers a sample; `raw` is the demodulator output in units of DATA at the gain in effect. -/
def tfDeliver (n : Nat) (raw : Int) (s : State) : State :=
  let i := 0x5000 + n
  let x := tfGet s n
  let now := s.sys.now
  let st := tfStatus s n now
  let clip := clampI (-524288) 524287 raw
  let data := if st = 3 then 0 else clip
  let g := gainOf x now
  let w := BitVec.ofNat 24 (put g 22 2 + put st 20 2 + toU 20 data)
  let ok := st == 0
  let uv := data * rangeFs g / 8
  let x := { x with
    sample := w, lastAt := now
    clips := if st ≠ 3 ∧ clip ≠ raw then satAdd 16 x.clips 1 else x.clips
    blanks := if st = 2 then satAdd 16 x.blanks 1 else x.blanks }
  let x := tfRange (cfgF s i 5) ok data x
  let on := if cfgF s i 0xB then tfOnset (cfgN s i 0xC) ok uv now x else (x, false)
  let s := tfPut n on.1 s
  let s := post (0x50010C + 0x20 * n) w.toNat [] s
  let s := if on.2 && s.sys.mgmtUp then edSync 9 s else s
  let s := if on.2 && cfgF s i 0xD then wake s else s
  axleSample n (tfCapture n w on.2 s)

def execTfSampleDeliver (t : Nat) (n : Fin 16) (raw : Int) (s : State) : Host.Outcome State Fault Refusal :=
  let s := advance t s
  .next (if tfActive s n then tfDeliver n raw s else s)

/-- Re-arming (R358). -/
def tfRearm (n : Nat) (s : State) : State :=
  let x := tfGet s n
  if x.frozen && heldFor x.quietSince (100 * msNs) s.sys.now then
    tfPut n { x with frozen := false, quietSince := none, onRun := 0 } s
  else s

def execTfOnsetRearm (t : Nat) (n : Fin 16) (s : State) : Host.Outcome State Fault Refusal := .next (tfRearm n (advance t s))

/-- The drydown has ended; its start is kept while a sample still to come can overlap it (R351). -/
def tfDryEnd (n : Nat) (s : State) : State :=
  let x := tfGet s n
  tfPut n { x with dry := x.dry.filter fun f => decide (s.sys.now < f + drydownNs + 120000) } s

def execTfDrydownEnd (t : Nat) (n : Fin 16) (s : State) : Host.Outcome State Fault Refusal := .next (tfDryEnd n (advance t s))

/-- The pin changes level, whether or not the front end runs. -/
def tfPinChange (high : Bool) (s : State) : State :=
  let was := tfPinActive s
  let s := { s with tf := { s.tf with pin := high } }
  let s := { s with tf := { s.tf with pinRel := if was && !tfPinActive s then some s.sys.now else s.tf.pinRel } }
  if tfRuns s then tfPinUpdateAll s else s

def execTfblankPinChange (t : Nat) (high : Bool) (s : State) : Host.Outcome State Fault Refusal :=
  .next (tfPinChange high (advance t s))

/-- A blank has ended; an interval is kept while a sample still to come can overlap it. -/
def tfBlankOver (n : Nat) (s : State) : State :=
  let x := tfGet s n
  tfPut n { x with blankIv := x.blankIv.filter fun e => decide (s.sys.now < e.2 + 120000) } s

def execTfBlankEnd (t : Nat) (n : Fin 16) (s : State) : Host.Outcome State Fault Refusal := .next (tfBlankOver n (advance t s))

/-- A write to TF_SBLANK or SBLANK: DUR conversion periods, from the first conversion that begins after the transfer (R354). -/
def tfSoftBlank (w : Nat) (s : State) : State :=
  let dur := min 250 (fld w 16 8)
  if tfRuns s then
    (List.range 16).foldl (fun s n =>
      if bitAt w n && tfActive s n then
        let phase := (tfGet s n).lastAt % 40000
        let from0 := (s.sys.now + 40000 - phase) / 40000 * 40000 + phase
        tfBlank n from0 (from0 + dur * 40000) s
      else s) s
  else s

def execTfSblank (t : Nat) (w : Word) (s : State) : Host.Outcome State Fault Refusal := .next (tfSoftBlank w.toNat (advance t s))

/-! ### Open wires (R355 to R357) -/

/-- The open detector of channel `n` shows its two conditions, that of the excitation only where the channel is excited (R355); on the
first the channel is OPEN, and the heads that use it become FAULTY (R356, R368). -/
def tfOpen (n : Nat) (rx ex : Bool) (s : State) : State :=
  let x := tfGet s n
  let ex := ex && tfActive s n
  let cleared := (x.openRx || x.openEx) && !rx && !ex
  let x := { x with openRx := rx, openEx := ex, openClear := if cleared then s.sys.now else x.openClear }
  if (rx || ex) && !x.open_ then
    headsFaulty n (raise evTfOpen (tfPut n { x with open_ := true, opens := satAdd 8 x.opens 1 } s))
  else tfPut n x s

/-- The detector reads TFnn_P in mV, behind its filter, and the peak current in µA that the excitation output drives (R355). -/
def execTfOpenDetect (t : Nat) (n : Fin 16) (rxMv exUa : Nat) (s : State) : Host.Outcome State Fault Refusal :=
  let s := advance t s
  .next (if tfRuns s then tfOpen n (decide (1500 < rxMv)) (decide (exUa < cfgN s (0x5000 + n) 3)) s else s)

/-- Neither condition has been set for 100 ms: OPEN ends, drydown and POSTBLANK follow (R357). -/
def tfOpenOver (n : Nat) (s : State) : State :=
  let x := tfGet s n
  if x.open_ && !x.openRx && !x.openEx && decide (x.openClear + 100 * msNs ≤ s.sys.now) then
    let s := tfPut n { x with open_ := false, openUntil := s.sys.now } s
    if tfActive s n then tfDrydown n s else s
  else s

def execTfOpenEnd (t : Nat) (n : Fin 16) (s : State) : Host.Outcome State Fault Refusal := .next (tfOpenOver n (advance t s))

/-! ### Capture and flags -/

def tfArm (w : Nat) (s : State) : State :=
  if tfRuns s && bitAt w 31 && s.tf.capState == 0 then
    { s with tf := { s.tf with capState := 1, capCh := fld w 0 4, capTrig := bitAt w 30, cap := [] } }
  else s

def execTfCaptureArm (w : Word) (s : State) : Host.Outcome State Fault Refusal := .next (tfArm w.toNat s)

/-- A capture that has its 2,048 samples is posted. -/
def tfCaptureDone (s : State) : State :=
  if tfRuns s = true ∧ s.tf.capState = 2 ∧ s.tf.cap.length = 2048 then
    post 0x500018 (put s.tf.capCh 4 4) [] { s with tf := { s.tf with capState := 0, capArea := s.tf.cap.reverse, cap := [] } }
  else s

def execTfCaptureComplete (s : State) : Host.Outcome State Fault Refusal := .next (tfCaptureDone s)

/-- W1C of TF_ONSET.FIRED. -/
def tfOnsetClear (v : BitVec 16) (s : State) : State :=
  let s := (List.range 16).foldl (fun s n =>
    if bget v n && (tfGet s n).fired then tfPut n { tfGet s n with fired := false } s else s) s
  edSync 9 s

def execTfOnsetWrite (v : BitVec 16) (s : State) : Host.Outcome State Fault Refusal := .next (tfOnsetClear v s)

/-! ### Registers and the accounting interval (R361) -/

def tfLive (s : State) : Nat :=
  put (maskOf 16 fun n => !tfActive s n || tfSettling s n || tfBlanked s n) 16 16 + maskOf 16 fun n => (tfGet s n).open_

def tfOnsetReg (s : State) : Nat :=
  put (maskOf 16 fun n => cfgF s (0x5000 + n) 0xB && !(tfGet s n).frozen) 16 16 + maskOf 16 fun n => (tfGet s n).fired

/-- TF_CAPST: the channel of the capture posted last, and the state of the one under way (R361). -/
def tfCapSt (s : State) : Nat :=
  let r := resGet s 0x500018
  bitIf r.valid 31 + bitIf r.fresh 30 + put r.seq 24 4 + put (fld (regGet s 0x500018) 4 4) 4 4 +
    put (if tfRuns s then s.tf.capState else 0) 0 2

def tfChStat (s : State) (n : Nat) : Nat :=
  let x := tfGet s n
  put x.gain 6 2 + bitIf (tfSettling s n) 5 + bitIf (tfBlanked s n) 4 + bitIf x.openEx 3 + bitIf x.openRx 2

/-- TF_STATS, TF_CNT1nn and TF_CNT2nn are latched. -/
def latchTrack (s : State) : State :=
  let s' := post 0x500010 0 ((List.range 16).flatMap fun n => let x := tfGet s n
    [(0x500114 + 0x20 * n, b2 x.rangech x.clips), (0x500118 + 0x20 * n, put x.blanks 16 16 + put x.opens 8 8 + put x.settles 0 8)]) s
  (List.range 16).foldl (fun s n =>
    tfPut n { tfGet s n with rangech := 0, clips := 0, blanks := 0, opens := 0, settles := 0 } s) s'

end Sys2Proof.Machine
end

