-- ==== Sys2Proof/Machine/Accord.lean ====
section
/-! DEFINITION. Machine/Accord.lean: codes, accords, slot phase, assignments and the coordinator (chapter 9). -/

namespace Sys2Proof.Machine

/-! ### The code library (Table 9.1) -/

def codeGaps : List (List Nat) :=
  [[], [28], [44], [60], [76], [24, 36], [32, 52], [40, 28], [48, 64], [24, 40, 56], [36, 28, 52], [44, 60, 32],
   [24, 44, 32, 56], [28, 52, 36, 40], [24, 36, 28, 52, 40], [24, 32, 28, 40, 36, 44]]

/-- Sub-pulse offsets of code `c` in TDC steps (R215). -/
def codeOffsets (c : Nat) : List Nat :=
  ((codeGaps.getD (c / 4) []).foldl (fun os g => os ++ [os.getLast?.getD 0 + 64 * (g + 2 * (c % 4))]) [0])

/-- The number of sub-pulses of code `c`. -/
def codeLen (c : Nat) : Nat := (codeGaps.getD (c / 4) []).length + 1

/-! ### The accord in effect (Table 9.3) -/

/-- The accord in effect: codes of members 0 to 3, φ, hopping, the fixed phase in TDC steps, SRC, coordinator, GEN. -/
structure Accord where
  codes : List Nat
  phi : Nat
  hop : Bool
  phase : Nat
  src : Nat
  coord : Nat
  gen : Nat
  deriving DecidableEq, Repr

/-- The codes of group `g` (R221). -/
def groupCodes (g : Nat) : List Nat := [20 + g, 31 + g, 42 + g, 53 + g]

def accordNow (s : State) : Accord :=
  if cfgN s 0x2600 1 = 1 then
    let ph := cfgN s 0x2600 0xA
    ⟨(List.range 4).map fun i => cfgN s 0x2600 (5 + i), cfgN s 0x2600 9, ph == 65535, min 24000 ph, 2, 0, 0⟩
  else match s.ac.assign with
    | some a => ⟨a.codes, a.phi, a.hop, 600 * a.phi, 1, a.coord, a.gen⟩
    | none => ⟨groupCodes (zlAddr s % 11), zlAddr s / 11 % 16, true, 0, 0, 0, 0⟩

/-- Slot phase in TDC steps (15.625 ns = 1,000 of them), hop and j of a step that begins at system time `tk` (R219); a phase beyond 375 ns is applied as
375 ns (R122). -/
def slotPhase (a : Accord) (tk : Nat) : Nat × Nat × Nat :=
  let j := tk * 9 / 200000 % 65536
  let x := j * (2 * a.phi + 1) * 40503 % 65536
  let hop := x * 10 / 65536
  if a.hop then (1000 * hop, hop, j) else (min 24000 a.phase, hop, j)

/-- The event of the default accord, where it comes into effect (R221). -/
def accordCheck (s : State) : State :=
  let d := (accordNow s).src == 0
  raiseIf (d && !s.ac.isDefault) evAccDefault { s with ac := { s.ac with isDefault := d } }

/-! ### Assignments (R222 to R224) -/

def assignOf (d : List Byte) : Assign :=
  ⟨(List.range 4).map fun i => leAt d i 1, leAt d 4 1, leAt d 5 1 % 2 == 1, leAt d 6 2, leAt d 8 8, leAt d 16 4⟩

def assignBytes (a : Assign) : List Byte :=
  let b := (a.codes.map fun c => BitVec.ofNat 8 c) ++ leBytes 1 a.phi ++ leBytes 1 a.hop.toNat ++ leBytes 2 a.coord ++
    leBytes 8 a.apply ++ leBytes 4 a.gen
  b ++ leBytes 4 (crc32c b)

/-- The codes are of the library and pairwise distinct. -/
def codesDistinct (cs : List Nat) : Bool :=
  (List.range 4).all fun i => (List.range i).all fun j => cs.getD i 0 != cs.getD j 0

def assignLenOk (d : List Byte) : Bool := d.length == 24
def assignCrcOk (d : List Byte) : Bool := crc32c (d.take 20) == leAt d 20 4
def assignValuesOk (d : List Byte) : Bool :=
  let a := assignOf d
  a.codes.all (fun c => decide (c < 64)) && codesDistinct a.codes && decide (a.phi < 16) && decide (leAt d 5 1 < 2) &&
  decide (a.coord < 1024)

/-- The coordinator lies above that of the assignment in effect, which is not stale (R223). -/
def assignOutranked (s : State) (d : List Byte) : Bool :=
  match s.ac.assign with
  | some a => !s.ac.stale && decide (a.coord < (assignOf d).coord)
  | none => false

/-- Staging is possible (R62). -/
def canStage (s : State) : Bool := s.sup.holdReady && s.sup.vstate != 2

/-- The write differs from the assignment in effect only in APPLY and GEN: a refresh (R223). -/
def assignFresh (s : State) (a : Assign) : Bool :=
  match s.ac.assign with
  | some b => b.codes == a.codes && b.phi == a.phi && b.hop == a.hop && b.coord == a.coord
  | none => false

/-- The abort of a write to ASSIGN, 0 where it is accepted, in the order of Table 18.7. Only a refresh needs no staging in MRAM (R62,
R104). -/
def assignAbort (s : State) (d : List Byte) : Nat :=
  if cfgN s 0x2600 1 = 1 ∨ assignOutranked s d = true then 0x0610
  else if 24 < d.length then 0x0622
  else if !assignLenOk d then 0x0621
  else if !canStage s && !assignFresh s (assignOf d) then 0x0640
  else if !assignValuesOk d then 0x0620
  else if !assignCrcOk d then 0x0650
  else 0

/-- A device that coordinates (R225, R226). -/
def coordActive (s : State) : Bool := cfgF s 0x2600 0xC && !s.ac.stopped

/-- An accepted assignment: a refresh updates GEN at once; any other is staged as a set of its own (R222, R223). A coordinator
that accepts one from a lower address stops (R226). -/
def assignTake (a : Assign) (s : State) : State :=
  let now := s.sys.now
  let s := if assignFresh s a then { s with ac := { s.ac with assign := some a, lastAssign := now, stale := false } }
    else { s with ac := { s.ac with staged := some a, stagedAt := now, lastAssign := now } }
  if coordActive s && decide (a.coord < zlAddr s) then { s with ac := { s.ac with stopped := true, conflict := true } } else s

/-- A write to ASSIGN: its abort and the state after it. -/
def assignRun (d : List Byte) (s : State) : Nat × State :=
  let ab := assignAbort s d
  if ab = 0 then (0, assignTake (assignOf d) s)
  else if cfgN s 0x2600 1 ≠ 1 ∧ assignOutranked s d = true then
    (ab, raise evCoordConflict { s with ac := { s.ac with conflict := true } })
  else (ab, s)

/-- COORD_TIMEOUT without an accepted write, while an assignment is in effect (R224, Table 9.3). -/
def assignOld (s : State) : State :=
  if (accordNow s).src == 1 && !s.ac.stale && decide (s.ac.lastAssign + cfgN s 0x2600 0xD * secNs ≤ s.sys.now) then
    raise evCoordLost { s with ac := { s.ac with stale := true } }
  else s

def execAssignStale (t : Nat) (s : State) : Host.Outcome State Fault Refusal := .next (assignOld (advance t s))

/-! ### Registers (Table 9.6) -/

def acCodesReg (s : State) : Nat :=
  let c := (accordNow s).codes
  put (c.getD 3 0) 24 6 + put (c.getD 2 0) 16 6 + put (c.getD 1 0) 8 6 + put (c.getD 0 0) 0 6

def acStatReg (s : State) : Nat :=
  let a := accordNow s
  put a.coord 16 10 + put a.phi 8 4 + put a.src 4 2 + bitIf a.hop 3 + bitIf s.ac.stale 2 + bitIf s.ac.conflict 1 + bitIf (coordActive s) 0

/-- AC_STAT.CONFLICT is W1C. -/
def acStatClear (w : Nat) (s : State) : State := if bitAt w 1 then { s with ac := { s.ac with conflict := false } } else s

def execAcStatWrite (v : Word) (s : State) : Host.Outcome State Fault Refusal := .next (acStatClear v.toNat s)

/-- Any write to AC_CNT clears both fields. -/
def acCntClear (s : State) : State := { s with ac := { s.ac with applied := 0, interfere := 0 } }

def execAcCntWrite (s : State) : Host.Outcome State Fault Refusal := .next (acCntClear s)

/-- The comparison of R228 for quadrant `q`, with its FOREIGN of the frame. -/
def interferes (s : State) (q foreign : Nat) : Bool :=
  let lim := cfgN s 0x2600 0xB
  lim != 0 && decide (lim * mget 0 s.ex.qFiredPrev q < 16 * foreign)

/-- A frame in which a quadrant exceeds the limit raises INTERFERE and is counted once (R228). The comparison is made when the last
step of the frame is released, 150 ns after the boundary: FOREIGN of the frame is complete then (R168; DEDUCED, assumption 119). -/
def interfereCheck (s : State) : State :=
  if (List.range (quadrants s.sys.variant)).any fun q => interferes s q (mget {} s.hg.last q).foreign then
    raise evInterfere { s with ac := { s.ac with interfere := satAdd 16 s.ac.interfere 1 } }
  else s

end Sys2Proof.Machine
end

