-- ==== Sys2Proof/Machine/Emitter.lean ====
section
/-! DEFINITION. Machine/Emitter.lean: bursts, sub-pulses, fast trip comparators and the eye-safety governor (chapter 5). -/

namespace Sys2Proof.Machine

/-! ### Emitter settings (R117 to R120) -/

def emtOn (s : State) (e : Nat) : Bool := emtPresent s e && cfgF s (0x2000 + e) 1
/-- WIDTH in units of 0.125 ns and IPK in units of 0.125 A. -/
def emtWidth (s : State) (e : Nat) : Nat := cfgN s (0x2000 + e) 2 / 125
def emtIpk (s : State) (e : Nat) : Nat := cfgN s (0x2000 + e) 3 / 125
def emtStrip (s : State) (e : Nat) : Nat := cfgN s (0x2000 + e) 4
def emtMask (s : State) (e : Nat) : Nat := cfgN s (0x2000 + e) 5
/-- VST_TGT in 25 mV units; codes outside 560 to 2,400 act as the nearest end. -/
def vstCode (s : State) (q : Nat) : Nat := clampN 560 2400 (fld (cfgN s 0x1800 (0x20 + q)) 0 12)
/-! ### Charger comparators (R132, R133) -/

def ccCfg (s : State) (q : Nat) : Nat := cfgN s 0x1800 (0x20 + q)

/-- The charger of quadrant `q` regulates its store: EN, the data plane running and SAVE not begun, no undervoltage lockout (R464), and
VLD at least 2 V below VST_TGT. -/
def ccRuns (s : State) (q : Nat) : Bool :=
  qPresent s q && bitAt (ccCfg s q) 31 && dpOn s && s.pw.dp != .stopped && s.sup.vstate != 2 && !s.sup.uvlo && decide (s.sup.vld + 2000 ≤ 25 * vstCode s q)

/-- The period of the converter of quadrant `q`, ns: 250 kHz × 2^FSW. -/
def ccPeriodNs (s : State) (q : Nat) : Nat := 4000 / 2 ^ fld (ccCfg s q) 12 2

/-- The switch of quadrant `q` has to open `ns` into its period, with CSq at `uv`: CSq and the ramp of SLOPE × 12.5 mV/µs have reached
1 mV × ILIM. -/
def ccLimit (s : State) (q uv ns : Nat) : Bool :=
  decide (2000 * fld (ccCfg s q) 16 8 ≤ 2 * uv + 25 * fld (ccCfg s q) 24 4 * ns)

/-- CHGq_G: the converter's switch is driven `ns` into its period, with CSq at `uv` and the store at `mv`. -/
def chgGate (s : State) (q uv ns mv : Nat) : Bool :=
  ccRuns s q && decide (ns < ccPeriodNs s q) && decide (mv < 25 * vstCode s q) && !ccLimit s q uv ns

/-- Energy of one sub-pulse of emitter `e` in units of 0.390625 pJ (R118). -/
def subEnergy (s : State) (e : Nat) : Nat := vstCode s (e / 4) * emtIpk s e * emtWidth s e
/-- The µJ of an energy in those units, rounded up. -/
def toUj (x : Nat) : Nat := ceilDiv x 2560000
/-- The charge of one sub-pulse in charge units. -/
def subCharge (s : State) (e : Nat) : Nat := emtWidth s e * emtIpk s e
/-- The emitter that serves strip `st` of quadrant `q` (R119). -/
def serving (s : State) (q st : Nat) : Nat := ((List.range 4).find? fun i => emtStrip s (4 * q + i) == st).getD st + 4 * q
/-- The emitter that serves channel `ch`. -/
def servingCh (s : State) (ch : Nat) : Nat := serving s (ch / 48) (ch % 48 / 12)

/-! ### The governor (R134 to R138) -/

def winSum (w : Win) : Nat := w.cur + w.past.sum
def winAdd (e c : Nat) (m : SMap Win) : SMap Win := mupd {} m e fun w => { w with cur := w.cur + c }

/-- A sub-window ends: the newest 20 complete ones stay (R135). -/
def winShift (w : Win) : Win := { cur := 0, past := (w.cur :: w.past).take 20 }
def winShiftAll (m : SMap Win) : SMap Win :=
  m.filterMap fun e => let w := winShift e.2; if winSum w = 0 then none else some (e.1, w)

def subwindow (w100 : Bool) (s : State) : State :=
  if w100 then { s with gov := { s.gov with w100 := winShiftAll s.gov.w100 } }
  else { s with gov := { s.gov with w5 := winShiftAll s.gov.w5 } }

/-- The governor runs in the always-on domain, whatever the planes do (R136). -/
def execGovSubwindow (w100 : Bool) (s : State) : Host.Outcome State Fault Refusal :=
  .next (if s.sys.powered then subwindow w100 s else s)

/-- The store of quadrant `q` is above 1.05 × VST_TGT. -/
def storeOver (s : State) (q mv : Nat) : Bool := decide (21 * 25 * vstCode s q < 20 * mv)

/-- The governor's answer to a burst of `m` sub-pulses of emitter `e` with the store at `mv` (R134): limits in charge units, LIM5 and
LIM100 in nC of 64 units. -/
def govAdmits (s : State) (e m mv : Nat) : Bool :=
  let c := m * subCharge s e
  s.gov.locked && !s.gov.crcBad && !storeOver s (e / 4) mv && decide (c ≤ mget 0 s.gov.limb e) &&
  decide (winSum (mget {} s.gov.w5 e) + c ≤ 64 * mget 0 s.gov.lim5 e) &&
  decide (winSum (mget {} s.gov.w100 e) + c ≤ 64 * mget 0 s.gov.lim100 e)

/-- An admitted burst adds its full charge to both windows (R134). -/
def govTake (e m : Nat) (s : State) : State :=
  let c := m * subCharge s e
  { s with gov := { s.gov with w5 := winAdd e c s.gov.w5, w100 := winAdd e c s.gov.w100 } }

def govBlock (s : State) : GovBlock := ⟨s.gov.limb, s.gov.lim5, s.gov.lim100⟩

/-- The 48 limit words, little-endian (R137). -/
def govBytes (b : GovBlock) : List Byte :=
  wordsLE ((List.range 16).map (mget 0 b.limb) ++ (List.range 16).map (mget 0 b.lim5) ++ (List.range 16).map (mget 0 b.lim100))

/-- CRC-32C of the block in effect. -/
def govCrc (s : State) : Nat := crc32c (govBytes (govBlock s))

/-- GV_CRC as read: 0, its reset value, while the block is unlocked and every limit is 0, so that no block has been written
(DEDUCED, assumption 112). -/
def govCrcShown (s : State) : Nat :=
  if !s.gov.locked && s.gov.limb.isEmpty && s.gov.lim5.isEmpty && s.gov.lim100.isEmpty then 0 else govCrc s

/-- The limits and LOCK refuse every write: the block is locked, or both copies of a locked block have failed and only an erase
ends that state (R137, R138; the latter DEDUCED, assumption 16). -/
def govShut (s : State) : Bool := s.gov.locked || s.gov.crcBad

/-- LOCK with a matching CRC-32C: the block is locked and both MRAM copies are written (R137). -/
def govLockNow (s : State) : State :=
  { s with gov := { s.gov with locked := true, copyA := some (govBlock s), copyB := some (govBlock s) } }

/-- Load the block of one copy. -/
def govUse (b : GovBlock) (s : State) : State :=
  { s with gov := { s.gov with limb := b.limb, lim5 := b.lim5, lim100 := b.lim100, locked := true, crcBad := false } }

/-- The load at power-up (R138); `aOk`, `bOk` = the copy's CRC-32C matches. A copy without marker counts as failed once the other
holds one. -/
def govLoad (aOk bOk : Bool) (s : State) : State :=
  let a := if aOk then s.gov.copyA else none
  let b := if bOk then s.gov.copyB else none
  if s.gov.copyA.isNone && s.gov.copyB.isNone then
    { s with gov := { s.gov with limb := [], lim5 := [], lim100 := [], locked := false, crcBad := false } }
  else match a, b with
    | some x, some _ => govUse x s
    | some x, none => raise evGovCopy (govUse x { s with gov := { s.gov with copyB := some x } })
    | none, some y => raise evGovCopy (govUse y { s with gov := { s.gov with copyA := some y } })
    | none, none =>
      raise evGovLost { s with gov := { s.gov with limb := [], lim5 := [], lim100 := [], locked := false, crcBad := true } }

/-- A full-chip erase unlocks the block and sets every limit to 0 (R137). -/
def govErase (s : State) : State :=
  { s with gov := { s.gov with limb := [], lim5 := [], lim100 := [], locked := false, crcBad := false, copyA := none, copyB := none } }

/-! ### Admission and emission (R124, Table 5.1) -/

def exCnt (s : State) (e : Nat) : ExCnt := mget {} s.ex.cnt e
def exCntUpd (e : Nat) (f : ExCnt → ExCnt) (s : State) : State := { s with ex := { s.ex with cnt := mupd {} s.ex.cnt e f } }

/-- Start of slot `k` in TDC steps after the step starts: PHASE + k × 2,777.78 ns (R122). -/
def slotStart (s : State) (k : Nat) : Nat := s.ex.phase + k * 1600000 / 9
/-- A listening window of 2,400 ns in TDC steps (R121). -/
def windowLen : Nat := 153600

/-- The code that a listed burst fires. -/
def shotCode (s : State) (x : Shot) : Nat := (accordNow s).codes.getD x.member 0

/-- The current interpolated step period in TDC steps: the interval between the last two MENC edges × MENC_CPR ÷ N; nominal before two
edges have come. -/
def stepPeriodTdc (s : State) : Nat :=
  let n := stepsPerFrame s
  if n = 0 then 0
  else if s.mir.mencInt = 0 then 64 * framePeriod s / n
  else 64 * s.mir.mencInt * cfgN s 0x2000 0x21 / n

/-- A store voltage is read: VST and STOREOV follow it (R134, R141). -/
def storeRead (q mv : Nat) (s : State) : State :=
  { s with gov := { s.gov with vst := mset 0 s.gov.vst q mv, storeOv := bset s.gov.storeOv q (storeOver s q mv) } }

/-- The six checks in order; `mv` is the store voltage. -/
def burstAdmit (x : Shot) (mv : Nat) (s : State) : State :=
  let e := x.e
  let q := e / 4
  let s := storeRead q mv s
  let m := codeLen (shotCode s x)
  if s.sup.vstate = 2 ∨ scanning s = false ∨ pinScan s = true then s
  else if !s.mir.locked then s
  else if !emtOn s e || !bitAt (emtMask s e) x.member then exCntUpd e (fun c => { c with ignored := satAdd 16 c.ignored 1 }) s
  else if stepPeriodTdc s < slotStart s x.slot + windowLen then exCntUpd e (fun c => { c with late := satAdd 16 c.late 1 }) s
  else if bget s.gov.trip e then exCntUpd e (fun c => { c with tripblk := satAdd 16 c.tripblk 1 }) s
  else if !govAdmits s e m mv then exCntUpd e (fun c => { c with gvref := satAdd 16 c.gvref 1 }) s
  else
    let s := govTake e m s
    { s with ex := { s.ex with bursts := s.ex.bursts ++
      [{ e := e, slot := x.slot, code := shotCode s x, pass := x.pass, start := slotStart s x.slot }] } }

/-- The test of the listed burst of emitter `e` in slot `k`, once, 30 ns before its first sub-pulse. -/
def burstTest (e k mv : Nat) (s : State) : State :=
  match s.ex.todo.find? (fun x => x.e == e && x.slot == k) with
  | some x => burstAdmit x mv { s with ex := { s.ex with todo := s.ex.todo.filter fun y => !(y.e == e && y.slot == k) } }
  | none => s

/-- Emitter `k` of quadrant `q`. -/
def execBurstTest (t : Nat) (q k : Fin 4) (slot : Fin 8) (vstMv : Nat) (s : State) : Host.Outcome State Fault Refusal :=
  .next (burstTest (4 * q + k) slot vstMv (advance t s))

def burstAt (s : State) (e k : Nat) : Option Burst := s.ex.bursts.find? fun b => b.e == e && b.slot == k
def burstUpd (e k : Nat) (f : Burst → Burst) (s : State) : State :=
  { s with ex := { s.ex with bursts := s.ex.bursts.map fun b => if b.e == e && b.slot == k then f b else b } }

/-- The gate of emitter `e` may be driven high (R116, R129, R130, Table 2.7); in undervoltage lockout it is held low (R464). -/
def gateFree (s : State) (e : Nat) : Bool :=
  emtOn s e && scanning s && s.gov.locked && !bget s.gov.trip e && s.sup.vstate != 2 && !s.sup.uvlo && !pinScan s

def addSpend (x : Nat) (s : State) : State := { s with sup := { s.sup with spendAcc := s.sup.spendAcc + x } }

/-- Sub-pulse `i` of a burst starts: its energy is accounted (R118), and the first one makes it a burst fired. -/
def fireSub (e k i : Nat) (s : State) : State :=
  match burstAt s e k with
  | some b =>
    if b.fired = i ∧ i < codeLen b.code ∧ gateFree s e = true then
      let s := addSpend (subEnergy s e) (burstUpd e k (fun b => { b with fired := i + 1 }) s)
      if i = 0 then
        let s := exCntUpd e (fun c => { c with fired := satAdd 32 c.fired 1 }) s
        let k := 8192 * e + s.ex.step
        { s with ex := { s.ex with shotCol := mset 0 s.ex.shotCol k (mget 0 s.ex.shotCol k + 1)
                                   qFired := mset 0 s.ex.qFired (e / 4) (mget 0 s.ex.qFired (e / 4) + 1) } }
      else s
    else s
  | none => s

def execSubPulse (e : Fin 16) (slot : Fin 8) (i : Fin 7) (s : State) : Host.Outcome State Fault Refusal :=
  .next (fireSub e slot i s)

/-! ### Fast trip comparators (R129, R130) -/

def fcCfg (s : State) (n : Nat) : Nat := cfgN s 0x1800 (1 + n)

/-- Latch `n` sets: the rest of a burst in flight does not fire and is accounted in full (R118, R129). -/
def fcSet (n : Nat) (s : State) : State :=
  let rest := (s.ex.bursts.filter fun b => b.e == n && decide (0 < b.fired)).map fun b => codeLen b.code - b.fired
  let s := addSpend (rest.sum * subEnergy s n) s
  let s := { s with
    gov := { s.gov with trip := bset s.gov.trip n true, fcCnt := mset 0 s.gov.fcCnt n (satAdd 16 (mget 0 s.gov.fcCnt n) 1) }
    ex := { s.ex with bursts := s.ex.bursts.map fun b =>
      if b.e == n && decide (0 < b.fired) then { b with fired := codeLen b.code } else b } }
  if s.sys.mgmtUp then edSync 8 s else s

/-- The reference of comparator `n`, µV: 0.5 mV × DAC. -/
def fcRef (s : State) (n : Nat) : Nat := 500 * fld (fcCfg s n) 0 10

/-- FCSn at `uv` reads above the reference, with a hysteresis of 5 mV below it (R129). -/
def fcAbove (s : State) (n uv : Nat) : Bool := decide (fcRef s n < uv) || (bget s.gov.level n && decide (fcRef s n < uv + 5000))

/-- FCSn is at `uv`: a crossing above the reference sets the latch where the comparator may trip. -/
def fcSense (n uv : Nat) (s : State) : State :=
  if emtPresent s n && dpOn s then
    let up := fcAbove s n uv
    let was := bget s.gov.level n
    let s := { s with gov := { s.gov with fcs := mset 0 s.gov.fcs n uv, level := bset s.gov.level n up } }
    if up && !was && bitAt (fcCfg s n) 15 && !bget s.gov.trip n then fcSet n s else s
  else s

/-- FC_TRIP: FCSn crosses the reference of FCn. -/
def execFcTrip (sense : SenseLevel) (s : State) : Host.Outcome State Fault Refusal := .next (fcSense sense.n sense.uv s)

/-- Every comparator against its reference as committed. -/
def fcCommitted (s : State) : State := (List.range 16).foldl (fun s n => fcSense n (mget 0 s.gov.fcs n) s) s

/-- Latches are cleared where `w` is 1; one whose input is still above the reference sets again at once (R130). -/
def fcClear (w : BitVec 16) (s : State) : State :=
  let was := s.gov.trip
  let s := { s with gov := { s.gov with trip := w1c s.gov.trip w } }
  let s := (List.range 16).foldl (fun s n =>
    if bget was n && bget w n && bget s.gov.level n && bitAt (fcCfg s n) 15 then fcSet n s else s) s
  edSync 8 s

/-- A word written to FC_STAT: TRIP in its low half; its high half is read-only. -/
def execFcStatWrite (trip _high : BitVec 16) (s : State) : Host.Outcome State Fault Refusal := .next (fcClear trip s)

/-- The object FC_TRIP acts alike on either path. -/
def execFcTripWrite (_path : Path) (v : BitVec 16) (s : State) : Host.Outcome State Fault Refusal := .next (fcClear v s)

/-- Any write to FC_CNTn clears it (R139). -/
def fcCntClear (n : Nat) (s : State) : State := { s with gov := { s.gov with fcCnt := mdel s.gov.fcCnt n } }

def execFcCntWrite (n : Fin 16) (s : State) : Host.Outcome State Fault Refusal := .next (fcCntClear n s)

/-- Latches with AUTOCLR = 1 are cleared at a boundary (R130). -/
def fcAutoClear (s : State) : State :=
  fcClear (BitVec.ofNat 16 (maskOf 16 fun n => bitAt (fcCfg s n) 14)) s

/-! ### Registers (Tables 5.3, 5.4) -/

def ccVst (s : State) (q : Nat) : Nat :=
  let mv := mget 0 s.gov.vst q
  let tgt := 25 * vstCode s q
  bitIf (storeOver s q mv) 31 + bitIf (ccRuns s q && decide (49 * tgt ≤ 50 * mv) && decide (50 * mv ≤ 51 * tgt)) 30 + sat 16 mv

def govFill (s : State) (w100 : Bool) (e : Nat) : Nat := ceilDiv (winSum (mget {} (if w100 then s.gov.w100 else s.gov.w5) e)) 64

/-- The statistics of the emitters are posted and their counters restart (R139). -/
def latchEmitters (s : State) : State :=
  let s := (List.range 16).foldl (fun s e =>
    if emtPresent s e then
      let c := exCnt s e
      let a := 0x080010 + 0x40 * e
      post a 0 [(a + 4, c.fired), (a + 8, put c.gvref 16 16 + put c.tripblk 0 16), (a + 12, put c.late 16 16 + put c.ignored 0 16)] s
    else s) s
  { s with ex := { s.ex with cnt := [] } }

end Sys2Proof.Machine
end

