-- ==== Sys2Proof/Machine/Receive.lean ====
section
/-! DEFINITION. Machine/Receive.lean: receive channels, time correction, the blotter path and channel health (chapter 6). Times
within a step are in TDC steps of 15.625 ps from its start. -/

namespace Sys2Proof.Machine

def rxGet (s : State) (ch : Nat) : RxCh := mget {} s.rx ch
def rxPut (ch : Nat) (x : RxCh) (s : State) : State := { s with rx := mset {} s.rx ch x }
def rxUpd (ch : Nat) (f : RxCh → RxCh) (s : State) : State := rxPut ch (f (rxGet s ch)) s
def rqGet (s : State) (q : Nat) : Rq := mget {} s.rq q
def rqPut (q : Nat) (x : Rq) (s : State) : State := { s with rq := mset {} s.rq q x }

def rxOn (s : State) (ch : Nat) : Bool := chPresent s ch && cfgF s (0x2200 + ch) 1
/-- A quadrant object of index 0x2200 + 48q. -/
def rqCfg (s : State) (q sub : Nat) : Nat := cfgN s (0x2200 + 48 * q) sub
def baseMin (s : State) (ch : Nat) : Nat := cfgN s (0x2200 + ch) 3
/-- HEART − 8 mV, the clamp of the base note. -/
def baseTop (s : State) (ch : Nat) : Nat := cfgN s (0x2200 + ch) 4 - 8

/-! ### Health (Table 6.3) -/

/-- The data plane is ready for less than 20 ms (R145). -/
def justReady (s : State) : Bool := decide (s.sys.now < s.pw.readyAt + 20 * msNs)

/-- Code `k` of Table 6.3 holds for channel `ch`. -/
def healthHolds (s : State) (ch k : Nat) : Bool :=
  let x := rxGet s ch
  let hv := (rqGet s (ch / 48)).hvFault
  match k with
  | 1 => !cfgF s (0x2200 + ch) 1
  | 2 => x.uncal || (hv && justReady s)
  | 3 => x.dead
  | 4 => x.thr
  | 5 => x.drift
  | 6 => x.silent
  | 7 => x.noisy
  | 8 => hv && !justReady s
  | _ => false

/-- The codes in the order of their precedence. -/
def healthOrder : List Nat := [1, 8, 3, 4, 5, 2, 6, 7]

def healthOf (s : State) (ch : Nat) : Nat := (healthOrder.find? fun k => healthHolds s ch k).getD 0

/-- FAULTS: bit k − 1 of the byte while code k holds. -/
def faultsOf (s : State) (ch : Nat) : Nat := maskOf 8 fun i => healthHolds s ch (i + 1)

/-- A health change applies from the next step, and raises the quadrant's event (R162). -/
def healthStep (ch : Nat) (s : State) : State :=
  let h := healthOf s ch
  if h = (rxGet s ch).health then s else raise (evRxHealth + ch / 48) (rxUpd ch (fun x => { x with health := h }) s)

/-! ### Corrected time (R154) -/

/-- Rounding of a value with four fraction bits, halves away from zero (R159). -/
def round16 (z : Int) : Int := if 0 ≤ z then (z + 8) / 16 else -((8 - z) / 16)

/-- The walk of a latched entry as read: 0 to 255 steps. -/
def walkRead (w : Walk) : Nat := (clampI 0 255 (round16 w.walk16)).toNat
/-- Its TOT as read, in 0.25 ns. -/
def totRead (w : Walk) : Nat := (clampI 0 255 (round16 w.tot16)).toNat

/-- Linear interpolation in TOT (TDC steps) between consecutive valid entries, as numerator and denominator; the entries are in
the order of their level. -/
def walkBetween (tot : Nat) : List (Nat × Walk) → Int × Int
  | [] => (0, 1)
  | [(k, w)] => if k = 15 then (0, 1) else (walkRead w, 1)
  | (_, a) :: (k, b) :: rest =>
    let ta := 16 * totRead a
    let tb := 16 * totRead b
    if tot ≤ ta then (walkRead a, 1)
    else if tot ≤ tb then ((walkRead a : Int) * (tb - tot) + (walkRead b : Int) * (tot - ta), tb - ta)
    else walkBetween tot ((k, b) :: rest)

/-- WALK(TOT): 0 while no entry of levels 0 to 14 is valid; a BASE event takes the walk of the lowest valid entry. -/
def walkOf (m : SMap Walk) (cls : EvClass) (tot : Nat) : Int × Int :=
  match m with
  | [] => (0, 1)
  | (k, w) :: _ => if k = 15 then (0, 1) else if cls = .base then (walkRead w, 1) else walkBetween tot m

/-- The calibration latched for the frame of a step: that of the frame in progress, or of the one that closed last (R155). -/
def calOf (x : RxCh) (closed : Bool) : Int × SMap Walk := if closed then (x.zofsP, x.walkP) else (x.zofsL, x.walkL)

/-- T = t − ZOFS − WALK(TOT) − OPT_OFS, rounded to the nearest step; an exact half rounds upward (DESIGN CHOICE, assumption 114).
`v` gives the configuration of the frame. -/
def correct (v : State) (ch : Nat) (cal : Int × SMap Walk) (raw : Int) (cls : EvClass) (tot : Nat) : Int :=
  let w := walkOf cal.2 cls tot
  roundDiv ((raw - cal.1 - cfgI v (0x2200 + ch) 6) * w.2 - w.1) w.2

/-! ### The step in progress and the step before it (R168)

Events of a step reach the binner until 150 ns after the next one begins. A buffer names its step: `hg.buf` is the step begun last. -/

def stepBursts (s : State) (buf : Nat) : List Burst := if buf = s.hg.buf then s.ex.bursts else s.ex.burstsPrev
def stepShots (s : State) (buf : Nat) : List Shot := if buf = s.hg.buf then s.ex.list else s.ex.listPrev
/-- The frame of the step. -/
def bufFrame (s : State) (buf : Nat) : BitVec 32 := if buf = s.hg.buf then s.hg.curFrame else s.hg.oldFrame
/-- Its frame has closed. -/
def bufClosed (s : State) (buf : Nat) : Bool := bufFrame s buf != s.pw.frameNo
/-- A time of the step begun last, counted from the start of the step of `buf`. -/
def inStep (s : State) (buf : Nat) (t : Int) : Int := if buf = s.hg.buf then t else t + s.ex.prevLen

def ctxGet (s : State) (buf ch : Nat) : Ctx := mget {} s.hg.ctx (192 * buf + ch)
def ctxPut (buf ch : Nat) (c : Ctx) (s : State) : State := { s with hg := { s.hg with ctx := mset {} s.hg.ctx (192 * buf + ch) c } }

/-- A counter of the frame to which the step of `buf` belongs. -/
def rxCount (ch buf : Nat) (f : RxCnt → RxCnt) (s : State) : State :=
  if bufClosed s buf then rxUpd ch (fun x => { x with last := f x.last }) s else rxUpd ch (fun x => { x with cnt := f x.cnt }) s

/-! ### Events (R147 to R157) -/

/-- A listening window of the channel's serving emitter that holds `t`, with its buffer; a negative `t` lies in the step before. -/
def windowAt (s : State) (ch : Nat) (t : Int) : Option (Nat × Burst) :=
  let buf := if t < 0 then 1 - s.hg.buf else s.hg.buf
  let u := inStep s buf t
  ((stepBursts s buf).find? fun b => b.e == servingCh (viewFrame (bufFrame s buf) s) ch && decide (0 < b.fired) &&
    decide ((b.start : Int) ≤ u) && decide (u < b.start + windowLen)).map fun b => (buf, b)

/-- The data plane is clocked: not between the scanned frames of WATCH (R151, R158). -/
def dpClocked (s : State) : Bool := dpOn s && (s.pw.scanned || s.pw.st != 4)

/-- The step has a blotter injection (R158). -/
def injStep (s : State) (q : Nat) : Bool := let d := rqCfg s q 0x22; d != 0 && s.ex.stepsRun % d == 0

/-- Start of the blotter pulse, and the end of the listen 100 ns later (R158). -/
def injAt (s : State) : Nat := slotStart s 6 + windowLen + 1920
def listenEnd (s : State) : Nat := injAt s + 6400

/-- `t` lies in one of the seven quiet gaps (R151); the listen of an injection is no gap (R158). -/
def inGap (s : State) (q : Nat) (t : Int) : Bool :=
  ((List.range 7).any fun k => decide (((slotStart s k + windowLen : Nat) : Int) ≤ t) && decide (t < slotStart s (k + 1))) &&
  !(injStep s q && decide ((injAt s : Int) ≤ t) && decide (t < listenEnd s))

def hgQueue (s : State) (strip : Nat) : List Ev := mget [] s.hg.queue strip
def hgQueuePut (strip : Nat) (l : List Ev) (s : State) : State := { s with hg := { s.hg with queue := mset [] s.hg.queue strip l } }

/-- The event enters its strip's queue of 64, or is dropped (R156, R157). -/
def enqueueEv (ch : Nat) (e : Ev) (s : State) : State :=
  let strip := ch / 12
  let c := ctxGet s e.buf ch
  if 64 ≤ (hgQueue s strip).length then
    ctxPut e.buf ch { c with evloss := true, lossSlot := bset c.lossSlot e.slot true }
      (rxCount ch e.buf (fun x => { x with drops := satAdd 16 x.drops 1 }) s)
  else
    let s := rxCount ch e.buf (fun x => { x with events := satAdd 32 x.events 1 }) s
    hgQueuePut strip (hgQueue s strip ++ [{ e with loss := bget c.lossSlot e.slot }]) s

/-- TOT as the event word carries it: whole units of 62.5 ps, 1,023 for 63.94 ns and longer (Table 6.2). -/
def totField (tot : Nat) : Nat := min 1023 (tot / 4)

/-- The edges that the TDC captures of one excursion (R147, R148): `tBF` ends the event, with LONG or without; `overTop` is the longest
time above the top note. -/
structure Edges where
  tB : Int
  tH : Option Int
  tHF : Option Int
  tT : Option Int
  tBF : Int
  overTop : Nat
  long : Bool
  deriving DecidableEq, Repr

/-- The TIA output in µV for an input current in nA above the restored baseline (R143, Table 6.1). -/
def tiaOut (s : State) (ch na : Nat) : Nat := min 1000000 (na * (5 * 2 ^ cfgN s (0x2200 + ch) 2) / 2)

/-- The spans of a level above `thr`, each with its rise and its fall; `up` is the rise of the span in progress. -/
def spansAbove (thr : Nat) (up : Option Int) : List (Int × Nat) → List (Int × Option Int)
  | [] => match up with | some r => [(r, none)] | none => []
  | (t, v) :: w => match up with
    | some r => if thr < v then spansAbove thr (some r) w else (r, some t) :: spansAbove thr none w
    | none => if thr < v then spansAbove thr (some t) w else spansAbove thr none w

/-- The edges of an excursion: it ends where the output falls to the base note, or after 64 ns with LONG (R148). -/
def edgesOf (s : State) (ch : Nat) (x : Excursion) : Option Edges :=
  let w := x.wave.map fun e => (e.1, tiaOut s ch e.2)
  match spansAbove (1000 * (rxGet s ch).base) none w with
  | [] => none
  | (b, f) :: _ =>
    let long := match f with | some f => decide (b + 4096 < f) | none => true
    let close := if long then b + 4096 else f.getD b
    let v := w.filter fun e => decide (e.1 < close)
    let heart := (spansAbove (1000 * cfgN s (0x2200 + ch) 4) none v).head?
    let tops := spansAbove (1000 * cfgN s (0x2200 + ch) 5) none v
    some { tB := b, tH := heart.map Prod.fst
           tHF := heart.bind fun h => if h.2.isNone && !long then some close else h.2
           tT := tops.head?.map Prod.fst, tBF := close
           overTop := tops.foldl (fun m e => max m (e.2.getD close - e.1).toNat) 0, long := long }

/-- The excursion, closed at `tBF`: class, raw time and TOT (R147), then its window, its correction and its queue. -/
def takeEvent (ch : Nat) (x : Edges) (s : State) : State :=
  let s := rxUpd ch (fun c => { c with deadUntil := x.tBF + 256 }) s
  let cls := if x.tT.isSome then EvClass.top else if x.tH.isSome then EvClass.heart else EvClass.base
  let raw := x.tH.getD x.tB
  let tot := match x.tH with
    | some h => (match x.tHF with | some f => (f - h).toNat | none => 4096)
    | none => (x.tBF - x.tB).toNat
  match windowAt s ch x.tB with
  | none => if dpClocked s && inGap s (ch / 48) x.tB then rxUpd ch (fun c => { c with gap := c.gap + 1 }) s else s
  | some (buf, b) =>
    let cal := calOf (rxGet s ch) (bufClosed s buf)
    let t := correct (viewFrame (bufFrame s buf) s) ch cal (inStep s buf raw - b.start) cls tot
    if t < 0 then rxCount ch buf (fun c => { c with early := satAdd 8 c.early 1 }) s
    else enqueueEv ch { buf := buf, ch := ch, slot := b.slot, t := t, cls := cls, tot := totField tot
                        sat := decide (1024 ≤ x.overTop), long := x.long, loss := false } s

/-- An excursion that begins outside the TDC's dead time (R149), ended by its fall or closed with LONG. -/
def rxEvent (ch : Nat) (x : Excursion) (long : Bool) (s : State) : State :=
  match edgesOf s ch x with
  | some e => if rxOn s ch && dpOn s && e.long == long && decide ((rxGet s ch).deadUntil ≤ e.tB) then takeEvent ch e s else s
  | none => s

def execRxEvent (ch : Fin 192) (x : Excursion) (s : State) : Host.Outcome State Fault Refusal := .next (rxEvent ch x false s)
def execRxEventLongClose (ch : Fin 192) (x : Excursion) (s : State) : Host.Outcome State Fault Refusal :=
  .next (rxEvent ch x true s)

/-! ### The base note (R151 to R153) -/

def ambSteps (s : State) (q : Nat) : Nat := max 1 (rqCfg s q 0x21)

/-- The target of R151 in units of 10^−7 events: 0.25 M/s × code × AMB_STEPS × 2,644.4 ns. -/
def baseTarget (s : State) (q : Nat) : Nat := max 1 (rqCfg s q 0x20) * ambSteps s q * 6611000

/-- The update after AMB_STEPS steps. Between the scanned frames of WATCH there is none, but for the one due as a frame closes. -/
def baseUpdate (ch : Nat) (s : State) : State :=
  let q := ch / 48
  let x := rxGet s ch
  let amb := ambSteps s q
  if !dpOn s || !(dpClocked s || s.sys.now == s.pw.lastB) || decide (x.steps < amb) then s
  else
    let tg := baseTarget s q
    let c := x.gap * 10000000
    let b : Int := x.baseNext
    let b := if 8 * tg < c then b + 16 else if 2 * tg < c then b + 4 else if 2 * c < tg then b - 4 else b
    let b := (clampI (baseMin s ch) (baseTop s ch) b).toNat
    let loud := b == baseTop s ch && decide (2 * tg < c)
    let noisyRun := if loud then min 64 (x.noisyRun + 1) else 0
    let calmRun := if loud then 0 else min 64 (x.calmRun + 1)
    let lim := rqCfg s q 0x24
    let quiet := x.gap == 0 && b == baseMin s ch
    let silentRun := if quiet then min 255 (x.silentRun + 1) else 0
    rxPut ch { x with
      baseNext := b, gap := 0, steps := 0
      amb := x.gap * 10000000000 / (amb * 26444)
      noisyRun := noisyRun, calmRun := calmRun
      noisy := if noisyRun = 64 then true else if calmRun = 64 then false else x.noisy
      silentRun := silentRun
      silent := if lim = 0 then false else if x.gap ≠ 0 then false else x.silent || decide (lim ≤ silentRun) } s

def execBaseNoteUpdate (ch : Fin 192) (s : State) : Host.Outcome State Fault Refusal := .next (baseUpdate ch s)

/-! ### The blotter path (R158 to R161) -/

/-- An injection into every enabled channel of the quadrant. -/
def inject (q : Nat) (s : State) : State :=
  if qPresent s q && dpClocked s && injStep s q then
    let s := rqPut q { rqGet s q with injN := (rqGet s q).injN + 1 } s
    (List.range 48).foldl (fun s c =>
      if rxOn s (48 * q + c) then rxUpd (48 * q + c) (fun x => { x with inj := min 16 (x.inj + 1), cnt := { x.cnt with inj := satAdd 8 x.cnt.inj 1 } }) s else s) s
  else s

def execBlotterInjection (q : Fin 4) (s : State) : Host.Outcome State Fault Refusal := .next (inject q s)

/-- One filter step with four fraction bits: z + (m − z) ÷ 16, where `z` and `m16` are in sixteenths; which way an inexact step
rounds is open (assumption 17). -/
def filt16 (z m16 : Int) (up : Bool) : Int := z + (m16 - z) / 16 + (if (m16 - z) % 16 ≠ 0 ∧ up = true then 1 else 0)

/-- The entry of a level after a result. An entry that was made invalid starts afresh: its next result is taken directly, as the first
one after a data-plane start (DESIGN CHOICE, assumption 115). -/
def walkEntry (old : Option Walk) (m16 : Int) (tot : Nat) (up1 up2 : Bool) : Walk :=
  match old with
  | some w => ⟨filt16 w.walk16 m16 up1, (filt16 w.tot16 tot up2).toNat⟩
  | none => ⟨m16, tot⟩

/-- A level-15 result: ZOFS, entry 15, SPREAD, and the THRFAULT and CALDRIFT checks. The TOT of entry 15 is filtered as that of the
other entries (DESIGN CHOICE, assumption 116). -/
def level15 (ch : Nat) (b : BlotSeen) (s : State) : State :=
  let x := rxGet s ch
  let f := freeNow s
  let s := drawn s
  let z := if x.zofsGot then filt16 x.zofs16 (16 * b.m) (bitAt f 0) else 16 * b.m
  let top := decide (b.cls = .top)
  let notTop := if top then 0 else min 4 (x.notTop + 1)
  let tol := rqCfg s (ch / 48) 0x23
  let off := decide (tol < (round16 z - cfgI s (0x2200 + ch) 7).natAbs)
  let checked := tol != 0 && !x.uncal
  rxPut ch { x with
    zofs16 := z, zofsGot := true
    walk := mput x.walk 15 ⟨0, (walkEntry (mlook x.walk 15) 0 b.tot false (bitAt f 1)).tot16⟩
    spread := (b.m :: x.spread).take 16
    notTop := notTop
    thr := if notTop = 4 then true else if top && bget x.clr 1 then false else x.thr
    drift := if checked && off then true else if (!off || tol == 0) && bget x.clr 2 then false else x.drift
    clr := bset (bset x.clr 1 false) 2 false } s

/-- A result of levels 0 to 14. -/
def levelLow (ch a : Nat) (b : BlotSeen) (s : State) : State :=
  let x := rxGet s ch
  if b.cls = .base then rxPut ch { x with walk := mdel x.walk a } s
  else
    let f := freeNow s
    rxPut ch { x with walk := mput x.walk a (walkEntry (mlook x.walk a) (16 * b.m - x.zofs16) b.tot (bitAt f 0) (bitAt f 1)) } (drawn s)

/-- UNCAL ends with the first level-15 result and the first 16 injections (R161). -/
def uncalEnd (ch : Nat) (s : State) : State :=
  rxUpd ch (fun x => { x with uncal := x.uncal && !(x.zofsGot && decide (16 ≤ x.inj)) }) s

/-- The listen of channel `ch` ends: busy listens are discarded, a listen without event is a miss (R160, R161). -/
def listen (ch : Nat) (b : BlotSeen) (s : State) : State :=
  let x := rxGet s ch
  let a := ((rqGet s (ch / 48)).injN + 15) % 16
  if !rxOn s ch || !dpOn s then s
  else if decide (1 < b.events) || b.early then rxPut ch { x with cnt := { x.cnt with busy := satAdd 8 x.cnt.busy 1 } } s
  else if b.events = 0 then
    let miss := min 4 (x.miss + 1)
    uncalEnd ch (rxPut ch { x with miss := miss, dead := x.dead || miss == 4, clr := bset x.clr 0 false
                                   walk := if a = 15 then x.walk else mdel x.walk a } s)
  else
    let s := rxPut ch { x with miss := 0, dead := x.dead && !bget x.clr 0, clr := bset x.clr 0 false } s
    uncalEnd ch (if a = 15 then level15 ch b s else levelLow ch a b s)

def execBlotterListenEnd (ch : Fin 192) (x : BlotSeen) (s : State) : Host.Outcome State Fault Refusal := .next (listen ch x s)

/-! ### Detector bias (R144, R145) -/

/-- The bias target in mV; none while HV_TGT is off. -/
def hvTarget (s : State) (q : Nat) (temp : Int) : Option Int :=
  let tgt := rqCfg s q 0x26
  if tgt < 200 then none else some (100 * (min 2500 tgt : Nat) + cfgI s (0x2200 + 48 * q) 0x27 * (temp - 25))

/-- BIASq after an adjustment: unchanged with the bias at its target, else no lower where the bias is below it and no higher where it is
above. By how much it moves is open (R144; DEDUCED, assumption 117). -/
def biasNext (old : Nat) (hv tg : Int) (f : Nat) : Nat :=
  if hv < tg then old + f % (2501 - old) else if tg < hv then old - f % (old + 1) else old

/-- BIASq is held at 0 V, and nothing is checked. A standing HVFAULT ends with the check (DESIGN CHOICE, assumption 118). -/
def biasOff (x : Rq) : Rq := { x with bias := 0, badSince := none, okSince := none, hvFault := false }

/-- The adjustment of every 1 ms, with the measured bias in 10 mV and the receiver die temperature. -/
def hvAdjust (q hv : Nat) (temp : Int) (s : State) : State :=
  let x := { rqGet s q with hv := hv, temp := temp }
  let now := s.sys.now
  if !qPresent s q || !dpOn s then s
  else match hvTarget s q temp with
    | none => rqPut q (biasOff x) s
    | some tg =>
      let bad := decide (3 * tg < 100 * ((10 * hv : Nat) - tg).natAbs)
      let ok := holdSince (!bad) x.okSince now
      rqPut q { x with bias := biasNext (min 2500 x.bias) (10 * hv : Nat) tg (freeNow s)
                       badSince := holdSince bad x.badSince now, okSince := ok
                       hvFault := x.hvFault && !heldFor ok (10 * msNs) now } (drawn s)

/-- BIASq goes to 0 V where a commit sets HV_TGT to off. -/
def biasCommitted (s : State) : State :=
  { s with rq := s.rq.filterMap fun e =>
      let x := if (hvTarget s e.1 e.2.temp).isNone then biasOff e.2 else e.2
      if x = {} then none else some (e.1, x) }

/-- BIASq goes to 0 V where the data plane loses its power. -/
def biasStop (s : State) : State :=
  { s with rq := s.rq.filterMap fun e =>
      let x := { e.2 with bias := 0, badSince := none, okSince := none }
      if x = {} then none else some (e.1, x) }

def execHvBiasAdjust (t : Nat) (q : Fin 4) (hv10mV : Nat) (tempC : Int) (s : State) : Host.Outcome State Fault Refusal :=
  .next (hvAdjust q hv10mV tempC (advance t s))

def hvTimeout (q : Nat) (s : State) : State :=
  let x := rqGet s q
  if qPresent s q && dpOn s && (hvTarget s q x.temp).isSome && heldFor x.badSince (10 * msNs) s.sys.now then rqPut q { x with hvFault := true } s else s

def execHvFaultTimeout (t : Nat) (q : Fin 4) (s : State) : Host.Outcome State Fault Refusal := .next (hvTimeout q (advance t s))

/-! ### Health clears and ZREF (R162, R165) -/

def healthClr (ch : Nat) (s : State) : State :=
  rxUpd ch (fun x => { x with clr := BitVec.ofNat 3 (bitIf x.dead 0 + bitIf x.thr 1 + bitIf x.drift 2) }) s

def execHealthClr (ch : Fin 192) (s : State) : Host.Outcome State Fault Refusal :=
  .next (if chPresent s ch then healthClr ch s else s)

/-- Stage a value (R45): the staged set holds each value written. -/
def stagePut (k : Nat) (v : List Byte) (s : State) : State := { s with cf := { s.cf with staged := mput s.cf.staged k v } }

def zrefLatch (q : Nat) (s : State) : State :=
  if qPresent s q && canStage s then
    (List.range 48).foldl (fun s c => let ch := 48 * q + c
      stagePut (okey (0x2200 + ch) 7) (leBytes 2 (clampI 0 65535 (round16 (rxGet s ch).zofs16)).toNat) s) s
  else s

def execZrefLatch (q : Fin 4) (s : State) : Host.Outcome State Fault Refusal := .next (zrefLatch q s)

/-! ### Starts, boundaries, results -/

/-- A reset of all planes, a power-up or a wake from STANDBY ends DEAD, THRFAULT and CALDRIFT (R162). -/
def rxLatchesEnd (s : State) : State :=
  { s with rx := s.rx.filterMap fun e =>
      let x := { e.2 with dead := false, thr := false, drift := false, clr := 0 }
      if x = {} then none else some (e.1, x) }

/-- A data-plane start: base notes at BASE_MIN, calibration afresh, UNCAL; the three latches survive (R151, R162). -/
def rxStart (s : State) : State :=
  let s := { s with rq := s.rq.filterMap fun e =>
    let x := { biasOff e.2 with injN := 0 }
    if x = {} then none else some (e.1, x) }
  (List.range (48 * quadrants s.sys.variant)).foldl (fun s ch =>
    let x := rxGet s ch
    rxPut ch { ({} : RxCh) with
      base := baseMin s ch, baseNext := baseMin s ch, dead := x.dead, thr := x.thr, drift := x.drift, clr := x.clr
      uncal := true, health := x.health } s) s

/-- The calibration is latched at a frame boundary (R155). -/
def rxLatchCal (x : RxCh) : RxCh :=
  { x with zofsP := x.zofsL, walkP := x.walkL, zofsL := round16 x.zofs16, walkL := x.walk }

/-- An entry of the walk table as read. -/
def walkWord (m : SMap Walk) (a : Nat) : Nat :=
  match mlook m a with | some w => put (totRead w) 8 8 + put (walkRead w) 0 8 | none => 0xFFFF

def spreadOf (l : List Int) : Nat := match l.max?, l.min? with | some a, some b => sat 8 (a - b).toNat | _, _ => 0

/-- RX_STATnnn, RX_LEVELnnn, RX_BLOTnnn and the walk words as they stand, without the counters. -/
def rxWords (s : State) (ch : Nat) (x : RxCh) : List Nat :=
  [put (faultsOf s ch) 8 8 + put x.health 0 4, put (x.base / 4) 24 8 + put (sat 16 (x.amb / 1000)) 0 16,
   put (clampI 0 65535 x.zofsL).toNat 16 16 + put (spreadOf x.spread) 8 8] ++
  (List.range 8).map fun j => put (walkWord x.walkL (2 * j + 1)) 16 16 + put (walkWord x.walkL (2 * j)) 0 16

/-- A frame closes for channel `ch`: its calibration is latched, its counters are cut at the boundary, and its words wait for the post. -/
def rxCloseCh (ch : Nat) (s : State) : State :=
  let x := rxLatchCal (rxGet s ch)
  rxPut ch { x with last := x.cnt, cnt := {}, shown := rxWords s ch x } s

/-- A frame closes for every channel, while the data plane is powered (R155, R163). -/
def rxClose (s : State) : State :=
  if dpOn s then
    let s := (List.range (48 * quadrants s.sys.variant)).foldl (fun s ch => rxCloseCh ch s) s
    (List.range (quadrants s.sys.variant)).foldl (fun s q =>
      rqPut q { rqGet s q with notOk := ((List.range 48).filter fun c => (rxGet s (48 * q + c)).health != 0).length } s) s
  else s

/-- RX_STATnnn to RX_WALKnnn of the frame that closed last are posted (R163). -/
def postRx (ch : Nat) (s : State) : State :=
  let x := rxGet s ch
  let a := 0x0A0000 + 0x4000 * (ch / 48) + 0x0400 + 0x40 * (ch % 48) + 0x0C
  let w := fun i => x.shown.getD i 0
  let s := post a (w 0)
    ([(a + 4, w 1), (a + 8, w 2 + put x.last.inj 0 8), (a + 12, x.last.events),
      (a + 16, put x.last.drops 16 16 + put x.last.early 8 8 + put x.last.busy 0 8)] ++
     (List.range 8).map fun j => (a + 20 + 4 * j, w (3 + j))) s
  rxUpd ch (fun x => { x with last := {}, shown := [] }) s

/-- The receive results of quadrant `q`. -/
def postQuadrantRx (q : Nat) (s : State) : State :=
  let s := post (0x0A0010 + 0x4000 * q) (rqGet s q).notOk [] s
  (List.range 48).foldl (fun s c => postRx (48 * q + c) s) s

/-- RQ_HVSTATq. -/
def hvStat (s : State) (q : Nat) : Nat :=
  let x := rqGet s q
  bitIf x.okSince.isSome 31 + put (toU 8 x.temp) 16 8 + sat 16 x.hv

end Sys2Proof.Machine
end

