-- ==== Sys2Proof/Machine/Histogram.lean ====
section
/-! DEFINITION. Machine/Histogram.lean: the histogram store, code-gated binning, the picker and snapshots (chapter 7). -/

namespace Sys2Proof.Machine

/-! ### Configuration -/

def hgN (s : State) (q sub : Nat) : Nat := cfgQN s q 0x2400 sub
def gateTol (s : State) (q : Nat) : Nat := hgN s q 6
def gateK (s : State) (q : Nat) : Nat := max 1 (hgN s q 5)
/-- ORIGIN of strip `st` (0 to 15) in TDC steps (Table 7.2). -/
def origin (s : State) (st : Nat) : Nat := 256 * cfgN s 0x2400 (0x10 + st)

/-! ### Strip modes (Table 7.1) -/

/-- Passes of the listed bursts of emitter `e` in slot order. -/
def passesOf (l : List Shot) (e : Nat) : List (Nat × Nat) :=
  (List.range 8).filterMap fun k => (l.find? fun x => x.e == e && x.slot == k).map fun x => (k, x.pass)

/-- Mode of the strip: 0 NONE, 1 ZOOM, 2 FULL. -/
def stripMode (ps : List (Nat × Nat)) : Nat := match ps with | [] => 0 | (_, p) :: _ => if p = 3 then 2 else 1

/-- The slot of the first fine burst. -/
def firstFine (ps : List (Nat × Nat)) : Nat := ((ps.find? fun p => p.2 == 2).map (·.1)).getD 8

def stripNowin (ps : List (Nat × Nat)) : Bool := match ps with | (_, 2) :: _ => true | _ => false

/-- The burst in slot `k` is binned. -/
def slotBinned (ps : List (Nat × Nat)) (k : Nat) : Bool :=
  match ps.find? (fun p => p.1 == k) with
  | none => false
  | some p =>
    if stripMode ps = 2 then p.2 == 3
    else if stripNowin ps then false
    else p.2 == 2 || (p.2 == 1 && decide (k < firstFine ps))

/-- MIXED: a listed burst is discarded for its pass, other than the fine bursts that NOWIN stands for. -/
def stripMixed (ps : List (Nat × Nat)) : Bool :=
  ps.any fun p => !slotBinned ps p.1 && !(stripNowin ps && p.2 == 2)

/-! ### Bins -/

def binKey (buf ch i : Nat) : Nat := 0xC0000 * buf + 0x1000 * ch + i
def binGet (s : State) (buf ch i : Nat) : Nat := mget 0 s.hg.bins (binKey buf ch i)
/-- The bins of one region. -/
def region (s : State) (buf ch : Nat) : SMap Nat :=
  (s.hg.bins.filter fun e => e.1 / 0x1000 == 0xC0 * buf + ch).map fun e => (e.1 % 0x1000, e.2)

/-- A counter of quadrant `q`, of the frame to which the step of `buf` belongs (R186). -/
def hgCnt (buf q : Nat) (f : HgCnt → HgCnt) (s : State) : State :=
  if bufClosed s buf then { s with hg := { s.hg with last := mupd {} s.hg.last q f } }
  else { s with hg := { s.hg with cnt := mupd {} s.hg.cnt q f } }

/-- A weight is added to bin `i` of a buffer; it stays at 65,535 (R175). -/
def binAdd (buf ch i w : Nat) (s : State) : State :=
  let v := binGet s buf ch i
  let v' := satAdd 16 v w
  let s := { s with hg := { s.hg with bins := mset 0 s.hg.bins (binKey buf ch i) v' } }
  if v < 65535 ∧ v' = 65535 then hgCnt buf (ch / 48) (fun c => { c with ovt := satAdd 16 c.ovt 1 }) s else s

/-- One increment made, counted for the quadrant and the channel-point. -/
def incrAt (buf ch i w : Nat) (s : State) : State :=
  let s := hgCnt buf (ch / 48) (fun c => { c with incr := satAdd 32 c.incr 1 }) (binAdd buf ch i w s)
  let x := ctxGet s buf ch
  ctxPut buf ch { x with incr := satAdd 16 x.incr 1 } s

/-! ### Code gating (R172 to R174) -/

/-- The held event nearest to a time within the tolerance; of two equally near, the earlier. -/
def nearest (held : List (Nat × Held)) (t : Int) (tol : Nat) : Option Nat :=
  (held.foldl (fun best h =>
    let d := (h.2.ev.t - t).natAbs
    if tol < d then best
    else match best with
      | none => some (h.1, d, h.2.ev.t)
      | some (_, d', t') => if d < d' ∨ (d = d' ∧ h.2.ev.t < t') then some (h.1, d, h.2.ev.t) else best)
    (none : Option (Nat × Nat × Int))).map (·.1)

/-- Weight of the matched events (R173). -/
def weightOf (s : State) (q : Nat) (evs : List Ev) : Nat :=
  let top := evs.any fun e => decide (e.cls = .top)
  let heart := evs.any fun e => decide (e.cls = .heart)
  (if top then hgN s q 3 else if heart then hgN s q 2 else hgN s q 1) + (if evs.any (·.sat) then hgN s q 4 else 0)

/-- Where a match at τ goes: the bins of its pass, or out of span, or in no window (R170, R180). -/
inductive Landing where
  | bins (l : List Nat)
  | outspan
  | unwin
  deriving DecidableEq, Repr

def landing (s : State) (buf ch pass : Nat) (tau : Int) : Landing :=
  let o : Int := origin s (ch / 12)
  if pass = 2 then
    let ws := (ctxGet s buf ch).wins.zipIdx.filterMap fun e =>
      let d := tau - e.1.1
      if 0 ≤ d ∧ d < 1024 then some (512 + 64 * e.2 + (d / 16).toNat) else none
    if ws.isEmpty then .unwin else .bins ws
  else
    let d := tau - o
    if d < 0 ∨ 131072 ≤ d then .outspan
    else .bins [if pass = 1 then (d / 256).toNat else (d / 32).toNat]

/-- Key of a buffer, a channel and a slot. -/
def csKey (buf ch slot : Nat) : Nat := 8 * (192 * buf + ch) + slot

/-- The match at hypothesis `tau` with the held events `idx` and the arriving one. All of them have then taken part in an increment,
whether or not it reaches a bin: FOREIGN counts the device's own returns that complete no match (R174; DEDUCED, assumption 47). The
flag says that a fine increment found no valid window (R180). -/
def makeMatch (ch : Nat) (b : Burst) (ev : Ev) (idx : List Nat) (tau : Int) (s : State) : State × Bool :=
  let q := ch / 48
  let k := csKey ev.buf ch b.slot
  let held := mget [] s.hg.held k
  let evs := ev :: idx.filterMap fun i => (held[i]?).map (·.ev)
  let marked := held.zipIdx.map fun h => if idx.contains h.2 then { h.1 with used := true } else h.1
  let s := { s with hg := { s.hg with incs := mset [] s.hg.incs k (tau :: mget [] s.hg.incs k), held := mset [] s.hg.held k marked } }
  match landing s ev.buf ch b.pass tau with
  | .outspan => (hgCnt ev.buf q (fun c => { c with outspan := satAdd 16 c.outspan 1 }) s, false)
  | .unwin => (s, true)
  | .bins l => (l.foldl (fun s i => incrAt ev.buf ch i (weightOf s q evs) s) s, false)

/-- Every hypothesis of the arriving event in order; the flags say whether it took part in an increment, and whether in one without a
valid window. -/
def gateEvent (ch : Nat) (b : Burst) (ev : Ev) (s : State) : State × Bool × Bool :=
  let q := ch / 48
  let os := codeOffsets b.code
  let tol := gateTol s q
  let need := min (gateK s q) os.length
  (List.range os.length).foldl (fun (acc : State × Bool × Bool) i =>
    let s := acc.1
    let k := csKey ev.buf ch b.slot
    let tau := ev.t - os.getD i 0
    let held := (mget [] s.hg.held k).zipIdx.map fun h => (h.2, h.1)
    let idx := (List.range i).filterMap fun j => nearest held (tau + os.getD j 0) tol
    let blocked := (mget [] s.hg.incs k).any fun x => decide ((x - tau).natAbs ≤ tol)
    if need ≤ 1 + idx.length ∧ blocked = false then
      let r := makeMatch ch b ev idx tau s
      (r.1, true, acc.2.2 || r.2)
    else acc) (s, false, false)

def addForeign (buf ch n : Nat) (s : State) : State :=
  let s := hgCnt buf (ch / 48) (fun c => { c with foreign := satAdd 32 c.foreign n }) s
  let x := ctxGet s buf ch
  ctxPut buf ch { x with foreign := satAdd 16 x.foreign n } s

/-- An event counts in FOREIGN when its burst's window closes, unless it took part in an increment (R174). -/
def isForeign (h : Held) : Bool := !h.used

/-- The event joins the last 16 held ones; where one leaves, or the window has closed, it is judged now (R172, R174). -/
def holdEvent (ch : Nat) (b : Burst) (h : Held) (s : State) : State :=
  let k := csKey h.ev.buf ch b.slot
  let l := mget [] s.hg.held k ++ [if b.closed then { h with used := true } else h]
  let out := l.take (l.length - 16)
  let n := (out.filter isForeign).length + (if b.closed && isForeign h then 1 else 0)
  let s := { s with hg := { s.hg with held := mset [] s.hg.held k (l.drop (l.length - 16)) } }
  if n = 0 then s else addForeign h.ev.buf ch n s

/-- A late event is discarded; its channel-point carries EVLOSS (R168). -/
def lateEvent (ev : Ev) (s : State) : State :=
  let s := hgCnt ev.buf (ev.ch / 48) (fun c => { c with lateev := satAdd 16 c.lateev 1 }) s
  ctxPut ev.buf ev.ch { ctxGet s ev.buf ev.ch with evloss := true } s

/-- The event, whose burst is `b`, is matched and held; the events of a burst that its strip discards (MIXED, NOWIN) match nothing and
are counted in FOREIGN (R171, R172, R174). -/
def gateBurst (b : Burst) (ev : Ev) (s : State) : State :=
  let ch := ev.ch
  if slotBinned (passesOf (stepShots s ev.buf) b.e) b.slot then
    let r := gateEvent ch b ev s
    let s := if r.2.2 then hgCnt ev.buf (ch / 48) (fun c => { c with unwin := satAdd 16 c.unwin 1 }) r.1 else r.1
    holdEvent ch b ⟨ev, r.2.1⟩ s
  else holdEvent ch b ⟨ev, false⟩ s

/-- The step of the buffer has ended and its release has begun: it accumulates nothing more (R168). -/
def bufReleased (s : State) (buf q : Nat) : Bool := buf != s.hg.buf && !bget s.hg.relDue q

/-- An event taken from its queue reaches the binner (R168, R172); `at_` in TDC steps of the step begun last. -/
def binTaken (at_ : Int) (ev : Ev) (s : State) : State :=
  match (stepBursts s ev.buf).find? (fun b => b.e == servingCh s ev.ch && b.slot == ev.slot) with
  | none => s
  | some b =>
    if b.start + windowLen + 9600 < inStep s ev.buf at_ || bufReleased s ev.buf (ev.ch / 48) then lateEvent ev s else gateBurst b ev s

/-- A change made under the configuration of frame `f`. -/
def underFrame (f : BitVec 32) (g : State → State) (s : State) : State := { g (viewFrame f s) with cf := s.cf }

/-- The event at the head of a strip's queue reaches the binner, under the configuration of its frame. -/
def binEvent (strip : Nat) (at_ : Int) (s : State) : State :=
  match hgQueue s strip with
  | [] => s
  | ev :: rest => underFrame (bufFrame s ev.buf) (binTaken at_ ev) (hgQueuePut strip rest s)

def execEventBinning (strip : Fin 16) (atTdc : Int) (s : State) : Host.Outcome State Fault Refusal := .next (binEvent strip atTdc s)

/-- The twelve channels that emitter `e` serves. -/
def channelsOf (s : State) (e : Nat) : List Nat := (List.range 12).map fun i => 48 * (e / 4) + 12 * emtStrip s e + i

/-- The listening window of a burst closes (R174). -/
def closeWindow (e k : Nat) (s : State) : State :=
  match burstAt s e k with
  | none => s
  | some b =>
    if b.closed || b.fired == 0 then s
    else
      let s := burstUpd e k (fun b => { b with closed := true }) s
      (channelsOf s e).foldl (fun s ch =>
        let key := csKey s.hg.buf ch k
        let h := mget [] s.hg.held key
        let n := (h.filter isForeign).length
        let s := { s with hg := { s.hg with held := mset [] s.hg.held key (h.map fun x => { x with used := true }) } }
        if n = 0 then s else addForeign s.hg.buf ch n s) s

def execWindowClose (e : Fin 16) (slot : Fin 8) (s : State) : Host.Outcome State Fault Refusal :=
  .next (if s.ex.open_ then closeWindow e slot s else s)

/-! ### The picker (R177 to R179) -/

/-- Candidates of the coarse bins in rank order: descending value, then ascending bin (R178). -/
def candidates (s : State) (ch m : Nat) : List (Nat × Nat) :=
  let v := fun i => binGet s s.hg.buf ch i
  let cs := (List.range 512).filterMap fun c =>
    if m + hgN s (ch / 48) 7 ≤ v c ∧ (c = 0 ∨ v (c - 1) ≤ v c) ∧ (if c = 511 then 0 else v (c + 1)) < v c then some (c, v c) else none
  cs.mergeSort fun a b => decide (b.2 < a.2) || (a.2 == b.2 && decide (a.1 ≤ b.1))

/-- Windows for the candidates in rank order, at most FINE_MAX; a candidate whose whole coarse bin lies inside a placed window is
skipped (R179). Each window is its start in TDC steps and its candidate. -/
def placeWindows (o fineMax : Nat) (cs : List (Nat × Nat)) : List (Nat × Nat) :=
  cs.foldl (fun ws c =>
    let lo := o + 256 * c.1
    if fineMax ≤ ws.length then ws
    else if ws.any (fun w => decide (w.1 ≤ lo) && decide (lo + 256 ≤ w.1 + 1024)) then ws
    else ws ++ [((clampI o (o + 130048) ((lo : Int) - 384)).toNat, c.1)]) []

/-- M of R178. -/
def coarseMean (s : State) (ch : Nat) : Nat := ((List.range 512).map fun i => binGet s s.hg.buf ch i).sum / 512

def pick (strip : Nat) (s : State) : State :=
  let q := strip / 4
  let ps := passesOf s.ex.list (serving s q (strip % 4))
  if stripMode ps = 1 ∧ stripNowin ps = false ∧ firstFine ps < 8 then
    (List.range 12).foldl (fun s i =>
      let ch := 12 * strip + i
      let m := coarseMean s ch
      let ws := placeWindows (origin s strip) (clampN 1 8 (hgN s q 8)) (candidates s ch m)
      ctxPut s.hg.buf ch { ctxGet s s.hg.buf ch with mean := sat 16 m, wins := ws } s) s
  else s

def execPickerRun (strip : Fin 16) (s : State) : Host.Outcome State Fault Refusal :=
  .next (if s.ex.open_ then pick strip s else s)

/-! ### Steps -/

/-- Events of the step before last that still wait in the queues are late (R168). -/
def hgTooLate (buf : Nat) (s : State) : State :=
  (List.range 16).foldl (fun s strip =>
    let l := hgQueue s strip
    (l.filter fun e => e.buf == buf).foldl (fun s e => lateEvent e s) (hgQueuePut strip (l.filter fun e => e.buf != buf) s)) s

/-- A step begins: the other buffer is cleared by its flags and accumulates, and the contexts take their modes (R167 to R169). -/
def hgBegin (s : State) : State :=
  let buf := 1 - s.hg.buf
  let n := 48 * quadrants s.sys.variant
  let ctx := (List.range n).filterMap fun ch =>
    let ps := passesOf s.ex.list (servingCh s ch)
    let c : Ctx := { mode := stripMode ps, mixed := stripMixed ps, nowin := stripNowin ps }
    if c = {} then none else some (192 * buf + ch, c)
  let old := s.hg.ctx.filter fun e => e.1 / 192 != buf
  let s := hgTooLate buf s
  { s with hg := { s.hg with
      buf := buf, bins := mfilter (fun k => k / 0xC0000 != buf) s.hg.bins
      ctx := if buf = 0 then ctx ++ old else old ++ ctx
      held := mfilter (fun k => k / 1536 != buf) s.hg.held, incs := mfilter (fun k => k / 1536 != buf) s.hg.incs
      curFrame := s.pw.frameNo, oldFrame := s.hg.curFrame } }

/-- A step ends: its contexts are complete and its buffer waits for release (R168, R181). -/
def hgEnd (s : State) : State :=
  let buf := s.hg.buf
  let s := s.ex.bursts.foldl (fun s b => closeWindow b.e b.slot s) s
  let s := (List.range (48 * quadrants s.sys.variant)).foldl (fun s ch =>
    let x := ctxGet s buf ch
    let bs := s.ex.bursts.filter fun b => b.e == servingCh s ch && decide (0 < b.fired)
    let r := rxGet s ch
    let s := if x.mixed then hgCnt buf (ch / 48) (fun c => { c with mixed := satAdd 16 c.mixed 1 }) s else s
    let s := if x.nowin then hgCnt buf (ch / 48) (fun c => { c with nowin := satAdd 16 c.nowin 1 }) s else s
    ctxPut buf ch { x with
      nc := (bs.filter fun b => b.pass != 2).length, nf := (bs.filter fun b => b.pass == 2).length
      notOk := r.health != 0, health := r.health } s) s
  { s with hg := { s.hg with
      relBuf := buf, relAt := s.sys.now + 150, relDue := BitVec.ofNat 4 (2 ^ quadrants s.sys.variant - 1), relStep := s.ex.step, relFrame := s.pw.frameNo
      relStime := s.ex.stepAt - s.pw.lastB } }

/-! ### Snapshots (R184, R185) -/

def snapGet (s : State) (q : Nat) : Snap := mget {} s.hg.snap q
def snapPut (q : Nat) (x : Snap) (s : State) : State := { s with hg := { s.hg with snap := mset {} s.hg.snap q x } }

/-- The named step has begun, also where its frame was abandoned since. -/
def stepBegun (s : State) (frame : BitVec 32) (step : Nat) : Bool :=
  let d := (s.pw.frameNo - frame).toInt
  decide (0 < d) || (d == 0 && decide (step < s.ex.begun))

def snapCmd (q w : Nat) (s : State) : State :=
  let x := snapGet s q
  let frame := BitVec.ofNat 32 x.frame
  if !bitAt w 31 || !qPresent s q then s
  else if x.state ≠ 0 then snapPut q { x with last := 4 } s
  else if 47 < fld w 16 6 ∨ stepsPerFrame s ≤ fld w 0 13 then snapPut q { x with last := 5 } s
  else if bitAt w 30 && stepBegun s frame (fld w 0 13) then snapPut q { x with last := 2 } s
  else snapPut q { x with state := 1, at1 := bitAt w 30, ch := fld w 16 6, step := fld w 0 13, armFrame := frame } s

def execHgSnapCmd (q : Fin 4) (w : Word) (s : State) : Host.Outcome State Fault Refusal := .next (snapCmd q w.toNat s)

/-- A step begins: a snapshot of the next step takes it (R184). -/
def snapStep (s : State) : State :=
  (List.range 4).foldl (fun s q =>
    let x := snapGet s q
    if x.state = 1 ∧ x.at1 = false then snapPut q { x with at1 := true, step := s.ex.step, armFrame := s.pw.frameNo } s else s) s

/-- The release of a step: its snapshot starts copying. -/
def snapRelease (q : Nat) (s : State) : State :=
  let x := snapGet s q
  if x.state = 1 ∧ x.at1 = true ∧ x.step = s.hg.relStep ∧ x.armFrame = s.hg.relFrame then snapPut q { x with state := 2 } s else s

/-- Snapshots of a frame that is abandoned, or all of them where the data plane stops (Table 7.3). -/
def snapAbandon (all : Bool) (s : State) : State :=
  (List.range 4).foldl (fun s q =>
    let x := snapGet s q
    if x.state ≠ 0 ∧ (all = true ∨ (x.at1 = true ∧ x.armFrame = s.pw.frameNo)) then snapPut q { x with state := 0, last := 3 } s else s) s

/-- The snapshot header words from +0x1FC4 (Table 7.4). -/
def snapHeader (q : Nat) (c : Ctx) (x : Snap) : List (Nat × Nat) :=
  let a := 0x0A0000 + 0x4000 * q + 0x1FC0
  [(a + 4, x.armFrame.toNat), (a + 8, x.step), (a + 12, put c.nc 28 4 + put c.nf 24 4 + (if c.mode = 2 then 0 else sat 16 c.mean)),
   (a + 0x30, put c.foreign 16 16 + put c.incr 0 16)] ++
  (List.range 8).map fun w => (a + 0x10 + 4 * w,
    match c.wins[w]? with | some p => bitIf true 31 + put (p.1 / 16) 16 14 + put p.2 0 9 | none => 0)

/-- The copy completes within 2 µs of the release and is posted. -/
def snapDone (q : Nat) (s : State) : State :=
  let x := snapGet s q
  if x.state = 2 then
    let buf := s.hg.relBuf
    let ch := 48 * q + x.ch
    let bins := region s buf ch
    let c := ctxGet s buf ch
    let low := put c.mode 22 2 + bitIf c.mixed 21 + bitIf c.nowin 20 + bitIf c.evloss 19 +
      bitIf (bins.any fun e => e.2 == 65535) 18 + put buf 17 1 + put x.ch 0 6
    post (0x0A0000 + 0x4000 * q + 0x1FC0) low (snapHeader q c x) (snapPut q { x with state := 0, last := 1, bins := bins } s)
  else s

def execSnapshotComplete (q : Fin 4) (s : State) : Host.Outcome State Fault Refusal := .next (snapDone q s)

/-! ### Registers -/

/-- A word of the store (R166): bins 2j and 2j + 1. -/
def hgWord (s : State) (a : Nat) : Nat :=
  let o := a - 0x100000
  let buf := o / 0x180000
  let ch := o % 0x180000 / 0x2000
  let i := o % 0x2000 / 2
  if chPresent s ch then put (binGet s buf ch (i + 1)) 16 16 + put (binGet s buf ch i) 0 16 else 0

/-- A word of the snapshot area. -/
def snapWord (s : State) (q j : Nat) : Nat :=
  let b := (snapGet s q).bins
  put (mget 0 b (2 * j + 1)) 16 16 + put (mget 0 b (2 * j)) 0 16

/-- HG_STATq to HG_CNT3q of the frame that closed last are posted (R186). -/
def postHg (q : Nat) (s : State) : State :=
  let c := mget {} s.hg.last q
  let a := 0x0A1820 + 0x4000 * q
  let s := post a 0 [(a + 4, c.incr), (a + 8, c.foreign), (a + 12, put c.outspan 16 16 + put c.lateev 0 16),
    (a + 16, put c.mixed 16 16 + put c.nowin 0 16), (a + 20, put c.ovt 16 16 + put c.unwin 0 16)] s
  { s with hg := { s.hg with last := mdel s.hg.last q } }

/-- A frame closes: its counters are cut at the boundary, those of the bursts fired with them (R186, R228). -/
def hgClose (s : State) : State :=
  { s with hg := { s.hg with last := s.hg.cnt, cnt := [] }, ex := { s.ex with qFiredPrev := s.ex.qFired, qFired := [] } }

/-- The receive and histogram results of a frame that was not scanned: no engine processes it, and they are posted at its boundary
(R163, R186). -/
def postNominal (s : State) : State :=
  if dpOn s && !s.pw.scanned && !s.pw.abandoned then
    (List.range (quadrants s.sys.variant)).foldl (fun s q => postHg q (postQuadrantRx q s)) s
  else s

end Sys2Proof.Machine
end

