-- ==== Sys2Proof/Machine/PointStream.lean ====
section
/-! DEFINITION. Machine/PointStream.lean: the two point stream lanes (chapter 12). `v` is the state whose configuration governs
the frame of the records (R282). -/

namespace Sys2Proof.Machine

/-! ### Packets on a lane (R271) -/

/-- A packet from /S/ to the last /R/ (R271). -/
def packetGroups (preamble : Bool) (content : List Byte) : List Group :=
  [.special .start] ++ (if preamble then List.replicate 6 (.data 0x55) ++ [.data 0xD5] else []) ++ content.map (fun b => .data b.toNat) ++
  [.special .terminate] ++ List.replicate (if preamble then 1 else 2) (.special .extend)

/-- `n` idle ordered sets: /I1/ = /K28.5/D5.6/ first where the disparity is positive, else and then /I2/ = /K28.5/D16.2/. -/
def idleGroups (n : Nat) (rd : Bool) : List Group :=
  (List.range n).flatMap fun i => [.special .comma, .data (if rd && i == 0 then 0xC5 else 0x50)]

/-- What a lane sends for a packet: its code groups and the six idle ordered sets that follow at least. -/
def wireOf (preamble : Bool) (content : List Byte) (rd : Bool) : List (BitVec 10) × Bool :=
  let a := groupsOf (packetGroups preamble content) rd
  let b := groupsOf (idleGroups 6 a.2) a.2
  (a.1 ++ b.1, b.2)

/-! ### Lanes -/

def laneGet (s : State) (l : Nat) : Lps := if l = 0 then s.ps.l0 else s.ps.l1
def lanePut (l : Nat) (x : Lps) (s : State) : State :=
  if l = 0 then { s with ps := { s.ps with l0 := x } } else { s with ps := { s.ps with l1 := x } }
def laneUpd (l : Nat) (f : Lps → Lps) (s : State) : State := lanePut l (f (laneGet s l)) s

def psCap (v : State) : Nat := cfgN v 0x2800 1
def laneOn (v : State) (l : Nat) : Bool := bitAt (cfgN v 0x2800 2) l
def laneOf (v : State) (q : Nat) : Nat := fld (cfgN v 0x2800 3) q 1
/-- Framing of a packet in code groups (R271). -/
def framing (v : State) : Nat := if cfgF v 0x2800 4 then 22 else 16
/-- Quadrant `q` is streamed. -/
def streamed (v : State) (q : Nat) : Bool := qPresent v q && laneOn v (laneOf v q)
/-- The lane sends code groups and is not about to stop: it takes records (R272). -/
def laneTakes (s : State) (l : Nat) : Bool := (laneGet s l).up && !(laneGet s l).ending

/-- Bytes enter the backlog. -/
def fillAdd (l n : Nat) (s : State) : State :=
  laneUpd l (fun x => { x with fill := x.fill + n, peak := max x.peak (x.fill + n) }) s

def psAsm (s : State) (q : Nat) : List Byte := mget [] s.ps.asm q
def psAsmPut (q : Nat) (b : List Byte) (s : State) : State := { s with ps := { s.ps with asm := mset [] s.ps.asm q b } }

/-- The echo record of Table 8.5. -/
def echoWord (e : Echo) : Nat :=
  put e.range 45 19 + put e.intensity 33 12 + put e.quality 25 8 + put e.index 22 3 + bitIf e.ovt 21 + bitIf e.sil 20 +
  put e.pass 18 2 + bitIf e.edge 17 + bitIf e.evloss 16 + bitIf e.np 15 + put e.usr.toNat 0 6

/-- A complete packet waits until every lower quadrant of its step on the lane has been queued (R275). -/
def psFlush (v : State) (l : Nat) (s : State) : State :=
  let qs := (List.range 4).filter fun q => streamed v q && laneOf v q == l
  let rec go : List Nat → State → State
    | [], s => s
    | q :: rest, s =>
      if s.ps.pts.any (fun e => e.1 == q && e.2 == 49) then go rest s
      else match mlook s.ps.ready q with
        | some b =>
          let s := { s with ps := { s.ps with ready := mdel s.ps.ready q, pts := mput s.ps.pts q 49 } }
          go rest (laneUpd l (fun x => { x with queue := x.queue ++ [(b.length + framing v, b)], pkts := satAdd 32 x.pkts 1 }) s)
        | none => s
  let s := go qs s
  if qs.all (fun q => mget 0 s.ps.pts q == 49) then { s with ps := { s.ps with pts := s.ps.pts.filter fun e => !qs.contains e.1 } } else s

/-- One echo is offered: carried, or dropped for backlog (R278, R279). -/
def offerEcho (v : State) (l : Nat) (acc : State × List Byte × Nat × Bool) (e : Echo) : State × List Byte × Nat × Bool :=
  let s := acc.1
  let lim := if e.index = 0 then 28672 else cfgN v 0x2800 5
  if psCap v ≤ e.index then acc
  else if (laneGet s l).fill ≤ lim then
    let s := fillAdd l 8 s
    ({ s with ps := { s.ps with echo := satAdd 32 s.ps.echo 1 } }, acc.2.1 ++ leBytes 8 (echoWord e), acc.2.2.1 + 1, acc.2.2.2)
  else
    (laneUpd l (fun x => if e.index = 0 then { x with drop0 := satAdd 32 x.drop0 1 } else { x with dropn := satAdd 32 x.dropn 1 }) s,
     acc.2.1, acc.2.2.1, true)

/-- A channel-point of quadrant `q` and step `step` is offered: point word `pw` (Table 8.6) and its echoes (R277). -/
def psOffer (q step stime pw : Nat) (es : List Echo) (v s : State) : State :=
  if !streamed v q || !laneTakes s (laneOf v q) then s
  else
    let l := laneOf v q
    let n := mget 0 s.ps.pts q
    let s := if n = 0 then
        fillAdd l (8 + framing v) (psAsmPut q (leBytes 1 2 ++ leBytes 1 q ++ leBytes 2 step ++ leBytes 4 stime) s)
      else s
    let s := fillAdd l 4 s
    let r := es.foldl (offerEcho v l) (s, [], 0, false)
    let s := r.1
    let word := pw - put (fld pw 7 4) 7 4 - fld pw 0 1 + put r.2.2.1 7 4 + r.2.2.2.toNat
    let b := psAsm s q ++ leBytes 4 word ++ r.2.1
    if n + 1 = 48 then
      let s := fillAdd l 4 (psAsmPut q [] s)
      psFlush v l { s with ps := { s.ps with ready := mput s.ps.ready q (b ++ leBytes 4 (crc32c b)), pts := mput s.ps.pts q 48 } }
    else psAsmPut q b { s with ps := { s.ps with pts := mput s.ps.pts q (n + 1) } }

/-- The frame header packet of frame `s.pw.frameNo` on lane `l` (Table 12.2). -/
def frameHeader (s : State) (l : Nat) : List Byte :=
  let x := laneGet s l
  let qm := maskOf 4 fun q => streamed s q && laneOf s q == l
  let b := leBytes 1 1 ++ leBytes 1 1 ++ leBytes 1 l ++ leBytes 1 (put (2 ^ quadrants s.sys.variant - 1) 4 4 + qm) ++
    leBytes 4 s.pw.frameNo.toNat ++ leBytes 8 s.pw.frameSys.toNat ++ leBytes 2 (stepsPerFrame s) ++ leBytes 1 (frameRate s) ++
    leBytes 1 (psCap s) ++ leBytes 2 (zlAddr s) ++ leBytes 2 (bitIf x.aband 0 + bitIf s.ps.sync 1) ++
    leBytes 4 (if x.sent then x.prev else 0xFFFFFFFF) ++ leBytes 4 x.lastDropn ++ leBytes 4 x.lastDrop0 ++ leBytes 4 x.lastPkts
  b ++ leBytes 4 (crc32c b)

/-- The headers of the frame in progress are queued (R274). -/
def psHeaders (s : State) : State :=
  (List.range 2).foldl (fun s l =>
    if laneOn s l && laneTakes s l then
      let b := frameHeader s l
      let s := fillAdd l (b.length + framing s) s
      laneUpd l (fun x => { x with
        queue := x.queue ++ [(b.length + framing s, b)], sent := true, prev := s.pw.frameNo.toNat, aband := s.pw.abandoned }) s
    else s) { s with ps := { s.ps with hdrDue := false } }

/-- A lane starts: it sends idle, its disparity negative, no packet queued. What it knows of the frame of its last header stays (R274;
DEDUCED, assumption 122). -/
def laneStart (x : Lps) : Lps :=
  { up := true, aband := x.aband, lastDropn := x.lastDropn, lastDrop0 := x.lastDrop0, lastPkts := x.lastPkts }

/-- At a boundary that opens a scanned frame an enabled lane starts, once PLLS has locked (R270, R272). One that still sends its last
packet goes on after it. -/
def laneOpen (s : State) (l : Nat) (x : Lps) : Lps :=
  if !laneOn s l || !s.pw.pllS then x else if !x.up then laneStart x else if x.ending then { x with ending := false } else x

/-- A scanned frame starts: its headers follow every packet of the frame before (R274). `pending` = that frame's last records are
still to come. -/
def psFrameStart (pending : Bool) (s : State) : State :=
  let s := (List.range 2).foldl (fun s l => laneUpd l (laneOpen s l) s) { s with ps := { s.ps with sync := s.zl.sync } }
  if pending then { s with ps := { s.ps with hdrDue := true } } else psHeaders s

/-- The counts of a frame are final (R280). -/
def psCountsEnd (s : State) : State :=
  let s := (List.range 2).foldl (fun s l => laneUpd l (fun x => { x with
    lastDropn := x.dropn, lastDrop0 := x.drop0, lastPkts := x.pkts, dropn := 0, drop0 := 0, pkts := 0, peak := x.fill }) s) s
  { s with ps := { s.ps with echo := 0 } }

/-- The last records of frame `f` have been offered: statistics are latched (R283), and headers that waited follow. -/
def psLatch (f : BitVec 32) (s : State) : State :=
  let ln := fun l => let x := laneGet s l
    [(0x480028 + 0x10 * l, x.dropn), (0x48002C + 0x10 * l, x.drop0), (0x480030 + 0x10 * l, x.pkts), (0x480034 + 0x10 * l, sat 16 x.peak)]
  let s := psCountsEnd (post 0x480020 0 ([(0x480024, f.toNat), (0x480048, s.ps.echo)] ++ ln 0 ++ ln 1) s)
  if s.ps.hdrDue then psHeaders s else s

/-- Bytes of lane `l` in packets that are being assembled, their framing included. -/
def asmBytes (s : State) (l : Nat) : Nat :=
  ((s.ps.asm.filter fun e => laneOf s e.1 == l && !e.2.isEmpty).map fun e => e.2.length + framing s).sum

/-- A complete packet that waited for a lower quadrant is queued; that quadrant's packet does not come any more. -/
def queueReady (q : Nat) (s : State) : State :=
  match mlook s.ps.ready q with
  | some b => laneUpd (laneOf s q) (fun x => { x with queue := x.queue ++ [(b.length + framing s, b)], pkts := satAdd 32 x.pkts 1 }) s
  | none => s

/-- The header of the frame in progress, where a lane has sent it, names an abandoned frame now. -/
def laneAbandon (n : Nat) (x : Lps) : Lps := { x with aband := x.aband || (x.sent && x.prev == n) }

/-- The frame in progress is abandoned: its complete packets are queued, its incomplete ones discarded and not counted (R277). While the
frame before it is still owed, everything held is that frame's, and its counts go on. -/
def psAbandon (s : State) : State :=
  let s := (List.range 2).foldl (fun s l => laneUpd l (laneAbandon s.pw.frameNo.toNat) s) s
  if s.ps.hdrDue then s
  else
    let s := (List.range 4).foldl (fun s q => queueReady q s) s
    let s := (List.range 2).foldl (fun s l => laneUpd l (fun x => { x with fill := x.fill - asmBytes s l }) s) s
    psCountsEnd { s with ps := { s.ps with asm := [], pts := [], ready := [] } }

/-- A lane stops: it finishes the packet that it is sending, and queued packets are discarded (R272). -/
def laneStop (l : Nat) (s : State) : State :=
  laneUpd l (fun x => let q := x.queue.take 1
    { x with queue := q, fill := (q.map (·.1)).sum, up := x.up && !q.isEmpty, ending := x.up && !q.isEmpty, sent := false }) s

/-- The data plane stops: both lanes. The counts of a frame in flight are lost (R108), and that frame is an abandoned one. -/
def psStop (s : State) : State :=
  let s := if s.pw.scanned then
      (List.range 2).foldl (fun s l => laneUpd l (fun x =>
        { laneAbandon s.pw.frameNo.toNat x with lastDropn := 0, lastDrop0 := 0, lastPkts := 0 }) s) s
    else s
  let s := (List.range 2).foldl (fun s l => laneUpd l (fun x => { x with dropn := 0, drop0 := 0, pkts := 0, peak := 0 }) s) s
  laneStop 1 (laneStop 0 { s with ps := { s.ps with asm := [], pts := [], ready := [], hdrDue := false, echo := 0 } })

/-- A commit disables lanes: records of the frame that closed which have not been queued on them are discarded. -/
def psCommitted (old s : State) : State :=
  (List.range 2).foldl (fun s l =>
    if laneOn s l || !(laneGet s l).up then s
    else
      let keep := fun (q : Nat) => laneOf old q != l
      laneStop l { s with ps := { s.ps with asm := mfilter keep s.ps.asm, pts := mfilter keep s.ps.pts, ready := mfilter keep s.ps.ready } }) s

/-- The packet at the head of a lane's queue has been sent: its code groups went out; a lane that stops is at 0 V then. -/
def packetSent (l : Nat) (s : State) : State :=
  let x := laneGet s l
  match x.queue with
  | [] => s
  | p :: rest =>
    let w := wireOf (p.1 != p.2.length + 16) p.2 x.rd
    lanePut l { x with queue := rest, fill := x.fill - p.1, wire := w.1, rd := w.2, up := x.up && !x.ending, ending := false } s

def execPsPacketSent (lane : Fin 2) (s : State) : Host.Outcome State Fault Refusal := .next (packetSent lane s)

end Sys2Proof.Machine
end

