-- ==== Sys2Proof/Machine/Zones.lean ====
section
/-! DEFINITION. Machine/Zones.lean: the zone map, the zone evaluator, debounce and the zone result mailbox (chapters 1 and 11). -/

namespace Sys2Proof.Machine

/-! ### Cells and intervals (Tables 11.1 and 11.2) -/

def cellKey (ch col : Nat) : Nat := 1800 * ch + col
def cellMust (w : Nat) : Bool := bitAt w 31
def cellFloor (w : Nat) : Nat := fld w 27 4
def cellCount (w : Nat) : Nat := fld w 18 4
def cellFirst (w : Nat) : Nat := fld w 0 18

def ivFar (w : Nat) : Nat := fld w 45 19
def ivNear (w : Nat) : Nat := fld w 26 19
def ivZone (w : Nat) : Nat := fld w 16 10

/-- The intervals of a cell in pool order (R252). -/
def cellIvs (m : ZMap) (w : Nat) : List Nat := (List.range (cellCount w)).map fun i => mget 0 m.pool (cellFirst w + i)

/-- The zones that a cell names, each once. -/
def cellZones (m : ZMap) (w : Nat) : List Nat := ((cellIvs m w).map ivZone).eraseDups

/-- First column and number of columns that step `k` of `n` overlaps (R254). -/
def stepCols (n k : Nat) : List Nat :=
  if n = 0 then [] else
    let a := 1800 * k / n
    (List.range (ceilDiv (1800 * (k + 1)) n - a)).map (· + a)

/-- The steps of a frame of `n` that overlap column `c`. -/
def colSteps (n c : Nat) : List Nat :=
  let a := c * n / 1800
  (List.range (ceilDiv ((c + 1) * n) 1800 - a)).map (· + a)

/-- The cells of channel-point (`ch`, `k`). -/
def pointCells (v : State) (ch k : Nat) : List Nat :=
  (stepCols (stepsPerFrame v) k).map fun c => mget 0 v.cf.map.cells (cellKey ch c)

/-! ### Zone settings -/

def znOn (v : State) (z : Nat) : Bool := cfgF v (0x3000 + z) 1
def znType (v : State) (z : Nat) : Nat := cfgN v (0x3000 + z) 2
def znK (v : State) (z : Nat) : Nat := cfgN v (0x3000 + z) 3
def znN (v : State) (z : Nat) : Nat := cfgN v (0x3000 + z) 4
def znHitmin (v : State) (z : Nat) : Nat := cfgN v (0x3000 + z) 5
def znSilskip (v : State) (z : Nat) : Bool := cfgF v (0x3000 + z) 6

def znGet (s : State) (z : Nat) : Zn := mget {} s.ze.zn z
def znUpd (z : Nat) (f : Zn → Zn) (s : State) : State := { s with ze := { s.ze with zn := mupd {} s.ze.zn z f } }
def zeCnt (f : ZeCnt → ZeCnt) (s : State) : State := { s with ze := { s.ze with cnt := f s.ze.cnt } }

/-! ### Evaluation (R255 to R258) -/

/-- One hit of zone `z` by echo `e`, or the sillage skip. -/
def zoneHit (v : State) (e : Echo) (z : Nat) (s : State) : State :=
  if znSilskip v z && e.sil then znUpd z (fun x => { x with silsk := satAdd 16 x.silsk 1 }) s
  else znUpd z (fun x => { x with
    hits := satAdd 32 x.hits 1, minr := min x.minr e.range, ovt := x.ovt || e.ovt
    ovthits := if e.ovt then satAdd 16 x.ovthits 1 else x.ovthits }) s

/-- One echo under the configuration of `v`: the intervals that contain it, each zone at most once. -/
def evalEcho (v : State) (x : QEcho) (s : State) : State :=
  if x.e.pass = 0 then zeCnt (fun c => { c with pass0 := satAdd 16 c.pass0 1 }) s
  else
    let ivs := (pointCells v x.ch x.step).flatMap (cellIvs v.cf.map)
    let zs := (ivs.filter fun i => decide (ivNear i ≤ x.e.range) && decide (x.e.range ≤ ivFar i)).map ivZone
    let off := (zs.filter fun z => !znOn v z).length
    let s := zeCnt (fun c => { c with echoes := satAdd 32 c.echoes 1, inacthit := satAdd 16 c.inacthit off }) s
    (zs.filter (znOn v)).eraseDups.foldl (fun s z => zoneHit v x.e z s) s

/-- NP for the zones of a channel-point; each cell counts once for each zone (R257). -/
def evalNp (v : State) (ch k : Nat) (s : State) : State :=
  (pointCells v ch k).foldl (fun s w =>
    (cellZones v.cf.map w).foldl (fun s z => znUpd z (fun x => { x with np := true, npcells := satAdd 16 x.npcells 1 }) s) s) s

/-- A point word. -/
def evalPoint (v : State) (x : QPoint) (s : State) : State := if x.np then evalNp v x.ch x.step s else s

/-- Records of the frame in progress wait until the closed frame is latched and a new map is expanded (R267). -/
def zeReady (s : State) (f : BitVec 32) : Bool := f != s.pw.frameNo || (!s.ze.latchDue && !s.ze.expanding)

/-- An echo enters the queue of 16,384 (R258); one that finds it full sets NP for the zones of its cells. -/
def zeEnqueue (f : BitVec 32) (ch k : Nat) (e : Echo) (v s : State) : State :=
  let n := s.ze.q.length
  if 16384 ≤ n then
    let s := zeCnt (fun c => { c with qfull := satAdd 16 c.qfull 1 }) s
    (pointCells v ch k).foldl (fun s w => (cellZones v.cf.map w).foldl (fun s z => znUpd z (fun x => { x with np := true }) s) s) s
  else
    zeCnt (fun c => { c with qpeak := sat 16 (max c.qpeak (n + 1)) }) { s with ze := { s.ze with q := s.ze.q ++ [⟨f, ch, k, e⟩] } }

def zePoint (f : BitVec 32) (ch k : Nat) (np : Bool) (s : State) : State :=
  { s with ze := { s.ze with qp := s.ze.qp ++ [⟨f, ch, k, np⟩] } }

/-- The evaluator takes the echo at the head of its queue. -/
def takeEcho (s : State) : State :=
  match s.ze.q with
  | [] => s
  | x :: rest =>
    if zeReady s x.frame then evalEcho (viewFrame x.frame s) x { s with ze := { s.ze with q := rest } } else s

def execEchoEvaluate (s : State) : Host.Outcome State Fault Refusal := .next (takeEcho s)

/-- The evaluator takes the oldest point word. -/
def takePoint (s : State) : State :=
  match s.ze.qp with
  | [] => s
  | x :: rest =>
    if zeReady s x.frame then evalPoint (viewFrame x.frame s) x { s with ze := { s.ze with qp := rest } } else s

def execPointWordEvaluate (s : State) : Host.Outcome State Fault Refusal := .next (takePoint s)

/-- Every record of frame `f` still queued is evaluated. -/
def drainFrame (f : BitVec 32) (s : State) : State :=
  let es := s.ze.q.filter fun x => x.frame == f
  let ps := s.ze.qp.filter fun x => x.frame == f
  let v := viewFrame f s
  let s := { s with ze := { s.ze with q := s.ze.q.filter (fun x => x.frame != f), qp := s.ze.qp.filter (fun x => x.frame != f) } }
  ps.foldl (fun s x => evalPoint v x s) (es.foldl (fun s x => evalEcho v x s) s)

/-! ### The floor test (R125, R257) -/

/-- The floor of a cell for the test: at least 1 where it holds an interval of an enabled protective zone. -/
def testFloor (v : State) (w : Nat) : Nat :=
  if (cellIvs v.cf.map w).any (fun i => znOn v (ivZone i) && znType v (ivZone i) == 0) then max 1 (cellFloor w) else cellFloor w

/-- Bursts that the serving emitter of channel `ch` fired in the steps overlapping column `c` of the closed frame. -/
def shotsAt (v s : State) (ch c : Nat) : Nat :=
  ((colSteps (stepsPerFrame v) c).map fun k => mget 0 s.ex.shotPrev (8192 * servingCh v ch + k)).sum

def floorTest (v s : State) : State :=
  v.cf.map.cells.foldl (fun s e =>
    if shotsAt v s (e.1 / 1800) (e.1 % 1800) < testFloor v e.2 then
      (cellZones v.cf.map e.2).foldl (fun s z =>
        znUpd z (fun x => { x with short := true, shortcells := satAdd 16 x.shortcells 1 }) s) s
    else s) s

/-! ### Debounce (R259, R260) -/

/-- H full of positive outcomes and OCC. -/
def refilled (n : Nat) (x : Zn) : Zn := { x with h := List.replicate n true, occ := true }

/-- H and OCC after a frame. -/
def debounceHist (v : State) (z : Nat) (x : Zn) : Zn :=
  if znOn v z then
    let h := decide (znHitmin v z ≤ x.hits) :: x.h.take (znN v z - 1)
    let pos := (h.filter id).length
    { x with h := h, occ := if znK v z ≤ pos then true else if pos = 0 then false else x.occ }
  else x

/-- STATE: 0 OCCUPIED, 1 EMPTY, 2 UNVERIFIED, 3 INACTIVE (Table 1.6). -/
def zoneState (v : State) (z : Nat) (x : Zn) : Nat :=
  if !znOn v z then 3 else if x.occ then 0 else if x.np || x.short then 2 else 1

/-- The state word (Table 1.6). -/
def zoneWord (v : State) (z : Nat) (x : Zn) : Word :=
  BitVec.ofNat 32 (put (znEpoch v z) 16 16 + put (znType v z) 14 2 + put (zoneState v z x) 12 2 + bitIf (decide (1 ≤ x.hits)) 11 +
    bitIf x.ovt 10 + bitIf x.np 9 + bitIf x.short 8)

/-- Zone `z` at the latch: the context posted, and the context that goes on. -/
def zoneClose (v s : State) (z : Nat) : Zn × Zn :=
  let x := znGet s z
  let x := if s.ze.refillAll then refilled (znN v z) x else x
  let x := debounceHist v z x
  let x := { x with word := zoneWord v z x }
  let y := { ({} : Zn) with h := x.h, occ := x.occ }
  (x, if x.refillPost then refilled (znN s z) y else y)

/-- The latch of frame `f`: queue drained, floor test, debounce, counters restarted (R261). -/
def latchZones (f : BitVec 32) (s : State) : State :=
  let v := viewFrame f s
  let s := floorTest v (drainFrame f s)
  let zs := (List.range 1024).map fun z => (z, zoneClose v s z)
  { s with ze := { s.ze with
      lat := zs.map fun e => (e.1, e.2.1)
      zn := zs.filterMap fun e => if e.2.2 = {} then none else some (e.1, e.2.2)
      latCnt := s.ze.cnt, cnt := {}, refillAll := false, latchDue := false, latchOk := true } }

/-- A note engine still owes records of frame `f`. -/
def neOwes (s : State) (f : BitVec 32) : Bool :=
  s.ne.any (fun e => e.2.run && e.2.frame == f) || (s.hg.relDue != 0 && s.hg.relFrame == f)

/-- ZONE_FRAME_LATCH: once the note engines have latched the frame. -/
def zoneFrameLatch (s : State) : State :=
  if s.ze.latchDue && !neOwes s s.ze.latchFrame then latchZones s.ze.latchFrame s else s

def execZoneFrameLatch (t : Nat) (s : State) : Host.Outcome State Fault Refusal := .next (zoneFrameLatch (advance t s))

/-- The expansion starts once the frame before is latched, and evaluation of the queued echoes with its end (Table 11.5). -/
def mapExpanded (s : State) : State := if s.ze.latchDue then s else { s with ze := { s.ze with expanding := false } }

def execMapExpansionDone (t : Nat) (s : State) : Host.Outcome State Fault Refusal := .next (mapExpanded (advance t s))

/-! ### The mailbox (R34 to R41) -/

/-- The 4,100 bytes under the check value. -/
def mboxBytes (frame : Nat) (words : SMap Word) : List Byte :=
  leBytes 4 frame ++ (List.range 1024).flatMap fun z => leBytes 4 (mget 0 words z).toNat

/-- The results of a zone (Table 11.8). -/
def postZn (z : Nat) (x : Zn) (s : State) : State :=
  let a := 0x400008 + 0x40 * z
  let pos := (x.h.filter id).length
  post a 0 [(a + 4, x.word.toNat), (a + 8, x.hits), (a + 12, x.minr),
    (a + 16, put pos 16 4 + bitIf x.occ 15 + maskOf 15 fun i => x.h.getD i false),
    (a + 20, put x.npcells 16 16 + put x.shortcells 0 16), (a + 24, put x.silsk 16 16 + put x.ovthits 0 16)] s

/-- A warning or monitor zone is posted OCCUPIED (R86). -/
def wakesZone (e : Nat × Zn) : Bool :=
  let w := e.2.word.toNat
  fld w 12 2 == 0 && (fld w 14 2 == 1 || fld w 14 2 == 3)

/-- The post of the latched frame: one copy to each channel, the results, local edge 17 and the wake event. -/
def postMailbox (s : State) : State :=
  if s.ze.latchOk && dpOn s then
    let f := s.ze.latchFrame
    let words : SMap Word := s.ze.lat.filterMap fun e => if e.2.word = 0 then none else some (e.1, e.2.word)
    let m : Mbox := ⟨f, s.ze.latchAt, words, BitVec.ofNat 32 (crc32c (mboxBytes f.toNat words))⟩
    let c := s.ze.latCnt
    let lat := s.ze.lat
    let s := { s with ze := { s.ze with frame := f, mboxA := some m, mboxB := some m, latchOk := false } }
    let s := lat.foldl (fun s e => postZn e.1 e.2 s) s
    let s := post 0x410000 0 [(0x410004, f.toNat), (0x410008, sat 16 ((s.sys.now - s.ze.latchAt) / 1000)), (0x41000C, c.echoes),
      (0x410010, put c.pass0 16 16 + put c.inacthit 0 16), (0x410014, put c.qpeak 16 16 + put c.qfull 0 16)] s
    let s := localEdge 17 s
    if decide (4 ≤ s.pw.st) && lat.any wakesZone then wake s else s
  else s

/-- The mailbox copy on its way to a channel. -/
def mboxOf (s : State) (c : Chan) : Option Mbox := match c with | .a => s.ze.mboxA | .b => s.ze.mboxB
def mboxGone (c : Chan) (s : State) : State :=
  match c with | .a => { s with ze := { s.ze with mboxA := none } } | .b => { s with ze := { s.ze with mboxB := none } }

/-- Zones whose EPOCH is not the current one (R39, R51). -/
def epochDiscards (s : State) (m : Mbox) : List Nat :=
  (List.range 1024).filter fun z => fld (mget 0 m.words z).toNat 16 16 != znEpoch s z

/-- The tests of R37 in order: none where the copy is accepted, else the counter that counts it: 0 CRC failure, 1 stale, 2 late. A frame
number is later than another by less than half the range of 2^32 (DESIGN CHOICE, assumption 106). -/
def mboxReject (s : State) (f : Saf) (m : Mbox) (crcOk : Bool) : Option Nat :=
  if !crcOk then some 0
  else if f.mbGot && decide ((m.frame - f.mbFrame).toInt ≤ 0) then some 1
  else match f.lastBnd with
    | some b => if f.lastBndFrame = m.frame ∧ s.sys.now ≤ b + 3 * msNs then none else some 2
    | none => some 2

/-- An accepted copy. -/
def mboxAccept (c : Chan) (m : Mbox) (s : State) : State :=
  let d := epochDiscards s m
  updC c (fun f => { f with
    gapN := if f.mbGot then satAdd 16 f.gapN ((m.frame - f.mbFrame).toNat - 1) else f.gapN
    mbGot := true, mbFrame := m.frame, mbCrc := m.crc, mbWords := m.words, zunk := false, zdisc := d
    epd := satAdd 16 f.epd d.length }) s

/-- A channel receives its copy and re-evaluates its demands; channel A's also feeds the axle evaluator. -/
def mailboxReceive (c : Chan) (crcOk : Bool) (s : State) : State :=
  match mboxOf s c with
  | none => s
  | some m =>
    let s := mboxGone c s
    if !s.sys.oper then s
    else match mboxReject s (getC s c) m crcOk with
      | some 0 => updC c (fun f => { f with crcFail := satAdd 8 f.crcFail 1 }) s
      | some 1 => updC c (fun f => { f with staleN := satAdd 8 f.staleN 1 }) s
      | some _ => updC c (fun f => { f with lateN := satAdd 8 f.lateN 1 }) s
      | none =>
        let s := evalDemands c (mboxAccept c m s)
        match c with | .a => axleMailbox true s | .b => s

def execMailboxReceive (t : Nat) (c : Chan) (crcOk : Bool) (s : State) : Host.Outcome State Fault Refusal :=
  .next (mailboxReceive c crcOk (advance t s))

/-- Last accepted frame numbers that differ at two consecutive boundaries, judged 3 ms after each from the last cross word (R287). -/
def frameDiff (c : Chan) (s : State) : State :=
  let f := getC s c
  let same := match f.xIn with | some g => f.mbGot == g.got && f.mbFrame == g.frame | none => !f.mbGot
  let n := if same then 0 else min 2 (f.xFrameDiff + 1)
  let s := setC c { f with xFrameDiff := n, dlDone := true } s
  if 2 ≤ n then latchFault c fltCross s else s

/-- A mailbox for the frame of the last boundary, or a later one, has been accepted. -/
def mboxInTime (f : Saf) : Bool := f.mbGot && decide (0 ≤ (f.mbFrame - f.lastBndFrame).toInt)

/-- The deadline of the last boundary (R38), judged once. -/
def mailboxDeadline (c : Chan) (s : State) : State :=
  let f := getC s c
  match f.lastBnd with
  | none => s
  | some b =>
    if !s.sys.oper || f.dlDone || decide (s.sys.now < b + 3 * msNs) then s
    else if mboxInTime f then frameDiff c s
    else
      let s := frameDiff c (setC c { f with zunk := true, unknownN := satAdd 8 f.unknownN 1 } s)
      let s := evalDemands c s
      match c with | .a => axleMailbox false s | .b => s

def execMailboxDeadline (t : Nat) (c : Chan) (s : State) : Host.Outcome State Fault Refusal :=
  .next (mailboxDeadline c (advance t s))

/-! ### The map's stored form and check value (R266, R268) -/

/-- P: one more than the highest pool index that a cell references. -/
def mapP (m : ZMap) : Nat :=
  m.cells.foldl (fun p e => if cellCount e.2 = 0 then p else max p (cellFirst e.2 + cellCount e.2)) 0

/-- R: the runs of equal non-zero cells in consecutive columns of one channel. -/
def mapRuns (m : ZMap) : Nat :=
  (m.cells.foldl (fun (acc : Nat × Option (Nat × Nat)) e =>
    match acc.2 with
    | some (k, w) => if k + 1 = e.1 ∧ w = e.2 ∧ e.1 % 1800 ≠ 0 then (acc.1, some e) else (acc.1 + 1, some e)
    | none => (acc.1 + 1, some e)) (0, none)).1

/-- Bytes of the stored form. -/
def mapSize (m : ZMap) : Nat := 64 + 10 * mapRuns m + 8 * mapP m

/-- The pool as it is stored: entries at P and above read 0 after commit. -/
def mapTrim (m : ZMap) : ZMap := { m with pool := mfilter (fun i => decide (i < mapP m)) m.pool }

/-- Bytes of a range of a store of 8-byte values: entries `a` to `a + n − 1`. -/
def bytes8 (m : SMap Nat) (a n : Nat) : List Byte := (List.range n).flatMap fun i => leBytes 8 (mget 0 m (a + i))

/-- `n` zero bytes through the reflected CRC-32C register. -/
def crcZeros (n c : Nat) : Nat := (List.range n).foldl (fun c _ => crcRByte 0x82F63B78 c 0) c

/-- The register after the entries of a store from key `from_` up to `n` entries, 8 bytes each, most of them 0. -/
def crcStore (m : SMap Nat) (n c : Nat) : Nat :=
  let r := m.foldl (fun (acc : Nat × Nat) e =>
    (e.1 + 1, (leBytes 8 e.2).foldl (crcRByte 0x82F63B78) (crcZeros (8 * (e.1 - acc.1)) acc.2))) (0, c)
  crcZeros (8 * (n - r.1)) r.2

/-- ZE_MAPCRC: CRC-32C over the cells in address order and pool entries 0 to P − 1. Its reset value 0 stands until a map has taken
effect. -/
def mapCrc (m : ZMap) : Nat :=
  Nat.xor (crcStore (mapTrim m).pool (mapP m) (crcStore m.cells 345600 0xFFFFFFFF)) 0xFFFFFFFF

/-- Enabled zones that no cell names (R267). -/
def unmappedZones (s : State) : Nat :=
  let named := (s.cf.map.cells.flatMap fun e => cellZones s.cf.map e.2).eraseDups
  ((List.range 1024).filter fun z => znOn s z && !named.contains z).length

/-- The intervals of the pool that name zone `z`, in cells or not (R252, R260). -/
def zonePool (m : ZMap) (z : Nat) : SMap Nat := (mapTrim m).pool.filter fun e => ivZone e.2 == z

/-- The cells that name zone `z`, with their intervals of it, for the comparison of R260. -/
def zoneTrace (m : ZMap) (z : Nat) : List (Nat × List Nat) :=
  m.cells.filterMap fun e =>
    let ivs := (cellIvs m e.2).filter fun i => ivZone i == z
    if ivs.isEmpty then none else some (e.1, ivs)

end Sys2Proof.Machine
end

