-- ==== Sys2Proof/Machine/NoteEngine.lean ====
section
/-! DEFINITION. Machine/NoteEngine.lean: the note engines and their echo instructions (chapter 8). `v` is the state whose
configuration governs the frame of the step that is processed (R194). -/

namespace Sys2Proof.Machine

/-! ### Engines and lanes (Table 8.1) -/

def neGet (s : State) (q : Nat) : Ne := mget {} s.ne q
def nePut (q : Nat) (x : Ne) (s : State) : State := { s with ne := mset {} s.ne q x }
def neUpd (q : Nat) (f : Ne → Ne) (s : State) : State := nePut q (f (neGet s q)) s

def lnGet (x : Ne) (l : Nat) : Lane := mget {} x.lanes l
def lnPut (x : Ne) (l : Nat) (y : Lane) : Ne := { x with lanes := mset {} x.lanes l y }
def lreg (y : Lane) (i : Nat) : Word := mget 0 y.r i
def lval (y : Lane) (i : Nat) : Int := (lreg y i).toInt
def lset (y : Lane) (i : Nat) (w : Word) : Lane := { y with r := mset 0 y.r i w }
def lsetI (y : Lane) (i : Nat) (z : Int) : Lane := lset y i (BitVec.ofInt 32 z)
def greg (x : Ne) (i : Nat) : Word := mget 0 x.g i
def gset (x : Ne) (i : Nat) (w : Word) : Ne := { x with g := mset 0 x.g i w }

/-- An act of every active lane (R196). -/
def onLanes (x : Ne) (f : Nat → Lane → Lane) : Ne :=
  (List.range 8).foldl (fun x l => if bget x.mask l then lnPut x l (f l (lnGet x l)) else x) x

/-- The largest value of a quantity over the active lanes. -/
def maxLane (x : Ne) (f : Lane → Nat) : Nat :=
  (List.range 8).foldl (fun m l => if bget x.mask l then max m (f (lnGet x l)) else m) 0

/-- Channel of lane `l` in the running group of engine `q` (R188). -/
def laneCh (q : Nat) (x : Ne) (l : Nat) : Nat := 48 * q + 8 * x.group + l

/-! ### Program, budget -/

/-- The built-in echo program (Table 8.7). -/
def builtinProg : List Nat :=
  [0x80000000, 0x44000001, 0x68000027, 0x04400200, 0x04800200, 0x80C00002, 0x48000000, 0x440C0000, 0x04400000, 0x4C000000,
   0x48000000, 0x44000010, 0x04400000, 0x04801000, 0x4C000000, 0x84048000, 0x8CC00001, 0x09040000, 0x2D4D0000, 0x31540004] ++
  [0x09000000, 0x21550000, 0x05000000, 0x15D00000, 0x95914000, 0x44180005, 0x68000027, 0xC0000000, 0x9E180002, 0xA2980000,
   0xC4200000, 0xC8240002, 0x32DC0001, 0xCC2C0000, 0xD7280000, 0xD8000001, 0x0B480000, 0x211B4000, 0x6C1C0018, 0x7C000000]

def neLoaded (v : State) (q : Nat) : Bool := cfgQN v q 0x2500 1 == 1
/-- Length of the program that engine `q` runs (R211). -/
def neLen (v : State) (q : Nat) : Nat := if neLoaded v q then cfgQN v q 0x2500 0x10 else 40
/-- The word at `pc`. -/
def neWord (v : State) (q pc : Nat) : Nat :=
  if neLoaded v q then leAt (cfgQB v q 0x2500 0x11) (4 * pc) 4 else builtinProg.getD pc 0
def neBudget (v : State) (q : Nat) : Nat := cfgQN v q 0x2500 3

/-! ### Point words and delivery (R207 to R210) -/

/-- The health and context bits [5:2] of a point word; a channel-point in mode NONE shows none (R210). -/
def pointBits (v : State) (ch : Nat) (c : Ctx) : Nat :=
  if c.mode = 0 then 0
  else bitIf c.notOk 5 + bitIf (c.evloss && cfgF v (0x2200 + 48 * (ch / 48)) 0x25) 4 + bitIf c.mixed 3 + bitIf c.nowin 2

/-- The point word (Table 8.6). -/
def pointWord (v : State) (ch step count : Nat) (c : Ctx) (cut : Bool) : Nat :=
  let b := pointBits v ch c + bitIf cut 1
  put ch 24 8 + put step 11 13 + put count 7 4 + bitIf (decide (b ≠ 0)) 6 + b

/-- The sector of a step in a frame of `n` (R234). -/
def sectorOf (n k : Nat) : Nat := if n = 0 then 0 else (64 * (k + 1) - 1) / n

/-- What the planner's quality table gathers of a channel-point (R248). -/
def qualAdd (v : State) (ch step : Nat) (np : Bool) (es : List Echo) (s : State) : State :=
  let r := 64 * servingCh v ch + sectorOf (stepsPerFrame v) step
  let e0 := es.filter fun e => e.index == 0
  { s with fp := { s.fp with qualAcc := mupd (0, 0, 0) s.fp.qualAcc r fun x =>
      (x.1 + e0.length, x.2.1 + (e0.map (·.quality)).sum, x.2.2 + np.toNat) } }

/-- A channel-point is delivered: its echoes, then its point word, to the zone evaluator and the point stream (R207). -/
def deliver (v : State) (q ch : Nat) (c : Ctx) (es : List Echo) (cut : Bool) (s : State) : State :=
  let x := neGet s q
  let w := pointWord v ch x.step es.length c cut
  let np := bitAt w 6
  let s := es.foldl (fun s e => zeEnqueue x.frame ch x.step e v s) s
  let s := zePoint x.frame ch x.step np s
  let s := psOffer q x.step x.stime w es v s
  qualAdd v ch x.step np es s

/-! ### Statistics (R194, R213) -/

/-- The quality table is latched once every engine has latched the frame (R248, Table 10.1). -/
def qualLatch (s : State) : State :=
  { s with fp := { s.fp with
      qual := s.fp.qualAcc.filterMap fun e =>
        let w := put (sat 12 e.2.1) 20 12 + put (if e.2.1 = 0 then 0 else sat 8 (e.2.2.1 / e.2.1)) 12 8 + sat 12 e.2.2.2
        if w = 0 then none else some (e.1, w)
      qualAcc := [] } }

/-- Counters of an engine restart. -/
def neCleared (x : Ne) : Ne :=
  { x with cycMax := 0, overruns := 0, notproc := 0, echoes := 0, capdrop := 0, dups := 0, sillage := 0, ovtecho := 0,
           progfault := 0, winerr := 0, cause := 0, faultPc := 0 }

/-- Engine `q` latches and posts the statistics of its frame, and with them the quadrant's receive and histogram results. -/
def neLatch (q : Nat) (s : State) : State :=
  let x := neGet s q
  let a := 0x0E0040 + 0x4000 * q
  let s := post a 0 [(a + 4, put (sat 16 x.cycMax) 16 16 + put x.overruns 0 16), (a + 8, x.notproc), (a + 12, x.echoes),
    (a + 16, put x.capdrop 16 16 + put x.dups 0 16), (a + 20, put x.sillage 16 16 + put x.ovtecho 0 16),
    (a + 24, put x.progfault 8 8 + put x.winerr 0 8), (a + 28, put x.cause 28 4 + put x.faultPc 0 10)] s
  let s := postHg q (postQuadrantRx q s)
  let s := nePut q { neCleared x with latched := true } s
  if (List.range (quadrants s.sys.variant)).all fun k => (neGet s k).latched then
    let s := qualLatch (psLatch x.frame s)
    (List.range 4).foldl (fun s k => neUpd k (fun x => { x with latched := false }) s) s
  else s

/-- The step is complete or cut. -/
def neStepDone (q : Nat) (s : State) : State :=
  let x := neGet s q
  let s := nePut q { x with run := false, cycMax := max x.cycMax x.cyc, lanes := [], stack := [], mask := 0 } s
  if x.lastStep then neLatch q s else s

/-! ### Cuts (R191, R192) -/

/-- The channel-points of the running group and of the later groups are delivered as cut. -/
def cutPoints (q : Nat) (s : State) : State :=
  let x := neGet s q
  let v := viewFrame x.frame s
  (List.range (48 - 8 * x.group)).foldl (fun s i =>
    let ch := 48 * q + 8 * x.group + i
    deliver v q ch (ctxGet s x.buf ch) [] true (neUpd q (fun y => { y with notproc := satAdd 32 y.notproc 1 }) s)) s

/-- A cut by the budget or the next step but one. -/
def neCut (q : Nat) (s : State) : State :=
  let s := neUpd q (fun y => { y with overruns := satAdd 16 y.overruns 1 }) (cutPoints q s)
  raise (evNeOverrun + q) (neStepDone q s)

/-- A program fault of cause `c` at word `pc`. -/
def neFault (q c pc : Nat) (s : State) : State :=
  let s := neUpd q (fun y => { y with progfault := satAdd 8 y.progfault 1, cause := c, faultPc := pc % 1024 }) (cutPoints q s)
  raise (evNeProgfault + q) (neStepDone q s)

/-- The count reaches BUDGET. -/
def neCutAtBudget (q : Nat) (s : State) : State :=
  neCut q (neUpd q (fun y => { y with cyc := neBudget (viewFrame y.frame s) q }) s)

/-! ### Starting (R189, R190) -/

/-- A group starts: Table 8.1, eight cycles. -/
def groupStart (q g : Nat) (s : State) : State :=
  let x := neGet s q
  let v := viewFrame x.frame s
  let x := { x with
    group := g, pc := 0, stack := [], lanes := [], cyc := x.cyc + 8
    g := mtab 0 8 fun j => BitVec.ofInt 32 (cfgQI v q 0x2500 (8 + j))
    mask := BitVec.ofNat 8 (maskOf 8 fun l => (ctxGet s x.buf (48 * q + 8 * g + l)).health != 1) }
  let s := nePut q x s
  if neBudget v q ≤ x.cyc then neCutAtBudget q s else s

/-- Every channel-point of an engine without a program (R210). -/
def noProgram (q : Nat) (s : State) : State := neStepDone q (cutPoints q s)

/-- Engine `q` starts the step whose buffer has been released. -/
def neStart (q : Nat) (s : State) : State :=
  let x := neGet s q
  let f := s.hg.relFrame
  let v := viewFrame f s
  let s := nePut q { x with
    run := true, group := 0, cyc := 0, buf := s.hg.relBuf, step := s.hg.relStep, stime := s.hg.relStime, frame := f
    lastStep := decide (s.hg.relStep + 1 = stepsPerFrame v) } s
  if neLoaded v q && neLen v q == 0 then noProgram q s else groupStart q 0 s

/-- The engines stop at once and deliver nothing further (R193); partial counts of the frame are lost. -/
def neStopAll (s : State) : State :=
  { s with
    ne := s.ne.filterMap fun e =>
      let y : Ne := { errRange := e.2.errRange }
      if y = {} then none else some (e.1, y)
    fp := { s.fp with qualAcc := [] } }

/-! ### Running an instruction -/

/-- What an instruction does: the engine after it and the branch taken, or a fault. -/
inductive NeRes where
  | ok (x : Ne) (target : Option Nat)
  | fault (cause : Nat)
  deriving DecidableEq, Repr

/-- After an instruction: the count that reaches BUDGET, and the PC that reaches the program length. -/
def neNext (v : State) (q : Nat) (s : State) : State :=
  let x := neGet s q
  if !x.run then s
  else if neBudget v q ≤ x.cyc then neCutAtBudget q s
  else if neLen v q ≤ x.pc then neFault q 4 x.pc s
  else s

/-- Engine `q` executes an instruction: `op` gives its cycles and its result. An instruction that would not complete within
BUDGET is cut and has no effect (R191). -/
def neInstr (q : Nat) (op : State → State → Ne → Nat × NeRes) (s : State) : State :=
  let x := neGet s q
  if !x.run then s
  else
    let v := viewFrame x.frame s
    let r := op v s x
    if neBudget v q < x.cyc + r.1 then neCutAtBudget q s
    else match r.2 with
      | .fault c => neFault q c x.pc s
      | .ok y tgt => neNext v q (nePut q { y with cyc := x.cyc + r.1, pc := tgt.getD (x.pc + 1) } s)

/-- An instruction of one cycle for every active lane. -/
def laneOp (cost : Nat) (f : Nat → Lane → Lane) : State → State → Ne → Nat × NeRes :=
  fun _ _ x => (cost, .ok (onLanes x f) none)

def simm14 (i : BitVec 14) : Int := i.toInt
/-- A scalar operand with bit 3 set is a fault of cause 2. -/
def scalarOk (r : BitVec 4) : Bool := decide (r.toNat < 8)

/-! ### Scalar, lane arithmetic, masks, branches (Table 8.3) -/

def execNeNop (q : Fin 4) (s : State) : Host.Outcome State Fault Refusal :=
  .next (neInstr q (fun _ _ x => (1, .ok x none)) s)

def neLiOp (d : BitVec 4) (imm : BitVec 14) := laneOp 1 fun _ y => lsetI y d.toNat (simm14 imm)
def execNeLi (q : Fin 4) (d : BitVec 4) (imm : BitVec 14) (s : State) : Host.Outcome State Fault Refusal :=
  .next (neInstr q (neLiOp d imm) s)

def neLgOp (d a : BitVec 4) : State → State → Ne → Nat × NeRes := fun _ _ x =>
  if scalarOk a then (1, .ok (onLanes x fun _ y => lset y d.toNat (greg x a.toNat)) none) else (0, .fault 2)
def execNeLg (q : Fin 4) (d a : BitVec 4) (s : State) : Host.Outcome State Fault Refusal := .next (neInstr q (neLgOp d a) s)

/-- A scalar result. -/
def scalarOp (d : BitVec 4) (ok : Bool) (f : Ne → Word) : State → State → Ne → Nat × NeRes := fun _ _ x =>
  if scalarOk d && ok then (1, .ok (gset x d.toNat (f x)) none) else (0, .fault 2)

def neGliOp (d : BitVec 4) (imm : BitVec 14) := scalarOp d true fun _ => imm.setWidth 32
def execNeGli (q : Fin 4) (d : BitVec 4) (imm : BitVec 14) (s : State) : Host.Outcome State Fault Refusal :=
  .next (neInstr q (neGliOp d imm) s)

def neGlhOp (d : BitVec 4) (imm : BitVec 14) :=
  scalarOp d true fun x => BitVec.ofNat 32 (imm.toNat * 2 ^ 14 + (greg x d.toNat).toNat % 2 ^ 14)
def execNeGlh (q : Fin 4) (d : BitVec 4) (imm : BitVec 14) (s : State) : Host.Outcome State Fault Refusal :=
  .next (neInstr q (neGlhOp d imm) s)

def neGaddOp (d a : BitVec 4) (imm : BitVec 14) := scalarOp d (scalarOk a) fun x => greg x a.toNat + imm.signExtend 32
def execNeGadd (q : Fin 4) (d a : BitVec 4) (imm : BitVec 14) (s : State) : Host.Outcome State Fault Refusal :=
  .next (neInstr q (neGaddOp d a imm) s)

/-- Ld = f La Lb. -/
def aluOp (cost : Nat) (d a b : BitVec 4) (f : Word → Word → Word) :=
  laneOp cost fun _ y => lset y d.toNat (f (lreg y a.toNat) (lreg y b.toNat))

def execNeAdd (q : Fin 4) (d a b : BitVec 4) (s : State) : Host.Outcome State Fault Refusal :=
  .next (neInstr q (aluOp 1 d a b fun x y => x + y) s)
def execNeSub (q : Fin 4) (d a b : BitVec 4) (s : State) : Host.Outcome State Fault Refusal :=
  .next (neInstr q (aluOp 1 d a b fun x y => x - y) s)
def execNeAddi (q : Fin 4) (d a : BitVec 4) (imm : BitVec 14) (s : State) : Host.Outcome State Fault Refusal :=
  .next (neInstr q (laneOp 1 fun _ y => lset y d.toNat (lreg y a.toNat + imm.signExtend 32)) s)
def execNeMul (q : Fin 4) (d a b : BitVec 4) (s : State) : Host.Outcome State Fault Refusal :=
  .next (neInstr q (aluOp 2 d a b fun x y => x * y) s)

/-- IMM[4:0]. -/
def shamt (imm : BitVec 14) : Nat := imm.toNat % 32

def execNeShr (q : Fin 4) (d a : BitVec 4) (imm : BitVec 14) (s : State) : Host.Outcome State Fault Refusal :=
  .next (neInstr q (laneOp 1 fun _ y => lset y d.toNat ((lreg y a.toNat).sshiftRight (shamt imm))) s)
def execNeShl (q : Fin 4) (d a : BitVec 4) (imm : BitVec 14) (s : State) : Host.Outcome State Fault Refusal :=
  .next (neInstr q (laneOp 1 fun _ y => lset y d.toNat (lreg y a.toNat <<< shamt imm)) s)

def sminW (x y : Word) : Word := if x.toInt ≤ y.toInt then x else y
def smaxW (x y : Word) : Word := if x.toInt ≤ y.toInt then y else x

def execNeMin (q : Fin 4) (d a b : BitVec 4) (s : State) : Host.Outcome State Fault Refusal := .next (neInstr q (aluOp 1 d a b sminW) s)
def execNeMax (q : Fin 4) (d a b : BitVec 4) (s : State) : Host.Outcome State Fault Refusal := .next (neInstr q (aluOp 1 d a b smaxW) s)

/-- Conditions 0 to 5: EQ, NE, LT, LE, GT, GE; 6 and 7 are faults. -/
def condHolds (c : Nat) (x y : Int) : Option Bool :=
  match c with
  | 0 => some (decide (x = y)) | 1 => some (decide (x ≠ y)) | 2 => some (decide (x < y))
  | 3 => some (decide (x ≤ y)) | 4 => some (decide (y < x)) | 5 => some (decide (y ≤ x)) | _ => none

/-- MASK bits are cleared where the condition is false. -/
def msetOp (c : Nat) (a : BitVec 4) (rhs : Lane → Int) : State → State → Ne → Nat × NeRes := fun _ _ x =>
  if 5 < c then (0, .fault 5)
  else (1, .ok { x with mask := BitVec.ofNat 8 (maskOf 8 fun l =>
    bget x.mask l && condHolds c (lval (lnGet x l) a.toNat) (rhs (lnGet x l)) == some true) } none)

def execNeMset (q : Fin 4) (a b : BitVec 4) (imm : BitVec 14) (s : State) : Host.Outcome State Fault Refusal :=
  .next (neInstr q (msetOp (imm.toNat % 8) a fun y => lval y b.toNat) s)
def execNeMseti (q : Fin 4) (a : BitVec 4) (imm : BitVec 14) (s : State) : Host.Outcome State Fault Refusal :=
  .next (neInstr q (msetOp (imm.toNat % 8) a fun _ => toS 11 (imm.toNat / 8)) s)

def neMpushOp : State → State → Ne → Nat × NeRes := fun _ _ x =>
  if 4 ≤ x.stack.length then (0, .fault 3) else (1, .ok { x with stack := x.mask :: x.stack } none)
def execNeMpush (q : Fin 4) (s : State) : Host.Outcome State Fault Refusal := .next (neInstr q neMpushOp s)

def neMpopOp : State → State → Ne → Nat × NeRes := fun _ _ x =>
  match x.stack with | [] => (0, .fault 3) | m :: rest => (1, .ok { x with mask := m, stack := rest } none)
def execNeMpop (q : Fin 4) (s : State) : Host.Outcome State Fault Refusal := .next (neInstr q neMpopOp s)

def neMnotOp : State → State → Ne → Nat × NeRes := fun _ _ x =>
  match x.stack with | [] => (0, .fault 3) | m :: _ => (1, .ok { x with mask := m &&& ~~~ x.mask } none)
def execNeMnot (q : Fin 4) (s : State) : Host.Outcome State Fault Refusal := .next (neInstr q neMnotOp s)

/-- A branch: a target with IMM[13:10] ≠ 0 is a fault of cause 5, one at or beyond the length of cause 4; `f` gives the engine and
whether the branch is taken. -/
def branchOp (q : Nat) (imm : BitVec 14) (always : Bool) (f : Ne → Ne × Bool) : State → State → Ne → Nat × NeRes := fun v _ x =>
  if 1024 ≤ imm.toNat then (0, .fault 5)
  else if neLen v q ≤ imm.toNat then (0, .fault 4)
  else
    let r := f x
    if r.2 then (2, .ok r.1 (some imm.toNat)) else (if always then 2 else 1, .ok r.1 none)

def execNeBr (q : Fin 4) (imm : BitVec 14) (s : State) : Host.Outcome State Fault Refusal :=
  .next (neInstr q (branchOp q imm true fun x => (x, true)) s)
def execNeBany (q : Fin 4) (imm : BitVec 14) (s : State) : Host.Outcome State Fault Refusal :=
  .next (neInstr q (branchOp q imm false fun x => (x, x.mask != 0)) s)
def execNeBnone (q : Fin 4) (imm : BitVec 14) (s : State) : Host.Outcome State Fault Refusal :=
  .next (neInstr q (branchOp q imm false fun x => (x, x.mask == 0)) s)

/-- LOOP on Ga. -/
def loopStep (a : Nat) (x : Ne) : Ne × Bool :=
  if 1 < (greg x a).toInt then (gset x a (greg x a - 1), true) else (gset x a 0, false)
def neLoopOp (q : Nat) (a : BitVec 4) (imm : BitVec 14) : State → State → Ne → Nat × NeRes := fun v s x =>
  if scalarOk a then branchOp q imm false (loopStep a.toNat) v s x else (0, .fault 2)
def execNeLoop (q : Fin 4) (a : BitVec 4) (imm : BitVec 14) (s : State) : Host.Outcome State Fault Refusal :=
  .next (neInstr q (neLoopOp q a imm) s)

/-! ### END (R206, R207, R210) -/

/-- The staged echoes of a lane in the order of ORDER, numbered, with EVLOSS and NP of the channel-point. -/
def orderEchoes (desc : Bool) (c : Ctx) (np : Bool) (es : List Echo) : List Echo :=
  let sorted := es.mergeSort fun a b =>
    if desc then decide (b.intensity < a.intensity) || (a.intensity == b.intensity && decide (a.range ≤ b.range))
    else decide (a.range ≤ b.range)
  sorted.zipIdx.map fun e => { e.1 with index := e.2, evloss := c.evloss, np := np }

/-- The echoes that lane `l` delivers; none in mode NONE. -/
def laneEchoes (v s : State) (q : Nat) (x : Ne) (l : Nat) : List Echo :=
  let ch := laneCh q x l
  let c := ctxGet s x.buf ch
  if c.mode = 0 then [] else orderEchoes (cfgQN v q 0x2500 2 == 1) c (decide (pointBits v ch c ≠ 0)) (lnGet x l).slots

/-- END delivers the group and starts the next, or ends the step. -/
def neEnd (q : Nat) (s : State) : State :=
  let x := neGet s q
  if !x.run then s
  else
    let v := viewFrame x.frame s
    let out := (List.range 8).map fun l => (laneCh q x l, laneEchoes v s q x l)
    let n := (out.map fun e => e.2.length).sum
    let cyc := x.cyc + 4 + n
    if neBudget v q < cyc then neCutAtBudget q s
    else
      let all := out.flatMap (·.2)
      let s := nePut q { x with
        cyc := cyc, echoes := satAdd 32 x.echoes n, sillage := satAdd 16 x.sillage (all.filter (·.sil)).length
        ovtecho := satAdd 16 x.ovtecho (all.filter (·.ovt)).length } s
      let s := out.foldl (fun s e => deliver v q e.1 (ctxGet s x.buf e.1) e.2 false s) s
      if x.group = 5 then neStepDone q s
      else if neBudget v q ≤ cyc then neCutAtBudget q (neUpd q (fun y => { y with group := x.group + 1 }) s)
      else groupStart q (x.group + 1) s

def execNeEnd (q : Fin 4) (s : State) : Host.Outcome State Fault Refusal := .next (neEnd q s)

/-! ### Context, windows, bins (R197 to R202) -/

/-- A context field (Table 8.4); none where the field is not listed. -/
def ctxField (s : State) (q : Nat) (x : Ne) (l k : Nat) : Option Int :=
  let ch := laneCh q x l
  let c := ctxGet s x.buf ch
  match k with
  | 0 => some c.mode | 1 => some c.nc | 2 => some c.nf | 3 => some (if c.mode = 2 then 0 else sat 16 c.mean)
  | 4 => some (bitIf c.evloss 0 + bitIf c.mixed 1 + bitIf c.nowin 2 + bitIf c.notOk 3 +
      bitIf ((region s x.buf ch).any fun e => e.2 == 65535) 4 : Nat)
  | 5 => some ch | 6 => some x.step | 7 => some (2 ^ c.wins.length - 1 : Nat) | 8 => some l | 9 => some c.health
  | k => if 16 ≤ k ∧ k < 24 then some (if k - 16 < c.wins.length then (512 + 64 * (k - 16) : Nat) else -1) else none

def neCtxOp (q : Nat) (d : BitVec 4) (imm : BitVec 14) : State → State → Ne → Nat × NeRes := fun _ s x =>
  let k := imm.toNat % 32
  if (ctxField s q x 0 k).isNone then (0, .fault 5)
  else (1, .ok (onLanes x fun l y => lsetI y d.toNat ((ctxField s q x l k).getD 0)) none)
def execNeCtx (q : Fin 4) (d : BitVec 4) (imm : BitVec 14) (s : State) : Host.Outcome State Fault Refusal :=
  .next (neInstr q (neCtxOp q d imm) s)

/-- A base and a length that WIN accepts (R198). -/
def winOk (y : Lane) (a b : Nat) : Bool :=
  decide (0 ≤ lval y a) && decide (lval y a ≤ 4095) && decide (0 ≤ lval y b) && decide (lval y b ≤ 4096)

def neWinOp (a b : BitVec 4) : State → State → Ne → Nat × NeRes := fun _ _ x =>
  let bad := ((List.range 8).filter fun l => bget x.mask l && !winOk (lnGet x l) a.toNat b.toNat).length
  let x := onLanes x fun _ y =>
    if winOk y a.toNat b.toNat then { y with wbase := (lval y a.toNat).toNat, wlen := (lval y b.toNat).toNat }
    else { y with wbase := 0, wlen := 0 }
  (1, .ok { x with winerr := satAdd 8 x.winerr bad } none)
def execNeWin (q : Fin 4) (a b : BitVec 4) (s : State) : Host.Outcome State Fault Refusal := .next (neInstr q (neWinOp a b) s)

/-- The raw count at window position `p`; beyond bin 4,095 the window goes on from bin 0 (KL-08). -/
def rawAt (s : State) (q : Nat) (x : Ne) (l : Nat) (y : Lane) (p : Int) : Nat :=
  if 0 ≤ p ∧ p < y.wlen then binGet s x.buf (laneCh q x l) ((y.wbase + p.toNat) % 4096) else 0

/-- u(p): the count above BG, 0 outside the window. -/
def uAt (s : State) (q : Nat) (x : Ne) (l : Nat) (y : Lane) (p : Int) : Nat := rawAt s q x l y p - y.bg

def neBinOp (q : Nat) (d a : BitVec 4) (imm : BitVec 14) : State → State → Ne → Nat × NeRes := fun _ s x =>
  (3, .ok (onLanes x fun l y =>
    let p := lval y a.toNat
    lsetI y d.toNat (if imm.toNat % 2 = 1 then rawAt s q x l y p else uAt s q x l y p : Nat)) none)
def execNeBin (q : Fin 4) (d a : BitVec 4) (imm : BitVec 14) (s : State) : Host.Outcome State Fault Refusal :=
  .next (neInstr q (neBinOp q d a imm) s)

/-- The background estimate of a lane (R199). -/
def bgOf (s : State) (q : Nat) (x : Ne) (l : Nat) (y : Lane) (mode : Nat) : Nat :=
  let vs := (List.range y.wlen).map fun (i : Nat) => rawAt s q x l y i
  if y.wlen = 0 then 0
  else if mode = 0 then vs.sum / y.wlen
  else if mode = 1 then
    let n := max 1 (y.wlen / 4)
    ((vs.mergeSort fun a b => decide (a ≤ b)).take n).sum / n
  else vs.min?.getD 0

def neBgsOp (q : Nat) (d : BitVec 4) (imm : BitVec 14) : State → State → Ne → Nat × NeRes := fun _ s x =>
  let mode := imm.toNat % 4
  let w := maxLane x (·.wlen)
  let cost := if w = 0 then 2 else if mode = 1 then 8 + ceilDiv w 4 else 4 + ceilDiv w 8
  if mode = 3 then (0, .fault 5)
  else (cost, .ok (onLanes x fun l y => let b := bgOf s q x l y mode; { lsetI y d.toNat b with bg := b }) none)
def execNeBgs (q : Fin 4) (d : BitVec 4) (imm : BitVec 14) (s : State) : Host.Outcome State Fault Refusal :=
  .next (neInstr q (neBgsOp q d imm) s)

def execNeBgw (q : Fin 4) (a : BitVec 4) (s : State) : Host.Outcome State Fault Refusal :=
  .next (neInstr q (laneOp 1 fun _ y => { y with bg := (clampI 0 65535 (lval y a.toNat)).toNat }) s)

/-- The result of a scan: the position found, and the bins examined within the window. -/
def peakOf (s : State) (q : Nat) (x : Ne) (l : Nat) (y : Lane) (a b : Nat) : Option Nat × Nat :=
  let p0 := (max (lval y a) 0).toNat
  let u := fun (p : Int) => uAt s q x l y p
  match ((List.range y.wlen).drop p0).find? fun (p : Nat) =>
      decide (lval y b ≤ u p) && decide (u (p - 1) ≤ u p) && decide (u (p + 1) < u p) with
  | some p => (some p, min (p + 2) y.wlen - p0)
  | none => (none, y.wlen - p0)

/-- The cycles of a scan that examines `n` bins in the lane that examines most. -/
def scanCost (x : Ne) (f : Nat → Lane → Nat) : Nat :=
  2 + ceilDiv ((List.range 8).foldl (fun m l => if bget x.mask l then max m (f l (lnGet x l)) else m) 0) 8

/-- D of PEAK and CENT: odd or 15 is a fault of cause 2. -/
def pairReg (d : BitVec 4) : Bool := decide (d.toNat % 2 = 0)

def nePeakOp (q : Nat) (d a b : BitVec 4) : State → State → Ne → Nat × NeRes := fun _ s x =>
  if !pairReg d then (0, .fault 2)
  else (scanCost x fun l y => (peakOf s q x l y a.toNat b.toNat).2, .ok (onLanes x fun l y =>
    match (peakOf s q x l y a.toNat b.toNat).1 with
    | some p => lsetI (lsetI y d.toNat p) (d.toNat + 1) (uAt s q x l y p)
    | none => lsetI (lsetI y d.toNat (-1)) (d.toNat + 1) 0) none)
def execNePeak (q : Fin 4) (d a b : BitVec 4) (s : State) : Host.Outcome State Fault Refusal := .next (neInstr q (nePeakOp q d a b) s)

/-- The positions of a span within the window. -/
def spanOf (y : Lane) (lo hi : Int) : List Nat :=
  let a := (max lo 0).toNat
  let b := (min hi ((y.wlen : Int) - 1) + 1).toNat
  (List.range (b - a)).map (· + a)

def neVminOp (q : Nat) (d a b : BitVec 4) : State → State → Ne → Nat × NeRes := fun _ s x =>
  (scanCost x fun _ y => (spanOf y (lval y a.toNat) (lval y b.toNat)).length, .ok (onLanes x fun l y =>
    match ((spanOf y (lval y a.toNat) (lval y b.toNat)).map fun (p : Nat) => uAt s q x l y p).min? with
    | some m => lsetI y d.toNat m
    | none => lsetI y d.toNat (-1)) none)
def execNeVmin (q : Fin 4) (d a b : BitVec 4) (s : State) : Host.Outcome State Fault Refusal := .next (neInstr q (neVminOp q d a b) s)

/-- The centroid over La − r to La + r (R201). -/
def centLane (s : State) (q : Nat) (x : Ne) (d a r l : Nat) (y : Lane) : Lane :=
  let p := lval y a
  if p < 0 ∨ (y.wlen : Int) ≤ p then lsetI (lsetI y d (-1)) (d + 1) 0
  else
    let ps := spanOf y (p - r) (p + r)
    let su := (ps.map fun (i : Nat) => uAt s q x l y i).sum
    let sw := (ps.map fun (i : Nat) => uAt s q x l y i * i).sum
    let e := { y.e with
      edge := y.e.edge || decide (ps.length < 2 * r + 1)
      ovt := y.e.ovt || ps.any fun (i : Nat) => rawAt s q x l y i == 65535 }
    let y := { y with e := e }
    if su = 0 then lsetI (lsetI y d (256 * p)) (d + 1) 0
    else lsetI (lsetI y d (roundDiv (256 * sw : Nat) su)) (d + 1) (min su 2147483647 : Nat)

def neCentOp (q : Nat) (d a : BitVec 4) (imm : BitVec 14) : State → State → Ne → Nat × NeRes := fun _ s x =>
  if !pairReg d then (0, .fault 2)
  else if imm.toNat % 8 = 0 then (0, .fault 5)
  else (6, .ok (onLanes x (centLane s q x d.toNat a.toNat (imm.toNat % 8))) none)
def execNeCent (q : Fin 4) (d a : BitVec 4) (imm : BitVec 14) (s : State) : Host.Outcome State Fault Refusal :=
  .next (neInstr q (neCentOp q d a imm) s)

/-- One side of FWID: bins examined, the crossing's distance in sixteenths of a bin as numerator and denominator, and whether the
search reached its limit. `u j` is the value at distance j and `m` the positions that can be examined. -/
def fwidSide (u : Nat → Nat) (m : Nat) : Nat × (Nat × Nat) × Bool :=
  let h := u 0
  match (List.range m).find? fun j => decide (2 * u (j + 1) < h) with
  | some j => (j + 1, (32 * j * (u j - u (j + 1)) + 16 * (2 * u j - h), 2 * (u j - u (j + 1))), false)
  | none => (m, (16 * m + 8, 1), true)

/-- The width of a lane (R202): bins examined, width as a fraction, EDGE. -/
def fwidOf (s : State) (q : Nat) (x : Ne) (a l : Nat) (y : Lane) : Nat × (Nat × Nat) × Bool :=
  let p := lval y a
  if p < 0 ∨ (y.wlen : Int) ≤ p then (0, (0, 1), false)
  else if uAt s q x l y p = 0 then (1, (0, 1), false)
  else
    let lo := fwidSide (fun j => uAt s q x l y (p - j)) (min 32 p.toNat)
    let hi := fwidSide (fun j => uAt s q x l y (p + j)) (min 32 (y.wlen - 1 - p.toNat))
    (lo.1 + hi.1 + 1, (lo.2.1.1 * hi.2.1.2 + hi.2.1.1 * lo.2.1.2, lo.2.1.2 * hi.2.1.2), lo.2.2 || hi.2.2)

/-- FWID; which way an inexact width rounds is open: bit l of the free value `f` for lane l. -/
def neFwidOp (q : Nat) (d a : BitVec 4) (f : Nat) : State → State → Ne → Nat × NeRes := fun _ s x =>
  (scanCost x fun l y => (fwidOf s q x a.toNat l y).1, .ok (onLanes x fun l y =>
    let r := fwidOf s q x a.toNat l y
    let w := r.2.1.1 / r.2.1.2 + (if r.2.1.1 % r.2.1.2 ≠ 0 ∧ bitAt f l = true then 1 else 0)
    { lsetI y d.toNat w with e := { y.e with edge := y.e.edge || r.2.2 } }) none)
def neFwid (q : Nat) (d a : BitVec 4) (s : State) : State :=
  if (neGet s q).run then neInstr q (neFwidOp q d a (freeNow s)) (drawn s) else s
def execNeFwid (q : Fin 4) (d a : BitVec 4) (s : State) : Host.Outcome State Fault Refusal := .next (neFwid q d a s)

/-! ### The echo under construction (R203 to R205) -/

def execNeEclr (q : Fin 4) (s : State) : Host.Outcome State Fault Refusal := .next (neInstr q (laneOp 1 fun _ y => { y with e := {} }) s)

/-- Start, width and pass of bin `j` of a channel-point, in TDC steps (Table 7.2); none where the bin has no place. -/
def binPlace (v s : State) (q : Nat) (x : Ne) (l j : Nat) : Option (Nat × Nat × Nat) :=
  let ch := laneCh q x l
  let c := ctxGet s x.buf ch
  let o := origin v (ch / 12)
  if c.mode = 2 then some (o + 32 * j, 32, 3)
  else if c.mode = 1 then
    if j < 512 then some (o + 256 * j, 256, 1)
    else if j < 1024 then (c.wins[(j - 512) / 64]?).map fun w => (w.1 + 16 * ((j - 512) % 64), 16, 2)
    else none
  else none

/-- Range in mm of a time given in 256ths of a TDC step: τ × 15.625 ps × 299,792,458 m/s ÷ 2, rounded. -/
def rangeMm (tau256 : Nat) : Nat :=
  (clampI 0 524287 (roundDiv ((tau256 : Int) * 299792458 * 125) (256 * 16 * 1000000000))).toNat

def neErngOp (q : Nat) (a : BitVec 4) : State → State → Ne → Nat × NeRes := fun v s x =>
  (2, .ok (onLanes x fun l y =>
    let p := (max (lval y a.toNat) 0).toNat
    let j := (y.wbase + p / 256) % 4096
    match binPlace v s q x l j with
    | some b => { y with j0 := j, e := { y.e with range := rangeMm (256 * b.1 + (p % 256 + 128) * b.2.1), pass := b.2.2 } }
    | none => { y with j0 := j, e := { y.e with range := 0, pass := 0 } }) none)
def execNeErng (q : Fin 4) (a : BitVec 4) (s : State) : Host.Outcome State Fault Refusal := .next (neInstr q (neErngOp q a) s)

def execNeEint (q : Fin 4) (a : BitVec 4) (imm : BitVec 14) (s : State) : Host.Outcome State Fault Refusal :=
  .next (neInstr q (laneOp 1 fun _ y =>
    { y with e := { y.e with intensity := min 4095 ((max 0 (lval y a.toNat)).toNat / 2 ^ shamt imm) } }) s)

def execNeEqlt (q : Fin 4) (a : BitVec 4) (s : State) : Host.Outcome State Fault Refusal :=
  .next (neInstr q (laneOp 1 fun _ y => { y with e := { y.e with quality := (clampI 0 255 (lval y a.toNat)).toNat } }) s)

def execNeEflg (q : Fin 4) (imm : BitVec 14) (s : State) : Host.Outcome State Fault Refusal :=
  .next (neInstr q (laneOp 1 fun _ y => { y with e := { y.e with usr := y.e.usr ||| imm.setWidth 6 } }) s)

/-- The sillage test (R204); the width of a bin that has no place is not stated, and the outcome is then free. -/
def clsHolds (v : State) (q : Nat) (y : Lane) (la : Int) (w : Option Nat) (free : Bool) : Bool :=
  let rmax := cfgQN v q 0x2500 4
  let wide := match w with | some w => decide ((cfgQN v q 0x2500 5 : Int) * 16000 ≤ la * w * 15625) | none => free
  rmax != 0 && decide (y.e.range ≤ rmax) && wide && decide (y.e.intensity ≤ cfgQN v q 0x2500 6)

/-- The width of bin j0 in TDC steps: a fine bin is 16 wide whether or not its window is placed. -/
def clsWidth (v s : State) (q : Nat) (x : Ne) (l : Nat) (y : Lane) : Option Nat :=
  match binPlace v s q x l y.j0 with
  | some b => some b.2.1
  | none => if (ctxGet s x.buf (laneCh q x l)).mode = 1 ∧ y.j0 < 1024 then some 16 else none

def neClsOp (q : Nat) (d a : BitVec 4) (f : Nat) : State → State → Ne → Nat × NeRes := fun v s x =>
  (2, .ok (onLanes x fun l y =>
    let r := clsHolds v q y (lval y a.toNat) (clsWidth v s q x l y) (bitAt f l)
    { lsetI y d.toNat r.toNat with e := { y.e with sil := y.e.sil || r } }) none)
def neCls (q : Nat) (d a : BitVec 4) (s : State) : State :=
  if (neGet s q).run then neInstr q (neClsOp q d a (freeNow s)) (drawn s) else s
def execNeCls (q : Fin 4) (d a : BitVec 4) (s : State) : Host.Outcome State Fault Refusal := .next (neCls q d a s)

/-- EMIT in one lane: the slots after it, and whether it counts as a duplicate or as dropped. -/
def emitLane (tol : Nat) (dup : Bool) (y : Lane) : List Echo × Bool × Bool :=
  match (if dup then y.slots.findIdx? fun e => decide ((e.range : Int) - y.e.range ≤ tol) && decide ((y.e.range : Int) - e.range ≤ tol) else none) with
  | some i => (if (y.slots.getD i {}).intensity < y.e.intensity then y.slots.set i y.e else y.slots, true, false)
  | none => if 8 ≤ y.slots.length then (y.slots, false, true) else (y.slots ++ [y.e], false, false)

def neEmitOp (q : Nat) (imm : BitVec 14) : State → State → Ne → Nat × NeRes := fun v s x =>
  let dup := bitAt imm.toNat 0
  let tol := cfgQN v q 0x2500 7
  let counted := fun l => bget x.mask l && (ctxGet s x.buf (laneCh q x l)).mode != 0
  let dups := ((List.range 8).filter fun l => counted l && (emitLane tol dup (lnGet x l)).2.1).length
  let drops := ((List.range 8).filter fun l => counted l && (emitLane tol dup (lnGet x l)).2.2).length
  let x := onLanes x fun _ y => { y with slots := (emitLane tol dup y).1, e := {} }
  (1, .ok { x with dups := satAdd 16 x.dups dups, capdrop := satAdd 16 x.capdrop drops } none)
def execNeEmit (q : Fin 4) (imm : BitVec 14) (s : State) : Host.Outcome State Fault Refusal := .next (neInstr q (neEmitOp q imm) s)

/-! ### Cut and unlisted opcodes as commands -/

def budgetCut (q : Nat) (s : State) : State := if (neGet s q).run then neCutAtBudget q s else s
def execNeBudgetCut (q : Fin 4) (s : State) : Host.Outcome State Fault Refusal := .next (budgetCut q s)

def neUnlisted : State → State → Ne → Nat × NeRes := fun _ _ _ => (0, .fault 1)
def execNeUnlistedOpcode (q : Fin 4) (s : State) : Host.Outcome State Fault Refusal := .next (neInstr q neUnlisted s)

/-! ### The engine's own program (R211) -/

/-- The word's instruction runs (Tables 8.2 and 8.3). -/
def neRunWord (q : Fin 4) (w : Nat) (s : State) : Host.Outcome State Fault Refusal :=
  let d := BitVec.ofNat 4 (fld w 22 4)
  let a := BitVec.ofNat 4 (fld w 18 4)
  let b := BitVec.ofNat 4 (fld w 14 4)
  let i := BitVec.ofNat 14 (fld w 0 14)
  match fld w 26 6 with
  | 0x00 => execNeNop q s
  | 0x01 => execNeLi q d i s
  | 0x02 => execNeLg q d a s
  | 0x03 => execNeGli q d i s
  | 0x04 => execNeGlh q d i s
  | 0x05 => execNeGadd q d a i s
  | 0x08 => execNeAdd q d a b s
  | 0x09 => execNeSub q d a b s
  | 0x0A => execNeAddi q d a i s
  | 0x0B => execNeMul q d a b s
  | 0x0C => execNeShr q d a i s
  | 0x0D => execNeShl q d a i s
  | 0x0E => execNeMin q d a b s
  | 0x0F => execNeMax q d a b s
  | 0x10 => execNeMset q a b i s
  | 0x11 => execNeMseti q a i s
  | 0x12 => execNeMpush q s
  | 0x13 => execNeMpop q s
  | 0x14 => execNeMnot q s
  | 0x18 => execNeBr q i s
  | 0x19 => execNeBany q i s
  | 0x1A => execNeBnone q i s
  | 0x1B => execNeLoop q a i s
  | 0x1F => execNeEnd q s
  | 0x20 => execNeCtx q d i s
  | 0x21 => execNeWin q a b s
  | 0x22 => execNeBin q d a i s
  | 0x23 => execNeBgs q d i s
  | 0x24 => execNeBgw q a s
  | 0x25 => execNePeak q d a b s
  | 0x26 => execNeVmin q d a b s
  | 0x27 => execNeCent q d a i s
  | 0x28 => execNeFwid q d a s
  | 0x30 => execNeEclr q s
  | 0x31 => execNeErng q a s
  | 0x32 => execNeEint q a i s
  | 0x33 => execNeEqlt q a s
  | 0x34 => execNeEflg q i s
  | 0x35 => execNeCls q d a s
  | 0x36 => execNeEmit q i s
  | _ => execNeUnlistedOpcode q s

/-- A running engine executes the word at its PC. -/
def neRunNext (q : Fin 4) (s : State) : Host.Outcome State Fault Refusal :=
  let x := neGet s q
  neRunWord q (neWord (viewFrame x.frame s) q x.pc) s

end Sys2Proof.Machine
end

