-- ==== Sys2Proof/Machine/Image.lean ====
section
/-! DEFINITION. Machine/Image.lean: the configuration image and its check value (R411), the time of the copy writes (R333), the
consistency rules of a resulting set, and the roles that the epochs follow (Table 1.10). -/

namespace Sys2Proof.Machine

/-! ### The image (R411) -/

/-- The objects of one row, in ascending order of subindex for each index. -/
def Obj.all (o : Obj) : List (Nat × Nat) :=
  (List.range o.ni).flatMap fun a => (List.range o.ns).map fun b => (o.i0 + o.ist * a, o.s0 + o.sst * b)

/-- Every object that takes effect by commit in the variant, in ascending index and then subindex; the map stands as (0x3400, 1). -/
def imageObjs (v : Variant) : List (Nat × Nat) :=
  (((objs.filter fun (o : Obj) => o.eff == Eff.commit).flatMap (fun (o : Obj) => o.all) ++ [(0x3400, 1)]).filter fun (p : Nat × Nat) => unitPresent v p.1 p.2).mergeSort
    fun a b => decide (okey a.1 a.2 ≤ okey b.1 b.2)

/-- The value of an image record. -/
def imageVal (m : SMap (List Byte)) (map : ZMap) (i s : Nat) : List Byte :=
  if i = 0x3400 ∧ s = 1 then leBytes 4 (mapCrc map) else valIn m (readKey i s)

def imageRecord (m : SMap (List Byte)) (map : ZMap) (p : Nat × Nat) : List Byte :=
  let b := imageVal m map p.1 p.2
  leBytes 2 p.1 ++ leBytes 1 p.2 ++ leBytes 1 0 ++ leBytes 4 b.length ++ padTo4 b

/-- The configuration image of a set of values and a map. -/
def imageOf (v : Variant) (m : SMap (List Byte)) (map : ZMap) : List Byte := (imageObjs v).flatMap (imageRecord m map)

/-- CFG_CRC: CRC-32C of the configuration in effect. -/
def cfgCrc (s : State) : Nat := crc32c (imageOf s.sys.variant s.cf.eff s.cf.map)

/-- The map after the commit of a set: its staged map, where it has one, else the map in effect. -/
def mapAfter (m : Option ZMap) (s : State) : ZMap := match m with | some m => mapTrim m | none => s.cf.map

/-- CRC-32C of the configuration as it would stand after the commit of a set. -/
def setCrc (set : SMap (List Byte)) (m : Option ZMap) (s : State) : Nat :=
  crc32c (imageOf s.sys.variant (afterCommit s.cf.eff set) (mapAfter m s))

/-- What COMMIT_CRC is compared with. -/
def stagedCrc (s : State) : Nat := setCrc s.cf.staged s.cf.mapStage s

/-- Bytes of an image without building it: 4 of the map record's value are its check value. -/
def imageLen (v : Variant) (m : SMap (List Byte)) : Nat :=
  ((imageObjs v).map fun p => 8 + 4 * ceilDiv (if p.1 = 0x3400 ∧ p.2 = 1 then 4 else (valIn m (readKey p.1 p.2)).length) 4).sum

/-- S of R333 in KiB: the image and the map's stored form, rounded up (assumption 27). -/
def storedKib (v : Variant) (m : SMap (List Byte)) (map : ZMap) : Nat := ceilDiv (imageLen v m + mapSize map) 1024

/-- W of R333 in ns for the configuration after the commit of a set. -/
def copyTime (set : SMap (List Byte)) (m : Option ZMap) (s : State) : Nat :=
  200000 + 2 * (500000 + 50000 * storedKib s.sys.variant (afterCommit s.cf.eff set) (mapAfter m s))

/-! ### A state as another set would show it -/

/-- The state with a set of values and a map in effect. -/
def withSet (m : SMap (List Byte)) (map : ZMap) (s : State) : State := { s with cf := { s.cf with eff := m, map := map } }

/-- The state with the set of a commit in effect. -/
def committedView (p : Pend) (s : State) : State := withSet (afterCommit s.cf.eff p.set) (mapAfter p.map s) s

/-! ### Consistency (step 10 of Table 18.7) -/

/-- No two entries of a list are equal. -/
def allDistinct (l : List Nat) : Bool := l.eraseDups.length == l.length

/-- VLD_MAX is greater than VLD_MIN (R78). -/
def okVld (v : State) : Bool := decide (cfgN v 0x1200 0xC < cfgN v 0x1200 0xD)

/-- The strips of one quadrant's emitters differ (R119). -/
def okStrips (v : State) (q : Nat) : Bool := allDistinct ((List.range 4).map fun i => emtStrip v (4 * q + i))

/-- BASE_MIN ≤ HEART − 8 mV and HEART ≤ TOP − 8 mV (chapter 6). -/
def okNotes (v : State) (i : Nat) : Bool := decide (cfgN v i 3 + 8 ≤ cfgN v i 4) && decide (cfgN v i 4 + 8 ≤ cfgN v i 5)

/-- The fixed codes are pairwise distinct (R230). -/
def okCodes (v : State) : Bool := allDistinct ((List.range 4).map fun i => cfgN v 0x2600 (5 + i))

/-- K does not exceed N (R259). -/
def okDebounce (v : State) (i : Nat) : Bool := decide (cfgN v i 3 ≤ cfgN v i 4)

/-- The enabled gate pairs (R263). -/
def okGates (v : State) : Bool :=
  let zs := ((List.range 16).filter (gateOn v)).flatMap fun g => [gateA v g, gateB v g]
  allDistinct zs && zs.all fun z => znType v z == 2

/-- At most one pair has ROLE 3 (R307). -/
def okReset (v : State) : Bool := decide (((List.range 8).filter fun i => sinRole v i == 3).length ≤ 1)

/-- The rules of R310. -/
def okOutputs (v : State) : Bool :=
  ((List.range 4).all fun p =>
    ((List.range 8).all fun i => !bitAt (cfgN v 0x4400 (0x18 + p)) i || sinRole v i == 1 || sinRole v i == 2) &&
    (sqFunc v p != 2 || dmUsed v (sqDm v p)) &&
    (sqFunc v p == 0 || (resetPair v).isSome)) &&
  (cfgB v 0x4400 0x28).zipIdx.all fun e =>
    decide (e.1.toNat < 32) && (fld e.1.toNat 0 4 == 0 || znType v e.2 == 0)

/-- No head has one carrier on both channels (R343). -/
def okHead (v : State) (h : Nat) : Bool :=
  headA v h == headB v h || cfgN v (0x5000 + headA v h) 2 != cfgN v (0x5000 + headB v h) 2

/-- The rules of R371. -/
def okAxle (v : State) : Bool :=
  let hs := (List.range 8).filter (headOn v)
  let chans := hs.flatMap fun h => [headA v h, headB v h]
  let cps := (List.range 32).filter fun c => (cpAt v c).src != 0
  let refs := cps.map fun c => 256 * (cpAt v c).src + (cpAt v c).ref
  allDistinct chans && chans.all (fun n => cfgF v (0x5000 + n) 1) && allDistinct refs &&
  (cps.all fun c =>
    let e := cpAt v c
    (e.src != 1 || (decide (e.ref < 8) && headOn v e.ref)) && (e.src != 2 || (decide (e.ref < 16) && gateOn v e.ref)) &&
    (e.src != 3 || (decide (e.ref < 64) && tlPeer v (e.ref / 32) != 0xFFFF)) && e.aside != e.bside) &&
  (List.range 32).all fun k =>
    let bound := cpsOf v k
    let src := bound.map fun c => (cpAt v c).src
    let zs := secZones v k
    !(src.contains 1 && src.contains 2) && zs.all (fun z => znType v z == 0 || znType v z == 3) &&
    (!cfgF v (0x5200 + k) 7 || !zs.isEmpty) &&
    ((List.range 8).all fun i => !bitAt (cfgN v (0x5200 + k) 8) i || sinRole v i == 4) &&
    (cfgN v (0x5200 + k) 9 == 0 || !bound.isEmpty)

/-- The entries of a CP_TABLE value by themselves (Table 17.2). -/
def okCpTable (b : List Byte) : Bool :=
  (List.range 32).all fun c =>
    let e := cpOf b c
    let side := fun x => decide (x < 32) || x == 0xFF
    decide (e.src ≤ 3) && decide (leAt b (8 * c + 6) 2 = 0) && (e.src == 0 || (side e.aside && side e.bside && decide (e.ref < 64)))

/-- The consistency rules that a write of object (i, s) can break, in the resulting set `v`. -/
def consistent (v : State) (i s : Nat) : Bool :=
  if i = 0x1200 then okVld v
  else if 0x2000 ≤ i ∧ i < 0x2010 then okStrips v ((i - 0x2000) / 4)
  else if 0x2200 ≤ i ∧ i < 0x22C0 ∧ 3 ≤ s ∧ s ≤ 5 then okNotes v i
  else if i = 0x2600 then okCodes v
  else if 0x3000 ≤ i ∧ i < 0x3400 then
    if s = 2 then okGates v && okOutputs v && okAxle v else okDebounce v i
  else if i = 0x3400 then okGates v && okAxle v
  else if i = 0x4000 then okReset v && okOutputs v && okAxle v
  else if i = 0x4400 then okOutputs v
  else if 0x5000 ≤ i ∧ i < 0x5400 then (List.range 8).all (okHead v) && okAxle v
  else true

/-- The rules of the value by itself that are not ranges: CP_TABLE. -/
def valueForm (i s : Nat) (b : List Byte) : Bool := if i = 0x5100 ∧ s = 0x23 then okCpTable b else true

/-- The value that a write stages for a key: bits outside the fields of a packed object are dropped (R10; DEDUCED, assumption 105). -/
def stageVal (k : Nat) (b : List Byte) : List Byte :=
  match packMask (keyIx k) (keySub k) with
  | some m => leBytes b.length (Nat.land (leNat b) m)
  | none => b

/-- The staged set with the value of one key. A program of a note engine sets its PROG_LEN (R214). -/
def stageKey (k : Nat) (b : List Byte) (m : SMap (List Byte)) : SMap (List Byte) :=
  let m := mput m k (stageVal k b)
  if keyIx k = 0x2500 ∧ keySub k = 0x11 then mput m (k - 1) (leBytes 2 (b.length / 4)) else m

/-- The staged set with one more write. -/
def stageKeys (keys : List Nat) (b : List Byte) (m : SMap (List Byte)) : SMap (List Byte) :=
  keys.foldl (fun m k => stageKey k b m) m

/-- The staged set with the writes received and not yet staged. -/
def stagedSoon (s : State) : SMap (List Byte) :=
  s.cf.unacked.foldl (fun m e => stageKeys (storeKeys s.sys.variant e.2.index e.2.sub) e.2.data m) s.cf.staged

/-- Every consistency rule of the tables holds in the set `v` shows. -/
def allConsistent (v : State) : Bool :=
  okVld v && (List.range 4).all (okStrips v) && (List.range 192).all (fun n => okNotes v (0x2200 + n)) && okCodes v &&
  (List.range 1024).all (fun z => okDebounce v (0x3000 + z)) && okGates v && okReset v && okOutputs v &&
  (List.range 8).all (okHead v) && okAxle v

/-- A staged value is within the range of its object (step 10 of Table 18.7). -/
def keyOk (k : Nat) (b : List Byte) : Bool :=
  match objAt (keyIx k) (keySub k) with
  | some o => lengthOk o (keyIx k) (keySub k) b.length && valueOk o (keyIx k) (keySub k) b && valueForm (keyIx k) (keySub k) b
  | none => false

/-! ### Roles (Table 1.10) -/

/-- The role of zone `z`: type, gate pairing, K, N, and the sections that name it. -/
def roleZone (v : State) (z : Nat) : List Nat :=
  [znType v z, znK v z, znN v z] ++
  ((List.range 16).filter fun g => gateOn v g && (gateA v g == z || gateB v g == z)).map (fun g => 4096 + gateCfg v g * 16 + g) ++
  ((List.range 32).filter fun k => (secZones v k).contains z) ++
  ((List.range 32).filter fun c => let e := cpAt v c; e.src == 2 && (gateA v e.ref == z || gateB v e.ref == z)).map (· + 64)

/-- The role of head `h`: its channels in order, and their carriers. -/
def roleHead (v : State) (h : Nat) : List Nat :=
  [headA v h, headB v h, cfgN v (0x5000 + headA v h) 2, cfgN v (0x5000 + headB v h) 2]

def roleCp (v : State) (c : Nat) : List Nat := let e := cpAt v c; [e.src, e.ref, e.aside, e.bside]

def roleSec (v : State) (k : Nat) : List Nat := cpsOf v k ++ [100] ++ secZones v k ++ [2000, cfgN v (0x5200 + k) 7]

/-- The role of emitter `e`: enable, strip and code assignment, which is CODEMASK; an accord is no part of it (R120, R217). -/
def roleEmt (v : State) (e : Nat) : List Nat := [cfgN v (0x2000 + e) 1, emtStrip v e, emtMask v e]

/-- Kind, number of objects and role, in the order of `epochOf`. -/
def roles : List (Nat × Nat × (State → Nat → List Nat)) :=
  [(0, 1024, roleZone), (1, 8, roleHead), (2, 32, roleCp), (3, 32, roleSec), (4, 16, roleEmt)]

/-- The epochs after a change of the set from `old` to `new`: each object whose role has changed advances (R49). -/
def epochsAfter (old new : State) : SMap Nat :=
  roles.foldl (fun m r => (List.range r.2.1).foldl (fun m n =>
    if r.2.2 old n == r.2.2 new n then m else mset 1 m (4096 * r.1 + n) (epochNext (epochOf m r.1 n))) m) old.cf.epochs

end Sys2Proof.Machine
end

