-- ==== Sys2Proof/Machine/Planner.lean ====
section
/-! DEFINITION. Machine/Planner.lean: floors and ranks, the expander, plan programs and the planner's results (chapter 10). -/

namespace Sys2Proof.Machine

/-! ### The set that governs the next frame (R241) -/

/-- The boundary at `sys` that closes frame `n` is the one that a pending commit names (R46). -/
def commitNamed (p : Pend) (n : BitVec 32) (sys : BitVec 64) : Bool :=
  if p.mode = 1 then p.frame == n + 1 else decide (p.time ≤ sys)

/-- Verified, where it is a safety set, and both copies written. -/
def commitReady (p : Pend) : Bool := p.written && (!p.safety || p.verified)

/-- A staged assignment is committed at a boundary at local time `now` and system time `sys` (R222, R493). -/
def assignDue (s : State) (now : Nat) (sys : BitVec 64) : Bool :=
  match s.ac.staged with
  | some a => decide (a.apply ≤ sys.toNat) && decide (s.ac.stagedAt + copyTime [] none s + msNs ≤ now)
  | none => false

/-- How long before a boundary step 0 is built. -/
def step0Lead : Nat := 1200

/-- The state as the set of the next frame shows it, as known when step 0 is built. -/
def nextView (s : State) : State :=
  let sys := s.sys.sysTime + BitVec.ofNat 64 step0Lead
  let v := match s.cf.pend with
    | some p => if commitReady p && commitNamed p s.pw.frameNo sys then committedView p s else s
    | none => s
  if assignDue s (s.sys.now + step0Lead) sys then { v with ac := { v.ac with assign := s.ac.staged } } else v

/-! ### Floors, ranks, energies (R235 to R237) -/

/-- Rank of a cell: 2 with an interval of an enabled protective zone, else 1 with MUSTSEE. -/
def cellRank (v : State) (w : Nat) : Nat :=
  if (cellIvs v.cf.map w).any (fun i => znOn v (ivZone i) && znType v (ivZone i) == 0) then 2 else if cellMust w then 1 else 0

/-- One key of emitter and step. -/
def ekKey (e k : Nat) : Nat := 8192 * e + k

/-- FT before it is applied as 8, and the rank, of every enabled emitter and step where either is not 0. -/
def floorTable (v : State) : SMap (Nat × Nat) :=
  let n := stepsPerFrame v
  v.cf.map.cells.foldl (fun m c =>
    let e := servingCh v (c.1 / 1800)
    let ks := colSteps n (c.1 % 1800)
    let share := if ks.isEmpty then 0 else ceilDiv (cellFloor c.2) ks.length
    let rk := cellRank v c.2
    if emtOn v e then ks.foldl (fun m k => mupd (0, 0) m (ekKey e k) fun x => (max x.1 share, max x.2 rk)) m else m) []

/-- FT as applied. -/
def ftOf (tab : SMap (Nat × Nat)) (e k : Nat) : Nat := min 8 (mget (0, 0) tab (ekKey e k)).1
def rankOf (tab : SMap (Nat × Nat)) (e k : Nat) : Nat := (mget (0, 0) tab (ekKey e k)).2

/-- UNREACH (R236). -/
def unreachOf (v : State) : Nat :=
  ((floorTable v).filter fun x => decide (8 < x.2.1)).length +
  (v.cf.map.cells.filter fun c => cellFloor c.2 != 0 && !emtOn v (servingCh v (c.1 / 1800))).length

/-- E_b(e) in units of 0.390625 pJ. -/
def burstEnergy (v : State) (e : Nat) : Nat :=
  let cs := (accordNow v).codes
  let m := ((List.range 4).filter fun i => bitAt (emtMask v e) i).foldl (fun m i => max m (codeLen (cs.getD i 0))) 0
  m * subEnergy v e

/-- The enabled emitters in ascending order, each with its E_b. -/
def emitters (v : State) : List (Nat × Nat) := ((List.range 16).filter (emtOn v)).map fun e => (e, burstEnergy v e)

/-- FP_FLOOR in µJ, rounded up (R237). -/
def floorOf (v : State) : Nat :=
  let es := emitters v
  toUj ((floorTable v).map fun x => min 8 x.2.1 * ((es.find? fun p => p.1 == x.1 / 8192).map (·.2)).getD 0).sum

/-! ### The plan table (R234) -/

def wordCount (w : Nat) : Nat := min 8 (fld w 12 4)
def wordNco (w : Nat) : Nat := max 1 (fld w 9 3)
def wordFull (w : Nat) : Bool := bitAt w 8
def wordMember (w : Nat) : Nat := fld w 6 2
/-- A plan word as stored: the ignored bits read 0. -/
def planWord (w : Nat) : Nat := put (fld w 6 10) 6 10

/-- The default plan table. -/
def defTable (v : State) : SMap Nat := mtab 0 1024 fun _ => planWord (cfgN v 0x2700 3)

def fpLen (v : State) : Nat := cfgN v 0x2700 2

/-- No program runs for a frame in state `st` (R233); `first` = it is the first scanned one after a data-plane start. -/
def fpNone (v : State) (st : Nat) (first : Bool) : Bool := cfgN v 0x2700 1 != 1 || fpLen v == 0 || st == 4 || first

/-- The plan table of the next frame. -/
def planNext (v s : State) (st : Nat) (first : Bool) : SMap Nat :=
  if fpNone v st first then defTable v else s.fp.nextPlan.getD s.fp.plan

/-! ### Bursts of a step (R238, R239) -/

/-- The class of a burst. -/
def burstClass (floor : Bool) (rank : Nat) : Nat := if floor then 3 - min 2 rank else 6 - min 2 rank

/-- Step `k` has bursts in state `st`: in WATCH only every eighth step. -/
def stepHas (st k : Nat) : Bool := st == 5 || (st == 4 && k % 8 == 0)

/-- Floor bursts, above-floor bursts, rank and plan word of an emitter in a step. -/
def wantOf (v : State) (tab : SMap (Nat × Nat)) (plan : SMap Nat) (e k : Nat) : Nat × Nat × Nat × Nat :=
  let w := mget 0 plan (64 * e + sectorOf (stepsPerFrame v) k)
  let f := ftOf tab e k
  (f, wordCount w - f, rankOf tab e k, w)

/-- The class counts of a list of bursts. -/
def addCount (l : List Nat) (c n : Nat) : List Nat := (List.range 6).map fun i => l.getD i 0 + if i + 1 = c then n else 0

/-- E_c of the classes over steps `k0` to the end. -/
def classEnergies (v : State) (plan : SMap Nat) (st k0 : Nat) : List Nat :=
  let tab := floorTable v
  let n := stepsPerFrame v
  (emitters v).foldl (fun l p =>
    ((List.range (n - k0)).map (· + k0)).foldl (fun l k =>
      if stepHas st k then
        let w := wantOf v tab plan p.1 k
        addCount (addCount l (burstClass true w.2.2.1) (w.1 * p.2)) (burstClass false w.2.2.1) (w.2.1 * p.2)
      else l) l) []

/-- KEEP of classes 1 to 6 for `a` units, in order; the class partly filled and its KEEP (0, 0 where all fit). -/
def fillKeeps (a : Nat) (es : List Nat) : SMap Nat × Nat × Nat :=
  let r := (List.range 6).foldl (fun (x : Nat × SMap Nat × Option (Nat × Nat)) i =>
    let ec := es.getD i 0
    match x.2.2 with
    | some _ => x
    | none =>
      if ec ≤ x.1 then (x.1 - ec, mput x.2.1 (i + 1) 65536, none)
      else
        let k := 65536 * x.1 / ec
        (0, mset 0 x.2.1 (i + 1) k, some (i + 1, k))) (a, [], none)
  (r.2.1, (r.2.2.map (·.1)).getD 0, (r.2.2.map (·.2)).getD 0)

/-- Units of 0.390625 pJ in a µJ. -/
def ujUnits : Nat := 2560000

/-- The class fill when the grant arrives (R240): step 0 is built already. -/
def classFill (s : State) : State :=
  let g := s.sup.grant * ujUnits
  let r := fillKeeps (g - s.fp.sUnits) (classEnergies s s.fp.plan s.pw.st 1)
  { s with fp := { s.fp with keep := r.1, acc := [], fillClass := r.2.1, fillKeep := r.2.2, grantU := g, lowU := none } }

/-- A lowered grant, from the first build after it (R242): classes 4 to 6 are shed and the floors filled anew. -/
def refill (k : Nat) (s : State) : State :=
  let g := s.sup.grant * ujUnits
  if g < s.fp.lowU.getD s.fp.grantU then
    let es := (classEnergies s s.fp.plan s.pw.st k).take 3
    let r := fillKeeps (g - s.fp.sFloor) es
    { s with fp := { s.fp with keep := mfilter (fun c => decide (c ≤ 3)) r.1, acc := [], fillClass := r.2.1, fillKeep := r.2.2, lowU := some g } }
  else s

/-! ### The build (R238 to R243) -/

/-- A build in progress: accumulators, energy against the limit, the counts, and the bursts listed of the emitter at hand. -/
structure Building where
  acc : SMap Nat
  used : Nat
  limit : Nat
  b : Built
  n : Nat
  deriving DecidableEq, Repr

/-- One burst of class `c`. -/
def oneBurst (keep : SMap Nat) (c eb : Nat) (x : Building) : Building :=
  let b := { x.b with want := addCount x.b.want c 1 }
  let a := mget 0 x.acc c + mget 0 keep c
  if a < 65536 then { x with acc := mset 0 x.acc c a, b := b }
  else
    let x := { x with acc := mset 0 x.acc c (a - 65536) }
    if x.used + eb ≤ x.limit then
      { x with used := x.used + eb, n := x.n + 1,
               b := { b with listed := addCount b.listed c 1, energy := b.energy + eb, floorE := b.floorE + if c ≤ 3 then eb else 0 } }
    else { x with b := { b with ceil := b.ceil + 1 } }

/-- `n` bursts of class `c`. -/
def bursts (keep : SMap Nat) (c eb n : Nat) (x : Building) : Building := (List.range n).foldl (fun x _ => oneBurst keep c eb x) x

/-- MEMBER, or the lowest member of CODEMASK where it is not allowed, and whether it was replaced (R239). -/
def memberOf (v : State) (e w : Nat) : Nat × Bool :=
  let m := wordMember w
  if bitAt (emtMask v e) m then (m, false) else (((List.range 4).find? fun i => bitAt (emtMask v e) i).getD 0, true)

/-- The shot list entries of one emitter: `n` slots. -/
def shotsOf (v : State) (e w n : Nat) : List Shot :=
  (List.range n).map fun i =>
    { e := e, slot := i, member := (memberOf v e w).1, pass := if wordFull w then 3 else if i < wordNco w then 1 else 2 }

/-- The list of step `k`, built with the fill. -/
def buildStep (v : State) (k : Nat) (plan : SMap Nat) (st : Nat) (s : State) : Building × List Shot :=
  let tab := floorTable v
  let x0 : Building := match s.fp.lowU with
    | some g => ⟨s.fp.acc, s.fp.sFloor, g, {}, 0⟩
    | none => ⟨s.fp.acc, s.fp.sUnits, s.fp.grantU, {}, 0⟩
  if stepHas st k then
    (emitters v).foldl (fun r p =>
      let w := wantOf v tab plan p.1 k
      let x := bursts s.fp.keep (burstClass true w.2.2.1) p.2 w.1 { r.1 with n := 0 }
      let x := bursts s.fp.keep (burstClass false w.2.2.1) p.2 w.2.1 x
      let fix := decide (0 < x.n) && (memberOf v p.1 w.2.2.2).2
      ({ x with b := { x.b with memberFix := x.b.memberFix || fix } }, r.2 ++ shotsOf v p.1 w.2.2.2 x.n)) (x0, [])
  else (x0, [])

/-- Step 0 may list its floor bursts (R241). -/
def step0Ok (s : State) (floor : Nat) : Bool :=
  decide (floor ≤ s.sup.grant) && !s.sup.whyMissing && !s.sup.vldBad && s.sup.vstate == 0

/-- Step 0 of the next frame: every floor burst in full, or nothing. Its above-floor bursts are never listed and count as shed
(FP_SHED6 of the worked example after Table 10.8). -/
def buildStep0 (v : State) (plan : SMap Nat) (st : Nat) (s : State) : Built × List Shot :=
  let tab := floorTable v
  let ok := step0Ok s (floorOf v)
  if stepHas st 0 then
    (emitters v).foldl (fun r p =>
      let w := wantOf v tab plan p.1 0
      let c := burstClass true w.2.2.1
      let b := { r.1 with want := addCount (addCount r.1.want c w.1) (burstClass false w.2.2.1) w.2.1, step0 := !ok }
      if ok then
        let fix := decide (0 < w.1) && (memberOf v p.1 w.2.2.2).2
        ({ b with listed := addCount b.listed c w.1, energy := b.energy + w.1 * p.2, floorE := b.floorE + w.1 * p.2,
                  memberFix := b.memberFix || fix }, r.2 ++ shotsOf v p.1 w.2.2.2 w.1)
      else (b, r.2)) ({ step0 := !ok }, [])
  else ({}, [])

/-- The step that is built and taken next: step 0 of the next frame after the last step, or while no frame is scanned. -/
def upcoming (s : State) : Nat :=
  if s.ex.open_ ∧ s.ex.step + 1 < stepsPerFrame s then s.ex.step + 1
  else if s.pw.scanned ∧ s.pw.dp = .scanning ∧ s.ex.open_ = false then s.ex.step
  else 0

/-- The state of the next frame under the set `v` that governs it, if that frame is scanned. -/
def nextScanned (v : State) : Nat := if scannedIn v (selectState v) (v.pw.frameNo + 1).toNat then selectState v else 0

/-- The list of the upcoming step `k`; `inTime` = the build completes before the sequencer takes the list. -/
def buildNext (inTime : Bool) (k : Nat) (s : State) : State :=
  if k = 0 then
    let v := nextView s
    let st := nextScanned v
    let r := buildStep0 v (planNext v s st s.pw.firstScan) st s
    { s with ex := { s.ex with next := r.2, nextStep := 0, nextReady := inTime }
             fp := { s.fp with pend := some { r.1 with late := !inTime } } }
  else
    let s := refill k s
    let r := buildStep s k s.fp.plan s.pw.st s
    { s with ex := { s.ex with next := r.2, nextStep := k, nextReady := inTime }
             fp := { s.fp with acc := r.1.acc, pend := some { r.1.b with late := !inTime } } }

/-- The expander builds for a data plane that scans or is about to. -/
def expanding (s : State) : Bool := s.pw.dp == .scanning || s.pw.dp == .ready

/-- The next step's list; a build after the sequencer has looked for it changes nothing: the step has been counted as late. -/
def expanderBuild (inTime : Bool) (s : State) : State :=
  if expanding s && !s.ex.missed && !s.ex.takenOk then buildNext inTime (upcoming s) s else s

def execExpanderBuild (t : Nat) (inTime : Bool) (s : State) : Host.Outcome State Fault Refusal :=
  .next (expanderBuild inTime (advance t s))

/-- The sequencer finds no complete list for step `k`: the step counts as late with the bursts that its build lists (R243). -/
def listMissed (k : Nat) (s : State) : State :=
  let s := match s.fp.pend with
    | some b => { s with fp := { s.fp with pend := some { b with late := true } } }
    | none => buildNext false k s
  { s with ex := { s.ex with missed := true } }

/-- The sequencer takes the list of the next step 1.0 µs before it begins (R123), and computes its phase (R219). -/
def shotListTake (tk : Nat) (s : State) : State :=
  if !expanding s || s.ex.missed || s.ex.takenOk then s
  else
    let k := upcoming s
    let v := if k = 0 then nextView s else s
    let p := slotPhase (accordNow v) tk
    let ok := s.ex.nextReady && s.ex.nextStep == k
    let s := if ok then s else listMissed k s
    { s with ex := { s.ex with taken := if ok then s.ex.next else [], takenOk := ok, nextReady := false, next := [],
                               nextPhase := p.1, nextHop := p.2.1, nextJ := p.2.2 } }

def execShotListTake (t : Nat) (tk : BitVec 64) (s : State) : Host.Outcome State Fault Refusal :=
  .next (shotListTake tk.toNat (advance t s))

/-- The counts of a built step enter the frame: a late list is not charged, and its bursts count as unlisted (R243). -/
def chargeStep (s : State) : State :=
  match s.fp.pend with
  | none => s
  | some b =>
    let listed := if b.late then [] else b.listed
    let missed := (List.range 6).map fun i => b.want.getD i 0 - listed.getD i 0
    let fp := s.fp
    { s with fp := { fp with
        pend := none
        listed := satAdd 32 fp.listed listed.sum
        shed := (List.range 6).foldl (fun m i => mset 0 m (i + 1) (mget 0 m (i + 1) + missed.getD i 0)) fp.shed
        sUnits := fp.sUnits + if b.late then 0 else b.energy
        sFloor := fp.sFloor + if b.late then 0 else b.floorE
        ceil := satAdd 16 fp.ceil b.ceil
        listLate := satAdd 16 fp.listLate b.late.toNat
        memberFix := fp.memberFix || b.memberFix, step0 := fp.step0 || b.step0
        shortfall := fp.shortfall || decide (0 < (missed.take 3).sum) } }

/-! ### The boundary (R245, R246, R249) -/

def sfFrames (s : State) : Nat := max 1 (cfgN s 0x2700 5)

/-- VIGILREQ at the end of a scanned frame. -/
def shortRuns (s : State) : State :=
  let fp := s.fp
  let short := if fp.shortfall then fp.shortRun + 1 else 0
  let full := if fp.shortfall then 0 else fp.fullRun + 1
  let n := sfFrames s
  { s with fp := { fp with
      shortRun := min 255 short, fullRun := min 255 full
      vigilReq := if n ≤ short then true else if n ≤ full then false else fp.vigilReq } }

/-- FP_STAT to FP_PROG of the frame that ended are posted and restart (R249). -/
def postPlanner (s : State) : State :=
  let fp := s.fp
  let c := fun i => mget 0 fp.shed i
  let low := bitIf fp.memberFix 5 + bitIf fp.step0 4 + bitIf fp.progFault 3 + bitIf fp.planLate 2 + bitIf fp.vigilReq 1 + bitIf fp.shortfall 0
  let s := post 0x0C0030 low [(0x0C0034, fp.listed), (0x0C0038, sat 32 (c 6)), (0x0C003C, sat 32 (c 5)),
    (0x0C0048, put (sat 16 (c 1)) 16 16 + put (sat 16 (c 2)) 0 16), (0x0C004C, put (sat 16 (c 3)) 16 16 + put (sat 16 (c 4)) 0 16),
    (0x0C0050, put fp.ceil 16 16 + put fp.listLate 0 16), (0x0C0054, put fp.fillClass 29 3 + put fp.fillKeep 0 17),
    (0x0C0058, put fp.cause 28 4 + put (sat 16 (ceilDiv fp.cycUsed 1024)) 12 16 + put fp.faultPc 0 11)] s
  { s with fp := { s.fp with
      prevShort := fp.shortfall, memberFix := false, step0 := false, progFault := false, planLate := false, cause := 0, faultPc := 0
      cycUsed := 0, shortfall := false, listed := 0, shed := [], ceil := 0, listLate := 0, sUnits := 0, sFloor := 0 } }

/-- The end of a frame in the planner: SHORTFALL and its event, VIGILREQ, the results. -/
def closePlanner (s : State) : State :=
  let s := if s.pw.scanned then raiseIf s.fp.shortfall evFpShort (shortRuns s) else s
  postPlanner s

/-- A write to PWR_REQ clears VIGILREQ and both counts (R246). -/
def vigilClear (s : State) : State := { s with fp := { s.fp with vigilReq := false, shortRun := 0, fullRun := 0 } }

/-! ### Plan programs (R232, R233, R247) -/

/-- An IN source that Table 10.7 lists. -/
def inListed (k : Nat) : Bool := decide (k ≤ 9) || (decide (16 ≤ k) && decide (k < 40))

/-- The value of an input at program start. -/
def fpInput (s : State) (k : Nat) : Nat :=
  if 32 ≤ k then cfgN s 0x2700 (0x10 + (k - 32))
  else if 16 ≤ k then (if emtOn s (k - 16) then ceilDiv (burstEnergy s (k - 16)) 2560 else 0)
  else match k with
  | 0 => s.sup.grant | 1 => s.sup.floorUj
  | 2 => bitIf s.sup.whyMissing 2 + bitIf s.sup.whyMains 1 + bitIf s.sup.whyRate 0
  | 3 => s.sup.spent | 4 => stepsPerFrame s | 5 => frameRate s | 6 => (s.pw.frameNo + 1).toNat
  | 7 => maskOf 16 (emtOn s) | 8 => s.fp.prevShort.toNat | 9 => s.sup.whyPstate | _ => 0

/-- The program starts 30 µs after a boundary (R232). -/
def planStart (s : State) : State :=
  if s.pw.scanned && s.pw.dp == .scanning && !fpNone s s.pw.st false then
    { s with fp := { s.fp with
        run := true, pc := 0, cyc := 0, p := [], work := s.fp.plan, nextPlan := none
        inp := mtab 0 40 fun k => BitVec.ofNat 32 (if inListed k then fpInput s k else 0) } }
  else s

def execPlanProgramStart (t : Nat) (s : State) : Host.Outcome State Fault Refusal := .next (planStart (advance t s))

/-- The program stops; its working table is discarded. -/
def planStop (s : State) : State := { s with fp := { s.fp with run := false, work := [], cycUsed := s.fp.cyc } }

/-- The deadline, 50 µs before the boundary (R233). -/
def planLate (s : State) : State :=
  if s.fp.run then let s := planStop s; { s with fp := { s.fp with planLate := true } } else s

def execPlanDeadline (t : Nat) (s : State) : Host.Outcome State Fault Refusal := .next (planLate (advance t s))

/-- A fault of cause `c` at the word of the PC. -/
def planFault (c : Nat) (s : State) : State :=
  let s := planStop s
  { s with fp := { s.fp with progFault := true, cause := c, faultPc := s.fp.pc % 2048 } }

def preg (s : State) (r : BitVec 4) : Word := mget 0 s.fp.p r.toNat

/-- What a plan instruction does: registers and working table after it, the branch taken; or a fault. -/
inductive FpRes where
  | ok (fp : Fp) (target : Option Nat)
  | fault (cause : Nat)
  deriving DecidableEq, Repr

/-- The running program executes an instruction of `cost` cycles. -/
def fpInstr (op : State → Nat × FpRes) (s : State) : State :=
  if !s.fp.run then s
  else
    let r := op s
    match r.2 with
    | .fault c => planFault c s
    | .ok fp tgt =>
      let s' := { s with fp := { fp with cyc := s.fp.cyc + r.1, pc := tgt.getD (s.fp.pc + 1) } }
      if fpLen s' ≤ s'.fp.pc then planFault 3 s' else s'

def fpSet (fp : Fp) (d : BitVec 4) (w : Word) : Fp := { fp with p := mset 0 fp.p d.toNat w }

/-- Pd = f. -/
def fpReg (cost : Nat) (d : BitVec 4) (f : State → Word) : State → Nat × FpRes := fun s => (cost, .ok (fpSet s.fp d (f s)) none)
def fpAlu (cost : Nat) (d a b : BitVec 4) (f : Word → Word → Word) : State → Nat × FpRes :=
  fpReg cost d fun s => f (preg s a) (preg s b)

def execFpNop (s : State) : Host.Outcome State Fault Refusal := .next (fpInstr (fun s => (1, .ok s.fp none)) s)
def execFpLi (d : BitVec 4) (imm : BitVec 14) (s : State) : Host.Outcome State Fault Refusal :=
  .next (fpInstr (fpReg 1 d fun _ => imm.signExtend 32) s)
def execFpLih (d : BitVec 4) (imm : BitVec 14) (s : State) : Host.Outcome State Fault Refusal :=
  .next (fpInstr (fpReg 1 d fun s => BitVec.ofNat 32 (imm.toNat * 2 ^ 14 + (preg s d).toNat % 2 ^ 14)) s)
def execFpAdd (d a b : BitVec 4) (s : State) : Host.Outcome State Fault Refusal := .next (fpInstr (fpAlu 1 d a b fun x y => x + y) s)
def execFpSub (d a b : BitVec 4) (s : State) : Host.Outcome State Fault Refusal := .next (fpInstr (fpAlu 1 d a b fun x y => x - y) s)
def execFpAddi (d a : BitVec 4) (imm : BitVec 14) (s : State) : Host.Outcome State Fault Refusal :=
  .next (fpInstr (fpReg 1 d fun s => preg s a + imm.signExtend 32) s)
def execFpMul (d a b : BitVec 4) (s : State) : Host.Outcome State Fault Refusal := .next (fpInstr (fpAlu 2 d a b fun x y => x * y) s)

/-- Unsigned division; 0xFFFF_FFFF where the divisor is 0. -/
def divW (x y : Word) : Word := if y = 0 then 0xFFFFFFFF else x / y

def execFpDiv (d a b : BitVec 4) (s : State) : Host.Outcome State Fault Refusal := .next (fpInstr (fpAlu 18 d a b divW) s)
def execFpShr (d a : BitVec 4) (imm : BitVec 14) (s : State) : Host.Outcome State Fault Refusal :=
  .next (fpInstr (fpReg 1 d fun s => preg s a >>> shamt imm) s)
def execFpShl (d a : BitVec 4) (imm : BitVec 14) (s : State) : Host.Outcome State Fault Refusal :=
  .next (fpInstr (fpReg 1 d fun s => preg s a <<< shamt imm) s)
def execFpMin (d a b : BitVec 4) (s : State) : Host.Outcome State Fault Refusal := .next (fpInstr (fpAlu 1 d a b sminW) s)
def execFpMax (d a b : BitVec 4) (s : State) : Host.Outcome State Fault Refusal := .next (fpInstr (fpAlu 1 d a b smaxW) s)
def execFpAnd (d a b : BitVec 4) (s : State) : Host.Outcome State Fault Refusal := .next (fpInstr (fpAlu 1 d a b fun x y => x &&& y) s)
def execFpOr (d a b : BitVec 4) (s : State) : Host.Outcome State Fault Refusal := .next (fpInstr (fpAlu 1 d a b fun x y => x ||| y) s)

/-- A branch to IMM[10:0]: a target at or beyond PROG_LEN is a fault of cause 3. -/
def fpBranch (imm : BitVec 14) (always : Bool) (f : State → Fp × Bool) : State → Nat × FpRes := fun s =>
  let tgt := imm.toNat % 2048
  if fpLen s ≤ tgt then (0, .fault 3)
  else
    let r := f s
    if r.2 then (2, .ok r.1 (some tgt)) else (if always then 2 else 1, .ok r.1 none)

def fpBrOp (imm : BitVec 14) : State → Nat × FpRes := fun s =>
  if 2048 ≤ imm.toNat then (0, .fault 4) else fpBranch imm true (fun s => (s.fp, true)) s
def execFpBr (imm : BitVec 14) (s : State) : Host.Outcome State Fault Refusal := .next (fpInstr (fpBrOp imm) s)

def fpBcOp (a b : BitVec 4) (imm : BitVec 14) : State → Nat × FpRes := fun s =>
  match condHolds (imm.toNat / 2048) (preg s a).toInt (preg s b).toInt with
  | none => (0, .fault 4)
  | some t => fpBranch imm false (fun s => (s.fp, t)) s
def execFpBc (a b : BitVec 4) (imm : BitVec 14) (s : State) : Host.Outcome State Fault Refusal := .next (fpInstr (fpBcOp a b imm) s)

def fpLoopStep (a : BitVec 4) (s : State) : Fp × Bool :=
  if 1 < (preg s a).toInt then (fpSet s.fp a (preg s a - 1), true) else (fpSet s.fp a 0, false)
def fpLoopOp (a : BitVec 4) (imm : BitVec 14) : State → Nat × FpRes := fun s =>
  if 2048 ≤ imm.toNat then (0, .fault 4) else fpBranch imm false (fpLoopStep a) s
def execFpLoop (a : BitVec 4) (imm : BitVec 14) (s : State) : Host.Outcome State Fault Refusal := .next (fpInstr (fpLoopOp a imm) s)

/-- END: the working table becomes the table of the next frame. -/
def planEnd (s : State) : State :=
  if s.fp.run then
    { s with fp := { s.fp with run := false, cyc := s.fp.cyc + 1, cycUsed := s.fp.cyc + 1, nextPlan := some s.fp.work, work := [] } }
  else s
def execFpEnd (s : State) : Host.Outcome State Fault Refusal := .next (planEnd s)

def fpInOp (d : BitVec 4) (imm : BitVec 14) : State → Nat × FpRes := fun s =>
  let k := imm.toNat % 64
  if inListed k then (1, .ok (fpSet s.fp d (mget 0 s.fp.inp k)) none) else (0, .fault 5)
def execFpIn (d : BitVec 4) (imm : BitVec 14) (s : State) : Host.Outcome State Fault Refusal := .next (fpInstr (fpInOp d imm) s)

/-- A floor summary entry (R248). -/
def fsumOf (v : State) (r : Nat) : Nat :=
  let xs := (floorTable v).filter fun x => x.1 / 8192 == r / 64 && sectorOf (stepsPerFrame v) (x.1 % 8192) == r % 64
  put (sat 16 (xs.map fun x => min 8 x.2.1).sum) 16 16 + put (xs.foldl (fun m x => max m x.2.2) 0) 4 2 +
  put (xs.foldl (fun m x => max m (min 8 x.2.1)) 0) 0 4

/-- Pd = entry Pa of a table of 1,024; an index outside it is a fault of cause 2. -/
def fpTable (d a : BitVec 4) (f : State → Nat → Nat) : State → Nat × FpRes := fun s =>
  let i := (preg s a).toNat
  if i < 1024 then (2, .ok (fpSet s.fp d (BitVec.ofNat 32 (f s i))) none) else (0, .fault 2)

def execFpQld (d a : BitVec 4) (s : State) : Host.Outcome State Fault Refusal :=
  .next (fpInstr (fpTable d a fun s i => mget 0 s.fp.qual i) s)
def execFpFld (d a : BitVec 4) (s : State) : Host.Outcome State Fault Refusal := .next (fpInstr (fpTable d a fsumOf) s)

def fpPutOp (a b : BitVec 4) : State → Nat × FpRes := fun s =>
  let i := (preg s a).toNat
  if i < 1024 then (1, .ok { s.fp with work := mset 0 s.fp.work i (planWord (preg s b).toNat) } none) else (0, .fault 2)
def execFpPut (a b : BitVec 4) (s : State) : Host.Outcome State Fault Refusal := .next (fpInstr (fpPutOp a b) s)
def execFpPutall (b : BitVec 4) (s : State) : Host.Outcome State Fault Refusal :=
  .next (fpInstr (fun s => (64, .ok { s.fp with work := mtab 0 1024 fun _ => planWord (preg s b).toNat } none)) s)

def execFpUnlistedOpcode (s : State) : Host.Outcome State Fault Refusal := .next (fpInstr (fun _ => (0, .fault 1)) s)

/-- Word `i` of the loaded program. -/
def fpWord (v : State) (i : Nat) : Nat :=
  if i < 1024 then leAt (cfgB v 0x2700 0x40) (4 * i) 4 else leAt (cfgB v 0x2700 0x41) (4 * (i - 1024)) 4

/-- The word's instruction runs (Table 10.6). -/
def fpRunWord (w : Nat) (s : State) : Host.Outcome State Fault Refusal :=
  let d := BitVec.ofNat 4 (fld w 22 4)
  let a := BitVec.ofNat 4 (fld w 18 4)
  let b := BitVec.ofNat 4 (fld w 14 4)
  let i := BitVec.ofNat 14 (fld w 0 14)
  match fld w 26 6 with
  | 0x00 => execFpNop s
  | 0x01 => execFpLi d i s
  | 0x02 => execFpLih d i s
  | 0x08 => execFpAdd d a b s
  | 0x09 => execFpSub d a b s
  | 0x0A => execFpAddi d a i s
  | 0x0B => execFpMul d a b s
  | 0x0C => execFpDiv d a b s
  | 0x0D => execFpShr d a i s
  | 0x0E => execFpShl d a i s
  | 0x0F => execFpMin d a b s
  | 0x10 => execFpMax d a b s
  | 0x11 => execFpAnd d a b s
  | 0x12 => execFpOr d a b s
  | 0x18 => execFpBr i s
  | 0x19 => execFpBc a b i s
  | 0x1B => execFpLoop a i s
  | 0x1F => execFpEnd s
  | 0x20 => execFpIn d i s
  | 0x21 => execFpQld d a s
  | 0x22 => execFpFld d a s
  | 0x23 => execFpPut a b s
  | 0x24 => execFpPutall b s
  | _ => execFpUnlistedOpcode s

/-- The running program executes the word at its PC. -/
def fpRunNext (s : State) : Host.Outcome State Fault Refusal := fpRunWord (fpWord s s.fp.pc) s

/-! ### At a set that takes effect -/

/-- FP_FLOOR and UNREACH as the set in effect gives them (R236, R237). -/
def plannerDerive (s : State) : State :=
  { s with fp := { s.fp with unreach := unreachOf s }, sup := { s.sup with floorUj := min 0xFFFFFF (floorOf s) } }

/-- ENABLE and TYPE of a zone, the settings of an emitter and of its store, and the frame rate, by which the steps lie in the columns (the
last two DEDUCED, assumption 120). -/
def deriveKey (k : Nat) : Bool :=
  let i := keyIx k
  let sub := keySub k
  (decide (0x3000 ≤ i) && decide (i < 0x3400) && (sub == 1 || sub == 2)) || (decide (0x2000 ≤ i) && decide (i < 0x2010) && decide (sub ≤ 5)) ||
  (i == 0x1800 && decide (0x20 ≤ sub) && decide (sub < 0x24)) || k == okey 0x2000 0x20

/-- A set that changes the zone map, one of those objects, or the accord (R235). -/
def derives (old s : State) : Bool :=
  old.cf.map != s.cf.map || (accordNow old).codes != (accordNow s).codes ||
  (s.cf.eff ++ old.cf.eff).any fun e => deriveKey e.1 && valIn old.cf.eff e.1 != valIn s.cf.eff e.1

/-- A set that takes effect (R235 to R237). -/
def plannerCommitted (old s : State) : State :=
  if derives old s then let s := plannerDerive s; raiseIf (decide (0 < s.fp.unreach)) evFpUnreach s else s

/-- The planner at a data-plane start: the table in effect and every pending build are void. -/
def plannerStart (s : State) : State :=
  { s with
    fp := { s.fp with plan := defTable s, work := [], nextPlan := none, run := false, pend := none, keep := [], acc := [],
                      sUnits := 0, sFloor := 0, grantU := 0, lowU := none, qual := [], qualAcc := [] }
    ex := { s.ex with next := [], nextReady := false, taken := [], takenOk := false, missed := false, todo := [], bursts := [], list := [] } }

end Sys2Proof.Machine
end

