-- ==== Sys2Proof/Machine/DataPlane.lean ====
section
/-! DEFINITION. Machine/DataPlane.lean: starts and stops of the data plane, the fast clocks, azimuth steps and the mirror encoder
(R81, R84, R85, R100, R108, R126 to R128, R168, R193). -/

namespace Sys2Proof.Machine

/-! ### Fast clocks (R79, R81) -/

/-- HFX is wanted: the data plane is powered or starting, or the Zeley link is enabled; never in STANDBY. -/
def hfxWanted (s : State) : Bool := s.pw.st != 2 && (dpOn s || cfgF s 0x1300 2)

/-- HFX follows the want: a start request, or a stop. -/
def hfxFollow (s : State) : State :=
  if hfxWanted s then
    if s.pw.hfxOk || s.pw.hfxReq.isSome then s else { s with pw := { s.pw with hfxReq := some s.sys.now } }
  else { s with pw := { s.pw with hfxOk := false, hfxReq := none } }

/-- HFX_STABLE: HFX has been requested and is stable. -/
def hfxStable (s : State) : State :=
  if s.pw.hfxReq.isSome then { s with pw := { s.pw with hfxOk := true, hfxReq := none } } else s

def execHfxStable (t : Nat) (s : State) : Host.Outcome State Fault Refusal := .next (hfxStable (advance t s))

/-- PLLS runs while a lane has its bit set in LANE_EN (Table 3.1). -/
def plsWanted (s : State) : Bool := dpOn s && cfgN s 0x2800 2 != 0

/-- PLL_LOCKED: the PLLs whose consumers run lock. -/
def pllLock (s : State) : State :=
  if s.pw.hfxOk && dpOn s then { s with pw := { s.pw with pllC := true, pllT := true, pllS := plsWanted s } } else s

def execPllLocked (t : Nat) (s : State) : Host.Outcome State Fault Refusal := .next (pllLock (advance t s))

/-! ### Starts -/

/-- The fast start begins (Table 3.6). -/
def dpStart (s : State) : State :=
  match s.pw.dp with
  | .off => hfxFollow { s with pw := { s.pw with dp := .starting } }
  | _ => s

/-- The data plane is ready: the histogram store is cleared, the programs, the map and the settings of the configuration in effect
are loaded, and the mirror check begins. Posted results stay (R108); every zone is refilled before the next debounce (R260). -/
def dpReady (s : State) : State :=
  match s.pw.dp with
  | .starting =>
    if s.pw.hfxOk && s.pw.pllC && s.pw.pllT then
      let ex := s.ex
      let s := { s with
        pw := { s.pw with dp := .ready, readyAt := s.sys.now, firstScan := true, mirrorRaised := false, scanned := false }
        mir := { s.mir with lastMix := none, good := 0, locked := false, lastMenc := none, mencInt := 0, count := 0 }
        ex := { ({} : Ex) with phase := ex.phase, hop := ex.hop, j := ex.j, stepAt := s.sys.now, stepTdc := 64 * s.sys.now }
        hg := { ({} : Hg) with snap := s.hg.snap }
        ze := { s.ze with q := [], qp := [], zn := [], cnt := {}, expanding := false, latchDue := false, latchOk := false,
                          refillAll := true, unmapped := unmappedZones s } }
      plannerStart (rxStart (neStopAll s))
    else s
  | _ => s

def execDataPlaneReady (t : Nat) (s : State) : Host.Outcome State Fault Refusal := .next (dpReady (advance t s))

/-! ### Frames that are abandoned and stops -/

/-- The step in progress and the lists built for later steps are void. -/
def stepVoid (s : State) : State :=
  { s with
    ex := { s.ex with open_ := false, step := 0, list := [], todo := [], bursts := [], listPrev := [], burstsPrev := []
                      next := [], nextReady := false, missed := false, taken := [], takenOk := false }
    fp := { s.fp with pend := none, run := false, work := [], nextPlan := none }
    hg := { s.hg with queue := [], held := [], incs := [] } }

/-- The engines stop frame `f` at once and deliver nothing further for it (R193); an engine that still owes the frame before it goes
on. -/
def neStopFrame (f : BitVec 32) (s : State) : State :=
  let owed := fun q => ((neGet s q).run && (neGet s q).frame != f) || (bget s.hg.relDue q && s.hg.relFrame != f)
  let s := (List.range 4).foldl (fun s q =>
    if owed q then s
    else neUpd q (fun x => { neCleared x with run := false, lanes := [], stack := [], mask := 0 }) s) s
  { s with
    hg := { s.hg with relDue := if s.hg.relFrame = f then 0 else s.hg.relDue }
    fp := { s.fp with qualAcc := [] } }

/-- The evaluator drops what it holds of frame `f`, and refills every zone (R260). -/
def zeAbandon (f : BitVec 32) (s : State) : State :=
  let ze := s.ze
  { s with ze := { ze with
      q := ze.q.filter fun x => x.frame != f
      qp := ze.qp.filter fun x => x.frame != f
      zn := if ze.latchDue then ze.zn else []
      cnt := if ze.latchDue then ze.cnt else {}
      refillAll := true } }

/-- The frame in flight is abandoned. -/
def abandonFrame (s : State) : State :=
  if s.pw.scanned then
    let f := s.pw.frameNo
    stepVoid (zeAbandon f (neStopFrame f (psAbandon (snapAbandon false { s with pw := { s.pw with abandoned := true } }))))
  else stepVoid s

/-- The data plane stops: the frame in flight is abandoned, no mailbox is posted, and the PLLs and, where nothing else needs it, HFX
stop. Posted results and the latches of R108 stay. -/
def dpStop (s : State) : State :=
  match s.pw.dp with
  | .off => s
  | _ =>
    let s := biasStop (stepVoid (psStop (snapAbandon true (neStopAll s))))
    hfxFollow { s with
      pw := { s.pw with dp := .off, pllC := false, pllT := false, pllS := false
                        abandoned := s.pw.abandoned || s.pw.scanned, scanned := false }
      mir := { s.mir with lastMix := none, good := 0, locked := false, lastMenc := none, mencInt := 0, count := 0 }
      gov := { s.gov with fcs := [], level := 0 }
      hg := { ({} : Hg) with snap := s.hg.snap }
      ex := { s.ex with cnt := [], shotCol := [], shotPrev := [], qFired := [], qFiredPrev := [] }
      ze := { s.ze with q := [], qp := [], zn := [], cnt := {}, expanding := false, latchDue := false, latchOk := false }
      fp := { s.fp with memberFix := false, step0 := false, progFault := false, planLate := false, cause := 0, faultPc := 0
                        cycUsed := 0, shortfall := false, listed := 0, shed := [], ceil := 0, listLate := 0 } }

/-- A change that removes the data plane: it stays powered until the mailbox of the last scanned frame is posted (R85). -/
def dpRemove (s : State) : State :=
  if s.ze.latchDue || s.ze.latchOk then
    { stepVoid s with pw := { s.pw with dp := .stopped, scanned := false }, mir := { s.mir with locked := false, good := 0 } }
  else dpStop s

/-! ### The mirror's angle (R126, R127) -/

/-- Quadrature edges per revolution. -/
def mencCpr (s : State) : Nat := cfgN s 0x2000 0x21

/-- ANG_OFS. -/
def angOfs (s : State) : Nat := cfgN s 0x2000 0x22

/-- The angle still to turn, at the last edge of the encoder, until step `k` of the frame in progress: units of an edge ÷ (65,536 × N). -/
def angleNeed (s : State) (k : Nat) : Int :=
  let n := stepsPerFrame s
  (((angOfs s * n + 65536 * k) * mencCpr s : Nat) : Int) - ((65536 * n * (s.mir.turn * mencCpr s + s.mir.count) : Nat) : Int)

/-- The later of the last two edges of MENC and MIX, from which the angle is extrapolated. -/
def angleBase (s : State) : Nat := max (s.mir.lastMenc.getD 0) (s.mir.lastMix.getD 0)

/-- The start of step `k` by extrapolation from the interval of the last two MENC edges, on the PLLT grid of 15.625 ps. -/
def angleTdc (s : State) (k : Nat) : Nat :=
  64 * angleBase s + ceilDiv ((angleNeed s k).toNat * 64 * s.mir.mencInt) (65536 * stepsPerFrame s)

/-- The interpolated angle has reached step `k`; step N is the end of the frame. -/
def angleDue (s : State) (k : Nat) : Bool :=
  decide (angleNeed s k ≤ 0) || (s.mir.mencInt != 0 && decide (angleTdc s k ≤ 64 * s.sys.now))

/-! ### Azimuth steps (R126, R152, R162, R168, R190) -/

/-- Every receive channel at the start of a step: the base note from this step on, the steps counted towards the next update,
the health in effect, and the dead time carried over a step of `len` TDC units. -/
def rxStep (len : Nat) (s : State) : State :=
  (List.range (48 * quadrants s.sys.variant)).foldl (fun s ch =>
    healthStep ch (rxUpd ch (fun x => { x with
      base := x.baseNext, deadUntil := max (-len) (x.deadUntil - len) }) s)) s

/-- A step ends: it counts towards the next update of every base note (R151). -/
def rxStepped (s : State) : State :=
  (List.range (48 * quadrants s.sys.variant)).foldl (fun s ch => rxUpd ch (fun x => { x with steps := x.steps + 1 }) s) s

/-- The step in progress ends: its contexts are complete and its buffer waits for its release. -/
def stepEnd (s : State) : State :=
  if s.ex.open_ then let s := rxStepped (hgEnd s); { s with ex := { s.ex with open_ := false } } else s

/-- A step that starts at `tdc` on the PLLT grid is counted towards the injections of R158, from the data plane's start. -/
def stepCount (tdc : Nat) (s : State) : State :=
  rxStep (tdc - s.ex.stepTdc) { s with ex := { s.ex with
    stepAt := s.sys.now, stepTdc := tdc, stepsRun := s.ex.stepsRun + 1, prevLen := tdc - s.ex.stepTdc } }

/-- Step `k` of a scanned frame begins with the list taken for it; an engine that is still at work on an older step is cut. -/
def stepBegin (k : Nat) (s : State) : State :=
  let s := (List.range 4).foldl (fun s q => if (neGet s q).run then neCut q s else s) s
  let s := if k = 0 then s else chargeStep s
  let ex := s.ex
  let list := if ex.takenOk then ex.taken else []
  let s := stepCount (angleTdc s k) { s with ex := { ex with
    step := k, open_ := true, begun := k + 1, list := list, todo := list, bursts := [], taken := [], takenOk := false, missed := false
    listPrev := ex.list, burstsPrev := ex.bursts
    phase := ex.nextPhase, hop := ex.nextHop, j := ex.nextJ } }
  snapStep (hgBegin s)

/-- The point period of 1/45,000 s in whole ns (R30). -/
def nominalStepNs : Nat := 22222

/-- AZIMUTH_STEP_START: the interpolated angle has reached the next step of a scanned frame, or a nominal step is due while the mirror check runs (R158). Between the scanned
frames of WATCH the data plane is clock-gated; a pin-controlling boundary scan has stopped the sequencer (R113). -/
def azimuthStepStart (s : State) : State :=
  match s.pw.dp with
  | .scanning =>
    if !s.pw.scanned || pinScan s then s
    else
      let k := if s.ex.open_ then s.ex.step + 1 else s.ex.step
      if k < stepsPerFrame s && angleDue s k then stepBegin k (stepEnd s) else s
  | .ready => if s.ex.stepAt + nominalStepNs ≤ s.sys.now then stepCount (64 * s.sys.now) (rxStepped s) else s
  | _ => s

def execAzimuthStepStart (t : Nat) (s : State) : Host.Outcome State Fault Refusal := .next (azimuthStepStart (advance t s))

/-- The last step of a frame has been released to every quadrant: FOREIGN of the frame is complete (R228). -/
def frameReleased (s : State) : State :=
  if s.hg.relDue = 0 ∧ s.hg.relFrame ≠ s.pw.frameNo then interfereCheck s else s

/-- BUFFER_RELEASE: 150 ns after a step begins, quadrant `q` gets the buffer of the step before, and its engine starts. -/
def bufferRelease (q : Nat) (s : State) : State :=
  if bget s.hg.relDue q && qPresent s q && decide (s.hg.relAt ≤ s.sys.now) then
    neStart q (snapRelease q (frameReleased { s with hg := { s.hg with relDue := bset s.hg.relDue q false } }))
  else s

def execBufferRelease (t : Nat) (q : Fin 4) (s : State) : Host.Outcome State Fault Refusal := .next (bufferRelease q (advance t s))

end Sys2Proof.Machine
end

