-- ==== Sys2Proof/Machine/Supply.lean ====
section
/-! DEFINITION. Machine/Supply.lean: supply states, energy meter, grant, hold-up charger, SAVE and mains watch (chapter 2). -/

namespace Sys2Proof.Machine

/-! ### The meter (R60 to R62, R76) -/

/-- C of R60, µF. -/
def holdCap (s : State) : Nat := let d := cfgN s 0x1200 5; if s.sup.cmeas = 0 then d else min d s.sup.cmeas

/-- E_avail in whole µJ for VHOLD in mV (assumption 31). -/
def eAvail (c vhold : Nat) : Nat := if vhold ≤ 8000 then 0 else c * (vhold * vhold - 64000000) / 2000000

def freeboard (s : State) : Nat := cfgN s 0x1200 4

/-- VLD against its limits, and the event when it leaves them (R59). -/
def vldJudge (mv : Nat) (s : State) : State :=
  let bad := decide (mv < cfgN s 0x1200 0xC) || decide (cfgN s 0x1200 0xD < mv)
  let was := s.sup.vldBad
  raiseIf (bad && !was) evVld { s with sup := { s.sup with vld := mv, vldBad := bad } }

/-- SHUNT in µΩ, and the gain of the current path in ppm with IIN_TRIM (Table 2.11). -/
def shuntR (s : State) : Nat := cfgN s 0x1200 0xB
def iinGain (s : State) : Nat := (1000000 + cfgI s 0x1200 0x40).toNat

/-- IIN in mA for a shunt voltage in µV. -/
def iinOf (s : State) (uv : Nat) : Nat := uv * iinGain s / (1000 * shuntR s)

/-- Energy integrated in whole µJ, and what remains of the product; the parts below 1 µJ are carried (assumption 139). -/
def energyOf (s : State) (prod : Nat) : Nat × Nat :=
  let x := s.sup.eRem + prod * iinGain s
  (x / (1000000 * shuntR s), x % (1000000 * shuntR s))

/-- Energy as the meter reads it: below 6 V up to 2 % high (KL-09), by a free value. -/
def meterRead (vin e : Nat) (s : State) : Nat × State :=
  if vin < 6000 then (e + freeNow s % (e / 50 + 1), drawn s) else (e, s)

/-! ### The hold-up charger (R61, R63) -/

/-- The charger has run up to now at the current set: the charge of the measuring span and the charger's energy, with VHOLD at
`mv` (R61, R63; DEDUCED, assumption 101). -/
def chargeInteg (mv : Nat) (s : State) : State :=
  let p := s.sup
  let q := if p.chgOn then p.chgI * (s.sys.now - p.chgAt) else 0
  { s with sup := { p with chgAt := s.sys.now, eChg := p.eChg + mv * q, spanQ := p.spanQ + q } }

/-- The charger stops, and a charging run that has not completed its span gives no result (R61). -/
def chargeOff (full : Bool) (p : Sup) : Sup := { p with chgOn := false, chgFull := full, runV := none, spanV := none, spanQ := 0 }

/-- A charging run starts at `now`; VHOLD is known from its first reading on. -/
def chargeOn (now : Nat) (p : Sup) : Sup :=
  { p with chgOn := true, chgFull := false, chgAt := now, runV := none, spanV := none, spanQ := 0 }

/-- A reading of VHOLD during a charging run: its start, and the start of its span, which is the start of a run from above 10 V and
otherwise the first reading from 10 V on (R61; DEDUCED, assumption 101). -/
def chargeSpan (mv : Nat) (p : Sup) : Sup :=
  if !p.chgOn || p.cmeas != 0 then p
  else
    let p := { p with runV := some (p.runV.getD mv) }
    if p.spanV.isNone && decide (10000 ≤ mv) then { p with spanV := some mv, spanQ := 0 } else p

/-- VHOLD at which the span of a run ends (R61). -/
def spanEnd (start from_ : Nat) : Nat := if start ≤ 10000 then 20000 else from_ + 1000

/-- EM_FIG to EM_EFRAME are posted (R76). -/
def postFig (s : State) : State :=
  let p := s.sup
  post 0x010100 (bitIf p.vldBad 4 + bitIf p.holdReady 3 + bitIf p.holdLow 2 + p.vstate)
    [(0x010104, sat 24 p.avail), (0x010108, sat 24 (freeboard s)), (0x01010C, sat 24 p.free), (0x010110, put (sat 16 p.iin) 16 16 + sat 16 p.vin),
     (0x010114, put (sat 16 p.cmeas) 16 16 + sat 16 p.vhold), (0x010118, put (sat 16 p.vossd) 16 16 + sat 16 p.vld),
     (0x01011C, sat 24 p.eVinLast)] s

/-! ### SAVE (R70 to R75) -/

/-- The section counts are written, both copies; a write in progress completes first, and passages detected before t0 are counted. -/
def saveCounts (s : State) : State :=
  let w := fun s => copyBWritten (copyAWritten s)
  let s := w (startWrite (w s))
  let c : CntCopy := ⟨max s.ax.cntA.num s.ax.cntB.num + 1, secCounts s⟩
  { s with ax := { s.ax with cntA := c, cntB := c, wstate := 0 } }

/-- Writes received and not yet staged are staged without acknowledgement. -/
def stageUnacked (s : State) : State :=
  let v := s.sys.variant
  { s with cf := { s.cf with
      staged := s.cf.unacked.foldl (fun m e => stageKeys (storeKeys v e.2.index e.2.sub) e.2.data m) s.cf.staged
      unacked := [] } }

/-- What both copies hold after a commit's writes. The commit count stays at its largest value (R21). -/
def copyAfter (p : Pend) (s : State) : Copy :=
  { count := satAdd 32 s.cf.count 1
    objs := afterCommit s.cf.eff p.set
    map := mapAfter p.map s
    safety := s.cf.safety || p.safety
    epochs := epochsAfter s (committedView p s)
    assign := s.ac.assign }

/-- The time that the entry and copy A take: 0.2 ms and one half of the copies' part of W (R333; DEDUCED, assumption 108). -/
def copyATime (p : Pend) (s : State) : Nat := (copyTime p.set p.map s + 200000) / 2

/-- Power is lost at `at_`: of a commit whose copies are being written, copy A holds the new set if its write is complete (R102). -/
def copyCut (at_ : Nat) (s : State) : State :=
  match s.cf.pend with
  | none => s
  | some p => match p.writeAt with
    | none => s
    | some w =>
      if !p.written && decide (w + copyATime p s ≤ at_) then { s with cf := { s.cf with copyA := copyAfter p s } } else s

/-- What SAVE has written to MRAM `dt` ns after t0 (Table 2.7): counts by 0.6 ms, energy totals by 2.0 ms, staging by 3.6 ms. -/
def saveWrites (dt : Nat) (s : State) : State :=
  let s := if 600000 ≤ dt then saveCounts s else s
  let s := if 2000000 ≤ dt then
      { s with sup := { s.sup with eTotalMram := s.sup.eTotal }
               sess := { s.sess with lockMram := s.sess.lockLeft - (s.sys.now - s.sess.lockAt) } }
    else s
  if 3600000 ≤ dt then stageUnacked s else s

/-- Where SAVE has begun, what it has written by now. -/
def saveWritten (s : State) : State := match s.sup.t0 with | some t0 => saveWrites (s.sys.now - t0) s | none => s

/-- t0: E_avail has reached FREEBOARD. The grant is 0, sessions end, the data plane stops, and every switch opens (Table 2.7, R330);
counting and excitation stop 50 µs later, by `saveStopped` (R359, R379). -/
def saveStart (s : State) : State :=
  let s := endSession { s with sup := { chargeOff false s.sup with
    vstate := 2, holdReady := false, t0 := some s.sys.now, grant := 0, whyMissing := false, whyMains := false, whyRate := false } }
  let s := regPut 0x010200 0 (dpStop s)
  lmOff (openBoth s)

/-- EM_REFRESH: the figures, HOLD_READY, and the start of SAVE. -/
def emRefresh (m : Meter) (s : State) : State :=
  if !s.sys.mgmtUp then s
  else
    let was := s.sup.holdReady
    let x := energyOf s m.prod
    let r := meterRead m.vin x.1 s
    let iin := iinOf s m.shunt
    let e := r.1
    let s := vldJudge m.vld r.2
    let av := eAvail (holdCap s) m.vhold
    let fb := freeboard s
    let s := chargeInteg m.vhold s
    let s := m.vst.zipIdx.foldl (fun s x => if qPresent s x.2 then storeRead x.2 x.1 s else s) s
    let p := chargeSpan m.vhold s.sup
    let ossdOk := decide (18000 ≤ m.vossd) && decide (m.vossd ≤ 31000)
    let s := { s with sup := { p with
      vin := m.vin, iin := iin, eRem := x.2, vhold := m.vhold, vossd := m.vossd, avail := av, free := av - fb
      uvlo := p.uvlo && decide (m.vin ≤ 4300)
      vossdOkSince := holdSince ossdOk p.vossdOkSince s.sys.now
      eFrame := p.eFrame + e, eTotal := p.eTotal + e, eInt := satAdd 32 p.eInt e
      holdReady := was || (decide (fb ≤ av) && p.vstate != 2) } }
    let s := if was && decide (av ≤ fb) && s.sup.vstate != 2 then saveStart s else s
    postFig s

def execEmRefresh (t : Nat) (m : Meter) (s : State) : Host.Outcome State Fault Refusal := .next (emRefresh m (advance t s))

/-- What MRAM keeps through OFF, and the level of the blank pin; everything else is as at the start of a power-up. -/
def powerOff (s : State) : State :=
  { ({} : State) with
    pending := s.pending
    sys := { ({} : Sys) with
      variant := s.sys.variant, now := s.sys.now, bootAt := s.sys.bootAt, powered := false, saveRecord := s.sys.saveRecord
      everOff := true, unsaved := s.sys.unsaved, saves := s.sys.saves, freeCtr := s.sys.freeCtr, pinReset := s.sys.pinReset }
    sup := { ({} : Sup) with vinPath := false, eTotal := s.sup.eTotalMram, eTotalMram := s.sup.eTotalMram, uvlo := s.sup.uvlo }
    gov := { ({} : Gov) with copyA := s.gov.copyA, copyB := s.gov.copyB }
    tf := { ({} : Tfu) with pin := s.tf.pin, pinRel := s.tf.pinRel }
    ax := { ({} : Ax) with cntA := s.ax.cntA, cntB := s.ax.cntB }
    cf := { ({} : Cf) with copyA := s.cf.copyA, copyB := s.cf.copyB, staged := s.cf.staged, safety := s.cf.safety }
    sess := { ({} : Sess) with
      slots := s.sess.slots, fails := s.sess.fails, lockMram := s.sess.lockMram, lockLeft := s.sess.lockMram, log := s.sess.log
      clears := s.sess.clears } }

/-- SAVE_COMPLETE: the save-complete record is written, the converters stop, the device is OFF. -/
def saveComplete (s : State) : State :=
  if s.sup.vstate = 2 then
    let s := saveWrites 4000000 (copyCut (s.sup.t0.getD s.sys.now) s)
    powerOff { s with sys := { s.sys with saves := satAdd 32 s.sys.saves 1, saveRecord := true } }
  else s

def execSaveComplete (t : Nat) (s : State) : Host.Outcome State Fault Refusal := .next (saveComplete (advance t s))

/-- VBUS_LOSS: the converters stop, the device is OFF, and without a completed SAVE the loss is unsaved (R57). -/
def vbusLoss (s : State) : State :=
  if !s.sys.powered then s
  else
    let s := saveWritten (copyCut (s.sup.t0.getD s.sys.now) s)
    powerOff { s with sys := { s.sys with saveRecord := false } }

def execVbusLoss (t : Nat) (s : State) : Host.Outcome State Fault Refusal := .next (vbusLoss (advance t s))

/-! ### RIDE (R55, Table 2.6) -/

/-- VIN_RIDE, mV. -/
def vinRide (s : State) : Nat := cfgN s 0x1200 8

/-- RIDE begins. During a management-plane reset nothing switches (DEDUCED, assumption 102). -/
def rideBegin (s : State) : State :=
  if s.sys.mgmtUp && s.sup.vstate == 0 then
    let s := chargeInteg s.sup.vhold s
    raise evRide { s with sup := { chargeOff false s.sup with
      vstate := 1, vinPath := false, holdPath := true, rides := satAdd 16 s.sup.rides 1 } }
  else s

/-- RIDE_ENTER: VIN is below VIN_RIDE, or the lockout is engaged. -/
def rideEnter (vin : Nat) (s : State) : State := if vin < vinRide s ∨ s.sup.uvlo = true then rideBegin s else s

def execRideEnter (vin : Reading) (s : State) : Host.Outcome State Fault Refusal := .next (rideEnter vin.mv (advance vin.t s))

/-- RIDE_EXIT: VIN has stayed at VIN_RIDE + 0.5 V or above for 1 ms. The VIN path is on, and the charger resumes at once below 34 V
(R63). -/
def rideExit (vin held : Nat) (s : State) : State :=
  if s.sup.vstate = 1 ∧ vinRide s + 500 ≤ vin ∧ msNs ≤ held then
    let p := { s.sup with vstate := 0, vinPath := true, holdPath := false, uvlo := false }
    { s with sup := if p.vhold < 34000 then chargeOn s.sys.now p else chargeOff true p }
  else s

def execRideExit (vin : HeldReading) (s : State) : Host.Outcome State Fault Refusal :=
  .next (rideExit vin.mv vin.heldNs (advance vin.t s))

/-- UVLO_ENGAGE: no power from VIN, every OSSD switch open (R54, R464); RIDE begins. -/
def uvloEngage (s : State) : State :=
  let s := rideBegin (openBoth { s with sup := { s.sup with uvlo := true, vinPath := false } })
  { s with sup := { s.sup with vinPath := false } }

def execUvloEngage (t : Nat) (s : State) : Host.Outcome State Fault Refusal := .next (uvloEngage (advance t s))

/-! ### VOSSD, VLD, CMEAS, the charger (R58, R59, R61, R63) -/

/-- VOSSD_FAULT: both channels latch SUPPLY. -/
def vossdFault (s : State) : State :=
  if s.sys.ctrlUp then
    bothC (fun c s => latchFault c fltSupply s) { s with sup := { s.sup with vossdOkSince := none } }
  else s

def execVossdFault (t : Nat) (s : State) : Host.Outcome State Fault Refusal := .next (vossdFault (advance t s))

def vldChange (mv : Nat) (s : State) : State := if s.sys.mgmtUp then vldJudge mv s else s

def execVldRangeChange (t : Nat) (vldMv : Nat) (s : State) : Host.Outcome State Fault Refusal :=
  .next (vldChange vldMv (advance t s))

/-- The capacitance from the charge of the span, pC, and its voltage rise, mV: µF. -/
def spanCap (q rise : Nat) : Nat := q / (1000 * rise)

/-- CMEAS_DONE: VHOLD has passed the end of the span of the charging run, which began at `from_`; the capacitance is measured once after
each power-up. -/
def cmeasDone (from_ mv : Nat) (s : State) : State :=
  let s := chargeInteg mv s
  let p := chargeSpan mv s.sup
  match p.runV, p.spanV with
  | some v0, some v1 =>
    if s.sys.mgmtUp && p.chgOn && p.cmeas == 0 && v1 == from_ && decide (spanEnd v0 v1 ≤ mv) && decide (v1 < mv) then
      let c := max 1 (spanCap p.spanQ (mv - v1))
      let low := decide (c < cfgN s 0x1200 5)
      raiseIf low evHoldLow { s with sup := { p with cmeas := c, holdLow := low } }
    else { s with sup := p }
  | _, _ => { s with sup := p }

def execCmeasDone (t fromMv vholdMv : Nat) (s : State) : Host.Outcome State Fault Refusal :=
  .next (cmeasDone fromMv vholdMv (advance t s))

/-- CHARGER_STOP: VHOLD has reached 34 V. -/
def chargerStop (mv : Nat) (s : State) : State :=
  if s.sup.chgOn = true ∧ 34000 ≤ mv then
    let s := chargeInteg mv s
    { s with sup := chargeOff true s.sup }
  else s

def execChargerStop (vhold : Reading) (s : State) : Host.Outcome State Fault Refusal :=
  .next (chargerStop vhold.mv (advance vhold.t s))

/-- CHARGER_RESUME: VHOLD has fallen below 33 V. -/
def chargerResume (mv : Nat) (s : State) : State :=
  if s.sys.mgmtUp && s.sup.vstate == 0 && s.sup.chgFull && decide (mv < 33000) then
    { s with sup := chargeSpan mv (chargeOn s.sys.now s.sup) }
  else s

def execChargerResume (vhold : Reading) (s : State) : Host.Outcome State Fault Refusal :=
  .next (chargerResume vhold.mv (advance vhold.t s))

/-! ### The grant (R42 to R44, R63 to R65) -/

/-- DIP, INTERRUPTION or recovery. -/
def mainsLow (s : State) : Bool := s.mw.mstate == 2 || s.mw.mstate == 3 || s.mw.recoverAt.isSome

/-- E_RATE, µJ: P_ALLOC × T less E_VIN(n). -/
def eRate (s : State) : Nat := cfgN s 0x1200 7 * framePeriod s / msNs - s.sup.eFrame

/-- Grant, MAINS and RATE by Table 2.3. RATE says that E_RATE is strictly the smallest (DESIGN CHOICE, assumption 103). -/
def grantRow (s : State) : Nat × Bool × Bool :=
  let b := cfgN s 0x1200 6
  let e := eRate s
  let f := s.sup.floorUj
  if s.sup.vstate = 2 ∨ s.sup.vldBad = true then (0, false, false)
  else if s.sup.vstate = 1 then (min b f, mainsLow s, false)
  else if mainsLow s then (min b (min e f), true, decide (e < b) && decide (e < f))
  else (min b e, false, decide (e < b))

/-- The grant for the next frame, issued at a boundary; MISSING where no meter can issue one (R44, R107). -/
def issueGrant (s : State) : State :=
  let p := s.sup
  let g := if s.sys.mgmtUp then grantRow s else (0, false, false)
  let s := { s with sup := { p with
    grant := min 0xFFFFFF g.1, whyPstate := s.pw.st, whyMissing := !s.sys.mgmtUp, whyMains := g.2.1, whyRate := g.2.2
    eVinLast := p.eFrame, eFrame := 0, eChg := 0 } }
  if s.sys.mgmtUp then localEdge 18 (post 0x010200 s.sup.grant [] s) else s

/-- The projection of R63 with current `i` meets FP_FLOOR; in units of fJ × 100. -/
def chargeFits (s : State) (eVin eChg i : Nat) : Bool :=
  let t := framePeriod s
  let have_ : Int := 94000 * (cfgN s 0x1200 7 * t : Nat) - 94000000000 * (eVin : Int) + 100 * (eChg : Int) - 100 * (s.sup.vhold * i * t : Nat)
  decide (94000000000 * (s.sup.floorUj : Int) ≤ have_)

/-- The charge current of the next frame (R63), from the energies of the frame that closes. -/
def chargeSet (eVin eChg : Nat) (s : State) : State :=
  let top := cfgN s 0x1200 0xA
  if s.sup.holdReady && s.sys.mgmtUp then
    let i := (((List.range (top / 20)).map fun k => top - 20 * k).find? fun i => chargeFits s eVin eChg i).getD 20
    { s with sup := { s.sup with chgI := i, throttle := if i < top then satAdd 16 s.sup.throttle 1 else s.sup.throttle } }
  else { s with sup := { s.sup with chgI := top } }

/-- A dip or an interruption lowers the running grant to the smaller of GRANT and FLOOR (R43). -/
def lowerGrant (s : State) : State :=
  let g := min s.sup.grant s.sup.floorUj
  regPut 0x010200 g { s with sup := { s.sup with grant := g, whyMains := true } }

/-! ### Mains watch (R67 to R69) -/

/-- Integer square root, 48 result bits. -/
def isqrt (x : Nat) : Nat := rootFloor 2 48 x

/-- Urms(1/2) in 0.01 % of MW_NOMINAL from the samples of one cycle, in codes of 1 V ÷ 2,048 (assumption 31). -/
def mwRms (s : State) (xs : List Int) : Nat :=
  let sc := cfgN s 0x1200 0x11
  let den := xs.length * (2 ^ 27 * cfgN s 0x1200 0x10) ^ 2
  if den = 0 then 0 else isqrt (100000000 * sc ^ 2 * (xs.map fun x => x.natAbs ^ 2).sum / den)

/-- The state after a refreshed value (Table 2.5). -/
def mwNext (h cur u : Nat) : Nat :=
  let free := if u < 9000 then 2 else if 11000 < u then 4 else 1
  if u < 500 then 3
  else if cur = 3 then (if 500 + h ≤ u then free else 3)
  else if cur = 2 then (if 9000 + h ≤ u then free else 2)
  else if cur = 4 then (if u + h ≤ 11000 then free else 4)
  else free

/-- The nominal period, ns. -/
def mwPeriodNs (s : State) : Nat := secNs / cfgN s 0x1200 0x12

/-- A sample lies beyond 1 % of the nominal peak (R67): |x| × MW_SCALE ÷ 2,048 against MW_NOMINAL × √2 ÷ 100, squared. -/
def mwBeyond (s : State) (x : Int) : Bool :=
  decide (2 * (2 ^ 27 * cfgN s 0x1200 0x10) ^ 2 ≤ (100 * cfgN s 0x1200 0x11 * x.natAbs) ^ 2)

/-- The sign that the last sample of a window gives, where it is a zero crossing: beyond the hysteresis, and not the sign before. -/
def mwCross (s : State) (xs : List Int) : Option Bool :=
  match xs.getLast? with
  | some x => if mwBeyond s x && s.mw.pos != some (decide (0 < x)) then some (decide (0 < x)) else none
  | none => none

/-- A forced refresh is due: 0.75 of a nominal period after the last crossing, then at half-period intervals (R67). -/
def mwForcedDue (s : State) : Bool :=
  match s.mw.forcedAt with
  | none => decide (3 * mwPeriodNs s ≤ 4 * (s.sys.now - s.mw.crossAt))
  | some a => decide (mwPeriodNs s ≤ 2 * (s.sys.now - a))

/-- One refresh: classification, events, the grant, the results. -/
def mwRefresh (xs : List Int) (s : State) : State :=
  if cfgN s 0x1200 0x10 = 0 ∨ s.sys.mgmtUp = false then s
  else
    let u := mwRms s xs
    let m := s.mw
    let n := mwNext (10 * cfgN s 0x1200 0x13) m.mstate u
    let into := fun k => n == k && m.mstate != k
    let low := n == 2 || n == 3
    let wasLow := m.mstate == 2 || m.mstate == 3
    let s := { s with mw := { m with
      mstate := n, rms := u, minRms := min m.minRms u
      dips := satAdd 5 m.dips (into 2).toNat, ints := satAdd 5 m.ints (into 3).toNat, swells := satAdd 6 m.swells (into 4).toNat
      recoverAt := if low then none else if wasLow then some s.sys.now else m.recoverAt } }
    let s := raiseIf (into 4) evSwell (raiseIf (into 3) evInterruption (raiseIf (into 2) evDip s))
    let s := if low && s.sup.vstate != 2 then lowerGrant s else s
    post 0x010300 s.mw.mstate [(0x010304, put (sat 16 s.mw.period) 16 16 + sat 16 u)] s

/-- A crossing is noted: its sign, its instant, and the last full period (R76). -/
def mwNote (pos : Bool) (s : State) : State :=
  let m := s.mw
  let run := m.pos.isSome && m.forcedAt.isNone
  let period := match m.crossPrev with | some a => if run then (s.sys.now - a) / 1000 else m.period | none => m.period
  { s with mw := { m with pos := some pos, crossAt := s.sys.now, forcedAt := none, period := period
                          crossPrev := if run then some m.crossAt else none } }

/-- MW_REFRESH: the window of one cycle, of two half-cycles, ends at a zero crossing. -/
def mwCrossing (xs : List Int) (s : State) : State :=
  match mwCross s xs with | some pos => mwRefresh xs (mwNote pos s) | none => s

def execMwRefresh (t : Nat) (first second : List Int) (s : State) : Host.Outcome State Fault Refusal :=
  .next (mwCrossing (first ++ second) (advance t s))

/-- MW_FORCED_REFRESH. -/
def mwForced (xs : List Int) (s : State) : State :=
  if mwForcedDue s then mwRefresh xs { s with mw := { s.mw with forcedAt := some s.sys.now } } else s

def execMwForcedRefresh (t : Nat) (samples : List Int) (s : State) : Host.Outcome State Fault Refusal :=
  .next (mwForced samples (advance t s))

/-- MW_RECOVERY_END: MAINS is 0 at once (DESIGN CHOICE, assumption 104). -/
def mwRecovered (s : State) : State :=
  match s.mw.recoverAt with
  | some a => if a + cfgN s 0x1200 0x14 * msNs ≤ s.sys.now then
      { s with mw := { s.mw with recoverAt := none }, sup := { s.sup with whyMains := false } } else s
  | none => s

def execMwRecoveryEnd (t : Nat) (s : State) : Host.Outcome State Fault Refusal := .next (mwRecovered (advance t s))

/-! ### Intervals and commits -/

/-- The interval of the meter and the mains watch is latched; every 60th writes the totals (R75, R76). -/
def latchSupply (s : State) : State :=
  let p := s.sup
  let m := s.mw
  let s := post 0x010140 0 [(0x010144, p.eInt), (0x010148, put p.throttle 16 16 + put p.rides 0 16),
    (0x010340, put (sat 16 m.minRms) 16 16 + put m.swells 10 6 + put m.ints 5 5 + put m.dips 0 5)] s
  let n := p.intervals + 1
  { s with
    sup := { s.sup with eInt := 0, rides := 0, throttle := 0, intervals := if n = 60 then 0 else n
                        eTotalMram := if n = 60 then p.eTotal else p.eTotalMram }
    mw := { s.mw with minRms := 65535, swells := 0, ints := 0, dips := 0 } }

/-- A set that takes effect: the VLD limits, and the mains watch switched on or off (Table 2.5). -/
def supplyCommitted (s : State) : State :=
  let s := if s.sys.mgmtUp then vldJudge s.sup.vld s else s
  if cfgN s 0x1200 0x10 = 0 then
    { s with mw := { s.mw with mstate := 0, recoverAt := none, pos := none, crossPrev := none, forcedAt := none }, sup := { s.sup with whyMains := s.sup.whyMains && s.mw.mstate == 0 } }
  else if s.mw.mstate = 0 then { s with mw := { s.mw with mstate := 1, crossAt := s.sys.now } } else s

/-- EM_GRANT_WHY (Table 1.8): PSTATE, MAINS and RATE read their reset values before the first grant since a reset (R14). -/
def grantWhy (s : State) : Nat :=
  let got := (resGet s 0x010200).valid
  put (if got then s.sup.whyPstate else 3) 5 3 + bitIf (s.sup.vstate != 0) 4 + bitIf s.sup.vldBad 3 + bitIf s.sup.whyMissing 2 +
    bitIf (got && s.sup.whyMains) 1 + bitIf (got && s.sup.whyRate) 0

end Sys2Proof.Machine
end

