-- ==== Sys2Proof/Machine/Link.lean ====
section
/-! DEFINITION. Machine/Link.lean: Zeley ports, frames, forwarding, HELLO, system time and link delay (R388 to R403). -/

namespace Sys2Proof.Machine

def zpGet (s : State) (p : Nat) : Zp := if p = 0 then s.zl.p0 else s.zl.p1
def zpPut (p : Nat) (x : Zp) (s : State) : State :=
  if p = 0 then { s with zl := { s.zl with p0 := x } } else { s with zl := { s.zl with p1 := x } }
def zpUpd (p : Nat) (f : Zp → Zp) (s : State) : State := zpPut p (f (zpGet s p)) s

def portUp (s : State) (p : Nat) : Bool := (zpGet s p).st == 2

/-- The link runs: the management plane is up, LINK_CLOCK = 1 and HFX is stable; never in STANDBY (R81, R389). -/
def linkOn (s : State) : Bool := s.sys.mgmtUp && cfgF s 0x1300 2 && s.pw.hfxOk && s.pw.st != 2

/-- IDENT (R5). -/
def ident (s : State) : Nat :=
  0xC1920B00 + match s.sys.variant with | .c192 => 0 | .c192L => 0x1000 | .c096 => 0x2000

def vendor : Nat := 0x504D4D53

/-! ### Ports (R389) -/

def portSyncing (p : Nat) (s : State) : State :=
  if linkOn s && (zpGet s p).st == 0 then raise evZlPort (zpUpd p (fun x => { x with st := 1, commaAt := s.sys.now }) s) else s

def execZlPortSyncing (t : Nat) (p : Fin 2) (s : State) : Host.Outcome State Fault Refusal := .next (portSyncing p (advance t s))

/-- UP once 125 valid code groups of 80 ns have followed the first comma. -/
def portGoesUp (p : Nat) (s : State) : State :=
  if (zpGet s p).st = 1 ∧ (zpGet s p).commaAt + 10000 ≤ s.sys.now then raise evZlPort (zpUpd p (fun x => { x with st := 2 }) s) else s

def execZlPortUp (t : Nat) (p : Fin 2) (s : State) : Host.Outcome State Fault Refusal := .next (portGoesUp p (advance t s))

/-- A port goes DOWN: what it holds is lost. -/
def portDown (p : Nat) (s : State) : State :=
  let x := zpGet s p
  if x.st = 0 then s
  else
    let s := zpPut p { x with st := 0, q := [], busyTo := 0, hdr := false, pdT1 := none, pdAt := none } s
    raise evZlPort { s with zl := { s.zl with downs := satAdd 16 s.zl.downs 1 } }

/-- Four invalid code groups within 64. -/
def codeErrors (p : Nat) (s : State) : State :=
  if (zpGet s p).st = 0 then s else portDown p (zpUpd p (fun x => { x with codeerr := satAdd 16 x.codeerr 4 }) s)

def execZlPortCodeErrors (t : Nat) (p : Fin 2) (s : State) : Host.Outcome State Fault Refusal := .next (codeErrors p (advance t s))

/-- No comma for 20 µs. The timer does not run in a frame, and starts again where a frame without EOF is given up. -/
def commaTimeout (p : Nat) (s : State) : State :=
  if (zpGet s p).hdr || decide (s.sys.now < (zpGet s p).commaAt + 20000) then s else portDown p s

def execZlCommaTimeout (t : Nat) (p : Fin 2) (s : State) : Host.Outcome State Fault Refusal := .next (commaTimeout p (advance t s))

/-- A frame without EOF after 1,536 data code groups. -/
def frameTooLong (p : Nat) (s : State) : State :=
  if portUp s p then zpUpd p (fun x => { x with codeerr := satAdd 16 x.codeerr 1, hdr := false, commaAt := s.sys.now }) s else s

def execZlFrameTooLong (t : Nat) (p : Fin 2) (s : State) : Host.Outcome State Fault Refusal := .next (frameTooLong p (advance t s))

/-! ### Sending (R390, R393, R395) -/

/-- Bytes of a frame in the queue. -/
def frameSize (f : ZlFrame) : Nat := 14 + f.len

/-- Offsets 0x00 to 0x07 of the header (Table 18.1). -/
def zlHead (f : ZlFrame) : List Byte :=
  leBytes 2 (4096 * f.type + 1024 * f.dmode + f.dst) ++ leBytes 2 (32768 * f.unasg.toNat + f.src) ++ leBytes 2 f.len ++
    leBytes 2 f.hops

/-- HCRC of a header, and the CRC-32C over header and body (R390). -/
def zlHcrc (f : ZlFrame) : BitVec 16 := BitVec.ofNat 16 (crc16 (zlHead f))
def zlCrc (f : ZlFrame) : Word :=
  BitVec.ofNat 32 (crc32c (zlHead f ++ leBytes 2 f.hcrc.toNat ++ leBytes 2 f.seq ++ f.body))

def zlHcrcOk (f : ZlFrame) : Bool := f.hcrc == zlHcrc f
def zlCrcOk (f : ZlFrame) : Bool := f.crc == zlCrc f

/-- A frame with its check values. -/
def zlSeal (f : ZlFrame) : ZlFrame :=
  let g := { f with hcrc := zlHcrc f }
  { g with crc := zlCrc g }

/-- `f` sent on as `g`: HCRC is rewritten, and the CRC-32C follows the change, so that one that failed still fails (R391, R392;
DEDUCED, assumption 138). -/
def zlRewrite (f g : ZlFrame) : ZlFrame :=
  let g := zlSeal g
  { g with crc := g.crc ^^^ f.crc ^^^ zlCrc f }

/-- CORR of a forwarded TIME frame, and ORIGIN of the device's own (R400), where its SOF departs at `at_`. -/
def departing (s : State) (x : ZlQ) (at_ : Nat) : ZlFrame :=
  let f := x.f
  if f.type = 1 then
    match x.from_ with
    | some a => zlRewrite f { f with body := f.body.take 8 ++ leBytes 8 (leAt f.body 8 8 + a.2 + 1000 * (at_ - a.1)) }
    | none => zlSeal { f with body := leBytes 8 s.sys.sysTime.toNat ++ leBytes 8 0 }
  else if f.type = 6 ∧ x.from_ = none ∧ leAt f.body 0 1 = 1 then
    zlSeal { f with body := f.body.take 12 ++ leBytes 8 at_ }
  else f

/-- Code groups from SOF to EOF take 80 ns each. -/
def frameNs (f : ZlFrame) : Nat := 80 * (f.len + 16)

/-- Residence of a forwarded frame at an idle port: 1.0 µs, and 40 ns more where it is longer than 1,024 bytes (R395, KL-03). -/
def hopNs (f : ZlFrame) : Nat := if 1024 < frameSize f then 1040 else 1000

/-- The first instant at which the frame may leave. -/
def earliest (x : ZlQ) : Nat := match x.from_ with | some a => a.1 + hopNs x.f | none => 0

/-- The frame from SOF to EOF (R388, R390). -/
def frameGroups (f : ZlFrame) : List Group :=
  [.special .start] ++ (zlHead f ++ leBytes 2 f.hcrc.toNat ++ leBytes 2 f.seq ++ f.body ++ leBytes 4 f.crc.toNat).map (fun b => .data b.toNat) ++
    [.special .terminate]

/-- A frame leaves port `p`, its SOF at `at_`. The departure of a PDELAY request is t1 of its exchange. The idle between frames, /K28.5/
and /D16.2/, leaves the disparity as it is. -/
def transmit (p : Nat) (x : ZlQ) (at_ : Nat) (s : State) : State :=
  let f := departing s x at_
  let w := groupsOf (frameGroups f) (zpGet s p).rd
  let s := zpUpd p (fun y => { y with
    busyTo := at_ + frameNs f
    pdT1 := if f.type = 6 ∧ leAt f.body 0 1 = 0 then some at_ else y.pdT1
    rd := w.2
    wire := w.1 }) s
  { s with zl := { s.zl with out := s.zl.out ++ [(p, f)] } }

/-- The port is sending, or frames wait for it. -/
def portBusy (s : State) (p : Nat) : Bool := decide (s.sys.now < (zpGet s p).busyTo) || !(zpGet s p).q.isEmpty

def qBytes (q : List ZlQ) : Nat := (q.map fun x => frameSize x.f).sum
def isUrgent (x : ZlQ) : Bool := x.f.type == 1 || x.f.type == 2

/-- The queue without its newest frame of another type than TIME and COMMIT. -/
def dropNewest (q : List ZlQ) : Option (List ZlQ) :=
  let r := q.reverse
  match r.findIdx? (fun x => !isUrgent x) with
  | some i => some (r.eraseIdx i).reverse
  | none => none

/-- A frame enters a queue of 16 KiB: the queue, and the frames dropped. -/
def enqueue (fuel : Nat) (q : List ZlQ) (x : ZlQ) : List ZlQ × Nat :=
  if qBytes q + frameSize x.f ≤ 16384 then (q ++ [x], 0)
  else match fuel with
    | 0 => (q, 1)
    | fuel + 1 =>
      if isUrgent x then
        match dropNewest q with
        | some q' => let r := enqueue fuel q' x; (r.1, r.2 + 1)
        | none => (q, 1)
      else (q, 1)

/-- Send on port `p`, at once where it is idle. -/
def portSend (p : Nat) (x : ZlQ) (s : State) : State :=
  if !portUp s p then s
  else if portBusy s p then
    let r := enqueue 1100 (zpGet s p).q x
    let s := zpUpd p (fun y => { y with q := r.1 }) s
    { s with zl := { s.zl with qdrop := satAdd 16 s.zl.qdrop r.2 } }
  else transmit p x (max s.sys.now (earliest x)) s

/-- The next frame: TIME, COMMIT, then all others, in arrival order within each class. -/
def nextFrame (q : List ZlQ) : Option Nat :=
  match q.findIdx? (fun x => x.f.type == 1) with
  | some i => some i
  | none => match q.findIdx? (fun x => x.f.type == 2) with
    | some i => some i
    | none => if q.isEmpty then none else some 0

/-- The port has become free: the next frame leaves. -/
def queuedSend (p : Nat) (s : State) : State :=
  let x := zpGet s p
  if s.sys.now < x.busyTo then s
  else match nextFrame x.q with
    | none => s
    | some i => match x.q[i]? with
      | some f => transmit p f (max s.sys.now (earliest f)) (zpPut p { x with q := x.q.eraseIdx i } s)
      | none => s

def execZlQueuedFrameSend (t : Nat) (p : Fin 2) (s : State) : Host.Outcome State Fault Refusal :=
  .next (queuedSend p (advance t s))

/-- A frame that the device originates, with the next SEQ, on the ports given. -/
def originate (type dmode dst : Nat) (ports : List Nat) (body : List Byte) (s : State) : State :=
  let f := zlSeal ⟨type, dmode, dst, !zlAssigned s, zlAddr s, 0, s.zl.seq, 2 + body.length, body, 0, 0⟩
  let s := { s with zl := { s.zl with seq := (s.zl.seq + 1) % 65536 } }
  ports.foldl (fun s p => portSend p ⟨f, none⟩ s) s

/-- The ports that are UP. -/
def upPorts (s : State) : List Nat := [0, 1].filter (portUp s)

/-! ### The coordinator (R225) -/

/-- The neighbour pairs of ADJ0 to ADJ7. -/
def adjPairs (s : State) : List (Nat × Nat) :=
  (List.range 8).flatMap fun i => let b := cfgB s 0x2600 (0x48 + i)
    (List.range (b.length / 4)).map fun k => (leAt b (4 * k) 2, leAt b (4 * k + 2) 2)

/-- The position of a device on the line: itself at 0, hops through ZA negative, through ZB positive. -/
def linePos (s : State) (d : Nat) : Int :=
  match mlook s.zl.devs d with
  | some v => if d = zlAddr s then 0 else if v.port = 0 then -(v.hops : Int) else v.hops
  | none => 0

/-- Devices present: this one and each address with a HELLO within the last 3 s. -/
def present (s : State) : List Nat :=
  (List.range 1024).filter fun d =>
    d == zlAddr s || match mlook s.zl.devs d with | some v => decide (s.sys.now < v.at_ + 3 * secNs) | none => false

def neighbours (s : State) (adj : List (Nat × Nat)) (a b : Nat) : Bool :=
  a != b && (adj.contains (a, b) || adj.contains (b, a) || decide ((linePos s a - linePos s b).natAbs ≤ cfgN s 0x2600 0x41))

/-- The colours of R225, in ascending address order; none = DEFAULTED. -/
def colourAll (s : State) : SMap (Option Nat) :=
  let adj := adjPairs s
  (present s).foldl (fun m d =>
    let used := m.filterMap fun e => if neighbours s adj d e.1 then e.2 else none
    m ++ [(d, (List.range 176).find? fun c => !used.contains c)]) []

/-- The assignment that a colour means. -/
def colourAssign (s : State) (c gen apply : Nat) : Assign := ⟨groupCodes (c % 11), c / 11, true, zlAddr s, apply, gen⟩

/-- One ASSIGN write: over the link as a dictionary request, or to this device itself by the rule of R222 (R226). -/
def coordSend (d : Nat) (a : Assign) (s : State) : State :=
  if d = zlAddr s then assignTake a s
  else originate 4 0 d (upPorts s)
    (leBytes 1 3 ++ leBytes 1 0x40 ++ leBytes 2 0x2600 ++ leBytes 2 0 ++ leBytes 2 s.zl.seq ++ leBytes 4 24 ++ assignBytes a) s

def applyTime (s : State) : Nat := s.sys.sysTime.toNat + cfgN s 0x2600 0x42 * msNs

/-- The coordinator runs its assignment. -/
def coordRun (s : State) : State :=
  if coordActive s && s.zl.sync then
    let cs := colourAll s
    let diff := cs.filterMap fun e => match e.2 with
      | some c => if mlook s.ac.colours e.1 == some (some c) then none else some (e.1, c)
      | none => none
    let at_ := applyTime s
    let gen := if diff.isEmpty then s.ac.gen else (s.ac.gen + 1) % 2 ^ 32
    let s := { s with ac := { s.ac with colours := cs, gen := gen,
                                        lastRefresh := if s.ac.colours.isEmpty then s.sys.now else s.ac.lastRefresh,
                                        asked := if diff.isEmpty then s.ac.asked else [],
                                        coordApply := if diff.isEmpty then s.ac.coordApply else at_,
                                        changed := s.ac.changed.filter (fun d => !(diff.any fun e => e.1 == d)) ++ diff.map (·.1) } }
    diff.foldl (fun s e => coordSend e.1 (colourAssign s e.2 gen at_) s) s
  else s

def execReassign (t : Nat) (s : State) : Host.Outcome State Fault Refusal :=
  let s := advance t s
  .next (if s.sys.mgmtUp then coordRun s else s)

/-- The device was asked for its GEN and has not shown the new one (R225). -/
def genMissing (s : State) (d : Nat) : Bool := s.ac.changed.contains d && s.ac.asked.any fun e => e.1 == d

/-- The refresh of every assigned device, every 10 s; one that was asked and did not show the new GEN gets a new APPLY. -/
def coordRefreshAll (s : State) : State :=
  if coordActive s && decide (s.ac.lastRefresh + 10 * secNs ≤ s.sys.now) then
    let at_ := applyTime s
    let again := s.ac.changed.any (genMissing s)
    let old := s
    let s := s.ac.colours.foldl (fun s e => match e.2 with
      | some c => coordSend e.1 (colourAssign s c old.ac.gen (if genMissing old e.1 then at_ else old.ac.coordApply)) s
      | none => s) s
    { s with ac := { s.ac with lastRefresh := s.sys.now, coordApply := if again then at_ else s.ac.coordApply
                               asked := if again then [] else s.ac.asked } }
  else s

def execCoordRefresh (t : Nat) (s : State) : Host.Outcome State Fault Refusal := .next (coordRefreshAll (advance t s))

/-- A device has shown the GEN `gen`: one that shows the new GEN needs no further write (R225). -/
def genSeen (d gen : Nat) (s : State) : State :=
  if gen = s.ac.gen then { s with ac := { s.ac with changed := s.ac.changed.filter fun x => x != d } } else s

/-- A READ of GEN (0x2600 subindex 0x10) goes to device `d`; its TID is the frame's SEQ. This device reads its own. -/
def coordAsk (d : Nat) (s : State) : State :=
  if d = zlAddr s then genSeen d (accordNow s).gen { s with ac := { s.ac with asked := (d, 0) :: s.ac.asked } }
  else
    let tid := s.zl.seq
    originate 4 0 d (upPorts s)
      (leBytes 1 1 ++ leBytes 1 0x10 ++ leBytes 2 0x2600 ++ leBytes 2 0 ++ leBytes 2 tid ++ leBytes 4 0)
      { s with ac := { s.ac with asked := (d, tid) :: s.ac.asked } }

/-- COORD_GEN_CHECK: one second after APPLY, GEN is read back from device `d`, if it was changed, once (R225). -/
def coordCheck (d : Nat) (s : State) : State :=
  if coordActive s && decide (s.ac.coordApply + secNs ≤ s.sys.sysTime.toNat) && s.ac.changed.contains d && !genMissing s d then coordAsk d s
  else s

def execCoordGenCheck (t : Nat) (d : Fin 1024) (s : State) : Host.Outcome State Fault Refusal := .next (coordCheck d (advance t s))

/-- An RSP frame (Table 18.5) that answers a READ of GEN. -/
def takeRsp (f : ZlFrame) (s : State) : State :=
  let b := f.body
  if leAt b 0 1 = 1 ∧ leAt b 1 1 = 0x10 ∧ leAt b 2 2 = 0x2600 ∧ leAt b 4 2 = 0 ∧ s.ac.asked.contains (f.src, leAt b 6 2) = true then
    genSeen f.src (leAt b 12 4) s
  else s

/-- COORD_STAT. -/
def coordStat (s : State) : Nat :=
  put (s.ac.colours.filter fun e => e.2.isSome).length 16 16 + put (s.ac.colours.filter fun e => e.2.isNone).length 0 16

/-! ### Receiving (R391 to R396) -/

/-- A TYPE of Table 18.2 with a DMODE that it allows. -/
def typeOk (f : ZlFrame) : Bool :=
  match f.type with
  | 1 | 2 | 3 => f.dmode == 2
  | 4 => f.dmode == 0 || f.dmode == 1
  | 5 => f.dmode == 0
  | 6 => f.dmode == 3
  | _ => false

/-- The frame carries this device's own address as its source (R392). -/
def ownSrc (s : State) (f : ZlFrame) : Bool := zlAssigned s && !f.unasg && f.src == zlAddr s

/-- Table 18.3, column 2. In the conflict state the device treats itself as unassigned for unicast requests (R398). -/
def zlAccepts (s : State) (f : ZlFrame) : Bool :=
  typeOk f && (match f.dmode with
    | 0 => f.dst == zlAddr s && zlAssigned s && !(f.type == 4 && s.zl.inConflict)
    | 1 => f.hops == f.dst
    | _ => true)

/-- Table 18.3, column 3, and the cases of R392. -/
def zlForwards (s : State) (p : Nat) (f : ZlFrame) : Bool :=
  f.dmode != 3 && (f.dmode == 2 || !zlAccepts s f) && portUp s (1 - p) && decide (f.hops < 1023) && !ownSrc s f

/-- A frame is forwarded: its SOF, which arrived at `sof`, leaves one residence later, or when the port becomes free. -/
def forward (p sof : Nat) (f : ZlFrame) (s : State) : State :=
  let long := decide (1024 < frameSize f)
  let s := if long then { s with zl := { s.zl with longfwd := satAdd 16 s.zl.longfwd 1 } } else s
  let x : ZlQ := ⟨zlRewrite f { f with hops := f.hops + 1 }, some (sof, (zpGet s p).delayPs)⟩
  if portBusy s (1 - p) then portSend (1 - p) x s else transmit (1 - p) x (earliest x) s

/-- The header of a frame: forwarding begins (R395). -/
def headerReceive (p : Nat) (f : ZlFrame) (s : State) : State :=
  if !portUp s p then s
  else
    let s := zpUpd p (fun x => { x with hdr := true }) s
    if zlHcrcOk f && zlForwards s p f then forward p (s.sys.now - 880) f s else s

def execZlHeaderReceive (t : Nat) (p : Fin 2) (f : ZlFrame) (s : State) : Host.Outcome State Fault Refusal :=
  .next (headerReceive p f (advance t s))

/-- A copy of a frame accepted within the last 100 ms (R394). -/
def seenBefore (s : State) (f : ZlFrame) : Bool :=
  s.zl.seen.any fun e => e.1 == f.src && e.2.1 == f.unasg && e.2.2.1 == f.seq && decide (s.sys.now < e.2.2.2 + 100 * msNs)

def noteSeen (f : ZlFrame) (s : State) : State :=
  { s with zl := { s.zl with
      seen := (f.src, f.unasg, f.seq, s.sys.now) :: s.zl.seen.filter fun e => decide (s.sys.now < e.2.2.2 + 100 * msNs) } }

/-! ### Time (R399 to R403) -/

/-- SYNC becomes 0; the next TIME frame steps. -/
def syncLost (s : State) : State := { s with zl := { s.zl with sync := false, stepDue := true, goodRun := 0 } }

/-- A TIME frame accepted on port `p`, whose SOF arrived at the system time `own` (R401). -/
def followTime (p : Nat) (f : ZlFrame) (s : State) : State :=
  let own : Int := (s.sys.sysTime.toNat : Int) - frameNs f
  let est : Int := leAt f.body 0 8 + ((leAt f.body 8 8 + (zpGet s p).delayPs) / 1000 : Nat)
  let ofs := own - est
  let good := if ofs.natAbs ≤ 200 then s.zl.goodRun + 1 else 0
  let s := { s with zl := { s.zl with
    ofs := satS 32 ofs, mhops := f.hops + 1, maddr := f.src, goodRun := min 4 good } }
  if s.zl.stepDue || decide (1000 < ofs.natAbs) then
    localEdge 20 (lmStepped { s with
      sys := { s.sys with sysTime := s.sys.sysTime + BitVec.ofInt 64 (-ofs), slewLeft := 0 }
      zl := { s.zl with sync := false, stepDue := false, timesteps := satAdd 16 s.zl.timesteps 1 } })
  else
    let got := !s.zl.sync && decide (4 ≤ good)
    let s := { s with
      sys := { s.sys with slewLeft := -ofs, slewEnd := s.sys.now + secNs }
      zl := { s.zl with sync := s.zl.sync || got } }
    if got then coordRun s else s

/-- A TIME frame: a master that receives one from a lower address stays master no longer. -/
def takeTime (p : Nat) (f : ZlFrame) (s : State) : State :=
  let lower := !zlAssigned s || decide (f.src < zlAddr s)
  let s := { s with zl := { s.zl with lastTime := s.sys.now, lastLower := if lower then s.sys.now else s.zl.lastLower } }
  if s.zl.master && !lower then s
  else
    let s := if s.zl.master then syncLost { s with zl := { s.zl with master := false } } else s
    followTime p f s

/-- A candidate that has received no TIME frame from a lower address for 50 ms becomes master. -/
def masterTimeout (s : State) : State :=
  if s.sys.mgmtUp && cfgN s 0x1400 3 == 1 && zlAssigned s && !s.zl.master && decide (s.zl.lastLower + 50 * msNs ≤ s.sys.now) then
    coordRun { s with zl := { s.zl with master := true, sync := true, mhops := 0, maddr := zlAddr s } }
  else s

def execZlMasterTimeout (t : Nat) (s : State) : Host.Outcome State Fault Refusal := .next (masterTimeout (advance t s))

/-- The period `ns` has passed since the instant `last`. -/
def periodPassed (last : Option Nat) (ns : Nat) (s : State) : Bool :=
  match last with | some a => decide (a + ns ≤ s.sys.now) | none => true

def timeSend (s : State) : State :=
  if s.zl.master && periodPassed s.zl.timeAt (10 * msNs) s then
    originate 1 2 0 (upPorts s) (List.replicate 16 0) { s with zl := { s.zl with timeAt := some s.sys.now } }
  else s

def execZlTimeSend (t : Nat) (s : State) : Host.Outcome State Fault Refusal := .next (timeSend (advance t s))

def syncTimeout (s : State) : State :=
  if s.zl.sync && !s.zl.master && decide (s.zl.lastTime + 100 * msNs ≤ s.sys.now) then syncLost s else s

def execZlSyncTimeout (t : Nat) (s : State) : Host.Outcome State Fault Refusal := .next (syncTimeout (advance t s))

/-- A write to TIME_SET: its abort, and system time (R403). -/
def timeSetRun (v : BitVec 64) (s : State) : Nat × State :=
  if s.zl.master then (0, { s with sys := { s.sys with sysTime := v, slewLeft := 0 } }) else (0x0610, s)

/-! ### Link delay (R400) -/

/-- A PDELAY request, or its response on the port that the exchange runs on. -/
def takePdelay (p : Nat) (f : ZlFrame) (s : State) : State :=
  let sof := s.sys.now - frameNs f
  if leAt f.body 0 1 = 0 then
    originate 6 3 0 [p] (leBytes 1 1 ++ leBytes 1 0 ++ leBytes 2 0 ++ leBytes 8 sof ++ leBytes 8 0) s
  else match (zpGet s p).pdT1 with
    | some t1 =>
      let d : Int := ((sof : Int) - t1 - ((leAt f.body 12 8 : Int) - leAt f.body 4 8)) * 500
      zpUpd p (fun x => { x with pdT1 := none, delayPs := d.toNat }) s
    | none => s

def pdelaySend (p : Nat) (s : State) : State :=
  if portUp s p && periodPassed (zpGet s p).pdAt secNs s then
    originate 6 3 0 [p] (List.replicate 20 0) (zpUpd p (fun x => { x with pdAt := some s.sys.now }) s)
  else s

def execZlPdelaySend (t : Nat) (p : Fin 2) (s : State) : Host.Outcome State Fault Refusal := .next (pdelaySend p (advance t s))

/-! ### HELLO and addresses (R397, R398) -/

/-- The device uses the address as another device does. -/
def helloConflict (s : State) (f : ZlFrame) : Bool := ownSrc s f && leAt f.body 4 4 != s.zl.nonce.toNat

def takeHello (p : Nat) (f : ZlFrame) (s : State) : State :=
  let n := leAt f.body 4 4
  let now := s.sys.now
  let twin := match mlook s.zl.devs f.src with
    | some v => decide (now < v.at_ + 3 * secNs) && (v.conflict || v.nonce != n)
    | none => false
  let d : Dev := ⟨now, f.hops + 1, twin || helloConflict s f, p, n⟩
  if ownSrc s f && !helloConflict s f then s
  else
    let known := (present s).contains f.src
    let s := if f.unasg then s else { s with zl := { s.zl with devs := mput s.zl.devs f.src d } }
    let s := if f.unasg || known then s else coordRun s
    if helloConflict s f then
      raise evZlConflict { s with zl := { s.zl with conflict := true, inConflict := true, lastConflict := now } }
    else s

/-- HELLO every second while a port is UP. -/
def helloSend (s : State) : State :=
  if s.sys.mgmtUp && !(upPorts s).isEmpty && periodPassed s.zl.lastHello secNs s then
    let flags := s.zl.sync.toNat + 2 * s.zl.master.toNat + 4 * (coordActive s).toNat
    let b := leBytes 4 (ident s) ++ leBytes 4 s.zl.nonce.toNat ++ leBytes 1 s.pw.st ++ leBytes 1 flags ++ leBytes 2 0
    let s := originate 3 2 0 (upPorts s) b s
    { s with zl := { s.zl with lastHello := some s.sys.now } }
  else s

def execZlHelloSend (t : Nat) (s : State) : Host.Outcome State Fault Refusal := .next (helloSend (advance t s))

def conflictEnd (s : State) : State :=
  if s.zl.inConflict && decide (s.zl.lastConflict + 3 * secNs ≤ s.sys.now) then { s with zl := { s.zl with inConflict := false } } else s

def execZlConflictEnd (t : Nat) (s : State) : Host.Outcome State Fault Refusal := .next (conflictEnd (advance t s))

/-- W1C of ZL_ID.CONFLICT. -/
def zlIdWrite (w : Nat) (s : State) : State := if bitAt w 17 then { s with zl := { s.zl with conflict := false } } else s

def execZlIdWrite (w : Word) (s : State) : Host.Outcome State Fault Refusal := .next (zlIdWrite w.toNat s)

/-- DEVICES: one U16 for each address. -/
def devicesBytes (s : State) : List Byte :=
  (List.range 1024).flatMap fun a => leBytes 2 (match mlook s.zl.devs a with
    | some v => if s.sys.now < v.at_ + 3 * secNs then bitIf true 15 + bitIf v.conflict 14 + v.hops % 1024 else 0
    | none => 0)

/-! ### A frame received whole (R391 to R394) -/

/-- The checks of a whole frame on port `p`, its forwarding where its header has not begun it, and whether it is accepted. -/
def frameIn (p : Nat) (f : ZlFrame) (s : State) : Bool × State :=
  if !portUp s p then (false, s)
  else
    let done := (zpGet s p).hdr
    let s := zpUpd p (fun x => { x with hdr := false }) s
    if !zlHcrcOk f then (false, zpUpd p (fun x => { x with crcerr := satAdd 16 x.crcerr 1 }) s)
    else
      let acc := zlAccepts s f
      let s := if !done && zlForwards s p f then forward p (s.sys.now - frameNs f) f s else s
      if !zlCrcOk f then (false, zpUpd p (fun x => { x with crcerr := satAdd 16 x.crcerr 1 }) s)
      else
        let s := zpUpd p (fun x => { x with frames := satAdd 32 x.frames 1 }) s
        if !acc then (false, s)
        else if seenBefore s f then (false, { s with zl := { s.zl with dups := satAdd 16 s.zl.dups 1 } })
        else
          let s := noteSeen f s
          if ownSrc s f && f.type != 3 then (false, s) else (true, s)

/-- TIME, HELLO, RSP and PDELAY frames. -/
def takeLinkFrame (p : Nat) (f : ZlFrame) (s : State) : State :=
  match f.type with
  | 1 => takeTime p f s
  | 3 => takeHello p f s
  | 5 => takeRsp f s
  | 6 => takePdelay p f s
  | _ => s

/-- A whole frame of type `k`. -/
def linkFrame (k p : Nat) (f : ZlFrame) (s : State) : State :=
  if f.type = k then let r := frameIn p f s; if r.1 then takeLinkFrame p f r.2 else r.2 else s

def execZlTimeFrame (t : Nat) (p : Fin 2) (f : ZlFrame) (s : State) : Host.Outcome State Fault Refusal :=
  .next (linkFrame 1 p f (advance t s))
def execZlHelloFrame (t : Nat) (p : Fin 2) (f : ZlFrame) (s : State) : Host.Outcome State Fault Refusal :=
  .next (linkFrame 3 p f (advance t s))
def execZlPdelayFrame (t : Nat) (p : Fin 2) (f : ZlFrame) (s : State) : Host.Outcome State Fault Refusal :=
  .next (linkFrame 6 p f (advance t s))

/-! ### Commits, STANDBY, intervals, registers -/

/-- A set that takes effect: LINK_CLOCK = 0 takes both ports DOWN; a device that is no candidate or has no address is not master. -/
def linkCommitted (s : State) : State :=
  let s := if cfgF s 0x1300 2 then s else portDown 1 (portDown 0 s)
  if s.zl.master && (cfgN s 0x1400 3 != 1 || !zlAssigned s) then syncLost { s with zl := { s.zl with master := false } } else s

/-- Both ports go DOWN: STANDBY (R389). -/
def linkDown (s : State) : State := portDown 1 (portDown 0 s)

/-- ZL_STAT to ZL_CNT3 are latched (R413). -/
def latchLink (s : State) : State :=
  let z := s.zl
  let pw := fun (p : Nat) => let x := zpGet s p; [(0x580044 + 8 * p, x.frames), (0x580048 + 8 * p, b2 x.crcerr x.codeerr)]
  let s := post 0x580040 0 (pw 0 ++ pw 1 ++ [(0x580054, b2 z.qdrop z.dups), (0x580058, b2 z.longfwd z.timesteps),
    (0x58005C, b2 z.downs z.aborts)]) s
  let clr := fun (x : Zp) => { x with frames := 0, crcerr := 0, codeerr := 0 }
  { s with zl := { s.zl with p0 := clr s.zl.p0, p1 := clr s.zl.p1, qdrop := 0, dups := 0, longfwd := 0, timesteps := 0, downs := 0, aborts := 0 } }

def zlIdReg (s : State) : Nat := bitIf s.zl.conflict 17 + bitIf (zlAssigned s) 16 + zlAddr s
def zlPortReg (s : State) (p : Nat) : Nat := let x := zpGet s p; put x.st 30 2 + sat 16 (x.delayPs / 1000)
def zlTstat (s : State) : Nat :=
  bitIf s.zl.sync 31 + bitIf s.zl.master 30 + put s.zl.mhops 20 10 + put s.zl.maddr 10 10

/-! ### Dictionary responses (R405, R409) -/

/-- The bytes of a response (Table 18.5). -/
def rspBytes (r : DictRsp) : List Byte :=
  leBytes 1 r.op ++ leBytes 1 r.sub ++ leBytes 2 r.index ++ leBytes 2 r.abort ++ leBytes 2 r.tid ++ leBytes 4 r.val ++ r.data

/-- A response leaves on a path: over the link as an RSP frame to the requester, aborts counted. -/
def answer (p : Path) (r : DictRsp) (s : State) : State :=
  if s.sup.vstate = 2 || !s.sys.mgmtUp then s
  else
    let s := { s with dc := { s.dc with rsps := s.dc.rsps ++ [(p, r)] } }
    match p with
    | .host => s
    | .zeley a =>
      let s := if r.abort = 0 then s else { s with zl := { s.zl with aborts := satAdd 16 s.zl.aborts 1 } }
      originate 5 0 a (upPorts s) (rspBytes r) s

/-- The response to a write of a whole value of `n` bytes to object (i, sub) that came as a command of its own (TID 0). -/
def answerWrite (p : Path) (i sub n : Nat) (r : Nat × State) : State :=
  answer p { op := 3, index := i, sub := sub, tid := 0, abort := r.1, val := if r.1 = 0 then n else 0, data := [] } r.2

/-- A command that carries one write: it acts only while the management plane runs. -/
def writeCmd (p : Path) (i sub n : Nat) (f : State → Nat × State) (s : State) : State :=
  if s.sys.mgmtUp && s.sup.vstate != 2 then answerWrite p i sub n (f s) else s

/-- TIME_SET, through the host port. -/
def execTimeSet (t : Nat) (v : BitVec 64) (s : State) : Host.Outcome State Fault Refusal :=
  .next (writeCmd .host 0x1400 5 8 (timeSetRun v) (advance t s))

end Sys2Proof.Machine
end

