-- ==== Sys2Proof/Machine/Commit.lean ====
section
/-! DEFINITION. Machine/Commit.lean: commits and the effects of a set on every unit, sessions, passphrases, the change log and the
governor's LOCK (chapters 1, 5 and 15). -/

namespace Sys2Proof.Machine

/-! ### The change log (R335, R336) -/

def logMax : Nat := 512

/-- The object of a stored key: quadrant keys of PROG and PROG_LEN stand for the objects of that quadrant. -/
def keyObj (k : Nat) : Nat × Nat :=
  let q := k / 0x1000000
  if keyIx k = 0x2500 ∧ keySub k = 0x11 then (0x2500, 0x40 + q)
  else if keyIx k = 0x2500 ∧ keySub k = 0x10 then (0x2500, 0x44 + q)
  else (keyIx k, keySub k)

/-- The object field of an entry: index, subindex, 0. -/
def objField (p : Nat × Nat) : Nat := 256 * okey p.1 p.2

/-- The objects that a set changes, ascending: values that differ, and the map. -/
def changedObjs (set : SMap (List Byte)) (m : Option ZMap) (s : State) : List Nat :=
  let ks := (set.filter fun e => valIn s.cf.eff e.1 != e.2).map fun e => objField (keyObj e.1)
  let ms := if mapAfter m s = s.cf.map then [] else [objField (0x3400, 1)]
  ((ks ++ ms).eraseDups).mergeSort fun a b => decide (a ≤ b)

/-- The 128 bytes of entry `n` (Table 15.4). -/
def logBytes (n : Nat) (e : LogE) : List Byte :=
  let b := leBytes 4 n ++ leBytes 1 e.kind ++ leBytes 1 e.user ++ leBytes 2 e.nobj ++ leBytes 8 e.time.toNat ++
    leBytes 4 e.frame.toNat ++ leBytes 4 e.count ++ leBytes 4 e.oldCrc.toNat ++ leBytes 4 e.newCrc.toNat ++
    (List.range 22).flatMap (fun i => leBytes 4 (e.objs.getD i 0)) ++ leBytes 4 e.flags
  b ++ leBytes 4 (crc32c b)

/-- The bytes of the entries from number `a + 1` on. -/
def logFrom (a : Nat) (l : List LogE) : List Byte := (l.zipIdx a).flatMap fun x => logBytes (x.2 + 1) x.1

/-- LOG_CRC. -/
def logCrc (s : State) : Nat := crc32c (logFrom 0 s.sess.log)

def logFull (s : State) : Bool := decide (logMax ≤ s.sess.log.length)

/-- Append an entry, where the log has room; LOG_HIGH where 32 entries or fewer then remain, LOG_FULL where none remains. -/
def logAdd (kind user : Nat) (objs : List Nat) (frame : BitVec 32) (count oldCrc newCrc : Nat) (s : State) : State :=
  if logFull s then s
  else
    let e : LogE := {
      kind := kind
      user := user
      nobj := sat 16 objs.length
      time := s.sys.sysTime
      frame := frame
      count := count % 2 ^ 32
      oldCrc := BitVec.ofNat 32 oldCrc
      newCrc := BitVec.ofNat 32 newCrc
      objs := objs.take 22
      flags := bitIf (decide (22 < objs.length)) 0 + bitIf s.zl.sync 1 }
    let l := s.sess.log ++ [e]
    let s := { s with sess := { s.sess with log := l } }
    raiseIf (decide (logMax ≤ l.length)) evLogFull (raiseIf (decide (logMax - 32 ≤ l.length)) evLogHigh s)

/-- SF_LOG. -/
def sfLog (s : State) : Nat := bitIf (logFull s) 31 + put s.sess.log.length 0 10

/-! ### Passphrases and the lockout (R327 to R331) -/

def lockNs : Nat := 600 * secNs

/-- The lockout still to run, ns. -/
def lockLeft (s : State) : Nat := s.sess.lockLeft - (s.sys.now - s.sess.lockAt)

def lockOn (s : State) : Bool := decide (0 < lockLeft s)

/-- The lockout has ended: the count of wrong attempts returns to 0. -/
def lockExpire (s : State) : State :=
  if s.sess.lockLeft ≠ 0 ∧ lockOn s = false then
    { s with sess := { s.sess with fails := 0, lockLeft := 0, lockMram := 0 } }
  else s

def execLockoutExpiry (t : Nat) (s : State) : Host.Outcome State Fault Refusal :=
  let s := advance t s
  .next (if s.sys.powered then lockExpire s else s)

/-- The remaining time is written to MRAM, every 10 s. -/
def lockSave (s : State) : State := { s with sess := { s.sess with lockMram := lockLeft s } }

def execLockoutSave (t : Nat) (s : State) : Host.Outcome State Fault Refusal :=
  let s := advance t s
  .next (if s.sys.mgmtUp && lockOn s then lockSave s else s)

/-- A wrong attempt; the fifth in a row starts the lockout of 600 s. -/
def wrongPass (s : State) : State :=
  let n := s.sess.fails + 1
  let s := { s with sess := { s.sess with fails := n } }
  if 5 ≤ n then { s with sess := { s.sess with lockLeft := lockNs, lockAt := s.sys.now, lockMram := lockNs } } else s

/-- The passphrase opens slot `u`. -/
def passMatches (s : State) (u : Nat) (pass : List Byte) : Bool :=
  match mlook s.sess.slots u with | some x => passHash x.1 pass == x.2 | none => false

def passChars (pass : List Byte) : Bool := pass.all fun b => decide (0x20 ≤ b.toNat) && decide (b.toNat ≤ 0x7E)

/-- U8 LEN at offset `o` of a value, followed by LEN characters that end it. -/
def passAt (d : List Byte) (o : Nat) : List Byte := d.drop (o + 1)
def passLenOk (d : List Byte) (o : Nat) : Bool := decide (d.length = o + 1 + leAt d o 1)
def passRange (d : List Byte) (o : Nat) : Bool := decide (8 ≤ leAt d o 1) && decide (leAt d o 1 ≤ 32)

/-- A passphrase check for user `u` outside SESSION_OPEN: abort 0 or 0x0610, and the wrong attempt counted (R329). -/
def passCheck (u : Nat) (pass : List Byte) (s : State) : Nat × State :=
  let s := lockExpire s
  if lockOn s then (0x0610, s) else if passMatches s u pass then (0, { s with sess := { s.sess with fails := 0 } }) else (0x0610, wrongPass s)

/-! ### Sessions (R328, R330) -/

/-- SESSION_OPEN: Table 15.1 in its order. -/
def sessionOpen (p : Path) (d : List Byte) (s : State) : Nat × State :=
  let s := lockExpire s
  let u := leAt d 0 1
  if d.length < 2 ∨ passLenOk d 1 = false ∨ passRange d 1 = false then (0x0621, s)
  else if !passChars (passAt d 1) then (0x0620, s)
  else if u < 1 ∨ 4 < u then (0x0620, s)
  else if !s.sup.holdReady then (0x0640, s)
  else if lockOn s then (0x0610, s)
  else if s.sess.user ≠ 0 then (0x0640, s)
  else if !passMatches s u (passAt d 1) then (0x0610, wrongPass s)
  else (0, { s with sess := { s.sess with user := u, path := p, lastAct := s.sys.now, fails := 0 } })

def execSessionOpen (t : Nat) (path : Path) (data : List Byte) (s : State) : Host.Outcome State Fault Refusal :=
  .next (writeCmd path 0x4000 0x30 data.length (sessionOpen path data) (advance t s))

/-- SESSION_CLOSE, on the session's own path. -/
def sessionClose (p : Path) (s : State) : Nat × State := if sessionOn s p then (0, endSession s) else (0x0611, s)

def execSessionClose (t : Nat) (path : Path) (s : State) : Host.Outcome State Fault Refusal :=
  .next (writeCmd path 0x4000 0x31 1 (sessionClose path) (advance t s))

/-- SESSION_IDLE seconds without access. -/
def sessionIdle (s : State) : State :=
  if s.sess.user ≠ 0 ∧ s.sess.lastAct + cfgN s 0x4000 0x33 * secNs ≤ s.sys.now then endSession s else s

def execSessionIdleExpiry (t : Nat) (s : State) : Host.Outcome State Fault Refusal := .next (sessionIdle (advance t s))

/-- 16 bytes of salt from the device's random source: free values. -/
def drawSalt (s : State) : List Byte × State := (leBytes 8 (freeNow s) ++ leBytes 8 (freeNow (drawn s)), drawn (drawn s))

/-- PASS_SET (R331), in the order of Table 18.7. -/
def passSet (p : Path) (d : List Byte) (s : State) : Nat × State :=
  let u := leAt d 0 1
  let n := leAt d 1 1
  let first := s.sess.slots.isEmpty
  if logFull s then (0x0610, s)
  else if !(if first then u == 1 else sessionOn s p) then (0x0611, s)
  else
    if 34 < d.length then (0x0622, s)
    else if d.length < 2 ∨ passLenOk d 1 = false ∨ (n ≠ 0 ∧ passRange d 1 = false) then (0x0621, s)
    else if !s.sup.holdReady then (0x0640, s)
    else if u < 1 ∨ 4 < u ∨ passChars (passAt d 1) = false ∨ (n = 0 ∧ s.sess.slots.map (·.1) = [u]) then (0x0620, s)
    else
      let c := cfgCrc s
      let s := logAdd 2 (if s.sess.user = 0 then 1 else s.sess.user) [objField (0x4000, 0x34)] 0 s.cf.count c c s
      if n = 0 then (0, { s with sess := { s.sess with slots := mdel s.sess.slots u } })
      else
        let r := drawSalt s
        (0, { r.2 with sess := { r.2.sess with slots := mput r.2.sess.slots u (r.1, passHash r.1 (passAt d 1)) } })

def execPassSet (t : Nat) (path : Path) (data : List Byte) (s : State) : Host.Outcome State Fault Refusal :=
  .next (writeCmd path 0x4000 0x34 data.length (passSet path data) (advance t s))

/-- LOG_CLEAR (R337): the passphrase of a value that has no readable passphrase field is not judged. -/
def logClear (p : Path) (d : List Byte) (s : State) : Nat × State :=
  if !sessionOn s p then (0x0611, s)
  else
    let s := touchSession p s
    if 41 < d.length then (0x0622, s)
    else if d.length < 9 ∨ passLenOk d 8 = false ∨ passRange d 8 = false then (0x0621, s)
    else
      let r := passCheck s.sess.user (passAt d 8) s
      let s := r.2
      if r.1 ≠ 0 then (r.1, s)
      else if s.cf.pend.isSome || !s.sup.holdReady then (0x0640, s)
      else
        let crc := logCrc s
        if leAt d 0 4 ≠ s.sess.log.length ∨ leAt d 4 4 ≠ crc then (0x0650, s)
        else
          let s := { s with sess := { s.sess with log := [], clears := satAdd 32 s.sess.clears 1 } }
          (0, logAdd 5 s.sess.user [] 0 s.cf.count crc (cfgCrc s) s)

def execLogClear (t : Nat) (path : Path) (data : List Byte) (s : State) : Host.Outcome State Fault Refusal :=
  .next (writeCmd path 0x4800 6 data.length (logClear path data) (advance t s))

/-- SF_SESS. -/
def sfSess (s : State) : Nat :=
  put (sat 16 (ceilDiv (lockLeft s) secNs)) 16 16 + put (maskOf 4 fun i => (mlook s.sess.slots (i + 1)).isSome) 12 4 +
    put s.sess.fails 8 4 + (if s.sess.user = 0 then 0 else match s.sess.path with | .host => 64 | .zeley _ => 128) + s.sess.user % 8

/-! ### The governor's LOCK (R137, Table 15.5) -/

/-- LOCK: access (locked, or the log full), session, check value; then the entry, and the lock. -/
def governorLock (p : Path) (crc : Nat) (s : State) : Nat × State :=
  if govShut s || logFull s then (0x0610, s)
  else if !sessionOn s p then (0x0611, s)
  else
    let s := touchSession p s
    if !s.sup.holdReady then (0x0640, s)
    else if crc ≠ govCrc s then (0x0650, s)
    else
      let c := cfgCrc s
      (0, govLockNow (logAdd 3 s.sess.user [objField (0x2100, 2)] 0 s.cf.count c c s))

def execGovernorLock (t : Nat) (path : Path) (crc : BitVec 32) (s : State) : Host.Outcome State Fault Refusal :=
  .next (writeCmd path 0x2100 2 4 (governorLock path crc.toNat) (advance t s))

/-! ### What a set does to the units when it takes effect (R48) -/

/-- Zones whose role epoch, cells or intervals have changed (R260). -/
def zonesChanged (old s : State) : List Nat :=
  let same := decide (old.cf.map = s.cf.map)
  (List.range 1024).filter fun z =>
    epochOf old.cf.epochs 0 z != epochOf s.cf.epochs 0 z || 
      (!same && (zoneTrace old.cf.map z != zoneTrace s.cf.map z || zonePool old.cf.map z != zonePool s.cf.map z))

/-- The refills come after the debounce of the frame that closed. -/
def zonesRefill (old s : State) : State :=
  (zonesChanged old s).foldl (fun s z =>
    if s.ze.latchDue then znUpd z (fun x => { x with refillPost := true }) s else znUpd z (refilled (znN s z)) s) s

/-- A pair whose ROLE or MODE changes is SAFE with PARTIAL = 1 (R307). -/
def pairsChanged (old s : State) : State :=
  (List.range 8).foldl (fun s i =>
    if sinRole old i = sinRole s i ∧ sinMode old i = sinMode s i then s
    else bothC (fun c s => updC c (fun f => prSet i { prGet f i with active := false, partialS := true, seenSafe := false, timer := none } f) s) s) s

/-- An object of monitor `d` has changed. -/
def dmChanged (old s : State) (d : Nat) : Bool :=
  (List.range 10).any fun j => cfgB old 0x4400 (0x30 + 2 * j + d) != cfgB s 0x4400 (0x30 + 2 * j + d)

/-- SQ pairs that the set switches off (R326). -/
def sqChanged (old s : State) (p : Nat) : Bool :=
  sqFunc old p != sqFunc s p || sqDm old p != sqDm s p || (sqFunc s p == 2 && dmChanged old s (sqDm s p))

def outputsChanged (old s : State) : State :=
  (List.range 4).foldl (fun s p => if sqChanged old s p then bothC (fun c s => openSwitch c p s) s else s) s

/-- An epoch of kind `k` has changed. -/
def epochMoved (old s : State) (k n : Nat) : Bool := epochOf old.cf.epochs k n != epochOf s.cf.epochs k n

/-- The counting point, its head or its gate pair has changed its epoch, in the configuration of `v`. -/
def cpMoved (old s v : State) (c : Nat) : Bool :=
  let e := cpAt v c
  epochMoved old s 2 c || (e.src == 1 && epochMoved old s 1 e.ref) ||
    (e.src == 2 && (epochMoved old s 0 (gateA v e.ref) || epochMoved old s 0 (gateB v e.ref)))

/-- Sections that the set disturbs (cause 10 of Table 17.3). -/
def sectionMoved (old s : State) (k : Nat) : Bool :=
  epochMoved old s 3 k || (cpsOf old k).any (fun c => cpMoved old s old c) || (cpsOf s k).any (fun c => cpMoved old s s c)

/-- The zones of a section have changed: no mailbox has shown the new ones yet (R375, R377). -/
def zonesAnew (old : State) (k : Nat) (s : State) : State :=
  if secZones old k = secZones s k then s else secSet k { secGet s k with zrun := 0, zprep := 0 } s

def sectionsChanged (old s : State) : State :=
  if hasTrack s && s.sys.ctrlUp then
    let s' := (List.range 32).foldl (fun s' k => zonesAnew old k (if sectionMoved old s k then disturb 10 k s' else s')) s
    secUpdateAll (tlCommitted (headsOpen s'))
  else s

/-- A wake comparator that a set enables has taken no sample yet (R92). -/
def wcChanged (old s : State) : State :=
  (List.range 8).foldl (fun s n =>
    if bitAt (cfgN s 0x1800 (0x30 + n)) 0 && !bitAt (cfgN old 0x1800 (0x30 + n)) 0 then
      let x := mget {} s.wc n
      { s with wc := mset {} s.wc n { x with above := false, run := 0, fresh := true, changed := false } }
    else s) s

/-- Adjacency data of the coordinator has changed (R225). -/
def adjacencyChanged (old s : State) : Bool :=
  cfgB old 0x2600 0x41 != cfgB s 0x2600 0x41 || cfgB old 0x2600 0xC != cfgB s 0x2600 0xC ||
    (List.range 8).any fun i => cfgB old 0x2600 (0x48 + i) != cfgB s 0x2600 (0x48 + i)

/-- The matrix: off with EN = 0, and every trim 256 with REG = 0 (R456, R457). -/
def matrixCommitted (s : State) : State :=
  let s := if cfgF s 0x5800 1 then s else lmOff s
  if cfgF s 0x5800 9 then s else { s with lm := { s.lm with trimR := 256, trimG := 256, trimB := 256 } }

/-- What every unit does when the set in effect changes from that of `old`; `newMap` = the set carries a map. -/
def afterSet (newMap : Bool) (old s : State) : State :=
  let s := zonesRefill old s
  let s := { s with ze := { s.ze with unmapped := unmappedZones s, expanding := s.ze.expanding || (newMap && dpOn s) } }
  let s := sectionsChanged old (outputsChanged old (pairsChanged old s))
  let s := tfCommitted old (wcChanged old s)
  let s := { s with pw := { s.pw with pllS := s.pw.pllS && plsWanted s } }
  let s := biasCommitted (fcCommitted s)
  let s := linkCommitted (hfxFollow (psCommitted old (matrixCommitted s)))
  let s := supplyCommitted (plannerCommitted old (accordCheck s))
  let s := if s.sys.oper then bothC evalDemands s else s
  if adjacencyChanged old s then coordRun s else s

/-! ### Commits (R45 to R48, R332 to R334, R493) -/

/-- The frame period on which a boundary is predicted. -/
def periodNow (s : State) : Nat := if scanning s && s.mir.period != 0 then s.mir.period else framePeriod s

/-- Boundaries from now to the named one. -/
def boundariesTo (mode : Nat) (frame : BitVec 32) (time : BitVec 64) (s : State) : Nat :=
  if mode = 1 then (frame - s.pw.frameNo).toNat
  else max 1 (ceilDiv (time.toNat - s.pw.frameSys.toNat) (max 1 (periodNow s)))

/-- The instant predicted for the named boundary. -/
def namedAt (p : Pend) (s : State) : Nat := s.pw.lastB + boundariesTo p.mode p.frame p.time s * periodNow s

/-- At least W + 1 ms remains before the named boundary (Table 15.2 step 4, R493). -/
def timeLeft (p : Pend) (s : State) : Bool := decide (s.sys.now + copyTime p.set p.map s + msNs ≤ namedAt p s)

/-- W + 1 ms before the named boundary has come (R333). -/
def deadlineCome (p : Pend) (s : State) : Bool := decide (namedAt p s ≤ s.sys.now + copyTime p.set p.map s + msNs)

/-- The named boundary has passed (R46). A frame number is later than another by less than half the counter's range (DESIGN CHOICE,
assumption 106). -/
def boundaryPast (mode : Nat) (frame : BitVec 32) (time : BitVec 64) (s : State) : Bool :=
  if mode = 1 then decide ((frame - s.pw.frameNo).toInt ≤ 0) else decide (time ≤ s.pw.frameSys)

/-- CODEMASK of an emitter. -/
def isMaskKey (k : Nat) : Bool := decide (0x2000 ≤ keyIx k) && decide (keyIx k < 0x2010) && keySub k == 5

/-- A commit fails: nothing is applied. -/
def commitFail (st : Nat) (s : State) : State := postCommit st { s with cf := { s.cf with pend := none } }

/-- Every value of the set is in its range. -/
def setInRange (p : Pend) : Bool := p.set.all fun e => keyOk e.1 e.2

/-- The resulting configuration breaks no consistency rule. -/
def setConsistent (p : Pend) (s : State) : Bool := allConsistent (committedView p s)

/-- A set without rw-s objects that breaks a consistency rule fails (R78, R119, R230); the spec gives that failure no status, which is a
free value of 2 to 8 (assumption 107). -/
def commitRefused (s : State) : State := postCommit (2 + freeNow s % 7) (drawn s)

/-- The checks at COMMIT_GO after the session's. -/
def commitTry (s : State) : State :=
  let p : Pend := {
    mode := liveN s 0x1100 0x11
    frame := BitVec.ofNat 32 (liveN s 0x1100 0x12)
    time := BitVec.ofNat 64 (liveN s 0x1100 0x13)
    safety := stagedSafety s
    verified := false
    crc := stagedCrc s
    writeAt := none
    written := false
    user := s.sess.user
    set := s.cf.staged
    map := s.cf.mapStage }
  if p.crc ≠ liveN s 0x1100 0x10 then postCommit 2 s
  else if boundaryPast p.mode p.frame p.time s then postCommit 3 s
  else if s.cf.pend.isSome then postCommit 8 s
  else if p.safety && logFull s then postCommit 7 s
  else if !p.safety && !setConsistent p s then commitRefused s
  else if !p.safety && !timeLeft p s then postCommit 4 s
  else postCommit 1 { s with cf := { s.cf with pend := some { p with writeAt := if p.safety then none else some s.sys.now } } }

/-- The staged set holds a CODEMASK of 0, which EX_CFGn can stage and a commit refuses (Table 5.3). -/
def stagedMaskZero (s : State) : Bool := s.cf.staged.any fun e => isMaskKey e.1 && leNat e.2 == 0

/-- COMMIT_GO: 0x0611 for a safety set without a session on the path; 0x0640 while HOLD_READY is 0 (R62, R104); 0x0620 for a CODEMASK
of 0. -/
def commitGo (p : Path) (s : State) : Nat × State :=
  if stagedSafety s && !sessionOn s p then (0x0611, s)
  else if !s.sup.holdReady then (0x0640, s)
  else if stagedMaskZero s then (0x0620, s)
  else (0, commitTry s)

def execCommitGo (t : Nat) (path : Path) (s : State) : Host.Outcome State Fault Refusal :=
  .next (writeCmd path 0x1100 0x14 1 (commitGo path) (advance t s))

/-- What channel `c` finds in the set: it is faulted (R333), the CRC-32C of what it received differs, a value is out of range, a rule is
broken, or nothing. `intact` = the set has reached the channel unchanged. -/
def verifyCause (s : State) (p : Pend) (c : Chan) (intact : Bool) : Nat :=
  let f := getC s c
  if bget f.latch fltStartup || bget f.latch fltCross then 4
  else if !intact || setCrc p.set p.map s != p.crc then 1
  else if !setInRange p then 2
  else if !setConsistent p s then 3
  else 0

/-- COMMIT_VERIFY_DONE: step 3, then the deadline check and the entry, and the copy writes begin. Past the deadline the commit has failed
with status 4 (R333). With a full log no entry is written, and the commit waits for that deadline (R47). The frame of mode 2 is the one
that the predicted boundary opens. -/
def commitVerified (intactA intactB : Bool) (s : State) : State :=
  match s.cf.pend with
  | none => s
  | some p =>
    if !p.safety || p.verified then s
    else
      let a := verifyCause s p .a intactA
      let b := verifyCause s p .b intactB
      if !timeLeft p s then commitFail 4 s
      else
      let s := { s with cf := { s.cf with verify := a + 256 * b } }
      if a ≠ 0 then commitFail 5 s
      else if b ≠ 0 then commitFail 6 s
      else if logFull s then s
      else
        let frame := s.pw.frameNo + BitVec.ofNat 32 (boundariesTo p.mode p.frame p.time s)
        let s := logAdd 1 p.user (changedObjs p.set p.map s) frame (s.cf.count + 1) (cfgCrc s) (setCrc p.set p.map s) s
        { s with cf := { s.cf with pend := some { p with verified := true, writeAt := some s.sys.now } } }

def execCommitVerifyDone (t : Nat) (intactA intactB : Bool) (s : State) : Host.Outcome State Fault Refusal :=
  .next (commitVerified intactA intactB (advance t s))

/-- COMMIT_DEADLINE: step 3 is not complete by W + 1 ms before the boundary. -/
def commitDeadline (s : State) : State :=
  match s.cf.pend with
  | none => s
  | some p => if p.safety && !p.verified && deadlineCome p s then commitFail 4 s else s

def execCommitDeadline (t : Nat) (s : State) : Host.Outcome State Fault Refusal := .next (commitDeadline (advance t s))

/-- CONFIG_COPIES_WRITTEN. -/
def copiesWritten (s : State) : State :=
  match s.cf.pend with
  | none => s
  | some p =>
    if p.written || (p.safety && !p.verified) then s
    else
      let c := copyAfter p s
      { s with cf := { s.cf with copyA := c, copyB := c, pend := some { p with written := true } } }

def execConfigCopiesWritten (t : Nat) (s : State) : Host.Outcome State Fault Refusal := .next (copiesWritten (advance t s))

/-- The set of a commit takes effect at a boundary (R48): status 0. What was staged after COMMIT_GO stays staged. -/
def applyCommit (p : Pend) (s : State) : State :=
  let c := copyAfter p s
  let mapped := p.map.isSome
  let s' := { s with
    cf := { s.cf with
      eff := c.objs, map := c.map, epochs := c.epochs, safety := c.safety, count := c.count, defaults := false, pend := none
      staged := s.cf.staged.filter fun e => mlook p.set e.1 != some e.2
      mapStage := if mapped then none else s.cf.mapStage }
    lm := { s.lm with configured := s.lm.configured || p.set.any fun e => keyIx e.1 == 0x5800 }
    ac := { s.ac with stopped := s.ac.stopped && !(p.set.any fun e => e.1 == okey 0x2600 0xC) } }
  afterSet mapped s (postCommit 0 s')

/-- The pending commit at the boundary that closes frame `n` at system time `sys`: applied where it is named and ready; failed where it
is named and not ready (R47). -/
def commitAt (n : BitVec 32) (sys : BitVec 64) (s : State) : State :=
  match s.cf.pend with
  | some p =>
    if commitNamed p n sys then (if commitReady p then applyCommit p s else commitFail 4 s) else s
  | none => s

/-- ASSIGN_WRITE: one write of ASSIGN from a path. -/
def execAssignWrite (t : Nat) (w : PathWrite) (s : State) : Host.Outcome State Fault Refusal :=
  .next (writeCmd w.path 0x2600 0x40 w.data.length (assignRun w.data) (advance t s))

/-- The staged assignment at a boundary (R222, R493): in effect, and in both copies. No role epoch changes (R217). -/
def assignAt (s : State) : State :=
  if assignDue s s.sys.now s.sys.sysTime then
    let s' := { s with ac := { s.ac with assign := s.ac.staged, staged := none, stale := false, applied := satAdd 16 s.ac.applied 1 } }
    let keep := fun (c : Copy) => { c with assign := s.ac.staged }
    afterSet false s { s' with cf := { s'.cf with copyA := keep s.cf.copyA, copyB := keep s.cf.copyB } }
  else s

end Sys2Proof.Machine
end

