-- ==== Sys2Proof/Machine/Boundary.lean ====
section
/-! DEFINITION. Machine/Boundary.lean: what every frame boundary does (R32, R33, R42, R46, R85, R86, R128, R139, R249), the mailbox
post and the accounting interval (R22, R34). -/

namespace Sys2Proof.Machine

/-! ### The frame that closes -/

/-- The partial counts of an abandoned frame are lost (R108). -/
def dropCounts (s : State) : State :=
  { s with
    hg := { s.hg with cnt := [] }
    rx := s.rx.filterMap fun e =>
      let x := { e.2 with cnt := {} }
      if x = {} then none else some (e.1, x) }

/-- The energy of the frame, as FP_SPEND shows it. -/
def closeSpend (s : State) : State := { s with sup := { s.sup with spent := toUj s.sup.spendAcc, spendAcc := 0 } }

/-- Counters and latches of the frame that ends. The results of emitters and planner are posted at every boundary. -/
def closeCounts (s : State) : State :=
  closeSpend (closePlanner (fcAutoClear (latchEmitters (planLate s))))

/-- Both channels observe the boundary, while operational (R37, R38). -/
def observeBoundary (s : State) : State :=
  if s.sys.oper then
    let n := s.pw.frameNo
    let now := s.sys.now
    bothC (fun c s => updC c (fun f => { f with lastBnd := some now, lastBndFrame := n, dlDone := false }) s) s
  else s

/-- A complete scanned frame waits for its latch, and the first one since power-up gives FRAME_MS. -/
def closeScanned (s : State) : State :=
  if s.pw.scanned && !s.pw.abandoned then
    let s := if s.ze.latchDue then latchZones s.ze.latchFrame s else s
    let sys := s.sys
    { s with
      ze := { s.ze with latchDue := true, latchFrame := s.pw.frameNo, latchAt := s.sys.now }
      sys := { sys with frameMs := if sys.frameDone then sys.frameMs else bootMs s, frameDone := true } }
  else s

/-- The configuration that governs the records still to come of the frame that ends, its shots, and whether it was abandoned. -/
def keepPrev (s : State) : State :=
  { s with
    cf := { s.cf with effPrev := s.cf.eff, mapPrev := s.cf.map, epochsPrev := s.cf.epochs }
    ex := { s.ex with shotPrev := s.ex.shotCol, shotCol := [] }
    pw := { s.pw with abandoned := false } }

/-- The receive and histogram counters of the frame are cut; those of an abandoned frame are lost. -/
def closeReceive (s : State) : State := postNominal (hgClose (rxClose (if s.pw.abandoned then dropCounts s else s)))

/-- The frame in progress ends. -/
def closeFrame (s : State) : State := keepPrev (closeReceive (closeScanned (observeBoundary (closeCounts (stepEnd s)))))

/-! ### The state of the next frame (R85 to R87, Table 3.5) -/

/-- Entry to STANDBY (R87). -/
def enterStandby (s : State) : State :=
  let s := tfStopAll (endSession (dpStop (openBoth s)))
  let s := linkDown { s with pw := { s.pw with st := 2, standbyAt := some s.sys.now } }
  hfxFollow (lmOff { s with sup := chargeOff false s.sup })

/-- STANDBY is requested and refused (Table 3.5 row 4). -/
def standbyRefused (s : State) : Bool :=
  s.sup.vstate != 2 && !s.cf.defaults && !s.pw.pllBlock && (s.sys.oper || s.sys.cameFromStandby) && requested s == 2 && wakeLatched s

/-- The state of the next frame. A state that needs the data plane takes effect once the mirror check has passed. -/
def takeState (sel : Nat) (s : State) : State :=
  if sel = 1 then { s with pw := { s.pw with st := 1 } }
  else if sel = 2 then enterStandby s
  else if sel = 3 then let s := dpRemove s; { s with pw := { s.pw with st := 3 } }
  else match s.pw.dp with
    | .scanning => { s with pw := { s.pw with st := sel } }
    | .ready => if 4 ≤ s.pw.st then { s with pw := { s.pw with st := sel } } else s
    | .starting => s
    | .off => dpStart { s with pw := { s.pw with st := 3 } }
    | .stopped => { s with pw := { s.pw with st := 3 } }

/-! ### The frame that begins -/

/-- The frame counter advances. -/
def nextFrameNo (s : State) : State :=
  { s with
    pw := { s.pw with frameNo := s.pw.frameNo + 1, frameSys := s.sys.sysTime, lastB := s.sys.now }
    ex := { s.ex with step := 0, begun := 0, open_ := false } }

/-- The grant of the next frame, and the charge current from the energies of the frame that ended (R63, R64). -/
def grantNext (s : State) : State :=
  let s := chargeInteg s.sup.vhold s
  let p := s.sup
  chargeSet p.eFrame p.eChg (issueGrant s)

/-- The next frame is scanned or not: its plan, its class fill, its frame headers. -/
def openFrame (s : State) : State :=
  let scan := scanning s && scannedIn s s.pw.st s.pw.frameNo.toNat
  let s := { s with pw := { s.pw with scanned := scan } }
  if scan then
    let plan := planNext s s s.pw.st s.pw.firstScan
    let s := { s with fp := { s.fp with plan := plan, nextPlan := none }, pw := { s.pw with firstScan := false } }
    psFrameStart (s.ze.latchDue && neOwes s s.ze.latchFrame) (classFill (chargeStep s))
  else { s with fp := { s.fp with pend := none }, ex := { s.ex with taken := [], takenOk := false, missed := false } }

/-- SF_ACT = 2: once VIGILREQ is set, the device acts as if 3 had been written to PWR_REQ (R246; assumption 28). -/
def vigilAct (was : Bool) (s : State) : State :=
  if s.fp.vigilReq && !was && cfgN s 0x2700 4 == 2 then
    { s with pw := { s.pw with req := 3, demand := 3, idleFrom := s.sys.now, pllBlock := false } }
  else s

/-- A boundary closes the frame in progress and opens the next. -/
def boundaryRun (s : State) : State :=
  let was := s.fp.vigilReq
  let n := s.pw.frameNo
  let s := if s.pw.dp == .stopped then dpStop s else s
  let s := assignAt (commitAt n s.sys.sysTime (closeFrame s))
  let s := raiseIf (standbyRefused s) evStandbyRefused s
  let s := takeState (selectState s) s
  localEdge 16 (vigilAct was (openFrame (grantNext (nextFrameNo s))))

/-- A boundary. In STANDBY only the counter advances; while every plane is in reset there is none. -/
def boundary (s : State) : State :=
  if !s.sys.powered then s
  else if s.pw.st = 2 then nextFrameNo s
  else if !s.sys.ctrlUp then s
  else boundaryRun s

/-- The sequencer derives the boundaries from the mirror; a pin-controlling boundary scan stops it (R113). -/
def sequencing (s : State) : Bool := scanning s && !pinScan s

/-- A boundary derived from the mirror: the last step of the frame ends, one revolution after the angle of step 0, and the next frame
measures its angle from the next MIX edge. -/
def mirrorBoundary (s : State) : State :=
  if sequencing s && angleDue s (stepsPerFrame s) then boundary { s with mir := { s.mir with turn := s.mir.turn - 1 } } else s

/-- FRAME_BOUNDARY. -/
def execFrameBoundary (t : Nat) (s : State) : Host.Outcome State Fault Refusal := .next (mirrorBoundary (advance t s))

/-- NOMINAL_BOUNDARY: one frame period after the last boundary, while none is derived from the mirror (R33, R128). -/
def nominalBoundary (s : State) : State :=
  if !sequencing s && decide (s.pw.lastB + framePeriod s ≤ s.sys.now) then boundary s else s

def execNominalBoundary (t : Nat) (s : State) : Host.Outcome State Fault Refusal := .next (nominalBoundary (advance t s))

/-! ### Mailbox post and accounting interval -/

/-- MAILBOX_POST: a data plane that only waits for it stops then (R85). -/
def mailboxPost (s : State) : State :=
  let s := postMailbox s
  if s.pw.dp == .stopped && !s.ze.latchDue then dpStop s else s

def execMailboxPost (t : Nat) (s : State) : Host.Outcome State Fault Refusal := .next (mailboxPost (advance t s))

/-- The second of system time in progress. -/
def sysSecond (s : State) : Nat := s.sys.sysTime.toNat / secNs

/-- The units that latch every second latch (R22). -/
def latchAll (s : State) : State :=
  let s := if s.sys.mgmtUp then latchLink (latchSupply s) else s
  let s := if s.sys.ctrlUp then latchSafety (if hasTrack s then latchAxle (latchTrack s) else s) else s
  localEdge 19 s

/-- ACCOUNTING_INTERVAL: a whole second of system time has been reached since the last boundary (R22). -/
def accountingInterval (s : State) : State :=
  if sysSecond s = s.sys.lastSec then s else latchAll { s with sys := { s.sys with lastSec := sysSecond s } }

def execAccountingInterval (t : Nat) (s : State) : Host.Outcome State Fault Refusal := .next (accountingInterval (advance t s))

end Sys2Proof.Machine
end

