-- ==== Sys2Proof/Machine/Mirror.lean ====
section
/-! DEFINITION. Machine/Mirror.lean: the mirror index and encoder, the mirror check and mirror faults (R100, R126 to R128). -/

namespace Sys2Proof.Machine

/-- A MIX period within ±1 % of the frame period. -/
def periodOk (s : State) (p : Nat) : Bool :=
  decide (99 * framePeriod s ≤ 100 * p) && decide (100 * p ≤ 101 * framePeriod s)

/-- A mirror fault: no burst any more, the frame in flight is abandoned, the check repeats, and the first nominal boundary falls now.
`b` = bit of EX_MIR_CNT.FAULT: 0 period, 1 count, 2 stall, 3 reverse. -/
def mirrorFault (b : Nat) (s : State) : State :=
  let s := abandonFrame (raise evMirror { s with mir := { s.mir with fault := bset s.mir.fault b true, locked := false, good := 0 } })
  boundary { s with pw := { s.pw with dp := .ready } }

/-- The mirror check has passed: this edge is a boundary. -/
def mirrorLock (s : State) : State :=
  boundary { s with
    mir := { s.mir with locked := true, turn := 0 }
    pw := { s.pw with dp := .scanning, mirrorRaised := true } }

/-- An active edge of MIX. -/
def mixEdge (s : State) : State :=
  let m := s.mir
  let now := s.sys.now
  match s.pw.dp with
  | .ready | .scanning =>
    match m.lastMix with
    | none => { s with mir := { m with lastMix := some now, lastCount := m.count, count := 0 } }
    | some x =>
      let p := now - x
      let pOk := periodOk s p
      let cOk := decide (m.count = mencCpr s)
      let good := if pOk && cOk then min 4 (m.good + 1) else 0
      let s' := { s with mir := { m with lastMix := some now, period := p, lastCount := m.count, count := 0, good := good, turn := m.turn + 1 } }
      if scanning s then
        if !pOk then mirrorFault 0 s' else if !cOk then mirrorFault 1 s' else s'
      else if good = 4 then mirrorLock s' else s'
  | _ => s

/-- MIX_EDGE: an edge of MIX; the active one is rising with MIX_POL = 0 and falling with MIX_POL = 1. -/
def execMixEdge (e : MixSeen) (s : State) : Host.Outcome State Fault Refusal :=
  .next (if e.rising == cfgF s 0x2000 0x23 then advance e.t s else mixEdge (advance e.t s))

/-- MIX_PERIOD_TIMEOUT: 1.01 frame periods since the last MIX edge. -/
def mixTimeout (s : State) : State :=
  match s.mir.lastMix with
  | some x => if scanning s && decide (101 * framePeriod s ≤ 100 * (s.sys.now - x)) then mirrorFault 0 s else s
  | none => s

def execMixPeriodTimeout (t : Nat) (s : State) : Host.Outcome State Fault Refusal := .next (mixTimeout (advance t s))

/-- MENC_EDGE: the count, and the interval that extrapolates the angle; counting in reverse is a fault while scanning. -/
def mencEdge (forward : Bool) (s : State) : State :=
  match s.pw.dp with
  | .ready | .scanning =>
    let m := s.mir
    let now := s.sys.now
    let int := match m.lastMenc with | some x => now - x | none => m.mencInt
    let s' := { s with mir := { m with
      lastMenc := some now, mencInt := int, count := if forward then satAdd 16 m.count 1 else m.count - 1 } }
    if scanning s && !forward then mirrorFault 3 s' else s'
  | _ => s

def execMencEdge (t : Nat) (forward : Bool) (s : State) : Host.Outcome State Fault Refusal := .next (mencEdge forward (advance t s))

/-- MENC_STALL_TIMEOUT: no edge for 4 expected intervals of T ÷ MENC_CPR. -/
def mencStall (s : State) : State :=
  match s.mir.lastMenc with
  | some x => if scanning s && decide (4 * framePeriod s ≤ (s.sys.now - x) * mencCpr s) then mirrorFault 2 s else s
  | none => s

def execMencStallTimeout (t : Nat) (s : State) : Host.Outcome State Fault Refusal := .next (mencStall (advance t s))

/-- MIRROR_CHECK_TIMEOUT: the event, once after each data-plane start; checking goes on. -/
def mirrorCheckLate (s : State) : State :=
  if s.pw.dp == .ready && !s.pw.mirrorRaised && decide (s.pw.readyAt + 2 * secNs ≤ s.sys.now) then
    raise evMirror { s with pw := { s.pw with mirrorRaised := true } }
  else s

def execMirrorCheckTimeout (t : Nat) (s : State) : Host.Outcome State Fault Refusal := .next (mirrorCheckLate (advance t s))

/-- EX_MIR_STAT: LOCKED and the last MIX period in µs. -/
def mirStat (s : State) : Nat := bitIf s.mir.locked 31 + sat 24 (s.mir.period / 1000)

/-- EX_MIR_CNT. -/
def mirCnt (s : State) : Nat := put s.mir.fault.toNat 16 4 + sat 16 s.mir.lastCount

/-- W1C of EX_MIR_CNT.FAULT. -/
def mirCntClear (w : Nat) (s : State) : State :=
  { s with mir := { s.mir with fault := w1c s.mir.fault (BitVec.ofNat 4 (fld w 16 4)) } }

def execExMirCntWrite (w : Word) (s : State) : Host.Outcome State Fault Refusal := .next (mirCntClear w.toNat s)

end Sys2Proof.Machine
end

