-- ==== Sys2Proof/Machine/Reset.lean ====
section
/-! DEFINITION. Machine/Reset.lean: what a reset of each plane loses and keeps (R87, R105 to R109, R439), and the planes' leaving of
reset (Table 4.1). -/

namespace Sys2Proof.Machine

/-! ### Results of a plane (R14) -/

/-- Results of the management plane: meter, mains watch, clocks, CRC units, host port, events, link, matrix, COMMIT_STATUS. -/
def mgmtResult (a : Nat) : Bool :=
  decide (0x010000 ≤ a ∧ a < 0x040000) || decide (0x050000 ≤ a ∧ a < 0x060000) || decide (0x580000 ≤ a)

/-- Results of the control plane: safety mirror, track front end, axle evaluator. -/
def ctrlResult (a : Nat) : Bool := decide (0x4C0000 ≤ a ∧ a < 0x580000)

/-- The results at addresses that satisfy `p` return to the state before the first result. -/
def dropResults (p : Nat → Bool) (s : State) : State :=
  { s with res := mfilter (fun a => !p a) s.res, regs := mfilter (fun a => !p a) s.regs }

/-! ### The management plane (R107) -/

/-- What the energy meter keeps: the switches of the supply, the states that the other planes see, and the totals in MRAM. -/
def meterLost (p : Sup) : Sup :=
  { p with eTotal := p.eTotalMram, eInt := 0, rides := 0, throttle := 0, intervals := 0, eFrame := 0, eRem := 0, eChg := 0, eVinLast := 0
           whyMissing := false }

/-- The state of the management plane is lost: sessions, transfers, unacknowledged writes, a pending commit, the map stage buffer,
routing, the host port, the link, the CRC units and the matrix. -/
def mgmtLost (s : State) : State :=
  let s := endSession { s with cf := { s.cf with pend := none } }
  let watch := decide (cfgN s 0x1200 0x10 ≠ 0)
  dropResults mgmtResult { s with
    sys := { s.sys with mgmtUp := false, hpUp := false, slewLeft := 0, slewEnd := 0 }
    sup := meterLost s.sup
    mw := { mstate := watch.toNat, crossAt := s.sys.now }
    cf := { s.cf with mapStage := none, unacked := [], live := [], status := 0, verify := 0 }
    sess := { s.sess with lockLeft := s.sess.lockMram, lockAt := s.sys.now }
    ac := { s.ac with staged := none, colours := [], changed := [], asked := [], gen := 0, coordApply := 0, lastRefresh := 0, stopped := false, conflict := false }
    zl := { ({} : Zl) with nonce := s.zl.nonce }
    dc := {}
    hp := {}
    ed := {}
    crc0 := {}
    crc1 := {}
    lm := { ({} : Lm) with configured := s.lm.configured } }

/-- A reset is counted, with its cause and planes (bit 0 data, 1 control, 2 management). -/
def countReset (cause planes : Nat) (s : State) : State :=
  { s with sys := { s.sys with cause := cause, planes := BitVec.ofNat 3 planes, resets := satAdd 16 s.sys.resets 1 } }

/-- A management-plane reset. -/
def mgmtReset (cause : Nat) (s : State) : State := countReset cause 4 (mgmtLost s)

/-- MGMT_RESET_DONE: the host port and the link respond again. -/
def mgmtResetDone (s : State) : State :=
  if s.sys.powered && s.sys.ctrlUp && !s.sys.mgmtUp then
    { s with sys := { s.sys with mgmtUp := true, hpUp := true } }
  else s

def execMgmtResetDone (t : Nat) (s : State) : Host.Outcome State Fault Refusal := .next (mgmtResetDone (advance t s))

/-- MP_WATCHDOG_EXPIRY (CAUSE 6). -/
def execMpWatchdogExpiry (t : Nat) (s : State) : Host.Outcome State Fault Refusal :=
  let s := advance t s
  .next (if s.sys.mgmtUp && s.sup.vstate != 2 then mgmtReset 6 s else s)

/-! ### The data plane (R108) -/

/-- The frame in flight is abandoned, the state falls to VIGIL, and the data plane starts again where the state asks for it. -/
def dataReset (s : State) : State :=
  let s := countReset 5 1 (dpStop s)
  let s := { s with pw := { s.pw with st := 3 } }
  if 4 ≤ selectState s then dpStart s else s

/-! ### The control plane -/

/-- The state of the control plane is lost: both channels, the sections but for their counts in MRAM, the track front end but for
the level of its pin. -/
def ctrlLost (s : State) : State :=
  dropResults ctrlResult { s with
    sys := { s.sys with ctrlUp := false, stA := none, stB := none, oper := false, spHalt := false }
    safA := safReset
    safB := safReset
    out := {}
    tf := { ({} : Tfu) with pin := s.tf.pin, pinRel := s.tf.pinRel }
    ax := { ({} : Ax) with cntA := s.ax.cntA, cntB := s.ax.cntB } }

/-! ### The whole device -/

/-- A wake comparator after a reset: below, with its latch (Tables 4.3 and 4.4). -/
def wcReset (x : Wc) : Wc := { latch := x.latch, tickAt := x.tickAt }

/-- A whole-device reset: a protective stop. System time, wake latches, the charge on CHOLD and HOLD_READY (R62), the governor's
limits and windows, and what MRAM holds are kept. -/
def deviceReset (cause : Nat) (s : State) : State :=
  let s := endSession (dpStop (openBoth { s with cf := { s.cf with pend := none } }))
  countReset cause 7 { ({} : State) with
    pending := s.pending
    sys := { s.sys with
      ctrlUp := false, mgmtUp := false, hpUp := false, stA := none, stB := none, oper := false, spHalt := false
      cameFromStandby := false, resetDue := [], slewLeft := 0, slewEnd := 0 }
    sup := { ({} : Sup) with
      vinPath := s.sup.vinPath, holdPath := s.sup.holdPath, uvlo := s.sup.uvlo, vstate := s.sup.vstate, cmeas := s.sup.cmeas
      holdReady := s.sup.holdReady, holdLow := s.sup.holdLow, eTotal := s.sup.eTotalMram, eTotalMram := s.sup.eTotalMram }
    pw := { ({} : Pw) with
      lfxFail := s.pw.lfxFail, mrcAOkSince := s.pw.mrcAOkSince, mrcBOkSince := s.pw.mrcBOkSince, mrcAFault := s.pw.mrcAFault
      mrcBFault := s.pw.mrcBFault, mrcBSince := s.pw.mrcBSince, mrcBEnd := s.pw.mrcBEnd, lastB := s.sys.now, frameSys := s.sys.sysTime, idleFrom := s.sys.now }
    wc := s.wc.filterMap fun e => let x := wcReset e.2; if x = {} then none else some (e.1, x)
    gov := { s.gov with trip := 0, fcCnt := [] }
    cf := { ({} : Cf) with copyA := s.cf.copyA, copyB := s.cf.copyB, staged := s.cf.staged, safety := s.cf.safety }
    sess := { s.sess with lockLeft := s.sess.lockMram, lockAt := s.sys.now }
    tf := { ({} : Tfu) with pin := s.tf.pin, pinRel := s.tf.pinRel }
    ax := { ({} : Ax) with cntA := s.ax.cntA, cntB := s.ax.cntB }
    zl := { ({} : Zl) with nonce := s.zl.nonce } }

/-- A wake from STANDBY is under way: entry is complete and the islands are starting. -/
def waking (s : State) : Bool := s.pw.st == 2 && s.pw.wakeHold && s.pw.standbyAt.isNone

/-- The medium oscillators run and the two planes leave reset: the HFX start is requested and the charger starts. After a wake this is
entry to VIGIL: the host port responds, and the fast start begins where the automatic demand asks for it (R89). -/
def planesUp (s : State) : State :=
  let woke := waking s
  let s := { s with
    sys := { s.sys with ctrlUp := true, mgmtUp := true, hpUp := s.sys.hpUp || woke }
    sup := { (if s.sup.vstate = 0 ∧ s.sup.vinPath = true then chargeOn s.sys.now s.sup else chargeOff false s.sup) with
      chgI := cfgN s 0x1200 0xA }
    pw := { s.pw with st := if woke then 3 else s.pw.st, wakeHold := s.pw.wakeHold && !woke } }
  let s := hfxFollow s
  if woke && cfgF s 0x1100 3 && decide (4 ≤ s.pw.demand) then dpStart s else s

/-- Nothing holds the planes in reset. -/
def planesFree (s : State) : Bool :=
  s.sys.powered && !s.sys.pinReset && !s.sys.railLow && !s.sys.ctrlUp && (s.pw.st != 2 || waking s)

/-- PLANES_LEAVE_RESET. -/
def planesLeave (s : State) : State := if planesFree s then planesUp s else s

def execPlanesLeaveReset (t : Nat) (s : State) : Host.Outcome State Fault Refusal := .next (planesLeave (advance t s))

/-! ### Causes of a whole-device reset (Table 4.4) -/

/-- The device takes reset requests: it is powered and SAVE has not begun (R109). -/
def resettable (s : State) : Bool := s.sys.powered && s.sup.vstate != 2

/-- RESET_N has been low for `low` ns: recognised from 10 µs on, ignored below 1 µs, and between them either outcome. -/
def pinRecognised (low : Nat) (s : State) : Bool × State :=
  if 10000 ≤ low then (true, s) else if low < 1000 then (false, s) else (bitAt (freeNow s) 0, drawn s)

/-- RESET_PIN_ASSERT. A level that stands in SAVE or OFF holds the following power-up (R109). -/
def pinAssert (low : Nat) (s : State) : State :=
  let r := pinRecognised low s
  if !r.1 then r.2
  else
    let s := if resettable r.2 then deviceReset 1 r.2 else r.2
    { s with sys := { s.sys with pinReset := true } }

def execResetPinAssert (t lowNs : Nat) (s : State) : Host.Outcome State Fault Refusal := .next (pinAssert lowNs (advance t s))

/-- RESET_PIN_RELEASE: Table 4.1 resumes from its 3.0 ms row; during a power-up, not before that row. -/
def pinRelease (s : State) : State :=
  let s := { s with sys := { s.sys with pinReset := false } }
  if s.sys.bootAt + 3 * msNs ≤ s.sys.now then planesLeave s else s

def execResetPinRelease (t : Nat) (s : State) : Host.Outcome State Fault Refusal :=
  let s := advance t s
  .next (if s.sys.pinReset then pinRelease s else s)

/-- RAIL_UNDERVOLTAGE. -/
def execRailUndervoltage (t : Nat) (s : State) : Host.Outcome State Fault Refusal :=
  let s := advance t s
  .next (if resettable s then (let s := deviceReset 2 s; { s with sys := { s.sys with railLow := true } }) else s)

/-- RAIL_RECOVERY: Table 4.1 resumes from its 3.0 ms row. -/
def execRailRecovery (t : Nat) (s : State) : Host.Outcome State Fault Refusal :=
  let s := advance t s
  .next (if s.sys.railLow then planesLeave { s with sys := { s.sys with railLow := false } } else s)

/-- A reset of SCOPE `scope` is due 10 µs after the transfer that requests it (R110). -/
def scheduleReset (scope : Nat) (s : State) : State :=
  { s with sys := { s.sys with resetDue := s.sys.resetDue ++ [(scope, s.sys.now + 10000)] } }

/-- A write to SY_RESET with the KEY. -/
def syReset (scope : Nat) (s : State) : State := if s.sys.mgmtUp && resettable s then scheduleReset scope s else s

def execSyResetDataPlane (t : Nat) (s : State) : Host.Outcome State Fault Refusal := .next (syReset 1 (advance t s))
def execSyResetMgmtPlane (t : Nat) (s : State) : Host.Outcome State Fault Refusal := .next (syReset 2 (advance t s))
def execSyResetDevice (t : Nat) (s : State) : Host.Outcome State Fault Refusal := .next (syReset 3 (advance t s))

/-- A write of RESET_CMD: acknowledged, then scheduled. -/
def resetCmd (scope : Nat) (s : State) : State := writeCmd .host 0x1003 1 4 (fun s => (0, scheduleReset scope s)) s

def execResetCmdDataPlane (t : Nat) (s : State) : Host.Outcome State Fault Refusal := .next (resetCmd 1 (advance t s))
def execResetCmdMgmtPlane (t : Nat) (s : State) : Host.Outcome State Fault Refusal := .next (resetCmd 2 (advance t s))
def execResetCmdDevice (t : Nat) (s : State) : Host.Outcome State Fault Refusal := .next (resetCmd 3 (advance t s))

/-- RESET_TAKES_EFFECT: the oldest reset that is due. -/
def resetNow (s : State) : State :=
  match s.sys.resetDue with
  | [] => s
  | (scope, at_) :: rest =>
    if s.sys.now < at_ then s
    else
      let s := { s with sys := { s.sys with resetDue := rest } }
      if !resettable s then s
      else match scope with
        | 1 => dataReset s
        | 2 => mgmtReset 4 s
        | _ => deviceReset 3 s

def execResetTakesEffect (t : Nat) (s : State) : Host.Outcome State Fault Refusal := .next (resetNow (advance t s))

/-! ### Boundary scan and debug (R111 to R113) -/

/-- The level that the distributor gives pin INTA to INTD (T6 to T9); none = not driven (POL and OD of Table 19.8). -/
def intLevel (s : State) (k : Nat) : Option Bool :=
  let x := mget ({} : EdTgt) s.ed.tgt (6 + k)
  let hi := tLine s (6 + k) == x.pol
  if x.od && hi then none else some hi

/-- The digital pins whose levels the state holds, as the boundary-scan chain captures them: 0 to 3 INTA to INTD, 4 RESET_N, 5 TFBLANK
(DEDUCED, assumption 109). An open-drain output that is not driven is high through its pull-up. -/
def pinLevel (s : State) (k : Nat) : Bool :=
  if k < 4 then (intLevel s k).getD true else if k = 4 then !s.sys.pinReset else s.tf.pin

/-- What the device drives at pin INTA to INTD: the boundary-scan register under EXTEST and CLAMP, nothing under HIGHZ. -/
def pinOut (s : State) (k : Nat) : Option Bool :=
  match s.sys.jtag with
  | .extest => some (mget false s.sys.bscan k)
  | .clamp => some (mget false s.sys.bscan k)
  | .highz => none
  | _ => intLevel s k

/-- SAMPLE/PRELOAD captures the pins. -/
def pinCapture (s : State) : State := { s with sys := { s.sys with bscan := mtab false 6 (pinLevel s) } }

/-- An instruction is loaded that controls no pin. Leaving a pin-controlling one resets the device with CAUSE 7. -/
def jtagLoad (j : Jtag) (s : State) : State :=
  if !s.sys.powered then s
  else
    let s := if pinScan s && resettable s then deviceReset 7 s else s
    let s := { s with sys := { s.sys with jtag := j } }
    if j = .samplePreload then pinCapture s else s

/-- EXTEST, CLAMP or HIGHZ is loaded: BYPASS while a safety set is loaded, else a protective stop. -/
def jtagPins (j : Jtag) (s : State) : State :=
  if !s.sys.powered then s
  else if s.cf.safety then jtagLoad .bypass s
  else
    let s := abandonFrame (openBoth s)
    { s with sys := { s.sys with jtag := j, stops := satAdd 32 s.sys.stops 1 } }

def execJtagExtest (t : Nat) (s : State) : Host.Outcome State Fault Refusal := .next (jtagPins .extest (advance t s))
def execJtagClamp (t : Nat) (s : State) : Host.Outcome State Fault Refusal := .next (jtagPins .clamp (advance t s))
def execJtagHighz (t : Nat) (s : State) : Host.Outcome State Fault Refusal := .next (jtagPins .highz (advance t s))
def execJtagSamplePreload (t : Nat) (s : State) : Host.Outcome State Fault Refusal := .next (jtagLoad .samplePreload (advance t s))
def execJtagBypass (t : Nat) (s : State) : Host.Outcome State Fault Refusal := .next (jtagLoad .bypass (advance t s))

/-- JTAG_PIN_INSTRUCTION_EXIT. -/
def execJtagPinInstructionExit (t : Nat) (s : State) : Host.Outcome State Fault Refusal :=
  let s := advance t s
  .next (if pinScan s then jtagLoad .bypass s else s)

/-- SP_DEBUG_HALT: the debug port refuses every access while a safety set is loaded. -/
def debugHalt (s : State) : State :=
  if s.sys.ctrlUp && !s.cf.safety then openAll .a { s with sys := { s.sys with spHalt := true } } else s

def execSpDebugHalt (t : Nat) (s : State) : Host.Outcome State Fault Refusal := .next (debugHalt (advance t s))

/-- SY_CAUSE. -/
def syCause (s : State) : Nat := put s.sys.resets 16 16 + put s.sys.planes.toNat 4 3 + put s.sys.cause 0 4

end Sys2Proof.Machine
end

