-- ==== Sys2Proof/Machine/Startup.lean ====
section
/-! DEFINITION. Machine/Startup.lean: power-up, configuration load, self-tests, safety operational, and the full-chip erase (R97 to
R104, R338). -/

namespace Sys2Proof.Machine

/-! ### Power-up -/

/-- POWER_UP: the lockout releases. The cause tells a completed SAVE, and a loss without one is counted (R57). The governor loads its
locked block; its events stand when the distributor starts. -/
def powerUp (govA govB : Bool) (s : State) : State :=
  if s.sys.powered then s
  else
    let now := s.sys.now
    let nonce := BitVec.ofNat 32 (freeNow s)
    let s := drawn s
    let lost := s.sys.everOff && !s.sys.saveRecord
    let sys := s.sys
    let s := { s with
      sys := { sys with
        powered := true, sysTime := 0, bootAt := now, mgmtUp := true, cause := if sys.saveRecord then 8 else 0, planes := 7
        saveRecord := false, unsaved := if lost then satAdd 32 sys.unsaved 1 else sys.unsaved }
      sup := { s.sup with vinPath := true, holdPath := false, uvlo := false }
      pw := { s.pw with lastB := now, idleFrom := now, mrcAOkSince := some now, mrcBOkSince := some now }
      sess := { s.sess with lockAt := now }
      zl := { s.zl with nonce := nonce } }
    let s := govLoad govA govB s
    { s with sys := { s.sys with mgmtUp := false } }

def execPowerUp (t : Nat) (govAOk govBOk : Bool) (s : State) : Host.Outcome State Fault Refusal :=
  .next (powerUp govAOk govBOk (advance t s))

/-- HP_START_READY: 5.0 ms after power-up begins (R425). -/
def hpStart (s : State) : State :=
  if s.sys.mgmtUp && decide (s.sys.bootAt + 5 * msNs ≤ s.sys.now) then { s with sys := { s.sys with hpUp := true } } else s

def execHpStartReady (t : Nat) (s : State) : Host.Outcome State Fault Refusal := .next (hpStart (advance t s))

/-! ### Configuration load (Table 4.2) -/

/-- A copy as the factory leaves it (R103). -/
def emptyCopy (c : Copy) : Bool := c.count == 0 && c.objs.isEmpty && decide (c.map = {})

/-- The row of Table 4.2: the copy loaded (`some false` = A, `some true` = B), and the event. -/
def loadRow (aOk bOk : Bool) (a b : Copy) : Option Bool × Option Nat :=
  match aOk, bOk with
  | true, true => if a.count = b.count then (some false, none) else (some (decide (b.count < a.count)), some evCfgRollback)
  | true, false => (some false, some evCfgCopy)
  | false, true => (some true, some evCfgCopy)
  | false, false => (none, some evCfgLost)

/-- The configuration after the load. Safe defaults take neither epochs nor an assignment (R103, Table 9.3). -/
def loadConfig (aOk bOk : Bool) (s : State) : State :=
  let a := s.cf.copyA
  let b := s.cf.copyB
  let r := loadRow aOk bOk a b
  let c : Copy := match r.1 with | some false => a | some true => b | none => {}
  let repair := r.1.isSome && r.2.isSome
  let none_ := r.1.isNone || emptyCopy c
  let ep := if none_ then [] else c.epochs
  let asg := if none_ then none else c.assign
  let s := { s with
    cf := { s.cf with
      eff := c.objs, effPrev := c.objs, map := c.map, mapPrev := c.map, epochs := ep, epochsPrev := ep
      safety := c.safety, defaults := none_, repaired := repair, aBad := !aOk, bBad := !bOk, used := r.1 == some true, loaded := true
      count := c.count, copyA := if repair then c else a, copyB := if repair then c else b }
    ac := { s.ac with assign := asg, stale := asg.isSome, isDefault := false, lastAssign := s.sys.now }
    lm := { s.lm with configured := c.objs.any fun e => keyIx e.1 == 0x5800 } }
  match r.2 with | some e => raise e s | none => s

/-- CONFIG_LOAD: MP loads the configuration, the axle evaluator starts from its counts, and excitation starts. -/
def configLoad (aOk bOk cntAOk cntBOk : Bool) (s : State) : State :=
  if s.sys.ctrlUp && s.sys.mgmtUp && !s.cf.loaded then
    let s := loadConfig aOk bOk s
    let s := supplyCommitted (plannerDerive (accordCheck (linkCommitted (hfxFollow s))))
    let s := { s with ze := { s.ze with unmapped := unmappedZones s } }
    if hasTrack s then tfStartAll (axleStart (if s.sys.cameFromStandby then 2 else 1) cntAOk cntBOk s) else s
  else s

def execConfigLoad (t : Nat) (aOk bOk cntAOk cntBOk : Bool) (s : State) : Host.Outcome State Fault Refusal :=
  .next (configLoad aOk bOk cntAOk cntBOk (advance t s))

/-! ### The safety channels -/

/-- SELF_TEST_DONE: a failure latches STARTUP. -/
def selfTest (c : Chan) (pass : Bool) (s : State) : State :=
  if s.sys.ctrlUp && s.cf.loaded && !s.sys.oper then
    let s := match c with
      | .a => { s with sys := { s.sys with stA := some pass } }
      | .b => { s with sys := { s.sys with stB := some pass } }
    if pass then s else latchFault c fltStartup s
  else s

def execSelfTestDone (t : Nat) (c : Chan) (pass : Bool) (s : State) : Host.Outcome State Fault Refusal :=
  .next (selfTest c pass (advance t s))

/-- A channel at safety operational: filtered readings SAFE, the timers of pairs whose terminals disagree (R296), a reset input that is
high not ready for an edge (Table 4.3). -/
def channelStart (c : Chan) (lv : SinLevels) (s : State) : State :=
  let now := s.sys.now
  let pair := fun i : Nat =>
    let odd := sinRole s i != 0 && (termReads s i false lv != termReads s i true lv)
    ({ timer := if odd then some now else none } : Pair)
  let low := match resetPair s with | some i => !pairHigh s i lv | none => false
  let f := getC s c
  setC c { f with
    pairs := mtab {} 8 pair, rstLowSeen := low, rstLowSince := if low then some now else none, operAt := now, xAt := now
    secAt := now } s

/-- The track links start DOWN, their SEQ from 0 (R381, R384). -/
def linksStart (s : State) : State :=
  let go := fun (x : Tl) => { x with up := false, rxseq := none, statusRun := 0, lastRx := s.sys.now, lastStatus := s.sys.now, txseq := 0 }
  { s with ax := { s.ax with tl0 := go s.ax.tl0, tl1 := go s.ax.tl1 } }

/-- SAFETY_OPERATIONAL: both channels have passed their self-tests (R98). PWR_BOOT is requested but after a wake, and the fast start begins where the state asks for it. -/
def safetyOper (lvA lvB : SinLevels) (s : State) : State :=
  if s.sys.ctrlUp && s.cf.loaded && !s.sys.oper && s.sys.stA == some true && s.sys.stB == some true then
    let s := linksStart (channelStart .b lvB (channelStart .a lvA s))
    let s := { s with sys := { s.sys with oper := true, safeMs := if s.sys.safeMs = 0 then bootMs s else s.sys.safeMs } }
    let s := if s.sys.cameFromStandby then s
      else { s with pw := { s.pw with req := cfgN s 0x1100 8, demand := cfgN s 0x1100 8, idleFrom := s.sys.now } }
    let s := bothC evalDemands s
    if 4 ≤ selectState s then dpStart s else s
  else s

def execSafetyOperational (t : Nat) (lv : ChannelLevels) (s : State) : Host.Outcome State Fault Refusal :=
  .next (safetyOper lv.a lv.b (advance t s))

/-! ### The full-chip erase (R338) -/

/-- A configuration copy after an erase: every rw-s object at its default, the map empty, no safety set. -/
def erasedCopy (s : State) : Copy :=
  { count := satAdd 32 s.cf.count 1
    objs := s.cf.eff.filter fun e => !isSafetyKey e.1
    map := {}
    safety := false
    epochs := s.cf.epochs
    assign := s.ac.assign }

/-- An accepted erase: switches, log entry, copies, governor, reset. -/
def eraseNow (s : State) : State :=
  let s := openBoth s
  let c := erasedCopy s
  let new := crc32c (imageOf s.sys.variant c.objs c.map)
  let ks := (s.cf.eff.filter fun e => isSafetyKey e.1).map fun e => objField (keyObj e.1)
  let objs := (ks ++ (if s.cf.map = {} then [] else [objField (0x3400, 1)])).eraseDups.mergeSort fun a b => decide (a ≤ b)
  let s := logAdd 4 s.sess.user objs 0 (s.cf.count + 1) (cfgCrc s) new s
  deviceReset 3 (govErase { s with cf := { s.cf with copyA := c, copyB := c, safety := false } })

/-- SAFETY_ERASE: log, session, length, passphrase, KEY (R407). The reset that an accepted erase ends with leaves no response. -/
def safetyErase (p : Path) (d : List Byte) (s : State) : Nat × State :=
  if logFull s then (0x0610, s)
  else if !sessionOn s p then (0x0611, s)
  else
    let s := touchSession p s
    if 35 < d.length then (0x0622, s)
    else if d.length < 3 ∨ passLenOk d 2 = false ∨ passRange d 2 = false then (0x0621, s)
    else
      let r := passCheck s.sess.user (passAt d 2) s
      if r.1 ≠ 0 then r
      else if !r.2.sup.holdReady then (0x0640, r.2)
      else if leAt d 0 2 ≠ 0xE7A5 then (0x0620, r.2)
      else (0, eraseNow r.2)

def execSafetyErase (t : Nat) (path : Path) (data : List Byte) (s : State) : Host.Outcome State Fault Refusal :=
  .next (writeCmd path 0x4000 0x35 data.length (safetyErase path data) (advance t s))

/-- SY_CFG, SY_DBG, SY_BOOT. -/
def syCfg (s : State) : Nat :=
  bitIf s.cf.safety 7 + bitIf (s.cf.loaded && s.cf.defaults) 6 + bitIf s.cf.repaired 5 + bitIf s.cf.bBad 4 + bitIf s.cf.aBad 3 + bitIf s.cf.used 2

def syDbg (s : State) : Nat := bitIf s.cf.safety 1 + bitIf s.cf.safety 0

def syBoot (s : State) : Nat := put s.sys.safeMs 16 16 + put s.sys.frameMs 0 16

end Sys2Proof.Machine
end

