-- ==== Sys2Proof/Machine/Power.lean ====
section
/-! DEFINITION. Machine/Power.lean: clock checks, power requests, STANDBY and its wakes, wake comparators (R79 to R96). -/

namespace Sys2Proof.Machine

/-! ### Clock checks (Table 3.3) -/

/-- A PLL or HFX fault: the data plane stops at once, and the device stays in VIGIL until a new request. -/
def pllFault (s : State) : State :=
  dpStop (raise evClock { s with pw := { s.pw with pllBlock := true } })

/-- PLL_LOSS_OF_LOCK. -/
def pllLoss (s : State) : State := if s.pw.pllC || s.pw.pllT || s.pw.pllS then pllFault s else s

def execPllLossOfLock (t : Nat) (s : State) : Host.Outcome State Fault Refusal := .next (pllLoss (advance t s))

/-- LFX: not raised during the first 1.2 s after power-up (R101). -/
def checkLfx (edge : Bool) (s : State) : State :=
  if edge then { s with pw := { s.pw with lfxFail := false } }
  else if s.pw.lfxFail || decide (s.sys.now < s.sys.bootAt + 1200 * msNs) then s
  else raise evClock { s with pw := { s.pw with lfxFail := true } }

/-- A deviation beyond ±3 %. -/
def mrcOut (ppm : Int) : Bool := decide (30000 < ppm.natAbs)

def checkMrcA (ppm : Int) (s : State) : State :=
  if mrcOut ppm then
    let s := raiseIf (!s.pw.mrcAFault) evClock s
    latchFault .a fltClock { s with pw := { s.pw with mrcAFault := true, mrcAOkSince := none } }
  else
    let since := match s.pw.mrcAOkSince with | some x => x | none => s.sys.now
    { s with pw := { s.pw with mrcAFault := false, mrcAOkSince := some since } }

/-- MRC-B has been in range for 1 s after a fault: the time in which samples are BLANKED has ended (R359). -/
def mrcBSettle (s : State) : State :=
  match s.pw.mrcBOkSince with
  | some x => if s.pw.mrcBFault && decide (x + secNs ≤ s.sys.now) then
      { s with pw := { s.pw with mrcBFault := false, mrcBEnd := x + secNs } } else s
  | none => s

/-- MRC-B: the front end's samples stay BLANKED until it has been in range for 1 s (R359), and the matrix is off while it is out of
range (R456). -/
def checkMrcB (ppm : Int) (s : State) : State :=
  if mrcOut ppm then
    let s := raiseIf s.pw.mrcBOkSince.isSome evClock (mrcBSettle s)
    latchFault .b fltClock { lmOff s with pw := { s.pw with
      mrcBSince := if s.pw.mrcBFault then s.pw.mrcBSince else s.sys.now, mrcBFault := true, mrcBOkSince := none } }
  else
    let since := match s.pw.mrcBOkSince with | some x => x | none => s.sys.now
    mrcBSettle { s with pw := { s.pw with mrcBOkSince := some since } }

/-- HFX outside ±500 ppm or stopped: as a PLL loss of lock; HFX starts again where it is wanted, and is judged again once it is stable
(DESIGN CHOICE, assumption 110). -/
def checkHfx (ppm : Int) (runs : Bool) (s : State) : State :=
  if s.pw.hfxOk && (!runs || decide (500 < ppm.natAbs)) then
    let s := pllFault s
    hfxFollow { s with pw := { s.pw with hfxOk := false, hfxReq := none } }
  else s

/-- One round of the checks; without the medium oscillators only LFX is checked. -/
def clockCheck (m : ClockMeas) (s : State) : State :=
  if !s.sys.powered then s
  else
    let s := checkLfx m.lfxEdge s
    if s.sys.ctrlUp then checkHfx m.hfx m.hfxRuns (checkMrcB m.mrcB (checkMrcA m.mrcA s)) else s

def execClockCheck (t : Nat) (m : ClockMeas) (s : State) : Host.Outcome State Fault Refusal := .next (clockCheck m (advance t s))

/-- CK_STAT. -/
def ckStat (s : State) : Nat :=
  bitIf s.pw.pllS 5 + bitIf s.pw.pllT 4 + bitIf s.pw.pllC 3 + bitIf s.pw.hfxOk 2 +
    bitIf (bget s.safA.latch fltClock || bget s.safB.latch fltClock) 1 + bitIf s.pw.lfxFail 0

/-! ### Requests (R86) -/

/-- A value written to PWR_REQ or PW_REQ; others than 2 to 5 are ignored. It sets the automatic demand too, ends the hold of a PLL
fault and clears VIGILREQ (R246). A written 2 asks for STANDBY whatever PWR_AUTO is (DEDUCED, assumption 111). -/
def pwrReq (r : Nat) (s : State) : State :=
  if 2 ≤ r ∧ r ≤ 5 then
    vigilClear { s with pw := { s.pw with req := r, demand := r, idleFrom := s.sys.now, pllBlock := false } }
  else s

/-- Writes act while the management plane runs and SAVE has not begun. -/
def hostUp (s : State) : Bool := s.sys.mgmtUp && s.sup.vstate != 2

def execPwrReqWrite (t req : Nat) (s : State) : Host.Outcome State Fault Refusal :=
  let s := advance t s
  .next (if hostUp s then pwrReq req s else s)

/-- WAKE_EVENT. In STANDBY a wake takes the form of STANDBY_WAKE. -/
def execWakeEvent (t : Nat) (s : State) : Host.Outcome State Fault Refusal :=
  let s := advance t s
  .next (if s.sys.ctrlUp then wake s else s)

/-- PWR_IDLE_EXPIRY: PWR_IDLE seconds without a wake event lower the automatic demand to PWR_REST. -/
def idleExpiry (s : State) : State :=
  if s.sys.ctrlUp && decide (s.pw.idleFrom + cfgN s 0x1100 6 * secNs ≤ s.sys.now) then
    { s with pw := { s.pw with demand := min s.pw.demand (cfgN s 0x1100 4) } }
  else s

def execPwrIdleExpiry (t : Nat) (s : State) : Host.Outcome State Fault Refusal := .next (idleExpiry (advance t s))

/-- PW_STATE. -/
def pwState (s : State) : Nat :=
  put s.pw.wakeCause 16 3 + put s.pw.wcMask.toNat 8 8 + put (selectState s) 4 4 + put s.pw.st 0 3

/-! ### STANDBY (R87 to R90) -/

/-- The comparators whose latch, with WAKE = 1, wakes the device. -/
def wakeMask (s : State) : Nat :=
  maskOf 8 fun n => (mget {} s.wc n).latch && bitAt (cfgN s 0x1800 (0x30 + n)) 2

def srcCode (src : WakeSrc) : Nat := match src with | .comparator => 1 | .zeley => 2 | .host => 3

/-- The cause of a wake is noted. With PWR_AUTO = 0 the wake sets PWR_REQ to 3; it sets the automatic demand to PWR_WAKE_TO. -/
def wakeNote (code : Nat) (s : State) : State :=
  let s := rxLatchesEnd (wake s)
  { s with
    pw := { s.pw with
      wakeHold := true, wakeCause := code, wcMask := if code = 1 then BitVec.ofNat 8 (wakeMask s) else 0
      req := if cfgF s 0x1100 3 then s.pw.req else 3 }
    sys := { s.sys with cameFromStandby := true } }

/-- STANDBY_WAKE. The first wake counts; one that comes during the entry acts when entry is complete (R87). -/
def standbyWake (src : WakeSrc) (s : State) : State :=
  if s.sys.powered && s.pw.st == 2 && !s.pw.wakeHold && (src != .comparator || wakeLatched s) then wakeNote (srcCode src) s else s

def execStandbyWake (t : Nat) (src : WakeSrc) (s : State) : Host.Outcome State Fault Refusal :=
  .next (standbyWake src (advance t s))

/-- STANDBY_ENTRY_DONE: both islands are off, and what they held is lost. The always-on domain keeps the configuration in effect for
its comparators until MP loads it again. -/
def standbyDone (s : State) : State :=
  if s.pw.standbyAt.isSome then
    let s := ctrlLost (mgmtLost s)
    let s := { s with
      pw := { s.pw with standbyAt := none }
      cf := { s.cf with loaded := false }
      sup := { chargeOff false s.sup with grant := 0, whyMissing := false, whyMains := false, whyRate := false } }
    if wakeLatched s && !s.pw.wakeHold then wakeNote 1 s else s
  else s

def execStandbyEntryDone (t : Nat) (s : State) : Host.Outcome State Fault Refusal := .next (standbyDone (advance t s))

/-! ### Wake comparators (R91 to R93) -/

def wcCfg (s : State) (n : Nat) : Nat := cfgN s 0x1800 (0x30 + n)

/-- DIV as it acts: KL-02, WC7 has no tick longer than that of DIV 6. -/
def wcDiv (s : State) (n : Nat) : Nat := let d := fld (wcCfg s n) 12 4; if n = 7 then min d 6 else d

/-- A tick of 2^DIV LFX periods has passed since the last sample; three quarters of it tell one tick from the next. -/
def wcTickDue (s : State) (n : Nat) (x : Wc) : Bool :=
  match x.tickAt with
  | none => true
  | some a => decide (3 * (2 ^ wcDiv s n * secNs) ≤ 4 * ((s.sys.now - a) * 32768))

/-- VTH and HYS in mV. -/
def wcVth (s : State) (n : Nat) : Nat := 20 * min 60 (fld (wcCfg s n) 16 6)
def wcHys (s : State) (n : Nat) : Nat := [0, 10, 20, 40].getD (fld (wcCfg s n) 10 2) 0

/-- The state after a sample (R92). -/
def wcNext (s : State) (n mv : Nat) (x : Wc) : Bool :=
  if wcVth s n < mv then true else if mv + wcHys s n < wcVth s n then false else if x.fresh then false else x.above

/-- A sample: the state, the run in the selected polarity since the state has changed to it, and whether the latch sets (R93). -/
def wcSample (s : State) (n mv : Nat) (x : Wc) : Wc × Bool :=
  let st := wcNext s n mv x
  let hit := st != bitAt (wcCfg s n) 1
  let changed := hit && (x.changed || st != x.above)
  let run := if changed then (if x.changed then x.run + 1 else 1) else 0
  let fire := changed && decide (run = fld (wcCfg s n) 8 2 + 1)
  ({ x with
      above := st, run := if fire then 0 else run, latch := x.latch || fire, fresh := false, changed := changed && !fire
      tickAt := some s.sys.now }, fire)

/-- WC_TICK. A latch with WAKE = 1 is a wake event in every state. -/
def wcTick (n mv : Nat) (s : State) : State :=
  let x := mget {} s.wc n
  if s.sys.powered && bitAt (wcCfg s n) 0 && wcTickDue s n x then
    let r := wcSample s n mv x
    let s' := { s with wc := mset {} s.wc n r.1 }
    if r.2 then
      let s' := if s.sys.mgmtUp then edSync n s' else s'
      if bitAt (wcCfg s n) 2 then wake s' else s'
    else s'
  else s

def execWcTick (t : Nat) (n : Fin 8) (mv : Nat) (s : State) : Host.Outcome State Fault Refusal := .next (wcTick n mv (advance t s))

/-- W1C of the latches named. -/
def wcClear (v : Nat) (s : State) : State :=
  (List.range 8).foldl (fun s n =>
    if bitAt v n then
      let x := mget {} s.wc n
      edSync n { s with wc := mset {} s.wc n { x with latch := false } }
    else s) s

def execWcStatWrite (v : Word) (s : State) : Host.Outcome State Fault Refusal :=
  .next (if hostUp s then wcClear v.toNat s else s)

def execWcLatchWrite (v : Byte) (s : State) : Host.Outcome State Fault Refusal :=
  .next (if hostUp s then wcClear v.toNat s else s)

/-- WC_STAT. -/
def wcStat (s : State) : Nat :=
  put (maskOf 8 fun n => (mget {} s.wc n).above) 8 8 + maskOf 8 fun n => (mget {} s.wc n).latch

end Sys2Proof.Machine
end

