-- ==== Sys2Proof/Machine/Distributor.lean ====
section
/-! DEFINITION. Machine/Distributor.lean: the event distributor: claims, completions and the writes of its registers (R429 to R442). -/

namespace Sys2Proof.Machine

def edSrcGet (s : State) (n : Nat) : EdSrc := mget {} s.ed.src n
def edTgtGet (s : State) (t : Nat) : EdTgt := mget {} s.ed.tgt t

/-! ### Claim (R436) -/

/-- What is signalled to target `t`: ID and level. A full stack accepts nothing (R431). -/
def edCands (s : State) (t : Nat) : List (Nat × Nat) :=
  let x := edTgtGet s t
  if dataClass t && decide (8 ≤ x.stack.length) then []
  else (signalledTo s t).map (fun e => (e.1, e.2.level)) ++ (localReady s t).map fun i => (0x200 + i, mget 0 x.llvl i)

/-- The highest level, ties to the lower ID; the candidates are in ascending order of ID. -/
def bestCand : List (Nat × Nat) → Option (Nat × Nat)
  | [] => none
  | c :: cs => match bestCand cs with
    | some d => if c.2 < d.2 then some d else some c
    | none => some c

/-- The ID that a claim would return now. -/
def edNext (s : State) (t : Nat) : Nat :=
  match bestCand (edCands s t) with
  | some c => c.1
  | none => if (edTgtGet s t).withdrawn then 0x3FF else 0x3FE

/-- The claimed source is in service at `t`: on the stack of a data-class target, among the claimed of a system-class one. -/
def edServe (t id lvl : Nat) (x : EdTgt) : EdTgt :=
  if dataClass t then { x with stack := (lvl, id) :: x.stack } else { x with claimed := (lvl, id) :: x.claimed }

/-- A claim of a shared source, or of a local one. KL-06: just after its completion and re-sample, the claim of a source from 376 on
may return 0x3FF (R438). -/
def edTake (t id lvl : Nat) (s : State) : Nat × State :=
  if id < 0x200 then
    let src := edSrcGet s id
    if decide (376 ≤ id) && src.again && bitAt (freeNow s) 0 then
      (0x3FF, edSync id (edSrcSet id { src with sig := none, again := false } (drawn s)))
    else
      let s := if 376 ≤ id ∧ src.again = true then drawn s else s
      (id, edTgtSet t (edServe t id lvl (edTgtGet s t)) (edSrcSet id { src with sig := none, inserv := some t, again := false } s))
  else
    let x := edTgtGet s t
    (id, edTgtSet t (edServe t id lvl { x with lpend := bset x.lpend (id - 0x200) false }) s)

/-- A claim ends a withdrawal and the target's wake request. -/
def edClaim (t : Nat) (s : State) : Nat × State :=
  let id := edNext s t
  let best := bestCand (edCands s t)
  let s := edTgtSet t { edTgtGet s t with withdrawn := false, wakereq := false } s
  let r := match best with | some c => edTake t c.1 c.2 s | none => (id, s)
  (r.1, edLine t { r.2 with ed := { r.2.ed with lastClaim := r.1 } })

def execEdClaim (tg : Fin 10) (s : State) : Host.Outcome State Fault Refusal :=
  .next (if s.sys.mgmtUp then (edClaim tg s).2 else s)

/-! ### Completion (R431, R432, R436) -/

def edErr (s : State) : State := { s with ed := { s.ed with eoiErr := satAdd 16 s.ed.eoiErr 1 } }

/-- An ID that names a source, shared or local. -/
def idValid (id : Nat) : Bool := decide (id < 384) || (decide (0x200 ≤ id) && decide (id < 0x220))

/-- A source leaves service and is sampled again. -/
def edFree (id : Nat) (s : State) : State :=
  if id < 384 then
    let again := decide (376 ≤ id) && srcLevel s id
    edSync id (edSrcSet id { edSrcGet s id with inserv := none, again := again } s)
  else s

/-- A completion at a data-class target pops the stack, whatever source it names. -/
def edPop (t id : Nat) (s : State) : State :=
  let x := edTgtGet s t
  match x.stack with
  | [] => edErr s
  | (_, n) :: rest =>
    if !idValid id then edErr s
    else edFree n (edTgtSet t { x with stack := rest } (if n = id then s else edErr s))

/-- A completion at a system-class target names a source that it has claimed. -/
def edDrop (t id : Nat) (s : State) : State :=
  let x := edTgtGet s t
  match x.claimed.find? (fun e => e.2 == id) with
  | some e => edFree id (edTgtSet t { x with claimed := x.claimed.erase e } s)
  | none => edErr s

def edComplete (t id : Nat) (s : State) : State :=
  edLine t (edArbitrate (if dataClass t then edPop t id s else edDrop t id s))

def execEdComplete (tg : Fin 10) (w : Word) (s : State) : Host.Outcome State Fault Refusal :=
  .next (if hostUp s then edComplete tg (fld w.toNat 0 10) s else s)

/-! ### Routes and targets -/

/-- A TMASK that names targets of both classes. -/
def maskMixed (m : Nat) : Bool := decide (fld m 0 5 ≠ 0) && decide (fld m 5 5 ≠ 0)

/-- A source as its word sets it. -/
def srcOf (w : Nat) (x : EdSrc) : EdSrc :=
  { x with en := bitAt w 31, level := fld w 16 4, tmask := BitVec.ofNat 10 w
           sig := if x.tmask = BitVec.ofNat 10 w ∨ bitAt w 31 = false then x.sig else none }

/-- A write of ED_SRCn: a mixed TMASK rejects it as a whole; a changed route takes a signal back (R437). -/
def edSrcWrite (n w : Nat) (s : State) : State :=
  if maskMixed w then { s with ed := { s.ed with routeErr := true } }
  else
    let old := (edSrcGet s n).sig
    let s := edSync n (edSrcSet n (srcOf w (edSrcGet s n)) s)
    match old with | some t => edLine t s | none => s

def execEdSrcWrite (n : Fin 384) (w : Word) (s : State) : Host.Outcome State Fault Refusal :=
  .next (if hostUp s then edSrcWrite n w.toNat s else s)

/-- A target that is disabled or asleep keeps no signal. -/
def edTakeBack (t : Nat) (s : State) : State :=
  let x := edTgtGet s t
  if x.en && tAwake s t then s
  else (signalledTo s t).foldl (fun s e => edSrcSet e.1 { e.2 with sig := none } s) s

/-- A target as its word sets it: SLEEP of T6 to T9, THR of the system class. -/
def tgtOf (t w : Nat) (x : EdTgt) : EdTgt :=
  { x with en := bitAt w 31, sleep := decide (6 ≤ t) && bitAt w 30, pol := bitAt w 29, od := bitAt w 28
           thr := if dataClass t then 0 else fld w 0 4 }

def edTcfgWrite (t w : Nat) (s : State) : State :=
  edLine t (edArbitrate (edTakeBack t (edTgtSet t (tgtOf t w (edTgtGet s t)) s)))

def execEdTcfgWrite (tg : Fin 10) (w : Word) (s : State) : Host.Outcome State Fault Refusal :=
  .next (if hostUp s then edTcfgWrite tg w.toNat s else s)

/-! ### Local sources (R434) -/

def edLset (t w : Nat) (s : State) : State :=
  (List.range 16).foldl (fun s i => if bitAt w i then localEdgeT i t s else s) s

def execEdLsetWrite (tg : Fin 10) (w : Word) (s : State) : Host.Outcome State Fault Refusal :=
  .next (if hostUp s then edLset tg w.toNat s else s)

def edLpend (t : Nat) (w : Word) (s : State) : State :=
  let x := edTgtGet s t
  edLine t (edTgtSet t { x with lpend := w1c x.lpend w } s)

def execEdLpendWrite (tg : Fin 10) (w : Word) (s : State) : Host.Outcome State Fault Refusal :=
  .next (if hostUp s then edLpend tg w s else s)

/-- Any write clears COAL. -/
def edLcnt (t : Nat) (s : State) : State := edTgtSet t { edTgtGet s t with lcnt := 0 } s

def execEdLcntWrite (tg : Fin 10) (s : State) : Host.Outcome State Fault Refusal := .next (if hostUp s then edLcnt tg s else s)

/-- ED_LENt. -/
def edLen (t : Nat) (w : Word) (s : State) : State := edLine t (edTgtSet t { edTgtGet s t with len := w } s)

/-- ED_LLVLt_j. -/
def edLlvl (t j w : Nat) (s : State) : State :=
  let x := edTgtGet s t
  edLine t (edTgtSet t { x with llvl := (List.range 8).foldl (fun m k => mset 0 m (8 * j + k) (fld w (4 * k) 4)) x.llvl } s)

/-! ### Flags -/

/-- ED_STAT: ROUTEERR is W1C; any write clears EOIERR. -/
def edStatWrite (w : Nat) (s : State) : State :=
  { s with ed := { s.ed with routeErr := s.ed.routeErr && !bitAt w 31, eoiErr := 0 } }

def execEdStatWrite (w : Word) (s : State) : Host.Outcome State Fault Refusal := .next (if hostUp s then edStatWrite w.toNat s else s)

/-- Bring the sources from `a` to `a + n − 1` up to date. -/
def edSyncs (a n : Nat) (s : State) : State := (List.range n).foldl (fun s i => edSync (a + i) s) s

def edSwi (w : Nat) (s : State) : State := edSyncs 381 3 { s with ed := { s.ed with swi := BitVec.ofNat 3 w } }

def execEdSwiWrite (w : Word) (s : State) : Host.Outcome State Fault Refusal := .next (if hostUp s then edSwi w.toNat s else s)

def edSecchg (w : Word) (s : State) : State := edSyncs 64 32 { s with ed := { s.ed with secchg := w1c s.ed.secchg w } }

def execEdSecchgWrite (w : Word) (s : State) : Host.Outcome State Fault Refusal := .next (if hostUp s then edSecchg w s else s)

/-- W1C of event flags, by ED_EVT0, ED_EVT1 or EVT_CLR. -/
def edEvtClear (v : Nat) (s : State) : State :=
  edSyncs 320 56 { s with ed := { s.ed with evt := w1c s.ed.evt (BitVec.ofNat 56 v) } }

def execEdEvtWrite (flags : BitVec 64) (s : State) : Host.Outcome State Fault Refusal :=
  .next (if hostUp s then edEvtClear flags.toNat s else s)

/-- WAKET: other values than 5 to 9 act as 5. -/
def edWaket (w : Nat) (s : State) : State :=
  let v := fld w 0 4
  { s with ed := { s.ed with waket := if 5 ≤ v ∧ v ≤ 9 then v else 5 } }

/-! ### Reads (Table 19.11) -/

/-- ED_SRCn. -/
def edSrcWord (s : State) (n : Nat) : Nat :=
  let x := edSrcGet s n
  let live := srcLevel s n
  bitIf x.en 31 + bitIf (live && x.inserv.isNone) 30 + bitIf x.inserv.isSome 29 + bitIf live 28 + put x.ptr 24 4 + put x.level 16 4 +
    x.tmask.toNat

/-- ED_TCFGt. -/
def edTcfgWord (s : State) (t : Nat) : Nat :=
  let x := edTgtGet s t
  bitIf x.en 31 + bitIf x.sleep 30 + bitIf x.pol 29 + bitIf x.od 28 + put x.thr 0 4

/-- ED_TSTATt. -/
def edTstat (s : State) (t : Nat) : Nat :=
  let x := edTgtGet s t
  let run := runLevel x t
  bitIf x.wakereq 31 + bitIf (tLine s t) 30 + (if dataClass t then put x.stack.length 20 4 else 0) + put (run.getD 15) 16 4 +
    bitIf run.isNone 15 + put (edNext s t) 0 10

/-- ED_STACKt, entry 0 at the bottom. -/
def edStack (s : State) (t : Nat) : Nat :=
  if dataClass t then (((edTgtGet s t).stack.reverse.zipIdx).map fun e => put e.1.1 (4 * e.2) 4).sum else 0

/-- ED_LLVLt_j. -/
def edLlvlWord (s : State) (t j : Nat) : Nat :=
  let x := edTgtGet s t
  ((List.range 8).map fun k => put (mget 0 x.llvl (8 * j + k)) (4 * k) 4).sum

/-- The event flags as read, with the matrix's in its place. -/
def edFlags (s : State) : Nat := maskOf 56 fun j => srcLevel s (320 + j)

end Sys2Proof.Machine
end

