-- ==== Sys2Proof/Machine/Matrix.lean ====
section
/-! DEFINITION. Machine/Matrix.lean: the indicator matrix: scan slots, colour regulation, open-LED diagnosis, page swaps and its
event flags (chapter 21). -/

namespace Sys2Proof.Machine

/-- Scanning (R456): the matrix is present, enabled and configured, and nothing of R456 turns its outputs off. -/
def lmOn (s : State) : Bool :=
  !s.sup.uvlo &&
  hasTrack s && s.sys.mgmtUp && cfgF s 0x5800 1 && s.lm.configured && decide (s.pw.st ≠ 2) && decide (s.sup.vstate ≠ 2) &&
  s.pw.mrcBOkSince.isSome

/-- PRE_EFF in MRC-B cycles (R454). -/
def lmPreEff (s : State) : Nat := cfgN s 0x5800 5 + if cfgF s 0x5800 7 then 128 else 0

/-- TRIM_c; c = 0 R, 1 G, 2 B. -/
def lmTrim (x : Lm) (c : Nat) : Nat := if c = 0 then x.trimR else if c = 1 then x.trimG else x.trimB

/-- ISET_c × TRIM_c ÷ 256 in units of 1/256 µA, before the limit of 60 mA (R455). -/
def lmCurRaw (s : State) (c : Nat) : Nat := cfgN s 0x5800 (2 + c) * lmTrim s.lm c

/-- I_c in units of 1/256 µA (R455). -/
def lmCur (s : State) (c : Nat) : Nat := min (60000 * 256) (lmCurRaw s c)

/-- Level of die `d` of row `row` in the page shown; d = 3 × column + colour. -/
def lmLevel (s : State) (row d : Nat) : Nat :=
  fld (mget 0 s.lm.pix (192 * s.lm.page + 16 * row + d / 3)).toNat (8 * (d % 3)) 8

/-- On-time in MRC-B cycles before the stretch of R458 (R454). -/
def lmOnBase (s : State) (row d : Nat) : Nat := min (lmLevel s row d * 15) (4080 - lmPreEff s)

/-- The die's short pulse is stretched in this cycle (R458): 1.0 µs is 64 cycles. -/
def lmStretch (s : State) (row d : Nat) : Bool :=
  cfgF s 0x5800 8 && decide (0 < lmOnBase s row d) && decide (lmOnBase s row d < 64) && decide (s.lm.cycle % 64 = 0)

/-- On-time in MRC-B cycles (R454, R458). -/
def lmOnTime (s : State) (row d : Nat) : Nat := if lmStretch s row d then 64 else lmOnBase s row d

/-- KL-07: on stepping B0 the pre-charge of row 11 is insufficient when any I_c exceeds 40 mA without XPRE, and row 11 shows a
faint copy of row 10. -/
def lmGhost (s : State) : Bool :=
  s.lm.row == some 11 && !cfgF s 0x5800 7 && (List.range 3).any fun c => decide (40000 * 256 < lmCur s c)

/-- Set bits of LM_EVT and show them to source 359 (R459). -/
def lmRaise (bits : Nat) (s : State) : State :=
  if bits = 0 then s
  else edSync 359 { s with lm := { s.lm with evt := s.lm.evt ||| BitVec.ofNat 4 bits } }

/-! ### Slots (R453, R454) -/

/-- The swap at the start of a scan cycle (R460): LATE where it was armed late or SYNC = 0. -/
def lmSwap (s : State) : State :=
  match s.lm.armed with
  | some (page, time, late) =>
    if time ≤ s.sys.sysTime.toNat then
      let late := late || !s.zl.sync
      let now := s.sys.sysTime
      let s := { s with lm := { s.lm with page := page, armed := none, swapTime := now, swapLate := late } }
      let s := post 0x5C0040 (2 * late.toNat + page) [(0x5C0044, fld now.toNat 0 32), (0x5C0048, fld now.toNat 32 32)] s
      lmRaise (bitIf late 3) s
    else s
  | none => s

/-- A slot begins: pre-charge with every output off. The on-times of its row are fixed now, so that a write to the page shown acts
from the next row slot (R460). -/
def lmBegin (slot cycle : Nat) (s : State) : State :=
  let s := { s with lm := { s.lm with run := true, slot := slot, cycle := cycle, row := none, pre := true, sinks := 0 } }
  { s with lm := { s.lm with onT := if slot < 12 then (List.range 48).map (lmOnTime s slot) else [] } }

/-- On-time of die `d` in the row slot that runs. -/
def lmOnNow (s : State) (d : Nat) : Nat := s.lm.onT.getD d 0

/-- A slot starts on the grid of system time: slot 0 starts a scan cycle; a later slot only follows the one before it in the same
cycle. Its pre-charge begins with every row switch off. -/
def lmSlotRun (s : State) : State :=
  let t := s.sys.sysTime.toNat
  if !lmOn s then lmOff { s with lm := { s.lm with run := false } }
  else if t % 64000 ≠ 0 then s
  else
    let slot := t % 832000 / 64000
    let cycle := t / 832000
    if slot = 0 then lmBegin 0 cycle (lmSwap s)
    else if s.lm.run && s.lm.cycle == cycle && s.lm.slot + 1 == slot then lmBegin slot cycle s
    else s

def execLmSlotStart (t : Nat) (s : State) : Host.Outcome State Fault Refusal := .next (lmSlotRun (advance t s))

/-- The reference pixel is lit in the measurement slot of even cycles (R457). -/
def lmRefLit (s : State) : Bool := cfgF s 0x5800 9 && decide (s.lm.cycle % 2 = 0)

/-- Row and sinks that conduct once pre-charge ends (R454, R457). -/
def lmPrechargeRun (s : State) : State :=
  if lmOn s && s.lm.run && s.lm.pre then
    if s.lm.slot < 12 then
      { s with lm := { s.lm with
          pre := false
          row := some s.lm.slot
          sinks := BitVec.ofNat 48 (maskOf 48 fun d => decide (0 < lmOnNow s d)) } }
    else if lmRefLit s then
      let ref := cfgN s 0x5800 0xA
      { s with lm := { s.lm with
          pre := false
          row := some (min 11 (ref / 16))
          sinks := BitVec.ofNat 48 (7 * 2 ^ (3 * (ref % 16))) } }
    else { s with lm := { s.lm with pre := false } }
  else s

def execLmPrechargeEnd (t : Nat) (s : State) : Host.Outcome State Fault Refusal := .next (lmPrechargeRun (advance t s))

/-- A die's on-time expires. -/
def lmSinkOffRun (die : Nat) (s : State) : State := { s with lm := { s.lm with sinks := bset s.lm.sinks die false } }

def execLmSinkOff (die : Fin 48) (s : State) : Host.Outcome State Fault Refusal := .next (lmSinkOffRun die s)

/-! ### Diagnosis (R458) -/

/-- The sample taken 1.0 µs after a sink turned on: the sink's output in mV, and the LED supply as LMVS senses it. A die whose output
reads below 0.3 V is open at that sample, while the supply is within the range of Table 22.2, 3.0 to 5.5 V. -/
def lmDiagRun (d mv supply : Nat) (s : State) : State :=
  match s.lm.row with
  | some row =>
    if cfgF s 0x5800 8 && decide (s.lm.slot < 12) && decide (64 ≤ lmOnNow s d) && (bget s.lm.sinks d || lmOnNow s d == 64) then
      let die := 48 * row + d
      let isOpen := decide (mv < 300) && decide (3000 ≤ supply) && decide (supply ≤ 5500)
      let latch := isOpen && mget false s.lm.openRun die
      let s := { s with lm := { s.lm with
        openRun := mset false s.lm.openRun die isOpen
        open_ := if latch then mset false s.lm.open_ die true else s.lm.open_ } }
      lmRaise (bitIf latch 0) s
    else s
  | none => s

def execLmDiagSample (die : Fin 48) (r : SinkReading) (s : State) : Host.Outcome State Fault Refusal :=
  .next (lmDiagRun die r.mv r.supply s)

/-! ### Regulation (R457) -/

/-- The samples of the measurement slot: lit in even cycles, dark in odd ones; a reading is the lit sample less the dark one that
follows it. -/
def lmMeasureRun (r g b : Nat) (s : State) : State :=
  if lmOn s && s.lm.run && s.lm.slot == 12 && cfgF s 0x5800 9 then
    let s := lmOff s
    if s.lm.cycle % 2 = 0 then
      let full := maskOf 3 fun c => decide ([r, g, b].getD c 0 = 4095)
      { s with lm := { s.lm with lit := some (r, g, b), satur := s.lm.satur ||| BitVec.ofNat 3 full } }
    else match s.lm.lit with
      | some (lr, lg, lb) =>
        { s with lm := { s.lm with
            lit := none
            sumR := s.lm.sumR + lr - r
            sumG := s.lm.sumG + lg - g
            sumB := s.lm.sumB + lb - b
            nRead := s.lm.nRead + 1 } }
      | none => s
  else s

def execLmMeasureSlot (r g b : BitVec 12) (s : State) : Host.Outcome State Fault Refusal :=
  .next (lmMeasureRun r.toNat g.toNat b.toNat s)

/-- SENSE_c from the sum of the readings: 12 bits. Whether the quotient is rounded up is a free value (assumption 1). -/
def lmSense (sum : Int) (n : Nat) (up : Bool) : Nat :=
  (clampI 0 4095 (sum / n + if up && decide (sum % n ≠ 0) then 1 else 0)).toNat

/-- One colour's step: the new trim, and the LIMIT and SENSOR bits. -/
def lmTrimStep (s : State) (c sense : Nat) : Nat × Nat :=
  let trim := lmTrim s.lm c
  let target := cfgN s 0x5800 (0xB + c)
  let db := cfgN s 0x5800 0xE
  if bget s.lm.satur c || (decide (sense < 16) && decide (lmCur s c ≠ 0)) then
    (trim, 4 + bitIf (decide (60000 * 256 < lmCurRaw s c)) 1)
  else
    let want : Int := if (sense : Int) < (target : Int) - db then trim + 1
      else if target + db < sense then (trim : Int) - 1 else trim
    let got := clampI 128 384 want
    (got.toNat, bitIf (got ≠ want || decide (60000 * 256 < cfgN s 0x5800 (2 + c) * got.toNat)) 1)

/-- Every 64 cycles: SENSE, TRIM, LIMIT and SENSOR. -/
def lmRegulateRun (s : State) : State :=
  if !hasTrack s || !s.sys.mgmtUp then s
  else if !cfgF s 0x5800 9 then { s with lm := { s.lm with trimR := 256, trimG := 256, trimB := 256 } }
  else if s.lm.nRead < 32 then s
  else
    let n := s.lm.nRead
    let v := freeNow s
    let sr := lmSense s.lm.sumR n (bitAt v 0)
    let sg := lmSense s.lm.sumG n (bitAt v 1)
    let sb := lmSense s.lm.sumB n (bitAt v 2)
    let tr := lmTrimStep s 0 sr
    let tg := lmTrimStep s 1 sg
    let tb := lmTrimStep s 2 sb
    let bits := Nat.lor tr.2 (Nat.lor tg.2 tb.2)
    let s := drawn s
    lmRaise bits { s with lm := { s.lm with
      senR := sr
      senG := sg
      senB := sb
      trimR := tr.1
      trimG := tg.1
      trimB := tb.1
      sumR := 0
      sumG := 0
      sumB := 0
      nRead := 0
      satur := 0 } }

def execLmRegulationPeriod (s : State) : Host.Outcome State Fault Refusal := .next (lmRegulateRun s)

/-! ### Pages and events (R459 to R461) -/

/-- A GO: arm the swap, replacing an armed one. A GO that names the page shown posts the last result again and changes nothing else
(DEDUCED, assumption 26). -/
def lmShowRun (page : Nat) (time : BitVec 64) (s : State) : State :=
  if !hasTrack s || !s.sys.mgmtUp then s
  else
    let s := { s with lm := { s.lm with showTime := time } }
    if page = s.lm.page then
      post 0x5C0040 (2 * s.lm.swapLate.toNat + page)
        [(0x5C0044, fld s.lm.swapTime.toNat 0 32), (0x5C0048, fld s.lm.swapTime.toNat 32 32)] s
    else
      let late := decide (time.toNat + 832000 < s.sys.sysTime.toNat)
      { s with lm := { s.lm with armed := some (page, time.toNat, late) } }

def execLmShow (page : Fin 2) (time : BitVec 64) (s : State) : Host.Outcome State Fault Refusal :=
  .next (lmShowRun page time s)

/-- W1C on LM_EVT. -/
def lmEvtClear (v : BitVec 4) (s : State) : State :=
  if !hasTrack s || !s.sys.mgmtUp then s else edSync 359 { s with lm := { s.lm with evt := w1c s.lm.evt v } }

def execLmEvtWrite (v : BitVec 4) (s : State) : Host.Outcome State Fault Refusal := .next (lmEvtClear v s)

/-- W1C on LM_OPENw. -/
def lmOpenClear (w : Nat) (v : Word) (s : State) : State :=
  { s with lm := { s.lm with open_ := mfilter (fun k => !(k / 32 == w && bget v (k % 32))) s.lm.open_ } }

def execLmOpenWrite (w : Fin 18) (v : Word) (s : State) : Host.Outcome State Fault Refusal := .next (lmOpenClear w v s)

/-- LM_OPENw. -/
def lmOpenWord (s : State) (w : Nat) : Nat := maskOf 32 fun b => mget false s.lm.open_ (32 * w + b)

/-- LM_LIVE: RUN reads 0 as soon as a case of R456 turns the outputs off. -/
def lmLive (s : State) : Nat := bitIf (s.lm.run && lmOn s) 31 + bitIf s.lm.armed.isSome 30 + put s.lm.page 29 1

/-- LM_TRIM. -/
def lmTrimWord (s : State) : Nat := put s.lm.trimB 18 9 + put s.lm.trimG 9 9 + put s.lm.trimR 0 9

end Sys2Proof.Machine
end

