-- ==== Sys2Proof/Machine/Registers.lean ====
section
/-! DEFINITION. Machine/Registers.lean: the host address map: its blocks (Table 19.4), absent units (R8), and the value that a read
of each register returns. Registers that are results show the words as posted; configuration registers show the values in
effect (R45); every other register is computed here from the state. -/

namespace Sys2Proof.Machine

/-! ### Blocks (R426) -/

/-- The blocks of Table 19.4: first address, last address, t_acc in ns. -/
def blocks : List (Nat × Nat × Nat) :=
  [(0x000000, 0x00FFFF, 120), (0x010000, 0x01FFFF, 280), (0x020000, 0x02FFFF, 120), (0x030000, 0x03FFFF, 120),
   (0x040000, 0x04FFFF, 280), (0x050000, 0x05FFFF, 120), (0x080000, 0x08FFFF, 280), (0x0A0000, 0x0AFFFF, 280),
   (0x0C0000, 0x0CFFFF, 120), (0x0E0000, 0x0EFFFF, 120), (0x100000, 0x3FFFFF, 280), (0x400000, 0x41FFFF, 120),
   (0x480000, 0x48FFFF, 120), (0x4C0000, 0x4CFFFF, 120), (0x500000, 0x50FFFF, 280), (0x540000, 0x54FFFF, 120),
   (0x580000, 0x58FFFF, 120), (0x5C0000, 0x5CFFFF, 280), (0x600000, 0x8FFFFF, 280), (0x900000, 0xAFFFFF, 280),
   (0xC00000, 0xC7FFFF, 600)]

/-- The block of an address; none for a hole. -/
def blockOf (a : Nat) : Option (Nat × Nat × Nat) := blocks.find? fun b => decide (b.1 ≤ a) && decide (a ≤ b.2.1)

/-- The address names a register or an empty word of a block (R418). -/
def addrOk (a : Nat) : Bool := a % 4 == 0 && (blockOf a).isSome

/-- The address belongs to a unit that is absent in the variant (R8). -/
def regAbsent (v : Variant) (a : Nat) : Bool :=
  match v with
  | .c192 => false
  | .c192L => (decide (0x500000 ≤ a) && decide (a < 0x580000)) || (decide (0x5C0000 ≤ a) && decide (a < 0x5D0000))
  | .c096 =>
    (decide (0x0A8000 ≤ a) && decide (a < 0x0B0000)) || (decide (0x0E8000 ≤ a) && decide (a < 0x0F0000)) ||
    (decide (0x080200 ≤ a) && decide (a < 0x080400)) || (decide (0x080880 ≤ a) && decide (a < 0x080900)) ||
    (decide (0x080940 ≤ a) && decide (a < 0x080980)) || (decide (0x040020 ≤ a) && decide (a < 0x040040)) ||
    (decide (0x0400A0 ≤ a) && decide (a < 0x0400C0)) || (decide (0x040108 ≤ a) && decide (a < 0x040110)) ||
    (decide (0x040128 ≤ a) && decide (a < 0x040130))

/-! ### Reads of each block -/

/-- Offset of `a` in a run of `n` registers from `x0`, `st` apart. -/
def regIdx (a x0 n st : Nat) : Option Nat := if inRun a x0 n st then some ((a - x0) / st) else none

/-- System, power, clocks, wake comparators: 0x00_0000 to 0x01_FFFF. -/
def readSystem (s : State) (a : Nat) : Option Nat :=
  match a with
  | 0x000000 => some (ident s) | 0x000004 => some vendor | 0x000010 => some (syCause s) | 0x000018 => some (syCfg s)
  | 0x00001C => some (syDbg s) | 0x000020 => some (syBoot s) | 0x010000 => some (pwState s) | 0x010004 => some s.pw.req
  | 0x010204 => some (grantWhy s) | 0x010400 => some (ckStat s) | 0x010520 => some (wcStat s) | _ => none

/-- Event distributor. -/
def readEd (s : State) (a : Nat) : Option Nat :=
  let o := a - 0x020000
  if o < 0x600 then some (edSrcWord s (o / 4))
  else if 0x800 ≤ o ∧ o < 0xA80 then
    let t := (o - 0x800) / 0x40
    let x := edTgtGet s t
    match o % 0x40 with
    | 0x00 => some (edTcfgWord s t) | 0x04 => some (edNext s t) | 0x0C => some (edTstat s t) | 0x10 => some (edStack s t)
    | 0x14 => some x.lpend.toNat | 0x18 => some x.len.toNat | 0x20 => some (edLlvlWord s t 0) | 0x24 => some (edLlvlWord s t 1)
    | 0x28 => some (edLlvlWord s t 2) | 0x2C => some (edLlvlWord s t 3) | 0x30 => some (put x.lcnt 16 16 + put x.lasti 0 5)
    | _ => none
  else match o with
  | 0xC00 => some s.ed.waket | 0xC04 => some (bitIf s.ed.routeErr 31 + put s.ed.eoiErr 0 16) | 0xC08 => some s.ed.swi.toNat
  | 0xC0C => some s.ed.secchg.toNat | 0xC10 => some (fld (edFlags s) 0 32) | 0xC14 => some (fld (edFlags s) 32 24) | _ => none

def crcUnit (s : State) (n : Nat) : Crc := if n = 0 then s.crc0 else s.crc1

def crcWidth (poly : Nat) : Nat := [16, 32, 32, 64].getD poly 32

/-- The running value as read: the bits beyond the algorithm's width read 0 (R448). -/
def crcShown (x : Crc) : Nat := x.run.toNat % 2 ^ crcWidth (if x.busy then x.sPoly else x.poly)

/-- CRC units. CRC_RUNHI shows the half latched with the last CRC_RUNLO (R448). -/
def readCrc (s : State) (a : Nat) : Option Nat :=
  let o := a - 0x030000
  if o < 0x80 then
    let x := crcUnit s (o / 0x40)
    match o % 0x40 with
    | 0x00 => some x.poly | 0x04 => some x.start | 0x08 => some x.len | 0x1C => some (fld (crcShown x) 0 32)
    | 0x20 => some x.runHiLatch.toNat | 0x24 => some (bitIf x.busy 31 + put x.sAddr 0 24) | _ => none
  else none

/-- Trip comparators and chargers. -/
def readComparators (s : State) (a : Nat) : Option Nat :=
  if a = 0x040040 then some (put s.gov.level.toNat 16 16 + s.gov.trip.toNat)
  else match regIdx a 0x040080 16 4 with
  | some n => some (mget 0 s.gov.fcCnt n)
  | none => (regIdx a 0x040120 4 4).map (ccVst s)

/-- The bytes of a buffer as words, byte 4i in bits [7:0] of word i (Table 19.10). -/
def byteWord (m : SMap Byte) (i : Nat) : Nat := leNat ((List.range 4).map fun k => mget 0 m (4 * i + k))

/-- MRAM write in progress. -/
def mramBusy (s : State) : Bool :=
  (!s.cf.unacked.isEmpty && canStage s) || (match s.cf.pend with | some p => !p.written | none => false) || s.ax.wstate != 0

/-- MR_STAT. -/
def mrStat (s : State) : Nat := bitIf (mramBusy s) 31 + bitIf (!s.sup.holdReady) 30 + sat 16 s.cf.unacked.length

/-- Host port and MRAM control. -/
def readHost (s : State) (a : Nat) : Option Nat :=
  match a with
  | 0x050000 => some s.hp.status.toNat | 0x050004 => some s.hp.crcOnly.toNat
  | 0x050008 => some (put s.hp.crcErr 16 16 + put s.hp.errors 0 16) | 0x050020 => some (mrStat s)
  | _ => match regIdx a 0x051000 256 4 with
    | some i => some (byteWord s.hp.req i)
    | none => (regIdx a 0x051400 256 4).map (byteWord s.hp.rsp)

/-- Emitters, governor, accords. EPOCH stands beside the staged fields of EX_CFGn. -/
def readEmitters (s : State) (a : Nat) : Option Nat :=
  match regIdx a 0x080000 16 0x40 with
  | some e => some (cfgRegRead s a + epochOf s.cf.epochs 4 e)
  | none => match regIdx a 0x080800 64 4 with
  | some j =>
    let e := j / 4
    some ([mget 0 s.gov.limb e, mget 0 s.gov.lim5 e, mget 0 s.gov.lim100 e].getD (j % 4) 0)
  | none => match regIdx a 0x080900 32 4 with
  | some j => some (govFill s (j % 2 == 1) (j / 2))
  | none => match a with
    | 0x080400 => some s.ex.phase | 0x080418 => some (mirStat s) | 0x08041C => some (mirCnt s)
    | 0x080A00 => some (bitIf s.gov.locked 31 + bitIf s.gov.crcBad 30 + s.gov.storeOv.toNat) | 0x080A04 => some (govCrcShown s)
    | 0x080440 => some (acCodesReg s) | 0x080444 => some (acStatReg s) | 0x080448 => some (put s.ex.hop 16 4 + put s.ex.j 0 16)
    | 0x08044C => some (accordNow s).gen | 0x08045C => some (put s.ac.applied 16 16 + put s.ac.interfere 0 16) | _ => none

/-- Receiver quadrants: what is not posted. -/
def readReceivers (s : State) (a : Nat) : Option Nat :=
  let q := (a - 0x0A0000) / 0x4000
  let o := a % 0x4000
  let x := mget ({} : Snap) s.hg.snap q
  if 0x2000 ≤ o then some (snapWord s q ((o - 0x2000) / 4))
  else match o with
  | 0x00C => some (hvStat s q) | 0x1814 => some x.frame | 0x1818 => some (put x.last 4 4 + put x.state 0 2)
  | 0x181C => some (put s.hg.buf 16 1 + put s.ex.step 0 13) | _ => none

/-- Frame planner. -/
def readPlanner (s : State) (a : Nat) : Option Nat :=
  match a with
  | 0x0C0000 => some (cfgRegRead s a + bitIf s.fp.errRange 15) | 0x0C0040 => some s.sup.spent | 0x0C0044 => some s.sup.floorUj
  | 0x0C005C => some (put (sat 16 s.fp.unreach) 16 16)
  | _ => match regIdx a 0x0C4000 1024 4 with
  | some r => some (mget 0 s.fp.plan r)
  | none => match regIdx a 0x0C5000 1024 4 with
  | some r => some (mget 0 s.fp.qual r)
  | none => match regIdx a 0x0C6000 1024 4 with
  | some r => some (fsumOf s r)
  | none => (regIdx a 0x0C8000 2048 4).map (fpWord s)

/-- Note engines. -/
def readEngines (s : State) (a : Nat) : Option Nat :=
  let q := (a - 0x0E0000) / 0x4000
  let o := a % 0x4000
  if o = 0 then some (cfgRegRead s a + bitIf (mget ({} : Ne) s.ne q).errRange 15)
  else (regIdx o 0x2000 1024 4).map fun i => leAt (cfgQB s q 0x2500 0x11) (4 * i) 4

/-- Zone contexts and evaluator. ZE_MAPCRC reads its reset value until the configuration has been loaded. -/
def readZones (s : State) (a : Nat) : Option Nat :=
  match regIdx a 0x400004 1024 0x40 with
  | some z => some (epochOf s.cf.epochs 0 z)
  | none => match a with
    | 0x410020 => some (if s.cf.loaded then mapCrc s.cf.map else 0) | 0x410024 => some (mapSize s.cf.map)
    | 0x410028 => some (mapP s.cf.map) | 0x41002C => some (mapSize (mapAfter s.cf.mapStage s))
    | 0x410030 => some (sat 16 s.ze.unmapped) | _ => none

/-- Point stream. -/
def readStream (s : State) (a : Nat) : Option Nat :=
  (regIdx a 0x480010 2 4).map fun n => let l := if n = 0 then s.ps.l0 else s.ps.l1; bitIf l.up 31 + sat 16 l.fill

/-- Safety mirror: the mailbox copy (R41), the session and the log. -/
def readSafety (s : State) (a : Nat) : Option Nat :=
  match a with
  | 0x4C0060 => some (sfSess s) | 0x4C0064 => some (sfLog s) | 0x4C1000 => some s.safA.mbFrame.toNat
  | 0x4C2004 => some s.safA.mbCrc.toNat
  | _ => (regIdx a 0x4C1004 1024 4).map fun z => (mget 0 s.safA.mbWords z).toNat

/-- Track front end. -/
def readTrack (s : State) (a : Nat) : Option Nat :=
  match a with
  | 0x500000 => some (tfLive s) | 0x500004 => some (bitIf (tfPinActive s) 0) | 0x50000C => some (tfOnsetReg s)
  | 0x500018 => some (tfCapSt s)
  | _ => match regIdx a 0x500110 16 0x20 with
  | some n => some (tfChStat s n)
  | none => (regIdx a 0x502000 2048 4).map fun i => (s.tf.capArea.getD i 0).toNat

/-- Phase codes of Table 17.7. -/
def phCode (p : Ph) : Nat :=
  match p with
  | .idle => 0 | .a1 => 1 | .mp => 2 | .b2 => 3 | .b1 => 4 | .mm => 5 | .a2 => 6 | .wait => 7 | .tp => 8 | .tm => 9

/-- AX_SECs. -/
def axSec (s : State) (k : Nat) : Nat :=
  let x := secGet s k
  put x.st 30 2 + bitIf (secProgress s k) 29 + bitIf (secZclear s k) 28 + put x.cause 24 4 + toU 16 x.count

/-- AX_HEADh. -/
def axHead (s : State) (h : Nat) : Nat :=
  let x := hdGet s h
  bitIf x.faulty 31 + bitIf x.blindFrom.isSome 30 + put (phCode x.ph) 26 4 + bitIf x.onB 25 + bitIf x.onA 24 +
  epochOf s.cf.epochs 1 h

/-- AX_GATEg. -/
def axGate (s : State) (g : Nat) : Nat :=
  let x := gtGet s g
  bitIf x.blind 31 + put (phCode x.ph) 27 4 + bitIf x.onB 26 + bitIf x.onA 25 + put (min 15 x.blindN) 16 4

/-- The live words of a track link; TL_CNT1 to 3 are posted (R386). -/
def tlWord (x : Tl) (j : Nat) : Option Nat :=
  match j with
  | 0 => some (bitIf x.up 31 + bitIf x.psync 30 + put x.peer 16 10 + put x.rxShow 0 16)
  | 1 => some x.health.toNat | 2 => some (fld x.states.toNat 0 32) | 3 => some (fld x.states.toNat 32 32) | _ => none

/-- Axle evaluator and track links. -/
def readAxle (s : State) (a : Nat) : Option Nat :=
  match a with
  | 0x540000 => some (fld (secStatesWord s 0xFFFFFFFF) 0 32) | 0x540004 => some (fld (secStatesWord s 0xFFFFFFFF) 32 32)
  | _ => match regIdx a 0x540100 64 4 with
  | some j => some (if j % 2 = 0 then axSec s (j / 2) else epochOf s.cf.epochs 3 (j / 2))
  | none => match regIdx a 0x540200 16 4 with
  | some j => if j % 2 = 0 then some (axHead s (j / 2)) else none
  | none => match regIdx a 0x540280 16 4 with
  | some g => some (axGate s g)
  | none => match regIdx a 0x540300 32 4 with
  | some c => some (bitIf (cpHealthy s c) 31 + epochOf s.cf.epochs 2 c)
  | none => (regIdx a 0x540800 16 4).bind fun j => tlWord (tlGet s (j / 8)) (j % 8)

/-- Zeley link. -/
def readLink (s : State) (a : Nat) : Option Nat :=
  match a with
  | 0x580000 => some (zlIdReg s) | 0x580004 => some s.zl.nonce.toNat | 0x580010 => some (zlPortReg s 0)
  | 0x580014 => some (zlPortReg s 1) | 0x580020 => some (fld s.sys.sysTime.toNat 0 32) | 0x580024 => some s.zl.timeHi.toNat
  | 0x580028 => some (zlTstat s) | 0x58002C => some (toU 32 s.zl.ofs) | _ => none

/-- Indicator matrix. -/
def readMatrix (s : State) (a : Nat) : Option Nat :=
  match a with
  | 0x5C0020 => some (lmLive s) | 0x5C0024 => some (lmTrimWord s) | 0x5C0028 => some (put s.lm.senG 16 12 + put s.lm.senR 0 12)
  | 0x5C002C => some (put s.lm.senB 0 12) | 0x5C0034 => some (fld s.lm.showTime.toNat 0 32)
  | 0x5C0038 => some (fld s.lm.showTime.toNat 32 32) | 0x5C004C => some s.lm.evt.toNat
  | _ => match regIdx a 0x5C0100 18 4 with
  | some w => some (lmOpenWord s w)
  | none => match regIdx a 0x5C1000 192 4 with
  | some i => some (mget 0 s.lm.pix i).toNat
  | none => (regIdx a 0x5C1400 192 4).map fun i => (mget 0 s.lm.pix (192 + i)).toNat

/-- A word of a store of 8-byte values. -/
def wordOf8 (m : SMap Nat) (j : Nat) : Nat := fld (mget 0 m (j / 2)) (32 * (j % 2)) 32

/-- What the block of an address shows besides posted words and configuration registers. -/
def readLive (s : State) (a : Nat) : Option Nat :=
  match a / 0x10000 with
  | 0x00 => readSystem s a | 0x01 => readSystem s a | 0x02 => readEd s a | 0x03 => readCrc s a | 0x04 => readComparators s a
  | 0x05 => readHost s a | 0x08 => readEmitters s a | 0x0A => readReceivers s a | 0x0C => readPlanner s a
  | 0x0E => readEngines s a | 0x40 => readZones s a | 0x41 => readZones s a | 0x48 => readStream s a | 0x4C => readSafety s a
  | 0x50 => readTrack s a | 0x54 => readAxle s a | 0x58 => readLink s a | 0x5C => readMatrix s a
  | b =>
    if 0x10 ≤ b ∧ b < 0x40 then some (hgWord s a)
    else if 0x60 ≤ b ∧ b < 0x90 then some (wordOf8 s.cf.map.cells ((a - 0x600000) / 4))
    else if 0x90 ≤ b ∧ b < 0xB0 then some (wordOf8 (mapTrim s.cf.map).pool ((a - 0x900000) / 4))
    else none

/-- The value of a register: 0 in a hole, at an unaligned address, and for an absent unit (R418, R8). -/
def regRead (s : State) (a : Nat) : Nat :=
  if !addrOk a || regAbsent s.sys.variant a then 0
  else match readLive s a with
  | some w => w
  | none =>
    if (fieldsAt a).isEmpty then (if (resGet s a).valid then statusWord s a else regGet s a) else cfgRegRead s a

/-! ### Reads of memory that the spec leaves open -/

/-- The same word of the store's other buffer. -/
def otherBuffer (a : Nat) : Nat := if a < 0x280000 then a + 0x180000 else a - 0x180000

/-- A word as a host read or a CRC scan takes it: the MRAM window's contents are free values, as the spec gives no layout
(assumption 1). -/
def fetchWord (a : Nat) (s : State) : Nat × State :=
  if 0xC00000 ≤ a ∧ a ≤ 0xC7FFFF then (fld (freeNow s) 0 32, drawn s) else (regRead s a, s)

end Sys2Proof.Machine
end

