-- ==== Sys2Proof/Machine/CrcUnits.lean ====
section
/-! DEFINITION. Machine/CrcUnits.lean: the two CRC units (chapter 20). -/

namespace Sys2Proof.Machine

def crcSet (n : Nat) (x : Crc) (s : State) : State := if n = 0 then { s with crc0 := x } else { s with crc1 := x }

/-! ### Algorithms (Table 20.1) -/

def crcInit (poly : Nat) : Nat := [0xFFFF, 0xFFFFFFFF, 0xFFFFFFFF, 0].getD poly 0
def crcXorOut (poly : Nat) : Nat := [0, 0xFFFFFFFF, 0xFFFFFFFF, 0].getD poly 0

/-- One byte into the running value. Reflected algorithms hold the register in reflected bit order (R448). -/
def crcByte (poly c : Nat) (b : Byte) : Nat :=
  if poly = 0 then crcLByte 16 0x1021 c b
  else if poly = 1 then crcRByte 0xEDB88320 c b
  else if poly = 2 then crcRByte 0x82F63B78 c b
  else crcLByte 64 0x42F0E1EBA9EA3693 c b

/-- The running value in the width of an algorithm. -/
def crcRun (poly : Nat) (x : Crc) : Nat := x.run.toNat % 2 ^ crcWidth poly

/-- The check value of the running value. -/
def crcCheck (poly : Nat) (x : Crc) : Nat := Nat.xor (crcRun poly x) (crcXorOut poly)

/-- Post a result (Table 20.2). -/
def crcPost (n poly outcome : Nat) (s : State) : State :=
  let x := crcUnit s n
  let r := crcCheck poly x
  let s := crcSet n { x with outcome := outcome, shownPoly := poly, result := BitVec.ofNat 64 r } s
  let a := 0x030010 + 0x40 * n
  post a (put poly 2 2 + put outcome 0 2) [(a + 4, fld r 0 32), (a + 8, fld r 32 32)] s

/-! ### Scanning (R444 to R447) -/

/-- START and LEN keep R445. -/
def crcRangeOk (start len : Nat) : Bool :=
  start % 4 == 0 && match blockOf start with | some b => decide (start + len - 1 ≤ b.2.1) | none => false

/-- A GO: LEN = 0 completes at once; a range that breaks R445 is rejected; while BUSY it is ignored and posts later. -/
def crcGo (n : Nat) (init : Bool) (s : State) : State :=
  let x := crcUnit s n
  if !s.sys.mgmtUp then s
  else if x.busy then crcSet n { x with goIgnored := x.goIgnored + 1 } s
  else if x.len = 0 then crcPost n x.poly 1 s
  else if !crcRangeOk x.start x.len then crcPost n x.poly 2 s
  else
    crcSet n { x with
      busy := true
      sPoly := x.poly
      sAddr := x.start
      sLeft := x.len
      run := BitVec.ofNat 64 (if init then crcInit x.poly else crcRun x.poly x) } s

/-- A GO whose range is rejected (ERR_RANGE). -/
def crcGoBad (n : Nat) (s : State) : Bool :=
  let x := crcUnit s n
  !x.busy && decide (x.len ≠ 0) && !crcRangeOk x.start x.len

/-- A swap may meet the word that unit `n` reads next: of the histogram store, while steps run. A step of 22,000 ns or more holds at
least 78 words of 281.25 ns, so that no two such words lie closer (KL-01, R446). -/
def crcMeetsSwap (x : Crc) (s : State) : Bool :=
  decide (0x100000 ≤ x.sAddr) && decide (x.sAddr < 0x400000) && s.ex.open_ && decide (78 ≤ x.sinceSwap)

/-- The word that unit `n` reads next, and whether it came from the other buffer; whether a swap meets it is open (assumption 1). -/
def crcFetch (x : Crc) (s : State) : Nat × Bool × State :=
  if crcMeetsSwap x s then
    if bitAt (freeNow s) 0 then (regRead s (otherBuffer x.sAddr), true, drawn s) else (regRead s x.sAddr, false, drawn s)
  else let r := fetchWord x.sAddr s; (r.1, false, r.2)

/-- One word: its bytes in ascending order, no more than are left. -/
def crcWord (n : Nat) (s : State) : State :=
  let x := crcUnit s n
  let r := crcFetch x s
  let bytes := (leBytes 4 r.1).take x.sLeft
  crcSet n { x with
    sinceSwap := if r.2.1 then 1 else min 78 (x.sinceSwap + 1)
    sAddr := x.sAddr + 4
    sLeft := x.sLeft - bytes.length
    run := BitVec.ofNat 64 (bytes.foldl (crcByte x.sPoly) (crcRun x.sPoly x)) } r.2.2

/-- The next `k` words. -/
def crcWords (n : Nat) : Nat → State → State
  | 0, s => s
  | k + 1, s => crcWords n k (crcWord n s)

/-- The results of the GOs that were ignored while the scan ran: OUTCOME 4, coded as 0. -/
def crcIgnored (n poly : Nat) : Nat → State → State
  | 0, s => s
  | k + 1, s => crcIgnored n poly k (crcPost n poly 0 s)

/-- The end of a scan with its result. -/
def crcEnd (n outcome : Nat) (s : State) : State :=
  let x := crcUnit s n
  let s := crcPost n x.sPoly outcome (crcSet n { x with busy := false, goIgnored := 0 } s)
  crcIgnored n x.sPoly x.goIgnored s

/-- The scan's last byte has been folded: the words not read yet are read as they stand (assumption 19). -/
def crcDone (n : Nat) (s : State) : State :=
  let x := crcUnit s n
  if x.busy then crcEnd n 1 (crcWords n (ceilDiv x.sLeft 4) s) else s

/-- Time has passed in a running scan: how many whole words it has folded is a free value (R446 gives only the highest rate). -/
def crcProgress (n : Nat) (s : State) : State :=
  let x := crcUnit s n
  if x.busy then crcWords n (freeNow s % (ceilDiv x.sLeft 4 + 1)) (drawn s) else s

/-- STOP ends a running scan after the word in progress. -/
def crcStop (n : Nat) (s : State) : State := if (crcUnit s n).busy then crcEnd n 3 (crcProgress n s) else s

/-! ### Running value (R448, R449) -/

/-- A write to CRC_RUNLOn loads both halves; while BUSY it is lost (KL-04). -/
def crcRunLo (n : Nat) (w : Word) (s : State) : State :=
  let x := crcUnit s n
  if !s.sys.mgmtUp || x.busy then s else crcSet n { x with run := x.runHiHold ++ w } s

/-- A write to CRC_RUNHIn is held; while BUSY it is lost. -/
def crcRunHi (n : Nat) (w : Word) (s : State) : State :=
  let x := crcUnit s n
  if !s.sys.mgmtUp || x.busy then s else crcSet n { x with runHiHold := w } s

/-- A read of CRC_RUNLOn latches the upper half that belongs to the value returned. -/
def crcRunLatch (n : Nat) (s : State) : State :=
  let x := crcUnit s n
  if s.sys.mgmtUp then crcSet n { x with runHiLatch := BitVec.ofNat 32 (fld (crcShown x) 32 32) } s else s

/-- The object RUN: aborts with 0x0640 while BUSY (R451). -/
def crcRunObj (n : Nat) (v : BitVec 64) (s : State) : Nat × State :=
  let x := crcUnit s n
  if x.busy then (0x0640, s) else (0, crcSet n { x with run := v } s)

/-! ### Commands -/

def execCrcGo (n : Fin 2) (init : Bool) (s : State) : Host.Outcome State Fault Refusal := .next (crcGo n init s)
def execCrcStop (n : Fin 2) (s : State) : Host.Outcome State Fault Refusal := .next (crcStop n s)
def execCrcScanDone (n : Fin 2) (s : State) : Host.Outcome State Fault Refusal := .next (crcDone n s)
def execCrcRunloWrite (n : Fin 2) (w : Word) (s : State) : Host.Outcome State Fault Refusal := .next (crcRunLo n w s)
def execCrcRunhiWrite (n : Fin 2) (w : Word) (s : State) : Host.Outcome State Fault Refusal := .next (crcRunHi n w s)
def execCrcRunloRead (n : Fin 2) (s : State) : Host.Outcome State Fault Refusal := .next (crcRunLatch n (crcProgress n s))

/-- The object RUN, through the host port's mailbox. -/
def execCrcRunWrite (n : Fin 2) (v : BitVec 64) (s : State) : Host.Outcome State Fault Refusal :=
  .next (writeCmd .host 0x1700 (5 + 0x10 * n) 8 (crcRunObj n v) s)

end Sys2Proof.Machine
end

