-- ==== Sys2Proof/Machine/ZoneMap.lean ====
section
/-! DEFINITION. Machine/ZoneMap.lean: staging the zone map (R253, R264 to R266, R269). Map writes go to the map stage buffer in SRAM
and are acknowledged on receipt (R265); they need no MRAM staging, so R62 does not refuse them. -/

namespace Sys2Proof.Machine

/-- The staged map, or the map in effect where none is staged. -/
def mapStageNow (s : State) : ZMap := s.cf.mapStage.getD s.cf.map

/-- A commit that carries map changes is pending (R265). -/
def mapPending (s : State) : Bool := match s.cf.pend with | some p => p.map.isSome | none => false

/-- R253 for a cell of channel `ch`. -/
def cellOk (v : Variant) (ch w : Nat) : Bool :=
  decide (fld w 32 32 = 0) && decide (fld w 22 5 = 0) && decide (cellCount w ≤ 8) && decide (cellFirst w + cellCount w ≤ 262144) &&
  (w == 0 || decide (ch < 48 * quadrants v))

/-- R253 for an interval. -/
def ivOk (w : Nat) : Bool := decide (fld w 0 16 = 0) && decide (fld w 26 19 ≤ fld w 45 19)

/-- Stage a map whose stored form fits (R266). -/
def mapPut (m : ZMap) (s : State) : Nat × State :=
  if 163840 < mapSize m then (0x0622, s) else (0, { s with cf := { s.cf with mapStage := some m } })

/-- The 8-byte values of a write. -/
def values8 (d : List Byte) : List Nat := (List.range (d.length / 8)).map fun i => leAt d (8 * i) 8

/-- A write of CELL_DATA or POOL_DATA at its offset: the checks of Table 18.7 from step 5 on. -/
def mapData (pool : Bool) (p : Path) (d : List Byte) (s : State) : Nat × State :=
  let ofs := liveN s 0x3400 (if pool then 0x12 else 0x10)
  let k := ofs / 8
  let vs := values8 d
  if !sessionOn s p then (0x0611, s)
  else
    let s := touchSession p s
    if 4096 < d.length ∨ (if pool then 2097152 else 2764800) < ofs + d.length then (0x0622, s)
    else if ofs % 8 ≠ 0 ∨ d.length % 8 ≠ 0 then (0x0621, s)
    else if mapPending s then (0x0640, s)
    else if !vs.zipIdx.all (fun e => if pool then ivOk e.1 else cellOk s.sys.variant ((k + e.2) / 1800) e.1) then (0x0620, s)
    else if vs.isEmpty then (0, s)
    else
      let m := mapStageNow s
      mapPut (if pool then { m with pool := mputs 0 m.pool k vs } else { m with cells := mputs 0 m.cells k vs }) s

/-- A store with `w` at every key from `lo` to `hi`. -/
def mfill (lo hi w : Nat) (m : SMap Nat) : SMap Nat :=
  (m.filter fun e => decide (e.1 < lo)) ++ (if w = 0 then [] else (List.range' lo (hi + 1 - lo)).map fun k => (k, w)) ++
  m.filter fun e => decide (hi < e.1)

/-- MAP_FILL: first and last channel, first and last column, cell. -/
def mapFill (p : Path) (d : List Byte) (s : State) : Nat × State :=
  let c0 := leAt d 0 2
  let c1 := leAt d 2 2
  let k0 := leAt d 4 2
  let k1 := leAt d 6 2
  let w := leAt d 8 8
  if !sessionOn s p then (0x0611, s)
  else
    let s := touchSession p s
    if 16 < d.length then (0x0622, s)
    else if 16 = d.length ∧ (191 < c1 ∨ 1799 < k1) then (0x0622, s)
    else if d.length ≠ 16 then (0x0621, s)
    else if mapPending s then (0x0640, s)
    else if c1 < c0 ∨ k1 < k0 ∨ cellOk s.sys.variant c1 w = false then (0x0620, s)
    else
      let m := mapStageNow s
      mapPut { m with
        cells := (List.range' c0 (c1 + 1 - c0)).foldl (fun m ch => mfill (1800 * ch + k0) (1800 * ch + k1) w m) m.cells } s

def execMapFill (t : Nat) (path : Path) (data : List Byte) (s : State) : Host.Outcome State Fault Refusal :=
  .next (writeCmd path 0x3400 0x14 data.length (mapFill path data) (advance t s))

/-- MAP_CLEAR: every cell and pool entry is staged as 0. -/
def mapClear (p : Path) (s : State) : Nat × State :=
  if !sessionOn s p then (0x0611, s)
  else
    let s := touchSession p s
    if mapPending s then (0x0640, s) else mapPut {} s

def execMapClear (t : Nat) (path : Path) (s : State) : Host.Outcome State Fault Refusal :=
  .next (writeCmd path 0x3400 0x15 1 (mapClear path) (advance t s))

/-- MAP_REVERT: staged map changes are discarded at once. -/
def mapRevert (s : State) : Nat × State :=
  if mapPending s then (0x0640, s) else (0, { s with cf := { s.cf with mapStage := none } })

def execMapRevert (t : Nat) (path : Path) (s : State) : Host.Outcome State Fault Refusal :=
  .next (writeCmd path 0x3400 0x16 1 mapRevert (advance t s))

/-- A read of CELL_DATA or POOL_DATA: the map in effect from the offset, up to 4,096 bytes. -/
def mapReadData (s : State) (pool : Bool) : Nat × List Byte :=
  let ofs := liveN s 0x3400 (if pool then 0x12 else 0x10)
  let n := min 4096 ((if pool then 2097152 else 2764800) - ofs)
  if ofs % 8 ≠ 0 then (0x0621, [])
  else (0, bytes8 (if pool then (mapTrim s.cf.map).pool else s.cf.map.cells) (ofs / 8) (n / 8))

end Sys2Proof.Machine
end

