-- ==== Sys2Proof/Machine/Dictionary.lean ====
section
/-! DEFINITION. Machine/Dictionary.lean: the object dictionary's server: the value of every object, the checks of Table 18.7 in their
order, staging and immediate writes, transfers, responses and their repetition (R405 to R410), and the frames that carry them. -/

namespace Sys2Proof.Machine

/-! ### Values as read (R410) -/

/-- `n` registers from address `a`. -/
def regRun (a n : Nat) : List Nat := (List.range n).map fun k => a + 4 * k

/-- Registers that objects of indices below 0x2000 copy whole. -/
def copyLow (i sub : Nat) : List Nat :=
  match i, sub with
  | 0x1000, _ => [0x000000] | 0x1001, _ => [0x000004] | 0x1002, _ => [0x000010]
  | 0x1200, 0x02 => [0x010104] | 0x1200, 0x03 => [0x01010C] | 0x1200, 0x41 => regRun 0x010100 8
  | 0x1400, 0x40 => regRun 0x580040 8 | 0x1500, 0x02 => [0x050008] | 0x1600, 0x04 => [0x020C0C]
  | 0x1600, 0x40 => regRun 0x020000 384 | 0x1600, 0x41 => (List.range 10).map fun t => 0x020800 + 0x40 * t
  | 0x1700, 0x40 => regRun 0x030010 3 | 0x1700, 0x41 => regRun 0x030050 3
  | _, _ => []

/-- Registers that objects of the data plane copy whole. -/
def copyData (i sub : Nat) : List Nat :=
  let q := 0x4000 * (sub % 4)
  if i < 0x2010 then
    let b := 0x080000 + 0x40 * (i - 0x2000)
    if sub = 7 then [b + 0x14] else if sub = 8 then [b + 0x18] else if sub = 0x40 then regRun (b + 0x10) 4
    else if sub = 0x25 then [0x080418] else []
  else if i = 0x2100 then
    if sub = 2 then [0x080A04] else if sub = 0x40 then regRun 0x080900 32
    else if 0x10 ≤ sub then [0x080800 + 0x10 * (sub % 16) + 4 * (sub / 16 - 1)] else []
  else if i < 0x2400 then
    let ch := i - 0x2200
    if sub = 0x40 then regRun (0x0A040C + 0x4000 * (ch / 48) + 0x40 * (ch % 48)) 13 else []
  else if i = 0x2400 then
    if 0x54 ≤ sub then regRun (0x0A3000 + q) 1024 else if 0x50 ≤ sub then regRun (0x0A2000 + q) 1024
    else if 0x4C ≤ sub then regRun (0x0A1FC0 + q) 16 else if 0x48 ≤ sub then []
    else if 0x44 ≤ sub then [0x0A1814 + q] else if 0x20 ≤ sub ∧ sub < 0x24 then regRun (0x0A1820 + q) 6 else []
  else if i = 0x2500 then (if 0x20 ≤ sub ∧ sub < 0x24 then regRun (0x0E0040 + q) 8 else [])
  else if i = 0x2600 then (if sub = 2 then [0x080440] else if sub = 0x10 then [0x08044C] else [])
  else if i = 0x2700 then
    (if sub = 7 then [0x0C0044] else if sub = 8 then [0x0C0040] else if sub = 0x20 then regRun 0x0C0030 11
     else if sub = 0x42 then regRun 0x0C4000 1024 else if sub = 0x43 then regRun 0x0C5000 1024
     else if sub = 0x44 then regRun 0x0C6000 1024 else [])
  else if i = 0x2800 then (if sub = 0x40 then regRun 0x480020 11 else [])
  else if i < 0x3400 then
    let b := 0x400000 + 0x40 * (i - 0x3000)
    if sub = 8 then [b + 0x0C] else if sub = 9 then [b + 0x14] else if sub = 0x40 then regRun (b + 8) 7 else []
  else
    (if sub = 1 then [0x410020] else if sub = 2 then [0x410024] else if sub = 3 then [0x41002C]
     else if sub = 0x40 then regRun 0x410000 6 else [])

/-- Registers that objects of indices from 0x4000 on copy whole. -/
def copyHigh (i sub : Nat) : List Nat :=
  if i = 0x4000 then
    if 5 ≤ sub ∧ sub ≤ 7 then [0x4C0008 + [0, 8, 12].getD (sub - 5) 0] else if sub = 0x32 then [0x4C0060]
    else if sub = 0x40 then regRun 0x4C0000 10 else []
  else if i = 0x4400 then (if sub = 0x44 then regRun 0x4C0040 8 else [])
  else if i < 0x5000 then []
  else if i < 0x5010 then
    let b := 0x50010C + 0x20 * (i - 0x5000)
    if sub = 0xA then [b] else if sub = 0x40 then regRun b 4 else if sub = 0x23 then [0x500018]
    else if sub = 0x24 then regRun 0x502000 1024 else if sub = 0x25 then regRun 0x503000 1024 else []
  else if i = 0x5100 then
    (if sub = 0x40 then regRun 0x540010 3 ++ regRun 0x540200 16 ++ regRun 0x540280 16 ++ regRun 0x540300 32 else [])
  else if i < 0x5300 then (if sub = 0x40 then regRun (0x540100 + 8 * (i - 0x5200)) 2 else [])
  else if i = 0x5300 then (if 0x40 ≤ sub then regRun (0x540800 + 0x20 * (sub - 0x40)) 7 else [])
  else
    (if sub = 0xF then [0x5C0024] else if sub = 0x40 then regRun 0x5C1000 192 else if sub = 0x41 then regRun 0x5C1400 192
     else if sub = 0x43 then regRun 0x5C0040 3 else if sub = 0x44 then regRun 0x5C0100 18 else [])

/-- Registers that an object copies whole, in order. -/
def objCopy (i sub : Nat) : List Nat :=
  if i < 0x2000 then copyLow i sub else if i < 0x4000 then copyData i sub else copyHigh i sub

/-- Scalars of indices below 0x2000 that copy a field, or that act at once. -/
def scalarLow (s : State) (i sub : Nat) : Option Nat :=
  match i, sub with
  | 0x1004, 1 => some (syCfg s) | 0x1004, _ => some s.cf.count | 0x1005, _ => some (syDbg s)
  | 0x1006, 1 => some s.sys.safeMs | 0x1006, _ => some s.sys.frameMs
  | 0x1100, 1 => some s.pw.st | 0x1100, 2 => some s.pw.req | 0x1100, 9 => some (fld (pwState s) 8 11)
  | 0x1100, 0x15 => some (statusWord s aCommit)
  | 0x1200, 1 => some (fld (regGet s 0x010100) 0 2) | 0x1200, 0x15 => some (fld (regGet s 0x010300) 0 3)
  | 0x1200, 0x16 => some (fld (regGet s 0x010304) 0 16) | 0x1200, 0x20 => some s.sup.eTotal | 0x1200, 0x21 => some s.sys.saves
  | 0x1200, 0x22 => some s.sys.unsaved | 0x1300, 1 => some (ckStat s)
  | 0x1400, 2 => some (zlAssigned s).toNat | 0x1400, 4 => some s.sys.sysTime.toNat | 0x1400, 6 => some s.zl.sync.toNat
  | 0x1400, 7 => some s.zl.maddr
  | 0x1400, 9 => some (put s.zl.p1.st 18 2 + put s.zl.p0.st 16 2 + fld (zlPortReg s 0) 0 16)
  | 0x1400, 0xA => some s.zl.conflict.toNat | 0x1400, 0xB => some (toU 32 s.zl.ofs)
  | 0x1500, 1 => some s.hp.crcOnly.toNat | 0x1500, 3 => some s.hp.last | 0x1600, 1 => some (edFlags s)
  | 0x1600, 3 => some s.ed.waket
  | 0x1700, 1 => some s.crc0.poly | 0x1700, 2 => some s.crc0.start | 0x1700, 3 => some s.crc0.len
  | 0x1700, 5 => some (crcShown s.crc0) | 0x1700, 0x11 => some s.crc1.poly | 0x1700, 0x12 => some s.crc1.start
  | 0x1700, 0x13 => some s.crc1.len | 0x1700, 0x15 => some (crcShown s.crc1)
  | 0x1800, 0x11 => some s.gov.trip.toNat | 0x1800, 0x38 => some (fld (wcStat s) 0 8)
  | 0x1800, n => if 0x24 ≤ n ∧ n < 0x28 then some (fld (ccVst s (n - 0x24)) 0 16) else none
  | _, _ => none

/-- Scalars of the data plane. -/
def scalarData (s : State) (i sub : Nat) : Option Nat :=
  if i < 0x2010 then
    if sub = 6 then some (epochOf s.cf.epochs 4 (i - 0x2000)) else if sub = 0x24 then some s.ex.phase else none
  else if i = 0x2100 then (if sub = 1 then some (bitIf s.gov.locked 0 + bitIf s.gov.crcBad 1) else none)
  else if i < 0x2400 then
    let ch := i - 0x2200
    let b := 0x0A0400 + 0x4000 * (ch / 48) + 0x40 * (ch % 48)
    if sub = 8 then some (fld (regGet s (b + 0x0C)) 0 4) else if sub = 9 then some (4 * fld (regGet s (b + 0x10)) 24 8)
    else if sub = 0xA then some (rxGet s ch).amb else if sub = 0xB then some (fld (regGet s (b + 0x14)) 16 16)
    else if sub = 0x29 then some (rqGet s (ch / 48)).hv else none
  else if i = 0x2400 then
    (if 0x48 ≤ sub ∧ sub < 0x4C then some (fld (regRead s (0x0A1818 + 0x4000 * (sub - 0x48))) 0 8) else none)
  else if i = 0x2600 then
    let w := acStatReg s
    (match sub with
     | 3 => some (fld w 4 2) | 4 => some (fld w 8 4) | 0xE => some (fld w 2 1) | 0xF => some (fld w 16 10)
     | 0x44 => some (coordStat s) | 0x50 => some (adjPairs s).length | _ => none)
  else if i = 0x2700 then
    (if sub = 6 then some s.fp.vigilReq.toNat else if sub = 0x45 then some (sat 16 s.fp.unreach) else none)
  else if i = 0x2800 then
    (if sub = 6 then some (sat 32 (regGet s 0x480028 + regGet s 0x48002C + regGet s 0x480038 + regGet s 0x48003C)) else none)
  else if 0x3000 ≤ i ∧ i < 0x3400 then (if sub = 7 then some (epochOf s.cf.epochs 0 (i - 0x3000)) else none)
  else none

/-- Scalars of indices from 0x4000 on. -/
def scalarHigh (s : State) (i sub : Nat) : Option Nat :=
  if i = 0x4000 then
    (match sub with
     | 1 => some (fld (regGet s 0x4C0000) 0 8) | 2 => some (fld (regGet s 0x4C000C) 0 16)
     | 3 => some (fld (regGet s 0x4C000C) 16 16) | 4 => some (fld (regGet s 0x4C0004) 16 16) | 0x36 => some s.cf.verify
     | _ => none)
  else if i = 0x4400 then
    (match sub with
     | 1 => some (fld (regGet s 0x4C0040) 0 24) | 2 => some (fld (regGet s 0x4C0050) 0 24)
     | 3 => some (fld (regGet s 0x4C0058) 0 24) | _ => none)
  else if i = 0x4800 then
    (match sub with
     | 1 => some s.sess.log.length | 2 => some (logCrc s) | 3 => some (if s.cf.loaded then cfgCrc s else 0) | 7 => some s.sess.clears | _ => none)
  else if i = 0x5000 ∧ sub = 0x26 then some (fld (tfOnsetReg s) 0 16)
  else if 0x5200 ≤ i ∧ i < 0x5220 then
    let x := secGet s (i - 0x5200)
    (match sub with
     | 1 => some x.st | 2 => some (toU 16 x.count) | 3 => some x.cause
     | 4 => some (epochOf s.cf.epochs 3 (i - 0x5200)) | _ => none)
  else if i = 0x5800 ∧ sub = 0x10 then some s.lm.evt.toNat
  else none

/-- A scalar that shows a field of the state. -/
def objScalar (s : State) (i sub : Nat) : Option Nat :=
  if i < 0x2000 then scalarLow s i sub else if i < 0x4000 then scalarData s i sub else scalarHigh s i sub

/-- The assignment in effect (R231): the one committed, or the accord in effect in the same layout. -/
def assignShown (s : State) : Assign :=
  let a := accordNow s
  match s.ac.assign with
  | some x => if a.src = 1 then x else ⟨a.codes, a.phi, a.hop, a.coord, 0, a.gen⟩
  | none => ⟨a.codes, a.phi, a.hop, a.coord, 0, a.gen⟩

/-- LOG_DATA (R340). -/
def logData (s : State) : Nat × List Byte :=
  let ofs := liveN s 0x4800 4
  if ofs % 128 ≠ 0 then (0x0621, [])
  else if 128 * s.sess.log.length < ofs then (0x0622, [])
  else (0, logFrom (ofs / 128) ((s.sess.log.drop (ofs / 128)).take 32))

/-- A read of an object that Table 18.7 lets through: an abort of its own, and its bytes. -/
def objRead (s : State) (o : Obj) (i sub : Nat) : Nat × List Byte :=
  if i = 0x3400 ∧ sub = 0x11 then mapReadData s false
  else if i = 0x3400 ∧ sub = 0x13 then mapReadData s true
  else if i = 0x4800 ∧ sub = 5 then logData s
  else if i = 0x1400 ∧ sub = 0x41 then (0, devicesBytes s)
  else if i = 0x2600 ∧ sub = 0x40 then (0, assignBytes (assignShown s))
  else match objScalar s i sub with
  | some v => (0, leBytes o.ty.size v)
  | none => match objCopy i sub with
    | [] => (0, valIn (if o.eff == Eff.now then s.cf.live else s.cf.eff) (readKey i sub))
    | as => (0, wordsLE (as.map (regRead s)))

/-- The side effects of a read: FRESH of every status word that it returned (R15), and a running scan's progress behind RUN. -/
def objReadDone (i sub : Nat) (s : State) : State :=
  let as := if i = 0x1100 ∧ sub = 0x15 then [aCommit] else objCopy i sub
  as.foldl (fun s a => if (resGet s a).fresh then clearFresh a s else s) s

/-! ### Immediate writes (R410) -/

/-- Objects whose operation makes every check from step 4 on by itself. -/
def isDirect (i sub : Nat) : Bool :=
  (i == 0x2600 && sub == 0x40) || (i == 0x3400 && (sub == 0x11 || sub == 0x13 || sub == 0x14)) ||
  (i == 0x4000 && (sub == 0x30 || sub == 0x34 || sub == 0x35)) || (i == 0x4800 && sub == 6)

/-- The words of a DOMAIN. -/
def wordsOf (d : List Byte) : List Nat := (List.range (d.length / 4)).map fun k => leAt d (4 * k) 4

/-- ROUTE: any word that mixes the classes aborts the whole write (R442). -/
def routeWrite (d : List Byte) (s : State) : Nat × State :=
  let ws := wordsOf d
  if ws.any fun w => maskMixed (fld w 0 10) then (0x0620, s)
  else (0, ws.zipIdx.foldl (fun s e => edSrcWrite e.2 e.1 s) s)

def targetsWrite (d : List Byte) (s : State) : State := (wordsOf d).zipIdx.foldl (fun s e => edTcfgWrite e.2 e.1 s) s

/-- One limit of the governor (R137): denied while the block is locked. -/
def limitWrite (sub v : Nat) (s : State) : Nat × State :=
  if govShut s then (0x0610, s)
  else
    let n := sub % 16
    let g := s.gov
    (0, { s with gov := if sub / 16 = 1 then { g with limb := mset 0 g.limb n v }
      else if sub / 16 = 2 then { g with lim5 := mset 0 g.lim5 n v } else { g with lim100 := mset 0 g.lim100 n v } })

/-- POLY, START, LENGTH, GO and RUN of a CRC unit (R451). -/
def crcObj (n sub v : Nat) (s : State) : Nat × State :=
  let x := crcUnit s n
  match sub with
  | 1 => (0, crcSet n { x with poly := v % 4 } s) | 2 => (0, crcSet n { x with start := v } s)
  | 3 => (0, crcSet n { x with len := v } s)
  | 4 => (if crcGoBad n s then 0x0622 else 0, crcGo n (v == 2) s)
  | _ => crcRunObj n (BitVec.ofNat 64 v) s

/-- PAGE0 and PAGE1. -/
def pageWrite (page : Nat) (d : List Byte) (s : State) : State :=
  { s with lm := { s.lm with
      pix := mputs 0 s.lm.pix (192 * page) ((wordsOf d).map fun w => BitVec.ofNat 32 (w % 2 ^ 24)) } }

/-- OPEN_CLR. -/
def openClr (d : List Byte) (s : State) : State :=
  (wordsOf d).zipIdx.foldl (fun s e => lmOpenClear e.2 (BitVec.ofNat 32 e.1) s) s

/-- The operation of an object below 0x2000. -/
def nowLow (p : Path) (i sub : Nat) (d : List Byte) (s : State) : Nat × State :=
  let v := leNat d
  match i, sub with
  | 0x1003, _ => (0, scheduleReset (v % 65536) s) | 0x1100, 2 => (0, pwrReq v s) | 0x1100, 0x14 => commitGo p s
  | 0x1400, 5 => timeSetRun (BitVec.ofNat 64 v) s
  | 0x1500, _ => (0, { s with hp := { s.hp with crcOnly := v == 1 } })
  | 0x1600, 2 => (0, edEvtClear v s) | 0x1600, 3 => (0, edWaket v s) | 0x1600, 4 => (0, edSecchg (BitVec.ofNat 32 v) s)
  | 0x1600, 0x40 => routeWrite d s | 0x1600, _ => (0, targetsWrite d s)
  | 0x1700, n => crcObj (n / 16) (n % 16) v s
  | 0x1800, 0x11 => (0, fcClear (BitVec.ofNat 16 v) s) | 0x1800, _ => (0, wcClear v s)
  | _, _ => (0, setLive s i sub d)

/-- The operation of an object from 0x2000 on. -/
def nowHigh (p : Path) (i sub : Nat) (d : List Byte) (s : State) : Nat × State :=
  let v := leNat d
  if i = 0x2100 then (if sub = 2 then governorLock p v s else limitWrite sub v s)
  else if 0x2200 ≤ i ∧ i < 0x2400 then
    (if sub = 0xC then (0, healthClr (i - 0x2200) s)
     else if canStage s then (0, zrefLatch ((i - 0x2200) / 48) s) else (0x0640, s))
  else match i, sub with
  | 0x2600, 0x40 => assignRun d s | 0x2600, _ => (0, coordRun s)
  | 0x3400, 0x11 => mapData false p d s | 0x3400, 0x13 => mapData true p d s | 0x3400, 0x14 => mapFill p d s
  | 0x3400, 0x15 => mapClear p s | 0x3400, 0x16 => mapRevert s
  | 0x4000, 0x30 => sessionOpen p d s | 0x4000, 0x31 => sessionClose p s | 0x4000, 0x34 => passSet p d s
  | 0x4000, 0x35 => safetyErase p d s | 0x4800, 6 => logClear p d s
  | 0x5000, 0x21 => (0, tfSoftBlank v s) | 0x5000, 0x22 => (0, tfArm v s)
  | 0x5000, 0x26 => (0, tfOnsetClear (BitVec.ofNat 16 v) s)
  | 0x5800, 0x11 => (0, lmEvtClear (BitVec.ofNat 4 v) s) | 0x5800, 0x40 => (0, pageWrite 0 d s)
  | 0x5800, 0x41 => (0, pageWrite 1 d s) | 0x5800, 0x42 =>
    (if leAt d 0 1 < 2 then (0, lmShowRun (leAt d 0 1) (BitVec.ofNat 64 (leAt d 1 8)) s) else (0x0620, s))
  | 0x5800, 0x45 => (0, openClr d s)
  | _, _ =>
    if i = 0x2400 then
      let q := sub % 4
      if 0x44 ≤ sub then (0, snapPut q { snapGet s q with frame := v } s) else (0, snapCmd q v s)
    else if 0x5200 ≤ i ∧ i < 0x5220 then (0, sectionReset (i - 0x5200) (some p) s)
    else (0, setLive s i sub d)

/-- The operation of an object that acts at once: its own aborts, and its effect. -/
def nowOp (p : Path) (i sub : Nat) (d : List Byte) (s : State) : Nat × State :=
  if i < 0x2000 then nowLow p i sub d s else nowHigh p i sub d s

/-- Longest value of an object (step 7): the lengths that have 0x0621 of their own are limited by R406 alone. -/
def objMax (o : Obj) (i sub : Nat) : Nat :=
  match o.ty with
  | .dom => if (i = 0x1600 ∧ sub = 0x40) ∨ (i = 0x4400 ∧ sub = 0x28) ∨ (i = 0x5800 ∧ 0x40 ≤ sub ∧ sub ≤ 0x42) then 4096 else o.hi.toNat
  | ty => ty.size

def needsSession (o : Obj) : Bool := o.acc == .rws || o.acc == .wos

/-- An immediate write in the order of Table 18.7; `r` is the outcome of its operation. -/
def orderly (o : Obj) (p : Path) (i sub : Nat) (d : List Byte) (r : Nat × State) (s : State) : Nat × State :=
  if r.1 = 0x0610 then (0x0610, s)
  else if (needsSession o && !sessionOn s p) || r.1 == 0x0611 then (0x0611, s)
  else if objMax o i sub < d.length then (0x0622, s)
  else if !lengthOk o i sub d.length then (0x0621, s)
  else if r.1 = 0x0640 then (0x0640, s)
  else if !valueOk o i sub d then (0x0620, s)
  else r

def nowWrite (o : Obj) (p : Path) (i sub : Nat) (d : List Byte) (s : State) : Nat × State :=
  if isDirect i sub then nowOp p i sub d s
  else
    let s := if needsSession o then touchSession p s else s
    orderly o p i sub d (nowOp p i sub d s) s

/-! ### Staged writes (R45, R74) -/

/-- A PROG_LEN beyond the program memory (R20, R213, R249). -/
def progLenOver (i sub : Nat) (d : List Byte) : Bool :=
  decide (d.length = 2) &&
  ((i == 0x2500 && (sub == 0x10 || inRun sub 0x44 4 1) && decide (1024 < leNat d)) || (i == 0x2700 && sub == 2 && decide (2048 < leNat d)))

/-- The abort of a staged write from step 7 on. -/
def stageAbort (o : Obj) (i sub : Nat) (d : List Byte) (s : State) : Nat :=
  if objMax o i sub < d.length ∨ progLenOver i sub d = true then 0x0622
  else if !lengthOk o i sub d.length then 0x0621
  else if !canStage s then 0x0640
  else
    let m := stageKeys (storeKeys s.sys.variant i sub) d (stagedSoon s)
    if valueOk o i sub d && valueForm i sub d && consistent (withSet (afterCommit s.cf.eff m) s.cf.map s) i sub then 0 else 0x0620

/-! ### Requests (R407) -/

/-- Steps 1 to 3. -/
def locate (s : State) (i sub : Nat) : Nat × Option Obj :=
  if !indexDefined i then (0x0601, none)
  else if !unitPresent s.sys.variant i sub then (0x0602, none)
  else match objAt i sub with | some o => (0, some o) | none => (0x0603, none)

/-- The role epoch of the object behind an index (R52); objects without one check none. -/
def indexEpoch (s : State) (i : Nat) : Option Nat :=
  if 0x3000 ≤ i ∧ i < 0x3400 then some (epochOf s.cf.epochs 0 (i - 0x3000))
  else if 0x2000 ≤ i ∧ i < 0x2010 then some (epochOf s.cf.epochs 4 (i - 0x2000))
  else if 0x5200 ≤ i ∧ i < 0x5220 then some (epochOf s.cf.epochs 3 (i - 0x5200))
  else none

/-- An expert write whose non-zero epoch differs from the object's (R52). -/
def epochBad (s : State) (i sub e : Nat) : Bool :=
  decide (0x40 ≤ sub) && decide (e ≠ 0) && match indexEpoch s i with | some x => x != e | none => false

/-- Steps 4 to 6 of a write segment: access, session, epoch. -/
def writeGate (o : Obj) (p : Path) (i sub e : Nat) (s : State) : Nat :=
  if o.acc == .ro then 0x0610
  else if needsSession o && !sessionOn s p then 0x0611
  else if epochBad s i sub e then 0x0630 else 0

/-- A response that leaves, kept for a repetition of its request (R409). -/
def respond (p : Path) (op : Nat) (r : DictReq) (rsp : DictRsp) (s : State) : State :=
  let keep := s.dc.prev.filter fun e => !(e.1 == p && e.2.2.2.1.tid == r.tid) && decide (s.sys.now < e.2.2.1 + secNs)
  answer p rsp { s with dc := { s.dc with prev := (p, op, s.sys.now, r, rsp) :: keep } }

/-- A response to a request: an abort carries no value. -/
def rspTo (op : Nat) (r : DictReq) (abort val : Nat) (data : List Byte := []) : DictRsp :=
  { op := op, index := r.index, sub := r.sub, tid := r.tid, abort := abort, val := if abort = 0 then val else 0, data := data }

def say (p : Path) (op : Nat) (r : DictReq) (abort val : Nat) (s : State) : State := respond p op r (rspTo op r abort val) s

/-- The transfer of a path and a TID. -/
def xferOf (s : State) (p : Path) (r : DictReq) : Option Xfer := s.dc.xfers.find? fun x => x.path == p && x.tid == r.tid

def xferDrop (p : Path) (tid : Nat) (s : State) : State :=
  { s with dc := { s.dc with xfers := s.dc.xfers.filter fun x => !(x.path == p && x.tid == tid) } }

/-- The open transfers without those that have expired (R409). -/
def xferPrune (s : State) : State :=
  { s with dc := { s.dc with xfers := s.dc.xfers.filter fun x => decide (s.sys.now < x.last + secNs) } }

def xferOpen (x : Xfer) (s : State) : State := { s with dc := { s.dc with xfers := s.dc.xfers ++ [x] } }

/-- The bytes of a segment. -/
def segment (d : List Byte) (ofs : Nat) : List Byte := (d.drop ofs).take 992

/-- READ. -/
def dictRead (p : Path) (r : DictReq) (s : State) : State :=
  let l := locate s r.index r.sub
  match l.2 with
  | none => say p 1 r l.1 0 s
  | some o =>
    if o.acc == .wo || o.acc == .wos then say p 1 r 0x0610 0 s
    else
      let s := if o.acc == .rws then touchSession p s else s
      let s := if r.index = 0x1700 ∧ r.sub % 16 = 5 then crcProgress (r.sub / 16) s else s
      let v := objRead s o r.index r.sub
      let s := xferDrop p r.tid s
      if v.1 ≠ 0 then say p 1 r v.1 0 s
      else if v.2.length ≤ 992 then
        respond p 1 r (rspTo 1 r 0 v.2.length v.2) (objReadDone r.index r.sub s)
      else if 8 ≤ s.dc.xfers.length then say p 1 r 0x0640 0 s
      else
        let x : Xfer := ⟨p, r.tid, false, okey r.index r.sub, 0, v.2.length, v.2, s.sys.now⟩
        respond p 1 r (rspTo 1 r 0 v.2.length (segment v.2 0)) (xferOpen x (objReadDone r.index r.sub s))

/-- READ_SEG. The transfer ends with its last segment. -/
def dictReadSeg (p : Path) (r : DictReq) (s : State) : State :=
  let l := locate s r.index r.sub
  match l.2 with
  | none => say p 2 r l.1 0 s
  | some o =>
    if o.acc == .wo || o.acc == .wos then say p 2 r 0x0610 0 s
    else match xferOf s p r with
    | some x =>
      if x.write || x.key ≠ okey r.index r.sub || r.val % 992 ≠ 0 || decide (x.total ≤ r.val) then say p 2 r 0x0621 0 s
      else
        let s := xferDrop p r.tid s
        let s := if x.total ≤ r.val + 992 then s else xferOpen { x with last := s.sys.now } s
        respond p 2 r (rspTo 2 r 0 r.val (segment x.data r.val)) s
    | none => say p 2 r 0x0621 0 s

/-- A write whose value is complete: an immediate one acts and is answered, a staged one waits for the MRAM (R74). -/
def writeWhole (o : Obj) (p : Path) (op : Nat) (r : DictReq) (d : List Byte) (s : State) : State :=
  if o.eff == Eff.commit then
    let s := if needsSession o then touchSession p s else s
    let ab := stageAbort o r.index r.sub d s
    if ab ≠ 0 then say p op r ab 0 s
    else { s with cf := { s.cf with unacked := s.cf.unacked ++ [(p, { r with data := d })] } }
  else
    let w := nowWrite o p r.index r.sub d s
    say p op r w.1 d.length w.2

/-- WRITE: a whole value, or the first segment of a longer one. -/
def dictWrite (p : Path) (r : DictReq) (s : State) : State :=
  let l := locate s r.index r.sub
  let s := xferDrop p r.tid s
  match l.2 with
  | none => say p 3 r l.1 0 s
  | some o =>
    let g := writeGate o p r.index r.sub r.epoch s
    if r.val ≤ 992 then
      if g = 0x0611 ∧ o.eff = Eff.now ∧ isDirect r.index r.sub = false then say p 3 r (nowWrite o p r.index r.sub r.data s).1 0 s
      else if g ≠ 0 then say p 3 r g 0 s
      else if r.val ≠ r.data.length then say p 3 r (if objMax o r.index r.sub < r.val then 0x0622 else 0x0621) 0 s
      else writeWhole o p 3 r r.data s
    else if g ≠ 0 then say p 3 r g 0 s
    else if 4096 < r.val then say p 3 r 0x0622 0 s
    else if r.data.length ≠ 992 then say p 3 r 0x0621 0 s
    else if 8 ≤ s.dc.xfers.length then say p 3 r 0x0640 0 s
    else
      let s := if needsSession o then touchSession p s else s
      say p 3 r 0 992 (xferOpen ⟨p, r.tid, true, okey r.index r.sub, r.epoch, r.val, r.data, s.sys.now⟩ s)

/-- WRITE_SEG. -/
def dictWriteSeg (p : Path) (r : DictReq) (s : State) : State :=
  let l := locate s r.index r.sub
  match l.2 with
  | none => say p 4 r l.1 0 s
  | some o =>
    let g := writeGate o p r.index r.sub r.epoch s
    if g ≠ 0 then say p 4 r g 0 s
    else match xferOf s p r with
    | some x =>
      let left := x.total - x.data.length
      if !x.write || x.key ≠ okey r.index r.sub || r.val ≠ x.data.length || r.data.length ≠ min 992 left then
        say p 4 r 0x0621 0 s
      else
        let d := x.data ++ r.data
        let s := xferDrop p r.tid s
        if d.length = x.total then writeWhole o p 4 r d s
        else
          let s := if needsSession o then touchSession p s else s
          say p 4 r 0 d.length (xferOpen { x with data := d, last := s.sys.now } s)
    | none => say p 4 r 0x0621 0 s

/-- CANCEL. -/
def dictCancel (p : Path) (r : DictReq) (s : State) : State :=
  let l := locate s r.index r.sub
  match l.2 with
  | none => say p 5 r l.1 0 s
  | some _ => match xferOf s p r with
    | some _ => say p 5 r 0 0 (xferDrop p r.tid s)
    | none => say p 5 r 0x0621 0 s

/-- The response to a repeated request of the last second (R409). -/
def repeated (s : State) (p : Path) (op : Nat) (r : DictReq) : Option DictRsp :=
  (s.dc.prev.find? fun e => e.1 == p && e.2.2.2.1.tid == r.tid).bind fun e =>
    if e.2.1 == op && e.2.2.2.1 == r && decide (s.sys.now < e.2.2.1 + secNs) then some e.2.2.2.2 else none

/-- A write of the same source and TID still waits for its staging: its response is to come. -/
def awaiting (s : State) (p : Path) (r : DictReq) : Bool := s.cf.unacked.any fun e => e.1 == p && e.2.tid == r.tid

/-- A request arrives. The abort of an OP that Table 18.6 does not list is a free value (assumption 1). In SAVE and in a management-plane reset there is no response (R409). -/
def dictRequest (op : Nat) (p : Path) (r : DictReq) (s : State) : State :=
  if !hostUp s then s
  else match repeated s p op r with
  | some rsp => answer p rsp s
  | none =>
    if awaiting s p r then s
    else
      let s := xferPrune s
      match op with
      | 1 => dictRead p r s | 2 => dictReadSeg p r s | 3 => dictWrite p r s | 4 => dictWriteSeg p r s | 5 => dictCancel p r s
      | _ => say p op r (freeNow s % 2 ^ 16) 0 (drawn s)

def execDictRead (t : Nat) (path : Path) (r : DictReq) (s : State) : Host.Outcome State Fault Refusal :=
  .next (dictRequest 1 path r (advance t s))
def execDictReadSeg (t : Nat) (path : Path) (r : DictReq) (s : State) : Host.Outcome State Fault Refusal :=
  .next (dictRequest 2 path r (advance t s))
def execDictWrite (t : Nat) (path : Path) (r : DictReq) (s : State) : Host.Outcome State Fault Refusal :=
  .next (dictRequest 3 path r (advance t s))
def execDictWriteSeg (t : Nat) (path : Path) (r : DictReq) (s : State) : Host.Outcome State Fault Refusal :=
  .next (dictRequest 4 path r (advance t s))
def execDictCancel (t : Nat) (path : Path) (r : DictReq) (s : State) : Host.Outcome State Fault Refusal :=
  .next (dictRequest 5 path r (advance t s))

/-- An open transfer expires 1 s after its last segment. -/
def xferExpire (p : Path) (tid : Nat) (s : State) : State :=
  { s with dc := { s.dc with
      xfers := s.dc.xfers.filter fun x => !(x.path == p && x.tid == tid && decide (x.last + secNs ≤ s.sys.now)) } }

def execDictTransferExpiry (t : Nat) (path : Path) (tid : Nat) (s : State) : Host.Outcome State Fault Refusal :=
  .next (xferExpire path tid (advance t s))

/-! ### MRAM staging (R74) -/

/-- The acknowledgement of a staged write: a value longer than one segment ended with a WRITE_SEG at offset VAL. -/
def ackWrite (e : Path × DictReq) (s : State) : State :=
  let n := e.2.data.length
  let op := if 992 < n then 4 else 3
  let r := { e.2 with data := if 992 < n then e.2.data.drop e.2.val else e.2.data }
  say e.1 op r 0 n s

/-- Every write received and not yet staged is staged in MRAM and acknowledged. -/
def mramStage (s : State) : State :=
  if hostUp s && canStage s then s.cf.unacked.foldl (fun t e => ackWrite e t) (stageUnacked s) else s

def execMramStage (t : Nat) (s : State) : Host.Outcome State Fault Refusal := .next (mramStage (advance t s))

/-! ### Frames (R404, R405) -/

/-- The request of a REQ frame (Table 18.5): its operation and its fields. -/
def reqOf (b : List Byte) : Nat × DictReq :=
  (leAt b 0 1, { index := leAt b 2 2, sub := leAt b 1 1, epoch := leAt b 4 2, tid := leAt b 6 2, val := leAt b 8 4, data := b.drop 12 })

/-- A REQ frame accepted: the path is the address of its source. -/
def takeReq (f : ZlFrame) (s : State) : State :=
  if f.body.length < 12 ∨ f.unasg = true then s
  else dictRequest (reqOf f.body).1 (.zeley f.src) (reqOf f.body).2 s

/-- A COMMIT frame (R404): U64 COMMIT_TIME, U16 TAG. It acts as the three writes; COMMIT_TAG returns to 0; no response. -/
def takeCommit (f : ZlFrame) (s : State) : State :=
  let tag := liveN s 0x1400 8
  if tag = 0 ∨ leAt f.body 8 2 ≠ tag then s
  else
    let s := setLive s 0x1100 0x11 (leBytes 1 2)
    let s := setLive s 0x1100 0x13 (leBytes 8 (leAt f.body 0 8))
    let s := (commitGo (.zeley f.src) s).2
    setLive s 0x1400 8 (leBytes 2 0)

/-- An accepted frame by its type (Table 18.2). -/
def takeFrame (p : Nat) (f : ZlFrame) (s : State) : State :=
  match f.type with
  | 2 => takeCommit f s
  | 4 => takeReq f s
  | _ => takeLinkFrame p f s

/-- A frame has been received whole on a port. -/
def frameRun (p : Nat) (f : ZlFrame) (s : State) : State :=
  let r := frameIn p f s
  if r.1 then takeFrame p f r.2 else r.2

def execZlFrameReceive (t : Nat) (p : Fin 2) (f : ZlFrame) (s : State) : Host.Outcome State Fault Refusal :=
  .next (frameRun p f (advance t s))
def execZlCommitFrame (t : Nat) (p : Fin 2) (f : ZlFrame) (s : State) : Host.Outcome State Fault Refusal :=
  .next (if f.type = 2 then frameRun p f (advance t s) else advance t s)
def execZlReqFrame (t : Nat) (p : Fin 2) (f : ZlFrame) (s : State) : Host.Outcome State Fault Refusal :=
  .next (if f.type = 4 then frameRun p f (advance t s) else advance t s)

end Sys2Proof.Machine
end

