-- ==== Sys2Proof/Machine/HostPort.lean ====
section
/-! DEFINITION. Machine/HostPort.lean: the host port: register reads with their side effects (R420), register writes, the transfers
and the status word (R415 to R428), and the dictionary mailbox. -/

namespace Sys2Proof.Machine

/-! ### LAST codes (Table 19.3) -/

def lastHcrc := 1
def lastDcrc := 2
def lastWait := 3
def lastAddr := 4
def lastErange := 5
def lastBadcmd := 6
def lastPartial := 7
def lastCrcreq := 8
def lastMbxbusy := 9
def lastStage := 10

/-- The first problem stands. -/
def firstCode (a b : Nat) : Nat := if a = 0 then b else a

/-! ### Reads (R420) -/

/-- A word read by the host, with the side effects of a word that is shifted out whole: a claim, the latches of ZL_TIMEHI and
CRC_RUNHIn, and FRESH of the result that the word returned. -/
def hostRead (a : Nat) (s : State) : Nat × State :=
  if !addrOk a || regAbsent s.sys.variant a then (0, s)
  else match regIdx a 0x020804 10 0x40 with
  | some t => edClaim t s
  | none =>
    if a = 0x580020 then
      (regRead s a, { s with zl := { s.zl with timeHi := BitVec.ofNat 32 (fld s.sys.sysTime.toNat 32 32) } })
    else match regIdx a 0x03001C 2 0x40 with
    | some n =>
      let s := crcProgress n s
      (regRead s a, crcRunLatch n s)
    | none => match regIdx a 0x030024 2 0x40 with
      | some n => let s := crcProgress n s; (regRead s a, s)
      | none => if (resGet s a).fresh then (regRead s a, clearFresh a s) else fetchWord a s

/-- The status word of a result is read: FRESH. -/
def execResultStatusRead (addr : Nat) (s : State) : Host.Outcome State Fault Refusal :=
  .next (if (resGet s addr).fresh then clearFresh addr s else s)

/-- ZL_TIMELO is read: the upper half of the value returned is latched (R413). -/
def execZlTimeloRead (s : State) : Host.Outcome State Fault Refusal := .next (hostRead 0x580020 s).2

/-! ### Staged register fields (R422) -/

/-- The value that a register write stages: reserved bits of packed objects stay 0, and FIX_PHASE codes from 24,001 to 65,534 act
as 24,000. -/
def stagedValue (f : RegFld) (k w : Nat) : List Byte :=
  let o := f.obj k
  let v := f.value (fld w f.lo f.w)
  let v := match packMask o.1 o.2 with | some m => ((Nat.land v.toNat m : Nat) : Int) | none => v
  let v := if o.1 = 0x2600 ∧ o.2 = 0xA ∧ 24000 < v ∧ v < 65535 then 24000 else v
  match objAt o.1 o.2 with | some ob => encVal ob.ty v | none => []

/-- The staged set after the fields of a word; a result that breaks a consistency rule is dropped (assumption 10). -/
def stageFields (fs : List (RegFld × Nat)) (w : Nat) (s : State) : State :=
  let put_ := fun (m : SMap (List Byte)) => fs.foldl (fun m e => mput m (e.1.key e.2) (stagedValue e.1 e.2 w)) m
  let m := put_ s.cf.staged
  let v := withSet (afterCommit s.cf.eff (put_ (stagedSoon s))) s.cf.map s
  if fs.all fun e => let o := e.1.obj e.2; consistent v o.1 o.2 then { s with cf := { s.cf with staged := m } } else s

/-- A word of a staged program: the value grows to hold it. -/
def stageWord (key i w : Nat) (s : State) : State :=
  let b := (mlook s.cf.staged key).getD (valIn s.cf.eff key)
  let b := b ++ List.replicate (4 * i + 4 - b.length) 0
  stagePut key (b.take (4 * i) ++ leBytes 4 w ++ b.drop (4 * i + 4)) s

/-- The staged program word at an address: key and word number. -/
def progWord (a : Nat) : Option (Nat × Nat) :=
  match regIdx a 0x0C8000 2048 4 with
  | some i => if i < 1024 then some (okey 0x2700 0x40, i) else some (okey 0x2700 0x41, i - 1024)
  | none =>
    if 0x0E0000 ≤ a ∧ a < 0x0F0000 then (regIdx (a % 0x4000) 0x2000 1024 4).map fun i => (qkey ((a - 0x0E0000) / 0x4000) 0x2500 0x11, i)
    else none

/-- PROG_LEN beyond the program memory: the write is rejected as a whole (R20, R213, R249). -/
def progLenBad (a w : Nat) : Bool :=
  (inRun a 0x0E0000 4 0x4000 && decide (1024 < fld w 16 11)) || (a == 0x0C0000 && decide (2048 < fld w 16 12))

/-- ERR_RANGE of NE_CFGq and FP_CFG follows the last write. -/
def noteRange (a : Nat) (bad : Bool) (s : State) : State :=
  if a = 0x0C0000 then { s with fp := { s.fp with errRange := bad } }
  else match regIdx a 0x0E0000 4 0x4000 with
  | some q => { s with ne := mupd {} s.ne q fun x => { x with errRange := bad } }
  | none => s

/-- A write to a staged register. -/
def stageRegister (a w : Nat) (s : State) : Nat × State :=
  if !canStage s then (lastStage, s)
  else if progLenBad a w then (lastErange, noteRange a true s)
  else match progWord a with
  | some e => (0, stageWord e.1 e.2 w s)
  | none => (0, noteRange a false (stageFields ((fieldsAt a).filter fun e => e.1.rw) w s))

/-- The address holds staged fields. -/
def isStaged (a : Nat) : Bool := (progWord a).isSome || (fieldsAt a).any fun e => e.1.rw

/-! ### Mailbox (R428) -/

/-- The request in HP_MBX_REQ. -/
def mbxBytes (s : State) (n : Nat) : List Byte := (List.range n).map fun i => mget 0 s.hp.req i

/-- A write of HP_MBX_CTL: the LAST code and the state. -/
def mbxGo (w : Nat) (s : State) : Nat × State :=
  let len := fld w 0 11
  if !bitAt w 31 then (0, s)
  else if s.hp.busy then (lastMbxbusy, s)
  else if len = 0 then (0, s)
  else if len < 12 ∨ 1004 < len then (lastErange, s)
  else
    let r := reqOf (mbxBytes s len)
    (0, dictRequest r.1 .host r.2 { s with hp := { s.hp with busy := true } })

/-- The oldest response for the host port is posted at HP_MBX_RSP. -/
def mbxPost (s : State) : State :=
  match s.dc.rsps.find? fun e => e.1 == Path.host with
  | some e =>
    let b := rspBytes e.2
    let s := { s with
      dc := { s.dc with rsps := s.dc.rsps.eraseP fun e => e.1 == Path.host }
      hp := { s.hp with busy := false, rsp := mputs 0 s.hp.rsp 0 b, rlen := b.length } }
    post 0x050014 b.length [] s
  | none => s

def execHpMbxResponsePost (t : Nat) (s : State) : Host.Outcome State Fault Refusal :=
  let s := advance t s
  .next (if hostUp s then mbxPost s else s)

/-! ### Writes of registers that act at once -/

/-- HP_CNT: any write clears both fields. -/
def hpCntClear (s : State) : State := { s with hp := { s.hp with crcErr := 0, errors := 0 } }

def execHpCntWrite (s : State) : Host.Outcome State Fault Refusal := .next (hpCntClear s)

/-- The event distributor's block. -/
def writeEd (a w : Nat) (s : State) : State :=
  let o := a - 0x020000
  let v := BitVec.ofNat 32 w
  if o < 0x600 then edSrcWrite (o / 4) w s
  else if 0x800 ≤ o ∧ o < 0xA80 then
    let t := (o - 0x800) / 0x40
    match o % 0x40 with
    | 0x00 => edTcfgWrite t w s | 0x08 => edComplete t (fld w 0 10) s | 0x14 => edLpend t v s | 0x18 => edLen t v s
    | 0x1C => edLset t w s | 0x20 => edLlvl t 0 w s | 0x24 => edLlvl t 1 w s | 0x28 => edLlvl t 2 w s | 0x2C => edLlvl t 3 w s
    | 0x30 => edLcnt t s | _ => s
  else match o with
  | 0xC00 => edWaket w s | 0xC04 => edStatWrite w s | 0xC08 => edSwi w s | 0xC0C => edSecchg v s
  | 0xC10 => edEvtClear (fld w 0 32) s | 0xC14 => edEvtClear (2 ^ 32 * fld w 0 24) s | _ => s

/-- CRC_CMDn: GO, then STOP. -/
def crcCmd (n w : Nat) (s : State) : Nat × State :=
  let go := bitAt w 31
  let code := if go && crcGoBad n s then lastErange else 0
  let s := if go then crcGo n (bitAt w 30) s else s
  (code, if bitAt w 29 then crcStop n s else s)

/-- The CRC units' block. -/
def writeCrc (a w : Nat) (s : State) : Nat × State :=
  let o := a - 0x030000
  if 0x80 ≤ o then (0, s)
  else
    let n := o / 0x40
    let x := crcUnit s n
    match o % 0x40 with
    | 0x00 => (0, crcSet n { x with poly := w % 4 } s) | 0x04 => (0, crcSet n { x with start := w % 2 ^ 24 } s)
    | 0x08 => (0, crcSet n { x with len := w % 2 ^ 24 } s) | 0x0C => crcCmd n w s
    | 0x1C => (0, crcRunLo n (BitVec.ofNat 32 w) s) | 0x20 => (0, crcRunHi n (BitVec.ofNat 32 w) s) | _ => (0, s)

/-- The host port's block. -/
def writeHost (a w : Nat) (s : State) : Nat × State :=
  match a with
  | 0x050004 => (0, { s with hp := { s.hp with crcOnly := bitAt w 0 } })
  | 0x050008 => (0, hpCntClear s)
  | 0x050010 => mbxGo w s
  | _ => match regIdx a 0x051000 256 4 with
    | some i => (0, { s with hp := { s.hp with req := mputs 0 s.hp.req (4 * i) (leBytes 4 w) } })
    | none => (0, s)

/-- RQ_CLRLOq and RQ_CLRHIq: HEALTH_CLR of the channels named. -/
def rqClr (q c0 n w : Nat) (s : State) : State :=
  (List.range n).foldl (fun s i => if bitAt w i && chPresent s (48 * q + c0 + i) then healthClr (48 * q + c0 + i) s else s) s

/-- The receiver quadrants' block: what acts at once. -/
def writeReceivers (a w : Nat) (s : State) : State :=
  let q := (a - 0x0A0000) / 0x4000
  match a % 0x4000 with
  | 0x014 => rqClr q 0 32 w s | 0x018 => rqClr q 32 16 w s | 0x1810 => snapCmd q w s
  | 0x1814 => snapPut q { snapGet s q with frame := w } s | _ => s

/-- The matrix's block: what acts at once. -/
def writeMatrix (a w : Nat) (s : State) : State :=
  match a with
  | 0x5C0030 => if bitAt w 31 then lmShowRun (w % 2) s.lm.showTime s else s
  | 0x5C0034 => { s with lm := { s.lm with showTime := BitVec.ofNat 64 (fld s.lm.showTime.toNat 32 32 * 2 ^ 32 + w) } }
  | 0x5C0038 => { s with lm := { s.lm with showTime := BitVec.ofNat 64 (w * 2 ^ 32 + fld s.lm.showTime.toNat 0 32) } }
  | 0x5C004C => lmEvtClear (BitVec.ofNat 4 w) s
  | _ => match regIdx a 0x5C0100 18 4 with
  | some k => lmOpenClear k (BitVec.ofNat 32 w) s
  | none => match regIdx a 0x5C1000 512 4 with
    | some j =>
      if j % 256 < 192 then
        { s with lm := { s.lm with pix := mset 0 s.lm.pix (192 * (j / 256) + j % 256) (BitVec.ofNat 32 (w % 2 ^ 24)) } }
      else s
    | none => s

/-- The other registers that act at once. -/
def writeOther (a w : Nat) (s : State) : State :=
  match a with
  | 0x000014 => if fld w 16 16 = 0xA5C3 ∧ w % 4 ≠ 0 then syReset (w % 4) s else s
  | 0x010004 => pwrReq (w % 8) s
  | 0x010520 => wcClear (w % 256) s
  | 0x040040 => fcClear (BitVec.ofNat 16 w) s
  | 0x08041C => mirCntClear w s
  | 0x080444 => acStatClear w s
  | 0x08045C => acCntClear s
  | 0x500008 => tfSoftBlank w s
  | 0x50000C => tfOnsetClear (BitVec.ofNat 16 w) s
  | 0x500014 => tfArm w s
  | 0x580000 => zlIdWrite w s
  | _ => match regIdx a 0x040080 16 4 with | some n => fcCntClear n s | none => s

/-- A word written by the host takes effect: its LAST code and the state. Read-only addresses and absent units ignore it. -/
def hostWrite (a w : Nat) (s : State) : Nat × State :=
  if !addrOk a then (lastAddr, s)
  else if regAbsent s.sys.variant a then (0, s)
  else if isStaged a then stageRegister a w s
  else match a / 0x10000 with
  | 0x02 => (0, writeEd a w s) | 0x03 => writeCrc a w s | 0x05 => writeHost a w s | 0x0A => (0, writeReceivers a w s)
  | 0x5C => (0, writeMatrix a w s) | _ => (0, writeOther a w s)

/-- A word written to a register. -/
def execRegisterWrite (addr : Nat) (w : Word) (s : State) : Host.Outcome State Fault Refusal :=
  .next (if hostUp s then (hostWrite addr w.toNat s).2 else s)

/-- A write of HP_MBX_CTL. -/
def execHpMbxGo (t : Nat) (w : Word) (s : State) : Host.Outcome State Fault Refusal :=
  let s := advance t s
  .next (if hostUp s then (mbxGo w.toNat s).2 else s)

/-! ### Transfers (R416 to R424) -/

/-- The status word (Table 19.3). -/
def hpStatusWord (s : State) : Nat :=
  0xC1000000 + put (maskOf 4 fun i => tLine s (6 + i)) 20 4 + bitIf (resGet s 0x050014).fresh 19 + bitIf s.hp.busy 18 +
  bitIf (sessionOn s .host) 17 + bitIf s.hp.woke 16 + put s.hp.tcount 8 8 + put s.hp.last 0 8

/-- The host port takes transfers (R425). Under a pin-controlling boundary-scan instruction its pins belong to the chain (R111;
assumption 109). -/
def hpTakes (s : State) : Bool := s.sys.hpUp && s.sys.mgmtUp && !pinScan s

/-- CRC-8 over the four bytes of a command and its address, or of the status word, and over a word's three address bytes and four
data bytes (R416, R417). -/
def hcrcByte (w : Nat) : Byte := BitVec.ofNat 8 (crc8 (beBytes 4 w))
def dcrcByte (a w : Nat) : Byte := BitVec.ofNat 8 (crc8 (beBytes 3 a ++ beBytes 4 w))

/-- The command byte (Table 19.2). -/
def cmdByte (op : Nat) (h : SpiHead) : Nat := 64 * op + 32 * h.inc.toNat + 16 * h.crc.toNat + h.wait

/-- HCRC of a transfer holds. -/
def hcrcOk (op : Nat) (h : SpiHead) (b : Byte) : Bool := b == hcrcByte (2 ^ 24 * cmdByte op h + h.addr)

/-- A transfer begins: HP_STATUS shows the status word as it stands; with CRC = 1 its HCRC follows the header. -/
def hpBegin (h : SpiHead) (inHeader : Bool) (s : State) : State :=
  { s with hp := { s.hp with
      status := BitVec.ofNat 32 (hpStatusWord s), miso := []
      check := if h.crc && !inHeader then [hcrcByte (hpStatusWord s)] else [] } }

/-- A transfer ends: LAST, TCOUNT, WOKE and the counters. -/
def hpEnd (code : Nat) (s : State) : State :=
  let h := s.hp
  let crcFail := code == lastHcrc || code == lastDcrc
  { s with hp := { h with
      last := code
      tcount := (h.tcount + 1) % 256
      woke := false
      crcErr := if crcFail then satAdd 16 h.crcErr 1 else h.crcErr
      errors := if !crcFail && code != 0 then satAdd 16 h.errors 1 else h.errors } }

/-- The problem of a header: inside it, a check that failed, or CRC = 0 where CRC_ONLY is 1. -/
def headerCode (s : State) (op : Nat) (h : SpiHead) (b : Byte) (inHeader exempt : Bool) : Nat :=
  if inHeader then lastPartial
  else if h.crc && !hcrcOk op h b then lastHcrc
  else if !h.crc && s.hp.crcOnly && !exempt then lastCrcreq else 0

/-- The address of the word after `a`: past 0xFF_FFFC it is treated as a hole. -/
def nextAddr (inc : Bool) (a : Nat) : Nat := if inc then a + 4 else a

/-- `n` words read, in order: the LAST code, the words shifted out, and the state. -/
def readWords (inc : Bool) : Nat → Nat → State → Nat × List Nat × State
  | 0, _, s => (0, [], s)
  | n + 1, a, s =>
    let r := hostRead a s
    let rs := readWords inc n (nextAddr inc a) r.2
    (firstCode (if addrOk a then 0 else lastAddr) rs.1, r.1 :: rs.2.1, rs.2.2)

/-- WAIT is too small for the region of the first word (R419). -/
def waitBad (r : SpiRead) : Bool :=
  match blockOf r.head.addr with | some b => decide (r.head.wait * 8 * r.tsclk < b.2.2) | none => false

/-- The buffers have swapped within the words of the transfer that ends now. -/
def readSwaps (r : SpiRead) (s : State) : Bool := s.ex.open_ && decide (s.sys.now < s.ex.stepAt + 32 * r.words * r.tsclk)

/-- KL-01: of a read of the histogram store during a swap, one word, or none, may come from the other buffer (R182; assumption 1). -/
def swapWord (r : SpiRead) (s : State) (ws : List Nat) : List Nat :=
  let k := freeNow s % (r.words + 1)
  let a := if r.head.inc then r.head.addr + 4 * k else r.head.addr
  if 0x100000 ≤ a ∧ a < 0x400000 ∧ a % 4 = 0 then ws.set k (regRead s (otherBuffer a)) else ws

/-- Words shifted out from address `a`, with CRC = 1 each with its DCRC. -/
def shiftOut (h : SpiHead) (ws : List Nat) (s : State) : State :=
  let cs := if h.crc then ws.zipIdx.map fun e => dcrcByte (if h.inc then h.addr + 4 * e.2 else h.addr) e.1 else []
  { s with hp := { s.hp with miso := ws.map (BitVec.ofNat 32), check := s.hp.check ++ cs } }

/-- MISO sends 0xFF for the rest of a transfer whose WAIT is too small (R419). -/
def shiftOnes (h : SpiHead) (n : Nat) (s : State) : State :=
  { s with hp := { s.hp with
      miso := List.replicate n 0xFFFFFFFF, check := s.hp.check ++ if h.crc then List.replicate n 0xFF else [] } }

/-- A READ transfer behind its header. -/
def hpReadRun (r : SpiRead) (s : State) : Nat × State :=
  if waitBad r then (lastWait, shiftOnes r.head r.words s)
  else
    let x := readWords r.head.inc r.words r.head.addr s
    let swap := readSwaps r s
    let ws := if swap then swapWord r x.2.2 x.2.1 else x.2.1
    let s := if swap then drawn x.2.2 else x.2.2
    (x.1, shiftOut r.head ws s)

def hpRead (r : SpiRead) (s : State) : State :=
  if !hpTakes s then s
  else
    let s := hpBegin r.head r.inHeader s
    let h := headerCode s 0 r.head r.hcrc r.inHeader false
    if h ≠ 0 then hpEnd h s else let x := hpReadRun r s; hpEnd x.1 x.2

def execHpRead (t : Nat) (r : SpiRead) (s : State) : Host.Outcome State Fault Refusal := .next (hpRead r (advance t s))

/-- Words written in order; a DCRC that fails discards its word and every later one (R421). -/
def writeWords (inc crc : Bool) : List (Word × Byte) → Nat → State → Nat × State
  | [], _, s => (0, s)
  | (w, b) :: ws, a, s =>
    if crc && b != dcrcByte a w.toNat then (lastDcrc, s)
    else
      let r := hostWrite a w.toNat s
      let rs := writeWords inc crc ws (nextAddr inc a) r.2
      (firstCode r.1 rs.1, rs.2)

def hpWrite (w : SpiWrite) (s : State) : State :=
  if !hpTakes s then s
  else
    let s := hpBegin w.head w.inHeader s
    let h := headerCode s 1 w.head w.hcrc w.inHeader false
    if h ≠ 0 then hpEnd h s
    else
      let x := writeWords w.head.inc w.head.crc w.words w.head.addr s
      hpEnd (firstCode x.1 (if w.cut then lastPartial else 0)) x.2

def execHpWrite (t : Nat) (w : SpiWrite) (s : State) : Host.Outcome State Fault Refusal := .next (hpWrite w (advance t s))

/-- A STATUS transfer: no address action; CRC_ONLY exempts it. -/
def hpStatusCmd (h : SpiHead) (hcrc : Byte) (inHeader : Bool) (s : State) : State :=
  if hpTakes s then let s := hpBegin h inHeader s; hpEnd (headerCode s 2 h hcrc inHeader true) s else s

def execHpStatusCmd (t : Nat) (h : SpiHead) (hcrc : Byte) (inHeader : Bool) (s : State) : Host.Outcome State Fault Refusal :=
  .next (hpStatusCmd h hcrc inHeader (advance t s))

/-- A transfer with OP 3. -/
def hpBadcmd (h : SpiHead) (hcrc : Byte) (s : State) : State :=
  if hpTakes s then let s := hpBegin h false s; hpEnd (firstCode (headerCode s 3 h hcrc false false) lastBadcmd) s else s

def execHpBadcmd (t : Nat) (h : SpiHead) (hcrc : Byte) (s : State) : Host.Outcome State Fault Refusal :=
  .next (hpBadcmd h hcrc (advance t s))

/-! ### An empty queue -/

/-- The time-driven part of an idle step: the next fetched instruction of a running note engine or of the running plan program
(assumption 15); nothing runs otherwise. -/
def idle (s : State) : Host.Outcome State Fault Refusal :=
  match (List.finRange 4).find? fun q => (mget ({} : Ne) s.ne q.val).run with
  | some q => neRunNext q s
  | none => if s.fp.run then fpRunNext s else .next s

end Sys2Proof.Machine
end

