-- ==== Sys2Proof/Machine/Dispatch.lean ====
section
/-! DEFINITION. Machine/Dispatch.lean: one arm per command: a direct call of its meaning. -/

namespace Sys2Proof.Machine

def exec (i : Instr) (s : State) : Host.Outcome State Fault Refusal :=
  match i with
  | .powerUp t govAOk govBOk => Sys2Proof.Machine.execPowerUp t govAOk govBOk s
  | .uvloEngage t => Sys2Proof.Machine.execUvloEngage t s
  | .configLoad t aOk bOk cntAOk cntBOk => Sys2Proof.Machine.execConfigLoad t aOk bOk cntAOk cntBOk s
  | .selfTestDone t c pass => Sys2Proof.Machine.execSelfTestDone t c pass s
  | .safetyOperational t lv => Sys2Proof.Machine.execSafetyOperational t lv s
  | .hpStartReady t => Sys2Proof.Machine.execHpStartReady t s
  | .resetPinAssert t lowNs => Sys2Proof.Machine.execResetPinAssert t lowNs s
  | .resetPinRelease t => Sys2Proof.Machine.execResetPinRelease t s
  | .railUndervoltage t => Sys2Proof.Machine.execRailUndervoltage t s
  | .mpWatchdogExpiry t => Sys2Proof.Machine.execMpWatchdogExpiry t s
  | .syResetDataPlane t => Sys2Proof.Machine.execSyResetDataPlane t s
  | .syResetMgmtPlane t => Sys2Proof.Machine.execSyResetMgmtPlane t s
  | .syResetDevice t => Sys2Proof.Machine.execSyResetDevice t s
  | .resetCmdDataPlane t => Sys2Proof.Machine.execResetCmdDataPlane t s
  | .resetCmdMgmtPlane t => Sys2Proof.Machine.execResetCmdMgmtPlane t s
  | .resetCmdDevice t => Sys2Proof.Machine.execResetCmdDevice t s
  | .resetTakesEffect t => Sys2Proof.Machine.execResetTakesEffect t s
  | .mgmtResetDone t => Sys2Proof.Machine.execMgmtResetDone t s
  | .jtagExtest t => Sys2Proof.Machine.execJtagExtest t s
  | .jtagClamp t => Sys2Proof.Machine.execJtagClamp t s
  | .jtagHighz t => Sys2Proof.Machine.execJtagHighz t s
  | .jtagSamplePreload t => Sys2Proof.Machine.execJtagSamplePreload t s
  | .jtagBypass t => Sys2Proof.Machine.execJtagBypass t s
  | .jtagPinInstructionExit t => Sys2Proof.Machine.execJtagPinInstructionExit t s
  | .spDebugHalt t => Sys2Proof.Machine.execSpDebugHalt t s
  | .frameBoundary t => Sys2Proof.Machine.execFrameBoundary t s
  | .nominalBoundary t => Sys2Proof.Machine.execNominalBoundary t s
  | .emRefresh t m => Sys2Proof.Machine.execEmRefresh t m s
  | .saveComplete t => Sys2Proof.Machine.execSaveComplete t s
  | .vbusLoss t => Sys2Proof.Machine.execVbusLoss t s
  | .rideEnter vin => Sys2Proof.Machine.execRideEnter vin s
  | .rideExit vin => Sys2Proof.Machine.execRideExit vin s
  | .vossdFault t => Sys2Proof.Machine.execVossdFault t s
  | .vldRangeChange t vldMv => Sys2Proof.Machine.execVldRangeChange t vldMv s
  | .cmeasDone t fromMv vholdMv => Sys2Proof.Machine.execCmeasDone t fromMv vholdMv s
  | .chargerStop vhold => Sys2Proof.Machine.execChargerStop vhold s
  | .chargerResume vhold => Sys2Proof.Machine.execChargerResume vhold s
  | .accountingInterval t => Sys2Proof.Machine.execAccountingInterval t s
  | .mramStage t => Sys2Proof.Machine.execMramStage t s
  | .mwRefresh t first second => Sys2Proof.Machine.execMwRefresh t first second s
  | .mwForcedRefresh t samples => Sys2Proof.Machine.execMwForcedRefresh t samples s
  | .mwRecoveryEnd t => Sys2Proof.Machine.execMwRecoveryEnd t s
  | .clockCheck t m => Sys2Proof.Machine.execClockCheck t m s
  | .pllLossOfLock t => Sys2Proof.Machine.execPllLossOfLock t s
  | .hfxStable t => Sys2Proof.Machine.execHfxStable t s
  | .pllLocked t => Sys2Proof.Machine.execPllLocked t s
  | .dataPlaneReady t => Sys2Proof.Machine.execDataPlaneReady t s
  | .mixEdge e => Sys2Proof.Machine.execMixEdge e s
  | .mixPeriodTimeout t => Sys2Proof.Machine.execMixPeriodTimeout t s
  | .mencEdge t forward => Sys2Proof.Machine.execMencEdge t forward s
  | .mencStallTimeout t => Sys2Proof.Machine.execMencStallTimeout t s
  | .mirrorCheckTimeout t => Sys2Proof.Machine.execMirrorCheckTimeout t s
  | .pwrReqWrite t req => Sys2Proof.Machine.execPwrReqWrite t req s
  | .wakeEvent t => Sys2Proof.Machine.execWakeEvent t s
  | .pwrIdleExpiry t => Sys2Proof.Machine.execPwrIdleExpiry t s
  | .standbyEntryDone t => Sys2Proof.Machine.execStandbyEntryDone t s
  | .standbyWake t src => Sys2Proof.Machine.execStandbyWake t src s
  | .wcTick t n mv => Sys2Proof.Machine.execWcTick t n mv s
  | .wcStatWrite v => Sys2Proof.Machine.execWcStatWrite v s
  | .wcLatchWrite v => Sys2Proof.Machine.execWcLatchWrite v s
  | .azimuthStepStart t => Sys2Proof.Machine.execAzimuthStepStart t s
  | .shotListTake t tk => Sys2Proof.Machine.execShotListTake t tk s
  | .expanderBuild t inTime => Sys2Proof.Machine.execExpanderBuild t inTime s
  | .burstTest t q k slot vstMv => Sys2Proof.Machine.execBurstTest t q k slot vstMv s
  | .subPulse e slot k => Sys2Proof.Machine.execSubPulse e slot k s
  | .govSubwindow w100 => Sys2Proof.Machine.execGovSubwindow w100 s
  | .fcTrip sense => Sys2Proof.Machine.execFcTrip sense s
  | .fcStatWrite trip high => Sys2Proof.Machine.execFcStatWrite trip high s
  | .fcTripWrite path v => Sys2Proof.Machine.execFcTripWrite path v s
  | .fcCntWrite n => Sys2Proof.Machine.execFcCntWrite n s
  | .governorLock t path crc => Sys2Proof.Machine.execGovernorLock t path crc s
  | .rxEvent ch x => Sys2Proof.Machine.execRxEvent ch x s
  | .rxEventLongClose ch x => Sys2Proof.Machine.execRxEventLongClose ch x s
  | .eventBinning strip atTdc => Sys2Proof.Machine.execEventBinning strip atTdc s
  | .windowClose e slot => Sys2Proof.Machine.execWindowClose e slot s
  | .pickerRun strip => Sys2Proof.Machine.execPickerRun strip s
  | .baseNoteUpdate ch => Sys2Proof.Machine.execBaseNoteUpdate ch s
  | .blotterInjection q => Sys2Proof.Machine.execBlotterInjection q s
  | .blotterListenEnd ch x => Sys2Proof.Machine.execBlotterListenEnd ch x s
  | .hvBiasAdjust t q hv10mV tempC => Sys2Proof.Machine.execHvBiasAdjust t q hv10mV tempC s
  | .hvFaultTimeout t q => Sys2Proof.Machine.execHvFaultTimeout t q s
  | .healthClr ch => Sys2Proof.Machine.execHealthClr ch s
  | .zrefLatch q => Sys2Proof.Machine.execZrefLatch q s
  | .bufferRelease t q => Sys2Proof.Machine.execBufferRelease t q s
  | .hgSnapCmd q w => Sys2Proof.Machine.execHgSnapCmd q w s
  | .snapshotComplete q => Sys2Proof.Machine.execSnapshotComplete q s
  | .neNop q => Sys2Proof.Machine.execNeNop q s
  | .neLi q d imm => Sys2Proof.Machine.execNeLi q d imm s
  | .neLg q d a => Sys2Proof.Machine.execNeLg q d a s
  | .neGli q d imm => Sys2Proof.Machine.execNeGli q d imm s
  | .neGlh q d imm => Sys2Proof.Machine.execNeGlh q d imm s
  | .neGadd q d a imm => Sys2Proof.Machine.execNeGadd q d a imm s
  | .neAdd q d a b => Sys2Proof.Machine.execNeAdd q d a b s
  | .neSub q d a b => Sys2Proof.Machine.execNeSub q d a b s
  | .neAddi q d a imm => Sys2Proof.Machine.execNeAddi q d a imm s
  | .neMul q d a b => Sys2Proof.Machine.execNeMul q d a b s
  | .neShr q d a imm => Sys2Proof.Machine.execNeShr q d a imm s
  | .neShl q d a imm => Sys2Proof.Machine.execNeShl q d a imm s
  | .neMin q d a b => Sys2Proof.Machine.execNeMin q d a b s
  | .neMax q d a b => Sys2Proof.Machine.execNeMax q d a b s
  | .neMset q a b imm => Sys2Proof.Machine.execNeMset q a b imm s
  | .neMseti q a imm => Sys2Proof.Machine.execNeMseti q a imm s
  | .neMpush q => Sys2Proof.Machine.execNeMpush q s
  | .neMpop q => Sys2Proof.Machine.execNeMpop q s
  | .neMnot q => Sys2Proof.Machine.execNeMnot q s
  | .neBr q imm => Sys2Proof.Machine.execNeBr q imm s
  | .neBany q imm => Sys2Proof.Machine.execNeBany q imm s
  | .neBnone q imm => Sys2Proof.Machine.execNeBnone q imm s
  | .neLoop q a imm => Sys2Proof.Machine.execNeLoop q a imm s
  | .neEnd q => Sys2Proof.Machine.execNeEnd q s
  | .neCtx q d imm => Sys2Proof.Machine.execNeCtx q d imm s
  | .neWin q a b => Sys2Proof.Machine.execNeWin q a b s
  | .neBin q d a imm => Sys2Proof.Machine.execNeBin q d a imm s
  | .neBgs q d imm => Sys2Proof.Machine.execNeBgs q d imm s
  | .neBgw q a => Sys2Proof.Machine.execNeBgw q a s
  | .nePeak q d a b => Sys2Proof.Machine.execNePeak q d a b s
  | .neVmin q d a b => Sys2Proof.Machine.execNeVmin q d a b s
  | .neCent q d a imm => Sys2Proof.Machine.execNeCent q d a imm s
  | .neFwid q d a => Sys2Proof.Machine.execNeFwid q d a s
  | .neEclr q => Sys2Proof.Machine.execNeEclr q s
  | .neErng q a => Sys2Proof.Machine.execNeErng q a s
  | .neEint q a imm => Sys2Proof.Machine.execNeEint q a imm s
  | .neEqlt q a => Sys2Proof.Machine.execNeEqlt q a s
  | .neEflg q imm => Sys2Proof.Machine.execNeEflg q imm s
  | .neCls q d a => Sys2Proof.Machine.execNeCls q d a s
  | .neEmit q imm => Sys2Proof.Machine.execNeEmit q imm s
  | .neBudgetCut q => Sys2Proof.Machine.execNeBudgetCut q s
  | .psPacketSent lane => Sys2Proof.Machine.execPsPacketSent lane s
  | .echoEvaluate => Sys2Proof.Machine.execEchoEvaluate s
  | .pointWordEvaluate => Sys2Proof.Machine.execPointWordEvaluate s
  | .zoneFrameLatch t => Sys2Proof.Machine.execZoneFrameLatch t s
  | .mapExpansionDone t => Sys2Proof.Machine.execMapExpansionDone t s
  | .mailboxPost t => Sys2Proof.Machine.execMailboxPost t s
  | .mailboxReceive t c crcOk => Sys2Proof.Machine.execMailboxReceive t c crcOk s
  | .mailboxDeadline t c => Sys2Proof.Machine.execMailboxDeadline t c s
  | .sinSample t c lv => Sys2Proof.Machine.execSinSample t c lv s
  | .pairEvaluate t c => Sys2Proof.Machine.execPairEvaluate t c s
  | .discrepancyTimeout t c n => Sys2Proof.Machine.execDiscrepancyTimeout t c n s
  | .crossWordSend t c => Sys2Proof.Machine.execCrossWordSend t c s
  | .crossWordReceive t c valid => Sys2Proof.Machine.execCrossWordReceive t c valid s
  | .crossWordTimeout t c => Sys2Proof.Machine.execCrossWordTimeout t c s
  | .readbackSample t c mv => Sys2Proof.Machine.execReadbackSample t c mv s
  | .testPulseStart t p => Sys2Proof.Machine.execTestPulseStart t p s
  | .testPulseEnd t p mvA mvB => Sys2Proof.Machine.execTestPulseEnd t p mvA mvB s
  | .encoderEdge t c m enc ab => Sys2Proof.Machine.execEncoderEdge t c m enc ab s
  | .driveSpeedCompute t c => Sys2Proof.Machine.execDriveSpeedCompute t c s
  | .resetFallingEdge t c => Sys2Proof.Machine.execResetFallingEdge t c s
  | .resetJamTimeout t c => Sys2Proof.Machine.execResetJamTimeout t c s
  | .tfSampleDeliver t n raw => Sys2Proof.Machine.execTfSampleDeliver t n raw s
  | .tfOnsetRearm t n => Sys2Proof.Machine.execTfOnsetRearm t n s
  | .tfDrydownEnd t n => Sys2Proof.Machine.execTfDrydownEnd t n s
  | .tfblankPinChange t high => Sys2Proof.Machine.execTfblankPinChange t high s
  | .tfBlankEnd t n => Sys2Proof.Machine.execTfBlankEnd t n s
  | .tfSblank t w => Sys2Proof.Machine.execTfSblank t w s
  | .tfOpenDetect t n rxMv exUa => Sys2Proof.Machine.execTfOpenDetect t n rxMv exUa s
  | .tfOpenEnd t n => Sys2Proof.Machine.execTfOpenEnd t n s
  | .tfCaptureArm w => Sys2Proof.Machine.execTfCaptureArm w s
  | .tfCaptureComplete => Sys2Proof.Machine.execTfCaptureComplete s
  | .tfOnsetWrite v => Sys2Proof.Machine.execTfOnsetWrite v s
  | .headHealthyTimer t h => Sys2Proof.Machine.execHeadHealthyTimer t h s
  | .countCopyAWritten t => Sys2Proof.Machine.execCountCopyAWritten t s
  | .countCopyBWritten t => Sys2Proof.Machine.execCountCopyBWritten t s
  | .sectionReset t sec src => Sys2Proof.Machine.execSectionReset t sec src s
  | .sectrstJamTimeout t sin => Sys2Proof.Machine.execSectrstJamTimeout t sin s
  | .sectionWordSend t => Sys2Proof.Machine.execSectionWordSend t s
  | .sectionWordReceive t c valid => Sys2Proof.Machine.execSectionWordReceive t c valid s
  | .sectionWordTimeout t c => Sys2Proof.Machine.execSectionWordTimeout t c s
  | .tlEventSend l => Sys2Proof.Machine.execTlEventSend l s
  | .tlStatusSend t l => Sys2Proof.Machine.execTlStatusSend t l s
  | .tlFrameReceive t l f => Sys2Proof.Machine.execTlFrameReceive t l f s
  | .tlDownTimeout t l => Sys2Proof.Machine.execTlDownTimeout t l s
  | .commitGo t path => Sys2Proof.Machine.execCommitGo t path s
  | .commitVerifyDone t intactA intactB => Sys2Proof.Machine.execCommitVerifyDone t intactA intactB s
  | .commitDeadline t => Sys2Proof.Machine.execCommitDeadline t s
  | .configCopiesWritten t => Sys2Proof.Machine.execConfigCopiesWritten t s
  | .assignWrite t w => Sys2Proof.Machine.execAssignWrite t w s
  | .assignStale t => Sys2Proof.Machine.execAssignStale t s
  | .reassign t => Sys2Proof.Machine.execReassign t s
  | .coordRefresh t => Sys2Proof.Machine.execCoordRefresh t s
  | .coordGenCheck t d => Sys2Proof.Machine.execCoordGenCheck t d s
  | .acStatWrite v => Sys2Proof.Machine.execAcStatWrite v s
  | .acCntWrite => Sys2Proof.Machine.execAcCntWrite s
  | .planProgramStart t => Sys2Proof.Machine.execPlanProgramStart t s
  | .planDeadline t => Sys2Proof.Machine.execPlanDeadline t s
  | .fpNop => Sys2Proof.Machine.execFpNop s
  | .fpLi d imm => Sys2Proof.Machine.execFpLi d imm s
  | .fpLih d imm => Sys2Proof.Machine.execFpLih d imm s
  | .fpAdd d a b => Sys2Proof.Machine.execFpAdd d a b s
  | .fpSub d a b => Sys2Proof.Machine.execFpSub d a b s
  | .fpAddi d a imm => Sys2Proof.Machine.execFpAddi d a imm s
  | .fpMul d a b => Sys2Proof.Machine.execFpMul d a b s
  | .fpDiv d a b => Sys2Proof.Machine.execFpDiv d a b s
  | .fpShr d a imm => Sys2Proof.Machine.execFpShr d a imm s
  | .fpShl d a imm => Sys2Proof.Machine.execFpShl d a imm s
  | .fpMin d a b => Sys2Proof.Machine.execFpMin d a b s
  | .fpMax d a b => Sys2Proof.Machine.execFpMax d a b s
  | .fpAnd d a b => Sys2Proof.Machine.execFpAnd d a b s
  | .fpOr d a b => Sys2Proof.Machine.execFpOr d a b s
  | .fpBr imm => Sys2Proof.Machine.execFpBr imm s
  | .fpBc a b imm => Sys2Proof.Machine.execFpBc a b imm s
  | .fpLoop a imm => Sys2Proof.Machine.execFpLoop a imm s
  | .fpEnd => Sys2Proof.Machine.execFpEnd s
  | .fpIn d imm => Sys2Proof.Machine.execFpIn d imm s
  | .fpQld d a => Sys2Proof.Machine.execFpQld d a s
  | .fpFld d a => Sys2Proof.Machine.execFpFld d a s
  | .fpPut a b => Sys2Proof.Machine.execFpPut a b s
  | .fpPutall b => Sys2Proof.Machine.execFpPutall b s
  | .sessionOpen t path data => Sys2Proof.Machine.execSessionOpen t path data s
  | .sessionClose t path => Sys2Proof.Machine.execSessionClose t path s
  | .sessionIdleExpiry t => Sys2Proof.Machine.execSessionIdleExpiry t s
  | .passSet t path data => Sys2Proof.Machine.execPassSet t path data s
  | .lockoutExpiry t => Sys2Proof.Machine.execLockoutExpiry t s
  | .lockoutSave t => Sys2Proof.Machine.execLockoutSave t s
  | .logClear t path data => Sys2Proof.Machine.execLogClear t path data s
  | .safetyErase t path data => Sys2Proof.Machine.execSafetyErase t path data s
  | .mapFill t path data => Sys2Proof.Machine.execMapFill t path data s
  | .mapClear t path => Sys2Proof.Machine.execMapClear t path s
  | .mapRevert t path => Sys2Proof.Machine.execMapRevert t path s
  | .zlPortSyncing t p => Sys2Proof.Machine.execZlPortSyncing t p s
  | .zlPortUp t p => Sys2Proof.Machine.execZlPortUp t p s
  | .zlPortCodeErrors t p => Sys2Proof.Machine.execZlPortCodeErrors t p s
  | .zlCommaTimeout t p => Sys2Proof.Machine.execZlCommaTimeout t p s
  | .zlFrameTooLong t p => Sys2Proof.Machine.execZlFrameTooLong t p s
  | .zlFrameReceive t p f => Sys2Proof.Machine.execZlFrameReceive t p f s
  | .zlQueuedFrameSend t p => Sys2Proof.Machine.execZlQueuedFrameSend t p s
  | .zlTimeFrame t p f => Sys2Proof.Machine.execZlTimeFrame t p f s
  | .zlCommitFrame t p f => Sys2Proof.Machine.execZlCommitFrame t p f s
  | .zlHelloFrame t p f => Sys2Proof.Machine.execZlHelloFrame t p f s
  | .zlReqFrame t p f => Sys2Proof.Machine.execZlReqFrame t p f s
  | .zlPdelayFrame t p f => Sys2Proof.Machine.execZlPdelayFrame t p f s
  | .zlHelloSend t => Sys2Proof.Machine.execZlHelloSend t s
  | .zlConflictEnd t => Sys2Proof.Machine.execZlConflictEnd t s
  | .zlMasterTimeout t => Sys2Proof.Machine.execZlMasterTimeout t s
  | .zlTimeSend t => Sys2Proof.Machine.execZlTimeSend t s
  | .zlPdelaySend t p => Sys2Proof.Machine.execZlPdelaySend t p s
  | .zlSyncTimeout t => Sys2Proof.Machine.execZlSyncTimeout t s
  | .timeSet t v => Sys2Proof.Machine.execTimeSet t v s
  | .dictRead t path r => Sys2Proof.Machine.execDictRead t path r s
  | .dictReadSeg t path r => Sys2Proof.Machine.execDictReadSeg t path r s
  | .dictWrite t path r => Sys2Proof.Machine.execDictWrite t path r s
  | .dictWriteSeg t path r => Sys2Proof.Machine.execDictWriteSeg t path r s
  | .dictCancel t path r => Sys2Proof.Machine.execDictCancel t path r s
  | .dictTransferExpiry t path tid => Sys2Proof.Machine.execDictTransferExpiry t path tid s
  | .hpRead t r => Sys2Proof.Machine.execHpRead t r s
  | .hpWrite t w => Sys2Proof.Machine.execHpWrite t w s
  | .hpStatusCmd t h hcrc inHeader => Sys2Proof.Machine.execHpStatusCmd t h hcrc inHeader s
  | .hpBadcmd t h hcrc => Sys2Proof.Machine.execHpBadcmd t h hcrc s
  | .registerWrite addr w => Sys2Proof.Machine.execRegisterWrite addr w s
  | .resultStatusRead addr => Sys2Proof.Machine.execResultStatusRead addr s
  | .zlTimeloRead => Sys2Proof.Machine.execZlTimeloRead s
  | .hpMbxGo t w => Sys2Proof.Machine.execHpMbxGo t w s
  | .hpMbxResponsePost t => Sys2Proof.Machine.execHpMbxResponsePost t s
  | .hpCntWrite => Sys2Proof.Machine.execHpCntWrite s
  | .edSrcWrite n w => Sys2Proof.Machine.execEdSrcWrite n w s
  | .edTcfgWrite tg w => Sys2Proof.Machine.execEdTcfgWrite tg w s
  | .edClaim tg => Sys2Proof.Machine.execEdClaim tg s
  | .edComplete tg w => Sys2Proof.Machine.execEdComplete tg w s
  | .edLsetWrite tg w => Sys2Proof.Machine.execEdLsetWrite tg w s
  | .edLpendWrite tg w => Sys2Proof.Machine.execEdLpendWrite tg w s
  | .edLcntWrite tg => Sys2Proof.Machine.execEdLcntWrite tg s
  | .edStatWrite w => Sys2Proof.Machine.execEdStatWrite w s
  | .edSwiWrite w => Sys2Proof.Machine.execEdSwiWrite w s
  | .edSecchgWrite w => Sys2Proof.Machine.execEdSecchgWrite w s
  | .edEvtWrite flags => Sys2Proof.Machine.execEdEvtWrite flags s
  | .exMirCntWrite w => Sys2Proof.Machine.execExMirCntWrite w s
  | .zlIdWrite w => Sys2Proof.Machine.execZlIdWrite w s
  | .crcGo n init => Sys2Proof.Machine.execCrcGo n init s
  | .crcStop n => Sys2Proof.Machine.execCrcStop n s
  | .crcScanDone n => Sys2Proof.Machine.execCrcScanDone n s
  | .crcRunloWrite n w => Sys2Proof.Machine.execCrcRunloWrite n w s
  | .crcRunhiWrite n w => Sys2Proof.Machine.execCrcRunhiWrite n w s
  | .crcRunloRead n => Sys2Proof.Machine.execCrcRunloRead n s
  | .crcRunWrite n v => Sys2Proof.Machine.execCrcRunWrite n v s
  | .lmSlotStart t => Sys2Proof.Machine.execLmSlotStart t s
  | .lmPrechargeEnd t => Sys2Proof.Machine.execLmPrechargeEnd t s
  | .lmSinkOff die => Sys2Proof.Machine.execLmSinkOff die s
  | .lmDiagSample die r => Sys2Proof.Machine.execLmDiagSample die r s
  | .lmMeasureSlot r g b => Sys2Proof.Machine.execLmMeasureSlot r g b s
  | .lmRegulationPeriod => Sys2Proof.Machine.execLmRegulationPeriod s
  | .lmShow page time => Sys2Proof.Machine.execLmShow page time s
  | .lmEvtWrite v => Sys2Proof.Machine.execLmEvtWrite v s
  | .lmOpenWrite w v => Sys2Proof.Machine.execLmOpenWrite w v s
  | .zlHeaderReceive t p f => Sys2Proof.Machine.execZlHeaderReceive t p f s
  | .railRecovery t => Sys2Proof.Machine.execRailRecovery t s
  | .planesLeaveReset t => Sys2Proof.Machine.execPlanesLeaveReset t s
  | .neUnlistedOpcode q => Sys2Proof.Machine.execNeUnlistedOpcode q s
  | .fpUnlistedOpcode => Sys2Proof.Machine.execFpUnlistedOpcode s

end Sys2Proof.Machine
end

