-- ==== Sys2Proof/Safety.lean ====
section
/-! DEFINITION. Safety.lean: what counts as a safe state of the block, and the frames that claims speak of. -/

namespace Sys2Proof.Machine

/-! ### Safe states -/

/-- One safety channel: a pair waits for a restart exactly where the channel's switch is open, and with any fault latched every
switch is open (R305, R311). -/
def chanOk (f : Saf) : Prop := f.rwait = ~~~f.sw ∧ (f.latch ≠ 0 → f.sw = 0)

/-- Both channels are sound, no switch is closed before safety operational (R98, R105), and the log holds at most 512 entries (R335). -/
def Safe (s : State) : Prop :=
  chanOk s.safA ∧ chanOk s.safB ∧ (s.sys.oper = false → s.safA.sw = 0 ∧ s.safB.sw = 0) ∧ s.sess.log.length ≤ 512

/-- Every pair is off: at least one of its two switches is open (R322). -/
def AllOff (s : State) : Prop := s.safA.sw &&& s.safB.sw = 0

/-- Every switch of both channels is open. -/
def AllOpen (s : State) : Prop := s.safA.sw = 0 ∧ s.safB.sw = 0

/-- No switch of `t` is closed that is open in `s`. -/
def NoneCloses (t s : State) : Prop := t.safA.sw &&& ~~~s.safA.sw = 0 ∧ t.safB.sw &&& ~~~s.safB.sw = 0

/-! ### Completion -/

/-- The command completes: `exec` answers a next state, and `P` holds of it. -/
def Answers (i : Instr) (s : State) (P : State → Prop) : Prop := ∃ u, exec i s = .next u ∧ P u

/-! ### Frames -/

/-- The switches, restart interlocks and fault latches of both channels. -/
structure Switches where
  swA : BitVec 4
  rwaitA : BitVec 4
  latchA : BitVec 16
  swB : BitVec 4
  rwaitB : BitVec 4
  latchB : BitVec 16
  deriving DecidableEq, Repr

/-- The governor's limits and its lock. -/
structure Limits where
  limb : SMap Nat
  lim5 : SMap Nat
  lim100 : SMap Nat
  locked : Bool
  deriving DecidableEq, Repr

/-- What few operations may touch: the queue of waiting commands, the switches, safety operation, the log, the governor and the
configuration in effect. -/
structure Guarded where
  queue : List Instr
  switches : Switches
  oper : Bool
  log : List LogE
  limits : Limits
  eff : SMap (List Byte)
  deriving DecidableEq, Repr

/-- The guarded part of a state. -/
def guarded (s : State) : Guarded where
  queue := s.pending
  switches := ⟨s.safA.sw, s.safA.rwait, s.safA.latch, s.safB.sw, s.safB.rwait, s.safB.latch⟩
  oper := s.sys.oper
  log := s.sess.log
  limits := ⟨s.gov.limb, s.gov.lim5, s.gov.lim100, s.gov.locked⟩
  eff := s.cf.eff

/-- The guarded part is the same. -/
def Kept (t s : State) : Prop := guarded t = guarded s

/-- The guarded part but the switches is the same. -/
def KeptRest (t s : State) : Prop :=
  (guarded t).queue = (guarded s).queue ∧ (guarded t).oper = (guarded s).oper ∧ (guarded t).log = (guarded s).log ∧
  (guarded t).limits = (guarded s).limits ∧ (guarded t).eff = (guarded s).eff

/-! ## What the claims speak of -/

/-! ### Note engines -/

/-- Engine `q` runs, and `c` more cycles and the next word lie within its budget and its program (R191, R196). -/
def NeRoom (q : Nat) (s : State) (c : Nat) : Prop :=
  (neGet s q).run = true ∧ (neGet s q).cyc + c < neBudget (viewFrame (neGet s q).frame s) q ∧
  (neGet s q).pc + 1 < neLen (viewFrame (neGet s q).frame s) q

/-- From `s` to `u` only engine `q` has changed; it runs on, `c` cycles later, at word `pc`. -/
def NeWent (q : Nat) (s u : State) (c pc : Nat) : Prop :=
  u = { s with ne := u.ne } ∧ (∀ k, k ≠ q → neGet u k = neGet s k) ∧ (neGet u q).run = true ∧
  (neGet u q).cyc = (neGet s q).cyc + c ∧ (neGet u q).pc = pc

/-- The word after the one at which engine `q` stands. -/
def nePcNext (q : Nat) (s : State) : Nat := (neGet s q).pc + 1

/-- Of engine `q` only lanes, cycle count and PC may differ; each active lane goes as `R` says, the others keep everything (R196). -/
def NeLanes (q : Nat) (s u : State) (R : Nat → Lane → Lane → Prop) : Prop :=
  neGet u q = { neGet s q with lanes := (neGet u q).lanes, cyc := (neGet u q).cyc, pc := (neGet u q).pc } ∧
  ∀ l, l < 8 → if bget (neGet s q).mask l then R l (lnGet (neGet s q) l) (lnGet (neGet u q) l)
    else lnGet (neGet u q) l = lnGet (neGet s q) l

/-- Of a lane only register `d` is written, with `w`. -/
def LaneWrites (d : Nat) (w : Word) (y z : Lane) : Prop :=
  lreg z d = w ∧ (∀ j, j ≠ d → lreg z j = lreg y j) ∧ z = { y with r := z.r }

/-- Of engine `q` only the scalar registers, cycle count and PC may differ; register `d` holds `w`, the others what they held. -/
def NeScalar (q : Nat) (s u : State) (d : Nat) (w : Word) : Prop :=
  neGet u q = { neGet s q with g := (neGet u q).g, cyc := (neGet u q).cyc, pc := (neGet u q).pc } ∧
  greg (neGet u q) d = w ∧ ∀ j, j ≠ d → greg (neGet u q) j = greg (neGet s q) j

/-- Of engine `q` only mask, mask stack, cycle count and PC may differ. -/
def NeMask (q : Nat) (s u : State) (m : BitVec 8) (st : List (BitVec 8)) : Prop :=
  neGet u q = { neGet s q with mask := m, stack := st, cyc := (neGet u q).cyc, pc := (neGet u q).pc }

/-- The bin count at position `p` of lane `l`'s window: 0 outside the window; beyond bin 4,095 the window goes on from bin 0 (KL-08). -/
def neRaw (s : State) (q l : Nat) (y : Lane) (p : Int) : Nat :=
  if 0 ≤ p ∧ p < y.wlen then binGet s (neGet s q).buf (laneCh q (neGet s q) l) ((y.wbase + p.toNat) % 4096) else 0

/-- u(p): the count above the lane's background. -/
def neU (s : State) (q l : Nat) (y : Lane) (p : Int) : Nat := neRaw s q l y p - y.bg

/-- Of a lane only its registers are written, `d` with `v` and `d + 1` with `w`. -/
def LaneWrites2 (d : Nat) (v w : Int) (y z : Lane) : Prop :=
  lreg z d = BitVec.ofInt 32 v ∧ lreg z (d + 1) = BitVec.ofInt 32 w ∧ (∀ j, j ≠ d → j ≠ d + 1 → lreg z j = lreg y j) ∧
  z = { y with r := z.r }

/-- Conditions 0 to 5 of MSET: EQ, NE, LT, LE, GT, GE (Table 8.3). -/
def NeCond (c : Nat) (x y : Int) : Prop :=
  (c = 0 ∧ x = y) ∨ (c = 1 ∧ x ≠ y) ∨ (c = 2 ∧ x < y) ∨ (c = 3 ∧ x ≤ y) ∨ (c = 4 ∧ x > y) ∨ (c = 5 ∧ x ≥ y)

/-- The peak that PEAK looks for at position `p` (R200). -/
def isPeak (s : State) (q l : Nat) (y : Lane) (b : Int) (p : Nat) : Prop :=
  b ≤ neU s q l y p ∧ neU s q l y (p - 1) ≤ neU s q l y p ∧ neU s q l y (p + 1) < neU s q l y p

/-! ### Plan programs -/

/-- The plan program runs, and the next word lies within it (R232, R247). -/
def FpRoom (s : State) : Prop := s.fp.run = true ∧ s.fp.pc + 1 < fpLen s

/-- From `s` to `u` only registers and working table of the plan program may differ; it runs on, `c` cycles later, at word `pc`. -/
def FpWent (s u : State) (c pc : Nat) : Prop :=
  u = { s with fp := { s.fp with p := u.fp.p, work := u.fp.work, cyc := s.fp.cyc + c, pc := pc } }

/-- Register `d` holds `w`, the other registers and the working table what they held. -/
def FpWrites (s u : State) (d : BitVec 4) (w : Word) : Prop :=
  preg u d = w ∧ (∀ j, j ≠ d → preg u j = preg s j) ∧ u.fp.work = s.fp.work

/-! ### Responses and resets -/

/-- A write of `n` bytes to object (`i`, `sub`) that came on path `p` is answered with abort code `c` (0 = acknowledged). -/
def RespondedTo (p : Path) (i sub n c : Nat) (s u : State) : Prop :=
  u.dc.rsps = s.dc.rsps ++ [(p, { op := 3, index := i, sub := sub, tid := 0, abort := c, val := if c = 0 then n else 0, data := [] })]

/-- The device as a reset of all three planes leaves it (R105, R106, Table 4.4), from a state `s` at the instant of the reset. -/
def DeviceIsReset (cause : Nat) (s u : State) : Prop :=
  (u.sys.cause = cause ∧ u.sys.planes = 7 ∧ u.sys.resets = satAdd 16 s.sys.resets 1 ∧ u.sys.sysTime = s.sys.sysTime) ∧
  (u.sys.ctrlUp = false ∧ u.sys.mgmtUp = false ∧ u.sys.hpUp = false ∧ u.sys.oper = false) ∧
  (u.safA = safReset ∧ u.safB = safReset) ∧ (∀ k, (secGet u k).st = 0) ∧ u.sup.grant = 0 ∧ u.sess.user = 0 ∧ u.cf.pend = none ∧
  (u.sup.holdReady = s.sup.holdReady ∧ u.cf.copyA = s.cf.copyA ∧ u.cf.copyB = s.cf.copyB ∧ u.sess.log = s.sess.log)

/-- What a reset of the management plane loses, and what the control plane keeps (R107). -/
def MgmtIsReset (cause : Nat) (s u : State) : Prop :=
  (u.sys.cause = cause ∧ u.sys.planes = 4 ∧ u.sys.resets = satAdd 16 s.sys.resets 1) ∧
  (u.sys.mgmtUp = false ∧ u.sys.hpUp = false ∧ u.cf.pend = none ∧ u.cf.unacked = [] ∧ u.sess.user = 0 ∧ u.sup.eTotal = s.sup.eTotalMram) ∧
  (mget {} u.res aCommit).valid = false ∧ (u.safA = s.safA ∧ u.safB = s.safB ∧ u.ax = s.ax ∧ u.out = s.out ∧ u.sys.oper = s.sys.oper)

/-! ### Boundaries and supply -/

/-- A boundary at the present instant has opened the next frame, with its grant (R32, R42, R44). -/
def FrameOpens (s u : State) : Prop :=
  u.pw.frameNo = s.pw.frameNo + 1 ∧ u.pw.lastB = s.sys.now ∧ u.pw.frameSys = s.sys.sysTime ∧ u.ex.step = 0 ∧ u.ex.open_ = false ∧
  (u.sup.eFrame = 0 ∧ u.sup.eVinLast = s.sup.eFrame) ∧ u.sup.grant ≤ cfgN u 0x1200 6 ∧
  (u.sup.vstate = 2 ∨ u.sup.vldBad = true → u.sup.grant = 0) ∧ (s.sys.mgmtUp = false → u.sup.grant = 0 ∧ u.sup.whyMissing = true)

/-- Of the supply `g` gives the registers; besides them only the event distributor may differ. -/
def SupplyBecomes (s u : State) (g : Sup) : Prop := u = { s with sup := g, ed := u.ed }

/-- What MRAM keeps and what power-off loses (R57, R72, R102, R137, R337, R365). -/
def IsOff (s u : State) : Prop :=
  u.sys.powered = false ∧ u.sys.oper = false ∧ AllOpen u ∧ u.sup.eTotal = u.sup.eTotalMram ∧ u.cf.pend = none ∧ u.res = [] ∧
  u.cf.copyB = s.cf.copyB ∧
  ((∀ p, s.cf.pend = some p → p.writeAt = none) → u.cf.copyA = s.cf.copyA) ∧ (u.gov.copyA = s.gov.copyA ∧ u.gov.copyB = s.gov.copyB) ∧
  (u.sess.log = s.sess.log ∧ u.sess.slots = s.sess.slots ∧ u.sess.user = 0)

/-! ### Clocks and wake comparators -/

/-- The data plane is stopped, and stays so until a new request (R82, Table 3.5). -/
def PllBlocked (s u : State) : Prop := u.pw.pllBlock = true ∧ u.pw.dp = .off ∧
  (s.pw.dp ≠ .off → u.pw.pllC = false ∧ u.pw.pllT = false ∧ u.pw.pllS = false)

/-- Comparator `n` of `u` is `x`; the others are as in `s`. -/
def WcBecomes (n : Nat) (s u : State) (x : Wc) : Prop :=
  mget {} u.wc n = x ∧ ∀ k, k ≠ n → mget {} u.wc k = mget {} s.wc k

/-- Every latch whose bit of `v` is 1 is clear, the others are as they were; nothing else of a comparator changes (R95). -/
def WcLatchesCleared (v : Nat) (s u : State) : Prop :=
  ∀ n, n < 8 → mget {} u.wc n = { mget {} s.wc n with latch := (mget {} s.wc n).latch && !bitAt v n }

/-! ### Emitters and assignments -/

/-- The sequencer may fire: the mirror is locked, SAVE has not begun, no boundary scan holds the pins (R124, R116). -/
def MayFire (s : State) : Prop := s.sup.vstate ≠ 2 ∧ s.pw.dp = .scanning ∧ pinScan s = false ∧ s.mir.locked = true

/-- From `s` to `u` only the counters of emitter `e` in the frame change, by `f`; governor windows and bursts stay (Table 5.1). -/
def BurstRefused (e : Nat) (f : ExCnt → ExCnt) (s u : State) : Prop :=
  exCnt u e = f (exCnt s e) ∧ (∀ k, k ≠ e → exCnt u k = exCnt s k) ∧ u.ex.bursts = s.ex.bursts ∧
  u.gov.w5 = s.gov.w5 ∧ u.gov.w100 = s.gov.w100

/-- The trip latches after a clear of `v` (R130): a cleared latch whose input is still above the reference sets again. -/
def TripsAfter (v : BitVec 16) (s u : State) : Prop :=
  u.gov.level = s.gov.level ∧
  ∀ n, n < 16 → bget u.gov.trip n = (bget s.gov.trip n && (!bget v n || (bget s.gov.level n && bitAt (fcCfg s n) 15)))

/-! ### The link -/

/-- Of the link only port `p` differs, and is `x`; besides it only the event distributor may differ. -/
def PortBecomes (p : Nat) (x : Zp) (s u : State) : Prop :=
  u = { s with zl := u.zl, ed := u.ed } ∧ zpGet u p = x ∧ u.zl = (zpPut p x s).zl

/-- Port `p` is DOWN and holds nothing; the entry is counted; the other port is as it was (R389). -/
def PortIsDown (p ce : Nat) (s u : State) : Prop :=
  u = { s with zl := u.zl, ed := u.ed } ∧ (zpGet u p).st = 0 ∧ (zpGet u p).q = [] ∧ (zpGet u p).busyTo = 0 ∧
  (zpGet u p).codeerr = ce ∧ zpGet u (1 - p) = zpGet s (1 - p) ∧ u.zl.downs = satAdd 16 s.zl.downs 1

/-- A frame of type `ty` and address mode `dm` that this device originates has been appended to what port `p` sends. -/
def Sends (p ty dm : Nat) (s u : State) : Prop :=
  ∃ f, (p, f) ∈ u.zl.out ∧ f.type = ty ∧ f.dmode = dm ∧ f.src = zlAddr s ∧ f.seq = s.zl.seq ∧ f.hops = 0 ∧
    zlHcrcOk f = true ∧ zlCrcOk f = true

/-- Frame `f` passes the checks on port `p` as a new frame from another device (R391, R394). -/
def NewFrame (p : Nat) (f : ZlFrame) (s : State) : Prop :=
  portUp s p = true ∧ zlHcrcOk f = true ∧ zlCrcOk f = true ∧ zlAccepts s f = true ∧ ownSrc s f = false ∧ ∀ e ∈ s.zl.seen, e.1 ≠ f.src

/-! ### Commits and sessions -/

/-- The commit that COMMIT_GO names (R45, R46). -/
def commitNow (s : State) : Pend :=
  { mode := liveN s 0x1100 0x11, frame := BitVec.ofNat 32 (liveN s 0x1100 0x12), time := BitVec.ofNat 64 (liveN s 0x1100 0x13)
    safety := stagedSafety s, verified := false, crc := stagedCrc s, writeAt := none, written := false, user := s.sess.user, set := s.cf.staged, map := s.cf.mapStage }

/-- COMMIT_STATUS is posted with `st`, the write is acknowledged, and the commit pending is `q` (Table 1.9). -/
def CommitPosted (p : Path) (st : Nat) (q : Option Pend) (s u : State) : Prop :=
  RespondedTo p 0x1100 0x14 1 0 s u ∧ u.cf = { s.cf with status := st, pend := q } ∧
  (resGet u aCommit).valid = true ∧ (resGet u aCommit).fresh = true ∧ regGet u aCommit = st

/-- The value of a passphrase command with its passphrase at offset `o`: length, characters, and a matching slot of user `n`, no lockout. -/
def PassGood (s : State) (n o : Nat) (d : List Byte) : Prop :=
  o + 1 ≤ d.length ∧ d.length ≤ o + 33 ∧ passLenOk d o = true ∧ passRange d o = true ∧ lockOn s = false ∧
  passMatches s n (passAt d o) = true

/-! ### The dictionary -/

/-- A request that the server takes: it runs, SAVE has not begun, and it is no repetition (R409). -/
def Fresh (op : Nat) (p : Path) (r : DictReq) (s : State) : Prop :=
  s.sys.mgmtUp = true ∧ s.sup.vstate ≠ 2 ∧ repeated s p op r = none ∧ awaiting s p r = false

/-- The response `x` leaves on path `p`. -/
def Says (p : Path) (x : DictRsp) (s u : State) : Prop := u.dc.rsps = s.dc.rsps ++ [(p, x)]

/-- Only the server's transfers and responses and the link's queues differ. -/
def OnlyServer (s u : State) : Prop := u = { s with dc := u.dc, zl := u.zl }

/-- The state in which a request of `o` is judged: expired transfers are gone, for a write its own too, and a session it needs is kept. -/
def judged (write : Bool) (o : Obj) (p : Path) (r : DictReq) (s : State) : State :=
  let s := xferPrune s
  let s := if write then xferDrop p r.tid s else s
  if needsSession o then touchSession p s else s

/-- A frame accepted on port `p`, its header handled before (R391, R394, R413). -/
def taken (p : Nat) (f : ZlFrame) (s : State) : State :=
  noteSeen f (zpUpd p (fun x => { x with hdr := false, frames := satAdd 32 x.frames 1 }) s)

/-- The acknowledgement of a write that has been staged: a value longer than one segment ended with a WRITE_SEG (Table 18.5). -/
def stageAck (r : DictReq) : DictRsp where
  op := if 992 < r.data.length then 4 else 3
  index := r.index
  sub := r.sub
  tid := r.tid
  abort := 0
  val := r.data.length
  data := []

/-! ### The host port -/

/-- The host port takes transfers (R111, R425). -/
def PortOpen (s : State) : Prop := s.sys.hpUp = true ∧ s.sys.mgmtUp = true ∧ pinScan s = false

/-- The check byte that follows the status word where CRC = 1 (R416). -/
def statusCheck (h : SpiHead) (s : State) : List Byte := if h.crc then [hcrcByte (hpStatusWord s)] else []

/-- The check byte that follows the word `w` read at a header's address where CRC = 1 (R416). -/
def wordCheck (h : SpiHead) (w : Nat) : List Byte := if h.crc then [dcrcByte h.addr w] else []

/-- A transfer that began in `s` has ended with code `c`, the words `ws` and the check bytes `cs` shifted out, and has had the effect of
`v` (R416, R424). -/
def Transferred (c : Nat) (ws : List Word) (cs : List Byte) (s v u : State) : Prop :=
  u = { v with hp := u.hp } ∧ u.hp.last = c ∧ u.hp.miso = ws ∧ u.hp.check = cs ∧ u.hp.status = BitVec.ofNat 32 (hpStatusWord s) ∧
  u.hp.tcount = (v.hp.tcount + 1) % 256 ∧ u.hp.woke = false ∧
  u.hp.crcErr = (if c = lastHcrc ∨ c = lastDcrc then satAdd 16 v.hp.crcErr 1 else v.hp.crcErr) ∧
  u.hp.errors = (if c = 0 ∨ c = lastHcrc ∨ c = lastDcrc then v.hp.errors else satAdd 16 v.hp.errors 1)

/-- The header passes: it is whole, its check holds, and it carries one where CRC_ONLY asks for it (R421, R423). -/
def HeaderOk (s : State) (op : Nat) (h : SpiHead) (b : Byte) (inHeader : Bool) : Prop :=
  inHeader = false ∧ (h.crc = true → hcrcOk op h b = true) ∧ (h.crc = false → s.hp.crcOnly = false)

/-! ### The event distributor -/

/-- Only the event distributor differs. -/
def OnlyEd (s u : State) : Prop := u = { s with ed := u.ed }

/-! ### The indicator matrix -/

/-- Slot `k` of cycle `c` begins: pre-charge with every row switch and every sink off, and the on-times of a row slot's dies fixed from
the page shown (R453, R454, R460). -/
def SlotBegins (k c : Nat) (u : State) : Prop :=
  u.lm.run = true ∧ u.lm.slot = k ∧ u.lm.cycle = c ∧ u.lm.row = none ∧ u.lm.pre = true ∧ u.lm.sinks = 0 ∧
  (k < 12 → ∀ d, d < 48 → lmOnNow u d = lmOnTime u k d)

/-! ### The safety channels -/

/-- The channel other than `c` is as it was, but that a switch held open by its own test pulse stays open where channel `c` opens the
pair (R315). -/
def OtherKept (c : Chan) (s u : State) : Prop :=
  (getC u (otherC c)).latch = (getC s (otherC c)).latch ∧
  ((∀ p, p < 4 → (tpGet s p).by_ = none) → getC u (otherC c) = getC s (otherC c))

/-- Fault `b` is latched in channel `c` and its switches are open, in RESTART_WAIT (R305, R311); the other channel is kept. -/
def FaultLatched (c : Chan) (b : Nat) (s u : State) : Prop :=
  (getC u c).sw = 0 ∧ (getC u c).rwait = 15 ∧ bget (getC u c).latch b = true ∧ OtherKept c s u

/-- What a test pulse leaves of the two channels: switches, restart interlocks and latches. -/
def SwitchesKept (s u : State) : Prop := (guarded u).switches = (guarded s).switches

/-! ### The track front end -/

/-- Only channel `n` of the track front end may differ. -/
def OnlyTf (n : Nat) (s u : State) : Prop := Kept u s ∧ ∀ m, m ≠ n → tfGet u m = tfGet s m

/-! ### Axle counting and sections -/

/-- Every section that the counting points bound is DISTURBED for `cause`. -/
def Disturbed (cause : Nat) (cps : List Nat) (s u : State) : Prop :=
  ∀ c ∈ cps, ∀ k ∈ secsOf s c, (secGet u k).st = 0 ∧ (secGet u k).cause = cause

/-- A frame of link `l` that is lost (R383): counted, and the sections at its counting points are DISTURBED. -/
def FrameLost (l : Nat) (s u : State) : Prop :=
  Kept u s ∧ (tlGet u l).gap = satAdd 16 (tlGet s l).gap 1 ∧ (tlGet u l).up = (tlGet s l).up ∧ (tlGet u l).rxseq = (tlGet s l).rxseq ∧
  (tlGet u l).health = (tlGet s l).health ∧ (tlGet u l).states = (tlGet s l).states ∧ u.ax.queue = s.ax.queue ∧
  Disturbed 7 (linkCps s l) s u

/-! ### Zones and the mailbox -/

/-- Echo `x` lies in an interval of zone `z` in a cell of its channel-point. -/
def Hits (v : State) (x : QEcho) (z : Nat) : Prop :=
  ∃ w ∈ pointCells v x.ch x.step, ∃ i ∈ cellIvs v.cf.map w, ivZone i = z ∧ ivNear i ≤ x.e.range ∧ x.e.range ≤ ivFar i

/-- A cell of the channel-point names zone `z`. -/
def Names (v : State) (ch k z : Nat) : Prop := ∃ w ∈ pointCells v ch k, z ∈ cellZones v.cf.map w

/-- A channel counts what is wrong with its copy: its view of the zones and its switches stay. -/
def CopyRejected (c : Chan) (s u : State) : Prop :=
  Kept u s ∧ getC u (otherC c) = getC s (otherC c) ∧ (getC u c).mbFrame = (getC s c).mbFrame ∧ (getC u c).mbWords = (getC s c).mbWords ∧
  (getC u c).zunk = (getC s c).zunk ∧ (getC u c).zdisc = (getC s c).zdisc

/-! ### Receive channels -/

/-- Channel `ch` alone may differ in the receive units. -/
def OnlyRx (ch : Nat) (s u : State) : Prop := Kept u s ∧ ∀ k, k ≠ ch → rxGet u k = rxGet s k

/-- The class and the raw time of an excursion (R147). -/
def exClass (x : Edges) : EvClass := if x.tT.isSome then .top else if x.tH.isSome then .heart else .base
def exRaw (x : Edges) : Int := x.tH.getD x.tB

/-- The counters of channel `ch` in the frame to which the step of buffer `buf` belongs. -/
def rxCntOf (s : State) (ch buf : Nat) : RxCnt := if bufClosed s buf = true then (rxGet s ch).last else (rxGet s ch).cnt

/-- An excursion with the edges `x`, which begins after the dead time (R147 to R157). -/
def ExcursionTaken (ch : Nat) (x : Edges) (s u : State) : Prop :=
  OnlyRx ch s u ∧ (rxGet u ch).deadUntil = x.tBF + 256 ∧
  (windowAt s ch x.tB = none → u.hg = s.hg ∧
    (rxGet u ch).gap = if dpClocked s = true ∧ inGap s (ch / 48) x.tB = true then (rxGet s ch).gap + 1 else (rxGet s ch).gap) ∧
  (∀ buf b, windowAt s ch x.tB = some (buf, b) → ∃ tot,
    let t := correct (viewFrame (bufFrame s buf) s) ch (calOf (rxGet s ch) (bufClosed s buf)) (inStep s buf (exRaw x) - b.start) (exClass x) tot
    let e : Ev := { buf := buf, ch := ch, slot := b.slot, t := t, cls := exClass x, tot := min 1023 (tot / 4), sat := decide (1024 ≤ x.overTop), long := x.long
                    loss := bget (ctxGet s buf ch).lossSlot b.slot }
    (∀ h f, x.tH = some h → x.tHF = some f → tot = (f - h).toNat) ∧ ((∃ h, x.tH = some h) → x.tHF = none → tot = 4096) ∧
    (x.tH = none → tot = (x.tBF - x.tB).toNat) ∧
    (t < 0 → u.hg = s.hg ∧ (rxCntOf u ch buf).early = satAdd 8 (rxCntOf s ch buf).early 1) ∧
    (0 ≤ t → (hgQueue s (ch / 12)).length < 64 → hgQueue u (ch / 12) = hgQueue s (ch / 12) ++ [e] ∧
      (rxCntOf u ch buf).events = satAdd 32 (rxCntOf s ch buf).events 1) ∧
    (0 ≤ t → 64 ≤ (hgQueue s (ch / 12)).length → hgQueue u (ch / 12) = hgQueue s (ch / 12) ∧
      (rxCntOf u ch buf).drops = satAdd 16 (rxCntOf s ch buf).drops 1 ∧ (ctxGet u buf ch).evloss = true ∧
      (b.slot < 8 → bget (ctxGet u buf ch).lossSlot b.slot = true)))

/-- The value `z` moves one sixteenth of the way to `m`, with an inexact step rounded either way (R159). -/
def FilterStep (z m z' : Int) : Prop := z' = z + (m - z) / 16 ∨ ((m - z) % 16 ≠ 0 ∧ z' = z + (m - z) / 16 + 1)

/-! ### Histograms, steps and the point stream -/

/-- Entry `k` of the histogram store. -/
def hgBin (s : State) (k : Nat) : Nat := mget 0 s.hg.bins k

/-- The counters of quadrant `q` in the frame to which the step of buffer `buf` belongs. -/
def hgCntOf (s : State) (buf q : Nat) : HgCnt := if bufClosed s buf = true then mget {} s.hg.last q else mget {} s.hg.cnt q

end Sys2Proof.Machine
end

