-- ==== Sys2Proof/Certificates/Slice0/Obligations.lean ====
section
/-! DEFINITION. Certificates/Slice0/Obligations.lean: the statements about the block, one definition each. -/

open Sys2Proof Sys2Proof.Machine

/-- A step of a state with a command at the front of its queue is that command on the state with the queue's rest. -/
def Obligations.StepRunsTheFrontCommand : Prop :=
  ∀ (c : Instr) (rest : List Instr) (s : State),
  step { s with pending := c :: rest } = exec c { s with pending := rest }

/-- On an empty queue the block's programs run on, and without one it idles (the model's choice, assumption 15): the queue stays
empty, and switches, log, limits and configuration stay. -/
def Obligations.EmptyQueueIdles : Prop :=
  ∀ s : State, s.pending = [] → ∃ u, step s = .next u ∧ Kept u s ∧
  (s.fp.run = false → (∀ q, q < 4 → (neGet s q).run = false) → u = s)

/-- Every command completes on every state, and leaves the queue to the step. -/
def Obligations.EveryCommandCompletes : Prop :=
  ∀ (i : Instr) (s : State), Answers i s fun u => u.pending = s.pending

/-- The state after reset is safe: no switch is closed, safety is not operational, no fault is latched, the log and the queue are
empty, memory and governor limits are empty. -/
def Obligations.ResetIsSafe : Prop :=
  Safe State.reset ∧ AllOpen State.reset ∧ State.reset.sys.oper = false ∧
  State.reset.safA.latch = 0 ∧ State.reset.safB.latch = 0 ∧ State.reset.sess.log = [] ∧ State.reset.pending = [] ∧
  State.reset.gov.locked = false ∧ State.reset.gov.limb = [] ∧ State.reset.pw.dp = .off ∧ State.reset.sess.user = 0

/-- R98, R305, R311, R335: from every safe state every step leads to a safe state. -/
def Obligations.EveryStepKeepsSafe : Prop :=
  ∀ s t : State, Safe s → step s = .next t → Safe t

/-- R323: no command but a reset input's falling edge closes a switch, in any state; that one closes only switches of its own
channel, and none where safety is not operational, no rising edge was timed, or the pulse is too short or too long to be valid. -/
def Obligations.OnlyAResetEdgeCloses : Prop :=
  ∀ (i : Instr) (s u : State), exec i s = .next u →
  ((∀ t c, i ≠ .resetFallingEdge t c) → NoneCloses u s) ∧
  (∀ t c, i = .resetFallingEdge t c → (getC u (otherC c)).sw &&& ~~~(getC s (otherC c)).sw = 0 ∧
    (s.sys.oper = false → NoneCloses u s) ∧ ((getC s c).rstHigh = none → NoneCloses u s) ∧
    ∀ h, (getC s c).rstHigh = some h → (advance t s).sys.now - h ≤ 99 * msNs ∨ 3001 * msNs ≤ (advance t s).sys.now - h → NoneCloses u s)

/-- R137: a locked governor's limits stay as they are under every command but a power-up, until power-off or an erase leaves every
limit 0. -/
def Obligations.LockedLimitsHold : Prop :=
  ∀ (i : Instr) (s u : State), s.gov.locked = true → (∀ a b t, i ≠ .powerUp t a b) → exec i s = .next u →
  (guarded u).limits = (guarded s).limits ∨ (u.gov.locked = false ∧ u.gov.limb = [] ∧ u.gov.lim5 = [] ∧ u.gov.lim100 = [])

/-- R97, R57, R425: power-up from OFF, and the host port's first instant. R102, Table 4.2: which copy is loaded, and what is in
effect afterwards. -/
def Obligations.StartUp : Prop :=
  (∀ (s : State) (t : Nat) (ga gb : Bool),
  (s.sys.powered = false → Answers (.powerUp t ga gb) s fun u =>
    u.sys.powered = true ∧ u.sys.sysTime = 0 ∧ u.sys.bootAt = (advance t s).sys.now ∧ u.sys.planes = 7 ∧
    u.sys.cause = (if s.sys.saveRecord then 8 else 0) ∧ u.sys.mgmtUp = false ∧ u.sup.vinPath = true ∧ u.sup.holdPath = false ∧
    u.sup.uvlo = false ∧ u.sys.unsaved = (if s.sys.everOff && !s.sys.saveRecord then satAdd 32 s.sys.unsaved 1 else s.sys.unsaved) ∧
    u.safA = s.safA ∧ u.safB = s.safB ∧ u.ax = s.ax ∧ u.cf = s.cf) ∧
  (s.sys.mgmtUp = true → s.sys.bootAt + 5 * msNs ≤ (advance t s).sys.now → Answers (.hpStartReady t) s fun u =>
    u = { advance t s with sys := { (advance t s).sys with hpUp := true } })) ∧
  (∀ (s : State) (t : Nat) (aOk bOk ca cb : Bool),
  s.sys.ctrlUp = true → s.sys.mgmtUp = true → s.cf.loaded = false → Answers (.configLoad t aOk bOk ca cb) s fun u =>
    u.cf.loaded = true ∧ u.cf.aBad = !aOk ∧ u.cf.bBad = !bOk ∧
    (aOk = true → (bOk = true → s.cf.copyA.count ≤ s.cf.copyB.count) →
      u.cf.eff = s.cf.copyA.objs ∧ u.cf.map = s.cf.copyA.map ∧ u.cf.count = s.cf.copyA.count ∧ u.cf.used = false) ∧
    (bOk = true → (aOk = true → s.cf.copyB.count < s.cf.copyA.count) →
      u.cf.eff = s.cf.copyB.objs ∧ u.cf.map = s.cf.copyB.map ∧ u.cf.count = s.cf.copyB.count ∧ u.cf.used = true) ∧
    (aOk = false → bOk = false → u.cf.eff = [] ∧ u.cf.map = {} ∧ u.cf.defaults = true ∧ u.cf.copyA = s.cf.copyA ∧ u.cf.copyB = s.cf.copyB))

/-- R98, R99: a self-test that fails latches STARTUP and opens every switch of its channel; safety operational is reached once both
channels have passed, and every switch is then open. R111 to R113: while no safety set is loaded, a pin-controlling instruction
is a protective stop and is counted, and the debug port can halt SP, which opens channel A's switches; with one loaded, the
instruction loads BYPASS and the port refuses. The other instructions control no pin; SAMPLE/PRELOAD captures the pins. -/
def Obligations.SelfTestsAndDebug : Prop :=
  (∀ (s : State) (t : Nat) (c : Chan) (lv : ChannelLevels),
  s.sys.ctrlUp = true → s.cf.loaded = true → s.sys.oper = false →
  Answers (.selfTestDone t c true) s (fun u => u = { advance t s with sys := { (advance t s).sys with
    stA := if c = .a then some true else s.sys.stA, stB := if c = .b then some true else s.sys.stB } }) ∧
  Answers (.selfTestDone t c false) s (fun u => (getC u c).sw = 0 ∧ (getC u c).latch = bset (getC s c).latch fltStartup true ∧
    (getC u (otherC c)).latch = (getC s (otherC c)).latch ∧
    ((∀ p, p < 4 → (tpGet s p).by_ = none) → getC u (otherC c) = getC s (otherC c)) ∧ u.sys.stA = (if c = .a then some false else s.sys.stA) ∧
    u.sys.stB = (if c = .b then some false else s.sys.stB)) ∧
  (s.sys.stA = some true → s.sys.stB = some true → Safe s → Answers (.safetyOperational t lv) s fun u =>
    u.sys.oper = true ∧ AllOpen u ∧ u.safA.rwait = 15 ∧ u.safB.rwait = 15 ∧
    (s.sys.cameFromStandby = false → u.pw.req = cfgN s 0x1100 8))) ∧
  (∀ (s : State) (t : Nat), s.sys.powered = true → s.sys.ctrlUp = true → pinScan s = false →
  let load := fun j => { advance t s with sys := { (advance t s).sys with jtag := j } }
  Answers (.jtagSamplePreload t) s (fun u => u = pinCapture (load .samplePreload) ∧
    ∀ k, k < 6 → mget false u.sys.bscan k = pinLevel s k) ∧ Answers (.jtagBypass t) s (fun u => u = load .bypass) ∧
  (s.cf.safety = false →
    Answers (.jtagExtest t) s (fun u => u.sys.jtag = .extest ∧ AllOpen u ∧ u.sys.stops = satAdd 32 s.sys.stops 1) ∧
    Answers (.jtagClamp t) s (fun u => u.sys.jtag = .clamp ∧ AllOpen u ∧ u.sys.stops = satAdd 32 s.sys.stops 1) ∧
    Answers (.jtagHighz t) s (fun u => u.sys.jtag = .highz ∧ AllOpen u ∧ u.sys.stops = satAdd 32 s.sys.stops 1) ∧
    Answers (.spDebugHalt t) s (fun u => u.sys.spHalt = true ∧ u.safA.sw = 0 ∧ u.safB.latch = s.safB.latch ∧
      ((∀ p, p < 4 → (tpGet s p).by_ = none) → u.safB = s.safB))) ∧
  (s.cf.safety = true →
    Answers (.jtagExtest t) s (fun u => u = load .bypass) ∧ Answers (.jtagClamp t) s (fun u => u = load .bypass) ∧
    Answers (.jtagHighz t) s (fun u => u = load .bypass) ∧ Answers (.spDebugHalt t) s fun u => u = advance t s))

/-- Table 4.4, R105, R106: the causes of a reset of the whole device, while the device takes resets; a level on RESET_N shorter than
1 µs is ignored. R110: a write of SY_RESET with its KEY, or of RESET_CMD, takes effect 10 µs after it; RESET_CMD is
acknowledged. -/
def Obligations.DeviceResets : Prop :=
  (∀ (s : State) (t low : Nat), s.sys.powered = true → s.sup.vstate ≠ 2 →
  (10000 ≤ low → Answers (.resetPinAssert t low) s fun u => DeviceIsReset 1 (advance t s) u ∧ u.sys.pinReset = true) ∧
  (low < 1000 → Answers (.resetPinAssert t low) s fun u => u = advance t s) ∧
  Answers (.railUndervoltage t) s (fun u => DeviceIsReset 2 (advance t s) u ∧ u.sys.railLow = true) ∧
  (∀ at_ rest, s.sys.resetDue = (3, at_) :: rest → at_ ≤ (advance t s).sys.now →
    Answers (.resetTakesEffect t) s fun u => DeviceIsReset 3 (advance t s) u ∧ u.sys.resetDue = []) ∧
  (pinScan s = true → Answers (.jtagPinInstructionExit t) s fun u => DeviceIsReset 7 (advance t s) u ∧ u.sys.jtag = .bypass)) ∧
  (∀ (s : State) (t : Nat), s.sys.powered = true → s.sys.mgmtUp = true → s.sup.vstate ≠ 2 →
  let due := fun k => s.sys.resetDue ++ [(k, (advance t s).sys.now + 10000)]
  Answers (.syResetDataPlane t) s (fun u => u = { advance t s with sys := { (advance t s).sys with resetDue := due 1 } }) ∧
  Answers (.syResetMgmtPlane t) s (fun u => u = { advance t s with sys := { (advance t s).sys with resetDue := due 2 } }) ∧
  Answers (.syResetDevice t) s (fun u => u = { advance t s with sys := { (advance t s).sys with resetDue := due 3 } }) ∧
  Answers (.resetCmdDataPlane t) s (fun u => u = { advance t s with sys := { (advance t s).sys with resetDue := due 1 }, dc := u.dc } ∧
    RespondedTo .host 0x1003 1 4 0 s u) ∧
  Answers (.resetCmdMgmtPlane t) s (fun u => u = { advance t s with sys := { (advance t s).sys with resetDue := due 2 }, dc := u.dc } ∧
    RespondedTo .host 0x1003 1 4 0 s u) ∧
  Answers (.resetCmdDevice t) s (fun u => u = { advance t s with sys := { (advance t s).sys with resetDue := due 3 }, dc := u.dc } ∧
    RespondedTo .host 0x1003 1 4 0 s u))

/-- R107, R108, Table 4.4: a management-plane reset leaves the control plane as it is, a data-plane reset the two others; both end.
Table 4.1, Table 4.4: the planes leave reset once nothing holds them there; RESET_N released and a rail recovered let them go. -/
def Obligations.PlaneResets : Prop :=
  (∀ (s : State) (t : Nat), s.sys.powered = true → s.sup.vstate ≠ 2 →
  (s.sys.mgmtUp = true → Answers (.mpWatchdogExpiry t) s fun u => MgmtIsReset 6 (advance t s) u) ∧
  (∀ at_ rest, s.sys.resetDue = (2, at_) :: rest → at_ ≤ (advance t s).sys.now →
    Answers (.resetTakesEffect t) s fun u => MgmtIsReset 4 (advance t s) u ∧ u.sys.resetDue = rest) ∧
  (∀ at_ rest, s.sys.resetDue = (1, at_) :: rest → at_ ≤ (advance t s).sys.now → s.pw.dp = .scanning →
    Answers (.resetTakesEffect t) s fun u => u.sys.cause = 5 ∧ u.sys.planes = 1 ∧ u.pw.st = 3 ∧ u.pw.dp ≠ .scanning ∧
      u.pw.scanned = false ∧ u.gov = { s.gov with fcs := u.gov.fcs, level := u.gov.level } ∧ u.safA = s.safA ∧ u.safB = s.safB ∧ u.ax = s.ax ∧ u.sys.mgmtUp = s.sys.mgmtUp) ∧
  (s.sys.ctrlUp = true → s.sys.mgmtUp = false → Answers (.mgmtResetDone t) s fun u =>
    u = { advance t s with sys := { (advance t s).sys with mgmtUp := true, hpUp := true } })) ∧
  (∀ (s : State) (t : Nat), s.sys.powered = true → s.sys.ctrlUp = false → s.pw.st ≠ 2 →
  (s.sys.pinReset = false → s.sys.railLow = false → Answers (.planesLeaveReset t) s fun u =>
    u.sys.ctrlUp = true ∧ u.sys.mgmtUp = true ∧ u.sys.oper = s.sys.oper ∧ u.safA = s.safA ∧ u.safB = s.safB) ∧
  (s.sys.pinReset = true → s.sys.railLow = false → s.sys.bootAt + 3 * msNs ≤ (advance t s).sys.now →
    Answers (.resetPinRelease t) s fun u => u.sys.pinReset = false ∧ u.sys.ctrlUp = true ∧ u.sys.mgmtUp = true) ∧
  (s.sys.railLow = true → s.sys.pinReset = false →
    Answers (.railRecovery t) s fun u => u.sys.railLow = false ∧ u.sys.ctrlUp = true ∧ u.sys.mgmtUp = true))

/-- R32, R33, R42, R44, R128: boundaries derived from the mirror and nominal ones open the next frame; in STANDBY only the counter
advances. R22, R75, R76, R304, R325, R379: the accounting interval latches and clears the counters of a second; every sixtieth
writes the energy totals to MRAM. Between two whole seconds of system time there is none. -/
def Obligations.FramesAndAccounting : Prop :=
  (∀ (s : State) (t : Nat), s.sys.powered = true → s.sys.ctrlUp = true →
  (s.pw.st ≠ 2 → s.pw.dp = .scanning → pinScan s = false → angleDue (advance t s) (stepsPerFrame s) = true → Answers (.frameBoundary t) s (FrameOpens (advance t s))) ∧
  (s.pw.st ≠ 2 → s.pw.dp ≠ .scanning → s.pw.lastB + framePeriod s ≤ (advance t s).sys.now →
    Answers (.nominalBoundary t) s (FrameOpens (advance t s))) ∧
  (s.pw.st = 2 → s.pw.dp ≠ .scanning → s.pw.lastB + framePeriod s ≤ (advance t s).sys.now →
    Answers (.nominalBoundary t) s fun u => u.pw.frameNo = s.pw.frameNo + 1 ∧ u = { advance t s with
      pw := { s.pw with frameNo := s.pw.frameNo + 1, frameSys := (advance t s).sys.sysTime, lastB := (advance t s).sys.now },
      ex := { s.ex with step := 0, begun := 0, open_ := false } })) ∧
  (∀ (s : State) (t : Nat),
  (sysSecond (advance t s) = s.sys.lastSec → Answers (.accountingInterval t) s fun u => u = advance t s) ∧
  (sysSecond (advance t s) ≠ s.sys.lastSec → Answers (.accountingInterval t) s fun u =>
  Kept u s ∧ u.pw = s.pw ∧ u.sys.lastSec = sysSecond (advance t s) ∧
  (s.sys.mgmtUp = true → (resGet u 0x010140).valid = true ∧ (resGet u 0x010140).fresh = true ∧
    u.sup.eInt = 0 ∧ u.sup.rides = 0 ∧ u.sup.throttle = 0 ∧ u.mw.minRms = 65535 ∧ u.mw.dips = 0 ∧ u.mw.ints = 0 ∧ u.mw.swells = 0 ∧
    u.sup.eTotalMram = (if s.sup.intervals = 59 then s.sup.eTotal else s.sup.eTotalMram) ∧
    u.zl.p0.frames = 0 ∧ u.zl.p1.frames = 0 ∧ u.zl.qdrop = 0 ∧ u.zl.aborts = 0) ∧
  (s.sys.ctrlUp = true → u.safA.crcFail = 0 ∧ u.safB.crcFail = 0 ∧ u.safA.gapN = 0 ∧ u.safB.gapN = 0 ∧ u.out.tests = 0 ∧
    (hasTrack s = true → (resGet u 0x540010).valid = true ∧ u.ax.disturbs = 0 ∧ u.ax.passages = 0 ∧ u.ax.secs = s.ax.secs))))

/-- R60, R62, R72, R330, R359, R379: a refresh of the energy meter; SAVE begins where E_avail has come down to FREEBOARD with
HOLD_READY set, and counting and excitation stop 50 µs later. R57, R71, R72, R77, R102: a SAVE sequence that completes leaves
the device OFF with its record; a loss of VBUS leaves it OFF without one. Of a commit whose copies were being written, copy A
holds the new set where its write was complete. -/
def Obligations.MetersAndPowerLoss : Prop :=
  (∀ (s : State) (t : Nat) (m : Meter), s.sys.mgmtUp = true →
  let av := eAvail (holdCap s) m.vhold
  (s.sup.holdReady = false ∨ cfgN s 0x1200 4 < av ∨ s.sup.vstate = 2 → Answers (.emRefresh t m) s fun u => Kept u s ∧
    u.sup.vin = m.vin ∧ u.sup.iin = iinOf s m.shunt ∧ u.sup.vhold = m.vhold ∧ u.sup.vossd = m.vossd ∧ u.sup.vld = m.vld ∧ u.sup.avail = av ∧
    u.sup.free = av - cfgN s 0x1200 4 ∧ u.sup.vstate = s.sup.vstate ∧
    u.sup.holdReady = (s.sup.holdReady || decide (cfgN s 0x1200 4 ≤ av ∧ s.sup.vstate ≠ 2)) ∧
    (6000 ≤ m.vin → u.sup.eFrame = s.sup.eFrame + (energyOf s m.prod).1 ∧
      u.sup.eTotal = s.sup.eTotal + (energyOf s m.prod).1)) ∧
  (s.sup.holdReady = true → av ≤ cfgN s 0x1200 4 → s.sup.vstate ≠ 2 → Answers (.emRefresh t m) s fun u =>
    u.sup.vstate = 2 ∧ u.sup.t0 = some (advance t s).sys.now ∧ u.sup.holdReady = false ∧ u.sup.grant = 0 ∧ AllOpen u ∧
    u.sess.user = 0 ∧ u.pw.dp = .off ∧ u.lm.sinks = 0 ∧
    ∀ w, saveStopped (advance w u) = decide ((advance t s).sys.now + 50000 ≤ (advance w u).sys.now))) ∧
  (∀ (s : State) (t : Nat),
  (s.sup.vstate = 2 → Answers (.saveComplete t) s fun u => IsOff s u ∧ u.sys.saveRecord = true ∧
    u.sys.saves = satAdd 32 s.sys.saves 1 ∧ u.sup.eTotal = s.sup.eTotal ∧ u.cf.unacked = [] ∧ u.ax.cntA = u.ax.cntB) ∧
  (s.sys.powered = true → Answers (.vbusLoss t) s fun u => IsOff s u ∧ u.sys.saveRecord = false ∧ u.sys.saves = s.sys.saves ∧
    (s.sup.t0 = none → (∀ p w, s.cf.pend = some p → p.writeAt = some w → p.written = false →
      w + copyATime p s ≤ (advance t s).sys.now → u.cf.copyA = copyAfter p s) ∧ u.sup.eTotal = s.sup.eTotalMram ∧ u.cf.staged = s.cf.staged ∧ u.ax.cntA = s.ax.cntA ∧ u.ax.cntB = s.ax.cntB)))

/-- R54, R55, R63, R464, Table 2.6: RIDE, its end, and the undervoltage lockout; the charger's stop and its resumption. R58, R59,
R61: VOSSD out of range latches SUPPLY in both channels; VLD is judged against its limits; CMEAS is measured once, from the
charge of the run's span and its rise, and HOLD_LOW tells a capacitance below the design value. R43, R67 to R69, Table 2.5: the
mains watch classifies each refresh, at a zero crossing or forced; a dip or an interruption lowers the running grant to the
floor; the recovery ends when its time has run. -/
def Obligations.SupplyWatch : Prop :=
  (∀ (s : State) (t vin held mv : Nat),
  let now := (advance t s).sys.now
  let charge := if s.sup.chgOn then s.sup.chgI * (now - s.sup.chgAt) else 0
  (s.sys.mgmtUp = true → s.sup.vstate = 0 → vin < cfgN s 0x1200 8 ∨ s.sup.uvlo = true →
    Answers (.rideEnter ⟨t, vin⟩) s fun u => SupplyBecomes (advance t s) u { s.sup with
      vstate := 1, vinPath := false, holdPath := true, rides := satAdd 16 s.sup.rides 1
      chgOn := false, chgFull := false, runV := none, spanV := none, spanQ := 0, chgAt := now
      eChg := s.sup.eChg + s.sup.vhold * charge }) ∧
  (cfgN s 0x1200 8 ≤ vin → s.sup.uvlo = false → Answers (.rideEnter ⟨t, vin⟩) s fun u => u = advance t s) ∧
  (s.sup.vstate = 1 → cfgN s 0x1200 8 + 500 ≤ vin → 1000000 ≤ held → Answers (.rideExit ⟨t, vin, held⟩) s fun u =>
    u = { advance t s with sup := { s.sup with
      vstate := 0, vinPath := true, holdPath := false, uvlo := false, runV := none, spanV := none, spanQ := 0
      chgOn := decide (s.sup.vhold < 34000), chgFull := decide (34000 ≤ s.sup.vhold)
      chgAt := if s.sup.vhold < 34000 then now else s.sup.chgAt } }) ∧
  (vin < cfgN s 0x1200 8 + 500 ∨ held < 1000000 → Answers (.rideExit ⟨t, vin, held⟩) s fun u => u = advance t s) ∧
  (s.sys.mgmtUp = true → s.sup.vstate = 0 → Answers (.uvloEngage t) s fun u => AllOpen u ∧ u.sup.uvlo = true ∧ u.sup.vinPath = false ∧
    u.sup.vstate = 1 ∧ u.sup.holdPath = true) ∧
  (s.sup.chgOn = true → 34000 ≤ mv → Answers (.chargerStop ⟨t, mv⟩) s fun u => u = { advance t s with sup := { s.sup with
    chgOn := false, chgFull := true, runV := none, spanV := none, spanQ := 0, chgAt := now, eChg := s.sup.eChg + mv * charge } }) ∧
  (s.sys.mgmtUp = true → s.sup.vstate = 0 → s.sup.chgFull = true → mv < 33000 → Answers (.chargerResume ⟨t, mv⟩) s fun u =>
    u = { advance t s with sup := { s.sup with
      chgOn := true, chgFull := false, chgAt := now, spanQ := 0
      runV := if s.sup.cmeas = 0 then some mv else none
      spanV := if s.sup.cmeas = 0 ∧ 10000 ≤ mv then some mv else none } })) ∧
  (∀ (s : State) (t mv v0 v1 : Nat),
  (s.sys.ctrlUp = true → Answers (.vossdFault t) s fun u => AllOpen u ∧ u.safA.latch = bset s.safA.latch fltSupply true ∧
    u.safB.latch = bset s.safB.latch fltSupply true ∧ u.safA.rwait = 15 ∧ u.safB.rwait = 15) ∧
  (s.sys.mgmtUp = true → Answers (.vldRangeChange t mv) s fun u => SupplyBecomes (advance t s) u { s.sup with
    vld := mv, vldBad := decide (mv < cfgN s 0x1200 0xC ∨ cfgN s 0x1200 0xD < mv) }) ∧
  (s.sys.mgmtUp = true → s.sup.chgOn = true → s.sup.cmeas = 0 → s.sup.runV = some v0 → s.sup.spanV = some v1 →
    (if v0 ≤ 10000 then 20000 else v1 + 1000) ≤ mv → v1 < mv →
    ∀ q c, q = s.sup.chgI * ((advance t s).sys.now - s.sup.chgAt) → c = max 1 ((s.sup.spanQ + q) / (1000 * (mv - v1))) →
    Answers (.cmeasDone t v1 mv) s fun u => SupplyBecomes (advance t s) u { s.sup with
      chgAt := (advance t s).sys.now, eChg := s.sup.eChg + mv * q, spanQ := s.sup.spanQ + q
      cmeas := c, holdLow := decide (c < cfgN s 0x1200 5) })) ∧
  (∀ (s : State) (t : Nat) (x1 x2 : List Int) (x : Int), s.sys.mgmtUp = true → cfgN s 0x1200 0x10 ≠ 0 →
  let xs := x1 ++ x2
  let v := mwRms s xs
  let h := 10 * cfgN s 0x1200 0x13
  let R := fun (u : State) (p : Nat) => (u.mw.rms = v ∧ u.mw.period = p ∧ u.mw.minRms = min s.mw.minRms v) ∧
    (resGet u 0x010300).valid = true ∧ (resGet u 0x010300).fresh = true ∧ u.sup.vstate = s.sup.vstate ∧ Kept u s ∧
    (v < 500 → u.mw.mstate = 3) ∧ (500 ≤ v → v < 9000 → s.mw.mstate = 1 ∨ s.mw.mstate = 2 → u.mw.mstate = 2) ∧
    (500 ≤ v → v < 500 + h → s.mw.mstate = 3 → u.mw.mstate = 3) ∧
    (9000 ≤ v → v < 9000 + h → s.mw.mstate = 2 → u.mw.mstate = 2) ∧
    (9000 ≤ v → v ≤ 11000 → s.mw.mstate = 1 → u.mw.mstate = 1) ∧ (11000 < v → s.mw.mstate = 1 → u.mw.mstate = 4) ∧
    (u.mw.mstate = 2 ∨ u.mw.mstate = 3 → u.mw.recoverAt = none ∧
      (s.sup.vstate ≠ 2 → u.sup.grant = min s.sup.grant s.sup.floorUj ∧ u.sup.whyMains = true)) ∧
    (u.mw.mstate = 1 ∨ u.mw.mstate = 4 → u.sup.grant = s.sup.grant ∧
      (s.mw.mstate = 2 ∨ s.mw.mstate = 3 → u.mw.recoverAt = some (advance t s).sys.now))
  let run := s.mw.pos ≠ none ∧ s.mw.forcedAt = none
  (xs.getLast? = some x → mwBeyond s x = true → s.mw.pos ≠ some (decide (0 < x)) → Answers (.mwRefresh t x1 x2) s fun u =>
    u.mw.pos = some (decide (0 < x)) ∧ u.mw.crossAt = (advance t s).sys.now ∧ u.mw.forcedAt = none ∧
    (∀ a, s.mw.crossPrev = some a → run → R u (((advance t s).sys.now - a) / 1000)) ∧
    (s.mw.crossPrev = none ∨ ¬run → R u s.mw.period)) ∧
  (mwForcedDue (advance t s) = true → Answers (.mwForcedRefresh t xs) s fun u =>
    R u s.mw.period ∧ u.mw.forcedAt = some (advance t s).sys.now ∧ u.mw.crossAt = s.mw.crossAt) ∧
  (∀ a, s.mw.recoverAt = some a → a + cfgN s 0x1200 0x14 * msNs ≤ (advance t s).sys.now → Answers (.mwRecoveryEnd t) s fun u =>
    u = { advance t s with mw := { s.mw with recoverAt := none }, sup := { s.sup with whyMains := false } }))

/-- Table 3.3, R82, R359: each clock check that fails has its effect: MRC-A and MRC-B latch CLOCK in their channel, and a PLL or HFX
fault stops the data plane and holds the state at VIGIL. R86, R246, Table 3.5: a power request of 2 to 5 sets PWR_REQ and the
automatic demand, other values are ignored; a wake event sets the demand to PWR_WAKE_TO; the idle timer lowers it to PWR_REST. -/
def Obligations.ClocksAndPowerRequests : Prop :=
  (∀ (s : State) (t : Nat) (m : ClockMeas), s.sys.powered = true → s.sys.ctrlUp = true →
  Answers (.clockCheck t m) s (fun u =>
    (30000 < m.mrcA.natAbs → u.safA.sw = 0 ∧ u.safA.latch = bset s.safA.latch fltClock true ∧ u.pw.mrcAFault = true) ∧
    (m.mrcA.natAbs ≤ 30000 → u.safA.latch = s.safA.latch ∧ u.pw.mrcAFault = false) ∧
    (30000 < m.mrcB.natAbs → u.safB.sw = 0 ∧ u.safB.latch = bset s.safB.latch fltClock true ∧ u.pw.mrcBFault = true ∧ u.lm.sinks = 0) ∧
    (m.mrcB.natAbs ≤ 30000 → u.safB.latch = s.safB.latch) ∧
    (m.mrcA.natAbs ≤ 30000 → m.mrcB.natAbs ≤ 30000 → u.safA = s.safA ∧ u.safB = s.safB) ∧
    (s.pw.hfxOk = true → m.hfxRuns = false ∨ 500 < m.hfx.natAbs → PllBlocked s u ∧ u.pw.hfxOk = false) ∧
    (m.hfxRuns = true → m.hfx.natAbs ≤ 500 → u.pw.dp = s.pw.dp ∧ u.pw.hfxOk = s.pw.hfxOk ∧ u.pw.pllBlock = s.pw.pllBlock) ∧
    (m.lfxEdge = true → u.pw.lfxFail = false)) ∧
  (s.pw.pllC = true ∨ s.pw.pllT = true ∨ s.pw.pllS = true → Answers (.pllLossOfLock t) s fun u => PllBlocked s u ∧ Kept u s)) ∧
  (∀ (s : State) (t r : Nat),
  (s.sys.mgmtUp = true → s.sup.vstate ≠ 2 →
    (2 ≤ r → r ≤ 5 → Answers (.pwrReqWrite t r) s fun u => u.pw = { s.pw with
        req := r, demand := r, idleFrom := (advance t s).sys.now, pllBlock := false } ∧ u.fp.vigilReq = false ∧ Kept u s) ∧
    (r < 2 ∨ 5 < r → Answers (.pwrReqWrite t r) s fun u => u = advance t s)) ∧
  (s.sys.ctrlUp = true →
    Answers (.wakeEvent t) s (fun u => u = { advance t s with pw := { s.pw with
      demand := cfgN s 0x1100 5, idleFrom := (advance t s).sys.now, pllBlock := false } }) ∧
    (s.pw.idleFrom + cfgN s 0x1100 6 * secNs ≤ (advance t s).sys.now → Answers (.pwrIdleExpiry t) s fun u =>
      u = { advance t s with pw := { s.pw with demand := min s.pw.demand (cfgN s 0x1100 4) } })))

/-- R87 to R90: the first wake from STANDBY is noted with its cause, later ones change nothing; at the end of the entry both islands
have lost their state, and what lies in MRAM and the wake latches are kept. R91 to R93, R95: a sample of an enabled comparator
above its threshold, or below it by more than the hysteresis, sets its state; samples in the polarity are counted from a change
to it, the set number of them sets the latch, and one with WAKE = 1 is a wake event; writing 1 clears a latch. -/
def Obligations.StandbyAndWakes : Prop :=
  (∀ (s : State) (t : Nat),
  (s.sys.powered = true → s.pw.st = 2 → s.pw.wakeHold = false →
    Answers (.standbyWake t .zeley) s (fun u => u.pw.wakeHold = true ∧ u.pw.wakeCause = 2 ∧ u.pw.demand = cfgN s 0x1100 5 ∧
      u.sys.cameFromStandby = true ∧ (cfgF s 0x1100 3 = false → u.pw.req = 3) ∧ Kept u s) ∧
    Answers (.standbyWake t .host) s (fun u => u.pw.wakeHold = true ∧ u.pw.wakeCause = 3 ∧ Kept u s) ∧
    (wakeLatched s = true → Answers (.standbyWake t .comparator) s fun u => u.pw.wakeHold = true ∧ u.pw.wakeCause = 1 ∧
      u.pw.wcMask = BitVec.ofNat 8 (wakeMask s) ∧ Kept u s)) ∧
  (s.pw.st ≠ 2 ∨ s.pw.wakeHold = true → ∀ src, Answers (.standbyWake t src) s fun u => u = advance t s) ∧
  (s.pw.standbyAt.isSome = true → Answers (.standbyEntryDone t) s fun u =>
    u.pw.standbyAt = none ∧ u.pw.st = s.pw.st ∧ u.sys.ctrlUp = false ∧ u.sys.mgmtUp = false ∧ u.sys.oper = false ∧
    u.safA = safReset ∧ u.safB = safReset ∧ (∀ k, (secGet u k).st = 0) ∧ u.cf.loaded = false ∧ u.sup.grant = 0 ∧ u.wc = s.wc ∧
    u.ax.cntA = s.ax.cntA ∧ u.ax.cntB = s.ax.cntB ∧ u.cf.copyA = s.cf.copyA ∧ u.cf.copyB = s.cf.copyB ∧ u.gov = s.gov ∧
    u.sess.log = s.sess.log)) ∧
  (∀ (s : State) (t : Nat) (n : Fin 8) (mv : Nat) (v : Word) (b : Byte),
  (s.sys.powered = true → bitAt (wcCfg s n) 0 = true → wcTickDue (advance t s) n (mget {} s.wc n) = true →
    Answers (.wcTick t n mv) s fun u => Kept u s ∧ WcBecomes n s u (mget {} u.wc n) ∧
      (mget {} u.wc n).tickAt = some (advance t s).sys.now ∧ (mget {} u.wc n).fresh = false ∧
      (wcVth s n < mv → (mget {} u.wc n).above = true) ∧ (mv + wcHys s n < wcVth s n → (mget {} u.wc n).above = false) ∧
      (mv ≤ wcVth s n → wcVth s n ≤ mv + wcHys s n → (mget {} s.wc n).fresh = false → (mget {} u.wc n).above = (mget {} s.wc n).above) ∧
      (mv ≤ wcVth s n → wcVth s n ≤ mv + wcHys s n → (mget {} s.wc n).fresh = true → (mget {} u.wc n).above = false) ∧
      let x := mget {} s.wc n
      let y := mget {} u.wc n
      let counts := y.above ≠ bitAt (wcCfg s n) 1 ∧ (x.changed = true ∨ y.above ≠ x.above)
      let run := if x.changed then x.run + 1 else 1
      (¬counts → y.latch = x.latch ∧ y.run = 0 ∧ y.changed = false ∧ u.pw = s.pw) ∧
      (counts → run ≠ fld (wcCfg s n) 8 2 + 1 → y.latch = x.latch ∧ y.run = run ∧ y.changed = true ∧ u.pw = s.pw) ∧
      (counts → run = fld (wcCfg s n) 8 2 + 1 → y.latch = true ∧ y.changed = false ∧
        (bitAt (wcCfg s n) 2 = true → u.pw.demand = cfgN s 0x1100 5))) ∧
  (s.sys.mgmtUp = true → s.sup.vstate ≠ 2 →
    Answers (.wcStatWrite v) s (fun u => u = { s with wc := u.wc, ed := u.ed } ∧ WcLatchesCleared v.toNat s u) ∧
    Answers (.wcLatchWrite b) s (fun u => u = { s with wc := u.wc, ed := u.ed } ∧ WcLatchesCleared b.toNat s u)))

/-- R81, R95, R100, Table 3.6: HFX, the PLLs and the data plane come up in this order, and the mirror check begins. R100, R126 to
R128: mirror edges. The edge of MIX that MIX_POL does not select is ignored. A good edge while locked keeps the lock; the fourth
good period locks; a period out of tolerance, a wrong count, a stall or a reverse edge is a mirror fault, which ends the scan
and is latched; a late check raises MIRROR. R140: writing 1 to a FAULT bit of EX_MIR_CNT clears it and nothing else. -/
def Obligations.DataPlaneAndMirror : Prop :=
  (∀ (s : State) (t : Nat),
  (s.pw.hfxReq.isSome = true → Answers (.hfxStable t) s fun u => u = { advance t s with pw := { s.pw with hfxOk := true, hfxReq := none } }) ∧
  (s.pw.hfxOk = true → s.pw.dp ≠ .off → Answers (.pllLocked t) s fun u =>
    u = { advance t s with pw := { s.pw with pllC := true, pllT := true, pllS := decide (cfgN s 0x2800 2 ≠ 0) } }) ∧
  (s.pw.dp = .starting → s.pw.hfxOk = true → s.pw.pllC = true → s.pw.pllT = true → Answers (.dataPlaneReady t) s fun u => Kept u s ∧
    u.pw.dp = .ready ∧ u.pw.readyAt = (advance t s).sys.now ∧ u.mir.good = 0 ∧ u.mir.locked = false ∧ u.hg.bins = [] ∧
    u.ze.refillAll = true ∧ u.gov = s.gov ∧ u.res = s.res)) ∧
  (∀ (s : State) (t x y : Nat) (pol : Bool), cfgF s 0x2000 0x23 = pol → s.mir.lastMix = some x → s.mir.lastMenc = some y →
  let now := (advance t s).sys.now
  let good := periodOk s (now - x) = true ∧ s.mir.count = mencCpr s
  let fault := fun (b : Nat) (u : State) => u.mir.fault = bset s.mir.fault b true ∧ u.mir.locked = false ∧ u.pw.dp ≠ .scanning
  Answers (.mixEdge ⟨t, pol⟩) s (fun u => u = advance t s) ∧
  (s.pw.dp = .scanning → good → Answers (.mixEdge ⟨t, !pol⟩) s fun u => u = { advance t s with mir := { s.mir with
    lastMix := some now, period := now - x, lastCount := s.mir.count, count := 0, good := min 4 (s.mir.good + 1)
    turn := s.mir.turn + 1 } }) ∧
  (s.pw.dp = .ready → good → s.mir.good < 3 → Answers (.mixEdge ⟨t, !pol⟩) s fun u => u = { advance t s with mir := { s.mir with
    lastMix := some now, period := now - x, lastCount := s.mir.count, count := 0, good := s.mir.good + 1
    turn := s.mir.turn + 1 } }) ∧
  (s.pw.dp = .ready → good → 3 ≤ s.mir.good → s.sys.powered = true → s.sys.ctrlUp = true → s.pw.st ≠ 2 → s.cf.pend = none →
    s.ac.staged = none → cfgF s 0x1100 3 = false → 4 ≤ selectState s →
    Answers (.mixEdge ⟨t, !pol⟩) s fun u => u.mir.locked = true ∧ u.pw.dp = .scanning ∧ FrameOpens (advance t s) u) ∧
  (s.pw.dp = .scanning → periodOk s (now - x) = false → Answers (.mixEdge ⟨t, !pol⟩) s (fault 0)) ∧
  (s.pw.dp = .scanning → periodOk s (now - x) = true → s.mir.count ≠ mencCpr s → Answers (.mixEdge ⟨t, !pol⟩) s (fault 1)) ∧
  (s.pw.dp = .scanning → 101 * framePeriod s ≤ 100 * (now - x) → Answers (.mixPeriodTimeout t) s (fault 0)) ∧
  (s.pw.dp = .scanning → 4 * framePeriod s ≤ (now - y) * mencCpr s → Answers (.mencStallTimeout t) s (fault 2)) ∧
  (s.pw.dp = .scanning → Answers (.mencEdge t false) s (fault 3)) ∧
  (s.pw.dp = .ready ∨ s.pw.dp = .scanning → Answers (.mencEdge t true) s fun u => u = { advance t s with mir := { s.mir with
    lastMenc := some now, mencInt := now - y, count := satAdd 16 s.mir.count 1 } }) ∧
  (s.pw.dp = .ready → s.pw.mirrorRaised = false → s.pw.readyAt + 2 * secNs ≤ now → s.sys.mgmtUp = true →
    Answers (.mirrorCheckTimeout t) s fun u => u.pw = { s.pw with mirrorRaised := true } ∧ bget u.ed.evt evMirror = true ∧ u.mir = s.mir)) ∧
  (∀ (s : State) (w : Word), Answers (.exMirCntWrite w) s fun u =>
  u = { s with mir := { s.mir with fault := u.mir.fault } } ∧
  ∀ b, b < 4 → bget u.mir.fault b = (bget s.mir.fault b && !w.getLsbD (16 + b)))

/-- R124, R134, Table 5.1: the checks on a listed burst in their order, the counter of each refusal, and an admitted burst, which
adds its full charge to both windows. R116, R118, R124, R139: a sub-pulse of an admitted burst, in order, is accounted; the
first one counts the burst. -/
def Obligations.Bursts : Prop :=
  (∀ (s : State) (t mv : Nat) (q n : Fin 4) (k : Fin 8) (x : Shot), MayFire s →
  let e := 4 * q.val + n.val
  s.ex.todo.find? (fun y => y.e == e && y.slot == k.val) = some x →
  let m := codeLen (shotCode s x)
  let on := emtOn s e = true ∧ bitAt (emtMask s e) x.member = true
  let sp := stepPeriodTdc s
  let A := fun P => Answers (.burstTest t q n k mv) s fun u => Kept u s ∧ P u
  (¬on → A (BurstRefused e (fun c => { c with ignored := satAdd 16 c.ignored 1 }) s)) ∧
  (on → sp < slotStart s k + windowLen → A (BurstRefused e (fun c => { c with late := satAdd 16 c.late 1 }) s)) ∧
  (on → slotStart s k + windowLen ≤ sp → bget s.gov.trip e = true →
    A (BurstRefused e (fun c => { c with tripblk := satAdd 16 c.tripblk 1 }) s)) ∧
  (on → slotStart s k + windowLen ≤ sp → bget s.gov.trip e = false → govAdmits s e m mv = false →
    A (BurstRefused e (fun c => { c with gvref := satAdd 16 c.gvref 1 }) s)) ∧
  (on → slotStart s k + windowLen ≤ sp → bget s.gov.trip e = false → govAdmits s e m mv = true → A fun u =>
    u.ex.bursts = s.ex.bursts ++ [{ e := e, slot := k, code := shotCode s x, pass := x.pass, start := slotStart s k }] ∧
    winSum (mget {} u.gov.w5 e) = winSum (mget {} s.gov.w5 e) + m * subCharge s e ∧
    winSum (mget {} u.gov.w100 e) = winSum (mget {} s.gov.w100 e) + m * subCharge s e ∧
    (∀ j, j ≠ e → mget {} u.gov.w5 j = mget {} s.gov.w5 j ∧ mget {} u.gov.w100 j = mget {} s.gov.w100 j))) ∧
  (∀ (s : State) (e : Fin 16) (k : Fin 8) (i : Fin 7) (b : Burst),
  s.pw.dp = .scanning → burstAt s e k = some b → b.fired = i → i < codeLen b.code → gateFree s e = true →
  Answers (.subPulse e k i) s fun u => u = { s with sup := u.sup, ex := u.ex } ∧
    u.sup = { s.sup with spendAcc := s.sup.spendAcc + subEnergy s e } ∧
    (burstAt u e k).map (·.fired) = some (i + 1) ∧
    (i = 0 → (exCnt u e).fired = satAdd 32 (exCnt s e).fired 1 ∧ mget 0 u.ex.qFired (e / 4) = mget 0 s.ex.qFired (e / 4) + 1) ∧
    (i ≠ 0 → u.ex.cnt = s.ex.cnt ∧ u.ex.qFired = s.ex.qFired))

/-- R135: at the end of a sub-window the oldest of the twenty complete ones leaves the window. R129, R130, R139: an enabled
comparator whose input crosses its reference latches and is counted, and what remains of its emitter's burst does not fire; 5 mV
or more below the reference its output is low again, and the latch stays; a clear acts on the latches written with 1, and one
whose input is still high sets again; a write of FC_CNTn clears that count. R137, Table 15.5: LOCK with the matching check
value, in a session on its path with room in the log, locks the block as it is and writes both copies; the reasons to refuse it,
in their order. -/
def Obligations.Governor : Prop :=
  (∀ (s : State), s.sys.powered = true → mwf {} s.gov.w5 = true → mwf {} s.gov.w100 = true →
  Answers (.govSubwindow false) s (fun u => u = { s with gov := { s.gov with w5 := u.gov.w5 } } ∧
    ∀ e, winSum (mget {} u.gov.w5 e) = (mget {} s.gov.w5 e).cur + ((mget {} s.gov.w5 e).past.take 19).sum) ∧
  Answers (.govSubwindow true) s (fun u => u = { s with gov := { s.gov with w100 := u.gov.w100 } } ∧
    ∀ e, winSum (mget {} u.gov.w100 e) = (mget {} s.gov.w100 e).cur + ((mget {} s.gov.w100 e).past.take 19).sum)) ∧
  (∀ (s : State) (n : Fin 16) (uv : Nat) (v w : BitVec 16) (p : Path),
  (emtPresent s n = true → s.pw.dp ≠ .off → bitAt (fcCfg s n) 15 = true → bget s.gov.trip n = false →
    bget s.gov.level n = false → 500 * fld (fcCfg s n) 0 10 < uv →
    Answers (.fcTrip ⟨n, uv⟩) s fun u => Kept u s ∧ bget u.gov.trip n = true ∧ bget u.gov.level n = true ∧
      mget 0 u.gov.fcCnt n = satAdd 16 (mget 0 s.gov.fcCnt n) 1 ∧ (∀ k, k ≠ n.val → bget u.gov.trip k = bget s.gov.trip k) ∧
      ∀ b ∈ u.ex.bursts, b.e = n → 0 < b.fired → b.fired = codeLen b.code) ∧
  (emtPresent s n = true → s.pw.dp ≠ .off → uv + 5000 ≤ 500 * fld (fcCfg s n) 0 10 →
    Answers (.fcTrip ⟨n, uv⟩) s fun u => Kept u s ∧ bget u.gov.level n = false ∧ u.gov.trip = s.gov.trip ∧ u.ex = s.ex) ∧
  Answers (.fcStatWrite v w) s (fun u => Kept u s ∧ TripsAfter v s u) ∧
  Answers (.fcTripWrite p w) s (fun u => Kept u s ∧ TripsAfter w s u) ∧
  Answers (.fcCntWrite n) s (fun u => u = { s with gov := { s.gov with fcCnt := u.gov.fcCnt } } ∧ mget 0 u.gov.fcCnt n = 0 ∧
    ∀ k, k ≠ n.val → mget 0 u.gov.fcCnt k = mget 0 s.gov.fcCnt k)) ∧
  (∀ (s : State) (t : Nat) (p : Path) (c : BitVec 32), s.sys.mgmtUp = true → s.sup.vstate ≠ 2 →
  (s.gov.locked = true ∨ s.gov.crcBad = true ∨ 512 ≤ s.sess.log.length → Answers (.governorLock t p c) s fun u =>
    u.gov = s.gov ∧ RespondedTo p 0x2100 2 4 0x0610 s u) ∧
  (s.gov.locked = false → s.gov.crcBad = false → s.sess.log.length < 512 →
    (sessionOn s p = false → Answers (.governorLock t p c) s fun u => u.gov = s.gov ∧ RespondedTo p 0x2100 2 4 0x0611 s u) ∧
    (sessionOn s p = true → s.sup.holdReady = true → c.toNat ≠ govCrc s → Answers (.governorLock t p c) s fun u =>
      u.gov = s.gov ∧ RespondedTo p 0x2100 2 4 0x0650 s u) ∧
    (sessionOn s p = true → s.sup.holdReady = true → c.toNat = govCrc s → Answers (.governorLock t p c) s fun u =>
      u.gov = { s.gov with locked := true, copyA := some (govBlock s), copyB := some (govBlock s) } ∧
      (∃ e, u.sess.log = s.sess.log ++ [e] ∧ e.kind = 3 ∧ e.user = s.sess.user) ∧ RespondedTo p 0x2100 2 4 0 s u)))

/-- R222 to R224, R226, R229: an accepted ASSIGN with the codes, φ, hopping and coordinator in effect renews it; any other is
staged; a refused one is answered with its abort code and changes no assignment. COORD_TIMEOUT without one marks it stale. W1C
of CONFLICT, and AC_CNT cleared by a write. R225, R226: a coordinator in link time colours the devices present, gives out a new
generation where a colour has changed, refreshes every assigned device every 10 s, and reads the generation back from each
changed device, once. -/
def Obligations.AccordRoles : Prop :=
  (∀ (s : State) (t : Nat) (p : Path) (d : List Byte) (v : Word),
  let a := assignOf d
  let same := ∃ b, s.ac.assign = some b ∧ b.codes = a.codes ∧ b.phi = a.phi ∧ b.hop = a.hop ∧ b.coord = a.coord
  (s.sys.mgmtUp = true → s.sup.vstate ≠ 2 → assignAbort s d = 0 → Answers (.assignWrite t ⟨p, d⟩) s fun u =>
    u = { advance t s with ac := u.ac, dc := u.dc, zl := u.zl } ∧ RespondedTo p 0x2600 0x40 d.length 0 s u ∧
    u.ac.lastAssign = (advance t s).sys.now ∧ (same → u.ac.assign = some a ∧ u.ac.staged = s.ac.staged ∧ u.ac.stale = false) ∧
    (¬same → u.ac.assign = s.ac.assign ∧ u.ac.staged = some a ∧ u.ac.stagedAt = (advance t s).sys.now)) ∧
  (s.sys.mgmtUp = true → s.sup.vstate ≠ 2 → assignAbort s d ≠ 0 → Answers (.assignWrite t ⟨p, d⟩) s fun u =>
    RespondedTo p 0x2600 0x40 d.length (assignAbort s d) s u ∧ u.ac.assign = s.ac.assign ∧ u.ac.staged = s.ac.staged ∧ u.ac.lastAssign = s.ac.lastAssign ∧ Kept u s) ∧
  ((accordNow s).src = 1 → s.ac.stale = false → s.ac.lastAssign + cfgN s 0x2600 0xD * secNs ≤ (advance t s).sys.now →
    Answers (.assignStale t) s fun u => u = { advance t s with ac := { s.ac with stale := true }, ed := u.ed } ∧
      (s.sys.mgmtUp = true → bget u.ed.evt evCoordLost = true)) ∧
  Answers (.acStatWrite v) s (fun u => u = { s with ac := { s.ac with conflict := s.ac.conflict && !v.getLsbD 1 } }) ∧
  Answers .acCntWrite s (fun u => u = { s with ac := { s.ac with applied := 0, interfere := 0 } })) ∧
  (∀ (s : State) (t : Nat) (d : Fin 1024), coordActive s = true →
  (s.sys.mgmtUp = true → s.zl.sync = true → Answers (.reassign t) s fun u => Kept u s ∧ u.ac.colours = colourAll (advance t s) ∧
    ((∀ e ∈ colourAll (advance t s), e.2 = none ∨ mlook s.ac.colours e.1 = some e.2) → u.ac.gen = s.ac.gen ∧ u.zl = s.zl) ∧
    ((∃ e ∈ colourAll (advance t s), e.2 ≠ none ∧ mlook s.ac.colours e.1 ≠ some e.2) → u.ac.gen = (s.ac.gen + 1) % 2 ^ 32 ∧
      u.ac.coordApply = applyTime (advance t s))) ∧
  (s.ac.lastRefresh + 10 * secNs ≤ (advance t s).sys.now → Answers (.coordRefresh t) s fun u => Kept u s ∧ u.ac.lastRefresh = (advance t s).sys.now ∧ u.ac.gen = s.ac.gen ∧
    u.ac.colours = s.ac.colours ∧ ∀ d c, s.ac.colours = [(d, some c)] → d ≠ zlAddr s → portUp s 0 = true → portBusy (advance t s) 0 = false →
      ∃ f, (0, f) ∈ u.zl.out ∧ f.type = 4 ∧ f.dst = d) ∧
  (s.ac.coordApply + secNs ≤ (advance t s).sys.sysTime.toNat → d.val ∈ s.ac.changed → (∀ e ∈ s.ac.asked, e.1 ≠ d.val) →
    Answers (.coordGenCheck t d) s fun u => Kept u s ∧ u.ac.gen = s.ac.gen ∧ u.ac.colours = s.ac.colours ∧ (∃ e ∈ u.ac.asked, e.1 = d.val) ∧
      (d.val ≠ zlAddr s → portUp s 0 = true → portBusy (advance t s) 0 = false →
        ∃ f, (0, f) ∈ u.zl.out ∧ f.type = 4 ∧ f.dst = d.val ∧ f.body.take 4 = [1#8, 0x10#8, 0x00#8, 0x26#8])) ∧
  ((advance t s).sys.sysTime.toNat < s.ac.coordApply + secNs ∨ d.val ∉ s.ac.changed ∨ (∃ e ∈ s.ac.asked, e.1 = d.val) →
    Answers (.coordGenCheck t d) s fun u => u = advance t s))

/-- R143, R146 to R150, R154 to R157: an excursion that begins in a listening window, of the step in progress or of the one before,
is classified by the highest level crossed, corrected and queued to its strip; one that begins in the dead time, or stays at or
below the base note, is no event; one that lasts longer than 64 ns is closed there with LONG. A pulse of constant current rises
through every threshold below the TIA output at its start and falls through them at its end. -/
def Obligations.ReceiveEvents : Prop :=
  ∀ (s : State) (ch : Fin 192) (x : Excursion),
  (∀ e, edgesOf s ch x = some e →
    (rxOn s ch = true → dpOn s = true → (rxGet s ch).deadUntil ≤ e.tB →
      (e.long = false → Answers (.rxEvent ch x) s (ExcursionTaken ch e s) ∧ Answers (.rxEventLongClose ch x) s (fun u => u = s)) ∧
      (e.long = true → Answers (.rxEventLongClose ch x) s (ExcursionTaken ch e s) ∧ Answers (.rxEvent ch x) s (fun u => u = s))) ∧
    (rxOn s ch = false ∨ dpOn s = false ∨ e.tB < (rxGet s ch).deadUntil →
      Answers (.rxEvent ch x) s (fun u => u = s) ∧ Answers (.rxEventLongClose ch x) s (fun u => u = s))) ∧
  (edgesOf s ch x = none → Answers (.rxEvent ch x) s (fun u => u = s) ∧ Answers (.rxEventLongClose ch x) s (fun u => u = s)) ∧
  ((∀ e ∈ x.wave, tiaOut s ch e.2 ≤ 1000 * (rxGet s ch).base) → edgesOf s ch x = none) ∧
  (∀ a b i, x.wave = [(a, i), (b, 0)] → a < b → 1000 * (rxGet s ch).base < tiaOut s ch i →
    let h := decide (1000 * cfgN s (0x2200 + ch) 4 < tiaOut s ch i)
    let p := decide (1000 * cfgN s (0x2200 + ch) 5 < tiaOut s ch i)
    let c := min b (a + 4096)
    edgesOf s ch x = some { tB := a, tH := if h then some a else none
                            tHF := if h then (if b ≤ a + 4096 then some b else none) else none
                            tT := if p then some a else none, tBF := c, overTop := if p then (c - a).toNat else 0
                            long := decide (a + 4096 < b) })

/-- R151 to R153: after AMB_STEPS steps the base note moves up by 16 or 4 codes where the rate is above 8 or 2 times the target and
down by 4 where it is below half, between BASE_MIN and HEART − 8, and the counts restart; 64 updates at the top make the channel
noisy. -/
def Obligations.BaseNotes : Prop :=
  ∀ (s : State) (ch : Fin 192), dpOn s = true →
  let q := ch.val / 48
  let x := rxGet s ch
  let tg := max 1 (rqCfg s q 0x20) * ambSteps s q * 6611000
  let c := x.gap * 10000000
  (dpClocked s = true ∨ s.sys.now = s.pw.lastB → ambSteps s q ≤ x.steps → Answers (.baseNoteUpdate ch) s fun u =>
    let y := rxGet u ch
    OnlyRx ch s u ∧ y.gap = 0 ∧ y.steps = 0 ∧ y.base = x.base ∧
    (8 * tg < c → y.baseNext = (clampI (baseMin s ch) (baseTop s ch) (x.baseNext + 16)).toNat) ∧
    (2 * tg < c → c ≤ 8 * tg → y.baseNext = (clampI (baseMin s ch) (baseTop s ch) (x.baseNext + 4)).toNat) ∧
    (2 * c < tg → y.baseNext = (clampI (baseMin s ch) (baseTop s ch) (x.baseNext - 4)).toNat) ∧
    (c ≤ 2 * tg → tg ≤ 2 * c → y.baseNext = (clampI (baseMin s ch) (baseTop s ch) x.baseNext).toNat) ∧
    (2 * tg < c → y.baseNext = baseTop s ch → 63 ≤ x.noisyRun → y.noisy = true) ∧
    (c ≤ 2 * tg → 63 ≤ x.calmRun → y.noisy = false) ∧
    (x.gap ≠ 0 ∨ rqCfg s q 0x24 = 0 → y.silent = false)) ∧
  (x.steps < ambSteps s q ∨ dpClocked s = false ∧ s.sys.now ≠ s.pw.lastB → Answers (.baseNoteUpdate ch) s fun u => u = s)

/-- R158 to R161, Table 6.3: an injection reaches every enabled channel of the quadrant; its listen gives a miss, a busy listen or a
result: four misses make the channel DEAD, a level-15 result moves ZOFS by the filter, a lower level that shows only BASE
invalidates its entry. R144, R145, R162, R165: a bias more than 3 % off its temperature-corrected target for 10 ms makes the
quadrant HVFAULT, and 10 ms within it end that; BIASq moves towards the target and is held at 0 V while there is none; clears
wait for a check that passes; ZREF_LATCH stages the ZOFS of 48 channels. -/
def Obligations.BlotterBiasAndHealth : Prop :=
  (∀ (s : State) (q : Fin 4) (ch : Fin 192) (b : BlotSeen), dpOn s = true →
  (qPresent s q = true → injStep s q = true → dpClocked s = true → Answers (.blotterInjection q) s fun u => Kept u s ∧
    (rqGet u q).injN = (rqGet s q).injN + 1 ∧ ∀ c, c < 48 →
      (rxOn s (48 * q.val + c) = true → rxGet u (48 * q.val + c) = { rxGet s (48 * q.val + c) with
        inj := min 16 ((rxGet s (48 * q.val + c)).inj + 1), cnt := { (rxGet s (48 * q.val + c)).cnt with inj := satAdd 8 (rxGet s (48 * q.val + c)).cnt.inj 1 } }) ∧
      (rxOn s (48 * q.val + c) = false → rxGet u (48 * q.val + c) = rxGet s (48 * q.val + c))) ∧
  (injStep s q = false ∨ dpClocked s = false → Answers (.blotterInjection q) s fun u => u = s) ∧
  (rxOn s ch = true →
    let x := rxGet s ch
    let a := ((rqGet s (ch.val / 48)).injN + 15) % 16
    (1 < b.events ∨ b.early = true → Answers (.blotterListenEnd ch b) s fun u => OnlyRx ch s u ∧
      rxGet u ch = { x with cnt := { x.cnt with busy := satAdd 8 x.cnt.busy 1 } }) ∧
    (b.events = 0 → b.early = false → Answers (.blotterListenEnd ch b) s fun u => OnlyRx ch s u ∧
      (rxGet u ch).miss = min 4 (x.miss + 1) ∧ (rxGet u ch).zofs16 = x.zofs16 ∧ (3 ≤ x.miss → (rxGet u ch).dead = true) ∧
      (a ≠ 15 → mlook (rxGet u ch).walk a = none)) ∧
    (b.events = 1 → b.early = false → Answers (.blotterListenEnd ch b) s fun u => OnlyRx ch s u ∧ (rxGet u ch).miss = 0 ∧
      (bget x.clr 0 = true → (rxGet u ch).dead = false) ∧
      (a = 15 → (rxGet u ch).zofsGot = true ∧ (x.zofsGot = false → (rxGet u ch).zofs16 = 16 * b.m) ∧
        (x.zofsGot = true → FilterStep x.zofs16 (16 * b.m) (rxGet u ch).zofs16) ∧
        (b.cls ≠ .top → 3 ≤ x.notTop → (rxGet u ch).thr = true) ∧ (16 ≤ x.inj → (rxGet u ch).uncal = false)) ∧
      (a ≠ 15 → (rxGet u ch).zofs16 = x.zofs16 ∧ (b.cls = .base → mlook (rxGet u ch).walk a = none) ∧
        (b.cls ≠ .base → mlook x.walk a = none → mlook (rxGet u ch).walk a = some ⟨16 * b.m - x.zofs16, b.tot⟩))))) ∧
  (∀ (s : State) (t : Nat) (q : Fin 4) (hv : Nat) (temp tg : Int) (ch : Fin 192),
  let A := advance t s
  (qPresent s q = true → dpOn s = true → hvTarget s q temp = some tg →
    (3 * tg < 100 * ((10 * hv : Nat) - tg).natAbs → Answers (.hvBiasAdjust t q hv temp) s fun u => Kept u s ∧
      rqGet u q = { rqGet s q with
        hv := hv, temp := temp, okSince := none, badSince := some ((rqGet s q).badSince.getD A.sys.now)
        bias := biasNext (min 2500 (rqGet s q).bias) (10 * hv : Nat) tg (freeNow A) }) ∧
    ((100 * ((10 * hv : Nat) - tg).natAbs : Nat) ≤ 3 * tg → Answers (.hvBiasAdjust t q hv temp) s fun u => Kept u s ∧
      (rqGet u q).badSince = none ∧ (rqGet u q).okSince = some ((rqGet s q).okSince.getD A.sys.now) ∧ (rqGet u q).hv = hv ∧
      (((10 * hv : Nat) : Int) = tg → (rqGet u q).bias = min 2500 (rqGet s q).bias) ∧
      (∀ f, (rqGet s q).okSince = some f → f + 10 * msNs ≤ A.sys.now → (rqGet u q).hvFault = false))) ∧
  (qPresent s q = true → dpOn s = true → hvTarget s q temp = none → Answers (.hvBiasAdjust t q hv temp) s fun u => Kept u s ∧
    rqGet u q = { rqGet s q with hv := hv, temp := temp, bias := 0, badSince := none, okSince := none, hvFault := false }) ∧
  (qPresent s q = true → dpOn s = true → hvTarget s q (rqGet s q).temp ≠ none → ∀ f, (rqGet s q).badSince = some f →
    (f + 10 * msNs ≤ A.sys.now → Answers (.hvFaultTimeout t q) s fun u => Kept u s ∧ rqGet u q = { rqGet s q with hvFault := true }) ∧
    (A.sys.now < f + 10 * msNs → Answers (.hvFaultTimeout t q) s fun u => u = A)) ∧
  (chPresent s ch = true → Answers (.healthClr ch) s fun u => OnlyRx ch s u ∧
    (rxGet u ch).dead = (rxGet s ch).dead ∧ bget (rxGet u ch).clr 0 = (rxGet s ch).dead ∧
    bget (rxGet u ch).clr 1 = (rxGet s ch).thr ∧ bget (rxGet u ch).clr 2 = (rxGet s ch).drift) ∧
  (qPresent s q = true → canStage s = true → Answers (.zrefLatch q) s fun u => Kept u s ∧ ∀ c, c < 48 →
    mlook u.cf.staged (okey (0x2200 + (48 * q.val + c)) 7) =
      some (leBytes 2 (clampI 0 65535 (round16 (rxGet s (48 * q.val + c)).zofs16)).toNat)) ∧
  (canStage s = false → Answers (.zrefLatch q) s fun u => u = s))

/-- R155, R168, R171, R172, R174, R175: the event at the head of a strip's queue is binned in order, under the configuration of its
frame; a late one is counted and marks its channel; any other is held, and one that its strip discards reaches no bin; binning
touches only the region of the event's channel in the buffer of its step, where no bin falls or passes 65,535; a closing window
judges its held events. -/
def Obligations.EventBinning : Prop :=
  ∀ (s : State) (strip : Fin 16) (at_ : Int) (e : Fin 16) (k : Fin 8),
  (∀ ev rest b, hgQueue s strip = ev :: rest →
    (stepBursts s ev.buf).find? (fun b => b.e == servingCh (viewFrame (bufFrame s ev.buf) s) ev.ch && b.slot == ev.slot) = some b →
    let late := b.start + windowLen + 9600 < inStep s ev.buf at_ ∨ bufReleased s ev.buf (ev.ch / 48) = true
    let key := csKey ev.buf ev.ch b.slot
    (late → Answers (.eventBinning strip at_) s fun u => Kept u s ∧ hgQueue u strip = rest ∧
      u.hg.bins = s.hg.bins ∧ u.hg.held = s.hg.held ∧ (ctxGet u ev.buf ev.ch).evloss = true ∧
      (hgCntOf u ev.buf (ev.ch / 48)).lateev = satAdd 16 (hgCntOf s ev.buf (ev.ch / 48)).lateev 1) ∧
    (¬ late → Answers (.eventBinning strip at_) s fun u => Kept u s ∧ hgQueue u strip = rest ∧ u.rx = s.rx ∧ u.cf = s.cf ∧
      (mget [] u.hg.held key).getLast?.map (·.ev) = some ev ∧
      (slotBinned (passesOf (stepShots s ev.buf) b.e) b.slot = false → u.hg.bins = s.hg.bins ∧
        (mget [] u.hg.held key).getLast? = some ⟨ev, b.closed⟩ ∧
        (b.closed = true → (mget [] s.hg.held key).length < 16 →
          (ctxGet u ev.buf ev.ch).foreign = satAdd 16 (ctxGet s ev.buf ev.ch).foreign 1)) ∧
      ((ctxGet s ev.buf ev.ch).wins.length ≤ 8 → ∀ j,
        (j / 0x1000 ≠ 0xC0 * ev.buf + ev.ch → hgBin u j = hgBin s j) ∧
        (hgBin s j ≤ 65535 → hgBin s j ≤ hgBin u j ∧ hgBin u j ≤ 65535)))) ∧
  (hgQueue s strip = [] → Answers (.eventBinning strip at_) s fun u => u = s) ∧
  (∀ b, s.ex.open_ = true → burstAt s e k = some b → b.closed = false → b.fired ≠ 0 → Answers (.windowClose e k) s fun u => Kept u s ∧
    u.hg.bins = s.hg.bins ∧ (∀ b', burstAt u e k = some b' → b'.closed = true) ∧ ∀ ch ∈ channelsOf s e,
      let n := ((mget [] s.hg.held (csKey s.hg.buf ch k)).filter isForeign).length
      (n ≠ 0 → (ctxGet u s.hg.buf ch).foreign = satAdd 16 (ctxGet s s.hg.buf ch).foreign n) ∧
      (n = 0 → (ctxGet u s.hg.buf ch).foreign = (ctxGet s s.hg.buf ch).foreign)) ∧
  (s.ex.open_ = false ∨ burstAt s e k = none → Answers (.windowClose e k) s fun u => u = s)

/-- R177 to R179, R184, R185, Table 7.3: in a strip with coarse and fine bursts the picker places at most FINE_MAX windows inside
the span of each channel; a snapshot command arms one copy at a time, and the copy is the region as released. -/
def Obligations.PickerAndSnapshots : Prop :=
  ∀ (s : State) (strip : Fin 16) (q : Fin 4) (w : Word),
  let ps := passesOf s.ex.list (serving s (strip.val / 4) (strip.val % 4))
  let x := snapGet s q
  (s.ex.open_ = true → stripMode ps = 1 → stripNowin ps = false → firstFine ps < 8 → Answers (.pickerRun strip) s fun u => Kept u s ∧
    u.hg.bins = s.hg.bins ∧ ∀ i, i < 12 → (ctxGet u s.hg.buf (12 * strip.val + i)).wins.length ≤ clampN 1 8 (hgN s (strip.val / 4) 8) ∧
      (ctxGet u s.hg.buf (12 * strip.val + i)).mean = sat 16 (coarseMean s (12 * strip.val + i)) ∧
      ∀ p ∈ (ctxGet u s.hg.buf (12 * strip.val + i)).wins, origin s strip ≤ p.1 ∧ p.1 ≤ origin s strip + 130048 ∧ p.2 < 512 ∧
        coarseMean s (12 * strip.val + i) + hgN s ((12 * strip.val + i) / 48) 7 ≤ binGet s s.hg.buf (12 * strip.val + i) p.2) ∧
  (stripNowin ps = true ∨ stripMode ps ≠ 1 → Answers (.pickerRun strip) s fun u => u = s) ∧
  (bitAt w.toNat 31 = true → qPresent s q = true →
    (x.state ≠ 0 → Answers (.hgSnapCmd q w) s fun u => Kept u s ∧ snapGet u q = { x with last := 4 }) ∧
    (x.state = 0 → 47 < fld w.toNat 16 6 ∨ stepsPerFrame s ≤ fld w.toNat 0 13 → Answers (.hgSnapCmd q w) s fun u => Kept u s ∧
      snapGet u q = { x with last := 5 }) ∧
    (x.state = 0 → fld w.toNat 16 6 ≤ 47 → fld w.toNat 0 13 < stepsPerFrame s →
      bitAt w.toNat 30 = true → stepBegun s (BitVec.ofNat 32 x.frame) (fld w.toNat 0 13) = true →
      Answers (.hgSnapCmd q w) s fun u => Kept u s ∧ snapGet u q = { x with last := 2 }) ∧
    (x.state = 0 → fld w.toNat 16 6 ≤ 47 → fld w.toNat 0 13 < stepsPerFrame s →
      bitAt w.toNat 30 = false ∨ stepBegun s (BitVec.ofNat 32 x.frame) (fld w.toNat 0 13) = false →
      Answers (.hgSnapCmd q w) s fun u => Kept u s ∧ (snapGet u q).state = 1 ∧ (snapGet u q).ch = fld w.toNat 16 6 ∧
        (snapGet u q).step = fld w.toNat 0 13 ∧ (snapGet u q).at1 = bitAt w.toNat 30)) ∧
  (x.state = 2 → Answers (.snapshotComplete q) s fun u => Kept u s ∧ (snapGet u q).state = 0 ∧ (snapGet u q).last = 1 ∧
    (snapGet u q).bins = region s s.hg.relBuf (48 * q.val + x.ch) ∧ (resGet u (0x0A0000 + 0x4000 * q.val + 0x1FC0)).fresh = true ∧
    u.hg.bins = s.hg.bins) ∧
  (x.state ≠ 2 → Answers (.snapshotComplete q) s fun u => u = s)

/-- R126, R167 to R169, R190: a step that begins while another runs, once the interpolated angle has reached it, ends that one,
takes the other buffer, cleared, and leaves the finished buffer for release to every quadrant present; a release, 150 ns after
the next step begins, starts the quadrant's engine; with the data plane off nothing steps. R270 to R272, R274: the packet at the
head of a lane's queue leaves it in 8b/10b code groups, and its bytes leave the backlog; a lane that stops is down once it is
sent; the other lane is as it was. -/
def Obligations.StepsReleasesAndPackets : Prop :=
  (∀ (s : State) (t : Nat) (q : Fin 4),
  (s.pw.dp = .scanning → s.pw.scanned = true → pinScan s = false → s.ex.open_ = true → s.ex.step + 1 < stepsPerFrame s → s.hg.buf ≤ 1 →
    angleDue (advance t s) (s.ex.step + 1) = true →
    Answers (.azimuthStepStart t) s fun u => Kept u s ∧ u.ex.step = s.ex.step + 1 ∧ u.ex.open_ = true ∧
      u.ex.stepAt = (advance t s).sys.now ∧ u.hg.buf = 1 - s.hg.buf ∧ u.hg.relBuf = s.hg.buf ∧ u.hg.relStep = s.ex.step ∧
      u.hg.relFrame = s.pw.frameNo ∧ (∀ q, q < 4 → bget u.hg.relDue q = qPresent s q) ∧ u.ex.taken = [] ∧ u.ex.takenOk = false ∧
      u.ex.list = (if s.ex.takenOk then s.ex.taken else []) ∧
      ∀ k, hgBin u k = if k / 0xC0000 = 1 - s.hg.buf then 0 else hgBin s k) ∧
  (s.pw.dp = .scanning → s.pw.scanned = false ∨ pinScan s = true → Answers (.azimuthStepStart t) s fun u => u = advance t s) ∧
  (s.pw.dp = .scanning → s.ex.open_ = true → angleDue (advance t s) (s.ex.step + 1) = false →
    Answers (.azimuthStepStart t) s fun u => u = advance t s) ∧
  (s.pw.dp = .off → Answers (.azimuthStepStart t) s fun u => u = advance t s) ∧
  (bget s.hg.relDue q = true → qPresent s q = true → s.hg.relAt ≤ (advance t s).sys.now →
    let v := viewFrame s.hg.relFrame s
    Answers (.bufferRelease t q) s fun u => Kept u s ∧ u.hg.relDue = bset s.hg.relDue q false ∧ u.hg.bins = s.hg.bins ∧
      (neLoaded v q = false ∨ neLen v q ≠ 0 → 8 < neBudget v q → (neGet u q).run = true ∧ (neGet u q).group = 0 ∧ (neGet u q).pc = 0 ∧
        (neGet u q).cyc = 8 ∧ (neGet u q).step = s.hg.relStep ∧ (neGet u q).frame = s.hg.relFrame ∧ (neGet u q).buf = s.hg.relBuf) ∧
      (neLoaded v q = true → neLen v q = 0 → (neGet u q).run = false)) ∧
  (bget s.hg.relDue q = false ∨ (advance t s).sys.now < s.hg.relAt → Answers (.bufferRelease t q) s fun u => u = advance t s)) ∧
  (∀ (s : State) (l : Fin 2),
  (∀ p rest, (laneGet s l).queue = p :: rest → Answers (.psPacketSent l) s fun u => Kept u s ∧ u.ps.asm = s.ps.asm ∧
    (laneGet u l).queue = rest ∧ (laneGet u l).fill = (laneGet s l).fill - p.1 ∧ (∀ k : Fin 2, k ≠ l → laneGet u k = laneGet s k) ∧
    (laneGet u l).up = ((laneGet s l).up && !(laneGet s l).ending) ∧
    (laneGet u l).wire = (wireOf (p.1 != p.2.length + 16) p.2 (laneGet s l).rd).1) ∧
  ((laneGet s l).queue = [] → Answers (.psPacketSent l) s fun u => u = s))

/-- Table 8.3, R196: the lane arithmetic instructions complete within budget and program, cost their cycles, write Ld in every
active lane and nothing else of any lane, engine or unit. -/
def Obligations.NeLaneArithmetic : Prop :=
  ∀ (q : Fin 4) (s : State) (d a b : BitVec 4) (imm : BitVec 14),
  (NeRoom q s 1 →
    Answers (.neLi q d imm) s (fun u => NeWent q s u 1 (nePcNext q s) ∧
      NeLanes q s u fun _ => LaneWrites d.toNat (imm.signExtend 32)) ∧
    Answers (.neAdd q d a b) s (fun u => NeWent q s u 1 (nePcNext q s) ∧
      NeLanes q s u fun _ y => LaneWrites d.toNat (lreg y a.toNat + lreg y b.toNat) y) ∧
    Answers (.neSub q d a b) s (fun u => NeWent q s u 1 (nePcNext q s) ∧
      NeLanes q s u fun _ y => LaneWrites d.toNat (lreg y a.toNat - lreg y b.toNat) y) ∧
    Answers (.neAddi q d a imm) s (fun u => NeWent q s u 1 (nePcNext q s) ∧
      NeLanes q s u fun _ y => LaneWrites d.toNat (lreg y a.toNat + imm.signExtend 32) y) ∧
    Answers (.neShr q d a imm) s (fun u => NeWent q s u 1 (nePcNext q s) ∧
      NeLanes q s u fun _ y => LaneWrites d.toNat ((lreg y a.toNat).sshiftRight (imm.toNat % 32)) y) ∧
    Answers (.neShl q d a imm) s (fun u => NeWent q s u 1 (nePcNext q s) ∧
      NeLanes q s u fun _ y => LaneWrites d.toNat (lreg y a.toNat <<< (imm.toNat % 32)) y) ∧
    Answers (.neMin q d a b) s (fun u => NeWent q s u 1 (nePcNext q s) ∧
      NeLanes q s u fun _ y z => (lreg z d.toNat).toInt = min (lval y a.toNat) (lval y b.toNat) ∧
        LaneWrites d.toNat (lreg z d.toNat) y z) ∧
    Answers (.neMax q d a b) s (fun u => NeWent q s u 1 (nePcNext q s) ∧
      NeLanes q s u fun _ y z => (lreg z d.toNat).toInt = max (lval y a.toNat) (lval y b.toNat) ∧
        LaneWrites d.toNat (lreg z d.toNat) y z)) ∧
  (NeRoom q s 2 →
    Answers (.neMul q d a b) s (fun u => NeWent q s u 2 (nePcNext q s) ∧
      NeLanes q s u fun _ y => LaneWrites d.toNat (lreg y a.toNat * lreg y b.toNat) y))

/-- Table 8.3: NOP, LG, GLI, GLH and GADD write what the table says and nothing else. Table 8.3: the mask instructions MSET, MSETI
(conditions 0 to 5), MPUSH (fewer than four entries), MPOP and MNOT (a stack that is not empty). R196, Table 8.3: a taken branch
costs 2 cycles and goes to its target, one not taken costs 1 and goes on; BR is always taken, BANY where MASK is not 0, BNONE
where it is 0, LOOP where Ga > 1, with Ga − 1, else Ga becomes 0. -/
def Obligations.NeScalarMaskAndBranch : Prop :=
  (∀ (q : Fin 4) (s : State) (d a : BitVec 4) (imm : BitVec 14), NeRoom q s 1 →
  Answers (.neNop q) s (fun u => NeWent q s u 1 (nePcNext q s) ∧
    neGet u q = { neGet s q with cyc := (neGet u q).cyc, pc := (neGet u q).pc }) ∧
  (a.toNat < 8 → Answers (.neLg q d a) s fun u => NeWent q s u 1 (nePcNext q s) ∧
    NeLanes q s u fun _ => LaneWrites d.toNat (greg (neGet s q) a.toNat)) ∧
  (d.toNat < 8 → Answers (.neGli q d imm) s fun u => NeWent q s u 1 (nePcNext q s) ∧ NeScalar q s u d.toNat (imm.setWidth 32)) ∧
  (d.toNat < 8 → Answers (.neGlh q d imm) s fun u => NeWent q s u 1 (nePcNext q s) ∧
    ∃ w, NeScalar q s u d.toNat w ∧ w.extractLsb' 14 14 = imm ∧ w.extractLsb' 28 4 = 0#4 ∧
      w.extractLsb' 0 14 = (greg (neGet s q) d.toNat).extractLsb' 0 14) ∧
  (d.toNat < 8 → a.toNat < 8 → Answers (.neGadd q d a imm) s fun u => NeWent q s u 1 (nePcNext q s) ∧
    NeScalar q s u d.toNat (greg (neGet s q) a.toNat + imm.signExtend 32))) ∧
  (∀ (q : Fin 4) (s : State) (a b : BitVec 4) (imm : BitVec 14) (m : BitVec 8)
    (rest : List (BitVec 8)), NeRoom q s 1 →
  (imm.toNat % 8 ≤ 5 →
    Answers (.neMset q a b imm) s (fun u => NeWent q s u 1 (nePcNext q s) ∧ ∃ w, NeMask q s u w (neGet s q).stack ∧
      ∀ l, l < 8 → (bget w l = true ↔ bget (neGet s q).mask l = true ∧
        NeCond (imm.toNat % 8) (lval (lnGet (neGet s q) l) a.toNat) (lval (lnGet (neGet s q) l) b.toNat))) ∧
    Answers (.neMseti q a imm) s (fun u => NeWent q s u 1 (nePcNext q s) ∧ ∃ w, NeMask q s u w (neGet s q).stack ∧
      ∀ l, l < 8 → (bget w l = true ↔ bget (neGet s q).mask l = true ∧
        NeCond (imm.toNat % 8) (lval (lnGet (neGet s q) l) a.toNat) (imm.extractLsb' 3 11).toInt))) ∧
  ((neGet s q).stack.length < 4 → Answers (.neMpush q) s fun u => NeWent q s u 1 (nePcNext q s) ∧
    NeMask q s u (neGet s q).mask ((neGet s q).mask :: (neGet s q).stack)) ∧
  ((neGet s q).stack = m :: rest →
    Answers (.neMpop q) s (fun u => NeWent q s u 1 (nePcNext q s) ∧ NeMask q s u m rest) ∧
    Answers (.neMnot q) s (fun u => NeWent q s u 1 (nePcNext q s) ∧ NeMask q s u (m &&& ~~~(neGet s q).mask) (m :: rest)))) ∧
  (∀ (q : Fin 4) (s : State) (a : BitVec 4) (imm : BitVec 14), NeRoom q s 2 → imm.toNat < 1024 →
  imm.toNat < neLen (viewFrame (neGet s q).frame s) q →
  Answers (.neBr q imm) s (fun u => NeWent q s u 2 imm.toNat ∧
    neGet u q = { neGet s q with cyc := (neGet u q).cyc, pc := (neGet u q).pc }) ∧
  Answers (.neBany q imm) s (fun u => (if (neGet s q).mask ≠ 0 then NeWent q s u 2 imm.toNat else NeWent q s u 1 (nePcNext q s)) ∧
    neGet u q = { neGet s q with cyc := (neGet u q).cyc, pc := (neGet u q).pc }) ∧
  Answers (.neBnone q imm) s (fun u => (if (neGet s q).mask = 0 then NeWent q s u 2 imm.toNat else NeWent q s u 1 (nePcNext q s)) ∧
    neGet u q = { neGet s q with cyc := (neGet u q).cyc, pc := (neGet u q).pc }) ∧
  (a.toNat < 8 → Answers (.neLoop q a imm) s fun u =>
    if (greg (neGet s q) a.toNat).toInt > 1 then NeWent q s u 2 imm.toNat ∧ NeScalar q s u a.toNat (greg (neGet s q) a.toNat - 1)
    else NeWent q s u 1 (nePcNext q s) ∧ NeScalar q s u a.toNat 0))

/-- R197 to R199, Table 8.3: CTX (fields NC, NF, CH, STEP, LANE and HEALTH), WIN, BIN, BGS (modes 0 and 2, a window that is not
empty) and BGW. R200, R201, R202, Table 8.3: PEAK, VMIN, CENT and FWID (an even D for PEAK and CENT, r not 0 for CENT). Where an
inexact width of FWID rounds to is a free value (assumption 1). -/
def Obligations.NeBinAndScan : Prop :=
  (∀ (q : Fin 4) (s : State) (d a b : BitVec 4) (imm : BitVec 14),
  (NeRoom q s 1 → ∀ (k : Nat) (f : Nat → Nat), imm.toNat % 32 = k →
    (k, f) ∈ [(1, fun l => (ctxGet s (neGet s q).buf (laneCh q (neGet s q) l)).nc),
      (2, fun l => (ctxGet s (neGet s q).buf (laneCh q (neGet s q) l)).nf), (5, fun l => 48 * q + 8 * (neGet s q).group + l),
      (6, fun _ => (neGet s q).step), (8, fun l => l), (9, fun l => (ctxGet s (neGet s q).buf (laneCh q (neGet s q) l)).health)] →
    Answers (.neCtx q d imm) s fun u => NeWent q s u 1 (nePcNext q s) ∧
      NeLanes q s u fun l => LaneWrites d.toNat (BitVec.ofNat 32 (f l))) ∧
  (NeRoom q s 1 → Answers (.neWin q a b) s fun u => NeWent q s u 1 (nePcNext q s) ∧
    (∀ l, l < 8 → lnGet (neGet u q) l = if bget (neGet s q).mask l then
        (if 0 ≤ lval (lnGet (neGet s q) l) a.toNat ∧ lval (lnGet (neGet s q) l) a.toNat ≤ 4095 ∧
          0 ≤ lval (lnGet (neGet s q) l) b.toNat ∧ lval (lnGet (neGet s q) l) b.toNat ≤ 4096 then
          { lnGet (neGet s q) l with
              wbase := (lval (lnGet (neGet s q) l) a.toNat).toNat, wlen := (lval (lnGet (neGet s q) l) b.toNat).toNat }
        else { lnGet (neGet s q) l with wbase := 0, wlen := 0 })
      else lnGet (neGet s q) l) ∧
    neGet u q = { neGet s q with
      lanes := (neGet u q).lanes, cyc := (neGet u q).cyc, pc := (neGet u q).pc
      winerr := satAdd 8 (neGet s q).winerr (((List.range 8).filter fun l => bget (neGet s q).mask l &&
        !(decide (0 ≤ lval (lnGet (neGet s q) l) a.toNat) && decide (lval (lnGet (neGet s q) l) a.toNat ≤ 4095) &&
          decide (0 ≤ lval (lnGet (neGet s q) l) b.toNat) && decide (lval (lnGet (neGet s q) l) b.toNat ≤ 4096))).length) }) ∧
  (NeRoom q s 3 → Answers (.neBin q d a imm) s fun u => NeWent q s u 3 (nePcNext q s) ∧
    NeLanes q s u fun l y => LaneWrites d.toNat (BitVec.ofNat 32
      (if imm.toNat % 2 = 1 then neRaw s q l y (lval y a.toNat) else neU s q l y (lval y a.toNat))) y) ∧
  (∀ W, W = maxLane (neGet s q) (·.wlen) → 0 < W → NeRoom q s (4 + (W + 7) / 8) → imm.toNat % 4 = 0 ∨ imm.toNat % 4 = 2 →
    Answers (.neBgs q d imm) s fun u => NeWent q s u (4 + (W + 7) / 8) (nePcNext q s) ∧
      NeLanes q s u fun l y z => lreg z d.toNat = BitVec.ofNat 32 z.bg ∧ (∀ j, j ≠ d.toNat → lreg z j = lreg y j) ∧
        z = { y with r := z.r, bg := z.bg } ∧
        (imm.toNat % 4 = 0 → 0 < y.wlen → z.bg = ((List.range y.wlen).map fun (i : Nat) => neRaw s q l y i).sum / y.wlen) ∧
        (imm.toNat % 4 = 2 → 0 < y.wlen → (∀ i : Nat, i < y.wlen → z.bg ≤ neRaw s q l y i) ∧ ∃ i : Nat, i < y.wlen ∧ z.bg = neRaw s q l y i) ∧
        (y.wlen = 0 → z.bg = 0)) ∧
  (NeRoom q s 1 → Answers (.neBgw q a) s fun u => NeWent q s u 1 (nePcNext q s) ∧
    NeLanes q s u fun _ y z => z = { y with bg := (max 0 (min 65535 (lval y a.toNat))).toNat })) ∧
  (∀ (q : Fin 4) (s : State) (d a b : BitVec 4) (imm : BitVec 14) (W : Nat),
  (∀ l, l < 8 → (lnGet (neGet s q) l).wlen ≤ W) → NeRoom q s (max (2 + (W + 7) / 8) 11) →
  (d.toNat % 2 = 0 → Answers (.nePeak q d a b) s fun u => (∃ c, 2 ≤ c ∧ c ≤ 2 + (W + 7) / 8 ∧ NeWent q s u c (nePcNext q s)) ∧
    NeLanes q s u fun l y z =>
      (∃ p : Nat, max (lval y a.toNat) 0 ≤ p ∧ p < y.wlen ∧ isPeak s q l y (lval y b.toNat) p ∧
        (∀ k : Nat, max (lval y a.toNat) 0 ≤ k → k < p → ¬isPeak s q l y (lval y b.toNat) k) ∧
        LaneWrites2 d.toNat p (neU s q l y p) y z) ∨
      ((∀ k : Nat, max (lval y a.toNat) 0 ≤ k → k < y.wlen → ¬isPeak s q l y (lval y b.toNat) k) ∧
        LaneWrites2 d.toNat (-1) 0 y z)) ∧
  (Answers (.neVmin q d a b) s fun u => (∃ c, 2 ≤ c ∧ c ≤ 2 + (W + 7) / 8 ∧ NeWent q s u c (nePcNext q s)) ∧
    NeLanes q s u fun l y z =>
      (∃ p : Nat, lval y a.toNat ≤ p ∧ p ≤ lval y b.toNat ∧ p < y.wlen ∧
        (∀ k : Nat, lval y a.toNat ≤ k → k ≤ lval y b.toNat → k < y.wlen → neU s q l y p ≤ neU s q l y k) ∧
        LaneWrites d.toNat (BitVec.ofNat 32 (neU s q l y p)) y z) ∨
      ((∀ k : Nat, lval y a.toNat ≤ k → k ≤ lval y b.toNat → y.wlen ≤ k) ∧ LaneWrites d.toNat (-1) y z)) ∧
  (d.toNat % 2 = 0 → imm.toNat % 8 ≠ 0 → Answers (.neCent q d a imm) s fun u => NeWent q s u 6 (nePcNext q s) ∧
    NeLanes q s u fun l y z =>
      if lval y a.toNat < 0 ∨ (y.wlen : Int) ≤ lval y a.toNat then LaneWrites2 d.toNat (-1) 0 y z
      else ∀ ps, ps = spanOf y (lval y a.toNat - (imm.toNat % 8 : Nat)) (lval y a.toNat + (imm.toNat % 8 : Nat)) →
        ∀ S T, S = (ps.map fun (i : Nat) => neU s q l y i).sum → T = (ps.map fun (i : Nat) => neU s q l y i * i).sum →
        (∃ v : Int, (if S = 0 then v = 256 * lval y a.toNat else 2 * (v * S - 256 * T) ≤ S ∧ 2 * (256 * T - v * S) ≤ S) ∧
          lreg z d.toNat = BitVec.ofInt 32 v) ∧
        lreg z (d.toNat + 1) = BitVec.ofNat 32 (min S 2147483647) ∧
        (∀ j, j ≠ d.toNat → j ≠ d.toNat + 1 → lreg z j = lreg y j) ∧
        z = { y with
          r := z.r
          e := { y.e with
            edge := y.e.edge || decide (ps.length < 2 * (imm.toNat % 8) + 1)
            ovt := y.e.ovt || ps.any fun (i : Nat) => neRaw s q l y i == 65535 } }) ∧
  (Answers (.neFwid q d a) s fun u => (∃ c, 2 ≤ c ∧ c ≤ 11 ∧ NeWent q (drawn s) u c (nePcNext q s)) ∧
    NeLanes q s u fun l y z => ∃ w, w ≤ 1040 ∧ LaneWrites d.toNat (BitVec.ofNat 32 w) y { z with e := y.e } ∧
      z.e = { y.e with edge := z.e.edge } ∧ (y.e.edge = true → z.e.edge = true) ∧
      (lval y a.toNat < 0 ∨ (y.wlen : Int) ≤ lval y a.toNat ∨ neU s q l y (lval y a.toNat) = 0 → w = 0)))

/-- R203 to R205, Table 8.3: the echo under construction: ECLR, ERNG, EINT, EQLT, EFLG, CLS and EMIT. The outcome of CLS on a bin
whose width the spec does not give is a free value (assumption 1). R191, R192, R207: END of a group before the last starts the
next one, END of group 5 ends the step; a cut by the budget and a program fault end the step, and the running group's and the
later groups' channel-points count in NOTPROC. -/
def Obligations.NeEchoesAndEnds : Prop :=
  (∀ (q : Fin 4) (s : State) (d a : BitVec 4) (imm : BitVec 14), NeRoom q s 2 →
  Answers (.neEclr q) s (fun u => NeWent q s u 1 (nePcNext q s) ∧ NeLanes q s u fun _ y z => z = { y with e := {} }) ∧
  Answers (.neErng q a) s (fun u => NeWent q s u 2 (nePcNext q s) ∧ NeLanes q s u fun l y z =>
    ∀ c v x, c = ctxGet s (neGet s q).buf (laneCh q (neGet s q) l) → v = viewFrame (neGet s q).frame s →
      x = (max (lval y a.toNat) 0).toNat →
      z.j0 = (y.wbase + x / 256) % 4096 ∧ z = { y with j0 := z.j0, e := { y.e with range := z.e.range, pass := z.e.pass } } ∧
      z.e.range ≤ 524287 ∧
      (c.mode = 2 → z.e.pass = 3 ∧
        z.e.range = rangeMm (256 * (origin v (laneCh q (neGet s q) l / 12) + 32 * z.j0) + (x % 256 + 128) * 32)) ∧
      (c.mode = 1 → z.j0 < 512 → z.e.pass = 1 ∧
        z.e.range = rangeMm (256 * (origin v (laneCh q (neGet s q) l / 12) + 256 * z.j0) + (x % 256 + 128) * 256)) ∧
      (c.mode = 1 → 512 ≤ z.j0 → z.j0 < 1024 → (z.j0 - 512) / 64 < c.wins.length → z.e.pass = 2) ∧
      (c.mode = 1 → 1024 ≤ z.j0 ∨ (512 ≤ z.j0 ∧ c.wins.length ≤ (z.j0 - 512) / 64) → z.e.pass = 0 ∧ z.e.range = 0)) ∧
  Answers (.neEint q a imm) s (fun u => NeWent q s u 1 (nePcNext q s) ∧ NeLanes q s u fun _ y z =>
    z = { y with e := { y.e with intensity := min 4095 ((max 0 (lval y a.toNat)).toNat / 2 ^ (imm.toNat % 32)) } }) ∧
  Answers (.neEqlt q a) s (fun u => NeWent q s u 1 (nePcNext q s) ∧ NeLanes q s u fun _ y z =>
    z = { y with e := { y.e with quality := (max 0 (min 255 (lval y a.toNat))).toNat } }) ∧
  Answers (.neEflg q imm) s (fun u => NeWent q s u 1 (nePcNext q s) ∧ NeLanes q s u fun _ y z =>
    z = { y with e := { y.e with usr := y.e.usr ||| imm.setWidth 6 } }) ∧
  Answers (.neCls q d a) s (fun u => NeWent q (drawn s) u 2 (nePcNext q s) ∧ NeLanes q s u fun _ y z =>
    ∃ r : Bool, LaneWrites d.toNat (BitVec.ofNat 32 r.toNat) y { z with e := y.e } ∧ z.e = { y.e with sil := y.e.sil || r } ∧
      ∀ v, v = viewFrame (neGet s q).frame s →
      (r = true → cfgQN v q 0x2500 4 ≠ 0 ∧ y.e.range ≤ cfgQN v q 0x2500 4 ∧ y.e.intensity ≤ cfgQN v q 0x2500 6)) ∧
  Answers (.neEmit q imm) s (fun u => NeWent q s u 1 (nePcNext q s) ∧
    neGet u q = { neGet s q with
      lanes := (neGet u q).lanes, cyc := (neGet u q).cyc, pc := (neGet u q).pc
      dups := (neGet u q).dups, capdrop := (neGet u q).capdrop } ∧
    ∀ l, l < 8 → ∀ y z tol, y = lnGet (neGet s q) l → z = lnGet (neGet u q) l → tol = cfgQN (viewFrame (neGet s q).frame s) q 0x2500 7 →
      if bget (neGet s q).mask l then
        z = { y with slots := z.slots, e := {} } ∧
        (imm.toNat % 2 = 0 ∨ (∀ e ∈ y.slots, ((e.range : Int) - y.e.range).natAbs > tol) →
          z.slots = if y.slots.length < 8 then y.slots ++ [y.e] else y.slots) ∧
        (imm.toNat % 2 = 1 → (∃ e ∈ y.slots, ((e.range : Int) - y.e.range).natAbs ≤ tol) →
          ∃ i, i < y.slots.length ∧ (((y.slots.getD i {}).range : Int) - y.e.range).natAbs ≤ tol ∧
            z.slots = if (y.slots.getD i {}).intensity < y.e.intensity then y.slots.set i y.e else y.slots)
      else z = y)) ∧
  (∀ (q : Fin 4) (s : State), (neGet s q).run = true →
  (∀ E, E = ((List.range 8).map fun l => (laneEchoes (viewFrame (neGet s q).frame s) s q (neGet s q) l).length).sum →
    (neGet s q).cyc + 12 + E < neBudget (viewFrame (neGet s q).frame s) q → (neGet s q).group < 5 →
    Answers (.neEnd q) s fun u => Kept u s ∧ (∀ k, k ≠ q → neGet u k = neGet s k) ∧ (neGet u q).run = true ∧
      (neGet u q).group = (neGet s q).group + 1 ∧ (neGet u q).pc = 0 ∧ (neGet u q).stack = [] ∧ (neGet u q).lanes = [] ∧
      (neGet u q).cyc = (neGet s q).cyc + 12 + E ∧ (neGet u q).echoes = satAdd 32 (neGet s q).echoes E) ∧
  ((neGet s q).group = 5 → Answers (.neEnd q) s fun u => Kept u s ∧ (neGet u q).run = false) ∧
  ((neGet s q).lastStep = false → (neGet s q).group ≤ 5 →
    Answers (.neBudgetCut q) s (fun u => Kept u s ∧ (∀ k, k ≠ q → neGet u k = neGet s k) ∧ (neGet u q).run = false ∧
      (neGet u q).overruns = satAdd 16 (neGet s q).overruns 1 ∧
      (neGet u q).notproc = satAdd 32 (neGet s q).notproc (48 - 8 * (neGet s q).group)) ∧
    ((neGet s q).cyc ≤ neBudget (viewFrame (neGet s q).frame s) q →
      Answers (.neUnlistedOpcode q) s fun u => Kept u s ∧ (∀ k, k ≠ q → neGet u k = neGet s k) ∧ (neGet u q).run = false ∧
        (neGet u q).progfault = satAdd 8 (neGet s q).progfault 1 ∧ (neGet u q).cause = 1 ∧
        (neGet u q).faultPc = (neGet s q).pc % 1024 ∧
        (neGet u q).notproc = satAdd 32 (neGet s q).notproc (48 - 8 * (neGet s q).group) ∧
        (neGet u q).overruns = (neGet s q).overruns)))

/-- R247, Table 10.6: the register instructions of a plan program write Pd, cost their cycles, and leave everything else; DIV is
unsigned and gives 0xFFFF_FFFF for a divisor of 0. R247, R248, Table 10.6: branches and LOOP (a target within the program), IN
(a listed source), the tables QLD and FLD and the working table's PUT (an index below 1,024) and PUTALL, END, and the fault of
an opcode that is not listed. -/
def Obligations.PlanInstructions : Prop :=
  (∀ (s : State) (d a b : BitVec 4) (imm : BitVec 14), FpRoom s →
  Answers .fpNop s (fun u => FpWent s u 1 (s.fp.pc + 1) ∧ u.fp.p = s.fp.p ∧ u.fp.work = s.fp.work) ∧
  Answers (.fpLi d imm) s (fun u => FpWent s u 1 (s.fp.pc + 1) ∧ FpWrites s u d (imm.signExtend 32)) ∧
  Answers (.fpLih d imm) s (fun u => FpWent s u 1 (s.fp.pc + 1) ∧ ∃ w, FpWrites s u d w ∧ w.extractLsb' 14 14 = imm ∧
    w.extractLsb' 28 4 = 0#4 ∧ w.extractLsb' 0 14 = (preg s d).extractLsb' 0 14) ∧
  Answers (.fpAdd d a b) s (fun u => FpWent s u 1 (s.fp.pc + 1) ∧ FpWrites s u d (preg s a + preg s b)) ∧
  Answers (.fpSub d a b) s (fun u => FpWent s u 1 (s.fp.pc + 1) ∧ FpWrites s u d (preg s a - preg s b)) ∧
  Answers (.fpAddi d a imm) s (fun u => FpWent s u 1 (s.fp.pc + 1) ∧ FpWrites s u d (preg s a + imm.signExtend 32)) ∧
  Answers (.fpMul d a b) s (fun u => FpWent s u 2 (s.fp.pc + 1) ∧ FpWrites s u d (preg s a * preg s b)) ∧
  Answers (.fpDiv d a b) s (fun u => FpWent s u 18 (s.fp.pc + 1) ∧ ∃ w, FpWrites s u d w ∧
    (preg s b = 0 → w = 0xFFFFFFFF#32) ∧ (preg s b ≠ 0 → w.toNat = (preg s a).toNat / (preg s b).toNat)) ∧
  Answers (.fpShr d a imm) s (fun u => FpWent s u 1 (s.fp.pc + 1) ∧ FpWrites s u d (preg s a >>> (imm.toNat % 32))) ∧
  Answers (.fpShl d a imm) s (fun u => FpWent s u 1 (s.fp.pc + 1) ∧ FpWrites s u d (preg s a <<< (imm.toNat % 32))) ∧
  Answers (.fpMin d a b) s (fun u => FpWent s u 1 (s.fp.pc + 1) ∧ ∃ w, FpWrites s u d w ∧
    w.toInt = min (preg s a).toInt (preg s b).toInt) ∧
  Answers (.fpMax d a b) s (fun u => FpWent s u 1 (s.fp.pc + 1) ∧ ∃ w, FpWrites s u d w ∧
    w.toInt = max (preg s a).toInt (preg s b).toInt) ∧
  Answers (.fpAnd d a b) s (fun u => FpWent s u 1 (s.fp.pc + 1) ∧ FpWrites s u d (preg s a &&& preg s b)) ∧
  Answers (.fpOr d a b) s (fun u => FpWent s u 1 (s.fp.pc + 1) ∧ FpWrites s u d (preg s a ||| preg s b))) ∧
  (∀ (s : State) (d a b : BitVec 4) (imm : BitVec 14), FpRoom s →
  (imm.toNat < 2048 → imm.toNat < fpLen s →
    Answers (.fpBr imm) s (fun u => FpWent s u 2 imm.toNat ∧ u.fp.p = s.fp.p ∧ u.fp.work = s.fp.work) ∧
    Answers (.fpLoop a imm) s (fun u => if (preg s a).toInt > 1 then FpWent s u 2 imm.toNat ∧ FpWrites s u a (preg s a - 1)
      else FpWent s u 1 (s.fp.pc + 1) ∧ FpWrites s u a 0)) ∧
  (imm.toNat / 2048 ≤ 5 → imm.toNat % 2048 < fpLen s → Answers (.fpBc a b imm) s fun u =>
    u.fp.p = s.fp.p ∧ u.fp.work = s.fp.work ∧
    (NeCond (imm.toNat / 2048) (preg s a).toInt (preg s b).toInt → FpWent s u 2 (imm.toNat % 2048)) ∧
    (¬NeCond (imm.toNat / 2048) (preg s a).toInt (preg s b).toInt → FpWent s u 1 (s.fp.pc + 1))) ∧
  (inListed (imm.toNat % 64) = true → Answers (.fpIn d imm) s fun u => FpWent s u 1 (s.fp.pc + 1) ∧
    FpWrites s u d (mget 0 s.fp.inp (imm.toNat % 64))) ∧
  ((preg s a).toNat < 1024 →
    Answers (.fpQld d a) s (fun u => FpWent s u 2 (s.fp.pc + 1) ∧
      FpWrites s u d (BitVec.ofNat 32 (mget 0 s.fp.qual (preg s a).toNat))) ∧
    Answers (.fpFld d a) s (fun u => FpWent s u 2 (s.fp.pc + 1) ∧ FpWrites s u d (BitVec.ofNat 32 (fsumOf s (preg s a).toNat))) ∧
    Answers (.fpPut a b) s (fun u => FpWent s u 1 (s.fp.pc + 1) ∧ u.fp.p = s.fp.p ∧
      mget 0 u.fp.work (preg s a).toNat = planWord (preg s b).toNat ∧
      ∀ i, i ≠ (preg s a).toNat → mget 0 u.fp.work i = mget 0 s.fp.work i)) ∧
  Answers (.fpPutall b) s (fun u => FpWent s u 64 (s.fp.pc + 1) ∧ u.fp.p = s.fp.p ∧
    ∀ i, i < 1024 → mget 0 u.fp.work i = planWord (preg s b).toNat) ∧
  Answers .fpEnd s (fun u => u = { s with fp := { s.fp with
    run := false, cyc := s.fp.cyc + 1, cycUsed := s.fp.cyc + 1, nextPlan := some s.fp.work, work := [] } }) ∧
  Answers .fpUnlistedOpcode s (fun u => u = { s with fp := { s.fp with
    run := false, work := [], cycUsed := s.fp.cyc, progFault := true, cause := 1, faultPc := s.fp.pc % 2048 } }))

/-- R232, R233: a plan program starts at word 0 with zeroed registers and the plan in effect as its working table; at the deadline a
running program stops, its working table is discarded, and the plan in effect stays. R238, R123, R243: until the sequencer has
looked for the upcoming step's list, the expander's build is offered for that step, marked late where it did not complete in
time, and a later build changes nothing; the sequencer takes a list that is ready for its step, and else an empty one, and the
step counts as late. -/
def Obligations.PlansAndShotLists : Prop :=
  (∀ (s : State) (t : Nat),
  ((advance t s).pw.scanned = true → (advance t s).pw.dp = .scanning → fpNone (advance t s) s.pw.st false = false →
    Answers (.planProgramStart t) s fun u => u = { advance t s with fp := u.fp } ∧ u.fp.run = true ∧ u.fp.pc = 0 ∧ u.fp.cyc = 0 ∧
      (∀ r, preg u r = 0) ∧ u.fp.work = s.fp.plan ∧ u.fp.plan = s.fp.plan) ∧
  (s.fp.run = true → Answers (.planDeadline t) s fun u =>
    u = { advance t s with fp := { s.fp with run := false, work := [], cycUsed := s.fp.cyc, planLate := true } })) ∧
  (∀ (s : State) (t : Nat) (tk : BitVec 64) (inTime : Bool),
  s.pw.dp = .scanning ∨ s.pw.dp = .ready →
  (s.ex.missed = false → s.ex.takenOk = false →
    Answers (.expanderBuild t inTime) s (fun u => u = { advance t s with ex := u.ex, fp := u.fp } ∧
      u.ex.nextStep = upcoming (advance t s) ∧ u.ex.nextReady = inTime ∧ ∃ b, u.fp.pend = some b ∧ b.late = !inTime) ∧
    Answers (.shotListTake t tk) s (fun u => u = { advance t s with ex := u.ex, fp := u.fp } ∧ u.ex.nextReady = false ∧
      (s.ex.nextReady = true → s.ex.nextStep = upcoming (advance t s) →
        u.ex.taken = s.ex.next ∧ u.ex.takenOk = true ∧ u.ex.missed = false ∧ u.fp = s.fp) ∧
      (s.ex.nextReady = false ∨ s.ex.nextStep ≠ upcoming (advance t s) →
        u.ex.taken = [] ∧ u.ex.takenOk = false ∧ u.ex.missed = true ∧ ∃ b, u.fp.pend = some b ∧ b.late = true))) ∧
  (s.ex.missed = true ∨ s.ex.takenOk = true → Answers (.expanderBuild t inTime) s (fun u => u = advance t s) ∧
    Answers (.shotListTake t tk) s (fun u => u = advance t s)))

/-- R255, R256, R257: an echo counts once for each enabled zone with an interval that contains its range, or as a skipped sillage; a
point word with NP marks every zone that its cells name; a record waits while the frame before is not latched. -/
def Obligations.ZoneEvaluation : Prop :=
  ∀ (s : State),
  (∀ x rest, s.ze.q = x :: rest → zeReady s x.frame = true → Answers .echoEvaluate s fun u => Kept u s ∧ u.ze.q = rest ∧
    let v := viewFrame x.frame s
    (x.e.pass = 0 → u.ze.zn = s.ze.zn ∧ u.ze.cnt.pass0 = satAdd 16 s.ze.cnt.pass0 1) ∧
    (x.e.pass ≠ 0 → u.ze.cnt.echoes = satAdd 32 s.ze.cnt.echoes 1 ∧ ∀ z,
      (¬ Hits v x z ∨ znOn v z = false → znGet u z = znGet s z) ∧
      (Hits v x z → znOn v z = true → znSilskip v z = true → x.e.sil = true →
        znGet u z = { znGet s z with silsk := satAdd 16 (znGet s z).silsk 1 }) ∧
      (Hits v x z → znOn v z = true → znSilskip v z = false ∨ x.e.sil = false → (znGet u z).hits = satAdd 32 (znGet s z).hits 1 ∧
        (znGet u z).minr = min (znGet s z).minr x.e.range ∧ (znGet u z).ovt = ((znGet s z).ovt || x.e.ovt) ∧
        (znGet u z).occ = (znGet s z).occ ∧ (znGet u z).h = (znGet s z).h))) ∧
  (∀ x rest, s.ze.qp = x :: rest → zeReady s x.frame = true → Answers .pointWordEvaluate s fun u => Kept u s ∧ u.ze.qp = rest ∧
    (x.np = false → u.ze.zn = s.ze.zn) ∧
    (x.np = true → ∀ z, (Names (viewFrame x.frame s) x.ch x.step z → (znGet u z).np = true) ∧
      (¬ Names (viewFrame x.frame s) x.ch x.step z → znGet u z = znGet s z))) ∧
  (∀ x rest, s.ze.q = x :: rest → zeReady s x.frame = false → Answers .echoEvaluate s fun u => u = s) ∧
  (s.ze.q = [] → Answers .echoEvaluate s fun u => u = s)

/-- R125, R257, R259 to R261, Tables 1.6, 11.4: the latch of a frame takes the outcome of each enabled zone into its history, sets
OCC by K and clears it by none, and posts OCCUPIED, EMPTY, UNVERIFIED or INACTIVE; counters restart; a new map waits for the
latch. -/
def Obligations.ZoneLatch : Prop :=
  ∀ (s : State) (t : Nat),
  (s.ze.latchDue = true → neOwes s s.ze.latchFrame = false → Answers (.zoneFrameLatch t) s fun u => Kept u s ∧ u.ze.latchDue = false ∧
    u.ze.latchOk = true ∧ u.ze.refillAll = false ∧ u.ze.cnt = {} ∧ (∀ x ∈ u.ze.q, x.frame ≠ s.ze.latchFrame) ∧
    ∀ z, z < 1024 → ∃ y, mlook u.ze.lat z = some y ∧
      let v := viewFrame s.ze.latchFrame s
      let st := fld y.word.toNat 12 2
      (znOn v z = false → st = 3) ∧
      (znOn v z = true → y.occ = true → st = 0) ∧
      (znOn v z = true → y.occ = false → st = if y.np = true ∨ y.short = true then 2 else 1) ∧
      (znOn v z = true → s.ze.refillAll = false → 0 < znN v z →
        y.h = decide (znHitmin v z ≤ y.hits) :: (znGet s z).h.take (znN v z - 1) ∧
        (znK v z ≤ (y.h.filter id).length → y.occ = true) ∧
        ((y.h.filter id).length < znK v z → (y.h.filter id).length = 0 → y.occ = false) ∧
        ((y.h.filter id).length < znK v z → (y.h.filter id).length ≠ 0 → y.occ = (znGet s z).occ)) ∧
      (y.refillPost = false → (znGet u z).h = y.h ∧ (znGet u z).occ = y.occ ∧ (znGet u z).hits = 0 ∧ (znGet u z).np = false)) ∧
  (s.ze.latchDue = false ∨ neOwes s s.ze.latchFrame = true → Answers (.zoneFrameLatch t) s fun u => u = advance t s) ∧
  (s.ze.latchDue = false → Answers (.mapExpansionDone t) s fun u =>
    u = { advance t s with ze := { s.ze with expanding := false } }) ∧
  (s.ze.latchDue = true → Answers (.mapExpansionDone t) s fun u => u = advance t s)

/-- R34 to R39, R86, Table 1.7: the mailbox goes to both channels in equal copies, once for each latch; a copy with a good check
value, a newer frame and in time is the channel's view, with the zones of another epoch set apart; any other is counted and
changes no view. R38, R287: 3 ms after a boundary without a mailbox of its frame, the channel holds every zone UNKNOWN and
demands follow; a second boundary at which the channels' frames differ latches CROSS; a deadline is judged once, and no switch
closes. -/
def Obligations.Mailboxes : Prop :=
  (∀ (s : State) (t : Nat) (c : Chan) (m : Mbox),
  (s.ze.latchOk = true → dpOn s = true → Answers (.mailboxPost t) s fun u => Kept u s ∧ u.ze.latchOk = false ∧
    ∃ m, u.ze.mboxA = some m ∧ u.ze.mboxB = some m ∧ m.frame = s.ze.latchFrame ∧ m.boundary = s.ze.latchAt ∧
      m.crc = BitVec.ofNat 32 (crc32c (mboxBytes s.ze.latchFrame.toNat m.words))) ∧
  (s.ze.latchOk = false → s.pw.dp ≠ .stopped → Answers (.mailboxPost t) s fun u => u = advance t s) ∧
  (s.sys.oper = true → mboxOf s c = some m → ∀ b, (getC s c).lastBnd = some b →
    ((getC s c).mbGot = true → 0 < (m.frame - (getC s c).mbFrame).toInt) → (getC s c).lastBndFrame = m.frame →
    (advance t s).sys.now ≤ b + 3 * msNs → Answers (.mailboxReceive t c true) s fun u => NoneCloses u s ∧ mboxOf u c = none ∧
      getC u (otherC c) = getC s (otherC c) ∧ (getC u c).mbGot = true ∧ (getC u c).mbFrame = m.frame ∧ (getC u c).mbWords = m.words ∧
      (getC u c).zunk = false ∧ (getC u c).zdisc = epochDiscards s m ∧
      (∀ p, p < 4 → sqFunc s p ≠ 0 → demandNow u c p = true → bget (getC u c).sw p = false)) ∧
  (s.sys.oper = true → mboxOf s c = some m → Answers (.mailboxReceive t c false) s fun u => CopyRejected c s u ∧
    (getC u c).crcFail = satAdd 8 (getC s c).crcFail 1) ∧
  (s.sys.oper = true → mboxOf s c = some m → (getC s c).mbGot = true → (m.frame - (getC s c).mbFrame).toInt ≤ 0 →
    Answers (.mailboxReceive t c true) s fun u => CopyRejected c s u ∧ (getC u c).staleN = satAdd 8 (getC s c).staleN 1) ∧
  (s.sys.oper = true → mboxOf s c = some m → ((getC s c).mbGot = true → 0 < (m.frame - (getC s c).mbFrame).toInt) →
    (∀ b, (getC s c).lastBnd = some b → (getC s c).lastBndFrame ≠ m.frame ∨ b + 3 * msNs < (advance t s).sys.now) →
    Answers (.mailboxReceive t c true) s fun u => CopyRejected c s u ∧ (getC u c).lateN = satAdd 8 (getC s c).lateN 1)) ∧
  (∀ (s : State) (t b : Nat) (c : Chan), s.sys.oper = true → (getC s c).lastBnd = some b →
  (b + 3 * msNs ≤ (advance t s).sys.now → (getC s c).dlDone = false → mboxInTime (getC s c) = false →
    Answers (.mailboxDeadline t c) s fun u => NoneCloses u s ∧ getC u (otherC c) = getC s (otherC c) ∧ (getC u c).zunk = true ∧
      (getC u c).unknownN = satAdd 8 (getC s c).unknownN 1 ∧ (getC u c).dlDone = true ∧
      (∀ p, p < 4 → sqFunc s p ≠ 0 → demandNow u c p = true → bget (getC u c).sw p = false) ∧
      (∀ g, (getC s c).xIn = some g → g.got ≠ (getC s c).mbGot ∨ g.frame ≠ (getC s c).mbFrame → 1 ≤ (getC s c).xFrameDiff →
        FaultLatched c fltCross s u)) ∧
  (b + 3 * msNs ≤ (advance t s).sys.now → (getC s c).dlDone = false → mboxInTime (getC s c) = true →
    Answers (.mailboxDeadline t c) s fun u => NoneCloses u s ∧ (getC u c).zunk = (getC s c).zunk ∧ (getC u c).dlDone = true ∧
      ∀ g, (getC s c).xIn = some g → g.got = (getC s c).mbGot → g.frame = (getC s c).mbFrame → (getC u c).xFrameDiff = 0 ∧ Kept u s) ∧
  ((advance t s).sys.now < b + 3 * msNs ∨ (getC s c).dlDone = true → Answers (.mailboxDeadline t c) s fun u => u = advance t s))

/-- R288, R290: a terminal is ACTIVE above V_ON, and terminal B of an antivalent pair below V_OFF; its filtered reading follows
after T_FILT agreeing samples, and at once returns to its run of 0 where a sample agrees with it; sampling touches no switch and
no latch. R291, R294, R309, R311: an evaluation makes a pair ACTIVE only with both filtered readings ACTIVE and no fault,
latches a disagreement of T_DISC + 1 ms, opens the channel's switch on every pair with an immediate demand, and closes none. -/
def Obligations.SafeInputs : Prop :=
  (∀ (s : State) (t : Nat) (c : Chan) (lv : SinLevels), s.sys.oper = true →
  Answers (.sinSample t c lv) s fun u => Kept u s ∧ getC u (otherC c) = getC s (otherC c) ∧ ∀ i, i < 8 →
    let x := prGet (getC s c) i
    let y := prGet (getC u c) i
    let r := termReads s i false lv
    let q := termReads s i true lv
    (r = true ↔ 11000 < lv.mv.getD (2 * i) 0) ∧ (sinMode s i = 1 → (q = true ↔ lv.mv.getD (2 * i + 1) 0 < 5000)) ∧
    (sinMode s i ≠ 1 → (q = true ↔ 11000 < lv.mv.getD (2 * i + 1) 0)) ∧
    y.active = x.active ∧ y.disc = x.disc ∧ y.timer = x.timer ∧
    (q = x.fB → y.fB = x.fB ∧ y.runB = 0) ∧
    (q ≠ x.fB → x.runB + 1 < tFilt s i → y.fB = x.fB ∧ y.runB = x.runB + 1) ∧
    (q ≠ x.fB → tFilt s i ≤ x.runB + 1 → y.fB = q ∧ y.runB = 0) ∧
    (r = x.fA → y.fA = x.fA ∧ y.runA = 0) ∧
    (r ≠ x.fA → x.runA + 1 < tFilt s i → y.fA = x.fA ∧ y.runA = x.runA + 1) ∧
    (r ≠ x.fA → tFilt s i ≤ x.runA + 1 → y.fA = r ∧ y.runA = 0)) ∧
  (∀ (s : State) (t : Nat) (c : Chan), s.sys.oper = true →
  Answers (.pairEvaluate t c) s fun u => NoneCloses u s ∧ OtherKept c s u ∧
    (∀ i, i < 8 → (prGet (getC u c) i).active = true → (prGet (getC s c) i).fA = true ∧ (prGet (getC s c) i).fB = true ∧
      (prGet (getC s c) i).disc = false ∧ sinRole s i ≠ 0) ∧
    (∀ i t0, i < 8 → (prGet (getC s c) i).timer = some t0 → (prGet (getC s c) i).fA ≠ (prGet (getC s c) i).fB →
      (prGet (getC s c) i).disc = false → sinRole s i ≠ 0 → t0 + tDisc s i + msNs ≤ (advance t s).sys.now →
      FaultLatched c fltDisc s u ∧ (prGet (getC u c) i).disc = true) ∧
    (∀ p, p < 4 → sqFunc s p ≠ 0 → demandNow u c p = true → bget (getC u c).sw p = false))

/-- R287, R294, R321, Table 13.5, Table 14.3: a discrepancy timer beyond its band, a cross word that is missing for 3 ms, and a
reset input that is HIGH for too long latch their faults in the channel. R287: a cross word carries the channel's view to the
other; a valid one restarts the timer and hands over discrepancy faults; 20 words in a row with a different pair state latch
CROSS; no switch closes. -/
def Obligations.ChannelTimeoutsAndCrossWords : Prop :=
  (∀ (s : State) (t : Nat) (c : Chan) (n : Fin 8), s.sys.oper = true →
  let now := (advance t s).sys.now
  (∀ t0, (prGet (getC s c) n).timer = some t0 → (prGet (getC s c) n).disc = false → sinRole s n ≠ 0 → t0 + tDisc s n + msNs ≤ now →
    Answers (.discrepancyTimeout t c n) s fun u => FaultLatched c fltDisc s u ∧ (prGet (getC u c) n).disc = true) ∧
  (∀ t0, (prGet (getC s c) n).timer = some t0 → now - t0 + msNs ≤ tDisc s n →
    Answers (.discrepancyTimeout t c n) s fun u => u = advance t s) ∧
  ((getC s c).xAt + 3 * msNs ≤ now → Answers (.crossWordTimeout t c) s (FaultLatched c fltCross s)) ∧
  (∀ h, (getC s c).rstHigh = some h → h + 3001 * msNs ≤ now → Answers (.resetJamTimeout t c) s (FaultLatched c fltJammed s))) ∧
  (∀ (s : State) (t : Nat) (c : Chan) (w : Cross), s.sys.oper = true →
  Answers (.crossWordSend t .a) s (fun u => u = { advance t s with out := { s.out with xB := some (crossOf s .a) } }) ∧
  Answers (.crossWordSend t .b) s (fun u => u = { advance t s with out := { s.out with xA := some (crossOf s .b) } }) ∧
  ((match c with | .a => s.out.xA | .b => s.out.xB) = some w → Answers (.crossWordReceive t c true) s fun u => NoneCloses u s ∧
    OtherKept c s u ∧ (getC u c).xAt = (advance t s).sys.now ∧ (getC u c).xIn = some w ∧
    (∀ i, i < 8 → bget w.disc i = true → sinRole s i ≠ 0 → (prGet (getC s c) i).disc = false → FaultLatched c fltDisc s u ∧
      (prGet (getC u c) i).disc = true) ∧
    (∀ i, i < 8 → sinRole s i ≠ 0 → (prGet (getC s c) i).active ≠ bget w.pairs i → 19 ≤ mget 0 (getC s c).xDiff i →
      FaultLatched c fltCross s u)) ∧
  Answers (.crossWordReceive t .a false) s (fun u => u.safA = s.safA ∧ u.safB = s.safB ∧ (resGet u 0x4C0000).fresh = true) ∧
  Answers (.crossWordReceive t .b false) s (fun u => u = { advance t s with out := { s.out with xB := none } }))

/-- R312 to R315: a readback that stays on for 1 ms with the pair open latches READBACK; test pulses start on due pairs that are on,
one at a time, alternate between the channels, and judge the readback at their end; a discarded one is not judged. -/
def Obligations.ReadbackAndTestPulses : Prop :=
  ∀ (s : State) (t : Nat) (c : Chan) (mv : List Int) (p : Fin 4) (a b : Int),
  let A := advance t s
  (s.sys.oper = true → Answers (.readbackSample t c mv) s fun u => NoneCloses u s ∧ OtherKept c s u ∧
    (c = .a → ∀ p, p < 4 → bget u.out.on p = decide (5000 < mv.getD p 0)) ∧
    (∀ p t0, p < 4 → 5000 < mv.getD p 0 → (swClosed s .a p && swClosed s .b p) = false → lastOpened s p + msNs < A.sys.now →
      sqFunc s p ≠ 0 → mlook (getC s c).rbOnSince p = some t0 → t0 + msNs ≤ A.sys.now → FaultLatched c fltReadback s u)) ∧
  (∀ d, (tpGet s p).due = some d → d ≤ A.sys.now → pairOn s p = true → tpBlocked s p = false → tpBusy s = false →
    s.out.lastEnd ≤ d ∨ s.out.lastEnd + 20000 ≤ A.sys.now → Answers (.testPulseStart t p) s fun u => SwitchesKept s u ∧
      (tpGet u p).by_ = some (if (tpGet s p).num % 2 = 1 then Chan.a else Chan.b) ∧ (tpGet u p).start = A.sys.now ∧
      (tpGet u p).due = some (A.sys.now + tpPeriod s p) ∧ ∀ k, k ≠ p.val → tpGet u k = tpGet s k) ∧
  (∀ x, (tpGet s p).by_ = some x → (tpGet s p).start + tpWidth s p ≤ A.sys.now → Answers (.testPulseEnd t p a b) s fun u => (tpGet u p).by_ = none ∧
    (tpGet u p).num = (tpGet s p).num + 1 ∧ u.out.lastEnd = A.sys.now ∧ NoneCloses u s ∧
    ((tpGet s p).dropped = true → SwitchesKept s u ∧ u.out.tests = s.out.tests) ∧
    ((tpGet s p).dropped = false → u.out.tests = satAdd 16 s.out.tests 1 ∧
      (5000 < a → u.safA.sw = 0 ∧ bget u.safA.latch fltReadback = true) ∧
      (5000 < b → u.safB.sw = 0 ∧ bget u.safB.latch fltReadback = true) ∧ (a ≤ 5000 → b ≤ 5000 → SwitchesKept s u)))

/-- R299, R316 to R319: an encoder's legal step moves its count by one, an illegal one of a monitor in use latches DRIVE; a ramp
whose speed is beyond the envelope, or that has stood still for its time, ends in STO with the monitor's switches open. -/
def Obligations.DriveMonitors : Prop :=
  ∀ (s : State) (t : Nat) (c : Chan) (m : Fin 2) (ab old : BitVec 2), s.sys.oper = true →
  (dmGet (getC s c) m).ab1 = some old →
  (∀ k, quadStep old ab = some k → Answers (.encoderEdge t c m 0 ab) s fun u => SwitchesKept s u ∧
    (dmGet (getC u c) m).ab1 = some ab ∧ (dmGet (getC u c) m).c1 = (dmGet (getC s c) m).c1 + k ∧
    (dmGet (getC u c) m).c2 = (dmGet (getC s c) m).c2 ∧ -1 ≤ k ∧ k ≤ 1) ∧
  (quadStep old ab = none → dmUsed s m = true → Answers (.encoderEdge t c m 0 ab) s fun u => FaultLatched c fltDrive s u ∧
    (dmGet (getC u c) m).ab1 = some ab ∧ (dmGet (getC u c) m).latched = true) ∧
  Answers (.driveSpeedCompute t c) s (fun u => NoneCloses u s ∧ OtherKept c s u ∧
    ∀ d, d < 2 → dmUsed s d = true → (dmGet (getC s c) d).st = 2 →
      (dmGet (getC s c) d).ts + cfgN s 0x4400 (0x3E + d) * msNs ≤ (advance t s).sys.now →
      (dmGet (getC u c) d).st = 3 ∧ ∀ p, p < 4 → sqFunc s p = 2 → sqDm s p = d → bget (getC u c).sw p = false)

/-- R321, R322, Table 14.3: the falling edge of a pulse of 101 ms to 2.999 s acts: a DIRECT pair in RESTART_WAIT without a demand or
a fault closes the channel's switch; a shorter pulse is ignored, a longer one is RESET_JAMMED; in every case only the channel's
own switches close. -/
def Obligations.RestartEdge : Prop :=
  ∀ (s : State) (t : Nat) (c : Chan) (h : Nat), s.sys.oper = true → (getC s c).rstHigh = some h →
  let A := advance t s
  let d := A.sys.now - h
  (d ≤ 99 * msNs → Answers (.resetFallingEdge t c) s fun u => SwitchesKept s u ∧ (getC u c).rstHigh = none ∧
    getC u (otherC c) = getC s (otherC c)) ∧
  (3001 * msNs ≤ d → Answers (.resetFallingEdge t c) s (FaultLatched c fltJammed s)) ∧
  (101 * msNs ≤ d → d ≤ 2999 * msNs → Answers (.resetFallingEdge t c) s fun u =>
    (getC u (otherC c)).sw = (getC s (otherC c)).sw ∧ (getC u (otherC c)).latch = (getC s (otherC c)).latch ∧
    (getC u c).rstHigh = none ∧ (∀ p, p < 4 → bget (getC s c).sw p = true → bget (getC u c).sw p = true) ∧
    (∀ p, p < 4 → bget (getC u c).sw p = true → bget (getC s c).sw p = false →
      (getC u c).latch = 0 ∧ sqFunc s p ≠ 0 ∧ s.sup.holdReady = true ∧ s.sup.vstate ≠ 2 ∧ s.cf.safety = true ∧ s.cf.defaults = false) ∧
    (∀ b, b < 16 → bget (getC s c).latch b = false → bget (getC u c).latch b = false) ∧
    ((getC s c).latch = 0 → (∀ i, i < 8 → (prGet (getC s c) i).disc = false) → s.pw.st ≠ 1 → s.pw.st ≠ 2 → s.sup.vstate ≠ 2 →
      ∀ p, p < 4 → sqFunc s p = 1 → bget (s.safA.rwait ||| s.safB.rwait) p = true → demandNow A c p = false →
        demandSs1 A c p = false → bget (getC u c).sw p = true))

/-- R45 to R47, R62, R104, R332, Table 1.9, Table 15.2: COMMIT_GO and its outcomes, in the order of the checks. Which status a set
without rw-s objects gets that breaks a consistency rule is a free value of 2 to 8 (assumption 107). R102, R332, R333, Table
15.2: the two channels' verdict on a safety set, the deadline, and the writing of both copies. R46 to R48: at the boundary that
it names, a commit that is ready takes effect as a whole, and one that is not ready fails; at every other boundary the
configuration in effect stays. -/
def Obligations.CommitsTakeEffect : Prop :=
  (∀ (s : State) (t : Nat) (p : Path), s.sys.mgmtUp = true → s.sup.vstate ≠ 2 →
  let q := commitNow s
  let A := Answers (.commitGo t p) s
  (stagedSafety s = true → sessionOn s p = false → A fun u => u.cf = s.cf ∧ RespondedTo p 0x1100 0x14 1 0x0611 s u) ∧
  (stagedSafety s = false ∨ sessionOn s p = true →
    (s.sup.holdReady = false → A fun u => u.cf = s.cf ∧ RespondedTo p 0x1100 0x14 1 0x0640 s u) ∧
    (s.sup.holdReady = true → stagedMaskZero s = true → A fun u => u.cf = s.cf ∧ RespondedTo p 0x1100 0x14 1 0x0620 s u) ∧
    (s.sup.holdReady = true → stagedMaskZero s = false →
      (stagedCrc s ≠ liveN s 0x1100 0x10 → A (CommitPosted p 2 s.cf.pend s)) ∧
      (stagedCrc s = liveN s 0x1100 0x10 → boundaryPast q.mode q.frame q.time s = true → A (CommitPosted p 3 s.cf.pend s)) ∧
      (stagedCrc s = liveN s 0x1100 0x10 → boundaryPast q.mode q.frame q.time s = false →
        (s.cf.pend ≠ none → A (CommitPosted p 8 s.cf.pend s)) ∧
        (s.cf.pend = none →
          (q.safety = true → 512 ≤ s.sess.log.length → A (CommitPosted p 7 none s)) ∧
          (q.safety = true → s.sess.log.length < 512 → A (CommitPosted p 1 (some q) s)) ∧
          (q.safety = false → setConsistent q s = false → A fun u => ∃ st, 2 ≤ st ∧ st ≤ 8 ∧ CommitPosted p st none s u) ∧
          (q.safety = false → setConsistent q s = true → timeLeft q (advance t s) = false → A (CommitPosted p 4 none s)) ∧
          (q.safety = false → setConsistent q s = true → timeLeft q (advance t s) = true →
            A (CommitPosted p 1 (some { q with writeAt := some (advance t s).sys.now }) s))))))) ∧
  (∀ (s : State) (t : Nat) (a b : Bool) (p : Pend), s.cf.pend = some p →
  let va := verifyCause s p .a a
  let vb := verifyCause s p .b b
  let failed := fun (st : Nat) (u : State) => u.cf.pend = none ∧ u.cf.status = st ∧ u.cf.eff = s.cf.eff ∧ u.sess.log = s.sess.log
  (p.safety = true → p.verified = false →
    (timeLeft p (advance t s) = false → Answers (.commitVerifyDone t a b) s (failed 4)) ∧
    (timeLeft p (advance t s) = true →
      (va ≠ 0 → Answers (.commitVerifyDone t a b) s fun u => failed 5 u ∧ u.cf.verify = va + 256 * vb) ∧
      (va = 0 → vb ≠ 0 → Answers (.commitVerifyDone t a b) s fun u => failed 6 u ∧ u.cf.verify = 256 * vb) ∧
      (va = 0 → vb = 0 → s.sess.log.length < 512 → Answers (.commitVerifyDone t a b) s fun u =>
      u.cf.pend = some { p with verified := true, writeAt := some (advance t s).sys.now } ∧ u.cf.eff = s.cf.eff ∧
      ∃ e, u.sess.log = s.sess.log ++ [e] ∧ e.kind = 1 ∧ e.user = p.user ∧ e.time = (advance t s).sys.sysTime)) ∧
    (deadlineCome p (advance t s) = true → Answers (.commitDeadline t) s (failed 4))) ∧
  (p.written = false → p.safety = false ∨ p.verified = true → Answers (.configCopiesWritten t) s fun u =>
    u.cf.copyA = u.cf.copyB ∧ u.cf.copyA.count = satAdd 32 s.cf.count 1 ∧ u.cf.copyA.objs = afterCommit s.cf.eff p.set ∧
    u.cf.copyA.map = mapAfter p.map s ∧ u.cf.eff = s.cf.eff ∧ u.cf.pend = some { p with written := true })) ∧
  (∀ (s : State) (t : Nat) (p : Pend), s.sys.powered = true → s.sys.ctrlUp = true →
  s.pw.st ≠ 2 → s.pw.dp ≠ .scanning → s.pw.lastB + framePeriod s ≤ (advance t s).sys.now → s.cf.pend = some p →
  let named := commitNamed p s.pw.frameNo (advance t s).sys.sysTime
  (named = true → commitReady p = true → Answers (.nominalBoundary t) s fun u => u.cf.pend = none ∧ u.cf.status = 0 ∧
    u.cf.eff = afterCommit s.cf.eff p.set ∧ u.cf.map = mapAfter p.map s ∧ u.cf.count = satAdd 32 s.cf.count 1 ∧
    u.cf.safety = (s.cf.safety || p.safety) ∧ u.cf.defaults = false ∧ u.cf.effPrev = s.cf.eff) ∧
  (named = true → commitReady p = false → Answers (.nominalBoundary t) s fun u => u.cf.pend = none ∧ u.cf.status = 4 ∧
    u.cf.eff = s.cf.eff ∧ u.cf.map = s.cf.map ∧ u.cf.count = s.cf.count) ∧
  (named = false → Answers (.nominalBoundary t) s fun u => u.cf.pend = some p ∧ u.cf.eff = s.cf.eff ∧ u.cf.map = s.cf.map ∧
    u.cf.count = s.cf.count))

/-- R327 to R330, Table 15.1: SESSION_OPEN with the passphrase of its slot opens the one session; a wrong one is counted, and the
fifth in a row locks for 600 s; SESSION_CLOSE on its path and the idle time end it, which discards staged safety values. R329,
R331: PASS_SET stores the hash of a passphrase with a new salt, or empties a slot, and is logged; the lockout's end, and its
remainder in MRAM. -/
def Obligations.SessionsAndPassphrases : Prop :=
  (∀ (s : State) (t : Nat) (p : Path) (d : List Byte), s.sys.mgmtUp = true → s.sup.vstate ≠ 2 →
  let A := advance t s
  let n := leAt d 0 1
  let form := 2 ≤ d.length ∧ d.length ≤ 34 ∧ passLenOk d 1 = true ∧ passRange d 1 = true ∧ passChars (passAt d 1) = true ∧ 1 ≤ n ∧ n ≤ 4
  let ended := fun (u : State) => u.sess.user = 0 ∧ (s.cf.pend = none → (∀ e ∈ u.cf.staged, isSafetyKey e.1 = false) ∧
    (∀ e ∈ s.cf.staged, isSafetyKey e.1 = false → e ∈ u.cf.staged) ∧ u.cf.mapStage = none) ∧ u.cf.eff = s.cf.eff
  (form → s.sup.holdReady = true → lockOn A = false → s.sess.user = 0 →
    (passMatches s n (passAt d 1) = true → Answers (.sessionOpen t p d) s fun u => u.sess.user = n ∧ u.sess.path = p ∧
      u.sess.fails = 0 ∧ u.sess.lastAct = A.sys.now ∧ RespondedTo p 0x4000 0x30 d.length 0 s u ∧ Kept u s) ∧
    (passMatches s n (passAt d 1) = false → Answers (.sessionOpen t p d) s fun u => u.sess.user = 0 ∧
      u.sess.fails = (lockExpire A).sess.fails + 1 ∧ RespondedTo p 0x4000 0x30 d.length 0x0610 s u ∧
      (4 ≤ (lockExpire A).sess.fails → u.sess.lockLeft = 600 * secNs ∧ lockOn u = true))) ∧
  (sessionOn s p = true → Answers (.sessionClose t p) s fun u => ended u ∧ RespondedTo p 0x4000 0x31 1 0 s u) ∧
  (sessionOn s p = false → Answers (.sessionClose t p) s fun u => u.sess = s.sess ∧ u.cf = s.cf ∧ RespondedTo p 0x4000 0x31 1 0x0611 s u) ∧
  (s.sess.user ≠ 0 → s.sess.lastAct + cfgN s 0x4000 0x33 * secNs ≤ A.sys.now → Answers (.sessionIdleExpiry t) s ended)) ∧
  (∀ (s : State) (t : Nat) (p : Path) (d : List Byte),
  let n := leAt d 0 1
  (s.sys.mgmtUp = true → s.sup.vstate ≠ 2 → s.sess.log.length < 512 →
    (if s.sess.slots = [] then n = 1 else sessionOn s p = true) → 2 ≤ d.length → d.length ≤ 34 → passLenOk d 1 = true →
    s.sup.holdReady = true → 1 ≤ n → n ≤ 4 → passChars (passAt d 1) = true →
    (leAt d 1 1 ≠ 0 → passRange d 1 = true → Answers (.passSet t p d) s fun u => RespondedTo p 0x4000 0x34 d.length 0 s u ∧
      (∃ salt, mlook u.sess.slots n = some (salt, passHash salt (passAt d 1)) ∧ salt.length = 16) ∧
      (∃ e, u.sess.log = s.sess.log ++ [e] ∧ e.kind = 2) ∧ u.cf = s.cf) ∧
    (leAt d 1 1 = 0 → s.sess.slots.map (·.1) ≠ [n] → Answers (.passSet t p d) s fun u => RespondedTo p 0x4000 0x34 d.length 0 s u ∧
      mlook u.sess.slots n = none ∧ ∃ e, u.sess.log = s.sess.log ++ [e] ∧ e.kind = 2)) ∧
  (s.sys.powered = true → s.sess.lockLeft ≠ 0 → lockOn (advance t s) = false → Answers (.lockoutExpiry t) s fun u =>
    u = { advance t s with sess := { s.sess with fails := 0, lockLeft := 0, lockMram := 0 } }) ∧
  (s.sys.mgmtUp = true → lockOn (advance t s) = true → Answers (.lockoutSave t) s fun u =>
    u = { advance t s with sess := { s.sess with lockMram := lockLeft (advance t s) } }))

/-- R335 to R338: LOG_CLEAR with the count and the check value of the log empties it but for its own entry; a full-chip erase opens
every switch, unlocks and empties the governor, leaves no rw-s value in either copy, and resets the device. -/
def Obligations.LogClearAndErase : Prop :=
  ∀ (s : State) (t : Nat) (p : Path) (d : List Byte),
  s.sys.mgmtUp = true → s.sup.vstate ≠ 2 → sessionOn s p = true → s.sup.holdReady = true →
  (PassGood (advance t s) s.sess.user 8 d → s.cf.pend = none → leAt d 0 4 = s.sess.log.length → leAt d 4 4 = logCrc s →
    Answers (.logClear t p d) s fun u => RespondedTo p 0x4800 6 d.length 0 s u ∧ u.sess.clears = satAdd 32 s.sess.clears 1 ∧
      (∃ e, u.sess.log = [e] ∧ e.kind = 5 ∧ e.user = s.sess.user) ∧ u.cf = s.cf ∧ u.gov = s.gov) ∧
  (PassGood (advance t s) s.sess.user 2 d → s.sess.log.length < 512 → leAt d 0 2 = 0xE7A5 →
    Answers (.safetyErase t p d) s fun u => u.sys.cause = 3 ∧ u.sys.planes = 7 ∧ AllOpen u ∧ u.sys.oper = false ∧ u.sess.user = 0 ∧
      (u.gov.locked = false ∧ u.gov.limb = [] ∧ u.gov.lim5 = [] ∧ u.gov.lim100 = [] ∧ u.gov.copyA = none ∧ u.gov.copyB = none) ∧
      (u.cf.safety = false ∧ u.cf.copyA = u.cf.copyB ∧ u.cf.copyA.map = {} ∧ ∀ e ∈ u.cf.copyA.objs, isSafetyKey e.1 = false) ∧
      ∃ e, u.sess.log = s.sess.log ++ [e] ∧ e.kind = 4)

/-- R253, R264 to R266: MAP_FILL stages a rectangle of cells, MAP_CLEAR an empty map, MAP_REVERT discards what is staged; without a
session on the path they are refused, and the map in effect stays. R74: what has been received is staged in MRAM, oldest first,
and acknowledged in that order. -/
def Obligations.MapAndMramStaging : Prop :=
  (∀ (s : State) (t : Nat) (p : Path) (d : List Byte), s.sys.mgmtUp = true → s.sup.vstate ≠ 2 →
  let c0 := leAt d 0 2
  let c1 := leAt d 2 2
  let k0 := leAt d 4 2
  let k1 := leAt d 6 2
  let w := leAt d 8 8
  let m0 := mapStageNow s
  let m : ZMap := { m0 with cells := (List.range' c0 (c1 + 1 - c0)).foldl (fun m ch => mfill (1800 * ch + k0) (1800 * ch + k1) w m) m0.cells }
  (mapPending s = false →
    (sessionOn s p = true → d.length = 16 → c0 ≤ c1 → c1 ≤ 191 → k0 ≤ k1 → k1 ≤ 1799 → cellOk s.sys.variant c1 w = true →
      mapSize m ≤ 163840 → Answers (.mapFill t p d) s fun u => RespondedTo p 0x3400 0x14 16 0 s u ∧ u.cf.map = s.cf.map ∧
        ∃ z, u.cf.mapStage = some z ∧ z.pool = m0.pool ∧ ∀ ch k, k < 1800 → mget 0 z.cells (1800 * ch + k) =
          if c0 ≤ ch ∧ ch ≤ c1 ∧ k0 ≤ k ∧ k ≤ k1 then w else mget 0 m0.cells (1800 * ch + k)) ∧
    (sessionOn s p = true → Answers (.mapClear t p) s fun u => RespondedTo p 0x3400 0x15 1 0 s u ∧
      u.cf = { s.cf with mapStage := some {} }) ∧
    Answers (.mapRevert t p) s (fun u => RespondedTo p 0x3400 0x16 1 0 s u ∧ u.cf = { s.cf with mapStage := none })) ∧
  (sessionOn s p = false → Answers (.mapFill t p d) s (fun u => u.cf = s.cf ∧ RespondedTo p 0x3400 0x14 d.length 0x0611 s u) ∧
    Answers (.mapClear t p) s (fun u => u.cf = s.cf ∧ RespondedTo p 0x3400 0x15 1 0x0611 s u))) ∧
  (∀ (s : State) (t : Nat), s.sys.mgmtUp = true → s.sup.vstate ≠ 2 → s.sup.holdReady = true →
  Answers (.mramStage t) s fun u => Kept u s ∧ u.cf = { s.cf with unacked := [], staged := stagedSoon s } ∧
    u.dc.rsps = s.dc.rsps ++ s.cf.unacked.map fun e => (e.1, stageAck e.2))

/-- R346 to R350, R358, Table 16.2: a delivered sample carries the range of its conversion, status and clipped data, and 0 while
OPEN; four samples above 90 % of full scale lower the gain, 32 below 20 % raise it; three samples in a row beyond the threshold
fire the onset detector and freeze it. -/
def Obligations.TrackSamples : Prop :=
  ∀ (s : State) (t : Nat) (n : Fin 16) (raw : Int), tfActive (advance t s) n = true →
  Answers (.tfSampleDeliver t n raw) s fun u =>
    let A := advance t s
    let x := tfGet s n
    let y := tfGet u n
    let i := 0x5000 + n.val
    let st := tfStatus A n A.sys.now
    let data := if st = 3 then 0 else clampI (-524288) 524287 raw
    let g := if A.sys.now - 120000 < x.gainFrom then x.gainOld else x.gain
    let uv := data * rangeFs g / 8
    OnlyTf n s u ∧ smpRange y.sample = g % 4 ∧ smpStatus y.sample = st ∧ smpData y.sample = data ∧ y.lastAt = A.sys.now ∧
    (st = 0 → cfgF s i 5 = true → 471858 < data.natAbs → x.hiRun = 3 → 0 < x.gain → y.gain = x.gain - 1) ∧
    (st = 0 → cfgF s i 5 = true → data.natAbs < 104858 → x.loRun = 31 → x.gain < 3 → y.gain = x.gain + 1) ∧
    (st ≠ 0 ∨ cfgF s i 5 = false → y.gain = x.gain) ∧
    (st = 0 → cfgF s i 0xB = true → x.baseGot = true → x.frozen = false → 2 ≤ x.onRun →
      cfgN s i 0xC * 65536 < (uv - x.basel).natAbs → y.fired = true ∧ y.frozen = true) ∧
    (x.frozen = true → y.basel = x.basel ∨ x.baseGot = false)

/-- R351, R357, R358: re-arming after 100 ms of quiet, the end of a drydown and of a blank, each kept until no sample to come can
overlap it, and the end of OPEN with the drydown that follows where the channel is excited. R353, R354, R356, R368: the blank
pin starts a blank and at its release keeps the masked channels blanked for BLANK_EXT; a soft blank begins with the first
conversion after the transfer; an open wire makes the channel OPEN and its heads FAULTY. R360, Table 16.5: a capture arms only
from rest, completes with 2,048 samples in order of delivery; writing ones to TF_ONSET clears FIRED. -/
def Obligations.TrackTimersBlanksAndCapture : Prop :=
  (∀ (s : State) (t : Nat) (n : Fin 16) (f : Nat),
  let A := advance t s
  let x := tfGet s n
  (x.frozen = true → x.quietSince = some f → f + 100 * msNs ≤ A.sys.now → Answers (.tfOnsetRearm t n) s fun u =>
    OnlyTf n s u ∧ tfGet u n = { x with frozen := false, quietSince := none, onRun := 0 }) ∧
  (x.quietSince = some f → A.sys.now < f + 100 * msNs → Answers (.tfOnsetRearm t n) s fun u => u = A) ∧
  Answers (.tfDrydownEnd t n) s (fun u => OnlyTf n s u ∧
    tfGet u n = { x with dry := x.dry.filter fun f => decide (A.sys.now < f + 1320000) }) ∧
  Answers (.tfBlankEnd t n) s (fun u => OnlyTf n s u ∧
    tfGet u n = { x with blankIv := x.blankIv.filter fun e => decide (A.sys.now < e.2 + 120000) }) ∧
  (x.open_ = true → x.openRx = false → x.openEx = false → x.openClear + 100 * msNs ≤ A.sys.now → Answers (.tfOpenEnd t n) s fun u =>
    OnlyTf n s u ∧ (tfGet u n).open_ = false ∧ (tfGet u n).openUntil = A.sys.now ∧ u.ax = s.ax ∧
    (tfActive A n = false → tfGet u n = { x with open_ := false, openUntil := A.sys.now }) ∧
    (tfActive A n = true → A.sys.now ∈ (tfGet u n).dry ∧ (tfGet u n).settles = satAdd 8 x.settles 1 ∧
      (0 < cfgN s (0x5000 + n.val) 9 → (A.sys.now, A.sys.now + cfgN s (0x5000 + n.val) 9 * 1000) ∈ (tfGet u n).blankIv))) ∧
  (A.sys.now < x.openClear + 100 * msNs → Answers (.tfOpenEnd t n) s fun u => u = A)) ∧
  (∀ (s : State) (t : Nat) (n : Fin 16) (high : Bool) (w : Word),
  tfRuns (advance t s) = true →
  let A := advance t s
  (s.tf.pin = cfgF s 0x5000 0x20 → high ≠ s.tf.pin → Answers (.tfblankPinChange t high) s fun u => Kept u s ∧
    u.tf.pin = high ∧ u.tf.pinRel = s.tf.pinRel ∧ ∀ m, m < 16 →
      (cfgF s (0x5000 + m) 7 = false → (tfGet s m).pinFrom = none → tfGet u m = tfGet s m) ∧
      (cfgF s (0x5000 + m) 7 = true → (tfGet s m).pinFrom = none → tfGet u m = { tfGet s m with pinFrom := some A.sys.now })) ∧
  (s.tf.pin ≠ cfgF s 0x5000 0x20 → high ≠ s.tf.pin → Answers (.tfblankPinChange t high) s fun u => Kept u s ∧ u.tf.pin = high ∧
    u.tf.pinRel = some A.sys.now ∧
    ∀ m, m < 16 → (cfgF s (0x5000 + m) 7 = false → (tfGet s m).pinFrom = none → tfGet u m = tfGet s m) ∧
      (∀ f, cfgF s (0x5000 + m) 7 = true → (tfGet s m).pinFrom = some f → (tfGet u m).pinFrom = none ∧
        (f < A.sys.now → (f, A.sys.now) ∈ (tfGet u m).blankIv) ∧
        (0 < cfgN s (0x5000 + m) 8 → (A.sys.now, A.sys.now + cfgN s (0x5000 + m) 8 * 1000) ∈ (tfGet u m).blankIv))) ∧
  Answers (.tfSblank t w) s (fun u => Kept u s ∧ ∀ m, m < 16 →
    (bitAt w.toNat m = false → tfGet u m = tfGet s m) ∧
    (bitAt w.toNat m = true → tfActive A m = true → 0 < fld w.toNat 16 8 → ∃ a, A.sys.now < a ∧ a ≤ A.sys.now + 40000 ∧
      a % 40000 = (tfGet s m).lastAt % 40000 ∧ (a, a + min 250 (fld w.toNat 16 8) * 40000) ∈ (tfGet u m).blankIv)) ∧
  ((tfGet s n).open_ = false → Answers (.tfOpenDetect t n 1501 (cfgN s (0x5000 + n) 3)) s fun u => OnlyTf n s u ∧
    (tfGet u n).open_ = true ∧ (tfGet u n).openRx = true ∧ (tfGet u n).opens = satAdd 8 (tfGet s n).opens 1 ∧
    ∀ h, h < 8 → headOn s h = true → headA s h = n.val ∨ headB s h = n.val → (hdGet u h).faulty = true ∧ (hdGet u h).ph = .idle)) ∧
  (∀ (s : State) (w : Word) (v : BitVec 16),
  (tfRuns s = true → bitAt w.toNat 31 = true → s.tf.capState = 0 → Answers (.tfCaptureArm w) s fun u =>
    u = { s with tf := { s.tf with capState := 1, capCh := fld w.toNat 0 4, capTrig := bitAt w.toNat 30, cap := [] } }) ∧
  (bitAt w.toNat 31 = false ∨ s.tf.capState ≠ 0 → Answers (.tfCaptureArm w) s fun u => u = s) ∧
  (tfRuns s = true → s.tf.capState = 2 → s.tf.cap.length = 2048 → Answers .tfCaptureComplete s fun u => Kept u s ∧
    u.tf = { s.tf with capState := 0, capArea := s.tf.cap.reverse, cap := [] } ∧ (resGet u 0x500018).fresh = true) ∧
  (s.tf.cap.length < 2048 → Answers .tfCaptureComplete s fun u => u = s) ∧
  Answers (.tfOnsetWrite v) s (fun u => Kept u s ∧ ∀ m, m < 16 →
    tfGet u m = { tfGet s m with fired := (tfGet s m).fired && !bget v m }))

/-- R50, R368, R370, R372, R374, R375, R379, Table 17.4: a passage counts when copy A is written, unless its epoch is an older one,
and adds to one side what it takes from the other; a count out of range disturbs the section; occupied and clear follow Table
17.4; copy B repeats copy A; the copies hold the counts of the write's start and its passages; a head is healthy again after 1
s. -/
def Obligations.CountsAndSections : Prop :=
  ∀ (s : State) (t : Nat) (h : Fin 8),
  let A := advance t s
  let fresh := s.ax.writing.filter (passFresh s)
  (s.ax.wstate = 1 → Answers (.countCopyAWritten t) s fun u => Kept u s ∧ u.ax.wstate = 2 ∧ u.ax.writing = [] ∧
    u.ax.queue = s.ax.queue ∧ u.ax.passages = satAdd 16 s.ax.passages fresh.length ∧
    u.ax.cntA.num = max s.ax.cntA.num s.ax.cntB.num + 1 ∧ (∀ k, k < 32 →
      mget 0 u.ax.cntA.counts k = fresh.foldl (fun x p => passAdd s p k x) (mget 0 s.ax.wcounts k)) ∧
    (∀ p ∈ s.ax.writing, passFresh s p = false → ∀ k ∈ secsOf s p.cp, (secGet u k).st = 0) ∧
    (fresh = [] → s.ax.writing.length = 1 → u.ax.epdisc = satAdd 16 s.ax.epdisc 1 ∧ ∀ k, (secGet u k).count = (secGet s k).count) ∧
    (∀ p, fresh = [p] → (cpAt s p.cp).aside < 32 → (cpAt s p.cp).bside < 32 → (cpAt s p.cp).aside ≠ (cpAt s p.cp).bside →
      let up := if p.ba then (cpAt s p.cp).aside else (cpAt s p.cp).bside
      let dn := if p.ba then (cpAt s p.cp).bside else (cpAt s p.cp).aside
      (secGet u up).count = countAdd (secGet s up).count 1 ∧ (secGet u dn).count = countAdd (secGet s dn).count (-1) ∧
      ∀ k, k ≠ up → k ≠ dn → (secGet u k).count = (secGet s k).count) ∧
    (∀ p ∈ fresh, ∀ k ∈ secsOf s p.cp, (secGet u k).count < 0 ∨ 1023 < (secGet u k).count → (secGet u k).st = 0) ∧
    (fresh = s.ax.writing → ∀ k, k < 32 → cpsOf s k ≠ [] → (secGet s k).st ≠ 0 → (secGet s k).st ≠ 1 → 0 ≤ (secGet u k).count → (secGet u k).count ≤ 1023 →
      (secGet u k).st = secTable u k)) ∧
  (s.ax.wstate = 2 → Answers (.countCopyBWritten t) s fun u => Kept u s ∧ u.ax.cntA = s.ax.cntA ∧ u.ax.cntB = s.ax.cntA ∧
    u.ax.secs = s.ax.secs ∧ (u.ax.wstate = if (s.ax.queue ≠ [] ∨ s.ax.dirty = true) ∧ instantOpen A = false then 1 else 0)) ∧
  ((hdGet s h).faulty = true → (tfGet s (headA s h)).open_ = false → (tfGet s (headB s h)).open_ = false →
    ∀ f, (hdGet s h).offSince = some f → (f + secNs ≤ A.sys.now → Answers (.headHealthyTimer t h) s fun u => Kept u s ∧
      hdGet u h = { hdGet s h with faulty := false } ∧ ∀ k, k ≠ h.val → hdGet u k = hdGet s k) ∧
      (A.sys.now < f + secNs → Answers (.headHealthyTimer t h) s fun u => u = A))

/-- R376: a reset request inside a safety session on its path makes a DISTURBED section with healthy, idle counting points
PREPARATORY with count 0; otherwise it is refused and counted; without the session it does nothing; a SECTRESET pair that stays
HIGH for 3 s is jammed. R378: a section word carries the states of all sections; a valid one is the channel's view; 3 ms without
one makes the states unknown. -/
def Obligations.SectionResetsAndWords : Prop :=
  (∀ (s : State) (t : Nat) (k : Fin 32) (p : Path) (i : Fin 8),
  (hasTrack s = true → s.sys.ctrlUp = true → saveStopped (advance t s) = false → sessionOn s p = true →
    ((secGet s k).st = 0 → cpsOf s k ≠ [] → secHealthy s k = true → secProgress s k = false → Answers (.sectionReset t k (some p)) s fun u =>
      Kept u s ∧ (secGet u k).st = 1 ∧ (secGet u k).count = 0 ∧ (secGet u k).rose = false ∧ u.ax.rstref = s.ax.rstref ∧
      ∀ j, j ≠ k.val → secGet u j = secGet s j) ∧
    ((secGet s k).st ≠ 0 ∨ secHealthy s k = false ∨ secProgress s k = true → Answers (.sectionReset t k (some p)) s fun u =>
      Kept u s ∧ u.ax = { s.ax with rstref := satAdd 16 s.ax.rstref 1 } ∧ u.sess.lastAct = (advance t s).sys.now)) ∧
  (sessionOn s p = false → Answers (.sectionReset t k (some p)) s fun u => u = advance t s) ∧
  (∀ h, mlook s.ax.srHigh i = some h → sinRole s i = 4 → pairActive s .a i = true → mget false s.ax.srJam i = false →
    (h + 3000 * msNs ≤ (advance t s).sys.now → Answers (.sectrstJamTimeout t i) s fun u => Kept u s ∧ mget false u.ax.srJam i = true ∧
      u.ax.secs = s.ax.secs) ∧
    ((advance t s).sys.now < h + 3000 * msNs → Answers (.sectrstJamTimeout t i) s fun u => u = advance t s))) ∧
  (∀ (s : State) (t : Nat) (c : Chan),
  (s.sys.ctrlUp = true → hasTrack s = true → Answers (.sectionWordSend t) s fun u => ∃ w, u.out.secWord = some (w, s.out.secSeq) ∧
    (∀ k, k < 32 → mget 0 w k = (secGet s k).st) ∧
    u = { advance t s with out := { s.out with secWord := some (w, s.out.secSeq), secSeq := s.out.secSeq + 1 } }) ∧
  (∀ w, s.sys.oper = true → s.out.secWord = some w →
    Answers (.sectionWordReceive t c true) s (fun u => Kept u s ∧ getC u (otherC c) = getC s (otherC c) ∧
      getC u c = { getC s c with secStates := w.1, secGot := true, secAt := (advance t s).sys.now, secUnk := false }) ∧
    Answers (.sectionWordReceive t c false) s (fun u => u = advance t s)) ∧
  (s.sys.oper = true → (getC s c).secAt + 3 * msNs ≤ (advance t s).sys.now → Answers (.sectionWordTimeout t c) s fun u => Kept u s ∧
    getC u (otherC c) = getC s (otherC c) ∧ getC u c = { getC s c with secUnk := true }) ∧
  ((advance t s).sys.now < (getC s c).secAt + 3 * msNs → Answers (.sectionWordTimeout t c) s fun u => u = advance t s))

/-- R380, R381, Table 17.5: the oldest passage goes out as an EVENT frame, the states and healths as a STATUS frame, each with the
next sequence number. R382 to R385: a discarded frame, a gap and 20 ms of silence disturb the sections at the link's counting
points; a valid frame in sequence carries the peer's state, and its EVENT counts at the counting points that name it, unless
their epoch or unit differs. A link that a set has switched off goes DOWN too. -/
def Obligations.TrackLinks : Prop :=
  (∀ (s : State) (t : Nat) (l : Fin 2), tlLive s l = true →
  tlLive (advance t s) l = true → (∀ p rest, (tlGet s l).evq = p :: rest → Answers (.tlEventSend l) s fun u =>
    let f := tlFrameBytes 1 s l p.time (leBytes 1 p.cp ++ leBytes 1 (p.ba.toNat + 2 * p.vehicle.toNat) ++ leBytes 2 p.epoch)
    Kept u s ∧ tlGet u l = { tlGet s l with
      evq := rest, txseq := ((tlGet s l).txseq + 1) % 65536, txframes := satAdd 16 (tlGet s l).txframes 1
      out := (tlGet s l).out ++ [f], wire := lineBits f }) ∧
  ((tlGet s l).evq = [] → Answers (.tlEventSend l) s fun u => u = s) ∧
  Answers (.tlStatusSend t l) s (fun u =>
    let f := tlFrameBytes 2 s l (advance t s).sys.sysTime
      (leBytes 4 (cpHealthWord s) ++ leBytes 8 (secStatesWord s (cfgN s 0x5300 (5 + l.val))) ++ leBytes 4 (cfgN s 0x5300 (5 + l.val)))
    Kept u s ∧ tlGet u l = { tlGet s l with
      txseq := ((tlGet s l).txseq + 1) % 65536, txframes := satAdd 16 (tlGet s l).txframes 1, lastStatus := (advance t s).sys.now
      out := (tlGet s l).out ++ [f], wire := lineBits f })) ∧
  (∀ (s : State) (t : Nat) (l : Fin 2) (f : TlFrame),
  let A := advance t s
  let x := tlGet s l
  (tlLive A l = true → (tlWhole f = false → Answers (.tlFrameReceive t l f) s fun u => FrameLost l s u ∧
    (tlGet u l).crcfail = satAdd 16 x.crcfail 1) ∧
  (tlWhole f = true → f.src ≠ tlPeer s l → Answers (.tlFrameReceive t l f) s fun u => FrameLost l s u ∧
    (tlGet u l).wrongpeer = satAdd 16 x.wrongpeer 1) ∧
  (tlWhole f = true → f.src = tlPeer s l → tlStale A f = true → Answers (.tlFrameReceive t l f) s fun u =>
    FrameLost l s u ∧ (tlGet u l).stale = satAdd 16 x.stale 1) ∧
  (tlWhole f = true → f.src = tlPeer s l → tlStale A f = false →
    (∀ q, x.rxseq = some q → f.seq = (q + 1) % 65536 → Answers (.tlFrameReceive t l f) s fun u => Kept u s ∧
      (tlGet u l).rxseq = some f.seq ∧ (tlGet u l).lastRx = A.sys.now ∧ (tlGet u l).gap = x.gap ∧ (x.up = true → (tlGet u l).up = true) ∧
      (f.isEvent = false → (tlGet u l).health = f.health ∧ (tlGet u l).states = f.states ∧ u.ax.epdisc = s.ax.epdisc) ∧
      (f.isEvent = false → 2 ≤ x.statusRun → (tlGet u l).up = true) ∧
      (∀ c, f.isEvent = true → (linkCps s l).filter (fun c => fld (cpAt s c).ref 0 5 == f.cp) = [c] → s.ax.wstate ≠ 0 →
        (f.epoch = (cpAt s c).repoch → unitFits s c f.vehicle = true →
          u.ax.queue = s.ax.queue ++ [⟨c, f.dirBA, f.vehicle, BitVec.ofNat 64 f.time, epochOf s.cf.epochs 2 c⟩]) ∧
        (f.epoch ≠ (cpAt s c).repoch ∨ unitFits s c f.vehicle = false → u.ax.epdisc = satAdd 16 s.ax.epdisc 1 ∧ u.ax.queue = s.ax.queue ∧ Disturbed 8 [c] s u))) ∧
    (∀ q, x.rxseq = some q → f.seq ≠ (q + 1) % 65536 → Answers (.tlFrameReceive t l f) s fun u => Kept u s ∧
      (tlGet u l).rxseq = some f.seq ∧ (tlGet u l).gap = satAdd 16 x.gap 1 ∧
      (f.isEvent = false → Disturbed 7 (linkCps s l) s u) ∧ ∀ c ∈ linkCps s l, ∀ k ∈ secsOf s c, (secGet u k).st = 0) ∧
    (x.rxseq = none → Answers (.tlFrameReceive t l f) s fun u => (tlGet u l).rxseq = some f.seq ∧ (tlGet u l).gap = x.gap))) ∧
  (tlRuns A = true → x.up = true → x.lastRx + 20 * msNs ≤ A.sys.now → Answers (.tlDownTimeout t l) s fun u => Kept u s ∧
    tlGet u l = { x with up := false, rxseq := none, statusRun := 0, downs := satAdd 16 x.downs 1 } ∧ Disturbed 6 (linkCps s l) s u) ∧
  (A.sys.now < x.lastRx + 20 * msNs → Answers (.tlDownTimeout t l) s fun u => u = A))

/-- R389: a port goes from DOWN to SYNCING to UP, raising ZL_PORT; code errors and a missing comma take it DOWN and empty it; a
frame without end is one code error. R388, R390, R393, R395, KL-03: a port that becomes free sends TIME before COMMIT before all
others, in arrival order, and none before its frame has ended; what leaves is on the wire in code groups. R391, R392: a header
is forwarded to the other port, with one more hop and its HCRC, 1.0 µs after it arrived, 40 ns more where it is long; a CRC-32C
that fails still fails. -/
def Obligations.ZeleyPortsAndForwarding : Prop :=
  (∀ (s : State) (t : Nat) (p : Fin 2),
  (linkOn s = true → (zpGet s p).st = 0 → Answers (.zlPortSyncing t p) s fun u =>
    PortBecomes p { zpGet s p with st := 1, commaAt := (advance t s).sys.now } (advance t s) u ∧ bget u.ed.evt evZlPort = true) ∧
  ((zpGet s p).st = 1 → (zpGet s p).commaAt + 10000 ≤ (advance t s).sys.now → Answers (.zlPortUp t p) s fun u => PortBecomes p { zpGet s p with st := 2 } (advance t s) u) ∧
  ((zpGet s p).st ≠ 0 →
    Answers (.zlPortCodeErrors t p) s (PortIsDown p (satAdd 16 (zpGet s p).codeerr 4) (advance t s)) ∧
    ((zpGet s p).hdr = false → (zpGet s p).commaAt + 20000 ≤ (advance t s).sys.now →
      Answers (.zlCommaTimeout t p) s (PortIsDown p (zpGet s p).codeerr (advance t s)))) ∧
  ((zpGet s p).hdr = true → Answers (.zlCommaTimeout t p) s fun u => u = advance t s) ∧
  (portUp s p = true → Answers (.zlFrameTooLong t p) s fun u =>
    u = zpPut p { zpGet s p with codeerr := satAdd 16 (zpGet s p).codeerr 1, hdr := false, commaAt := (advance t s).sys.now }
      (advance t s))) ∧
  (∀ (s : State) (t : Nat) (p : Fin 2) (f : ZlFrame),
  ((zpGet s p).q = [] ∨ (advance t s).sys.now < (zpGet s p).busyTo → Answers (.zlQueuedFrameSend t p) s fun u => u = advance t s) ∧
  ((zpGet s p).q ≠ [] → (zpGet s p).busyTo ≤ (advance t s).sys.now → Answers (.zlQueuedFrameSend t p) s fun u => ∃ i x, (zpGet s p).q[i]? = some x ∧
    (zpGet u p).q = (zpGet s p).q.eraseIdx i ∧ u.zl.out = s.zl.out ++ [(p.val, departing (advance t s) x (max (advance t s).sys.now (earliest x)))] ∧
    (zpGet u p).busyTo = max (advance t s).sys.now (earliest x) + frameNs (departing (advance t s) x (max (advance t s).sys.now (earliest x))) ∧
    (zpGet u p).wire = (groupsOf (frameGroups (departing (advance t s) x (max (advance t s).sys.now (earliest x)))) (zpGet s p).rd).1 ∧
    ((∃ y ∈ (zpGet s p).q, y.f.type = 1) → x.f.type = 1) ∧
    ((∀ y ∈ (zpGet s p).q, y.f.type ≠ 1) → (∃ y ∈ (zpGet s p).q, y.f.type = 2) → x.f.type = 2) ∧
    ∀ j y, j < i → (zpGet s p).q[j]? = some y → y.f.type ≠ x.f.type) ∧
  (portUp s p = true → zlHcrcOk f = true → zlForwards s p f = true → f.type ≠ 1 → f.type ≠ 6 → portBusy (advance t s) (1 - p) = false →
    Answers (.zlHeaderReceive t p f) s fun u => ∃ g, u.zl.out = s.zl.out ++ [(1 - p.val, g)] ∧ g = { f with hops := f.hops + 1, hcrc := g.hcrc, crc := g.crc } ∧
      zlHcrcOk g = true ∧ zlCrcOk g = zlCrcOk f ∧
      (zpGet u (1 - p)).busyTo = (advance t s).sys.now - 880 + (if 1024 < frameSize f then 1040 else 1000) + frameNs f ∧
      (zpGet u p).hdr = true ∧ u.sys.now = (advance t s).sys.now) ∧
  (portUp s p = true → zlHcrcOk f = false ∨ zlForwards s p f = false → Answers (.zlHeaderReceive t p f) s fun u =>
    u = zpPut p { zpGet s p with hdr := true } (advance t s)))

/-- R397 to R400, R402: HELLO and PDELAY every second and TIME every 10 ms, as the device sends them, and not before; the end of a
conflict; mastership after 50 ms without a TIME frame from a lower address; the loss of synchronisation after 100 ms. R398 to
R402: a TIME frame at a device that is not master, on which a device without a due step slews, and steps where the offset
exceeds 1,000 ns; a HELLO is noted, and one that uses this device's address is a conflict; a PDELAY response gives the link
delay. -/
def Obligations.ZeleyFrames : Prop :=
  (∀ (s : State) (t : Nat) (p : Fin 2),
  (portUp s p = true → portBusy (advance t s) p = false →
    (s.sys.mgmtUp = true → periodPassed s.zl.lastHello secNs (advance t s) = true → Answers (.zlHelloSend t) s fun u =>
      Sends p 3 2 s u ∧ u.zl.lastHello = some (advance t s).sys.now ∧ Kept u s) ∧
    (s.zl.master = true → periodPassed s.zl.timeAt (10 * msNs) (advance t s) = true → Answers (.zlTimeSend t) s fun u =>
      Sends p 1 2 s u ∧ u.zl.timeAt = some (advance t s).sys.now ∧ Kept u s) ∧
    (periodPassed (zpGet s p).pdAt secNs (advance t s) = true → Answers (.zlPdelaySend t p) s fun u => Sends p 6 3 s u ∧
      (zpGet u p).pdT1 = some (advance t s).sys.now ∧ (zpGet u p).pdAt = some (advance t s).sys.now ∧ Kept u s)) ∧
  (periodPassed s.zl.lastHello secNs (advance t s) = false → Answers (.zlHelloSend t) s fun u => u = advance t s) ∧
  (periodPassed s.zl.timeAt (10 * msNs) (advance t s) = false → Answers (.zlTimeSend t) s fun u => u = advance t s) ∧
  (periodPassed (zpGet s p).pdAt secNs (advance t s) = false → Answers (.zlPdelaySend t p) s fun u => u = advance t s) ∧
  (s.zl.inConflict = true → s.zl.lastConflict + 3 * secNs ≤ (advance t s).sys.now → Answers (.zlConflictEnd t) s fun u =>
    u = { advance t s with zl := { s.zl with inConflict := false } }) ∧
  (s.sys.mgmtUp = true → cfgN s 0x1400 3 = 1 → zlAssigned s = true → s.zl.master = false →
    s.zl.lastLower + 50 * msNs ≤ (advance t s).sys.now → Answers (.zlMasterTimeout t) s fun u =>
      u.zl.master = true ∧ u.zl.sync = true ∧ u.zl.mhops = 0 ∧ u.zl.maddr = zlAddr s ∧ Kept u s) ∧
  (s.zl.sync = true → s.zl.master = false → s.zl.lastTime + 100 * msNs ≤ (advance t s).sys.now → Answers (.zlSyncTimeout t) s fun u =>
    u = { advance t s with zl := { s.zl with sync := false, stepDue := true, goodRun := 0 } })) ∧
  (∀ (s : State) (t : Nat) (p : Fin 2) (f : ZlFrame), NewFrame p f (advance t s) →
  let A := advance t s
  let own : Int := (A.sys.sysTime.toNat : Int) - frameNs f
  let ofs := own - ((leAt f.body 0 8 : Int) + ((leAt f.body 8 8 + (zpGet s p).delayPs) / 1000 : Nat))
  (zpGet s p).hdr = true →
  (f.type = 1 → s.zl.master = false → Answers (.zlTimeFrame t p f) s fun u => Kept u s ∧ u.zl.lastTime = A.sys.now ∧ u.zl.maddr = f.src ∧
    u.zl.mhops = f.hops + 1 ∧
    (s.zl.stepDue = true ∨ 1000 < ofs.natAbs → u.sys.sysTime = A.sys.sysTime - BitVec.ofInt 64 ofs ∧ u.zl.sync = false ∧
      u.zl.stepDue = false ∧ u.zl.timesteps = satAdd 16 s.zl.timesteps 1 ∧ u.lm.sinks = 0) ∧
    (s.zl.stepDue = false → ofs.natAbs ≤ 1000 → u.sys.sysTime = A.sys.sysTime ∧ u.sys.slewLeft = -ofs ∧
      u.sys.slewEnd = A.sys.now + secNs ∧ (ofs.natAbs ≤ 200 → 3 ≤ s.zl.goodRun → u.zl.sync = true))) ∧
  (f.type = 3 → f.unasg = false → Answers (.zlHelloFrame t p f) s fun u => Kept u s ∧
    ∃ v, mlook u.zl.devs f.src = some v ∧ v.at_ = A.sys.now ∧ v.hops = f.hops + 1 ∧ v.nonce = leAt f.body 4 4 ∧ v.port = p) ∧
  (∀ t1, f.type = 6 → leAt f.body 0 1 ≠ 0 → (zpGet s p).pdT1 = some t1 → Answers (.zlPdelayFrame t p f) s fun u => Kept u s ∧
    (zpGet u p).pdT1 = none ∧ (zpGet u p).delayPs =
      ((((A.sys.now - frameNs f : Nat) : Int) - t1 - ((leAt f.body 12 8 : Int) - leAt f.body 4 8)) * 500).toNat))

/-- R398: a HELLO frame with this device's own address and another NONCE is a conflict, latched and raised. R398, R403: TIME_SET
through the host port sets system time on the master and is refused elsewhere; W1C of ZL_ID.CONFLICT. -/
def Obligations.ZeleyAddressesAndTime : Prop :=
  (∀ (s : State) (t : Nat) (p : Fin 2) (f : ZlFrame),
  portUp s p = true → zlHcrcOk f = true → zlCrcOk f = true → f.type = 3 → f.dmode = 2 → ownSrc s f = true →
  leAt f.body 4 4 ≠ s.zl.nonce.toNat → (∀ e ∈ s.zl.seen, e.1 ≠ f.src) → s.sys.mgmtUp = true →
  Answers (.zlHelloFrame t p f) s fun u => u.zl.conflict = true ∧ u.zl.inConflict = true ∧ u.zl.lastConflict = (advance t s).sys.now ∧
    bget u.ed.evt evZlConflict = true ∧ Kept u s) ∧
  (∀ (s : State) (t : Nat) (v : BitVec 64) (w : Word),
  (s.sys.mgmtUp = true → s.sup.vstate ≠ 2 →
    (s.zl.master = true → Answers (.timeSet t v) s fun u => RespondedTo .host 0x1400 5 8 0 s u ∧
      u = { advance t s with sys := { (advance t s).sys with sysTime := v, slewLeft := 0 }, dc := u.dc }) ∧
    (s.zl.master = false → Answers (.timeSet t v) s fun u => RespondedTo .host 0x1400 5 8 0x0610 s u ∧
      u = { advance t s with dc := u.dc })) ∧
  Answers (.zlIdWrite w) s (fun u => u = { s with zl := { s.zl with conflict := s.zl.conflict && !w.getLsbD 17 } }))

/-- R405 to R407, R409, Table 18.7: READ of an object: the abort of the first check that fails, else its bytes, whole up to 992;
READ_SEG gives the segment at its offset, and the transfer ends with the last one; a repeated request gets its response again.
R45, R52, R74, R407, Table 18.7: a write of a staged object waits for its staging and changes nothing in effect; the aborts of
access, session and epoch; an immediate object answers with the outcome of its operation. -/
def Obligations.DictionaryAccess : Prop :=
  (∀ (s : State) (t : Nat) (p : Path) (r : DictReq),
  let A := advance t s
  (Fresh 1 p r A →
    ((locate s r.index r.sub).2 = none → Answers (.dictRead t p r) s fun u => OnlyServer A u ∧
      Says p (rspTo 1 r (locate s r.index r.sub).1 0) s u) ∧
    ∀ o, (locate s r.index r.sub).2 = some o →
      (o.acc = .wo ∨ o.acc = .wos → Answers (.dictRead t p r) s fun u => OnlyServer A u ∧ Says p (rspTo 1 r 0x0610 0) s u) ∧
      (o.acc ≠ .wo → o.acc ≠ .wos → ¬(r.index = 0x1700 ∧ r.sub % 16 = 5) → ∀ v, objRead (judged false o p r A) o r.index r.sub = (0, v) →
        v.length ≤ 992 → Answers (.dictRead t p r) s fun u => Kept u s ∧ Says p (rspTo 1 r 0 v.length v) s u)) ∧
  (∀ o x, Fresh 2 p r A → (locate s r.index r.sub).2 = some o → o.acc ≠ .wo → o.acc ≠ .wos → xferOf (xferPrune A) p r = some x →
    x.write = false → x.key = okey r.index r.sub → r.val % 992 = 0 → r.val < x.total →
    Answers (.dictReadSeg t p r) s fun u => OnlyServer A u ∧ Says p (rspTo 2 r 0 r.val (segment x.data r.val)) s u ∧
      (x.total ≤ r.val + 992 → xferOf u p r = none) ∧
      (r.val + 992 < x.total → xferOf u p r = some { x with last := A.sys.now })) ∧
  (∀ x, s.sys.mgmtUp = true → s.sup.vstate ≠ 2 → repeated A p 1 r = some x → Answers (.dictRead t p r) s fun u =>
    OnlyServer A u ∧ Says p x s u)) ∧
  (∀ (s : State) (t : Nat) (p : Path) (r : DictReq), Fresh 3 p r (advance t s) →
  let A := advance t s
  let g := fun (o : Obj) => writeGate o p r.index r.sub r.epoch s
  ((locate s r.index r.sub).2 = none → Answers (.dictWrite t p r) s fun u => OnlyServer A u ∧
    Says p (rspTo 3 r (locate s r.index r.sub).1 0) s u) ∧
  (∀ o, (locate s r.index r.sub).2 = some o → r.val ≤ 992 →
    (g o ≠ 0 → o.eff = .commit → Answers (.dictWrite t p r) s fun u => OnlyServer A u ∧ Says p (rspTo 3 r (g o) 0) s u) ∧
    (g o = 0 → r.val = r.data.length → o.eff = .commit →
      (stageAbort o r.index r.sub r.data (judged true o p r A) = 0 → Answers (.dictWrite t p r) s fun u =>
        u.cf = { s.cf with unacked := s.cf.unacked ++ [(p, r)] } ∧ u.dc.rsps = s.dc.rsps ∧ Kept u s) ∧
      (stageAbort o r.index r.sub r.data (judged true o p r A) ≠ 0 → Answers (.dictWrite t p r) s fun u => u.cf = s.cf ∧ Kept u s ∧
        Says p (rspTo 3 r (stageAbort o r.index r.sub r.data (judged true o p r A)) 0) s u)) ∧
    (g o = 0 → r.val = r.data.length → o.eff ≠ .commit →
      let w := nowWrite o p r.index r.sub r.data (xferDrop p r.tid (xferPrune A))
      w.2.sys.mgmtUp = true → w.2.sup.vstate ≠ 2 → Answers (.dictWrite t p r) s fun u =>
        OnlyServer w.2 u ∧ Says p (rspTo 3 r w.1 r.data.length) w.2 u)))

/-- R406, R407, R409: WRITE_SEG continues a transfer and its last segment completes the value; CANCEL ends a transfer; one without
activity expires after 1 s. R391, R393, R404, R405: a request frame accepted on a port is a request on the path of its source; a
COMMIT frame with the TAG set acts as the writes that it stands for, and COMMIT_TAG returns to 0; with another TAG it has no
effect. -/
def Obligations.DictionaryTransfers : Prop :=
  (∀ (s : State) (t : Nat) (p : Path) (r : DictReq),
  let A := advance t s
  (∀ o x, Fresh 4 p r A → (locate s r.index r.sub).2 = some o → writeGate o p r.index r.sub r.epoch s = 0 →
    xferOf (xferPrune A) p r = some x → x.write = true → x.key = okey r.index r.sub → r.val = x.data.length →
    r.data.length = min 992 (x.total - x.data.length) →
    (x.data.length + r.data.length < x.total → Answers (.dictWriteSeg t p r) s fun u => Kept u s ∧ u.cf = s.cf ∧
      Says p (rspTo 4 r 0 (x.data.length + r.data.length)) s u ∧
      xferOf u p r = some { x with data := x.data ++ r.data, last := A.sys.now }) ∧
    (x.data.length + r.data.length = x.total → o.eff = .commit →
      stageAbort o r.index r.sub (x.data ++ r.data) (judged true o p r A) = 0 → Answers (.dictWriteSeg t p r) s fun u => Kept u s ∧
        u.cf = { s.cf with unacked := s.cf.unacked ++ [(p, { r with data := x.data ++ r.data })] } ∧ u.dc.rsps = s.dc.rsps ∧
        xferOf u p r = none)) ∧
  (∀ o, Fresh 5 p r A → (locate s r.index r.sub).2 = some o →
    (xferOf (xferPrune A) p r ≠ none → Answers (.dictCancel t p r) s fun u => OnlyServer A u ∧ xferOf u p r = none ∧
      Says p (rspTo 5 r 0 0) s u) ∧
    (xferOf (xferPrune A) p r = none → Answers (.dictCancel t p r) s fun u => OnlyServer A u ∧ Says p (rspTo 5 r 0x0621 0) s u)) ∧
  Answers (.dictTransferExpiry t p r.tid) s (fun u => u = { A with dc := { s.dc with xfers := u.dc.xfers } } ∧
    ∀ x, x ∈ u.dc.xfers ↔ x ∈ s.dc.xfers ∧ ¬(x.path = p ∧ x.tid = r.tid ∧ x.last + secNs ≤ A.sys.now))) ∧
  (∀ (s : State) (t : Nat) (p : Fin 2) (f : ZlFrame), NewFrame p f (advance t s) →
  (zpGet s p).hdr = true → let A := taken p f (advance t s)
  (f.type = 4 → f.unasg = false → 12 ≤ f.body.length →
    Answers (.zlReqFrame t p f) s (fun u => u = dictRequest (reqOf f.body).1 (.zeley f.src) (reqOf f.body).2 A) ∧
    Answers (.zlFrameReceive t p f) s (fun u => u = dictRequest (reqOf f.body).1 (.zeley f.src) (reqOf f.body).2 A)) ∧
  (f.type = 2 →
    (liveN s 0x1400 8 ≠ 0 → leAt f.body 8 2 = liveN s 0x1400 8 → f.body.length = 10 → Answers (.zlCommitFrame t p f) s fun u =>
      liveN u 0x1400 8 = 0 ∧ liveN u 0x1100 0x11 = 2 ∧ liveN u 0x1100 0x13 = leAt f.body 0 8 ∧ u.dc = s.dc ∧
      (s.sup.holdReady = true → stagedSafety s = false → stagedMaskZero s = false → (resGet u aCommit).valid = true)) ∧
    (liveN s 0x1400 8 = 0 ∨ leAt f.body 8 2 ≠ liveN s 0x1400 8 → Answers (.zlCommitFrame t p f) s fun u => u = A)))

/-- R182, R416, R417, R419, R420, R423, R424, Table 19.3: a READ of one word shows the word, with CRC = 1 the CRC-8 of the status
word and of the word at its address, and has its side effects; during a buffer swap a word of the histogram store may come from
the other buffer (KL-01); with too few wait bytes it shows ones and reads nothing; a header that fails has no address action.
R416, R417, R421, R423, R424: a WRITE of one word takes effect where the CRC-8 of its header and its word hold; a word whose
check fails is discarded. STATUS and an operation that is not defined act on no address. -/
def Obligations.HostTransfers : Prop :=
  (∀ (s : State) (t : Nat) (r : SpiRead), PortOpen s →
  let A := advance t s
  let h := r.head
  let v := hostRead h.addr (hpBegin h false A)
  let code := if Machine.addrOk h.addr then 0 else lastAddr
  (HeaderOk s 0 h r.hcrc r.inHeader →
    (waitBad r = false → r.words = 1 → readSwaps r A = false → Answers (.hpRead t r) s
      (Transferred code [BitVec.ofNat 32 v.1] (statusCheck h A ++ wordCheck h v.1) A v.2)) ∧
    (waitBad r = false → r.words = 1 → readSwaps r A = true → Answers (.hpRead t r) s fun u =>
      ∃ w, (w = v.1 ∨ (w = regRead v.2 (otherBuffer h.addr) ∧ 0x100000 ≤ h.addr ∧ h.addr < 0x400000)) ∧
        Transferred code [BitVec.ofNat 32 w] (statusCheck h A ++ wordCheck h w) A (drawn v.2) u) ∧
    (waitBad r = false → r.words = 1 → Machine.addrOk h.addr = false → v = (0, hpBegin h false A)) ∧
    (waitBad r = true → Answers (.hpRead t r) s (Transferred lastWait (List.replicate r.words 0xFFFFFFFF)
      (statusCheck h A ++ if h.crc then List.replicate r.words 0xFF else []) A A))) ∧
  (r.inHeader = true → Answers (.hpRead t r) s (Transferred lastPartial [] [] A A)) ∧
  (r.inHeader = false → h.crc = true → hcrcOk 0 h r.hcrc = false → Answers (.hpRead t r) s (Transferred lastHcrc [] (statusCheck h A) A A)) ∧
  (r.inHeader = false → h.crc = false → s.hp.crcOnly = true → Answers (.hpRead t r) s (Transferred lastCrcreq [] [] A A))) ∧
  (∀ (s : State) (t : Nat) (h : SpiHead) (w : Word) (hc dc : Byte), PortOpen s →
  let A := advance t s
  let x : SpiWrite := ⟨h, hc, [(w, dc)], false, false⟩
  let v := hostWrite h.addr w.toNat (hpBegin h false A)
  (HeaderOk s 1 h hc false →
    (h.crc = false ∨ dc = dcrcByte h.addr w.toNat → Answers (.hpWrite t x) s fun u => u = { v.2 with hp := u.hp } ∧ u.hp.last = v.1 ∧
      u.hp.tcount = (v.2.hp.tcount + 1) % 256 ∧ u.hp.miso = v.2.hp.miso) ∧
    (h.crc = true → dc ≠ dcrcByte h.addr w.toNat →
      Answers (.hpWrite t x) s (Transferred lastDcrc [] (statusCheck h A) A A))) ∧
  (h.crc = true → hcrcOk 1 h hc = false → Answers (.hpWrite t x) s (Transferred lastHcrc [] (statusCheck h A) A A)) ∧
  (h.crc = false ∨ hcrcOk 2 h hc = true → Answers (.hpStatusCmd t h hc false) s (Transferred 0 [] (statusCheck h A) A A)) ∧
  Answers (.hpStatusCmd t h hc true) s (Transferred lastPartial [] [] A A) ∧
  (HeaderOk s 3 h hc false → Answers (.hpBadcmd t h hc) s (Transferred lastBadcmd [] (statusCheck h A) A A)))

/-- R8, R15, R62, R213, R413, R418, R420, R440: register writes at holes and at absent units change nothing, a staged register waits
for HOLD_READY, HP_CFG, PW_REQ and HP_CNT act at once; reads clear FRESH and latch ZL_TIMEHI. R428: GO with a length of 12 to
1,004 takes the request, one at a time, as a request on the host path; the response is posted in HP_MBX_RSP with its length, and
the mailbox is free. -/
def Obligations.RegistersAndMailbox : Prop :=
  (∀ (s : State) (a : Nat) (w : Word),
  (s.sys.mgmtUp = true → s.sup.vstate ≠ 2 →
    (Machine.addrOk a = false ∨ regAbsent s.sys.variant a = true → Answers (.registerWrite a w) s fun u => u = s) ∧
    (Machine.addrOk a = true → isStaged a = true → canStage s = false → Answers (.registerWrite a w) s fun u => u = s) ∧
    (Machine.addrOk a = true → isStaged a = true → progLenBad a w.toNat = true → Answers (.registerWrite a w) s fun u => u.cf = s.cf) ∧
    Answers (.registerWrite 0x050004 w) s (fun u => u = { s with hp := { s.hp with crcOnly := w.getLsbD 0 } }) ∧
    (2 ≤ w.toNat % 8 → w.toNat % 8 ≤ 5 → Answers (.registerWrite 0x010004 w) s fun u => u.pw.req = w.toNat % 8 ∧
      u.pw.demand = w.toNat % 8 ∧ Kept u s)) ∧
  Answers (.resultStatusRead a) s (fun u => (resGet u a).fresh = false ∧ (resGet u a).valid = (resGet s a).valid ∧
    (resGet u a).seq = (resGet s a).seq ∧ (∀ b, b ≠ a → resGet u b = resGet s b) ∧ u = { s with res := u.res, ed := u.ed }) ∧
  Answers .zlTimeloRead s (fun u => u = { s with zl := { s.zl with timeHi := s.sys.sysTime.extractLsb' 32 32 } }) ∧
  Answers .hpCntWrite s (fun u => u = { s with hp := { s.hp with crcErr := 0, errors := 0 } })) ∧
  (∀ (s : State) (t : Nat) (w : Word), s.sys.mgmtUp = true → s.sup.vstate ≠ 2 →
  let A := advance t s
  let n := w.toNat % 2048
  let r := reqOf (mbxBytes s n)
  (w.getLsbD 31 = true → s.hp.busy = false → 12 ≤ n → n ≤ 1004 → Answers (.hpMbxGo t w) s fun u =>
    u = dictRequest r.1 .host r.2 { A with hp := { s.hp with busy := true } }) ∧
  (w.getLsbD 31 = false ∨ s.hp.busy = true ∨ n < 12 ∨ 1004 < n → Answers (.hpMbxGo t w) s fun u => u = A) ∧
  (∀ x rest, s.dc.rsps = (.host, x) :: rest → Answers (.hpMbxResponsePost t) s fun u => u.dc.rsps = rest ∧ u.hp.busy = false ∧
    u.hp.rlen = (rspBytes x).length ∧ (∀ i, i < (rspBytes x).length → mget 0 u.hp.rsp i = (rspBytes x).getD i 0) ∧
    (resGet u 0x050014).fresh = true ∧ regGet u 0x050014 = (rspBytes x).length ∧ Kept u s))

/-- R431, R432, R434 to R438, R441, R442: the registers of sources, targets, local sources and flags. -/
def Obligations.DistributorRegisters : Prop :=
  ∀ (s : State) (n : Fin 384) (tg : Fin 10) (w : Word) (f : BitVec 64),
  s.sys.mgmtUp = true → s.sup.vstate ≠ 2 →
  (maskMixed w.toNat = true → Answers (.edSrcWrite n w) s fun u => u = { s with ed := { s.ed with routeErr := true } }) ∧
  (maskMixed w.toNat = false → Answers (.edSrcWrite n w) s fun u => OnlyEd s u ∧ (edSrcGet u n).en = w.getLsbD 31 ∧
    (edSrcGet u n).level = w.toNat / 2 ^ 16 % 16 ∧ (edSrcGet u n).tmask = w.extractLsb' 0 10 ∧ u.ed.routeErr = s.ed.routeErr) ∧
  Answers (.edTcfgWrite tg w) s (fun u => OnlyEd s u ∧ (edTgtGet u tg).en = w.getLsbD 31 ∧ (edTgtGet u tg).pol = w.getLsbD 29 ∧
    (edTgtGet u tg).od = w.getLsbD 28 ∧ (edTgtGet u tg).thr = (if tg.val < 5 then 0 else w.toNat % 16)) ∧
  Answers (.edLsetWrite tg w) s (fun u => OnlyEd s u ∧ ∀ i, i < 32 →
    bget (edTgtGet u tg).lpend i = (bget (edTgtGet s tg).lpend i || (decide (i < 16) && w.getLsbD i))) ∧
  Answers (.edLpendWrite tg w) s (fun u => OnlyEd s u ∧ (edTgtGet u tg).lpend = (edTgtGet s tg).lpend &&& ~~~w) ∧
  Answers (.edLcntWrite tg) s (fun u => OnlyEd s u ∧ edTgtGet u tg = { edTgtGet s tg with lcnt := 0 }) ∧
  Answers (.edStatWrite w) s (fun u => u = { s with ed := { s.ed with routeErr := s.ed.routeErr && !w.getLsbD 31, eoiErr := 0 } }) ∧
  Answers (.edSwiWrite w) s (fun u => OnlyEd s u ∧ u.ed.swi = w.extractLsb' 0 3) ∧
  Answers (.edSecchgWrite w) s (fun u => OnlyEd s u ∧ u.ed.secchg = s.ed.secchg &&& ~~~w) ∧
  Answers (.edEvtWrite f) s (fun u => OnlyEd s u ∧ u.ed.evt = s.ed.evt &&& ~~~f.extractLsb' 0 56)

/-- R436, R437: a claim returns the highest level signalled to the target, of equal levels the lowest ID, puts it in service there,
and returns 0x3FF after a withdrawal and 0x3FE where nothing is signalled; sources from 376 on are claimed as KL-06 allows.
R431, R432, R436: a completion at a data-class target pops its stack, and counts an error where it names another source; at a
system-class target it ends the service of the source that it names; without one it counts an error. -/
def Obligations.ClaimsAndCompletions : Prop :=
  (∀ (s : State) (tg : Fin 10), s.sys.mgmtUp = true →
  (edCands s tg = [] → Answers (.edClaim tg) s fun u => OnlyEd s u ∧
    u.ed.lastClaim = (if (edTgtGet s tg).withdrawn then 0x3FF else 0x3FE) ∧ (edTgtGet u tg).stack = (edTgtGet s tg).stack ∧
    (edTgtGet u tg).claimed = (edTgtGet s tg).claimed) ∧
  (∀ c, c ∈ edCands s tg → c.1 < 376 ∨ 0x200 ≤ c.1 → (∀ x ∈ edCands s tg, x = c ∨ x.2 < c.2) →
    Answers (.edClaim tg) s fun u => OnlyEd s u ∧ u.ed.lastClaim = c.1 ∧
      (c.1 < 0x200 → (edSrcGet u c.1).inserv = some tg.val ∧ (edSrcGet u c.1).sig = none) ∧
      (0x200 ≤ c.1 → bget (edTgtGet u tg).lpend (c.1 - 0x200) = false) ∧
      (tg.val < 5 → (edTgtGet u tg).stack = (c.2, c.1) :: (edTgtGet s tg).stack) ∧
      (5 ≤ tg.val → (edTgtGet u tg).claimed = (c.2, c.1) :: (edTgtGet s tg).claimed))) ∧
  (∀ (s : State) (tg : Fin 10) (w : Word), s.sys.mgmtUp = true → s.sup.vstate ≠ 2 →
  let id := w.toNat % 1024
  (tg.val < 5 → idValid id = true → ∀ l n rest, (edTgtGet s tg).stack = (l, n) :: rest → Answers (.edComplete tg w) s fun u =>
    OnlyEd s u ∧ (edTgtGet u tg).stack = rest ∧ (n < 384 → (edSrcGet u n).inserv = none) ∧
    u.ed.eoiErr = (if n = id then s.ed.eoiErr else satAdd 16 s.ed.eoiErr 1)) ∧
  (tg.val < 5 → (edTgtGet s tg).stack = [] → Answers (.edComplete tg w) s fun u => OnlyEd s u ∧
    u.ed.eoiErr = satAdd 16 s.ed.eoiErr 1) ∧
  (5 ≤ tg.val → ∀ l, (l, id) ∈ (edTgtGet s tg).claimed → Answers (.edComplete tg w) s fun u => OnlyEd s u ∧
    u.ed.eoiErr = s.ed.eoiErr ∧ (edTgtGet u tg).claimed.length + 1 = (edTgtGet s tg).claimed.length ∧
    (id < 384 → (edSrcGet u id).inserv = none)) ∧
  (5 ≤ tg.val → (∀ e ∈ (edTgtGet s tg).claimed, e.2 ≠ id) → Answers (.edComplete tg w) s fun u => OnlyEd s u ∧
    u.ed.eoiErr = satAdd 16 s.ed.eoiErr 1 ∧ (edTgtGet u tg).claimed = (edTgtGet s tg).claimed))

/-- R444 to R447, Table 20.2: GO while busy posts later, of no bytes completes at once, with a bad range is rejected, and else
starts the scan; STOP and the scan's end post their outcome, and with them the GOs that were ignored. R448, R449, R451, KL-04: a
write of RUNLO loads both halves with the held upper half, a read of it latches the upper half of the value returned; while BUSY
the writes are lost, and the object RUN is refused. -/
def Obligations.CrcUnits : Prop :=
  (∀ (s : State) (n : Fin 2) (init : Bool),
  let x := crcUnit s n
  let done := fun (o : Nat) (u : State) => (crcUnit u n).busy = false ∧ (crcUnit u n).outcome = o ∧
    (crcUnit u n).result = BitVec.ofNat 64 (crcCheck (crcUnit u n).shownPoly (crcUnit u n)) ∧
    (resGet u (0x030010 + 0x40 * n)).valid = true ∧ (resGet u (0x030010 + 0x40 * n)).fresh = true
  (s.sys.mgmtUp = true →
    (x.busy = true → Answers (.crcGo n init) s fun u => u = crcSet n { x with goIgnored := x.goIgnored + 1 } s) ∧
    (x.busy = false → x.len = 0 → Answers (.crcGo n init) s fun u => done 1 u ∧ (crcUnit u n).run = x.run ∧ Kept u s) ∧
    (x.busy = false → x.len ≠ 0 → crcRangeOk x.start x.len = false → Answers (.crcGo n init) s fun u => done 2 u ∧
      (crcUnit u n).run = x.run ∧ Kept u s) ∧
    (x.busy = false → x.len ≠ 0 → crcRangeOk x.start x.len = true → Answers (.crcGo n init) s fun u => u = crcSet n { x with
      busy := true, sPoly := x.poly, sAddr := x.start, sLeft := x.len
      run := BitVec.ofNat 64 (if init then crcInit x.poly else crcRun x.poly x) } s)) ∧
  (x.busy = true → x.goIgnored = 0 →
    Answers (.crcStop n) s (fun u => done 3 u ∧ Kept u s) ∧
    Answers (.crcScanDone n) s (fun u => done 1 u ∧ (crcUnit u n).shownPoly = x.sPoly ∧
      (crcUnit u n).run = (crcUnit (crcWords n (ceilDiv x.sLeft 4) s) n).run ∧ Kept u s)) ∧
  (x.busy = true → x.goIgnored ≠ 0 → Answers (.crcScanDone n) s (done 0)) ∧
  (x.busy = false → Answers (.crcStop n) s fun u => u = s)) ∧
  (∀ (s : State) (n : Fin 2) (w : Word) (v : BitVec 64), s.sys.mgmtUp = true →
  let x := crcUnit s n
  (x.busy = false →
    Answers (.crcRunloWrite n w) s (fun u => u = crcSet n { x with run := x.runHiHold ++ w } s) ∧
    Answers (.crcRunhiWrite n w) s (fun u => u = crcSet n { x with runHiHold := w } s) ∧
    Answers (.crcRunloRead n) s (fun u => u = crcSet n { x with runHiLatch := BitVec.ofNat 32 (crcShown x / 2 ^ 32) } s) ∧
    (s.sup.vstate ≠ 2 → Answers (.crcRunWrite n v) s fun u => crcUnit u n = { x with run := v } ∧
      RespondedTo .host 0x1700 (5 + 0x10 * n) 8 0 s u)) ∧
  (x.busy = true →
    Answers (.crcRunloWrite n w) s (fun u => u = s) ∧ Answers (.crcRunhiWrite n w) s (fun u => u = s) ∧
    (s.sup.vstate ≠ 2 → Answers (.crcRunWrite n v) s fun u => crcUnit u n = x ∧ RespondedTo .host 0x1700 (5 + 0x10 * n) 8 0x0640 s u)))

/-- R453, R454, R456, R460: on the grid of system time slot 0 begins a cycle, with an armed page swap whose time has come, and a
later slot follows the one before; with the matrix off every output is off; after pre-charge the row and the sinks of its lit
dies conduct. R455, R457 to R459: two open samples in a row latch a die; the lit sample of an even cycle and the dark one after
it make a reading; 32 readings step each trim by at most 1 within 128 to 384; event and open latches are cleared by writing 1.
R460: SHOW of another page arms the swap in place of an armed one, late where its time lies more than a cycle back; a SHOW of
the page shown posts the last result again (the model's choice, assumption 26). -/
def Obligations.IndicatorMatrix : Prop :=
  (∀ (s : State) (t : Nat) (d : Fin 48),
  let T := (advance t s).sys.sysTime.toNat
  (lmOn s = false → Answers (.lmSlotStart t) s fun u => u.lm.run = false ∧ u.lm.row = none ∧ u.lm.pre = false ∧ u.lm.sinks = 0 ∧
    u.lm.page = s.lm.page ∧ Kept u s) ∧
  (lmOn s = true → T % 832000 = 0 → Answers (.lmSlotStart t) s fun u => SlotBegins 0 (T / 832000) u ∧ Kept u s ∧
    (s.lm.armed = none → u.lm.page = s.lm.page) ∧
    (∀ pg tm late, s.lm.armed = some (pg, tm, late) →
      (T < tm → u.lm.page = s.lm.page ∧ u.lm.armed = s.lm.armed) ∧
      (tm ≤ T → u.lm.page = pg ∧ u.lm.armed = none ∧ u.lm.swapTime.toNat = T ∧ u.lm.swapLate = (late || !s.zl.sync) ∧
        (resGet u 0x5C0040).fresh = true))) ∧
  (lmOn s = true → T % 64000 = 0 → T % 832000 ≠ 0 → s.lm.run = true → s.lm.cycle = T / 832000 → s.lm.slot + 1 = T % 832000 / 64000 →
    Answers (.lmSlotStart t) s fun u => SlotBegins (s.lm.slot + 1) s.lm.cycle u ∧ u.lm.page = s.lm.page) ∧
  (lmOn s = true → s.lm.run = true → s.lm.pre = true → s.lm.slot < 12 → Answers (.lmPrechargeEnd t) s fun u =>
    u = { advance t s with lm := { s.lm with pre := false, row := some s.lm.slot, sinks := u.lm.sinks } } ∧
    bget u.lm.sinks d = decide (0 < lmOnNow s d)) ∧
  Answers (.lmSinkOff d) s (fun u => u = { s with lm := { s.lm with sinks := u.lm.sinks } } ∧
    ∀ k, k < 48 → bget u.lm.sinks k = (bget s.lm.sinks k && decide (k ≠ d.val)))) ∧
  (∀ (s : State) (d : Fin 48) (x : SinkReading) (r g b : BitVec 12) (v : BitVec 4) (k : Fin 18) (w : Word),
  (∀ row, s.lm.row = some row → cfgF s 0x5800 8 = true → s.lm.slot < 12 → 64 ≤ lmOnNow s d → bget s.lm.sinks d = true →
    let die := 48 * row + d
    let o := decide (x.mv < 300 ∧ 3000 ≤ x.supply ∧ x.supply ≤ 5500)
    Answers (.lmDiagSample d x) s fun u => Kept u s ∧ mget false u.lm.openRun die = o ∧
      mget false u.lm.open_ die = (mget false s.lm.open_ die || (o && mget false s.lm.openRun die)) ∧
      (o = true → mget false s.lm.openRun die = true → bget u.lm.evt 0 = true)) ∧
  (lmOn s = true → s.lm.run = true → s.lm.slot = 12 → cfgF s 0x5800 9 = true →
    (s.lm.cycle % 2 = 0 → Answers (.lmMeasureSlot r g b) s fun u => u.lm.lit = some (r.toNat, g.toNat, b.toNat) ∧
      u.lm.sinks = 0 ∧ u.lm.row = none ∧ u.lm.nRead = s.lm.nRead ∧ Kept u s) ∧
    (∀ lr lg lb, s.lm.cycle % 2 = 1 → s.lm.lit = some (lr, lg, lb) → Answers (.lmMeasureSlot r g b) s fun u => u.lm.lit = none ∧
      u.lm.sumR = s.lm.sumR + lr - r.toNat ∧ u.lm.sumG = s.lm.sumG + lg - g.toNat ∧ u.lm.sumB = s.lm.sumB + lb - b.toNat ∧
      u.lm.nRead = s.lm.nRead + 1 ∧ Kept u s)) ∧
  (hasTrack s = true → s.sys.mgmtUp = true →
    (cfgF s 0x5800 9 = false → Answers .lmRegulationPeriod s fun u => u = { s with lm := { s.lm with trimR := 256, trimG := 256, trimB := 256 } }) ∧
    (cfgF s 0x5800 9 = true → 32 ≤ s.lm.nRead → (∀ c, c < 3 → 128 ≤ lmTrim s.lm c ∧ lmTrim s.lm c ≤ 384) →
      Answers .lmRegulationPeriod s fun u => Kept u s ∧ u.lm.nRead = 0 ∧ u.lm.sumR = 0 ∧ u.lm.sumG = 0 ∧ u.lm.sumB = 0 ∧
        ∀ c, c < 3 → 128 ≤ lmTrim u.lm c ∧ lmTrim u.lm c ≤ 384 ∧ lmTrim u.lm c ≤ lmTrim s.lm c + 1 ∧
          lmTrim s.lm c ≤ lmTrim u.lm c + 1) ∧
    Answers (.lmEvtWrite v) s fun u => u = { s with lm := { s.lm with evt := s.lm.evt &&& ~~~v }, ed := u.ed }) ∧
  Answers (.lmOpenWrite k w) s (fun u => u = { s with lm := { s.lm with open_ := u.lm.open_ } } ∧
    ∀ j, mget false u.lm.open_ j = (mget false s.lm.open_ j && !(decide (j / 32 = k.val) && w.getLsbD (j % 32))))) ∧
  (∀ (s : State) (page : Fin 2) (tm : BitVec 64), hasTrack s = true → s.sys.mgmtUp = true →
  (page.val ≠ s.lm.page → Answers (.lmShow page tm) s fun u => u = { s with lm := { s.lm with
    showTime := tm, armed := some (page.val, tm.toNat, decide (tm.toNat + 832000 < s.sys.sysTime.toNat)) } }) ∧
  (page.val = s.lm.page → Answers (.lmShow page tm) s fun u => u.lm = { s.lm with showTime := tm } ∧
    (resGet u 0x5C0040).fresh = true ∧ Kept u s))
end

