-- ==== Sys2Proof/Laws/SMap.lean ====
section
/-! SUPPORT. Laws/SMap.lean: the laws of the sparse map, in which every memory, buffer and register file of the block is held: a read
after a write, and the canonical form (keys strictly rising, no entry equal to the default), which every write keeps. -/

namespace Sys2Proof.Machine

/-! ### Reading after a write -/

/-- The key just inserted reads as its value. -/
@[simp] theorem mget_mput_same {α : Type} (d : α) (m : SMap α) (k : Nat) (v : α) : mget d (mput m k v) k = v := by
  induction m with
  | nil => simp [mput, mget]
  | cons e m ih =>
    obtain ⟨k', x⟩ := e
    unfold mput
    (repeat' split) <;> simp_all [mget]

/-- Every other key reads as before. -/
theorem mget_mput_other {α : Type} (d : α) (m : SMap α) (k j : Nat) (v : α) (h : j ≠ k) : mget d (mput m k v) j = mget d m j := by
  induction m with
  | nil => simp [mput, mget, h]
  | cons e m ih =>
    obtain ⟨k', x⟩ := e
    unfold mput
    (repeat' split) <;> simp_all [mget]

/-- A deleted key reads as the default. -/
@[simp] theorem mget_mdel_same {α : Type} (d : α) (m : SMap α) (k : Nat) : mget d (mdel m k) k = d := by
  induction m with
  | nil => rfl
  | cons e m ih =>
    obtain ⟨k', x⟩ := e
    unfold mdel
    (repeat' split) <;> simp_all [mget]

/-- Every other key reads as before. -/
theorem mget_mdel_other {α : Type} (d : α) (m : SMap α) (k j : Nat) (h : j ≠ k) : mget d (mdel m k) j = mget d m j := by
  induction m with
  | nil => rfl
  | cons e m ih =>
    obtain ⟨k', x⟩ := e
    unfold mdel
    (repeat' split) <;> simp_all [mget]

/-- A written key reads as its value. -/
@[simp] theorem mget_mset_same {α : Type} [DecidableEq α] (d : α) (m : SMap α) (k : Nat) (v : α) : mget d (mset d m k v) k = v := by
  unfold mset
  split
  · rw [mget_mdel_same]; simp_all
  · exact mget_mput_same d m k v

/-- An updated key reads as the new value. -/
@[simp] theorem mget_mupd_same {α : Type} [DecidableEq α] (d : α) (m : SMap α) (k : Nat) (f : α → α) :
    mget d (mupd d m k f) k = f (mget d m k) := mget_mset_same d m k _

/-- Every other key reads as before. -/
@[simp] theorem mget_mset_other {α : Type} [DecidableEq α] (d : α) (m : SMap α) (k j : Nat) (v : α) (h : j ≠ k) :
    mget d (mset d m k v) j = mget d m j := by
  unfold mset
  split
  · exact mget_mdel_other d m k j h
  · exact mget_mput_other d m k j v h

@[simp] theorem mget_mupd_other {α : Type} [DecidableEq α] (d : α) (m : SMap α) (k j : Nat) (f : α → α) (h : j ≠ k) :
    mget d (mupd d m k f) j = mget d m j := mget_mset_other d m k j _ h

/-! ### The canonical form -/

/-- A lower bound may be lowered. -/
theorem mwfFrom_mono {α : Type} [DecidableEq α] (d : α) (lo lo' : Nat) (m : SMap α) (h : mwfFrom d lo m = true) (hl : lo' ≤ lo) :
    mwfFrom d lo' m = true := by
  cases m with
  | nil => rfl
  | cons e m =>
    simp only [mwfFrom, Bool.and_eq_true, decide_eq_true_eq] at *
    exact ⟨⟨by omega, h.1.2⟩, h.2⟩

theorem mwfFrom_mput {α : Type} [DecidableEq α] (d : α) (lo k : Nat) (m : SMap α) (v : α) (h : mwfFrom d lo m = true) (hk : lo ≤ k)
    (hv : v ≠ d) : mwfFrom d lo (mput m k v) = true := by
  induction m generalizing lo with
  | nil => simp [mput, mwfFrom, hk, hv]
  | cons e m ih =>
    obtain ⟨k', x⟩ := e
    simp [mwfFrom] at h
    unfold mput
    split
    · simp [mwfFrom, hk, hv, h.1.2, h.2]; omega
    · split
      · subst k; simp [mwfFrom, hk, hv, h.2]
      · simp only [mwfFrom, Bool.and_eq_true, decide_eq_true_eq]
        exact ⟨h.1, ih _ h.2 (by omega)⟩

theorem mwfFrom_mdel {α : Type} [DecidableEq α] (d : α) (lo k : Nat) (m : SMap α) (h : mwfFrom d lo m = true) :
    mwfFrom d lo (mdel m k) = true := by
  induction m generalizing lo with
  | nil => rfl
  | cons e m ih =>
    obtain ⟨k', x⟩ := e
    simp [mwfFrom] at h
    unfold mdel
    split
    · exact ih _ (mwfFrom_mono d _ _ m h.2 (by omega))
    · simp only [mwfFrom, Bool.and_eq_true, decide_eq_true_eq]
      exact ⟨h.1, ih _ h.2⟩

/-- A write keeps the canonical form. -/
theorem mwf_mset {α : Type} [DecidableEq α] (d : α) (m : SMap α) (k : Nat) (v : α) (h : mwf d m = true) :
    mwf d (mset d m k v) = true := by
  unfold mset
  split
  · exact mwfFrom_mdel d 0 k m h
  · exact mwfFrom_mput d 0 k m v h (Nat.zero_le _) (by assumption)

/-- An update in place keeps the canonical form. -/
theorem mwf_mupd {α : Type} [DecidableEq α] (d : α) (m : SMap α) (k : Nat) (f : α → α) (h : mwf d m = true) :
    mwf d (mupd d m k f) = true := mwf_mset d m k _ h

/-- A run of writes keeps the canonical form. -/
theorem mwf_mputs {α : Type} [DecidableEq α] (d : α) (m : SMap α) (k : Nat) (vs : List α) (h : mwf d m = true) :
    mwf d (mputs d m k vs) = true := by
  induction vs generalizing m k with
  | nil => exact h
  | cons v vs ih => exact ih _ _ (mwf_mset d m k v h)

end Sys2Proof.Machine
end

