-- ==== Sys2Proof/Laws/State.lean ====
section
/-! SUPPORT. Laws/State.lean: what the shared writes of the state read as: one lemma per write and field, so that no proof unfolds a
record update. -/

namespace Sys2Proof.Machine

/-! ### Channels -/

@[simp] theorem getC_setC_same (c : Chan) (f : Saf) (s : State) : getC (setC c f s) c = f := by cases c <;> rfl
@[simp] theorem getC_setC_other (c : Chan) (f : Saf) (s : State) : getC (setC c f s) (otherC c) = getC s (otherC c) := by
  cases c <;> rfl
@[simp] theorem setC_sys (c : Chan) (f : Saf) (s : State) : (setC c f s).sys = s.sys := by cases c <;> rfl
@[simp] theorem setC_sup (c : Chan) (f : Saf) (s : State) : (setC c f s).sup = s.sup := by cases c <;> rfl
@[simp] theorem setC_mw (c : Chan) (f : Saf) (s : State) : (setC c f s).mw = s.mw := by cases c <;> rfl
@[simp] theorem setC_pw (c : Chan) (f : Saf) (s : State) : (setC c f s).pw = s.pw := by cases c <;> rfl
@[simp] theorem setC_wc (c : Chan) (f : Saf) (s : State) : (setC c f s).wc = s.wc := by cases c <;> rfl
@[simp] theorem setC_mir (c : Chan) (f : Saf) (s : State) : (setC c f s).mir = s.mir := by cases c <;> rfl
@[simp] theorem setC_ex (c : Chan) (f : Saf) (s : State) : (setC c f s).ex = s.ex := by cases c <;> rfl
@[simp] theorem setC_gov (c : Chan) (f : Saf) (s : State) : (setC c f s).gov = s.gov := by cases c <;> rfl
@[simp] theorem setC_rx (c : Chan) (f : Saf) (s : State) : (setC c f s).rx = s.rx := by cases c <;> rfl
@[simp] theorem setC_rq (c : Chan) (f : Saf) (s : State) : (setC c f s).rq = s.rq := by cases c <;> rfl
@[simp] theorem setC_hg (c : Chan) (f : Saf) (s : State) : (setC c f s).hg = s.hg := by cases c <;> rfl
@[simp] theorem setC_ne (c : Chan) (f : Saf) (s : State) : (setC c f s).ne = s.ne := by cases c <;> rfl
@[simp] theorem setC_ac (c : Chan) (f : Saf) (s : State) : (setC c f s).ac = s.ac := by cases c <;> rfl
@[simp] theorem setC_fp (c : Chan) (f : Saf) (s : State) : (setC c f s).fp = s.fp := by cases c <;> rfl
@[simp] theorem setC_ze (c : Chan) (f : Saf) (s : State) : (setC c f s).ze = s.ze := by cases c <;> rfl
@[simp] theorem setC_ps (c : Chan) (f : Saf) (s : State) : (setC c f s).ps = s.ps := by cases c <;> rfl
@[simp] theorem setC_out (c : Chan) (f : Saf) (s : State) : (setC c f s).out = s.out := by cases c <;> rfl
@[simp] theorem setC_cf (c : Chan) (f : Saf) (s : State) : (setC c f s).cf = s.cf := by cases c <;> rfl
@[simp] theorem setC_sess (c : Chan) (f : Saf) (s : State) : (setC c f s).sess = s.sess := by cases c <;> rfl
@[simp] theorem setC_tf (c : Chan) (f : Saf) (s : State) : (setC c f s).tf = s.tf := by cases c <;> rfl
@[simp] theorem setC_ax (c : Chan) (f : Saf) (s : State) : (setC c f s).ax = s.ax := by cases c <;> rfl
@[simp] theorem setC_zl (c : Chan) (f : Saf) (s : State) : (setC c f s).zl = s.zl := by cases c <;> rfl
@[simp] theorem setC_dc (c : Chan) (f : Saf) (s : State) : (setC c f s).dc = s.dc := by cases c <;> rfl
@[simp] theorem setC_hp (c : Chan) (f : Saf) (s : State) : (setC c f s).hp = s.hp := by cases c <;> rfl
@[simp] theorem setC_ed (c : Chan) (f : Saf) (s : State) : (setC c f s).ed = s.ed := by cases c <;> rfl
@[simp] theorem setC_crc0 (c : Chan) (f : Saf) (s : State) : (setC c f s).crc0 = s.crc0 := by cases c <;> rfl
@[simp] theorem setC_crc1 (c : Chan) (f : Saf) (s : State) : (setC c f s).crc1 = s.crc1 := by cases c <;> rfl
@[simp] theorem setC_lm (c : Chan) (f : Saf) (s : State) : (setC c f s).lm = s.lm := by cases c <;> rfl
@[simp] theorem setC_res (c : Chan) (f : Saf) (s : State) : (setC c f s).res = s.res := by cases c <;> rfl
@[simp] theorem setC_regs (c : Chan) (f : Saf) (s : State) : (setC c f s).regs = s.regs := by cases c <;> rfl
@[simp] theorem setC_pending (c : Chan) (f : Saf) (s : State) : (setC c f s).pending = s.pending := by cases c <;> rfl

/-! ### Items of a unit -/

@[simp] theorem advance_sup (t : Nat) (s : State) : (advance t s).sup = s.sup := rfl
@[simp] theorem advance_mw (t : Nat) (s : State) : (advance t s).mw = s.mw := rfl
@[simp] theorem advance_pw (t : Nat) (s : State) : (advance t s).pw = s.pw := rfl
@[simp] theorem advance_wc (t : Nat) (s : State) : (advance t s).wc = s.wc := rfl
@[simp] theorem advance_mir (t : Nat) (s : State) : (advance t s).mir = s.mir := rfl
@[simp] theorem advance_ex (t : Nat) (s : State) : (advance t s).ex = s.ex := rfl
@[simp] theorem advance_gov (t : Nat) (s : State) : (advance t s).gov = s.gov := rfl
@[simp] theorem advance_rx (t : Nat) (s : State) : (advance t s).rx = s.rx := rfl
@[simp] theorem advance_rq (t : Nat) (s : State) : (advance t s).rq = s.rq := rfl
@[simp] theorem advance_hg (t : Nat) (s : State) : (advance t s).hg = s.hg := rfl
@[simp] theorem advance_ne (t : Nat) (s : State) : (advance t s).ne = s.ne := rfl
@[simp] theorem advance_ac (t : Nat) (s : State) : (advance t s).ac = s.ac := rfl
@[simp] theorem advance_fp (t : Nat) (s : State) : (advance t s).fp = s.fp := rfl
@[simp] theorem advance_ze (t : Nat) (s : State) : (advance t s).ze = s.ze := rfl
@[simp] theorem advance_ps (t : Nat) (s : State) : (advance t s).ps = s.ps := rfl
@[simp] theorem advance_safA (t : Nat) (s : State) : (advance t s).safA = s.safA := rfl
@[simp] theorem advance_safB (t : Nat) (s : State) : (advance t s).safB = s.safB := rfl
@[simp] theorem advance_out (t : Nat) (s : State) : (advance t s).out = s.out := rfl
@[simp] theorem advance_cf (t : Nat) (s : State) : (advance t s).cf = s.cf := rfl
@[simp] theorem advance_sess (t : Nat) (s : State) : (advance t s).sess = s.sess := rfl
@[simp] theorem advance_tf (t : Nat) (s : State) : (advance t s).tf = s.tf := rfl
@[simp] theorem advance_ax (t : Nat) (s : State) : (advance t s).ax = s.ax := rfl
@[simp] theorem advance_zl (t : Nat) (s : State) : (advance t s).zl = s.zl := rfl
@[simp] theorem advance_dc (t : Nat) (s : State) : (advance t s).dc = s.dc := rfl
@[simp] theorem advance_hp (t : Nat) (s : State) : (advance t s).hp = s.hp := rfl
@[simp] theorem advance_ed (t : Nat) (s : State) : (advance t s).ed = s.ed := rfl
@[simp] theorem advance_crc0 (t : Nat) (s : State) : (advance t s).crc0 = s.crc0 := rfl
@[simp] theorem advance_crc1 (t : Nat) (s : State) : (advance t s).crc1 = s.crc1 := rfl
@[simp] theorem advance_lm (t : Nat) (s : State) : (advance t s).lm = s.lm := rfl
@[simp] theorem advance_res (t : Nat) (s : State) : (advance t s).res = s.res := rfl
@[simp] theorem advance_regs (t : Nat) (s : State) : (advance t s).regs = s.regs := rfl
@[simp] theorem advance_pending (t : Nat) (s : State) : (advance t s).pending = s.pending := rfl

@[simp] theorem drawn_sup (s : State) : (drawn s).sup = s.sup := rfl
@[simp] theorem drawn_mw (s : State) : (drawn s).mw = s.mw := rfl
@[simp] theorem drawn_pw (s : State) : (drawn s).pw = s.pw := rfl
@[simp] theorem drawn_wc (s : State) : (drawn s).wc = s.wc := rfl
@[simp] theorem drawn_mir (s : State) : (drawn s).mir = s.mir := rfl
@[simp] theorem drawn_ex (s : State) : (drawn s).ex = s.ex := rfl
@[simp] theorem drawn_gov (s : State) : (drawn s).gov = s.gov := rfl
@[simp] theorem drawn_rx (s : State) : (drawn s).rx = s.rx := rfl
@[simp] theorem drawn_rq (s : State) : (drawn s).rq = s.rq := rfl
@[simp] theorem drawn_hg (s : State) : (drawn s).hg = s.hg := rfl
@[simp] theorem drawn_ne (s : State) : (drawn s).ne = s.ne := rfl
@[simp] theorem drawn_ac (s : State) : (drawn s).ac = s.ac := rfl
@[simp] theorem drawn_fp (s : State) : (drawn s).fp = s.fp := rfl
@[simp] theorem drawn_ze (s : State) : (drawn s).ze = s.ze := rfl
@[simp] theorem drawn_ps (s : State) : (drawn s).ps = s.ps := rfl
@[simp] theorem drawn_safA (s : State) : (drawn s).safA = s.safA := rfl
@[simp] theorem drawn_safB (s : State) : (drawn s).safB = s.safB := rfl
@[simp] theorem drawn_out (s : State) : (drawn s).out = s.out := rfl
@[simp] theorem drawn_cf (s : State) : (drawn s).cf = s.cf := rfl
@[simp] theorem drawn_sess (s : State) : (drawn s).sess = s.sess := rfl
@[simp] theorem drawn_tf (s : State) : (drawn s).tf = s.tf := rfl
@[simp] theorem drawn_ax (s : State) : (drawn s).ax = s.ax := rfl
@[simp] theorem drawn_zl (s : State) : (drawn s).zl = s.zl := rfl
@[simp] theorem drawn_dc (s : State) : (drawn s).dc = s.dc := rfl
@[simp] theorem drawn_hp (s : State) : (drawn s).hp = s.hp := rfl
@[simp] theorem drawn_ed (s : State) : (drawn s).ed = s.ed := rfl
@[simp] theorem drawn_crc0 (s : State) : (drawn s).crc0 = s.crc0 := rfl
@[simp] theorem drawn_crc1 (s : State) : (drawn s).crc1 = s.crc1 := rfl
@[simp] theorem drawn_lm (s : State) : (drawn s).lm = s.lm := rfl
@[simp] theorem drawn_res (s : State) : (drawn s).res = s.res := rfl
@[simp] theorem drawn_regs (s : State) : (drawn s).regs = s.regs := rfl
@[simp] theorem drawn_pending (s : State) : (drawn s).pending = s.pending := rfl

@[simp] theorem regPut_sys (a v : Nat) (s : State) : (regPut a v s).sys = s.sys := rfl
@[simp] theorem regPut_sup (a v : Nat) (s : State) : (regPut a v s).sup = s.sup := rfl
@[simp] theorem regPut_mw (a v : Nat) (s : State) : (regPut a v s).mw = s.mw := rfl
@[simp] theorem regPut_pw (a v : Nat) (s : State) : (regPut a v s).pw = s.pw := rfl
@[simp] theorem regPut_wc (a v : Nat) (s : State) : (regPut a v s).wc = s.wc := rfl
@[simp] theorem regPut_mir (a v : Nat) (s : State) : (regPut a v s).mir = s.mir := rfl
@[simp] theorem regPut_ex (a v : Nat) (s : State) : (regPut a v s).ex = s.ex := rfl
@[simp] theorem regPut_gov (a v : Nat) (s : State) : (regPut a v s).gov = s.gov := rfl
@[simp] theorem regPut_rx (a v : Nat) (s : State) : (regPut a v s).rx = s.rx := rfl
@[simp] theorem regPut_rq (a v : Nat) (s : State) : (regPut a v s).rq = s.rq := rfl
@[simp] theorem regPut_hg (a v : Nat) (s : State) : (regPut a v s).hg = s.hg := rfl
@[simp] theorem regPut_ne (a v : Nat) (s : State) : (regPut a v s).ne = s.ne := rfl
@[simp] theorem regPut_ac (a v : Nat) (s : State) : (regPut a v s).ac = s.ac := rfl
@[simp] theorem regPut_fp (a v : Nat) (s : State) : (regPut a v s).fp = s.fp := rfl
@[simp] theorem regPut_ze (a v : Nat) (s : State) : (regPut a v s).ze = s.ze := rfl
@[simp] theorem regPut_ps (a v : Nat) (s : State) : (regPut a v s).ps = s.ps := rfl
@[simp] theorem regPut_safA (a v : Nat) (s : State) : (regPut a v s).safA = s.safA := rfl
@[simp] theorem regPut_safB (a v : Nat) (s : State) : (regPut a v s).safB = s.safB := rfl
@[simp] theorem regPut_out (a v : Nat) (s : State) : (regPut a v s).out = s.out := rfl
@[simp] theorem regPut_cf (a v : Nat) (s : State) : (regPut a v s).cf = s.cf := rfl
@[simp] theorem regPut_sess (a v : Nat) (s : State) : (regPut a v s).sess = s.sess := rfl
@[simp] theorem regPut_tf (a v : Nat) (s : State) : (regPut a v s).tf = s.tf := rfl
@[simp] theorem regPut_ax (a v : Nat) (s : State) : (regPut a v s).ax = s.ax := rfl
@[simp] theorem regPut_zl (a v : Nat) (s : State) : (regPut a v s).zl = s.zl := rfl
@[simp] theorem regPut_dc (a v : Nat) (s : State) : (regPut a v s).dc = s.dc := rfl
@[simp] theorem regPut_hp (a v : Nat) (s : State) : (regPut a v s).hp = s.hp := rfl
@[simp] theorem regPut_ed (a v : Nat) (s : State) : (regPut a v s).ed = s.ed := rfl
@[simp] theorem regPut_crc0 (a v : Nat) (s : State) : (regPut a v s).crc0 = s.crc0 := rfl
@[simp] theorem regPut_crc1 (a v : Nat) (s : State) : (regPut a v s).crc1 = s.crc1 := rfl
@[simp] theorem regPut_lm (a v : Nat) (s : State) : (regPut a v s).lm = s.lm := rfl
@[simp] theorem regPut_res (a v : Nat) (s : State) : (regPut a v s).res = s.res := rfl
@[simp] theorem regPut_pending (a v : Nat) (s : State) : (regPut a v s).pending = s.pending := rfl

@[simp] theorem edSrcSet_sys (n : Nat) (x : EdSrc) (s : State) : (edSrcSet n x s).sys = s.sys := rfl
@[simp] theorem edSrcSet_sup (n : Nat) (x : EdSrc) (s : State) : (edSrcSet n x s).sup = s.sup := rfl
@[simp] theorem edSrcSet_mw (n : Nat) (x : EdSrc) (s : State) : (edSrcSet n x s).mw = s.mw := rfl
@[simp] theorem edSrcSet_pw (n : Nat) (x : EdSrc) (s : State) : (edSrcSet n x s).pw = s.pw := rfl
@[simp] theorem edSrcSet_wc (n : Nat) (x : EdSrc) (s : State) : (edSrcSet n x s).wc = s.wc := rfl
@[simp] theorem edSrcSet_mir (n : Nat) (x : EdSrc) (s : State) : (edSrcSet n x s).mir = s.mir := rfl
@[simp] theorem edSrcSet_ex (n : Nat) (x : EdSrc) (s : State) : (edSrcSet n x s).ex = s.ex := rfl
@[simp] theorem edSrcSet_gov (n : Nat) (x : EdSrc) (s : State) : (edSrcSet n x s).gov = s.gov := rfl
@[simp] theorem edSrcSet_rx (n : Nat) (x : EdSrc) (s : State) : (edSrcSet n x s).rx = s.rx := rfl
@[simp] theorem edSrcSet_rq (n : Nat) (x : EdSrc) (s : State) : (edSrcSet n x s).rq = s.rq := rfl
@[simp] theorem edSrcSet_hg (n : Nat) (x : EdSrc) (s : State) : (edSrcSet n x s).hg = s.hg := rfl
@[simp] theorem edSrcSet_ne (n : Nat) (x : EdSrc) (s : State) : (edSrcSet n x s).ne = s.ne := rfl
@[simp] theorem edSrcSet_ac (n : Nat) (x : EdSrc) (s : State) : (edSrcSet n x s).ac = s.ac := rfl
@[simp] theorem edSrcSet_fp (n : Nat) (x : EdSrc) (s : State) : (edSrcSet n x s).fp = s.fp := rfl
@[simp] theorem edSrcSet_ze (n : Nat) (x : EdSrc) (s : State) : (edSrcSet n x s).ze = s.ze := rfl
@[simp] theorem edSrcSet_ps (n : Nat) (x : EdSrc) (s : State) : (edSrcSet n x s).ps = s.ps := rfl
@[simp] theorem edSrcSet_safA (n : Nat) (x : EdSrc) (s : State) : (edSrcSet n x s).safA = s.safA := rfl
@[simp] theorem edSrcSet_safB (n : Nat) (x : EdSrc) (s : State) : (edSrcSet n x s).safB = s.safB := rfl
@[simp] theorem edSrcSet_out (n : Nat) (x : EdSrc) (s : State) : (edSrcSet n x s).out = s.out := rfl
@[simp] theorem edSrcSet_cf (n : Nat) (x : EdSrc) (s : State) : (edSrcSet n x s).cf = s.cf := rfl
@[simp] theorem edSrcSet_sess (n : Nat) (x : EdSrc) (s : State) : (edSrcSet n x s).sess = s.sess := rfl
@[simp] theorem edSrcSet_tf (n : Nat) (x : EdSrc) (s : State) : (edSrcSet n x s).tf = s.tf := rfl
@[simp] theorem edSrcSet_ax (n : Nat) (x : EdSrc) (s : State) : (edSrcSet n x s).ax = s.ax := rfl
@[simp] theorem edSrcSet_zl (n : Nat) (x : EdSrc) (s : State) : (edSrcSet n x s).zl = s.zl := rfl
@[simp] theorem edSrcSet_dc (n : Nat) (x : EdSrc) (s : State) : (edSrcSet n x s).dc = s.dc := rfl
@[simp] theorem edSrcSet_hp (n : Nat) (x : EdSrc) (s : State) : (edSrcSet n x s).hp = s.hp := rfl
@[simp] theorem edSrcSet_crc0 (n : Nat) (x : EdSrc) (s : State) : (edSrcSet n x s).crc0 = s.crc0 := rfl
@[simp] theorem edSrcSet_crc1 (n : Nat) (x : EdSrc) (s : State) : (edSrcSet n x s).crc1 = s.crc1 := rfl
@[simp] theorem edSrcSet_lm (n : Nat) (x : EdSrc) (s : State) : (edSrcSet n x s).lm = s.lm := rfl
@[simp] theorem edSrcSet_res (n : Nat) (x : EdSrc) (s : State) : (edSrcSet n x s).res = s.res := rfl
@[simp] theorem edSrcSet_regs (n : Nat) (x : EdSrc) (s : State) : (edSrcSet n x s).regs = s.regs := rfl
@[simp] theorem edSrcSet_pending (n : Nat) (x : EdSrc) (s : State) : (edSrcSet n x s).pending = s.pending := rfl

@[simp] theorem edTgtSet_sys (n : Nat) (x : EdTgt) (s : State) : (edTgtSet n x s).sys = s.sys := rfl
@[simp] theorem edTgtSet_sup (n : Nat) (x : EdTgt) (s : State) : (edTgtSet n x s).sup = s.sup := rfl
@[simp] theorem edTgtSet_mw (n : Nat) (x : EdTgt) (s : State) : (edTgtSet n x s).mw = s.mw := rfl
@[simp] theorem edTgtSet_pw (n : Nat) (x : EdTgt) (s : State) : (edTgtSet n x s).pw = s.pw := rfl
@[simp] theorem edTgtSet_wc (n : Nat) (x : EdTgt) (s : State) : (edTgtSet n x s).wc = s.wc := rfl
@[simp] theorem edTgtSet_mir (n : Nat) (x : EdTgt) (s : State) : (edTgtSet n x s).mir = s.mir := rfl
@[simp] theorem edTgtSet_ex (n : Nat) (x : EdTgt) (s : State) : (edTgtSet n x s).ex = s.ex := rfl
@[simp] theorem edTgtSet_gov (n : Nat) (x : EdTgt) (s : State) : (edTgtSet n x s).gov = s.gov := rfl
@[simp] theorem edTgtSet_rx (n : Nat) (x : EdTgt) (s : State) : (edTgtSet n x s).rx = s.rx := rfl
@[simp] theorem edTgtSet_rq (n : Nat) (x : EdTgt) (s : State) : (edTgtSet n x s).rq = s.rq := rfl
@[simp] theorem edTgtSet_hg (n : Nat) (x : EdTgt) (s : State) : (edTgtSet n x s).hg = s.hg := rfl
@[simp] theorem edTgtSet_ne (n : Nat) (x : EdTgt) (s : State) : (edTgtSet n x s).ne = s.ne := rfl
@[simp] theorem edTgtSet_ac (n : Nat) (x : EdTgt) (s : State) : (edTgtSet n x s).ac = s.ac := rfl
@[simp] theorem edTgtSet_fp (n : Nat) (x : EdTgt) (s : State) : (edTgtSet n x s).fp = s.fp := rfl
@[simp] theorem edTgtSet_ze (n : Nat) (x : EdTgt) (s : State) : (edTgtSet n x s).ze = s.ze := rfl
@[simp] theorem edTgtSet_ps (n : Nat) (x : EdTgt) (s : State) : (edTgtSet n x s).ps = s.ps := rfl
@[simp] theorem edTgtSet_safA (n : Nat) (x : EdTgt) (s : State) : (edTgtSet n x s).safA = s.safA := rfl
@[simp] theorem edTgtSet_safB (n : Nat) (x : EdTgt) (s : State) : (edTgtSet n x s).safB = s.safB := rfl
@[simp] theorem edTgtSet_out (n : Nat) (x : EdTgt) (s : State) : (edTgtSet n x s).out = s.out := rfl
@[simp] theorem edTgtSet_cf (n : Nat) (x : EdTgt) (s : State) : (edTgtSet n x s).cf = s.cf := rfl
@[simp] theorem edTgtSet_sess (n : Nat) (x : EdTgt) (s : State) : (edTgtSet n x s).sess = s.sess := rfl
@[simp] theorem edTgtSet_tf (n : Nat) (x : EdTgt) (s : State) : (edTgtSet n x s).tf = s.tf := rfl
@[simp] theorem edTgtSet_ax (n : Nat) (x : EdTgt) (s : State) : (edTgtSet n x s).ax = s.ax := rfl
@[simp] theorem edTgtSet_zl (n : Nat) (x : EdTgt) (s : State) : (edTgtSet n x s).zl = s.zl := rfl
@[simp] theorem edTgtSet_dc (n : Nat) (x : EdTgt) (s : State) : (edTgtSet n x s).dc = s.dc := rfl
@[simp] theorem edTgtSet_hp (n : Nat) (x : EdTgt) (s : State) : (edTgtSet n x s).hp = s.hp := rfl
@[simp] theorem edTgtSet_crc0 (n : Nat) (x : EdTgt) (s : State) : (edTgtSet n x s).crc0 = s.crc0 := rfl
@[simp] theorem edTgtSet_crc1 (n : Nat) (x : EdTgt) (s : State) : (edTgtSet n x s).crc1 = s.crc1 := rfl
@[simp] theorem edTgtSet_lm (n : Nat) (x : EdTgt) (s : State) : (edTgtSet n x s).lm = s.lm := rfl
@[simp] theorem edTgtSet_res (n : Nat) (x : EdTgt) (s : State) : (edTgtSet n x s).res = s.res := rfl
@[simp] theorem edTgtSet_regs (n : Nat) (x : EdTgt) (s : State) : (edTgtSet n x s).regs = s.regs := rfl
@[simp] theorem edTgtSet_pending (n : Nat) (x : EdTgt) (s : State) : (edTgtSet n x s).pending = s.pending := rfl

@[simp] theorem tpSet_sys (p : Nat) (x : Tp) (s : State) : (tpSet p x s).sys = s.sys := rfl
@[simp] theorem tpSet_sup (p : Nat) (x : Tp) (s : State) : (tpSet p x s).sup = s.sup := rfl
@[simp] theorem tpSet_mw (p : Nat) (x : Tp) (s : State) : (tpSet p x s).mw = s.mw := rfl
@[simp] theorem tpSet_pw (p : Nat) (x : Tp) (s : State) : (tpSet p x s).pw = s.pw := rfl
@[simp] theorem tpSet_wc (p : Nat) (x : Tp) (s : State) : (tpSet p x s).wc = s.wc := rfl
@[simp] theorem tpSet_mir (p : Nat) (x : Tp) (s : State) : (tpSet p x s).mir = s.mir := rfl
@[simp] theorem tpSet_ex (p : Nat) (x : Tp) (s : State) : (tpSet p x s).ex = s.ex := rfl
@[simp] theorem tpSet_gov (p : Nat) (x : Tp) (s : State) : (tpSet p x s).gov = s.gov := rfl
@[simp] theorem tpSet_rx (p : Nat) (x : Tp) (s : State) : (tpSet p x s).rx = s.rx := rfl
@[simp] theorem tpSet_rq (p : Nat) (x : Tp) (s : State) : (tpSet p x s).rq = s.rq := rfl
@[simp] theorem tpSet_hg (p : Nat) (x : Tp) (s : State) : (tpSet p x s).hg = s.hg := rfl
@[simp] theorem tpSet_ne (p : Nat) (x : Tp) (s : State) : (tpSet p x s).ne = s.ne := rfl
@[simp] theorem tpSet_ac (p : Nat) (x : Tp) (s : State) : (tpSet p x s).ac = s.ac := rfl
@[simp] theorem tpSet_fp (p : Nat) (x : Tp) (s : State) : (tpSet p x s).fp = s.fp := rfl
@[simp] theorem tpSet_ze (p : Nat) (x : Tp) (s : State) : (tpSet p x s).ze = s.ze := rfl
@[simp] theorem tpSet_ps (p : Nat) (x : Tp) (s : State) : (tpSet p x s).ps = s.ps := rfl
@[simp] theorem tpSet_safA (p : Nat) (x : Tp) (s : State) : (tpSet p x s).safA = s.safA := rfl
@[simp] theorem tpSet_safB (p : Nat) (x : Tp) (s : State) : (tpSet p x s).safB = s.safB := rfl
@[simp] theorem tpSet_cf (p : Nat) (x : Tp) (s : State) : (tpSet p x s).cf = s.cf := rfl
@[simp] theorem tpSet_sess (p : Nat) (x : Tp) (s : State) : (tpSet p x s).sess = s.sess := rfl
@[simp] theorem tpSet_tf (p : Nat) (x : Tp) (s : State) : (tpSet p x s).tf = s.tf := rfl
@[simp] theorem tpSet_ax (p : Nat) (x : Tp) (s : State) : (tpSet p x s).ax = s.ax := rfl
@[simp] theorem tpSet_zl (p : Nat) (x : Tp) (s : State) : (tpSet p x s).zl = s.zl := rfl
@[simp] theorem tpSet_dc (p : Nat) (x : Tp) (s : State) : (tpSet p x s).dc = s.dc := rfl
@[simp] theorem tpSet_hp (p : Nat) (x : Tp) (s : State) : (tpSet p x s).hp = s.hp := rfl
@[simp] theorem tpSet_ed (p : Nat) (x : Tp) (s : State) : (tpSet p x s).ed = s.ed := rfl
@[simp] theorem tpSet_crc0 (p : Nat) (x : Tp) (s : State) : (tpSet p x s).crc0 = s.crc0 := rfl
@[simp] theorem tpSet_crc1 (p : Nat) (x : Tp) (s : State) : (tpSet p x s).crc1 = s.crc1 := rfl
@[simp] theorem tpSet_lm (p : Nat) (x : Tp) (s : State) : (tpSet p x s).lm = s.lm := rfl
@[simp] theorem tpSet_res (p : Nat) (x : Tp) (s : State) : (tpSet p x s).res = s.res := rfl
@[simp] theorem tpSet_regs (p : Nat) (x : Tp) (s : State) : (tpSet p x s).regs = s.regs := rfl
@[simp] theorem tpSet_pending (p : Nat) (x : Tp) (s : State) : (tpSet p x s).pending = s.pending := rfl

@[simp] theorem secSet_sys (k : Nat) (x : Sec) (s : State) : (secSet k x s).sys = s.sys := rfl
@[simp] theorem secSet_sup (k : Nat) (x : Sec) (s : State) : (secSet k x s).sup = s.sup := rfl
@[simp] theorem secSet_mw (k : Nat) (x : Sec) (s : State) : (secSet k x s).mw = s.mw := rfl
@[simp] theorem secSet_pw (k : Nat) (x : Sec) (s : State) : (secSet k x s).pw = s.pw := rfl
@[simp] theorem secSet_wc (k : Nat) (x : Sec) (s : State) : (secSet k x s).wc = s.wc := rfl
@[simp] theorem secSet_mir (k : Nat) (x : Sec) (s : State) : (secSet k x s).mir = s.mir := rfl
@[simp] theorem secSet_ex (k : Nat) (x : Sec) (s : State) : (secSet k x s).ex = s.ex := rfl
@[simp] theorem secSet_gov (k : Nat) (x : Sec) (s : State) : (secSet k x s).gov = s.gov := rfl
@[simp] theorem secSet_rx (k : Nat) (x : Sec) (s : State) : (secSet k x s).rx = s.rx := rfl
@[simp] theorem secSet_rq (k : Nat) (x : Sec) (s : State) : (secSet k x s).rq = s.rq := rfl
@[simp] theorem secSet_hg (k : Nat) (x : Sec) (s : State) : (secSet k x s).hg = s.hg := rfl
@[simp] theorem secSet_ne (k : Nat) (x : Sec) (s : State) : (secSet k x s).ne = s.ne := rfl
@[simp] theorem secSet_ac (k : Nat) (x : Sec) (s : State) : (secSet k x s).ac = s.ac := rfl
@[simp] theorem secSet_fp (k : Nat) (x : Sec) (s : State) : (secSet k x s).fp = s.fp := rfl
@[simp] theorem secSet_ze (k : Nat) (x : Sec) (s : State) : (secSet k x s).ze = s.ze := rfl
@[simp] theorem secSet_ps (k : Nat) (x : Sec) (s : State) : (secSet k x s).ps = s.ps := rfl
@[simp] theorem secSet_safA (k : Nat) (x : Sec) (s : State) : (secSet k x s).safA = s.safA := rfl
@[simp] theorem secSet_safB (k : Nat) (x : Sec) (s : State) : (secSet k x s).safB = s.safB := rfl
@[simp] theorem secSet_out (k : Nat) (x : Sec) (s : State) : (secSet k x s).out = s.out := rfl
@[simp] theorem secSet_cf (k : Nat) (x : Sec) (s : State) : (secSet k x s).cf = s.cf := rfl
@[simp] theorem secSet_sess (k : Nat) (x : Sec) (s : State) : (secSet k x s).sess = s.sess := rfl
@[simp] theorem secSet_tf (k : Nat) (x : Sec) (s : State) : (secSet k x s).tf = s.tf := rfl
@[simp] theorem secSet_zl (k : Nat) (x : Sec) (s : State) : (secSet k x s).zl = s.zl := rfl
@[simp] theorem secSet_dc (k : Nat) (x : Sec) (s : State) : (secSet k x s).dc = s.dc := rfl
@[simp] theorem secSet_hp (k : Nat) (x : Sec) (s : State) : (secSet k x s).hp = s.hp := rfl
@[simp] theorem secSet_ed (k : Nat) (x : Sec) (s : State) : (secSet k x s).ed = s.ed := rfl
@[simp] theorem secSet_crc0 (k : Nat) (x : Sec) (s : State) : (secSet k x s).crc0 = s.crc0 := rfl
@[simp] theorem secSet_crc1 (k : Nat) (x : Sec) (s : State) : (secSet k x s).crc1 = s.crc1 := rfl
@[simp] theorem secSet_lm (k : Nat) (x : Sec) (s : State) : (secSet k x s).lm = s.lm := rfl
@[simp] theorem secSet_res (k : Nat) (x : Sec) (s : State) : (secSet k x s).res = s.res := rfl
@[simp] theorem secSet_regs (k : Nat) (x : Sec) (s : State) : (secSet k x s).regs = s.regs := rfl
@[simp] theorem secSet_pending (k : Nat) (x : Sec) (s : State) : (secSet k x s).pending = s.pending := rfl

@[simp] theorem hdSet_sys (h : Nat) (x : Head) (s : State) : (hdSet h x s).sys = s.sys := rfl
@[simp] theorem hdSet_sup (h : Nat) (x : Head) (s : State) : (hdSet h x s).sup = s.sup := rfl
@[simp] theorem hdSet_mw (h : Nat) (x : Head) (s : State) : (hdSet h x s).mw = s.mw := rfl
@[simp] theorem hdSet_pw (h : Nat) (x : Head) (s : State) : (hdSet h x s).pw = s.pw := rfl
@[simp] theorem hdSet_wc (h : Nat) (x : Head) (s : State) : (hdSet h x s).wc = s.wc := rfl
@[simp] theorem hdSet_mir (h : Nat) (x : Head) (s : State) : (hdSet h x s).mir = s.mir := rfl
@[simp] theorem hdSet_ex (h : Nat) (x : Head) (s : State) : (hdSet h x s).ex = s.ex := rfl
@[simp] theorem hdSet_gov (h : Nat) (x : Head) (s : State) : (hdSet h x s).gov = s.gov := rfl
@[simp] theorem hdSet_rx (h : Nat) (x : Head) (s : State) : (hdSet h x s).rx = s.rx := rfl
@[simp] theorem hdSet_rq (h : Nat) (x : Head) (s : State) : (hdSet h x s).rq = s.rq := rfl
@[simp] theorem hdSet_hg (h : Nat) (x : Head) (s : State) : (hdSet h x s).hg = s.hg := rfl
@[simp] theorem hdSet_ne (h : Nat) (x : Head) (s : State) : (hdSet h x s).ne = s.ne := rfl
@[simp] theorem hdSet_ac (h : Nat) (x : Head) (s : State) : (hdSet h x s).ac = s.ac := rfl
@[simp] theorem hdSet_fp (h : Nat) (x : Head) (s : State) : (hdSet h x s).fp = s.fp := rfl
@[simp] theorem hdSet_ze (h : Nat) (x : Head) (s : State) : (hdSet h x s).ze = s.ze := rfl
@[simp] theorem hdSet_ps (h : Nat) (x : Head) (s : State) : (hdSet h x s).ps = s.ps := rfl
@[simp] theorem hdSet_safA (h : Nat) (x : Head) (s : State) : (hdSet h x s).safA = s.safA := rfl
@[simp] theorem hdSet_safB (h : Nat) (x : Head) (s : State) : (hdSet h x s).safB = s.safB := rfl
@[simp] theorem hdSet_out (h : Nat) (x : Head) (s : State) : (hdSet h x s).out = s.out := rfl
@[simp] theorem hdSet_cf (h : Nat) (x : Head) (s : State) : (hdSet h x s).cf = s.cf := rfl
@[simp] theorem hdSet_sess (h : Nat) (x : Head) (s : State) : (hdSet h x s).sess = s.sess := rfl
@[simp] theorem hdSet_tf (h : Nat) (x : Head) (s : State) : (hdSet h x s).tf = s.tf := rfl
@[simp] theorem hdSet_zl (h : Nat) (x : Head) (s : State) : (hdSet h x s).zl = s.zl := rfl
@[simp] theorem hdSet_dc (h : Nat) (x : Head) (s : State) : (hdSet h x s).dc = s.dc := rfl
@[simp] theorem hdSet_hp (h : Nat) (x : Head) (s : State) : (hdSet h x s).hp = s.hp := rfl
@[simp] theorem hdSet_ed (h : Nat) (x : Head) (s : State) : (hdSet h x s).ed = s.ed := rfl
@[simp] theorem hdSet_crc0 (h : Nat) (x : Head) (s : State) : (hdSet h x s).crc0 = s.crc0 := rfl
@[simp] theorem hdSet_crc1 (h : Nat) (x : Head) (s : State) : (hdSet h x s).crc1 = s.crc1 := rfl
@[simp] theorem hdSet_lm (h : Nat) (x : Head) (s : State) : (hdSet h x s).lm = s.lm := rfl
@[simp] theorem hdSet_res (h : Nat) (x : Head) (s : State) : (hdSet h x s).res = s.res := rfl
@[simp] theorem hdSet_regs (h : Nat) (x : Head) (s : State) : (hdSet h x s).regs = s.regs := rfl
@[simp] theorem hdSet_pending (h : Nat) (x : Head) (s : State) : (hdSet h x s).pending = s.pending := rfl

@[simp] theorem gtSet_sys (g : Nat) (x : Gate) (s : State) : (gtSet g x s).sys = s.sys := rfl
@[simp] theorem gtSet_sup (g : Nat) (x : Gate) (s : State) : (gtSet g x s).sup = s.sup := rfl
@[simp] theorem gtSet_mw (g : Nat) (x : Gate) (s : State) : (gtSet g x s).mw = s.mw := rfl
@[simp] theorem gtSet_pw (g : Nat) (x : Gate) (s : State) : (gtSet g x s).pw = s.pw := rfl
@[simp] theorem gtSet_wc (g : Nat) (x : Gate) (s : State) : (gtSet g x s).wc = s.wc := rfl
@[simp] theorem gtSet_mir (g : Nat) (x : Gate) (s : State) : (gtSet g x s).mir = s.mir := rfl
@[simp] theorem gtSet_ex (g : Nat) (x : Gate) (s : State) : (gtSet g x s).ex = s.ex := rfl
@[simp] theorem gtSet_gov (g : Nat) (x : Gate) (s : State) : (gtSet g x s).gov = s.gov := rfl
@[simp] theorem gtSet_rx (g : Nat) (x : Gate) (s : State) : (gtSet g x s).rx = s.rx := rfl
@[simp] theorem gtSet_rq (g : Nat) (x : Gate) (s : State) : (gtSet g x s).rq = s.rq := rfl
@[simp] theorem gtSet_hg (g : Nat) (x : Gate) (s : State) : (gtSet g x s).hg = s.hg := rfl
@[simp] theorem gtSet_ne (g : Nat) (x : Gate) (s : State) : (gtSet g x s).ne = s.ne := rfl
@[simp] theorem gtSet_ac (g : Nat) (x : Gate) (s : State) : (gtSet g x s).ac = s.ac := rfl
@[simp] theorem gtSet_fp (g : Nat) (x : Gate) (s : State) : (gtSet g x s).fp = s.fp := rfl
@[simp] theorem gtSet_ze (g : Nat) (x : Gate) (s : State) : (gtSet g x s).ze = s.ze := rfl
@[simp] theorem gtSet_ps (g : Nat) (x : Gate) (s : State) : (gtSet g x s).ps = s.ps := rfl
@[simp] theorem gtSet_safA (g : Nat) (x : Gate) (s : State) : (gtSet g x s).safA = s.safA := rfl
@[simp] theorem gtSet_safB (g : Nat) (x : Gate) (s : State) : (gtSet g x s).safB = s.safB := rfl
@[simp] theorem gtSet_out (g : Nat) (x : Gate) (s : State) : (gtSet g x s).out = s.out := rfl
@[simp] theorem gtSet_cf (g : Nat) (x : Gate) (s : State) : (gtSet g x s).cf = s.cf := rfl
@[simp] theorem gtSet_sess (g : Nat) (x : Gate) (s : State) : (gtSet g x s).sess = s.sess := rfl
@[simp] theorem gtSet_tf (g : Nat) (x : Gate) (s : State) : (gtSet g x s).tf = s.tf := rfl
@[simp] theorem gtSet_zl (g : Nat) (x : Gate) (s : State) : (gtSet g x s).zl = s.zl := rfl
@[simp] theorem gtSet_dc (g : Nat) (x : Gate) (s : State) : (gtSet g x s).dc = s.dc := rfl
@[simp] theorem gtSet_hp (g : Nat) (x : Gate) (s : State) : (gtSet g x s).hp = s.hp := rfl
@[simp] theorem gtSet_ed (g : Nat) (x : Gate) (s : State) : (gtSet g x s).ed = s.ed := rfl
@[simp] theorem gtSet_crc0 (g : Nat) (x : Gate) (s : State) : (gtSet g x s).crc0 = s.crc0 := rfl
@[simp] theorem gtSet_crc1 (g : Nat) (x : Gate) (s : State) : (gtSet g x s).crc1 = s.crc1 := rfl
@[simp] theorem gtSet_lm (g : Nat) (x : Gate) (s : State) : (gtSet g x s).lm = s.lm := rfl
@[simp] theorem gtSet_res (g : Nat) (x : Gate) (s : State) : (gtSet g x s).res = s.res := rfl
@[simp] theorem gtSet_regs (g : Nat) (x : Gate) (s : State) : (gtSet g x s).regs = s.regs := rfl
@[simp] theorem gtSet_pending (g : Nat) (x : Gate) (s : State) : (gtSet g x s).pending = s.pending := rfl

@[simp] theorem tfPut_sys (n : Nat) (x : Tf) (s : State) : (tfPut n x s).sys = s.sys := rfl
@[simp] theorem tfPut_sup (n : Nat) (x : Tf) (s : State) : (tfPut n x s).sup = s.sup := rfl
@[simp] theorem tfPut_mw (n : Nat) (x : Tf) (s : State) : (tfPut n x s).mw = s.mw := rfl
@[simp] theorem tfPut_pw (n : Nat) (x : Tf) (s : State) : (tfPut n x s).pw = s.pw := rfl
@[simp] theorem tfPut_wc (n : Nat) (x : Tf) (s : State) : (tfPut n x s).wc = s.wc := rfl
@[simp] theorem tfPut_mir (n : Nat) (x : Tf) (s : State) : (tfPut n x s).mir = s.mir := rfl
@[simp] theorem tfPut_ex (n : Nat) (x : Tf) (s : State) : (tfPut n x s).ex = s.ex := rfl
@[simp] theorem tfPut_gov (n : Nat) (x : Tf) (s : State) : (tfPut n x s).gov = s.gov := rfl
@[simp] theorem tfPut_rx (n : Nat) (x : Tf) (s : State) : (tfPut n x s).rx = s.rx := rfl
@[simp] theorem tfPut_rq (n : Nat) (x : Tf) (s : State) : (tfPut n x s).rq = s.rq := rfl
@[simp] theorem tfPut_hg (n : Nat) (x : Tf) (s : State) : (tfPut n x s).hg = s.hg := rfl
@[simp] theorem tfPut_ne (n : Nat) (x : Tf) (s : State) : (tfPut n x s).ne = s.ne := rfl
@[simp] theorem tfPut_ac (n : Nat) (x : Tf) (s : State) : (tfPut n x s).ac = s.ac := rfl
@[simp] theorem tfPut_fp (n : Nat) (x : Tf) (s : State) : (tfPut n x s).fp = s.fp := rfl
@[simp] theorem tfPut_ze (n : Nat) (x : Tf) (s : State) : (tfPut n x s).ze = s.ze := rfl
@[simp] theorem tfPut_ps (n : Nat) (x : Tf) (s : State) : (tfPut n x s).ps = s.ps := rfl
@[simp] theorem tfPut_safA (n : Nat) (x : Tf) (s : State) : (tfPut n x s).safA = s.safA := rfl
@[simp] theorem tfPut_safB (n : Nat) (x : Tf) (s : State) : (tfPut n x s).safB = s.safB := rfl
@[simp] theorem tfPut_out (n : Nat) (x : Tf) (s : State) : (tfPut n x s).out = s.out := rfl
@[simp] theorem tfPut_cf (n : Nat) (x : Tf) (s : State) : (tfPut n x s).cf = s.cf := rfl
@[simp] theorem tfPut_sess (n : Nat) (x : Tf) (s : State) : (tfPut n x s).sess = s.sess := rfl
@[simp] theorem tfPut_ax (n : Nat) (x : Tf) (s : State) : (tfPut n x s).ax = s.ax := rfl
@[simp] theorem tfPut_zl (n : Nat) (x : Tf) (s : State) : (tfPut n x s).zl = s.zl := rfl
@[simp] theorem tfPut_dc (n : Nat) (x : Tf) (s : State) : (tfPut n x s).dc = s.dc := rfl
@[simp] theorem tfPut_hp (n : Nat) (x : Tf) (s : State) : (tfPut n x s).hp = s.hp := rfl
@[simp] theorem tfPut_ed (n : Nat) (x : Tf) (s : State) : (tfPut n x s).ed = s.ed := rfl
@[simp] theorem tfPut_crc0 (n : Nat) (x : Tf) (s : State) : (tfPut n x s).crc0 = s.crc0 := rfl
@[simp] theorem tfPut_crc1 (n : Nat) (x : Tf) (s : State) : (tfPut n x s).crc1 = s.crc1 := rfl
@[simp] theorem tfPut_lm (n : Nat) (x : Tf) (s : State) : (tfPut n x s).lm = s.lm := rfl
@[simp] theorem tfPut_res (n : Nat) (x : Tf) (s : State) : (tfPut n x s).res = s.res := rfl
@[simp] theorem tfPut_regs (n : Nat) (x : Tf) (s : State) : (tfPut n x s).regs = s.regs := rfl
@[simp] theorem tfPut_pending (n : Nat) (x : Tf) (s : State) : (tfPut n x s).pending = s.pending := rfl

@[simp] theorem rxPut_sys (ch : Nat) (x : RxCh) (s : State) : (rxPut ch x s).sys = s.sys := rfl
@[simp] theorem rxPut_sup (ch : Nat) (x : RxCh) (s : State) : (rxPut ch x s).sup = s.sup := rfl
@[simp] theorem rxPut_mw (ch : Nat) (x : RxCh) (s : State) : (rxPut ch x s).mw = s.mw := rfl
@[simp] theorem rxPut_pw (ch : Nat) (x : RxCh) (s : State) : (rxPut ch x s).pw = s.pw := rfl
@[simp] theorem rxPut_wc (ch : Nat) (x : RxCh) (s : State) : (rxPut ch x s).wc = s.wc := rfl
@[simp] theorem rxPut_mir (ch : Nat) (x : RxCh) (s : State) : (rxPut ch x s).mir = s.mir := rfl
@[simp] theorem rxPut_ex (ch : Nat) (x : RxCh) (s : State) : (rxPut ch x s).ex = s.ex := rfl
@[simp] theorem rxPut_gov (ch : Nat) (x : RxCh) (s : State) : (rxPut ch x s).gov = s.gov := rfl
@[simp] theorem rxPut_rq (ch : Nat) (x : RxCh) (s : State) : (rxPut ch x s).rq = s.rq := rfl
@[simp] theorem rxPut_hg (ch : Nat) (x : RxCh) (s : State) : (rxPut ch x s).hg = s.hg := rfl
@[simp] theorem rxPut_ne (ch : Nat) (x : RxCh) (s : State) : (rxPut ch x s).ne = s.ne := rfl
@[simp] theorem rxPut_ac (ch : Nat) (x : RxCh) (s : State) : (rxPut ch x s).ac = s.ac := rfl
@[simp] theorem rxPut_fp (ch : Nat) (x : RxCh) (s : State) : (rxPut ch x s).fp = s.fp := rfl
@[simp] theorem rxPut_ze (ch : Nat) (x : RxCh) (s : State) : (rxPut ch x s).ze = s.ze := rfl
@[simp] theorem rxPut_ps (ch : Nat) (x : RxCh) (s : State) : (rxPut ch x s).ps = s.ps := rfl
@[simp] theorem rxPut_safA (ch : Nat) (x : RxCh) (s : State) : (rxPut ch x s).safA = s.safA := rfl
@[simp] theorem rxPut_safB (ch : Nat) (x : RxCh) (s : State) : (rxPut ch x s).safB = s.safB := rfl
@[simp] theorem rxPut_out (ch : Nat) (x : RxCh) (s : State) : (rxPut ch x s).out = s.out := rfl
@[simp] theorem rxPut_cf (ch : Nat) (x : RxCh) (s : State) : (rxPut ch x s).cf = s.cf := rfl
@[simp] theorem rxPut_sess (ch : Nat) (x : RxCh) (s : State) : (rxPut ch x s).sess = s.sess := rfl
@[simp] theorem rxPut_tf (ch : Nat) (x : RxCh) (s : State) : (rxPut ch x s).tf = s.tf := rfl
@[simp] theorem rxPut_ax (ch : Nat) (x : RxCh) (s : State) : (rxPut ch x s).ax = s.ax := rfl
@[simp] theorem rxPut_zl (ch : Nat) (x : RxCh) (s : State) : (rxPut ch x s).zl = s.zl := rfl
@[simp] theorem rxPut_dc (ch : Nat) (x : RxCh) (s : State) : (rxPut ch x s).dc = s.dc := rfl
@[simp] theorem rxPut_hp (ch : Nat) (x : RxCh) (s : State) : (rxPut ch x s).hp = s.hp := rfl
@[simp] theorem rxPut_ed (ch : Nat) (x : RxCh) (s : State) : (rxPut ch x s).ed = s.ed := rfl
@[simp] theorem rxPut_crc0 (ch : Nat) (x : RxCh) (s : State) : (rxPut ch x s).crc0 = s.crc0 := rfl
@[simp] theorem rxPut_crc1 (ch : Nat) (x : RxCh) (s : State) : (rxPut ch x s).crc1 = s.crc1 := rfl
@[simp] theorem rxPut_lm (ch : Nat) (x : RxCh) (s : State) : (rxPut ch x s).lm = s.lm := rfl
@[simp] theorem rxPut_res (ch : Nat) (x : RxCh) (s : State) : (rxPut ch x s).res = s.res := rfl
@[simp] theorem rxPut_regs (ch : Nat) (x : RxCh) (s : State) : (rxPut ch x s).regs = s.regs := rfl
@[simp] theorem rxPut_pending (ch : Nat) (x : RxCh) (s : State) : (rxPut ch x s).pending = s.pending := rfl

@[simp] theorem rqPut_sys (q : Nat) (x : Rq) (s : State) : (rqPut q x s).sys = s.sys := rfl
@[simp] theorem rqPut_sup (q : Nat) (x : Rq) (s : State) : (rqPut q x s).sup = s.sup := rfl
@[simp] theorem rqPut_mw (q : Nat) (x : Rq) (s : State) : (rqPut q x s).mw = s.mw := rfl
@[simp] theorem rqPut_pw (q : Nat) (x : Rq) (s : State) : (rqPut q x s).pw = s.pw := rfl
@[simp] theorem rqPut_wc (q : Nat) (x : Rq) (s : State) : (rqPut q x s).wc = s.wc := rfl
@[simp] theorem rqPut_mir (q : Nat) (x : Rq) (s : State) : (rqPut q x s).mir = s.mir := rfl
@[simp] theorem rqPut_ex (q : Nat) (x : Rq) (s : State) : (rqPut q x s).ex = s.ex := rfl
@[simp] theorem rqPut_gov (q : Nat) (x : Rq) (s : State) : (rqPut q x s).gov = s.gov := rfl
@[simp] theorem rqPut_rx (q : Nat) (x : Rq) (s : State) : (rqPut q x s).rx = s.rx := rfl
@[simp] theorem rqPut_hg (q : Nat) (x : Rq) (s : State) : (rqPut q x s).hg = s.hg := rfl
@[simp] theorem rqPut_ne (q : Nat) (x : Rq) (s : State) : (rqPut q x s).ne = s.ne := rfl
@[simp] theorem rqPut_ac (q : Nat) (x : Rq) (s : State) : (rqPut q x s).ac = s.ac := rfl
@[simp] theorem rqPut_fp (q : Nat) (x : Rq) (s : State) : (rqPut q x s).fp = s.fp := rfl
@[simp] theorem rqPut_ze (q : Nat) (x : Rq) (s : State) : (rqPut q x s).ze = s.ze := rfl
@[simp] theorem rqPut_ps (q : Nat) (x : Rq) (s : State) : (rqPut q x s).ps = s.ps := rfl
@[simp] theorem rqPut_safA (q : Nat) (x : Rq) (s : State) : (rqPut q x s).safA = s.safA := rfl
@[simp] theorem rqPut_safB (q : Nat) (x : Rq) (s : State) : (rqPut q x s).safB = s.safB := rfl
@[simp] theorem rqPut_out (q : Nat) (x : Rq) (s : State) : (rqPut q x s).out = s.out := rfl
@[simp] theorem rqPut_cf (q : Nat) (x : Rq) (s : State) : (rqPut q x s).cf = s.cf := rfl
@[simp] theorem rqPut_sess (q : Nat) (x : Rq) (s : State) : (rqPut q x s).sess = s.sess := rfl
@[simp] theorem rqPut_tf (q : Nat) (x : Rq) (s : State) : (rqPut q x s).tf = s.tf := rfl
@[simp] theorem rqPut_ax (q : Nat) (x : Rq) (s : State) : (rqPut q x s).ax = s.ax := rfl
@[simp] theorem rqPut_zl (q : Nat) (x : Rq) (s : State) : (rqPut q x s).zl = s.zl := rfl
@[simp] theorem rqPut_dc (q : Nat) (x : Rq) (s : State) : (rqPut q x s).dc = s.dc := rfl
@[simp] theorem rqPut_hp (q : Nat) (x : Rq) (s : State) : (rqPut q x s).hp = s.hp := rfl
@[simp] theorem rqPut_ed (q : Nat) (x : Rq) (s : State) : (rqPut q x s).ed = s.ed := rfl
@[simp] theorem rqPut_crc0 (q : Nat) (x : Rq) (s : State) : (rqPut q x s).crc0 = s.crc0 := rfl
@[simp] theorem rqPut_crc1 (q : Nat) (x : Rq) (s : State) : (rqPut q x s).crc1 = s.crc1 := rfl
@[simp] theorem rqPut_lm (q : Nat) (x : Rq) (s : State) : (rqPut q x s).lm = s.lm := rfl
@[simp] theorem rqPut_res (q : Nat) (x : Rq) (s : State) : (rqPut q x s).res = s.res := rfl
@[simp] theorem rqPut_regs (q : Nat) (x : Rq) (s : State) : (rqPut q x s).regs = s.regs := rfl
@[simp] theorem rqPut_pending (q : Nat) (x : Rq) (s : State) : (rqPut q x s).pending = s.pending := rfl

@[simp] theorem nePut_sys (q : Nat) (x : Ne) (s : State) : (nePut q x s).sys = s.sys := rfl
@[simp] theorem nePut_sup (q : Nat) (x : Ne) (s : State) : (nePut q x s).sup = s.sup := rfl
@[simp] theorem nePut_mw (q : Nat) (x : Ne) (s : State) : (nePut q x s).mw = s.mw := rfl
@[simp] theorem nePut_pw (q : Nat) (x : Ne) (s : State) : (nePut q x s).pw = s.pw := rfl
@[simp] theorem nePut_wc (q : Nat) (x : Ne) (s : State) : (nePut q x s).wc = s.wc := rfl
@[simp] theorem nePut_mir (q : Nat) (x : Ne) (s : State) : (nePut q x s).mir = s.mir := rfl
@[simp] theorem nePut_ex (q : Nat) (x : Ne) (s : State) : (nePut q x s).ex = s.ex := rfl
@[simp] theorem nePut_gov (q : Nat) (x : Ne) (s : State) : (nePut q x s).gov = s.gov := rfl
@[simp] theorem nePut_rx (q : Nat) (x : Ne) (s : State) : (nePut q x s).rx = s.rx := rfl
@[simp] theorem nePut_rq (q : Nat) (x : Ne) (s : State) : (nePut q x s).rq = s.rq := rfl
@[simp] theorem nePut_hg (q : Nat) (x : Ne) (s : State) : (nePut q x s).hg = s.hg := rfl
@[simp] theorem nePut_ac (q : Nat) (x : Ne) (s : State) : (nePut q x s).ac = s.ac := rfl
@[simp] theorem nePut_fp (q : Nat) (x : Ne) (s : State) : (nePut q x s).fp = s.fp := rfl
@[simp] theorem nePut_ze (q : Nat) (x : Ne) (s : State) : (nePut q x s).ze = s.ze := rfl
@[simp] theorem nePut_ps (q : Nat) (x : Ne) (s : State) : (nePut q x s).ps = s.ps := rfl
@[simp] theorem nePut_safA (q : Nat) (x : Ne) (s : State) : (nePut q x s).safA = s.safA := rfl
@[simp] theorem nePut_safB (q : Nat) (x : Ne) (s : State) : (nePut q x s).safB = s.safB := rfl
@[simp] theorem nePut_out (q : Nat) (x : Ne) (s : State) : (nePut q x s).out = s.out := rfl
@[simp] theorem nePut_cf (q : Nat) (x : Ne) (s : State) : (nePut q x s).cf = s.cf := rfl
@[simp] theorem nePut_sess (q : Nat) (x : Ne) (s : State) : (nePut q x s).sess = s.sess := rfl
@[simp] theorem nePut_tf (q : Nat) (x : Ne) (s : State) : (nePut q x s).tf = s.tf := rfl
@[simp] theorem nePut_ax (q : Nat) (x : Ne) (s : State) : (nePut q x s).ax = s.ax := rfl
@[simp] theorem nePut_zl (q : Nat) (x : Ne) (s : State) : (nePut q x s).zl = s.zl := rfl
@[simp] theorem nePut_dc (q : Nat) (x : Ne) (s : State) : (nePut q x s).dc = s.dc := rfl
@[simp] theorem nePut_hp (q : Nat) (x : Ne) (s : State) : (nePut q x s).hp = s.hp := rfl
@[simp] theorem nePut_ed (q : Nat) (x : Ne) (s : State) : (nePut q x s).ed = s.ed := rfl
@[simp] theorem nePut_crc0 (q : Nat) (x : Ne) (s : State) : (nePut q x s).crc0 = s.crc0 := rfl
@[simp] theorem nePut_crc1 (q : Nat) (x : Ne) (s : State) : (nePut q x s).crc1 = s.crc1 := rfl
@[simp] theorem nePut_lm (q : Nat) (x : Ne) (s : State) : (nePut q x s).lm = s.lm := rfl
@[simp] theorem nePut_res (q : Nat) (x : Ne) (s : State) : (nePut q x s).res = s.res := rfl
@[simp] theorem nePut_regs (q : Nat) (x : Ne) (s : State) : (nePut q x s).regs = s.regs := rfl
@[simp] theorem nePut_pending (q : Nat) (x : Ne) (s : State) : (nePut q x s).pending = s.pending := rfl

@[simp] theorem ctxPut_sys (b ch : Nat) (x : Ctx) (s : State) : (ctxPut b ch x s).sys = s.sys := rfl
@[simp] theorem ctxPut_sup (b ch : Nat) (x : Ctx) (s : State) : (ctxPut b ch x s).sup = s.sup := rfl
@[simp] theorem ctxPut_mw (b ch : Nat) (x : Ctx) (s : State) : (ctxPut b ch x s).mw = s.mw := rfl
@[simp] theorem ctxPut_pw (b ch : Nat) (x : Ctx) (s : State) : (ctxPut b ch x s).pw = s.pw := rfl
@[simp] theorem ctxPut_wc (b ch : Nat) (x : Ctx) (s : State) : (ctxPut b ch x s).wc = s.wc := rfl
@[simp] theorem ctxPut_mir (b ch : Nat) (x : Ctx) (s : State) : (ctxPut b ch x s).mir = s.mir := rfl
@[simp] theorem ctxPut_ex (b ch : Nat) (x : Ctx) (s : State) : (ctxPut b ch x s).ex = s.ex := rfl
@[simp] theorem ctxPut_gov (b ch : Nat) (x : Ctx) (s : State) : (ctxPut b ch x s).gov = s.gov := rfl
@[simp] theorem ctxPut_rx (b ch : Nat) (x : Ctx) (s : State) : (ctxPut b ch x s).rx = s.rx := rfl
@[simp] theorem ctxPut_rq (b ch : Nat) (x : Ctx) (s : State) : (ctxPut b ch x s).rq = s.rq := rfl
@[simp] theorem ctxPut_ne (b ch : Nat) (x : Ctx) (s : State) : (ctxPut b ch x s).ne = s.ne := rfl
@[simp] theorem ctxPut_ac (b ch : Nat) (x : Ctx) (s : State) : (ctxPut b ch x s).ac = s.ac := rfl
@[simp] theorem ctxPut_fp (b ch : Nat) (x : Ctx) (s : State) : (ctxPut b ch x s).fp = s.fp := rfl
@[simp] theorem ctxPut_ze (b ch : Nat) (x : Ctx) (s : State) : (ctxPut b ch x s).ze = s.ze := rfl
@[simp] theorem ctxPut_ps (b ch : Nat) (x : Ctx) (s : State) : (ctxPut b ch x s).ps = s.ps := rfl
@[simp] theorem ctxPut_safA (b ch : Nat) (x : Ctx) (s : State) : (ctxPut b ch x s).safA = s.safA := rfl
@[simp] theorem ctxPut_safB (b ch : Nat) (x : Ctx) (s : State) : (ctxPut b ch x s).safB = s.safB := rfl
@[simp] theorem ctxPut_out (b ch : Nat) (x : Ctx) (s : State) : (ctxPut b ch x s).out = s.out := rfl
@[simp] theorem ctxPut_cf (b ch : Nat) (x : Ctx) (s : State) : (ctxPut b ch x s).cf = s.cf := rfl
@[simp] theorem ctxPut_sess (b ch : Nat) (x : Ctx) (s : State) : (ctxPut b ch x s).sess = s.sess := rfl
@[simp] theorem ctxPut_tf (b ch : Nat) (x : Ctx) (s : State) : (ctxPut b ch x s).tf = s.tf := rfl
@[simp] theorem ctxPut_ax (b ch : Nat) (x : Ctx) (s : State) : (ctxPut b ch x s).ax = s.ax := rfl
@[simp] theorem ctxPut_zl (b ch : Nat) (x : Ctx) (s : State) : (ctxPut b ch x s).zl = s.zl := rfl
@[simp] theorem ctxPut_dc (b ch : Nat) (x : Ctx) (s : State) : (ctxPut b ch x s).dc = s.dc := rfl
@[simp] theorem ctxPut_hp (b ch : Nat) (x : Ctx) (s : State) : (ctxPut b ch x s).hp = s.hp := rfl
@[simp] theorem ctxPut_ed (b ch : Nat) (x : Ctx) (s : State) : (ctxPut b ch x s).ed = s.ed := rfl
@[simp] theorem ctxPut_crc0 (b ch : Nat) (x : Ctx) (s : State) : (ctxPut b ch x s).crc0 = s.crc0 := rfl
@[simp] theorem ctxPut_crc1 (b ch : Nat) (x : Ctx) (s : State) : (ctxPut b ch x s).crc1 = s.crc1 := rfl
@[simp] theorem ctxPut_lm (b ch : Nat) (x : Ctx) (s : State) : (ctxPut b ch x s).lm = s.lm := rfl
@[simp] theorem ctxPut_res (b ch : Nat) (x : Ctx) (s : State) : (ctxPut b ch x s).res = s.res := rfl
@[simp] theorem ctxPut_regs (b ch : Nat) (x : Ctx) (s : State) : (ctxPut b ch x s).regs = s.regs := rfl
@[simp] theorem ctxPut_pending (b ch : Nat) (x : Ctx) (s : State) : (ctxPut b ch x s).pending = s.pending := rfl

@[simp] theorem snapPut_sys (q : Nat) (x : Snap) (s : State) : (snapPut q x s).sys = s.sys := rfl
@[simp] theorem snapPut_sup (q : Nat) (x : Snap) (s : State) : (snapPut q x s).sup = s.sup := rfl
@[simp] theorem snapPut_mw (q : Nat) (x : Snap) (s : State) : (snapPut q x s).mw = s.mw := rfl
@[simp] theorem snapPut_pw (q : Nat) (x : Snap) (s : State) : (snapPut q x s).pw = s.pw := rfl
@[simp] theorem snapPut_wc (q : Nat) (x : Snap) (s : State) : (snapPut q x s).wc = s.wc := rfl
@[simp] theorem snapPut_mir (q : Nat) (x : Snap) (s : State) : (snapPut q x s).mir = s.mir := rfl
@[simp] theorem snapPut_ex (q : Nat) (x : Snap) (s : State) : (snapPut q x s).ex = s.ex := rfl
@[simp] theorem snapPut_gov (q : Nat) (x : Snap) (s : State) : (snapPut q x s).gov = s.gov := rfl
@[simp] theorem snapPut_rx (q : Nat) (x : Snap) (s : State) : (snapPut q x s).rx = s.rx := rfl
@[simp] theorem snapPut_rq (q : Nat) (x : Snap) (s : State) : (snapPut q x s).rq = s.rq := rfl
@[simp] theorem snapPut_ne (q : Nat) (x : Snap) (s : State) : (snapPut q x s).ne = s.ne := rfl
@[simp] theorem snapPut_ac (q : Nat) (x : Snap) (s : State) : (snapPut q x s).ac = s.ac := rfl
@[simp] theorem snapPut_fp (q : Nat) (x : Snap) (s : State) : (snapPut q x s).fp = s.fp := rfl
@[simp] theorem snapPut_ze (q : Nat) (x : Snap) (s : State) : (snapPut q x s).ze = s.ze := rfl
@[simp] theorem snapPut_ps (q : Nat) (x : Snap) (s : State) : (snapPut q x s).ps = s.ps := rfl
@[simp] theorem snapPut_safA (q : Nat) (x : Snap) (s : State) : (snapPut q x s).safA = s.safA := rfl
@[simp] theorem snapPut_safB (q : Nat) (x : Snap) (s : State) : (snapPut q x s).safB = s.safB := rfl
@[simp] theorem snapPut_out (q : Nat) (x : Snap) (s : State) : (snapPut q x s).out = s.out := rfl
@[simp] theorem snapPut_cf (q : Nat) (x : Snap) (s : State) : (snapPut q x s).cf = s.cf := rfl
@[simp] theorem snapPut_sess (q : Nat) (x : Snap) (s : State) : (snapPut q x s).sess = s.sess := rfl
@[simp] theorem snapPut_tf (q : Nat) (x : Snap) (s : State) : (snapPut q x s).tf = s.tf := rfl
@[simp] theorem snapPut_ax (q : Nat) (x : Snap) (s : State) : (snapPut q x s).ax = s.ax := rfl
@[simp] theorem snapPut_zl (q : Nat) (x : Snap) (s : State) : (snapPut q x s).zl = s.zl := rfl
@[simp] theorem snapPut_dc (q : Nat) (x : Snap) (s : State) : (snapPut q x s).dc = s.dc := rfl
@[simp] theorem snapPut_hp (q : Nat) (x : Snap) (s : State) : (snapPut q x s).hp = s.hp := rfl
@[simp] theorem snapPut_ed (q : Nat) (x : Snap) (s : State) : (snapPut q x s).ed = s.ed := rfl
@[simp] theorem snapPut_crc0 (q : Nat) (x : Snap) (s : State) : (snapPut q x s).crc0 = s.crc0 := rfl
@[simp] theorem snapPut_crc1 (q : Nat) (x : Snap) (s : State) : (snapPut q x s).crc1 = s.crc1 := rfl
@[simp] theorem snapPut_lm (q : Nat) (x : Snap) (s : State) : (snapPut q x s).lm = s.lm := rfl
@[simp] theorem snapPut_res (q : Nat) (x : Snap) (s : State) : (snapPut q x s).res = s.res := rfl
@[simp] theorem snapPut_regs (q : Nat) (x : Snap) (s : State) : (snapPut q x s).regs = s.regs := rfl
@[simp] theorem snapPut_pending (q : Nat) (x : Snap) (s : State) : (snapPut q x s).pending = s.pending := rfl

@[simp] theorem drawn_sys_variant (s : State) : (drawn s).sys.variant = s.sys.variant := rfl
@[simp] theorem drawn_sys_now (s : State) : (drawn s).sys.now = s.sys.now := rfl
@[simp] theorem drawn_sys_sysTime (s : State) : (drawn s).sys.sysTime = s.sys.sysTime := rfl
@[simp] theorem drawn_sys_ctrlUp (s : State) : (drawn s).sys.ctrlUp = s.sys.ctrlUp := rfl
@[simp] theorem drawn_sys_mgmtUp (s : State) : (drawn s).sys.mgmtUp = s.sys.mgmtUp := rfl
@[simp] theorem drawn_sys_hpUp (s : State) : (drawn s).sys.hpUp = s.sys.hpUp := rfl
@[simp] theorem drawn_sys_oper (s : State) : (drawn s).sys.oper = s.sys.oper := by simp [drawn]
@[simp] theorem drawn_sys_powered (s : State) : (drawn s).sys.powered = s.sys.powered := rfl
@[simp] theorem advance_sys_variant (t : Nat) (s : State) : (advance t s).sys.variant = s.sys.variant := rfl
@[simp] theorem advance_sys_ctrlUp (t : Nat) (s : State) : (advance t s).sys.ctrlUp = s.sys.ctrlUp := rfl
@[simp] theorem advance_sys_mgmtUp (t : Nat) (s : State) : (advance t s).sys.mgmtUp = s.sys.mgmtUp := rfl
@[simp] theorem advance_sys_hpUp (t : Nat) (s : State) : (advance t s).sys.hpUp = s.sys.hpUp := rfl
@[simp] theorem advance_sys_oper (t : Nat) (s : State) : (advance t s).sys.oper = s.sys.oper := by simp [advance]
@[simp] theorem advance_sys_powered (t : Nat) (s : State) : (advance t s).sys.powered = s.sys.powered := rfl
@[simp] theorem advance_sys_freeCtr (t : Nat) (s : State) : (advance t s).sys.freeCtr = s.sys.freeCtr := rfl

@[simp] theorem crcUnit_crcSet_same (n : Nat) (x : Crc) (s : State) : crcUnit (crcSet n x s) n = x := by
  unfold crcSet crcUnit; split <;> rfl
@[simp] theorem edSrc_edSrcSet_other (n m : Nat) (x : EdSrc) (s : State) (h : m ≠ n) :
    mget ({} : EdSrc) (edSrcSet n x s).ed.src m = mget {} s.ed.src m := by simp [edSrcSet, h]
@[simp] theorem tpGet_tpSet_other (p q : Nat) (x : Tp) (s : State) (h : q ≠ p) : tpGet (tpSet p x s) q = tpGet s q := by
  simp [tpGet, tpSet, h]
@[simp] theorem secGet_secSet_other (k j : Nat) (x : Sec) (s : State) (h : j ≠ k) : secGet (secSet k x s) j = secGet s j := by
  simp [secGet, secSet, h]

/-! ### Time -/

/-- Time does not run backwards. -/
@[simp] theorem advance_now (t : Nat) (s : State) : (advance t s).sys.now = max s.sys.now t := by
  unfold advance; dsimp only; omega

end Sys2Proof.Machine
end

