-- ==== Sys2Proof/Laws/Frame.lean ====
section
/-! SUPPORT. Laws/Frame.lean: the rules by which the guarded part of a state (Safety.lean) is computed through updates,
choices, folds and writes of a channel. The lemmas of the other files cite them. -/

namespace Sys2Proof.Machine

@[simp] theorem guarded_ite (c : Prop) [Decidable c] (a b : State) :
    guarded (if c then a else b) = if c then guarded a else guarded b := by split <;> rfl

@[simp] theorem guarded_foldl {α : Type} (f : State → α → State) (l : List α) (s : State)
    (h : ∀ s x, guarded (f s x) = guarded s) : guarded (l.foldl f s) = guarded s := by
  induction l generalizing s with
  | nil => rfl
  | cons x l ih => rw [List.foldl_cons, ih, h]

@[simp] theorem ite_snd {α β : Type} (c : Prop) [Decidable c] (a b : α × β) :
    (if c then a else b).2 = if c then a.2 else b.2 := by split <;> rfl
@[simp] theorem ite_fst {α β : Type} (c : Prop) [Decidable c] (a b : α × β) :
    (if c then a else b).1 = if c then a.1 else b.1 := by split <;> rfl

theorem foldl_guarded {α β : Type} (p : β → State) (f : β → α → β) (l : List α) (b : β)
    (h : ∀ b x, guarded (p (f b x)) = guarded (p b)) : guarded (p (l.foldl f b)) = guarded (p b) := by
  induction l generalizing b with
  | nil => rfl
  | cons x l ih => exact (ih (f b x)).trans (h b x)

@[simp] theorem updC_eq (c : Chan) (g : Saf → Saf) (s : State) : updC c g s = setC c (g (getC s c)) s := rfl
@[simp] theorem bothC_eq (g : Chan → State → State) (s : State) : bothC g s = g .b (g .a s) := rfl

@[simp] theorem guarded_setC (c : Chan) (f : Saf) (s : State) (hs : f.sw = (getC s c).sw) (hr : f.rwait = (getC s c).rwait)
    (hl : f.latch = (getC s c).latch) : guarded (setC c f s) = guarded s := by
  cases c <;> simp_all [setC, getC, guarded]

@[simp] theorem Guarded.ite_queue (c : Prop) [Decidable c] (a b : Guarded) :
    (if c then a else b).queue = if c then a.queue else b.queue := by split <;> rfl

@[simp] theorem foldl_queue {α : Type} (f : State → α → State) (l : List α) (s : State)
    (h : ∀ s x, (guarded (f s x)).queue = (guarded s).queue) : (guarded (l.foldl f s)).queue = (guarded s).queue := by
  induction l generalizing s with
  | nil => rfl
  | cons x l ih => rw [List.foldl_cons, ih, h]

@[simp] theorem Guarded.ite_switches (c : Prop) [Decidable c] (a b : Guarded) :
    (if c then a else b).switches = if c then a.switches else b.switches := by split <;> rfl

@[simp] theorem foldl_switches {α : Type} (f : State → α → State) (l : List α) (s : State)
    (h : ∀ s x, (guarded (f s x)).switches = (guarded s).switches) : (guarded (l.foldl f s)).switches = (guarded s).switches := by
  induction l generalizing s with
  | nil => rfl
  | cons x l ih => rw [List.foldl_cons, ih, h]

@[simp] theorem Guarded.ite_oper (c : Prop) [Decidable c] (a b : Guarded) :
    (if c then a else b).oper = if c then a.oper else b.oper := by split <;> rfl

@[simp] theorem foldl_oper {α : Type} (f : State → α → State) (l : List α) (s : State)
    (h : ∀ s x, (guarded (f s x)).oper = (guarded s).oper) : (guarded (l.foldl f s)).oper = (guarded s).oper := by
  induction l generalizing s with
  | nil => rfl
  | cons x l ih => rw [List.foldl_cons, ih, h]

@[simp] theorem Guarded.ite_log (c : Prop) [Decidable c] (a b : Guarded) :
    (if c then a else b).log = if c then a.log else b.log := by split <;> rfl

@[simp] theorem foldl_log {α : Type} (f : State → α → State) (l : List α) (s : State)
    (h : ∀ s x, (guarded (f s x)).log = (guarded s).log) : (guarded (l.foldl f s)).log = (guarded s).log := by
  induction l generalizing s with
  | nil => rfl
  | cons x l ih => rw [List.foldl_cons, ih, h]

@[simp] theorem Guarded.ite_limits (c : Prop) [Decidable c] (a b : Guarded) :
    (if c then a else b).limits = if c then a.limits else b.limits := by split <;> rfl

@[simp] theorem foldl_limits {α : Type} (f : State → α → State) (l : List α) (s : State)
    (h : ∀ s x, (guarded (f s x)).limits = (guarded s).limits) : (guarded (l.foldl f s)).limits = (guarded s).limits := by
  induction l generalizing s with
  | nil => rfl
  | cons x l ih => rw [List.foldl_cons, ih, h]

@[simp] theorem Guarded.ite_eff (c : Prop) [Decidable c] (a b : Guarded) :
    (if c then a else b).eff = if c then a.eff else b.eff := by split <;> rfl

@[simp] theorem foldl_eff {α : Type} (f : State → α → State) (l : List α) (s : State)
    (h : ∀ s x, (guarded (f s x)).eff = (guarded s).eff) : (guarded (l.foldl f s)).eff = (guarded s).eff := by
  induction l generalizing s with
  | nil => rfl
  | cons x l ih => rw [List.foldl_cons, ih, h]

@[simp] theorem setC_queue (c : Chan) (f : Saf) (s : State) : (guarded (setC c f s)).queue = (guarded s).queue := by cases c <;> rfl
@[simp] theorem setC_oper (c : Chan) (f : Saf) (s : State) : (guarded (setC c f s)).oper = (guarded s).oper := by cases c <;> rfl
@[simp] theorem setC_log (c : Chan) (f : Saf) (s : State) : (guarded (setC c f s)).log = (guarded s).log := by cases c <;> rfl
@[simp] theorem setC_limits (c : Chan) (f : Saf) (s : State) : (guarded (setC c f s)).limits = (guarded s).limits := by cases c <;> rfl
@[simp] theorem setC_eff (c : Chan) (f : Saf) (s : State) : (guarded (setC c f s)).eff = (guarded s).eff := by cases c <;> rfl

@[simp] theorem prSet_sw (i : Nat) (x : Pair) (f : Saf) : (prSet i x f).sw = f.sw := by simp [prSet]
@[simp] theorem prSet_rwait (i : Nat) (x : Pair) (f : Saf) : (prSet i x f).rwait = f.rwait := by simp [prSet]
@[simp] theorem prSet_latch (i : Nat) (x : Pair) (f : Saf) : (prSet i x f).latch = f.latch := by simp [prSet]
@[simp] theorem dmSet_sw (d : Nat) (x : Dm) (f : Saf) : (dmSet d x f).sw = f.sw := by unfold dmSet; split <;> rfl
@[simp] theorem dmSet_rwait (d : Nat) (x : Dm) (f : Saf) : (dmSet d x f).rwait = f.rwait := by unfold dmSet; split <;> rfl
@[simp] theorem dmSet_latch (d : Nat) (x : Dm) (f : Saf) : (dmSet d x f).latch = f.latch := by unfold dmSet; split <;> rfl

@[simp] theorem clearCounts_sw (f : Saf) : (clearCounts f).sw = f.sw := by simp [clearCounts]
@[simp] theorem clearCounts_rwait (f : Saf) : (clearCounts f).rwait = f.rwait := by simp [clearCounts]
@[simp] theorem clearCounts_latch (f : Saf) : (clearCounts f).latch = f.latch := by simp [clearCounts]

@[simp] theorem Saf.ite_sw (c : Prop) [Decidable c] (a b : Saf) : (if c then a else b).sw = if c then a.sw else b.sw := by
  split <;> rfl

@[simp] theorem Saf.foldl_sw {α : Type} (f : Saf → α → Saf) (l : List α) (s : Saf)
    (h : ∀ s x, (f s x).sw = s.sw) : (l.foldl f s).sw = s.sw := by
  induction l generalizing s with
  | nil => rfl
  | cons x l ih => rw [List.foldl_cons, ih, h]

@[simp] theorem Saf.ite_rwait (c : Prop) [Decidable c] (a b : Saf) : (if c then a else b).rwait = if c then a.rwait else b.rwait := by
  split <;> rfl

@[simp] theorem Saf.foldl_rwait {α : Type} (f : Saf → α → Saf) (l : List α) (s : Saf)
    (h : ∀ s x, (f s x).rwait = s.rwait) : (l.foldl f s).rwait = s.rwait := by
  induction l generalizing s with
  | nil => rfl
  | cons x l ih => rw [List.foldl_cons, ih, h]

@[simp] theorem Saf.ite_latch (c : Prop) [Decidable c] (a b : Saf) : (if c then a else b).latch = if c then a.latch else b.latch := by
  split <;> rfl

@[simp] theorem Saf.foldl_latch {α : Type} (f : Saf → α → Saf) (l : List α) (s : Saf)
    (h : ∀ s x, (f s x).latch = s.latch) : (l.foldl f s).latch = s.latch := by
  induction l generalizing s with
  | nil => rfl
  | cons x l ih => rw [List.foldl_cons, ih, h]

@[simp] theorem guarded_mk (t : State)
    (sys : Sys) (sup : Sup) (mw : Mw) (pw : Pw) (wc : SMap Wc) (mir : Mir) (ex : Ex) (gov : Gov) (rx : SMap RxCh) (rq : SMap Rq)
    (hg : Hg) (ne : SMap Ne) (ac : Ac) (fp : Fp) (ze : Ze) (ps : Ps) (safA : Saf) (safB : Saf) (out : Out) (cf : Cf) (sess : Sess)
    (tf : Tfu) (ax : Ax) (zl : Zl) (dc : Dc) (hp : Hp) (ed : Ed) (crc0 : Crc) (crc1 : Crc) (lm : Lm) (res : SMap Res) (regs : SMap Nat)
    (h0 : safA.sw = t.safA.sw) (h1 : safA.rwait = t.safA.rwait) (h2 : safA.latch = t.safA.latch) (h3 : safB.sw = t.safB.sw)
    (h4 : safB.rwait = t.safB.rwait) (h5 : safB.latch = t.safB.latch) (h6 : sys.oper = t.sys.oper) (h7 : sess.log = t.sess.log)
    (h8 : gov.limb = t.gov.limb) (h9 : gov.lim5 = t.gov.lim5) (h10 : gov.lim100 = t.gov.lim100) (h11 : gov.locked = t.gov.locked)
    (h12 : cf.eff = t.cf.eff) :
    guarded (State.mk sys sup mw pw wc mir ex gov rx rq hg ne ac fp ze ps safA safB out cf sess tf ax zl dc hp ed crc0 crc1 lm res regs t.pending) = guarded t := by
  unfold guarded; simp only [h0, h1, h2, h3, h4, h5, h6, h7, h8, h9, h10, h11, h12]

@[simp] theorem guarded_mk_queue (t : State)
    (sys : Sys) (sup : Sup) (mw : Mw) (pw : Pw) (wc : SMap Wc) (mir : Mir) (ex : Ex) (gov : Gov) (rx : SMap RxCh) (rq : SMap Rq)
    (hg : Hg) (ne : SMap Ne) (ac : Ac) (fp : Fp) (ze : Ze) (ps : Ps) (safA : Saf) (safB : Saf) (out : Out) (cf : Cf) (sess : Sess)
    (tf : Tfu) (ax : Ax) (zl : Zl) (dc : Dc) (hp : Hp) (ed : Ed) (crc0 : Crc) (crc1 : Crc) (lm : Lm) (res : SMap Res) (regs : SMap Nat)
     :
    (guarded (State.mk sys sup mw pw wc mir ex gov rx rq hg ne ac fp ze ps safA safB out cf sess tf ax zl dc hp ed crc0 crc1 lm res regs t.pending)).queue = (guarded t).queue := rfl

@[simp] theorem guarded_mk_switches (t : State)
    (sys : Sys) (sup : Sup) (mw : Mw) (pw : Pw) (wc : SMap Wc) (mir : Mir) (ex : Ex) (gov : Gov) (rx : SMap RxCh) (rq : SMap Rq)
    (hg : Hg) (ne : SMap Ne) (ac : Ac) (fp : Fp) (ze : Ze) (ps : Ps) (safA : Saf) (safB : Saf) (out : Out) (cf : Cf) (sess : Sess)
    (tf : Tfu) (ax : Ax) (zl : Zl) (dc : Dc) (hp : Hp) (ed : Ed) (crc0 : Crc) (crc1 : Crc) (lm : Lm) (res : SMap Res) (regs : SMap Nat)
    (h0 : safA.sw = t.safA.sw) (h1 : safA.rwait = t.safA.rwait) (h2 : safA.latch = t.safA.latch) (h3 : safB.sw = t.safB.sw)
    (h4 : safB.rwait = t.safB.rwait) (h5 : safB.latch = t.safB.latch) :
    (guarded (State.mk sys sup mw pw wc mir ex gov rx rq hg ne ac fp ze ps safA safB out cf sess tf ax zl dc hp ed crc0 crc1 lm res regs t.pending)).switches = (guarded t).switches := by
  unfold guarded; simp only [h0, h1, h2, h3, h4, h5]

@[simp] theorem guarded_mk_oper (t : State)
    (sys : Sys) (sup : Sup) (mw : Mw) (pw : Pw) (wc : SMap Wc) (mir : Mir) (ex : Ex) (gov : Gov) (rx : SMap RxCh) (rq : SMap Rq)
    (hg : Hg) (ne : SMap Ne) (ac : Ac) (fp : Fp) (ze : Ze) (ps : Ps) (safA : Saf) (safB : Saf) (out : Out) (cf : Cf) (sess : Sess)
    (tf : Tfu) (ax : Ax) (zl : Zl) (dc : Dc) (hp : Hp) (ed : Ed) (crc0 : Crc) (crc1 : Crc) (lm : Lm) (res : SMap Res) (regs : SMap Nat)
    (h0 : sys.oper = t.sys.oper) :
    (guarded (State.mk sys sup mw pw wc mir ex gov rx rq hg ne ac fp ze ps safA safB out cf sess tf ax zl dc hp ed crc0 crc1 lm res regs t.pending)).oper = (guarded t).oper := by
  unfold guarded; simp only [h0]

@[simp] theorem guarded_mk_log (t : State)
    (sys : Sys) (sup : Sup) (mw : Mw) (pw : Pw) (wc : SMap Wc) (mir : Mir) (ex : Ex) (gov : Gov) (rx : SMap RxCh) (rq : SMap Rq)
    (hg : Hg) (ne : SMap Ne) (ac : Ac) (fp : Fp) (ze : Ze) (ps : Ps) (safA : Saf) (safB : Saf) (out : Out) (cf : Cf) (sess : Sess)
    (tf : Tfu) (ax : Ax) (zl : Zl) (dc : Dc) (hp : Hp) (ed : Ed) (crc0 : Crc) (crc1 : Crc) (lm : Lm) (res : SMap Res) (regs : SMap Nat)
    (h0 : sess.log = t.sess.log) :
    (guarded (State.mk sys sup mw pw wc mir ex gov rx rq hg ne ac fp ze ps safA safB out cf sess tf ax zl dc hp ed crc0 crc1 lm res regs t.pending)).log = (guarded t).log := by
  unfold guarded; simp only [h0]

@[simp] theorem guarded_mk_limits (t : State)
    (sys : Sys) (sup : Sup) (mw : Mw) (pw : Pw) (wc : SMap Wc) (mir : Mir) (ex : Ex) (gov : Gov) (rx : SMap RxCh) (rq : SMap Rq)
    (hg : Hg) (ne : SMap Ne) (ac : Ac) (fp : Fp) (ze : Ze) (ps : Ps) (safA : Saf) (safB : Saf) (out : Out) (cf : Cf) (sess : Sess)
    (tf : Tfu) (ax : Ax) (zl : Zl) (dc : Dc) (hp : Hp) (ed : Ed) (crc0 : Crc) (crc1 : Crc) (lm : Lm) (res : SMap Res) (regs : SMap Nat)
    (h0 : gov.limb = t.gov.limb) (h1 : gov.lim5 = t.gov.lim5) (h2 : gov.lim100 = t.gov.lim100) (h3 : gov.locked = t.gov.locked) :
    (guarded (State.mk sys sup mw pw wc mir ex gov rx rq hg ne ac fp ze ps safA safB out cf sess tf ax zl dc hp ed crc0 crc1 lm res regs t.pending)).limits = (guarded t).limits := by
  unfold guarded; simp only [h0, h1, h2, h3]

@[simp] theorem guarded_mk_eff (t : State)
    (sys : Sys) (sup : Sup) (mw : Mw) (pw : Pw) (wc : SMap Wc) (mir : Mir) (ex : Ex) (gov : Gov) (rx : SMap RxCh) (rq : SMap Rq)
    (hg : Hg) (ne : SMap Ne) (ac : Ac) (fp : Fp) (ze : Ze) (ps : Ps) (safA : Saf) (safB : Saf) (out : Out) (cf : Cf) (sess : Sess)
    (tf : Tfu) (ax : Ax) (zl : Zl) (dc : Dc) (hp : Hp) (ed : Ed) (crc0 : Crc) (crc1 : Crc) (lm : Lm) (res : SMap Res) (regs : SMap Nat)
    (h0 : cf.eff = t.cf.eff) :
    (guarded (State.mk sys sup mw pw wc mir ex gov rx rq hg ne ac fp ze ps safA safB out cf sess tf ax zl dc hp ed crc0 crc1 lm res regs t.pending)).eff = (guarded t).eff := by
  unfold guarded; simp only [h0]

end Sys2Proof.Machine
end

