-- ==== Sys2Proof/Laws/Ops.lean ====
section
/-! SUPPORT. Laws/Ops.lean: what the shared operations of Bits.lean, Flags.lean and Ops.lean leave of the guarded part. -/

namespace Sys2Proof.Machine

@[simp ↓] theorem setLive_guarded (s : State) (i : Nat) (sub : Nat) (v : List Byte) :
    guarded (setLive s i sub v) = guarded s := by
  unfold setLive; simp

@[simp ↓] theorem drawn_guarded (s : State) :
    guarded (drawn s) = guarded s := by
  unfold drawn; simp

@[simp ↓] theorem regPut_guarded (a : Nat) (v : Nat) (s : State) :
    guarded (regPut a v s) = guarded s := by
  unfold regPut; simp

@[simp ↓] theorem regPuts_guarded (ws : List (Nat × Nat)) (s : State) :
    guarded (regPuts ws s) = guarded s := by
  unfold regPuts; simp

@[simp ↓] theorem edSrcSet_guarded (n : Nat) (x : EdSrc) (s : State) :
    guarded (edSrcSet n x s) = guarded s := by
  unfold edSrcSet; simp

@[simp ↓] theorem edTgtSet_guarded (t : Nat) (x : EdTgt) (s : State) :
    guarded (edTgtSet t x s) = guarded s := by
  unfold edTgtSet; simp

@[simp ↓] theorem wakeRequest_guarded (s : State) :
    guarded (wakeRequest s) = guarded s := by
  unfold wakeRequest; simp

@[simp ↓] theorem edUpdate_guarded (fuel n : Nat) (s : State) : guarded (edUpdate fuel n s) = guarded s := by
  induction fuel generalizing n s with
  | zero => rfl
  | succ k ih => unfold edUpdate; dsimp only; (repeat' split) <;> simp [ih]

@[simp ↓] theorem edSync_guarded (n : Nat) (s : State) :
    guarded (edSync n s) = guarded s := by
  unfold edSync; simp

@[simp ↓] theorem edLine_guarded (t : Nat) (s : State) :
    guarded (edLine t s) = guarded s := by
  unfold edLine; simp

@[simp ↓] theorem edArbitrate_guarded (s : State) :
    guarded (edArbitrate s) = guarded s := by
  unfold edArbitrate; simp

@[simp ↓] theorem raise_guarded (j : Nat) (s : State) :
    guarded (raise j s) = guarded s := by
  unfold raise; simp

@[simp ↓] theorem raiseIf_guarded (b : Bool) (j : Nat) (s : State) :
    guarded (raiseIf b j s) = guarded s := by
  unfold raiseIf; simp

@[simp ↓] theorem localEdgeT_guarded (i : Nat) (t : Nat) (s : State) :
    guarded (localEdgeT i t s) = guarded s := by
  unfold localEdgeT; simp

@[simp ↓] theorem localEdge_guarded (i : Nat) (s : State) :
    guarded (localEdge i s) = guarded s := by
  unfold localEdge; simp

@[simp ↓] theorem post_guarded (a : Nat) (low : Nat) (ws : List (Nat × Nat)) (s : State) :
    guarded (post a low ws s) = guarded s := by
  unfold post; (repeat' split) <;> simp

@[simp ↓] theorem clearFresh_guarded (a : Nat) (s : State) :
    guarded (clearFresh a s) = guarded s := by
  unfold clearFresh; (repeat' split) <;> simp

@[simp ↓] theorem advance_guarded (t : Nat) (s : State) :
    guarded (advance t s) = guarded s := by
  unfold advance; simp

@[simp ↓] theorem tpSet_guarded (p : Nat) (x : Tp) (s : State) :
    guarded (tpSet p x s) = guarded s := by
  unfold tpSet; simp

@[simp ↓] theorem openSwitch_queue (c : Chan) (p : Nat) (s : State) :
    (guarded (openSwitch c p s)).queue = (guarded s).queue := by
  unfold openSwitch; dsimp only; (repeat' split) <;> simp

@[simp ↓] theorem openSwitch_oper (c : Chan) (p : Nat) (s : State) :
    (guarded (openSwitch c p s)).oper = (guarded s).oper := by
  unfold openSwitch; dsimp only; (repeat' split) <;> simp

@[simp ↓] theorem openSwitch_log (c : Chan) (p : Nat) (s : State) :
    (guarded (openSwitch c p s)).log = (guarded s).log := by
  unfold openSwitch; dsimp only; (repeat' split) <;> simp

@[simp ↓] theorem openSwitch_limits (c : Chan) (p : Nat) (s : State) :
    (guarded (openSwitch c p s)).limits = (guarded s).limits := by
  unfold openSwitch; dsimp only; (repeat' split) <;> simp

@[simp ↓] theorem openSwitch_eff (c : Chan) (p : Nat) (s : State) :
    (guarded (openSwitch c p s)).eff = (guarded s).eff := by
  unfold openSwitch; dsimp only; (repeat' split) <;> simp

@[simp ↓] theorem openAll_queue (c : Chan) (s : State) :
    (guarded (openAll c s)).queue = (guarded s).queue := by
  unfold openAll; simp

@[simp ↓] theorem openAll_oper (c : Chan) (s : State) :
    (guarded (openAll c s)).oper = (guarded s).oper := by
  unfold openAll; simp

@[simp ↓] theorem openAll_log (c : Chan) (s : State) :
    (guarded (openAll c s)).log = (guarded s).log := by
  unfold openAll; simp

@[simp ↓] theorem openAll_limits (c : Chan) (s : State) :
    (guarded (openAll c s)).limits = (guarded s).limits := by
  unfold openAll; simp

@[simp ↓] theorem openAll_eff (c : Chan) (s : State) :
    (guarded (openAll c s)).eff = (guarded s).eff := by
  unfold openAll; simp

@[simp ↓] theorem openBoth_queue (s : State) :
    (guarded (openBoth s)).queue = (guarded s).queue := by
  unfold openBoth; simp

@[simp ↓] theorem openBoth_oper (s : State) :
    (guarded (openBoth s)).oper = (guarded s).oper := by
  unfold openBoth; simp

@[simp ↓] theorem openBoth_log (s : State) :
    (guarded (openBoth s)).log = (guarded s).log := by
  unfold openBoth; simp

@[simp ↓] theorem openBoth_limits (s : State) :
    (guarded (openBoth s)).limits = (guarded s).limits := by
  unfold openBoth; simp

@[simp ↓] theorem openBoth_eff (s : State) :
    (guarded (openBoth s)).eff = (guarded s).eff := by
  unfold openBoth; simp

@[simp ↓] theorem latchFault_queue (c : Chan) (b : Nat) (s : State) :
    (guarded (latchFault c b s)).queue = (guarded s).queue := by
  unfold latchFault; simp

@[simp ↓] theorem latchFault_oper (c : Chan) (b : Nat) (s : State) :
    (guarded (latchFault c b s)).oper = (guarded s).oper := by
  unfold latchFault; simp

@[simp ↓] theorem latchFault_log (c : Chan) (b : Nat) (s : State) :
    (guarded (latchFault c b s)).log = (guarded s).log := by
  unfold latchFault; simp

@[simp ↓] theorem latchFault_limits (c : Chan) (b : Nat) (s : State) :
    (guarded (latchFault c b s)).limits = (guarded s).limits := by
  unfold latchFault; simp

@[simp ↓] theorem latchFault_eff (c : Chan) (b : Nat) (s : State) :
    (guarded (latchFault c b s)).eff = (guarded s).eff := by
  unfold latchFault; simp

@[simp ↓] theorem secSet_guarded (k : Nat) (x : Sec) (s : State) :
    guarded (secSet k x s) = guarded s := by
  unfold secSet; simp

@[simp ↓] theorem secChange_guarded (k : Nat) (s : State) :
    guarded (secChange k s) = guarded s := by
  unfold secChange; simp

@[simp ↓] theorem disturb_guarded (cause : Nat) (k : Nat) (s : State) :
    guarded (disturb cause k s) = guarded s := by
  unfold disturb; simp

@[simp ↓] theorem lmOff_guarded (s : State) :
    guarded (lmOff s) = guarded s := by
  unfold lmOff; simp

@[simp ↓] theorem lmStepped_guarded (s : State) :
    guarded (lmStepped s) = guarded s := by
  unfold lmStepped; simp

@[simp ↓] theorem postCommit_guarded (st : Nat) (s : State) :
    guarded (postCommit st s) = guarded s := by
  unfold postCommit; simp

@[simp ↓] theorem wake_guarded (s : State) :
    guarded (wake s) = guarded s := by
  unfold wake; simp

@[simp ↓] theorem endSession_guarded (s : State) :
    guarded (endSession s) = guarded s := by
  unfold endSession; dsimp only; (repeat' split) <;> simp

@[simp ↓] theorem touchSession_guarded (p : Path) (s : State) :
    guarded (touchSession p s) = guarded s := by
  unfold touchSession; simp

end Sys2Proof.Machine
end

