-- ==== Sys2Proof/Laws/SafeChannels.lean ====
section
/-! SUPPORT. Laws/SafeChannels.lean: what the operations of SafeChannels.lean leave of the guarded part. -/

namespace Sys2Proof.Machine

@[simp ↓] theorem sampleSin_guarded (c : Chan) (lv : SinLevels) (s : State) :
    guarded (sampleSin c lv s) = guarded s := by
  unfold sampleSin; simp

@[simp ↓] theorem startRamp_guarded (c : Chan) (d : Nat) (s : State) :
    guarded (startRamp c d s) = guarded s := by
  unfold startRamp; simp

@[simp ↓] theorem evalDemands_queue (c : Chan) (s : State) :
    (guarded (evalDemands c s)).queue = (guarded s).queue := by
  unfold evalDemands; simp

@[simp ↓] theorem evalDemands_oper (c : Chan) (s : State) :
    (guarded (evalDemands c s)).oper = (guarded s).oper := by
  unfold evalDemands; simp

@[simp ↓] theorem evalDemands_log (c : Chan) (s : State) :
    (guarded (evalDemands c s)).log = (guarded s).log := by
  unfold evalDemands; simp

@[simp ↓] theorem evalDemands_limits (c : Chan) (s : State) :
    (guarded (evalDemands c s)).limits = (guarded s).limits := by
  unfold evalDemands; simp

@[simp ↓] theorem evalDemands_eff (c : Chan) (s : State) :
    (guarded (evalDemands c s)).eff = (guarded s).eff := by
  unfold evalDemands; simp

@[simp ↓] theorem latchDisc_queue (c : Chan) (i : Nat) (s : State) :
    (guarded (latchDisc c i s)).queue = (guarded s).queue := by
  unfold latchDisc; simp

@[simp ↓] theorem latchDisc_oper (c : Chan) (i : Nat) (s : State) :
    (guarded (latchDisc c i s)).oper = (guarded s).oper := by
  unfold latchDisc; simp

@[simp ↓] theorem latchDisc_log (c : Chan) (i : Nat) (s : State) :
    (guarded (latchDisc c i s)).log = (guarded s).log := by
  unfold latchDisc; simp

@[simp ↓] theorem latchDisc_limits (c : Chan) (i : Nat) (s : State) :
    (guarded (latchDisc c i s)).limits = (guarded s).limits := by
  unfold latchDisc; simp

@[simp ↓] theorem latchDisc_eff (c : Chan) (i : Nat) (s : State) :
    (guarded (latchDisc c i s)).eff = (guarded s).eff := by
  unfold latchDisc; simp

@[simp ↓] theorem resetLevel_guarded (c : Chan) (was : Bool) (is : Bool) (s : State) :
    guarded (resetLevel c was is s) = guarded s := by
  unfold resetLevel; simp

@[simp ↓] theorem evalPairs_queue (c : Chan) (s : State) :
    (guarded (evalPairs c s)).queue = (guarded s).queue := by
  unfold evalPairs; simp

@[simp ↓] theorem evalPairs_oper (c : Chan) (s : State) :
    (guarded (evalPairs c s)).oper = (guarded s).oper := by
  unfold evalPairs; simp

@[simp ↓] theorem evalPairs_log (c : Chan) (s : State) :
    (guarded (evalPairs c s)).log = (guarded s).log := by
  unfold evalPairs; simp

@[simp ↓] theorem evalPairs_limits (c : Chan) (s : State) :
    (guarded (evalPairs c s)).limits = (guarded s).limits := by
  unfold evalPairs; simp

@[simp ↓] theorem evalPairs_eff (c : Chan) (s : State) :
    (guarded (evalPairs c s)).eff = (guarded s).eff := by
  unfold evalPairs; simp

@[simp ↓] theorem discTimeout_queue (c : Chan) (n : Nat) (s : State) :
    (guarded (discTimeout c n s)).queue = (guarded s).queue := by
  unfold discTimeout; dsimp only; (repeat' split) <;> simp

@[simp ↓] theorem discTimeout_oper (c : Chan) (n : Nat) (s : State) :
    (guarded (discTimeout c n s)).oper = (guarded s).oper := by
  unfold discTimeout; dsimp only; (repeat' split) <;> simp

@[simp ↓] theorem discTimeout_log (c : Chan) (n : Nat) (s : State) :
    (guarded (discTimeout c n s)).log = (guarded s).log := by
  unfold discTimeout; dsimp only; (repeat' split) <;> simp

@[simp ↓] theorem discTimeout_limits (c : Chan) (n : Nat) (s : State) :
    (guarded (discTimeout c n s)).limits = (guarded s).limits := by
  unfold discTimeout; dsimp only; (repeat' split) <;> simp

@[simp ↓] theorem discTimeout_eff (c : Chan) (n : Nat) (s : State) :
    (guarded (discTimeout c n s)).eff = (guarded s).eff := by
  unfold discTimeout; dsimp only; (repeat' split) <;> simp

@[simp ↓] theorem latchDrive_queue (c : Chan) (d : Nat) (s : State) :
    (guarded (latchDrive c d s)).queue = (guarded s).queue := by
  unfold latchDrive; simp

@[simp ↓] theorem latchDrive_oper (c : Chan) (d : Nat) (s : State) :
    (guarded (latchDrive c d s)).oper = (guarded s).oper := by
  unfold latchDrive; simp

@[simp ↓] theorem latchDrive_log (c : Chan) (d : Nat) (s : State) :
    (guarded (latchDrive c d s)).log = (guarded s).log := by
  unfold latchDrive; simp

@[simp ↓] theorem latchDrive_limits (c : Chan) (d : Nat) (s : State) :
    (guarded (latchDrive c d s)).limits = (guarded s).limits := by
  unfold latchDrive; simp

@[simp ↓] theorem latchDrive_eff (c : Chan) (d : Nat) (s : State) :
    (guarded (latchDrive c d s)).eff = (guarded s).eff := by
  unfold latchDrive; simp

@[simp ↓] theorem encStep_queue (c : Chan) (d : Nat) (e : Nat) (ab : BitVec 2) (s : State) :
    (guarded (encStep c d e ab s)).queue = (guarded s).queue := by
  unfold encStep; simp

@[simp ↓] theorem encStep_oper (c : Chan) (d : Nat) (e : Nat) (ab : BitVec 2) (s : State) :
    (guarded (encStep c d e ab s)).oper = (guarded s).oper := by
  unfold encStep; simp

@[simp ↓] theorem encStep_log (c : Chan) (d : Nat) (e : Nat) (ab : BitVec 2) (s : State) :
    (guarded (encStep c d e ab s)).log = (guarded s).log := by
  unfold encStep; simp

@[simp ↓] theorem encStep_limits (c : Chan) (d : Nat) (e : Nat) (ab : BitVec 2) (s : State) :
    (guarded (encStep c d e ab s)).limits = (guarded s).limits := by
  unfold encStep; simp

@[simp ↓] theorem encStep_eff (c : Chan) (d : Nat) (e : Nat) (ab : BitVec 2) (s : State) :
    (guarded (encStep c d e ab s)).eff = (guarded s).eff := by
  unfold encStep; simp

@[simp ↓] theorem enterSto_queue (c : Chan) (d : Nat) (s : State) :
    (guarded (enterSto c d s)).queue = (guarded s).queue := by
  unfold enterSto; simp

@[simp ↓] theorem enterSto_oper (c : Chan) (d : Nat) (s : State) :
    (guarded (enterSto c d s)).oper = (guarded s).oper := by
  unfold enterSto; simp

@[simp ↓] theorem enterSto_log (c : Chan) (d : Nat) (s : State) :
    (guarded (enterSto c d s)).log = (guarded s).log := by
  unfold enterSto; simp

@[simp ↓] theorem enterSto_limits (c : Chan) (d : Nat) (s : State) :
    (guarded (enterSto c d s)).limits = (guarded s).limits := by
  unfold enterSto; simp

@[simp ↓] theorem enterSto_eff (c : Chan) (d : Nat) (s : State) :
    (guarded (enterSto c d s)).eff = (guarded s).eff := by
  unfold enterSto; simp

@[simp ↓] theorem monitorStep_queue (c : Chan) (d : Nat) (s : State) :
    (guarded (monitorStep c d s)).queue = (guarded s).queue := by
  unfold monitorStep; dsimp only; (repeat' split) <;> simp

@[simp ↓] theorem monitorStep_oper (c : Chan) (d : Nat) (s : State) :
    (guarded (monitorStep c d s)).oper = (guarded s).oper := by
  unfold monitorStep; dsimp only; (repeat' split) <;> simp

@[simp ↓] theorem monitorStep_log (c : Chan) (d : Nat) (s : State) :
    (guarded (monitorStep c d s)).log = (guarded s).log := by
  unfold monitorStep; dsimp only; (repeat' split) <;> simp

@[simp ↓] theorem monitorStep_limits (c : Chan) (d : Nat) (s : State) :
    (guarded (monitorStep c d s)).limits = (guarded s).limits := by
  unfold monitorStep; dsimp only; (repeat' split) <;> simp

@[simp ↓] theorem monitorStep_eff (c : Chan) (d : Nat) (s : State) :
    (guarded (monitorStep c d s)).eff = (guarded s).eff := by
  unfold monitorStep; dsimp only; (repeat' split) <;> simp

@[simp ↓] theorem speedStep_queue (c : Chan) (d : Nat) (s : State) :
    (guarded (speedStep c d s)).queue = (guarded s).queue := by
  unfold speedStep; simp

@[simp ↓] theorem speedStep_oper (c : Chan) (d : Nat) (s : State) :
    (guarded (speedStep c d s)).oper = (guarded s).oper := by
  unfold speedStep; simp

@[simp ↓] theorem speedStep_log (c : Chan) (d : Nat) (s : State) :
    (guarded (speedStep c d s)).log = (guarded s).log := by
  unfold speedStep; simp

@[simp ↓] theorem speedStep_limits (c : Chan) (d : Nat) (s : State) :
    (guarded (speedStep c d s)).limits = (guarded s).limits := by
  unfold speedStep; simp

@[simp ↓] theorem speedStep_eff (c : Chan) (d : Nat) (s : State) :
    (guarded (speedStep c d s)).eff = (guarded s).eff := by
  unfold speedStep; simp

@[simp ↓] theorem driveCompute_queue (c : Chan) (s : State) :
    (guarded (driveCompute c s)).queue = (guarded s).queue := by
  unfold driveCompute; simp

@[simp ↓] theorem driveCompute_oper (c : Chan) (s : State) :
    (guarded (driveCompute c s)).oper = (guarded s).oper := by
  unfold driveCompute; simp

@[simp ↓] theorem driveCompute_log (c : Chan) (s : State) :
    (guarded (driveCompute c s)).log = (guarded s).log := by
  unfold driveCompute; simp

@[simp ↓] theorem driveCompute_limits (c : Chan) (s : State) :
    (guarded (driveCompute c s)).limits = (guarded s).limits := by
  unfold driveCompute; simp

@[simp ↓] theorem driveCompute_eff (c : Chan) (s : State) :
    (guarded (driveCompute c s)).eff = (guarded s).eff := by
  unfold driveCompute; simp

@[simp ↓] theorem postMirror_guarded (s : State) :
    guarded (postMirror s) = guarded s := by
  unfold postMirror; simp

@[simp ↓] theorem sendCross_guarded (c : Chan) (s : State) :
    guarded (sendCross c s) = guarded s := by
  unfold sendCross; (repeat' split) <;> simp

@[simp ↓] theorem takeCross_queue (c : Chan) (w : Cross) (s : State) :
    (guarded (takeCross c w s)).queue = (guarded s).queue := by
  unfold takeCross; simp

@[simp ↓] theorem takeCross_oper (c : Chan) (w : Cross) (s : State) :
    (guarded (takeCross c w s)).oper = (guarded s).oper := by
  unfold takeCross; simp

@[simp ↓] theorem takeCross_log (c : Chan) (w : Cross) (s : State) :
    (guarded (takeCross c w s)).log = (guarded s).log := by
  unfold takeCross; simp

@[simp ↓] theorem takeCross_limits (c : Chan) (w : Cross) (s : State) :
    (guarded (takeCross c w s)).limits = (guarded s).limits := by
  unfold takeCross; simp

@[simp ↓] theorem takeCross_eff (c : Chan) (w : Cross) (s : State) :
    (guarded (takeCross c w s)).eff = (guarded s).eff := by
  unfold takeCross; simp

@[simp ↓] theorem receiveCross_queue (c : Chan) (valid : Bool) (s : State) :
    (guarded (receiveCross c valid s)).queue = (guarded s).queue := by
  unfold receiveCross; dsimp only; (repeat' split) <;> simp

@[simp ↓] theorem receiveCross_oper (c : Chan) (valid : Bool) (s : State) :
    (guarded (receiveCross c valid s)).oper = (guarded s).oper := by
  unfold receiveCross; dsimp only; (repeat' split) <;> simp

@[simp ↓] theorem receiveCross_log (c : Chan) (valid : Bool) (s : State) :
    (guarded (receiveCross c valid s)).log = (guarded s).log := by
  unfold receiveCross; dsimp only; (repeat' split) <;> simp

@[simp ↓] theorem receiveCross_limits (c : Chan) (valid : Bool) (s : State) :
    (guarded (receiveCross c valid s)).limits = (guarded s).limits := by
  unfold receiveCross; dsimp only; (repeat' split) <;> simp

@[simp ↓] theorem receiveCross_eff (c : Chan) (valid : Bool) (s : State) :
    (guarded (receiveCross c valid s)).eff = (guarded s).eff := by
  unfold receiveCross; dsimp only; (repeat' split) <;> simp

@[simp ↓] theorem readback_queue (c : Chan) (p : Nat) (on : Bool) (s : State) :
    (guarded (readback c p on s)).queue = (guarded s).queue := by
  unfold readback; simp

@[simp ↓] theorem readback_oper (c : Chan) (p : Nat) (on : Bool) (s : State) :
    (guarded (readback c p on s)).oper = (guarded s).oper := by
  unfold readback; simp

@[simp ↓] theorem readback_log (c : Chan) (p : Nat) (on : Bool) (s : State) :
    (guarded (readback c p on s)).log = (guarded s).log := by
  unfold readback; simp

@[simp ↓] theorem readback_limits (c : Chan) (p : Nat) (on : Bool) (s : State) :
    (guarded (readback c p on s)).limits = (guarded s).limits := by
  unfold readback; simp

@[simp ↓] theorem readback_eff (c : Chan) (p : Nat) (on : Bool) (s : State) :
    (guarded (readback c p on s)).eff = (guarded s).eff := by
  unfold readback; simp

@[simp ↓] theorem startPulse_guarded (p : Nat) (s : State) :
    guarded (startPulse p s) = guarded s := by
  unfold startPulse; dsimp only; (repeat' split) <;> simp

@[simp ↓] theorem endPulse_queue (p : Nat) (onA : Bool) (onB : Bool) (s : State) :
    (guarded (endPulse p onA onB s)).queue = (guarded s).queue := by
  unfold endPulse; dsimp only; (repeat' split) <;> simp

@[simp ↓] theorem endPulse_oper (p : Nat) (onA : Bool) (onB : Bool) (s : State) :
    (guarded (endPulse p onA onB s)).oper = (guarded s).oper := by
  unfold endPulse; dsimp only; (repeat' split) <;> simp

@[simp ↓] theorem endPulse_log (p : Nat) (onA : Bool) (onB : Bool) (s : State) :
    (guarded (endPulse p onA onB s)).log = (guarded s).log := by
  unfold endPulse; dsimp only; (repeat' split) <;> simp

@[simp ↓] theorem endPulse_limits (p : Nat) (onA : Bool) (onB : Bool) (s : State) :
    (guarded (endPulse p onA onB s)).limits = (guarded s).limits := by
  unfold endPulse; dsimp only; (repeat' split) <;> simp

@[simp ↓] theorem endPulse_eff (p : Nat) (onA : Bool) (onB : Bool) (s : State) :
    (guarded (endPulse p onA onB s)).eff = (guarded s).eff := by
  unfold endPulse; dsimp only; (repeat' split) <;> simp

@[simp ↓] theorem clearLatches_queue (c : Chan) (s : State) :
    (guarded (clearLatches c s)).queue = (guarded s).queue := by
  unfold clearLatches; simp

@[simp ↓] theorem clearLatches_oper (c : Chan) (s : State) :
    (guarded (clearLatches c s)).oper = (guarded s).oper := by
  unfold clearLatches; simp

@[simp ↓] theorem clearLatches_log (c : Chan) (s : State) :
    (guarded (clearLatches c s)).log = (guarded s).log := by
  unfold clearLatches; simp

@[simp ↓] theorem clearLatches_limits (c : Chan) (s : State) :
    (guarded (clearLatches c s)).limits = (guarded s).limits := by
  unfold clearLatches; simp

@[simp ↓] theorem clearLatches_eff (c : Chan) (s : State) :
    (guarded (clearLatches c s)).eff = (guarded s).eff := by
  unfold clearLatches; simp

@[simp ↓] theorem edgeMonitor_guarded (c : Chan) (d : Nat) (s : State) :
    guarded (edgeMonitor c d s) = guarded s := by
  unfold edgeMonitor; simp

@[simp ↓] theorem closeSwitch_queue (c : Chan) (p : Nat) (s : State) :
    (guarded (closeSwitch c p s)).queue = (guarded s).queue := by
  unfold closeSwitch; dsimp only; (repeat' split) <;> simp

@[simp ↓] theorem closeSwitch_oper (c : Chan) (p : Nat) (s : State) :
    (guarded (closeSwitch c p s)).oper = (guarded s).oper := by
  unfold closeSwitch; dsimp only; (repeat' split) <;> simp

@[simp ↓] theorem closeSwitch_log (c : Chan) (p : Nat) (s : State) :
    (guarded (closeSwitch c p s)).log = (guarded s).log := by
  unfold closeSwitch; dsimp only; (repeat' split) <;> simp

@[simp ↓] theorem closeSwitch_limits (c : Chan) (p : Nat) (s : State) :
    (guarded (closeSwitch c p s)).limits = (guarded s).limits := by
  unfold closeSwitch; dsimp only; (repeat' split) <;> simp

@[simp ↓] theorem closeSwitch_eff (c : Chan) (p : Nat) (s : State) :
    (guarded (closeSwitch c p s)).eff = (guarded s).eff := by
  unfold closeSwitch; dsimp only; (repeat' split) <;> simp

@[simp ↓] theorem noteEdge_guarded (c : Chan) (last : Nat) (ignored : Bool) (s : State) :
    guarded (noteEdge c last ignored s) = guarded s := by
  unfold noteEdge; simp

@[simp ↓] theorem validEdge_queue (c : Chan) (s : State) :
    (guarded (validEdge c s)).queue = (guarded s).queue := by
  unfold validEdge; simp

@[simp ↓] theorem validEdge_oper (c : Chan) (s : State) :
    (guarded (validEdge c s)).oper = (guarded s).oper := by
  unfold validEdge; simp

@[simp ↓] theorem validEdge_log (c : Chan) (s : State) :
    (guarded (validEdge c s)).log = (guarded s).log := by
  unfold validEdge; simp

@[simp ↓] theorem validEdge_limits (c : Chan) (s : State) :
    (guarded (validEdge c s)).limits = (guarded s).limits := by
  unfold validEdge; simp

@[simp ↓] theorem validEdge_eff (c : Chan) (s : State) :
    (guarded (validEdge c s)).eff = (guarded s).eff := by
  unfold validEdge; simp

@[simp ↓] theorem resetFall_queue (c : Chan) (s : State) :
    (guarded (resetFall c s)).queue = (guarded s).queue := by
  unfold resetFall; dsimp only; (repeat' split) <;> simp

@[simp ↓] theorem resetFall_oper (c : Chan) (s : State) :
    (guarded (resetFall c s)).oper = (guarded s).oper := by
  unfold resetFall; dsimp only; (repeat' split) <;> simp

@[simp ↓] theorem resetFall_log (c : Chan) (s : State) :
    (guarded (resetFall c s)).log = (guarded s).log := by
  unfold resetFall; dsimp only; (repeat' split) <;> simp

@[simp ↓] theorem resetFall_limits (c : Chan) (s : State) :
    (guarded (resetFall c s)).limits = (guarded s).limits := by
  unfold resetFall; dsimp only; (repeat' split) <;> simp

@[simp ↓] theorem resetFall_eff (c : Chan) (s : State) :
    (guarded (resetFall c s)).eff = (guarded s).eff := by
  unfold resetFall; dsimp only; (repeat' split) <;> simp

@[simp ↓] theorem jamNow_queue (c : Chan) (s : State) :
    (guarded (jamNow c s)).queue = (guarded s).queue := by
  unfold jamNow; simp

@[simp ↓] theorem jamNow_oper (c : Chan) (s : State) :
    (guarded (jamNow c s)).oper = (guarded s).oper := by
  unfold jamNow; simp

@[simp ↓] theorem jamNow_log (c : Chan) (s : State) :
    (guarded (jamNow c s)).log = (guarded s).log := by
  unfold jamNow; simp

@[simp ↓] theorem jamNow_limits (c : Chan) (s : State) :
    (guarded (jamNow c s)).limits = (guarded s).limits := by
  unfold jamNow; simp

@[simp ↓] theorem jamNow_eff (c : Chan) (s : State) :
    (guarded (jamNow c s)).eff = (guarded s).eff := by
  unfold jamNow; simp

@[simp ↓] theorem resetJam_queue (c : Chan) (s : State) :
    (guarded (resetJam c s)).queue = (guarded s).queue := by
  unfold resetJam; dsimp only; (repeat' split) <;> simp

@[simp ↓] theorem resetJam_oper (c : Chan) (s : State) :
    (guarded (resetJam c s)).oper = (guarded s).oper := by
  unfold resetJam; dsimp only; (repeat' split) <;> simp

@[simp ↓] theorem resetJam_log (c : Chan) (s : State) :
    (guarded (resetJam c s)).log = (guarded s).log := by
  unfold resetJam; dsimp only; (repeat' split) <;> simp

@[simp ↓] theorem resetJam_limits (c : Chan) (s : State) :
    (guarded (resetJam c s)).limits = (guarded s).limits := by
  unfold resetJam; dsimp only; (repeat' split) <;> simp

@[simp ↓] theorem resetJam_eff (c : Chan) (s : State) :
    (guarded (resetJam c s)).eff = (guarded s).eff := by
  unfold resetJam; dsimp only; (repeat' split) <;> simp

@[simp ↓] theorem latchSafety_guarded (s : State) : guarded (latchSafety s) = guarded s := rfl

end Sys2Proof.Machine
end

