-- ==== Sys2Proof/Laws/Axle.lean ====
section
/-! SUPPORT. Laws/Axle.lean: what the operations of Axle.lean leave of the guarded part. -/

namespace Sys2Proof.Machine

@[simp ↓] theorem disturbCps_guarded (cause : Nat) (cps : List Nat) (s : State) :
    guarded (disturbCps cause cps s) = guarded s := by
  unfold disturbCps; simp

@[simp ↓] theorem hdSet_guarded (h : Nat) (x : Head) (s : State) :
    guarded (hdSet h x s) = guarded s := by
  unfold hdSet; simp

@[simp ↓] theorem gtSet_guarded (g : Nat) (x : Gate) (s : State) :
    guarded (gtSet g x s) = guarded s := by
  unfold gtSet; simp

@[simp ↓] theorem tlSet_guarded (l : Nat) (x : Tl) (s : State) :
    guarded (tlSet l x s) = guarded s := by
  unfold tlSet; simp

@[simp ↓] theorem secGo_guarded (k : Nat) (st : Nat) (s : State) :
    guarded (secGo k st s) = guarded s := by
  unfold secGo; simp

@[simp ↓] theorem secUpdate_guarded (k : Nat) (s : State) :
    guarded (secUpdate k s) = guarded s := by
  unfold secUpdate; simp

@[simp ↓] theorem secUpdateAll_guarded (s : State) :
    guarded (secUpdateAll s) = guarded s := by
  unfold secUpdateAll; simp

@[simp ↓] theorem startWrite_guarded (s : State) :
    guarded (startWrite s) = guarded s := by
  unfold startWrite; simp

@[simp ↓] theorem passageAt_guarded (src : Nat) (ref : Nat) (ba : Bool) (vehicle : Bool) (s : State) :
    guarded (passageAt src ref ba vehicle s) = guarded s := by
  unfold passageAt; simp

@[simp ↓] theorem applyPass_guarded (s : State) (p : Pass) :
    guarded (applyPass s p) = guarded s := by
  unfold applyPass; simp

@[simp ↓] theorem exportPass_guarded (s : State) (p : Pass) :
    guarded (exportPass s p) = guarded s := by
  unfold exportPass; simp

@[simp ↓] theorem noteRose_guarded (s : State) :
    guarded (noteRose s) = guarded s := by
  unfold noteRose; simp

@[simp ↓] theorem passDiscard_guarded (s : State) (p : Pass) :
    guarded (passDiscard s p) = guarded s := by
  unfold passDiscard; simp

@[simp ↓] theorem copyAWritten_guarded (s : State) :
    guarded (copyAWritten s) = guarded s := by
  unfold copyAWritten; simp

@[simp ↓] theorem copyBWritten_guarded (s : State) :
    guarded (copyBWritten s) = guarded s := by
  unfold copyBWritten; simp

@[simp ↓] theorem headPass_guarded (h : Nat) (ba : Bool) (s : State) :
    guarded (headPass h ba s) = guarded s := by
  unfold headPass; simp

@[simp ↓] theorem headEval_guarded (h : Nat) (s : State) :
    guarded (headEval h s) = guarded s := by
  unfold headEval; dsimp only; (repeat' split) <;> simp

@[simp ↓] theorem axleSample_guarded (n : Nat) (s : State) :
    guarded (axleSample n s) = guarded s := by
  unfold axleSample; simp

@[simp ↓] theorem headFaulty_guarded (h : Nat) (s : State) :
    guarded (headFaulty h s) = guarded s := by
  unfold headFaulty; simp

@[simp ↓] theorem headsFaulty_guarded (n : Nat) (s : State) :
    guarded (headsFaulty n s) = guarded s := by
  unfold headsFaulty; simp

@[simp ↓] theorem headsOpen_guarded (s : State) :
    guarded (headsOpen s) = guarded s := by
  unfold headsOpen; simp

@[simp ↓] theorem headHealthy_guarded (h : Nat) (s : State) :
    guarded (headHealthy h s) = guarded s := by
  unfold headHealthy; simp

@[simp ↓] theorem gateEval_guarded (mb : Bool) (g : Nat) (s : State) :
    guarded (gateEval mb g s) = guarded s := by
  unfold gateEval; dsimp only; (repeat' split) <;> simp

@[simp ↓] theorem zoneEvidence_guarded (mb : Bool) (k : Nat) (s : State) :
    guarded (zoneEvidence mb k s) = guarded s := by
  unfold zoneEvidence; simp

@[simp ↓] theorem axleMailbox_guarded (mb : Bool) (s : State) :
    guarded (axleMailbox mb s) = guarded s := by
  unfold axleMailbox; simp

@[simp ↓] theorem sectionRequest_guarded (k : Nat) (s : State) :
    guarded (sectionRequest k s) = guarded s := by
  unfold sectionRequest; simp

@[simp ↓] theorem sectLevels_guarded (was : List Bool) (s : State) :
    guarded (sectLevels was s) = guarded s := by
  unfold sectLevels; simp

@[simp ↓] theorem pairEvaluate_queue (c : Chan) (s : State) :
    (guarded (pairEvaluate c s)).queue = (guarded s).queue := by
  unfold pairEvaluate; (repeat' split) <;> simp

@[simp ↓] theorem pairEvaluate_oper (c : Chan) (s : State) :
    (guarded (pairEvaluate c s)).oper = (guarded s).oper := by
  unfold pairEvaluate; (repeat' split) <;> simp

@[simp ↓] theorem pairEvaluate_log (c : Chan) (s : State) :
    (guarded (pairEvaluate c s)).log = (guarded s).log := by
  unfold pairEvaluate; (repeat' split) <;> simp

@[simp ↓] theorem pairEvaluate_limits (c : Chan) (s : State) :
    (guarded (pairEvaluate c s)).limits = (guarded s).limits := by
  unfold pairEvaluate; (repeat' split) <;> simp

@[simp ↓] theorem pairEvaluate_eff (c : Chan) (s : State) :
    (guarded (pairEvaluate c s)).eff = (guarded s).eff := by
  unfold pairEvaluate; (repeat' split) <;> simp

@[simp ↓] theorem sectEdge_guarded (k : Nat) (s : State) :
    guarded (sectEdge k s) = guarded s := by
  unfold sectEdge; simp

@[simp ↓] theorem sectionReset_guarded (k : Nat) (src : Option Path) (s : State) :
    guarded (sectionReset k src s) = guarded s := by
  unfold sectionReset; (repeat' split) <;> simp

@[simp ↓] theorem sectJam_guarded (i : Nat) (s : State) :
    guarded (sectJam i s) = guarded s := by
  unfold sectJam; (repeat' split) <;> simp

@[simp ↓] theorem sendSecWord_guarded (s : State) :
    guarded (sendSecWord s) = guarded s := by
  unfold sendSecWord; simp

@[simp ↓] theorem takeSecWord_guarded (c : Chan) (valid : Bool) (s : State) :
    guarded (takeSecWord c valid s) = guarded s := by
  unfold takeSecWord; (repeat' split) <;> simp

@[simp ↓] theorem tlSent_guarded (l : Nat) (f : List Byte) (s : State) :
    guarded (tlSent l f s) = guarded s := by
  unfold tlSent; simp

@[simp ↓] theorem tlCommitted_guarded (s : State) :
    guarded (tlCommitted s) = guarded s := by
  unfold tlCommitted; simp

@[simp ↓] theorem tlSendEvent_guarded (l : Nat) (s : State) :
    guarded (tlSendEvent l s) = guarded s := by
  unfold tlSendEvent; dsimp only; (repeat' split) <;> simp

@[simp ↓] theorem tlSendStatus_guarded (l : Nat) (s : State) :
    guarded (tlSendStatus l s) = guarded s := by
  unfold tlSendStatus; simp

@[simp ↓] theorem tlLost_guarded (l : Nat) (s : State) :
    guarded (tlLost l s) = guarded s := by
  unfold tlLost; simp

@[simp ↓] theorem tlEvent_guarded (l : Nat) (f : TlFrame) (s : State) :
    guarded (tlEvent l f s) = guarded s := by
  unfold tlEvent; simp

@[simp ↓] theorem tlValid_guarded (l : Nat) (f : TlFrame) (s : State) :
    guarded (tlValid l f s) = guarded s := by
  unfold tlValid; simp

@[simp ↓] theorem tlReceive_guarded (l : Nat) (f : TlFrame) (s : State) :
    guarded (tlReceive l f s) = guarded s := by
  unfold tlReceive; simp

@[simp ↓] theorem tlDown_guarded (l : Nat) (s : State) :
    guarded (tlDown l s) = guarded s := by
  unfold tlDown; simp

@[simp ↓] theorem latchAxle_guarded (s : State) :
    guarded (latchAxle s) = guarded s := by
  unfold latchAxle; simp

@[simp ↓] theorem axleStart_guarded (cause : Nat) (aOk : Bool) (bOk : Bool) (s : State) :
    guarded (axleStart cause aOk bOk s) = guarded s := by
  unfold axleStart; simp

end Sys2Proof.Machine
end

