-- ==== Sys2Proof/Laws/TrackFront.lean ====
section
/-! SUPPORT. Laws/TrackFront.lean: what the operations of TrackFront.lean leave of the guarded part. -/

namespace Sys2Proof.Machine

@[simp ↓] theorem tfPut_guarded (n : Nat) (x : Tf) (s : State) :
    guarded (tfPut n x s) = guarded s := by
  unfold tfPut; simp

@[simp ↓] theorem tfBlank_guarded (n : Nat) (a : Nat) (b : Nat) (s : State) :
    guarded (tfBlank n a b s) = guarded s := by
  unfold tfBlank; simp

@[simp ↓] theorem tfDrydown_guarded (n : Nat) (s : State) :
    guarded (tfDrydown n s) = guarded s := by
  unfold tfDrydown; simp

@[simp ↓] theorem tfPinUpdate_guarded (n : Nat) (s : State) :
    guarded (tfPinUpdate n s) = guarded s := by
  unfold tfPinUpdate; dsimp only; (repeat' split) <;> simp

@[simp ↓] theorem tfPinUpdateAll_guarded (s : State) :
    guarded (tfPinUpdateAll s) = guarded s := by
  unfold tfPinUpdateAll; simp

@[simp ↓] theorem tfGain_guarded (n : Nat) (s : State) :
    guarded (tfGain n s) = guarded s := by
  unfold tfGain; simp

@[simp ↓] theorem tfStart_guarded (n : Nat) (s : State) :
    guarded (tfStart n s) = guarded s := by
  unfold tfStart; simp

@[simp ↓] theorem tfStartAll_guarded (s : State) :
    guarded (tfStartAll s) = guarded s := by
  unfold tfStartAll; simp

@[simp ↓] theorem tfStopAll_guarded (s : State) :
    guarded (tfStopAll s) = guarded s := by
  unfold tfStopAll; simp

@[simp ↓] theorem tfCommitted_guarded (old : State) (s : State) :
    guarded (tfCommitted old s) = guarded s := by
  unfold tfCommitted; simp

@[simp ↓] theorem tfCapture_guarded (n : Nat) (w : BitVec 24) (fire : Bool) (s : State) :
    guarded (tfCapture n w fire s) = guarded s := by
  unfold tfCapture; simp

@[simp ↓] theorem tfDeliver_guarded (n : Nat) (raw : Int) (s : State) :
    guarded (tfDeliver n raw s) = guarded s := by
  unfold tfDeliver; simp

@[simp ↓] theorem tfRearm_guarded (n : Nat) (s : State) :
    guarded (tfRearm n s) = guarded s := by
  unfold tfRearm; simp

@[simp ↓] theorem tfDryEnd_guarded (n : Nat) (s : State) :
    guarded (tfDryEnd n s) = guarded s := by
  unfold tfDryEnd; dsimp only; simp

@[simp ↓] theorem tfPinChange_guarded (high : Bool) (s : State) :
    guarded (tfPinChange high s) = guarded s := by
  unfold tfPinChange; simp

@[simp ↓] theorem tfBlankOver_guarded (n : Nat) (s : State) :
    guarded (tfBlankOver n s) = guarded s := by
  unfold tfBlankOver; simp

@[simp ↓] theorem tfSoftBlank_guarded (w : Nat) (s : State) :
    guarded (tfSoftBlank w s) = guarded s := by
  unfold tfSoftBlank; simp

@[simp ↓] theorem tfOpen_guarded (n : Nat) (rx : Bool) (ex : Bool) (s : State) :
    guarded (tfOpen n rx ex s) = guarded s := by
  unfold tfOpen; simp

@[simp ↓] theorem tfOpenOver_guarded (n : Nat) (s : State) :
    guarded (tfOpenOver n s) = guarded s := by
  unfold tfOpenOver; simp

@[simp ↓] theorem tfArm_guarded (w : Nat) (s : State) :
    guarded (tfArm w s) = guarded s := by
  unfold tfArm; simp

@[simp ↓] theorem tfCaptureDone_guarded (s : State) :
    guarded (tfCaptureDone s) = guarded s := by
  unfold tfCaptureDone; simp

@[simp ↓] theorem tfOnsetClear_guarded (v : BitVec 16) (s : State) :
    guarded (tfOnsetClear v s) = guarded s := by
  unfold tfOnsetClear; simp

@[simp ↓] theorem latchTrack_guarded (s : State) :
    guarded (latchTrack s) = guarded s := by
  unfold latchTrack; simp

end Sys2Proof.Machine
end

