-- ==== Sys2Proof/Laws/Accord.lean ====
section
/-! SUPPORT. Laws/Accord.lean: what the operations of Accord.lean leave of the guarded part. -/

namespace Sys2Proof.Machine

@[simp ↓] theorem accordCheck_guarded (s : State) :
    guarded (accordCheck s) = guarded s := by
  unfold accordCheck; simp

@[simp ↓] theorem assignTake_guarded (a : Assign) (s : State) :
    guarded (assignTake a s) = guarded s := by
  unfold assignTake; simp

@[simp ↓] theorem assignRun_guarded (d : List Byte) (s : State) :
    guarded (assignRun d s).2 = guarded s := by
  unfold assignRun; simp

@[simp ↓] theorem assignOld_guarded (s : State) :
    guarded (assignOld s) = guarded s := by
  unfold assignOld; simp

@[simp ↓] theorem acStatClear_guarded (w : Nat) (s : State) :
    guarded (acStatClear w s) = guarded s := by
  unfold acStatClear; simp

@[simp ↓] theorem acCntClear_guarded (s : State) :
    guarded (acCntClear s) = guarded s := by
  unfold acCntClear; simp

@[simp ↓] theorem interfereCheck_guarded (s : State) :
    guarded (interfereCheck s) = guarded s := by
  unfold interfereCheck; simp

end Sys2Proof.Machine
end

