-- ==== Sys2Proof/Laws/Emitter.lean ====
section
/-! SUPPORT. Laws/Emitter.lean: what the operations of Emitter.lean leave of the guarded part. -/

namespace Sys2Proof.Machine

@[simp ↓] theorem subwindow_guarded (w100 : Bool) (s : State) :
    guarded (subwindow w100 s) = guarded s := by
  unfold subwindow; simp

@[simp ↓] theorem govTake_guarded (e : Nat) (m : Nat) (s : State) :
    guarded (govTake e m s) = guarded s := by
  unfold govTake; simp

@[simp ↓] theorem govLockNow_queue (s : State) :
    (guarded (govLockNow s)).queue = (guarded s).queue := by
  unfold govLockNow; simp

@[simp ↓] theorem govLockNow_switches (s : State) :
    (guarded (govLockNow s)).switches = (guarded s).switches := by
  unfold govLockNow; simp

@[simp ↓] theorem govLockNow_oper (s : State) :
    (guarded (govLockNow s)).oper = (guarded s).oper := by
  unfold govLockNow; simp

@[simp ↓] theorem govLockNow_log (s : State) :
    (guarded (govLockNow s)).log = (guarded s).log := by
  unfold govLockNow; simp

@[simp ↓] theorem govLockNow_eff (s : State) :
    (guarded (govLockNow s)).eff = (guarded s).eff := by
  unfold govLockNow; simp

@[simp ↓] theorem govUse_queue (b : GovBlock) (s : State) :
    (guarded (govUse b s)).queue = (guarded s).queue := by
  unfold govUse; simp

@[simp ↓] theorem govUse_switches (b : GovBlock) (s : State) :
    (guarded (govUse b s)).switches = (guarded s).switches := by
  unfold govUse; simp

@[simp ↓] theorem govUse_oper (b : GovBlock) (s : State) :
    (guarded (govUse b s)).oper = (guarded s).oper := by
  unfold govUse; simp

@[simp ↓] theorem govUse_log (b : GovBlock) (s : State) :
    (guarded (govUse b s)).log = (guarded s).log := by
  unfold govUse; simp

@[simp ↓] theorem govUse_eff (b : GovBlock) (s : State) :
    (guarded (govUse b s)).eff = (guarded s).eff := by
  unfold govUse; simp

@[simp ↓] theorem govLoad_queue (aOk : Bool) (bOk : Bool) (s : State) :
    (guarded (govLoad aOk bOk s)).queue = (guarded s).queue := by
  unfold govLoad; dsimp only; (repeat' split) <;> simp

@[simp ↓] theorem govLoad_switches (aOk : Bool) (bOk : Bool) (s : State) :
    (guarded (govLoad aOk bOk s)).switches = (guarded s).switches := by
  unfold govLoad; dsimp only; (repeat' split) <;> simp

@[simp ↓] theorem govLoad_oper (aOk : Bool) (bOk : Bool) (s : State) :
    (guarded (govLoad aOk bOk s)).oper = (guarded s).oper := by
  unfold govLoad; dsimp only; (repeat' split) <;> simp

@[simp ↓] theorem govLoad_log (aOk : Bool) (bOk : Bool) (s : State) :
    (guarded (govLoad aOk bOk s)).log = (guarded s).log := by
  unfold govLoad; dsimp only; (repeat' split) <;> simp

@[simp ↓] theorem govLoad_eff (aOk : Bool) (bOk : Bool) (s : State) :
    (guarded (govLoad aOk bOk s)).eff = (guarded s).eff := by
  unfold govLoad; dsimp only; (repeat' split) <;> simp

@[simp ↓] theorem govErase_queue (s : State) :
    (guarded (govErase s)).queue = (guarded s).queue := by
  unfold govErase; simp

@[simp ↓] theorem govErase_switches (s : State) :
    (guarded (govErase s)).switches = (guarded s).switches := by
  unfold govErase; simp

@[simp ↓] theorem govErase_oper (s : State) :
    (guarded (govErase s)).oper = (guarded s).oper := by
  unfold govErase; simp

@[simp ↓] theorem govErase_log (s : State) :
    (guarded (govErase s)).log = (guarded s).log := by
  unfold govErase; simp

@[simp ↓] theorem govErase_eff (s : State) :
    (guarded (govErase s)).eff = (guarded s).eff := by
  unfold govErase; simp

@[simp ↓] theorem exCntUpd_guarded (e : Nat) (f : ExCnt → ExCnt) (s : State) :
    guarded (exCntUpd e f s) = guarded s := by
  unfold exCntUpd; simp

@[simp ↓] theorem storeRead_guarded (q mv : Nat) (s : State) :
    guarded (storeRead q mv s) = guarded s := by
  unfold storeRead; simp

@[simp ↓] theorem burstAdmit_guarded (x : Shot) (mv : Nat) (s : State) :
    guarded (burstAdmit x mv s) = guarded s := by
  unfold burstAdmit; simp

@[simp ↓] theorem burstTest_guarded (e k mv : Nat) (s : State) :
    guarded (burstTest e k mv s) = guarded s := by
  unfold burstTest; (repeat' split) <;> simp

@[simp ↓] theorem burstUpd_guarded (e : Nat) (k : Nat) (f : Burst → Burst) (s : State) :
    guarded (burstUpd e k f s) = guarded s := by
  unfold burstUpd; simp

@[simp ↓] theorem addSpend_guarded (x : Nat) (s : State) :
    guarded (addSpend x s) = guarded s := by
  unfold addSpend; simp

@[simp ↓] theorem fireSub_guarded (e : Nat) (k : Nat) (i : Nat) (s : State) :
    guarded (fireSub e k i s) = guarded s := by
  unfold fireSub; (repeat' split) <;> simp

@[simp ↓] theorem fcSet_guarded (n : Nat) (s : State) :
    guarded (fcSet n s) = guarded s := by
  unfold fcSet; simp

@[simp ↓] theorem fcSense_guarded (n uv : Nat) (s : State) :
    guarded (fcSense n uv s) = guarded s := by
  unfold fcSense; simp

@[simp ↓] theorem fcCommitted_guarded (s : State) :
    guarded (fcCommitted s) = guarded s := by
  unfold fcCommitted; simp

@[simp ↓] theorem fcClear_guarded (w : BitVec 16) (s : State) :
    guarded (fcClear w s) = guarded s := by
  unfold fcClear; simp

@[simp ↓] theorem fcCntClear_guarded (n : Nat) (s : State) :
    guarded (fcCntClear n s) = guarded s := by
  unfold fcCntClear; simp

@[simp ↓] theorem fcAutoClear_guarded (s : State) :
    guarded (fcAutoClear s) = guarded s := by
  unfold fcAutoClear; simp

@[simp ↓] theorem latchEmitters_guarded (s : State) :
    guarded (latchEmitters s) = guarded s := by
  unfold latchEmitters; simp

end Sys2Proof.Machine
end

