-- ==== Sys2Proof/Laws/Receive.lean ====
section
/-! SUPPORT. Laws/Receive.lean: what the operations of Receive.lean leave of the guarded part. -/

namespace Sys2Proof.Machine

@[simp ↓] theorem rxPut_guarded (ch : Nat) (x : RxCh) (s : State) :
    guarded (rxPut ch x s) = guarded s := by
  unfold rxPut; simp

@[simp ↓] theorem rxUpd_guarded (ch : Nat) (f : RxCh → RxCh) (s : State) :
    guarded (rxUpd ch f s) = guarded s := by
  unfold rxUpd; simp

@[simp ↓] theorem rqPut_guarded (q : Nat) (x : Rq) (s : State) :
    guarded (rqPut q x s) = guarded s := by
  unfold rqPut; simp

@[simp ↓] theorem healthStep_guarded (ch : Nat) (s : State) :
    guarded (healthStep ch s) = guarded s := by
  unfold healthStep; simp

@[simp ↓] theorem ctxPut_guarded (buf ch : Nat) (c : Ctx) (s : State) :
    guarded (ctxPut buf ch c s) = guarded s := by
  unfold ctxPut; simp

@[simp ↓] theorem rxCount_guarded (ch buf : Nat) (f : RxCnt → RxCnt) (s : State) :
    guarded (rxCount ch buf f s) = guarded s := by
  unfold rxCount; split <;> simp

@[simp ↓] theorem hgQueuePut_guarded (strip : Nat) (l : List Ev) (s : State) :
    guarded (hgQueuePut strip l s) = guarded s := by
  unfold hgQueuePut; simp

@[simp ↓] theorem enqueueEv_guarded (ch : Nat) (e : Ev) (s : State) :
    guarded (enqueueEv ch e s) = guarded s := by
  unfold enqueueEv; simp

@[simp ↓] theorem takeEvent_guarded (ch : Nat) (x : Edges) (s : State) :
    guarded (takeEvent ch x s) = guarded s := by
  unfold takeEvent; dsimp only; (repeat' split) <;> simp

@[simp ↓] theorem rxEvent_guarded (ch : Nat) (x : Excursion) (long : Bool) (s : State) :
    guarded (rxEvent ch x long s) = guarded s := by
  unfold rxEvent; (repeat' split) <;> simp

@[simp ↓] theorem baseUpdate_guarded (ch : Nat) (s : State) :
    guarded (baseUpdate ch s) = guarded s := by
  unfold baseUpdate; simp

@[simp ↓] theorem inject_guarded (q : Nat) (s : State) :
    guarded (inject q s) = guarded s := by
  unfold inject; simp

@[simp ↓] theorem level15_guarded (ch : Nat) (b : BlotSeen) (s : State) :
    guarded (level15 ch b s) = guarded s := by
  unfold level15; simp

@[simp ↓] theorem levelLow_guarded (ch : Nat) (a : Nat) (b : BlotSeen) (s : State) :
    guarded (levelLow ch a b s) = guarded s := by
  unfold levelLow; simp

@[simp ↓] theorem uncalEnd_guarded (ch : Nat) (s : State) :
    guarded (uncalEnd ch s) = guarded s := by
  unfold uncalEnd; simp

@[simp ↓] theorem listen_guarded (ch : Nat) (b : BlotSeen) (s : State) :
    guarded (listen ch b s) = guarded s := by
  unfold listen; simp

@[simp ↓] theorem hvAdjust_guarded (q : Nat) (hv : Nat) (temp : Int) (s : State) :
    guarded (hvAdjust q hv temp s) = guarded s := by
  unfold hvAdjust; (repeat' split) <;> simp

@[simp ↓] theorem biasCommitted_guarded (s : State) :
    guarded (biasCommitted s) = guarded s := by
  unfold biasCommitted; simp

@[simp ↓] theorem biasStop_guarded (s : State) :
    guarded (biasStop s) = guarded s := by
  unfold biasStop; simp

@[simp ↓] theorem hvTimeout_guarded (q : Nat) (s : State) :
    guarded (hvTimeout q s) = guarded s := by
  unfold hvTimeout; simp

@[simp ↓] theorem healthClr_guarded (ch : Nat) (s : State) :
    guarded (healthClr ch s) = guarded s := by
  unfold healthClr; simp

@[simp ↓] theorem stagePut_guarded (k : Nat) (v : List Byte) (s : State) :
    guarded (stagePut k v s) = guarded s := by
  unfold stagePut; simp

@[simp ↓] theorem zrefLatch_guarded (q : Nat) (s : State) :
    guarded (zrefLatch q s) = guarded s := by
  unfold zrefLatch; simp

@[simp ↓] theorem rxLatchesEnd_guarded (s : State) :
    guarded (rxLatchesEnd s) = guarded s := by
  unfold rxLatchesEnd; simp

@[simp ↓] theorem rxStart_guarded (s : State) :
    guarded (rxStart s) = guarded s := by
  unfold rxStart; simp

@[simp ↓] theorem rxCloseCh_guarded (ch : Nat) (s : State) :
    guarded (rxCloseCh ch s) = guarded s := by
  unfold rxCloseCh; simp

@[simp ↓] theorem rxClose_guarded (s : State) :
    guarded (rxClose s) = guarded s := by
  unfold rxClose; simp

@[simp ↓] theorem postRx_guarded (ch : Nat) (s : State) :
    guarded (postRx ch s) = guarded s := by
  unfold postRx; simp

@[simp ↓] theorem postQuadrantRx_guarded (q : Nat) (s : State) :
    guarded (postQuadrantRx q s) = guarded s := by
  unfold postQuadrantRx; simp

end Sys2Proof.Machine
end

