-- ==== Sys2Proof/Laws/Histogram.lean ====
section
/-! SUPPORT. Laws/Histogram.lean: what the operations of Histogram.lean leave of the guarded part. -/

namespace Sys2Proof.Machine

@[simp ↓] theorem hgCnt_guarded (buf q : Nat) (f : HgCnt → HgCnt) (s : State) :
    guarded (hgCnt buf q f s) = guarded s := by
  unfold hgCnt; simp

@[simp ↓] theorem binAdd_guarded (buf ch i w : Nat) (s : State) :
    guarded (binAdd buf ch i w s) = guarded s := by
  unfold binAdd; simp

@[simp ↓] theorem incrAt_guarded (buf ch i w : Nat) (s : State) :
    guarded (incrAt buf ch i w s) = guarded s := by
  unfold incrAt; simp

@[simp ↓] theorem makeMatch_guarded (ch : Nat) (b : Burst) (ev : Ev) (idx : List Nat) (tau : Int) (s : State) :
    guarded (makeMatch ch b ev idx tau s).1 = guarded s := by
  unfold makeMatch; dsimp only; (repeat' split) <;> simp

@[simp ↓] theorem gateEvent_guarded (ch : Nat) (b : Burst) (ev : Ev) (s : State) : guarded (gateEvent ch b ev s).1 = guarded s := by
  unfold gateEvent
  extract_lets q os tol need
  clear_value os tol need
  refine foldl_guarded (·.1) _ _ (s, false, false) ?_
  intro acc i
  simp

@[simp ↓] theorem addForeign_guarded (buf ch n : Nat) (s : State) :
    guarded (addForeign buf ch n s) = guarded s := by
  unfold addForeign; simp

@[simp ↓] theorem holdEvent_guarded (ch : Nat) (b : Burst) (h : Held) (s : State) :
    guarded (holdEvent ch b h s) = guarded s := by
  unfold holdEvent; simp

@[simp ↓] theorem lateEvent_guarded (ev : Ev) (s : State) :
    guarded (lateEvent ev s) = guarded s := by
  unfold lateEvent; simp

@[simp ↓] theorem gateBurst_guarded (b : Burst) (ev : Ev) (s : State) :
    guarded (gateBurst b ev s) = guarded s := by
  unfold gateBurst; simp

@[simp ↓] theorem binTaken_guarded (at_ : Int) (ev : Ev) (s : State) :
    guarded (binTaken at_ ev s) = guarded s := by
  unfold binTaken; (repeat' split) <;> simp

/-- A step under the configuration of an earlier frame leaves the configuration in effect. -/
@[simp ↓] theorem underFrame_guarded (f : BitVec 32) (g : State → State) (s : State) (h : ∀ t, guarded (g t) = guarded t) :
    guarded (underFrame f g s) = guarded s := by
  have e : guarded (underFrame f g s) = { guarded (g (viewFrame f s)) with eff := s.cf.eff } := rfl
  rw [e, h]
  unfold viewFrame; split <;> rfl

@[simp ↓] theorem binEvent_guarded (strip : Nat) (at_ : Int) (s : State) :
    guarded (binEvent strip at_ s) = guarded s := by
  unfold binEvent; (repeat' split) <;> simp

@[simp ↓] theorem closeWindow_guarded (e : Nat) (k : Nat) (s : State) :
    guarded (closeWindow e k s) = guarded s := by
  unfold closeWindow; (repeat' split) <;> simp

@[simp ↓] theorem pick_guarded (strip : Nat) (s : State) :
    guarded (pick strip s) = guarded s := by
  unfold pick; simp

@[simp ↓] theorem hgTooLate_guarded (buf : Nat) (s : State) :
    guarded (hgTooLate buf s) = guarded s := by
  unfold hgTooLate; simp

@[simp ↓] theorem hgBegin_guarded (s : State) :
    guarded (hgBegin s) = guarded s := by
  unfold hgBegin; simp

@[simp ↓] theorem hgEnd_guarded (s : State) :
    guarded (hgEnd s) = guarded s := by
  unfold hgEnd; simp

@[simp ↓] theorem snapPut_guarded (q : Nat) (x : Snap) (s : State) :
    guarded (snapPut q x s) = guarded s := by
  unfold snapPut; simp

@[simp ↓] theorem snapCmd_guarded (q : Nat) (w : Nat) (s : State) :
    guarded (snapCmd q w s) = guarded s := by
  unfold snapCmd; simp

@[simp ↓] theorem snapStep_guarded (s : State) :
    guarded (snapStep s) = guarded s := by
  unfold snapStep; simp

@[simp ↓] theorem snapRelease_guarded (q : Nat) (s : State) :
    guarded (snapRelease q s) = guarded s := by
  unfold snapRelease; simp

@[simp ↓] theorem snapAbandon_guarded (all : Bool) (s : State) :
    guarded (snapAbandon all s) = guarded s := by
  unfold snapAbandon; simp

@[simp ↓] theorem snapDone_guarded (q : Nat) (s : State) :
    guarded (snapDone q s) = guarded s := by
  unfold snapDone; simp

@[simp ↓] theorem postHg_guarded (q : Nat) (s : State) :
    guarded (postHg q s) = guarded s := by
  unfold postHg; simp

@[simp ↓] theorem hgClose_guarded (s : State) :
    guarded (hgClose s) = guarded s := by
  unfold hgClose; simp

@[simp ↓] theorem postNominal_guarded (s : State) :
    guarded (postNominal s) = guarded s := by
  unfold postNominal; simp

end Sys2Proof.Machine
end

