-- ==== Sys2Proof/Laws/PointStream.lean ====
section
/-! SUPPORT. Laws/PointStream.lean: what the operations of PointStream.lean leave of the guarded part. -/

namespace Sys2Proof.Machine

@[simp ↓] theorem lanePut_guarded (l : Nat) (x : Lps) (s : State) :
    guarded (lanePut l x s) = guarded s := by
  unfold lanePut; simp

@[simp ↓] theorem laneUpd_guarded (l : Nat) (f : Lps → Lps) (s : State) :
    guarded (laneUpd l f s) = guarded s := by
  unfold laneUpd; simp

@[simp ↓] theorem fillAdd_guarded (l : Nat) (n : Nat) (s : State) :
    guarded (fillAdd l n s) = guarded s := by
  unfold fillAdd; simp

@[simp ↓] theorem psAsmPut_guarded (q : Nat) (b : List Byte) (s : State) :
    guarded (psAsmPut q b s) = guarded s := by
  unfold psAsmPut; simp

@[simp ↓] theorem psFlush_go_guarded (v : State) (l : Nat) (qs : List Nat) (s : State) :
    guarded (psFlush.go v l qs s) = guarded s := by
  induction qs generalizing s with
  | nil => rfl
  | cons q qs ih => unfold psFlush.go; (repeat' split) <;> simp [ih]

@[simp ↓] theorem psFlush_guarded (v : State) (l : Nat) (s : State) : guarded (psFlush v l s) = guarded s := by
  unfold psFlush; simp

@[simp ↓] theorem offerEcho_guarded (v : State) (l : Nat) (acc : State × List Byte × Nat × Bool) (e : Echo) :
    guarded (offerEcho v l acc e).1 = guarded acc.1 := by
  unfold offerEcho; dsimp only; (repeat' split) <;> simp

@[simp ↓] theorem offerEchoes_guarded (v : State) (l : Nat) (es : List Echo) (acc : State × List Byte × Nat × Bool) :
    guarded (es.foldl (offerEcho v l) acc).1 = guarded acc.1 :=
  foldl_guarded (·.1) _ _ acc (fun a e => offerEcho_guarded v l a e)

@[simp ↓] theorem psOffer_guarded (q : Nat) (step : Nat) (stime : Nat) (pw : Nat) (es : List Echo) (v : State) (s : State) :
    guarded (psOffer q step stime pw es v s) = guarded s := by
  unfold psOffer; simp

@[simp ↓] theorem psHeaders_guarded (s : State) :
    guarded (psHeaders s) = guarded s := by
  unfold psHeaders; simp

@[simp ↓] theorem psFrameStart_guarded (pending : Bool) (s : State) :
    guarded (psFrameStart pending s) = guarded s := by
  unfold psFrameStart; simp

@[simp ↓] theorem psCountsEnd_guarded (s : State) :
    guarded (psCountsEnd s) = guarded s := by
  unfold psCountsEnd; simp

@[simp ↓] theorem psLatch_guarded (f : BitVec 32) (s : State) :
    guarded (psLatch f s) = guarded s := by
  unfold psLatch; simp

@[simp ↓] theorem queueReady_guarded (q : Nat) (s : State) :
    guarded (queueReady q s) = guarded s := by
  unfold queueReady; (repeat' split) <;> simp

@[simp ↓] theorem psAbandon_guarded (s : State) :
    guarded (psAbandon s) = guarded s := by
  unfold psAbandon; simp

@[simp ↓] theorem laneStop_guarded (l : Nat) (s : State) :
    guarded (laneStop l s) = guarded s := by
  unfold laneStop; simp

@[simp ↓] theorem psStop_guarded (s : State) :
    guarded (psStop s) = guarded s := by
  unfold psStop; simp

@[simp ↓] theorem psCommitted_guarded (old s : State) :
    guarded (psCommitted old s) = guarded s := by
  unfold psCommitted; simp

@[simp ↓] theorem packetSent_guarded (l : Nat) (s : State) :
    guarded (packetSent l s) = guarded s := by
  unfold packetSent; dsimp only; (repeat' split) <;> simp

end Sys2Proof.Machine
end

