-- ==== Sys2Proof/Laws/Zones.lean ====
section
/-! SUPPORT. Laws/Zones.lean: what the operations of Zones.lean leave of the guarded part. -/

namespace Sys2Proof.Machine

@[simp ↓] theorem znUpd_guarded (z : Nat) (f : Zn → Zn) (s : State) :
    guarded (znUpd z f s) = guarded s := by
  unfold znUpd; simp

@[simp ↓] theorem zeCnt_guarded (f : ZeCnt → ZeCnt) (s : State) :
    guarded (zeCnt f s) = guarded s := by
  unfold zeCnt; simp

@[simp ↓] theorem zoneHit_guarded (v : State) (e : Echo) (z : Nat) (s : State) :
    guarded (zoneHit v e z s) = guarded s := by
  unfold zoneHit; simp

@[simp ↓] theorem evalEcho_guarded (v : State) (x : QEcho) (s : State) :
    guarded (evalEcho v x s) = guarded s := by
  unfold evalEcho; simp

@[simp ↓] theorem evalNp_guarded (v : State) (ch : Nat) (k : Nat) (s : State) :
    guarded (evalNp v ch k s) = guarded s := by
  unfold evalNp; simp

@[simp ↓] theorem evalPoint_guarded (v : State) (x : QPoint) (s : State) :
    guarded (evalPoint v x s) = guarded s := by
  unfold evalPoint; simp

@[simp ↓] theorem zeEnqueue_guarded (f : BitVec 32) (ch : Nat) (k : Nat) (e : Echo) (v : State) (s : State) :
    guarded (zeEnqueue f ch k e v s) = guarded s := by
  unfold zeEnqueue; simp

@[simp ↓] theorem zePoint_guarded (f : BitVec 32) (ch : Nat) (k : Nat) (np : Bool) (s : State) :
    guarded (zePoint f ch k np s) = guarded s := by
  unfold zePoint; simp

@[simp ↓] theorem takeEcho_guarded (s : State) :
    guarded (takeEcho s) = guarded s := by
  unfold takeEcho; (repeat' split) <;> simp

@[simp ↓] theorem takePoint_guarded (s : State) :
    guarded (takePoint s) = guarded s := by
  unfold takePoint; (repeat' split) <;> simp

@[simp ↓] theorem drainFrame_guarded (f : BitVec 32) (s : State) :
    guarded (drainFrame f s) = guarded s := by
  unfold drainFrame; simp

@[simp ↓] theorem floorTest_guarded (v : State) (s : State) :
    guarded (floorTest v s) = guarded s := by
  unfold floorTest; simp

@[simp ↓] theorem latchZones_guarded (f : BitVec 32) (s : State) :
    guarded (latchZones f s) = guarded s := by
  unfold latchZones; simp

@[simp ↓] theorem zoneFrameLatch_guarded (s : State) :
    guarded (zoneFrameLatch s) = guarded s := by
  unfold zoneFrameLatch; simp

@[simp ↓] theorem mapExpanded_guarded (s : State) :
    guarded (mapExpanded s) = guarded s := by
  unfold mapExpanded; simp

@[simp ↓] theorem postZn_guarded (z : Nat) (x : Zn) (s : State) :
    guarded (postZn z x s) = guarded s := by
  unfold postZn; simp

@[simp ↓] theorem postMailbox_guarded (s : State) :
    guarded (postMailbox s) = guarded s := by
  unfold postMailbox; simp

@[simp ↓] theorem mboxGone_guarded (c : Chan) (s : State) :
    guarded (mboxGone c s) = guarded s := by
  unfold mboxGone; (repeat' split) <;> simp

@[simp ↓] theorem mboxAccept_guarded (c : Chan) (m : Mbox) (s : State) :
    guarded (mboxAccept c m s) = guarded s := by
  unfold mboxAccept; simp

@[simp ↓] theorem mailboxReceive_queue (c : Chan) (crcOk : Bool) (s : State) :
    (guarded (mailboxReceive c crcOk s)).queue = (guarded s).queue := by
  unfold mailboxReceive; dsimp only; (repeat' split) <;> simp

@[simp ↓] theorem mailboxReceive_oper (c : Chan) (crcOk : Bool) (s : State) :
    (guarded (mailboxReceive c crcOk s)).oper = (guarded s).oper := by
  unfold mailboxReceive; dsimp only; (repeat' split) <;> simp

@[simp ↓] theorem mailboxReceive_log (c : Chan) (crcOk : Bool) (s : State) :
    (guarded (mailboxReceive c crcOk s)).log = (guarded s).log := by
  unfold mailboxReceive; dsimp only; (repeat' split) <;> simp

@[simp ↓] theorem mailboxReceive_limits (c : Chan) (crcOk : Bool) (s : State) :
    (guarded (mailboxReceive c crcOk s)).limits = (guarded s).limits := by
  unfold mailboxReceive; dsimp only; (repeat' split) <;> simp

@[simp ↓] theorem mailboxReceive_eff (c : Chan) (crcOk : Bool) (s : State) :
    (guarded (mailboxReceive c crcOk s)).eff = (guarded s).eff := by
  unfold mailboxReceive; dsimp only; (repeat' split) <;> simp

@[simp ↓] theorem frameDiff_queue (c : Chan) (s : State) :
    (guarded (frameDiff c s)).queue = (guarded s).queue := by
  unfold frameDiff; simp

@[simp ↓] theorem frameDiff_oper (c : Chan) (s : State) :
    (guarded (frameDiff c s)).oper = (guarded s).oper := by
  unfold frameDiff; simp

@[simp ↓] theorem frameDiff_log (c : Chan) (s : State) :
    (guarded (frameDiff c s)).log = (guarded s).log := by
  unfold frameDiff; simp

@[simp ↓] theorem frameDiff_limits (c : Chan) (s : State) :
    (guarded (frameDiff c s)).limits = (guarded s).limits := by
  unfold frameDiff; simp

@[simp ↓] theorem frameDiff_eff (c : Chan) (s : State) :
    (guarded (frameDiff c s)).eff = (guarded s).eff := by
  unfold frameDiff; simp

@[simp ↓] theorem mailboxDeadline_queue (c : Chan) (s : State) :
    (guarded (mailboxDeadline c s)).queue = (guarded s).queue := by
  unfold mailboxDeadline; dsimp only; (repeat' split) <;> simp

@[simp ↓] theorem mailboxDeadline_oper (c : Chan) (s : State) :
    (guarded (mailboxDeadline c s)).oper = (guarded s).oper := by
  unfold mailboxDeadline; dsimp only; (repeat' split) <;> simp

@[simp ↓] theorem mailboxDeadline_log (c : Chan) (s : State) :
    (guarded (mailboxDeadline c s)).log = (guarded s).log := by
  unfold mailboxDeadline; dsimp only; (repeat' split) <;> simp

@[simp ↓] theorem mailboxDeadline_limits (c : Chan) (s : State) :
    (guarded (mailboxDeadline c s)).limits = (guarded s).limits := by
  unfold mailboxDeadline; dsimp only; (repeat' split) <;> simp

@[simp ↓] theorem mailboxDeadline_eff (c : Chan) (s : State) :
    (guarded (mailboxDeadline c s)).eff = (guarded s).eff := by
  unfold mailboxDeadline; dsimp only; (repeat' split) <;> simp

end Sys2Proof.Machine
end

