-- ==== Sys2Proof/Laws/NoteEngine.lean ====
section
/-! SUPPORT. Laws/NoteEngine.lean: what the operations of NoteEngine.lean leave of the guarded part. -/

namespace Sys2Proof.Machine

@[simp ↓] theorem nePut_guarded (q : Nat) (x : Ne) (s : State) :
    guarded (nePut q x s) = guarded s := by
  unfold nePut; simp

@[simp ↓] theorem neUpd_guarded (q : Nat) (f : Ne → Ne) (s : State) :
    guarded (neUpd q f s) = guarded s := by
  unfold neUpd; simp

@[simp ↓] theorem qualAdd_guarded (v : State) (ch : Nat) (step : Nat) (np : Bool) (es : List Echo) (s : State) :
    guarded (qualAdd v ch step np es s) = guarded s := by
  unfold qualAdd; simp

@[simp ↓] theorem deliver_guarded (v : State) (q : Nat) (ch : Nat) (c : Ctx) (es : List Echo) (cut : Bool) (s : State) :
    guarded (deliver v q ch c es cut s) = guarded s := by
  unfold deliver; simp

@[simp ↓] theorem qualLatch_guarded (s : State) :
    guarded (qualLatch s) = guarded s := by
  unfold qualLatch; simp

@[simp ↓] theorem neLatch_guarded (q : Nat) (s : State) : guarded (neLatch q s) = guarded s := by
  unfold neLatch
  extract_lets x a s1 s2 c s3 s4
  have h1 : guarded s1 = guarded s := by simp [s1]
  have h2 : guarded s2 = guarded s := by simp [s2, h1]
  have h3 : guarded s3 = guarded s := by simp [s3, h2]
  clear_value s1 s2 s3
  split
  · simp [s4, h3]
  · exact h3

@[simp ↓] theorem neStepDone_guarded (q : Nat) (s : State) :
    guarded (neStepDone q s) = guarded s := by
  unfold neStepDone; simp

@[simp ↓] theorem cutPoints_guarded (q : Nat) (s : State) :
    guarded (cutPoints q s) = guarded s := by
  unfold cutPoints; simp

@[simp ↓] theorem neCut_guarded (q : Nat) (s : State) :
    guarded (neCut q s) = guarded s := by
  unfold neCut; simp

@[simp ↓] theorem neFault_guarded (q : Nat) (c : Nat) (pc : Nat) (s : State) :
    guarded (neFault q c pc s) = guarded s := by
  unfold neFault; simp

@[simp ↓] theorem neCutAtBudget_guarded (q : Nat) (s : State) :
    guarded (neCutAtBudget q s) = guarded s := by
  unfold neCutAtBudget; simp

@[simp ↓] theorem groupStart_guarded (q : Nat) (g : Nat) (s : State) :
    guarded (groupStart q g s) = guarded s := by
  unfold groupStart; simp

@[simp ↓] theorem noProgram_guarded (q : Nat) (s : State) :
    guarded (noProgram q s) = guarded s := by
  unfold noProgram; simp

@[simp ↓] theorem neStart_guarded (q : Nat) (s : State) :
    guarded (neStart q s) = guarded s := by
  unfold neStart; simp

@[simp ↓] theorem neStopAll_guarded (s : State) :
    guarded (neStopAll s) = guarded s := by
  unfold neStopAll; simp

@[simp ↓] theorem neNext_guarded (v : State) (q : Nat) (s : State) :
    guarded (neNext v q s) = guarded s := by
  unfold neNext; simp

@[simp ↓] theorem neInstr_guarded (q : Nat) (op : State → State → Ne → Nat × NeRes) (s : State) :
    guarded (neInstr q op s) = guarded s := by
  unfold neInstr; dsimp only; (repeat' split) <;> simp

@[simp ↓] theorem neEnd_guarded (q : Nat) (s : State) :
    guarded (neEnd q s) = guarded s := by
  unfold neEnd; simp

@[simp ↓] theorem neFwid_guarded (q : Nat) (d : BitVec 4) (a : BitVec 4) (s : State) :
    guarded (neFwid q d a s) = guarded s := by
  unfold neFwid; simp

@[simp ↓] theorem neCls_guarded (q : Nat) (d : BitVec 4) (a : BitVec 4) (s : State) :
    guarded (neCls q d a s) = guarded s := by
  unfold neCls; simp

@[simp ↓] theorem budgetCut_guarded (q : Nat) (s : State) :
    guarded (budgetCut q s) = guarded s := by
  unfold budgetCut; simp

end Sys2Proof.Machine
end

