-- ==== Sys2Proof/Laws/Planner.lean ====
section
/-! SUPPORT. Laws/Planner.lean: what the operations of Planner.lean leave of the guarded part. -/

namespace Sys2Proof.Machine

@[simp ↓] theorem classFill_guarded (s : State) :
    guarded (classFill s) = guarded s := by
  unfold classFill; simp

@[simp ↓] theorem refill_guarded (k : Nat) (s : State) :
    guarded (refill k s) = guarded s := by
  unfold refill; simp

@[simp ↓] theorem buildNext_guarded (inTime : Bool) (k : Nat) (s : State) :
    guarded (buildNext inTime k s) = guarded s := by
  unfold buildNext; simp

@[simp ↓] theorem expanderBuild_guarded (inTime : Bool) (s : State) :
    guarded (expanderBuild inTime s) = guarded s := by
  unfold expanderBuild; simp

@[simp ↓] theorem listMissed_guarded (k : Nat) (s : State) :
    guarded (listMissed k s) = guarded s := by
  unfold listMissed; dsimp only; (repeat' split) <;> simp

@[simp ↓] theorem shotListTake_guarded (tk : Nat) (s : State) :
    guarded (shotListTake tk s) = guarded s := by
  unfold shotListTake; simp

@[simp ↓] theorem chargeStep_guarded (s : State) :
    guarded (chargeStep s) = guarded s := by
  unfold chargeStep; (repeat' split) <;> simp

@[simp ↓] theorem shortRuns_guarded (s : State) :
    guarded (shortRuns s) = guarded s := by
  unfold shortRuns; simp

@[simp ↓] theorem postPlanner_guarded (s : State) :
    guarded (postPlanner s) = guarded s := by
  unfold postPlanner; simp

@[simp ↓] theorem closePlanner_guarded (s : State) :
    guarded (closePlanner s) = guarded s := by
  unfold closePlanner; simp

@[simp ↓] theorem vigilClear_guarded (s : State) :
    guarded (vigilClear s) = guarded s := by
  unfold vigilClear; simp

@[simp ↓] theorem planStart_guarded (s : State) :
    guarded (planStart s) = guarded s := by
  unfold planStart; simp

@[simp ↓] theorem planStop_guarded (s : State) :
    guarded (planStop s) = guarded s := by
  unfold planStop; simp

@[simp ↓] theorem planLate_guarded (s : State) :
    guarded (planLate s) = guarded s := by
  unfold planLate; simp

@[simp ↓] theorem planFault_guarded (c : Nat) (s : State) :
    guarded (planFault c s) = guarded s := by
  unfold planFault; simp

@[simp ↓] theorem fpInstr_guarded (op : State → Nat × FpRes) (s : State) :
    guarded (fpInstr op s) = guarded s := by
  unfold fpInstr; dsimp only; (repeat' split) <;> simp

@[simp ↓] theorem planEnd_guarded (s : State) :
    guarded (planEnd s) = guarded s := by
  unfold planEnd; simp

@[simp ↓] theorem plannerDerive_guarded (s : State) :
    guarded (plannerDerive s) = guarded s := by
  unfold plannerDerive; simp

@[simp ↓] theorem plannerCommitted_guarded (old s : State) :
    guarded (plannerCommitted old s) = guarded s := by
  unfold plannerCommitted; simp

@[simp ↓] theorem plannerStart_guarded (s : State) :
    guarded (plannerStart s) = guarded s := by
  unfold plannerStart; simp

end Sys2Proof.Machine
end

