-- ==== Sys2Proof/Laws/DataPlane.lean ====
section
/-! SUPPORT. Laws/DataPlane.lean: what the operations of DataPlane.lean leave of the guarded part. -/

namespace Sys2Proof.Machine

@[simp ↓] theorem hfxFollow_guarded (s : State) :
    guarded (hfxFollow s) = guarded s := by
  unfold hfxFollow; simp

@[simp ↓] theorem hfxStable_guarded (s : State) :
    guarded (hfxStable s) = guarded s := by
  unfold hfxStable; simp

@[simp ↓] theorem pllLock_guarded (s : State) :
    guarded (pllLock s) = guarded s := by
  unfold pllLock; simp

@[simp ↓] theorem dpStart_guarded (s : State) :
    guarded (dpStart s) = guarded s := by
  unfold dpStart; (repeat' split) <;> simp

@[simp ↓] theorem dpReady_guarded (s : State) :
    guarded (dpReady s) = guarded s := by
  unfold dpReady; (repeat' split) <;> simp

@[simp ↓] theorem stepVoid_guarded (s : State) :
    guarded (stepVoid s) = guarded s := by
  unfold stepVoid; simp

@[simp ↓] theorem neStopFrame_guarded (f : BitVec 32) (s : State) :
    guarded (neStopFrame f s) = guarded s := by
  unfold neStopFrame; simp

@[simp ↓] theorem zeAbandon_guarded (f : BitVec 32) (s : State) :
    guarded (zeAbandon f s) = guarded s := by
  unfold zeAbandon; simp

@[simp ↓] theorem abandonFrame_guarded (s : State) :
    guarded (abandonFrame s) = guarded s := by
  unfold abandonFrame; simp

@[simp ↓] theorem dpStop_guarded (s : State) :
    guarded (dpStop s) = guarded s := by
  unfold dpStop; (repeat' split) <;> simp

@[simp ↓] theorem dpRemove_guarded (s : State) :
    guarded (dpRemove s) = guarded s := by
  unfold dpRemove; simp

@[simp ↓] theorem rxStep_guarded (len : Nat) (s : State) :
    guarded (rxStep len s) = guarded s := by
  unfold rxStep; simp

@[simp ↓] theorem rxStepped_guarded (s : State) :
    guarded (rxStepped s) = guarded s := by
  unfold rxStepped; simp

@[simp ↓] theorem stepEnd_guarded (s : State) :
    guarded (stepEnd s) = guarded s := by
  unfold stepEnd; simp

@[simp ↓] theorem stepCount_guarded (tdc : Nat) (s : State) :
    guarded (stepCount tdc s) = guarded s := by
  unfold stepCount; simp

@[simp ↓] theorem stepBegin_guarded (k : Nat) (s : State) :
    guarded (stepBegin k s) = guarded s := by
  unfold stepBegin; simp

@[simp ↓] theorem azimuthStepStart_guarded (s : State) :
    guarded (azimuthStepStart s) = guarded s := by
  unfold azimuthStepStart; (repeat' split) <;> simp

@[simp ↓] theorem frameReleased_guarded (s : State) :
    guarded (frameReleased s) = guarded s := by
  unfold frameReleased; simp

@[simp ↓] theorem bufferRelease_guarded (q : Nat) (s : State) :
    guarded (bufferRelease q s) = guarded s := by
  unfold bufferRelease; simp

end Sys2Proof.Machine
end

