-- ==== Sys2Proof/Laws/Supply.lean ====
section
/-! SUPPORT. Laws/Supply.lean: what the operations of Supply.lean leave of the guarded part. -/

namespace Sys2Proof.Machine

@[simp ↓] theorem vldJudge_guarded (mv : Nat) (s : State) :
    guarded (vldJudge mv s) = guarded s := by
  unfold vldJudge; simp

@[simp ↓] theorem meterRead_guarded (vin : Nat) (e : Nat) (s : State) :
    guarded (meterRead vin e s).2 = guarded s := by
  unfold meterRead; simp

@[simp ↓] theorem chargeInteg_guarded (mv : Nat) (s : State) :
    guarded (chargeInteg mv s) = guarded s := by
  unfold chargeInteg; simp

@[simp ↓] theorem postFig_guarded (s : State) :
    guarded (postFig s) = guarded s := by
  unfold postFig; simp

@[simp ↓] theorem saveCounts_guarded (s : State) :
    guarded (saveCounts s) = guarded s := by
  unfold saveCounts; simp

@[simp ↓] theorem stageUnacked_guarded (s : State) :
    guarded (stageUnacked s) = guarded s := by
  unfold stageUnacked; simp

@[simp ↓] theorem copyCut_guarded (at_ : Nat) (s : State) :
    guarded (copyCut at_ s) = guarded s := by
  unfold copyCut; dsimp only; (repeat' split) <;> simp

@[simp ↓] theorem saveWrites_guarded (dt : Nat) (s : State) :
    guarded (saveWrites dt s) = guarded s := by
  unfold saveWrites; simp

@[simp ↓] theorem saveWritten_guarded (s : State) :
    guarded (saveWritten s) = guarded s := by
  unfold saveWritten; split <;> simp

@[simp ↓] theorem saveStart_queue (s : State) :
    (guarded (saveStart s)).queue = (guarded s).queue := by
  unfold saveStart; simp

@[simp ↓] theorem saveStart_oper (s : State) :
    (guarded (saveStart s)).oper = (guarded s).oper := by
  unfold saveStart; simp

@[simp ↓] theorem saveStart_log (s : State) :
    (guarded (saveStart s)).log = (guarded s).log := by
  unfold saveStart; simp

@[simp ↓] theorem saveStart_limits (s : State) :
    (guarded (saveStart s)).limits = (guarded s).limits := by
  unfold saveStart; simp

@[simp ↓] theorem saveStart_eff (s : State) :
    (guarded (saveStart s)).eff = (guarded s).eff := by
  unfold saveStart; simp

@[simp ↓] theorem emRefresh_queue (m : Meter) (s : State) :
    (guarded (emRefresh m s)).queue = (guarded s).queue := by
  unfold emRefresh; simp

@[simp ↓] theorem emRefresh_oper (m : Meter) (s : State) :
    (guarded (emRefresh m s)).oper = (guarded s).oper := by
  unfold emRefresh; simp

@[simp ↓] theorem emRefresh_log (m : Meter) (s : State) :
    (guarded (emRefresh m s)).log = (guarded s).log := by
  unfold emRefresh; simp

@[simp ↓] theorem emRefresh_limits (m : Meter) (s : State) :
    (guarded (emRefresh m s)).limits = (guarded s).limits := by
  unfold emRefresh; simp

@[simp ↓] theorem emRefresh_eff (m : Meter) (s : State) :
    (guarded (emRefresh m s)).eff = (guarded s).eff := by
  unfold emRefresh; simp

@[simp ↓] theorem powerOff_queue (s : State) :
    (guarded (powerOff s)).queue = (guarded s).queue := by
  unfold powerOff; simp

@[simp ↓] theorem powerOff_log (s : State) :
    (guarded (powerOff s)).log = (guarded s).log := by
  unfold powerOff; simp

@[simp ↓] theorem saveComplete_queue (s : State) :
    (guarded (saveComplete s)).queue = (guarded s).queue := by
  unfold saveComplete; simp

@[simp ↓] theorem saveComplete_log (s : State) :
    (guarded (saveComplete s)).log = (guarded s).log := by
  unfold saveComplete; simp

@[simp ↓] theorem vbusLoss_queue (s : State) :
    (guarded (vbusLoss s)).queue = (guarded s).queue := by
  unfold vbusLoss; split <;> simp

@[simp ↓] theorem vbusLoss_log (s : State) :
    (guarded (vbusLoss s)).log = (guarded s).log := by
  unfold vbusLoss; split <;> simp

@[simp ↓] theorem rideBegin_guarded (s : State) :
    guarded (rideBegin s) = guarded s := by
  unfold rideBegin; simp

@[simp ↓] theorem rideEnter_guarded (vin : Nat) (s : State) :
    guarded (rideEnter vin s) = guarded s := by
  unfold rideEnter; simp

@[simp ↓] theorem rideExit_guarded (vin held : Nat) (s : State) :
    guarded (rideExit vin held s) = guarded s := by
  unfold rideExit; simp

@[simp ↓] theorem uvloEngage_queue (s : State) :
    (guarded (uvloEngage s)).queue = (guarded s).queue := by
  unfold uvloEngage; simp

@[simp ↓] theorem uvloEngage_oper (s : State) :
    (guarded (uvloEngage s)).oper = (guarded s).oper := by
  unfold uvloEngage; simp

@[simp ↓] theorem uvloEngage_log (s : State) :
    (guarded (uvloEngage s)).log = (guarded s).log := by
  unfold uvloEngage; simp

@[simp ↓] theorem uvloEngage_limits (s : State) :
    (guarded (uvloEngage s)).limits = (guarded s).limits := by
  unfold uvloEngage; simp

@[simp ↓] theorem uvloEngage_eff (s : State) :
    (guarded (uvloEngage s)).eff = (guarded s).eff := by
  unfold uvloEngage; simp

@[simp ↓] theorem vossdFault_queue (s : State) :
    (guarded (vossdFault s)).queue = (guarded s).queue := by
  unfold vossdFault; simp

@[simp ↓] theorem vossdFault_oper (s : State) :
    (guarded (vossdFault s)).oper = (guarded s).oper := by
  unfold vossdFault; simp

@[simp ↓] theorem vossdFault_log (s : State) :
    (guarded (vossdFault s)).log = (guarded s).log := by
  unfold vossdFault; simp

@[simp ↓] theorem vossdFault_limits (s : State) :
    (guarded (vossdFault s)).limits = (guarded s).limits := by
  unfold vossdFault; simp

@[simp ↓] theorem vossdFault_eff (s : State) :
    (guarded (vossdFault s)).eff = (guarded s).eff := by
  unfold vossdFault; simp

@[simp ↓] theorem vldChange_guarded (mv : Nat) (s : State) :
    guarded (vldChange mv s) = guarded s := by
  unfold vldChange; simp

@[simp ↓] theorem cmeasDone_guarded (a mv : Nat) (s : State) :
    guarded (cmeasDone a mv s) = guarded s := by
  unfold cmeasDone; dsimp only; (repeat' split) <;> simp

@[simp ↓] theorem chargerStop_guarded (mv : Nat) (s : State) :
    guarded (chargerStop mv s) = guarded s := by
  unfold chargerStop; simp

@[simp ↓] theorem chargerResume_guarded (mv : Nat) (s : State) :
    guarded (chargerResume mv s) = guarded s := by
  unfold chargerResume; simp

@[simp ↓] theorem issueGrant_guarded (s : State) :
    guarded (issueGrant s) = guarded s := by
  unfold issueGrant; simp

@[simp ↓] theorem chargeSet_guarded (eVin : Nat) (eChg : Nat) (s : State) :
    guarded (chargeSet eVin eChg s) = guarded s := by
  unfold chargeSet; simp

@[simp ↓] theorem lowerGrant_guarded (s : State) :
    guarded (lowerGrant s) = guarded s := by
  unfold lowerGrant; simp

@[simp ↓] theorem mwRefresh_guarded (xs : List Int) (s : State) :
    guarded (mwRefresh xs s) = guarded s := by
  unfold mwRefresh; simp

@[simp ↓] theorem mwNote_guarded (pos : Bool) (s : State) :
    guarded (mwNote pos s) = guarded s := by
  unfold mwNote; dsimp only; (repeat' split) <;> simp

@[simp ↓] theorem mwCrossing_guarded (xs : List Int) (s : State) :
    guarded (mwCrossing xs s) = guarded s := by
  unfold mwCrossing; (repeat' split) <;> simp

@[simp ↓] theorem mwForced_guarded (xs : List Int) (s : State) :
    guarded (mwForced xs s) = guarded s := by
  unfold mwForced; dsimp only; (repeat' split) <;> simp

@[simp ↓] theorem mwRecovered_guarded (s : State) :
    guarded (mwRecovered s) = guarded s := by
  unfold mwRecovered; (repeat' split) <;> simp

@[simp ↓] theorem latchSupply_guarded (s : State) :
    guarded (latchSupply s) = guarded s := by
  unfold latchSupply; simp

@[simp ↓] theorem supplyCommitted_guarded (s : State) :
    guarded (supplyCommitted s) = guarded s := by
  unfold supplyCommitted; simp

end Sys2Proof.Machine
end

