-- ==== Sys2Proof/Laws/Link.lean ====
section
/-! SUPPORT. Laws/Link.lean: what the operations of Link.lean leave of the guarded part. -/

namespace Sys2Proof.Machine

@[simp ↓] theorem zpPut_guarded (p : Nat) (x : Zp) (s : State) :
    guarded (zpPut p x s) = guarded s := by
  unfold zpPut; simp

@[simp ↓] theorem zpUpd_guarded (p : Nat) (f : Zp → Zp) (s : State) :
    guarded (zpUpd p f s) = guarded s := by
  unfold zpUpd; simp

@[simp ↓] theorem portSyncing_guarded (p : Nat) (s : State) :
    guarded (portSyncing p s) = guarded s := by
  unfold portSyncing; simp

@[simp ↓] theorem portGoesUp_guarded (p : Nat) (s : State) :
    guarded (portGoesUp p s) = guarded s := by
  unfold portGoesUp; simp

@[simp ↓] theorem portDown_guarded (p : Nat) (s : State) :
    guarded (portDown p s) = guarded s := by
  unfold portDown; simp

@[simp ↓] theorem codeErrors_guarded (p : Nat) (s : State) :
    guarded (codeErrors p s) = guarded s := by
  unfold codeErrors; simp

@[simp ↓] theorem commaTimeout_guarded (p : Nat) (s : State) :
    guarded (commaTimeout p s) = guarded s := by
  unfold commaTimeout; simp

@[simp ↓] theorem frameTooLong_guarded (p : Nat) (s : State) :
    guarded (frameTooLong p s) = guarded s := by
  unfold frameTooLong; simp

@[simp ↓] theorem transmit_guarded (p : Nat) (x : ZlQ) (at_ : Nat) (s : State) :
    guarded (transmit p x at_ s) = guarded s := by
  unfold transmit; simp

@[simp ↓] theorem portSend_guarded (p : Nat) (x : ZlQ) (s : State) :
    guarded (portSend p x s) = guarded s := by
  unfold portSend; simp

@[simp ↓] theorem queuedSend_guarded (p : Nat) (s : State) :
    guarded (queuedSend p s) = guarded s := by
  unfold queuedSend; dsimp only; (repeat' split) <;> simp

@[simp ↓] theorem originate_guarded (type : Nat) (dmode : Nat) (dst : Nat) (ports : List Nat) (body : List Byte) (s : State) :
    guarded (originate type dmode dst ports body s) = guarded s := by
  unfold originate; simp

@[simp ↓] theorem coordSend_guarded (d : Nat) (a : Assign) (s : State) :
    guarded (coordSend d a s) = guarded s := by
  unfold coordSend; simp

@[simp ↓] theorem coordRun_guarded (s : State) :
    guarded (coordRun s) = guarded s := by
  unfold coordRun; simp

@[simp ↓] theorem coordRefreshAll_guarded (s : State) :
    guarded (coordRefreshAll s) = guarded s := by
  unfold coordRefreshAll; dsimp only; (repeat' split) <;> simp (disch := (intros; (repeat' split) <;> simp))

@[simp ↓] theorem genSeen_guarded (d gen : Nat) (s : State) :
    guarded (genSeen d gen s) = guarded s := by
  unfold genSeen; simp

@[simp ↓] theorem coordAsk_guarded (d : Nat) (s : State) :
    guarded (coordAsk d s) = guarded s := by
  unfold coordAsk; simp

@[simp ↓] theorem coordCheck_guarded (d : Nat) (s : State) :
    guarded (coordCheck d s) = guarded s := by
  unfold coordCheck; simp

@[simp ↓] theorem takeRsp_guarded (f : ZlFrame) (s : State) :
    guarded (takeRsp f s) = guarded s := by
  unfold takeRsp; simp

@[simp ↓] theorem forward_guarded (p : Nat) (sof : Nat) (f : ZlFrame) (s : State) :
    guarded (forward p sof f s) = guarded s := by
  unfold forward; simp

@[simp ↓] theorem headerReceive_guarded (p : Nat) (f : ZlFrame) (s : State) :
    guarded (headerReceive p f s) = guarded s := by
  unfold headerReceive; simp

@[simp ↓] theorem noteSeen_guarded (f : ZlFrame) (s : State) :
    guarded (noteSeen f s) = guarded s := by
  unfold noteSeen; simp

@[simp ↓] theorem syncLost_guarded (s : State) :
    guarded (syncLost s) = guarded s := by
  unfold syncLost; simp

@[simp ↓] theorem followTime_guarded (p : Nat) (f : ZlFrame) (s : State) :
    guarded (followTime p f s) = guarded s := by
  unfold followTime; simp

@[simp ↓] theorem takeTime_guarded (p : Nat) (f : ZlFrame) (s : State) :
    guarded (takeTime p f s) = guarded s := by
  unfold takeTime; simp

@[simp ↓] theorem masterTimeout_guarded (s : State) :
    guarded (masterTimeout s) = guarded s := by
  unfold masterTimeout; simp

@[simp ↓] theorem timeSend_guarded (s : State) :
    guarded (timeSend s) = guarded s := by
  unfold timeSend; simp

@[simp ↓] theorem syncTimeout_guarded (s : State) :
    guarded (syncTimeout s) = guarded s := by
  unfold syncTimeout; simp

@[simp ↓] theorem timeSetRun_guarded (v : BitVec 64) (s : State) :
    guarded (timeSetRun v s).2 = guarded s := by
  unfold timeSetRun; simp

@[simp ↓] theorem takePdelay_guarded (p : Nat) (f : ZlFrame) (s : State) : guarded (takePdelay p f s) = guarded s := by
  unfold takePdelay
  extract_lets sof
  clear_value sof
  split
  · simp
  · split <;> simp

@[simp ↓] theorem pdelaySend_guarded (p : Nat) (s : State) :
    guarded (pdelaySend p s) = guarded s := by
  unfold pdelaySend; simp

@[simp ↓] theorem takeHello_guarded (p : Nat) (f : ZlFrame) (s : State) :
    guarded (takeHello p f s) = guarded s := by
  unfold takeHello; simp

@[simp ↓] theorem helloSend_guarded (s : State) :
    guarded (helloSend s) = guarded s := by
  unfold helloSend; simp

@[simp ↓] theorem conflictEnd_guarded (s : State) :
    guarded (conflictEnd s) = guarded s := by
  unfold conflictEnd; simp

@[simp ↓] theorem zlIdWrite_guarded (w : Nat) (s : State) :
    guarded (zlIdWrite w s) = guarded s := by
  unfold zlIdWrite; simp

@[simp ↓] theorem frameIn_guarded (p : Nat) (f : ZlFrame) (s : State) :
    guarded (frameIn p f s).2 = guarded s := by
  unfold frameIn; simp

@[simp ↓] theorem takeLinkFrame_guarded (p : Nat) (f : ZlFrame) (s : State) :
    guarded (takeLinkFrame p f s) = guarded s := by
  unfold takeLinkFrame; (repeat' split) <;> simp

@[simp ↓] theorem linkFrame_guarded (k : Nat) (p : Nat) (f : ZlFrame) (s : State) :
    guarded (linkFrame k p f s) = guarded s := by
  unfold linkFrame; simp

@[simp ↓] theorem linkCommitted_guarded (s : State) :
    guarded (linkCommitted s) = guarded s := by
  unfold linkCommitted; simp

@[simp ↓] theorem linkDown_guarded (s : State) :
    guarded (linkDown s) = guarded s := by
  unfold linkDown; simp

@[simp ↓] theorem latchLink_guarded (s : State) :
    guarded (latchLink s) = guarded s := by
  unfold latchLink; simp

@[simp ↓] theorem answer_guarded (p : Path) (r : DictRsp) (s : State) :
    guarded (answer p r s) = guarded s := by
  unfold answer; (repeat' split) <;> simp

@[simp ↓] theorem answerWrite_guarded (p : Path) (i sub n : Nat) (r : Nat × State) :
    guarded (answerWrite p i sub n r) = guarded r.2 := by
  unfold answerWrite; simp

end Sys2Proof.Machine
end

