-- ==== Sys2Proof/Laws/Commit.lean ====
section
/-! SUPPORT. Laws/Commit.lean: what the operations of Commit.lean leave of the guarded part. -/

namespace Sys2Proof.Machine

@[simp ↓] theorem logAdd_queue (kind : Nat) (user : Nat) (objs : List Nat) (frame : BitVec 32) (count : Nat) (oldCrc : Nat)
    (newCrc : Nat) (s : State) :
    (guarded (logAdd kind user objs frame count oldCrc newCrc s)).queue = (guarded s).queue := by
  unfold logAdd; simp

@[simp ↓] theorem logAdd_switches (kind : Nat) (user : Nat) (objs : List Nat) (frame : BitVec 32) (count : Nat) (oldCrc : Nat)
    (newCrc : Nat) (s : State) :
    (guarded (logAdd kind user objs frame count oldCrc newCrc s)).switches = (guarded s).switches := by
  unfold logAdd; simp

@[simp ↓] theorem logAdd_oper (kind : Nat) (user : Nat) (objs : List Nat) (frame : BitVec 32) (count : Nat) (oldCrc : Nat)
    (newCrc : Nat) (s : State) :
    (guarded (logAdd kind user objs frame count oldCrc newCrc s)).oper = (guarded s).oper := by
  unfold logAdd; simp

@[simp ↓] theorem logAdd_limits (kind : Nat) (user : Nat) (objs : List Nat) (frame : BitVec 32) (count : Nat) (oldCrc : Nat)
    (newCrc : Nat) (s : State) :
    (guarded (logAdd kind user objs frame count oldCrc newCrc s)).limits = (guarded s).limits := by
  unfold logAdd; simp

@[simp ↓] theorem logAdd_eff (kind : Nat) (user : Nat) (objs : List Nat) (frame : BitVec 32) (count : Nat) (oldCrc : Nat)
    (newCrc : Nat) (s : State) :
    (guarded (logAdd kind user objs frame count oldCrc newCrc s)).eff = (guarded s).eff := by
  unfold logAdd; simp

@[simp ↓] theorem lockExpire_guarded (s : State) :
    guarded (lockExpire s) = guarded s := by
  unfold lockExpire; simp

@[simp ↓] theorem lockSave_guarded (s : State) :
    guarded (lockSave s) = guarded s := by
  unfold lockSave; simp

@[simp ↓] theorem wrongPass_guarded (s : State) :
    guarded (wrongPass s) = guarded s := by
  unfold wrongPass; simp

@[simp ↓] theorem passCheck_guarded (u : Nat) (pass : List Byte) (s : State) :
    guarded (passCheck u pass s).2 = guarded s := by
  unfold passCheck; simp

@[simp ↓] theorem sessionOpen_guarded (p : Path) (d : List Byte) (s : State) :
    guarded (sessionOpen p d s).2 = guarded s := by
  unfold sessionOpen; simp

@[simp ↓] theorem sessionClose_guarded (p : Path) (s : State) :
    guarded (sessionClose p s).2 = guarded s := by
  unfold sessionClose; simp

@[simp ↓] theorem sessionIdle_guarded (s : State) :
    guarded (sessionIdle s) = guarded s := by
  unfold sessionIdle; simp

@[simp ↓] theorem drawSalt_guarded (s : State) :
    guarded (drawSalt s).2 = guarded s := by
  unfold drawSalt; simp

@[simp ↓] theorem passSet_queue (p : Path) (d : List Byte) (s : State) :
    (guarded (passSet p d s).2).queue = (guarded s).queue := by
  unfold passSet; simp

@[simp ↓] theorem passSet_switches (p : Path) (d : List Byte) (s : State) :
    (guarded (passSet p d s).2).switches = (guarded s).switches := by
  unfold passSet; simp

@[simp ↓] theorem passSet_oper (p : Path) (d : List Byte) (s : State) :
    (guarded (passSet p d s).2).oper = (guarded s).oper := by
  unfold passSet; simp

@[simp ↓] theorem passSet_limits (p : Path) (d : List Byte) (s : State) :
    (guarded (passSet p d s).2).limits = (guarded s).limits := by
  unfold passSet; simp

@[simp ↓] theorem passSet_eff (p : Path) (d : List Byte) (s : State) :
    (guarded (passSet p d s).2).eff = (guarded s).eff := by
  unfold passSet; simp

@[simp ↓] theorem logClear_queue (p : Path) (d : List Byte) (s : State) :
    (guarded (logClear p d s).2).queue = (guarded s).queue := by
  unfold logClear; simp

@[simp ↓] theorem logClear_switches (p : Path) (d : List Byte) (s : State) :
    (guarded (logClear p d s).2).switches = (guarded s).switches := by
  unfold logClear; simp

@[simp ↓] theorem logClear_oper (p : Path) (d : List Byte) (s : State) :
    (guarded (logClear p d s).2).oper = (guarded s).oper := by
  unfold logClear; simp

@[simp ↓] theorem logClear_limits (p : Path) (d : List Byte) (s : State) :
    (guarded (logClear p d s).2).limits = (guarded s).limits := by
  unfold logClear; simp

@[simp ↓] theorem logClear_eff (p : Path) (d : List Byte) (s : State) :
    (guarded (logClear p d s).2).eff = (guarded s).eff := by
  unfold logClear; simp

@[simp ↓] theorem governorLock_queue (p : Path) (crc : Nat) (s : State) :
    (guarded (governorLock p crc s).2).queue = (guarded s).queue := by
  unfold governorLock; simp

@[simp ↓] theorem governorLock_switches (p : Path) (crc : Nat) (s : State) :
    (guarded (governorLock p crc s).2).switches = (guarded s).switches := by
  unfold governorLock; simp

@[simp ↓] theorem governorLock_oper (p : Path) (crc : Nat) (s : State) :
    (guarded (governorLock p crc s).2).oper = (guarded s).oper := by
  unfold governorLock; simp

@[simp ↓] theorem governorLock_eff (p : Path) (crc : Nat) (s : State) :
    (guarded (governorLock p crc s).2).eff = (guarded s).eff := by
  unfold governorLock; simp

@[simp ↓] theorem zonesRefill_guarded (old : State) (s : State) :
    guarded (zonesRefill old s) = guarded s := by
  unfold zonesRefill; simp

@[simp ↓] theorem pairsChanged_queue (old : State) (s : State) :
    (guarded (pairsChanged old s)).queue = (guarded s).queue := by
  unfold pairsChanged; simp

@[simp ↓] theorem pairsChanged_oper (old : State) (s : State) :
    (guarded (pairsChanged old s)).oper = (guarded s).oper := by
  unfold pairsChanged; simp

@[simp ↓] theorem pairsChanged_log (old : State) (s : State) :
    (guarded (pairsChanged old s)).log = (guarded s).log := by
  unfold pairsChanged; simp

@[simp ↓] theorem pairsChanged_limits (old : State) (s : State) :
    (guarded (pairsChanged old s)).limits = (guarded s).limits := by
  unfold pairsChanged; simp

@[simp ↓] theorem pairsChanged_eff (old : State) (s : State) :
    (guarded (pairsChanged old s)).eff = (guarded s).eff := by
  unfold pairsChanged; simp

@[simp ↓] theorem outputsChanged_queue (old : State) (s : State) :
    (guarded (outputsChanged old s)).queue = (guarded s).queue := by
  unfold outputsChanged; simp

@[simp ↓] theorem outputsChanged_oper (old : State) (s : State) :
    (guarded (outputsChanged old s)).oper = (guarded s).oper := by
  unfold outputsChanged; simp

@[simp ↓] theorem outputsChanged_log (old : State) (s : State) :
    (guarded (outputsChanged old s)).log = (guarded s).log := by
  unfold outputsChanged; simp

@[simp ↓] theorem outputsChanged_limits (old : State) (s : State) :
    (guarded (outputsChanged old s)).limits = (guarded s).limits := by
  unfold outputsChanged; simp

@[simp ↓] theorem outputsChanged_eff (old : State) (s : State) :
    (guarded (outputsChanged old s)).eff = (guarded s).eff := by
  unfold outputsChanged; simp

@[simp ↓] theorem zonesAnew_guarded (old : State) (k : Nat) (s : State) :
    guarded (zonesAnew old k s) = guarded s := by
  unfold zonesAnew; simp

@[simp ↓] theorem sectionsChanged_guarded (old : State) (s : State) :
    guarded (sectionsChanged old s) = guarded s := by
  unfold sectionsChanged; simp

@[simp ↓] theorem wcChanged_guarded (old : State) (s : State) :
    guarded (wcChanged old s) = guarded s := by
  unfold wcChanged; simp

@[simp ↓] theorem matrixCommitted_guarded (s : State) :
    guarded (matrixCommitted s) = guarded s := by
  unfold matrixCommitted; simp

@[simp ↓] theorem afterSet_queue (newMap : Bool) (old : State) (s : State) :
    (guarded (afterSet newMap old s)).queue = (guarded s).queue := by
  unfold afterSet; dsimp only; (repeat' split) <;> simp

@[simp ↓] theorem afterSet_oper (newMap : Bool) (old : State) (s : State) :
    (guarded (afterSet newMap old s)).oper = (guarded s).oper := by
  unfold afterSet; dsimp only; (repeat' split) <;> simp

@[simp ↓] theorem afterSet_log (newMap : Bool) (old : State) (s : State) :
    (guarded (afterSet newMap old s)).log = (guarded s).log := by
  unfold afterSet; dsimp only; (repeat' split) <;> simp

@[simp ↓] theorem afterSet_limits (newMap : Bool) (old : State) (s : State) :
    (guarded (afterSet newMap old s)).limits = (guarded s).limits := by
  unfold afterSet; dsimp only; (repeat' split) <;> simp

@[simp ↓] theorem afterSet_eff (newMap : Bool) (old : State) (s : State) :
    (guarded (afterSet newMap old s)).eff = (guarded s).eff := by
  unfold afterSet; dsimp only; (repeat' split) <;> simp

@[simp ↓] theorem commitFail_guarded (st : Nat) (s : State) :
    guarded (commitFail st s) = guarded s := by
  unfold commitFail; simp

@[simp ↓] theorem commitRefused_guarded (s : State) :
    guarded (commitRefused s) = guarded s := by
  unfold commitRefused; simp

@[simp ↓] theorem commitTry_guarded (s : State) :
    guarded (commitTry s) = guarded s := by
  unfold commitTry; simp

@[simp ↓] theorem commitGo_guarded (p : Path) (s : State) :
    guarded (commitGo p s).2 = guarded s := by
  unfold commitGo; simp

@[simp ↓] theorem commitVerified_queue (intactA intactB : Bool) (s : State) :
    (guarded (commitVerified intactA intactB s)).queue = (guarded s).queue := by
  unfold commitVerified; (repeat' split) <;> simp

@[simp ↓] theorem commitVerified_switches (intactA intactB : Bool) (s : State) :
    (guarded (commitVerified intactA intactB s)).switches = (guarded s).switches := by
  unfold commitVerified; (repeat' split) <;> simp

@[simp ↓] theorem commitVerified_oper (intactA intactB : Bool) (s : State) :
    (guarded (commitVerified intactA intactB s)).oper = (guarded s).oper := by
  unfold commitVerified; (repeat' split) <;> simp

@[simp ↓] theorem commitVerified_limits (intactA intactB : Bool) (s : State) :
    (guarded (commitVerified intactA intactB s)).limits = (guarded s).limits := by
  unfold commitVerified; (repeat' split) <;> simp

@[simp ↓] theorem commitVerified_eff (intactA intactB : Bool) (s : State) :
    (guarded (commitVerified intactA intactB s)).eff = (guarded s).eff := by
  unfold commitVerified; (repeat' split) <;> simp

@[simp ↓] theorem commitDeadline_guarded (s : State) :
    guarded (commitDeadline s) = guarded s := by
  unfold commitDeadline; (repeat' split) <;> simp

@[simp ↓] theorem copiesWritten_guarded (s : State) :
    guarded (copiesWritten s) = guarded s := by
  unfold copiesWritten; (repeat' split) <;> simp

@[simp ↓] theorem applyCommit_queue (p : Pend) (s : State) :
    (guarded (applyCommit p s)).queue = (guarded s).queue := by
  unfold applyCommit; simp

@[simp ↓] theorem applyCommit_oper (p : Pend) (s : State) :
    (guarded (applyCommit p s)).oper = (guarded s).oper := by
  unfold applyCommit; simp

@[simp ↓] theorem applyCommit_log (p : Pend) (s : State) :
    (guarded (applyCommit p s)).log = (guarded s).log := by
  unfold applyCommit; simp

@[simp ↓] theorem applyCommit_limits (p : Pend) (s : State) :
    (guarded (applyCommit p s)).limits = (guarded s).limits := by
  unfold applyCommit; simp

@[simp ↓] theorem commitAt_queue (n : BitVec 32) (sys : BitVec 64) (s : State) :
    (guarded (commitAt n sys s)).queue = (guarded s).queue := by
  unfold commitAt; (repeat' split) <;> simp

@[simp ↓] theorem commitAt_oper (n : BitVec 32) (sys : BitVec 64) (s : State) :
    (guarded (commitAt n sys s)).oper = (guarded s).oper := by
  unfold commitAt; (repeat' split) <;> simp

@[simp ↓] theorem commitAt_log (n : BitVec 32) (sys : BitVec 64) (s : State) :
    (guarded (commitAt n sys s)).log = (guarded s).log := by
  unfold commitAt; (repeat' split) <;> simp

@[simp ↓] theorem commitAt_limits (n : BitVec 32) (sys : BitVec 64) (s : State) :
    (guarded (commitAt n sys s)).limits = (guarded s).limits := by
  unfold commitAt; (repeat' split) <;> simp

@[simp ↓] theorem assignAt_queue (s : State) :
    (guarded (assignAt s)).queue = (guarded s).queue := by
  unfold assignAt; simp

@[simp ↓] theorem assignAt_oper (s : State) :
    (guarded (assignAt s)).oper = (guarded s).oper := by
  unfold assignAt; simp

@[simp ↓] theorem assignAt_log (s : State) :
    (guarded (assignAt s)).log = (guarded s).log := by
  unfold assignAt; simp

@[simp ↓] theorem assignAt_limits (s : State) :
    (guarded (assignAt s)).limits = (guarded s).limits := by
  unfold assignAt; simp

@[simp ↓] theorem assignAt_eff (s : State) :
    (guarded (assignAt s)).eff = (guarded s).eff := by
  unfold assignAt; simp

end Sys2Proof.Machine
end

