-- ==== Sys2Proof/Laws/Boundary.lean ====
section
/-! SUPPORT. Laws/Boundary.lean: what the operations of Boundary.lean leave of the guarded part. -/

namespace Sys2Proof.Machine

@[simp ↓] theorem dropCounts_guarded (s : State) :
    guarded (dropCounts s) = guarded s := by
  unfold dropCounts; simp

@[simp ↓] theorem closeSpend_guarded (s : State) :
    guarded (closeSpend s) = guarded s := by
  unfold closeSpend; simp

@[simp ↓] theorem closeCounts_guarded (s : State) :
    guarded (closeCounts s) = guarded s := by
  unfold closeCounts; simp

@[simp ↓] theorem observeBoundary_guarded (s : State) :
    guarded (observeBoundary s) = guarded s := by
  unfold observeBoundary; simp

@[simp ↓] theorem closeScanned_guarded (s : State) :
    guarded (closeScanned s) = guarded s := by
  unfold closeScanned; simp

@[simp ↓] theorem keepPrev_guarded (s : State) :
    guarded (keepPrev s) = guarded s := by
  unfold keepPrev; simp

@[simp ↓] theorem closeReceive_guarded (s : State) :
    guarded (closeReceive s) = guarded s := by
  unfold closeReceive; simp

@[simp ↓] theorem closeFrame_guarded (s : State) :
    guarded (closeFrame s) = guarded s := by
  unfold closeFrame; simp

@[simp ↓] theorem enterStandby_queue (s : State) :
    (guarded (enterStandby s)).queue = (guarded s).queue := by
  unfold enterStandby; simp

@[simp ↓] theorem enterStandby_oper (s : State) :
    (guarded (enterStandby s)).oper = (guarded s).oper := by
  unfold enterStandby; simp

@[simp ↓] theorem enterStandby_log (s : State) :
    (guarded (enterStandby s)).log = (guarded s).log := by
  unfold enterStandby; simp

@[simp ↓] theorem enterStandby_limits (s : State) :
    (guarded (enterStandby s)).limits = (guarded s).limits := by
  unfold enterStandby; simp

@[simp ↓] theorem enterStandby_eff (s : State) :
    (guarded (enterStandby s)).eff = (guarded s).eff := by
  unfold enterStandby; simp

@[simp ↓] theorem takeState_queue (sel : Nat) (s : State) :
    (guarded (takeState sel s)).queue = (guarded s).queue := by
  unfold takeState; (repeat' split) <;> simp

@[simp ↓] theorem takeState_oper (sel : Nat) (s : State) :
    (guarded (takeState sel s)).oper = (guarded s).oper := by
  unfold takeState; (repeat' split) <;> simp

@[simp ↓] theorem takeState_log (sel : Nat) (s : State) :
    (guarded (takeState sel s)).log = (guarded s).log := by
  unfold takeState; (repeat' split) <;> simp

@[simp ↓] theorem takeState_limits (sel : Nat) (s : State) :
    (guarded (takeState sel s)).limits = (guarded s).limits := by
  unfold takeState; (repeat' split) <;> simp

@[simp ↓] theorem takeState_eff (sel : Nat) (s : State) :
    (guarded (takeState sel s)).eff = (guarded s).eff := by
  unfold takeState; (repeat' split) <;> simp

@[simp ↓] theorem nextFrameNo_guarded (s : State) :
    guarded (nextFrameNo s) = guarded s := by
  unfold nextFrameNo; simp

@[simp ↓] theorem grantNext_guarded (s : State) :
    guarded (grantNext s) = guarded s := by
  unfold grantNext; simp

@[simp ↓] theorem openFrame_guarded (s : State) :
    guarded (openFrame s) = guarded s := by
  unfold openFrame; simp

@[simp ↓] theorem vigilAct_guarded (was : Bool) (s : State) :
    guarded (vigilAct was s) = guarded s := by
  unfold vigilAct; simp

@[simp ↓] theorem boundaryRun_queue (s : State) :
    (guarded (boundaryRun s)).queue = (guarded s).queue := by
  unfold boundaryRun; simp

@[simp ↓] theorem boundaryRun_oper (s : State) :
    (guarded (boundaryRun s)).oper = (guarded s).oper := by
  unfold boundaryRun; simp

@[simp ↓] theorem boundaryRun_log (s : State) :
    (guarded (boundaryRun s)).log = (guarded s).log := by
  unfold boundaryRun; simp

@[simp ↓] theorem boundaryRun_limits (s : State) :
    (guarded (boundaryRun s)).limits = (guarded s).limits := by
  unfold boundaryRun; simp

@[simp ↓] theorem boundary_queue (s : State) :
    (guarded (boundary s)).queue = (guarded s).queue := by
  unfold boundary; simp

@[simp ↓] theorem boundary_oper (s : State) :
    (guarded (boundary s)).oper = (guarded s).oper := by
  unfold boundary; simp

@[simp ↓] theorem boundary_log (s : State) :
    (guarded (boundary s)).log = (guarded s).log := by
  unfold boundary; simp

@[simp ↓] theorem boundary_limits (s : State) :
    (guarded (boundary s)).limits = (guarded s).limits := by
  unfold boundary; simp

@[simp ↓] theorem mirrorBoundary_queue (s : State) :
    (guarded (mirrorBoundary s)).queue = (guarded s).queue := by
  unfold mirrorBoundary; simp

@[simp ↓] theorem mirrorBoundary_oper (s : State) :
    (guarded (mirrorBoundary s)).oper = (guarded s).oper := by
  unfold mirrorBoundary; simp

@[simp ↓] theorem mirrorBoundary_log (s : State) :
    (guarded (mirrorBoundary s)).log = (guarded s).log := by
  unfold mirrorBoundary; simp

@[simp ↓] theorem mirrorBoundary_limits (s : State) :
    (guarded (mirrorBoundary s)).limits = (guarded s).limits := by
  unfold mirrorBoundary; simp

@[simp ↓] theorem nominalBoundary_queue (s : State) :
    (guarded (nominalBoundary s)).queue = (guarded s).queue := by
  unfold nominalBoundary; simp

@[simp ↓] theorem nominalBoundary_oper (s : State) :
    (guarded (nominalBoundary s)).oper = (guarded s).oper := by
  unfold nominalBoundary; simp

@[simp ↓] theorem nominalBoundary_log (s : State) :
    (guarded (nominalBoundary s)).log = (guarded s).log := by
  unfold nominalBoundary; simp

@[simp ↓] theorem nominalBoundary_limits (s : State) :
    (guarded (nominalBoundary s)).limits = (guarded s).limits := by
  unfold nominalBoundary; simp

@[simp ↓] theorem mailboxPost_guarded (s : State) :
    guarded (mailboxPost s) = guarded s := by
  unfold mailboxPost; simp

@[simp ↓] theorem latchAll_guarded (s : State) :
    guarded (latchAll s) = guarded s := by
  unfold latchAll; simp

@[simp ↓] theorem accountingInterval_guarded (s : State) :
    guarded (accountingInterval s) = guarded s := by
  unfold accountingInterval; simp

end Sys2Proof.Machine
end

