-- ==== Sys2Proof/Laws/Mirror.lean ====
section
/-! SUPPORT. Laws/Mirror.lean: what the operations of Mirror.lean leave of the guarded part. -/

namespace Sys2Proof.Machine

@[simp ↓] theorem mirrorFault_queue (b : Nat) (s : State) :
    (guarded (mirrorFault b s)).queue = (guarded s).queue := by
  unfold mirrorFault; simp

@[simp ↓] theorem mirrorFault_oper (b : Nat) (s : State) :
    (guarded (mirrorFault b s)).oper = (guarded s).oper := by
  unfold mirrorFault; simp

@[simp ↓] theorem mirrorFault_log (b : Nat) (s : State) :
    (guarded (mirrorFault b s)).log = (guarded s).log := by
  unfold mirrorFault; simp

@[simp ↓] theorem mirrorFault_limits (b : Nat) (s : State) :
    (guarded (mirrorFault b s)).limits = (guarded s).limits := by
  unfold mirrorFault; simp

@[simp ↓] theorem mirrorLock_queue (s : State) :
    (guarded (mirrorLock s)).queue = (guarded s).queue := by
  unfold mirrorLock; simp

@[simp ↓] theorem mirrorLock_oper (s : State) :
    (guarded (mirrorLock s)).oper = (guarded s).oper := by
  unfold mirrorLock; simp

@[simp ↓] theorem mirrorLock_log (s : State) :
    (guarded (mirrorLock s)).log = (guarded s).log := by
  unfold mirrorLock; simp

@[simp ↓] theorem mirrorLock_limits (s : State) :
    (guarded (mirrorLock s)).limits = (guarded s).limits := by
  unfold mirrorLock; simp

@[simp ↓] theorem mixEdge_queue (s : State) :
    (guarded (mixEdge s)).queue = (guarded s).queue := by
  unfold mixEdge; dsimp only; (repeat' split) <;> simp

@[simp ↓] theorem mixEdge_oper (s : State) :
    (guarded (mixEdge s)).oper = (guarded s).oper := by
  unfold mixEdge; dsimp only; (repeat' split) <;> simp

@[simp ↓] theorem mixEdge_log (s : State) :
    (guarded (mixEdge s)).log = (guarded s).log := by
  unfold mixEdge; dsimp only; (repeat' split) <;> simp

@[simp ↓] theorem mixEdge_limits (s : State) :
    (guarded (mixEdge s)).limits = (guarded s).limits := by
  unfold mixEdge; dsimp only; (repeat' split) <;> simp

@[simp ↓] theorem mixTimeout_queue (s : State) :
    (guarded (mixTimeout s)).queue = (guarded s).queue := by
  unfold mixTimeout; (repeat' split) <;> simp

@[simp ↓] theorem mixTimeout_oper (s : State) :
    (guarded (mixTimeout s)).oper = (guarded s).oper := by
  unfold mixTimeout; (repeat' split) <;> simp

@[simp ↓] theorem mixTimeout_log (s : State) :
    (guarded (mixTimeout s)).log = (guarded s).log := by
  unfold mixTimeout; (repeat' split) <;> simp

@[simp ↓] theorem mixTimeout_limits (s : State) :
    (guarded (mixTimeout s)).limits = (guarded s).limits := by
  unfold mixTimeout; (repeat' split) <;> simp

@[simp ↓] theorem mencEdge_queue (forward : Bool) (s : State) : (guarded (mencEdge forward s)).queue = (guarded s).queue := by
  unfold mencEdge
  split
  · dsimp only; split <;> simp
  · dsimp only; split <;> simp
  · rfl

@[simp ↓] theorem mencEdge_oper (forward : Bool) (s : State) : (guarded (mencEdge forward s)).oper = (guarded s).oper := by
  unfold mencEdge
  split
  · dsimp only; split <;> simp
  · dsimp only; split <;> simp
  · rfl

@[simp ↓] theorem mencEdge_log (forward : Bool) (s : State) : (guarded (mencEdge forward s)).log = (guarded s).log := by
  unfold mencEdge
  split
  · dsimp only; split <;> simp
  · dsimp only; split <;> simp
  · rfl

@[simp ↓] theorem mencEdge_limits (forward : Bool) (s : State) : (guarded (mencEdge forward s)).limits = (guarded s).limits := by
  unfold mencEdge
  split
  · dsimp only; split <;> simp
  · dsimp only; split <;> simp
  · rfl

@[simp ↓] theorem mencStall_queue (s : State) : (guarded (mencStall s)).queue = (guarded s).queue := by
  unfold mencStall
  cases s.mir.lastMenc with
  | none => rfl
  | some x =>
    dsimp only
    cases scanning s && decide (4 * framePeriod s ≤ (s.sys.now - x) * mencCpr s) <;> simp

@[simp ↓] theorem mencStall_oper (s : State) : (guarded (mencStall s)).oper = (guarded s).oper := by
  unfold mencStall
  cases s.mir.lastMenc with
  | none => rfl
  | some x =>
    dsimp only
    cases scanning s && decide (4 * framePeriod s ≤ (s.sys.now - x) * mencCpr s) <;> simp

@[simp ↓] theorem mencStall_log (s : State) : (guarded (mencStall s)).log = (guarded s).log := by
  unfold mencStall
  cases s.mir.lastMenc with
  | none => rfl
  | some x =>
    dsimp only
    cases scanning s && decide (4 * framePeriod s ≤ (s.sys.now - x) * mencCpr s) <;> simp

@[simp ↓] theorem mencStall_limits (s : State) : (guarded (mencStall s)).limits = (guarded s).limits := by
  unfold mencStall
  cases s.mir.lastMenc with
  | none => rfl
  | some x =>
    dsimp only
    cases scanning s && decide (4 * framePeriod s ≤ (s.sys.now - x) * mencCpr s) <;> simp

@[simp ↓] theorem mirrorCheckLate_guarded (s : State) :
    guarded (mirrorCheckLate s) = guarded s := by
  unfold mirrorCheckLate; simp

@[simp ↓] theorem mirCntClear_guarded (w : Nat) (s : State) :
    guarded (mirCntClear w s) = guarded s := by
  unfold mirCntClear; simp

end Sys2Proof.Machine
end

