-- ==== Sys2Proof/Laws/Reset.lean ====
section
/-! SUPPORT. Laws/Reset.lean: what the operations of Reset.lean leave of the guarded part. -/

namespace Sys2Proof.Machine

@[simp ↓] theorem dropResults_guarded (p : Nat → Bool) (s : State) :
    guarded (dropResults p s) = guarded s := by
  unfold dropResults; simp

@[simp ↓] theorem mgmtLost_guarded (s : State) :
    guarded (mgmtLost s) = guarded s := by
  unfold mgmtLost; simp

@[simp ↓] theorem countReset_guarded (cause : Nat) (planes : Nat) (s : State) :
    guarded (countReset cause planes s) = guarded s := by
  unfold countReset; simp

@[simp ↓] theorem mgmtReset_guarded (cause : Nat) (s : State) :
    guarded (mgmtReset cause s) = guarded s := by
  unfold mgmtReset; simp

@[simp ↓] theorem mgmtResetDone_guarded (s : State) :
    guarded (mgmtResetDone s) = guarded s := by
  unfold mgmtResetDone; simp

@[simp ↓] theorem dataReset_guarded (s : State) :
    guarded (dataReset s) = guarded s := by
  unfold dataReset; simp

@[simp ↓] theorem ctrlLost_queue (s : State) :
    (guarded (ctrlLost s)).queue = (guarded s).queue := by
  unfold ctrlLost; simp

@[simp ↓] theorem ctrlLost_log (s : State) :
    (guarded (ctrlLost s)).log = (guarded s).log := by
  unfold ctrlLost; simp

@[simp ↓] theorem ctrlLost_limits (s : State) :
    (guarded (ctrlLost s)).limits = (guarded s).limits := by
  unfold ctrlLost; simp

@[simp ↓] theorem ctrlLost_eff (s : State) :
    (guarded (ctrlLost s)).eff = (guarded s).eff := by
  unfold ctrlLost; simp

@[simp ↓] theorem deviceReset_queue (cause : Nat) (s : State) :
    (guarded (deviceReset cause s)).queue = (guarded s).queue := by
  unfold deviceReset; simp

@[simp ↓] theorem deviceReset_log (cause : Nat) (s : State) :
    (guarded (deviceReset cause s)).log = (guarded s).log := by
  unfold deviceReset; simp

@[simp ↓] theorem deviceReset_limits (cause : Nat) (s : State) :
    (guarded (deviceReset cause s)).limits = (guarded s).limits := by
  unfold deviceReset; simp

@[simp ↓] theorem planesUp_guarded (s : State) :
    guarded (planesUp s) = guarded s := by
  unfold planesUp; simp

@[simp ↓] theorem planesLeave_guarded (s : State) :
    guarded (planesLeave s) = guarded s := by
  unfold planesLeave; simp

@[simp ↓] theorem pinRecognised_guarded (low : Nat) (s : State) :
    guarded (pinRecognised low s).2 = guarded s := by
  unfold pinRecognised; simp

@[simp ↓] theorem pinAssert_queue (low : Nat) (s : State) :
    (guarded (pinAssert low s)).queue = (guarded s).queue := by
  unfold pinAssert; simp

@[simp ↓] theorem pinAssert_log (low : Nat) (s : State) :
    (guarded (pinAssert low s)).log = (guarded s).log := by
  unfold pinAssert; simp

@[simp ↓] theorem pinAssert_limits (low : Nat) (s : State) :
    (guarded (pinAssert low s)).limits = (guarded s).limits := by
  unfold pinAssert; simp

@[simp ↓] theorem pinRelease_guarded (s : State) :
    guarded (pinRelease s) = guarded s := by
  unfold pinRelease; simp

@[simp ↓] theorem scheduleReset_guarded (scope : Nat) (s : State) :
    guarded (scheduleReset scope s) = guarded s := by
  unfold scheduleReset; simp

@[simp ↓] theorem syReset_guarded (scope : Nat) (s : State) :
    guarded (syReset scope s) = guarded s := by
  unfold syReset; simp

@[simp ↓] theorem resetNow_queue (s : State) :
    (guarded (resetNow s)).queue = (guarded s).queue := by
  unfold resetNow; (repeat' split) <;> simp

@[simp ↓] theorem resetNow_log (s : State) :
    (guarded (resetNow s)).log = (guarded s).log := by
  unfold resetNow; (repeat' split) <;> simp

@[simp ↓] theorem resetNow_limits (s : State) :
    (guarded (resetNow s)).limits = (guarded s).limits := by
  unfold resetNow; (repeat' split) <;> simp

@[simp ↓] theorem pinCapture_guarded (s : State) :
    guarded (pinCapture s) = guarded s := by
  unfold pinCapture; simp

@[simp ↓] theorem jtagLoad_queue (j : Jtag) (s : State) :
    (guarded (jtagLoad j s)).queue = (guarded s).queue := by
  unfold jtagLoad; simp

@[simp ↓] theorem jtagLoad_log (j : Jtag) (s : State) :
    (guarded (jtagLoad j s)).log = (guarded s).log := by
  unfold jtagLoad; simp

@[simp ↓] theorem jtagLoad_limits (j : Jtag) (s : State) :
    (guarded (jtagLoad j s)).limits = (guarded s).limits := by
  unfold jtagLoad; simp

@[simp ↓] theorem jtagPins_queue (j : Jtag) (s : State) :
    (guarded (jtagPins j s)).queue = (guarded s).queue := by
  unfold jtagPins; simp

@[simp ↓] theorem jtagPins_log (j : Jtag) (s : State) :
    (guarded (jtagPins j s)).log = (guarded s).log := by
  unfold jtagPins; simp

@[simp ↓] theorem jtagPins_limits (j : Jtag) (s : State) :
    (guarded (jtagPins j s)).limits = (guarded s).limits := by
  unfold jtagPins; simp

@[simp ↓] theorem debugHalt_queue (s : State) :
    (guarded (debugHalt s)).queue = (guarded s).queue := by
  unfold debugHalt; simp

@[simp ↓] theorem debugHalt_oper (s : State) :
    (guarded (debugHalt s)).oper = (guarded s).oper := by
  unfold debugHalt; simp

@[simp ↓] theorem debugHalt_log (s : State) :
    (guarded (debugHalt s)).log = (guarded s).log := by
  unfold debugHalt; simp

@[simp ↓] theorem debugHalt_limits (s : State) :
    (guarded (debugHalt s)).limits = (guarded s).limits := by
  unfold debugHalt; simp

@[simp ↓] theorem debugHalt_eff (s : State) :
    (guarded (debugHalt s)).eff = (guarded s).eff := by
  unfold debugHalt; simp

end Sys2Proof.Machine
end

