-- ==== Sys2Proof/Laws/Startup.lean ====
section
/-! SUPPORT. Laws/Startup.lean: what the operations of Startup.lean leave of the guarded part. -/

namespace Sys2Proof.Machine

@[simp ↓] theorem powerUp_queue (govA : Bool) (govB : Bool) (s : State) :
    (guarded (powerUp govA govB s)).queue = (guarded s).queue := by
  unfold powerUp; simp

@[simp ↓] theorem powerUp_switches (govA : Bool) (govB : Bool) (s : State) :
    (guarded (powerUp govA govB s)).switches = (guarded s).switches := by
  unfold powerUp; simp

@[simp ↓] theorem powerUp_oper (govA : Bool) (govB : Bool) (s : State) :
    (guarded (powerUp govA govB s)).oper = (guarded s).oper := by
  unfold powerUp; simp

@[simp ↓] theorem powerUp_log (govA : Bool) (govB : Bool) (s : State) :
    (guarded (powerUp govA govB s)).log = (guarded s).log := by
  unfold powerUp; simp

@[simp ↓] theorem powerUp_eff (govA : Bool) (govB : Bool) (s : State) :
    (guarded (powerUp govA govB s)).eff = (guarded s).eff := by
  unfold powerUp; simp

@[simp ↓] theorem hpStart_guarded (s : State) :
    guarded (hpStart s) = guarded s := by
  unfold hpStart; simp

@[simp ↓] theorem loadConfig_queue (aOk : Bool) (bOk : Bool) (s : State) :
    (guarded (loadConfig aOk bOk s)).queue = (guarded s).queue := by
  unfold loadConfig; dsimp only; (repeat' split) <;> simp

@[simp ↓] theorem loadConfig_switches (aOk : Bool) (bOk : Bool) (s : State) :
    (guarded (loadConfig aOk bOk s)).switches = (guarded s).switches := by
  unfold loadConfig; dsimp only; (repeat' split) <;> simp

@[simp ↓] theorem loadConfig_oper (aOk : Bool) (bOk : Bool) (s : State) :
    (guarded (loadConfig aOk bOk s)).oper = (guarded s).oper := by
  unfold loadConfig; dsimp only; (repeat' split) <;> simp

@[simp ↓] theorem loadConfig_log (aOk : Bool) (bOk : Bool) (s : State) :
    (guarded (loadConfig aOk bOk s)).log = (guarded s).log := by
  unfold loadConfig; dsimp only; (repeat' split) <;> simp

@[simp ↓] theorem loadConfig_limits (aOk : Bool) (bOk : Bool) (s : State) :
    (guarded (loadConfig aOk bOk s)).limits = (guarded s).limits := by
  unfold loadConfig; dsimp only; (repeat' split) <;> simp

@[simp ↓] theorem configLoad_queue (aOk : Bool) (bOk : Bool) (cntAOk : Bool) (cntBOk : Bool) (s : State) :
    (guarded (configLoad aOk bOk cntAOk cntBOk s)).queue = (guarded s).queue := by
  unfold configLoad; simp

@[simp ↓] theorem configLoad_switches (aOk : Bool) (bOk : Bool) (cntAOk : Bool) (cntBOk : Bool) (s : State) :
    (guarded (configLoad aOk bOk cntAOk cntBOk s)).switches = (guarded s).switches := by
  unfold configLoad; simp

@[simp ↓] theorem configLoad_oper (aOk : Bool) (bOk : Bool) (cntAOk : Bool) (cntBOk : Bool) (s : State) :
    (guarded (configLoad aOk bOk cntAOk cntBOk s)).oper = (guarded s).oper := by
  unfold configLoad; simp

@[simp ↓] theorem configLoad_log (aOk : Bool) (bOk : Bool) (cntAOk : Bool) (cntBOk : Bool) (s : State) :
    (guarded (configLoad aOk bOk cntAOk cntBOk s)).log = (guarded s).log := by
  unfold configLoad; simp

@[simp ↓] theorem configLoad_limits (aOk : Bool) (bOk : Bool) (cntAOk : Bool) (cntBOk : Bool) (s : State) :
    (guarded (configLoad aOk bOk cntAOk cntBOk s)).limits = (guarded s).limits := by
  unfold configLoad; simp

@[simp ↓] theorem selfTest_queue (c : Chan) (pass : Bool) (s : State) :
    (guarded (selfTest c pass s)).queue = (guarded s).queue := by
  unfold selfTest; (repeat' split) <;> simp

@[simp ↓] theorem selfTest_oper (c : Chan) (pass : Bool) (s : State) :
    (guarded (selfTest c pass s)).oper = (guarded s).oper := by
  unfold selfTest; (repeat' split) <;> simp

@[simp ↓] theorem selfTest_log (c : Chan) (pass : Bool) (s : State) :
    (guarded (selfTest c pass s)).log = (guarded s).log := by
  unfold selfTest; (repeat' split) <;> simp

@[simp ↓] theorem selfTest_limits (c : Chan) (pass : Bool) (s : State) :
    (guarded (selfTest c pass s)).limits = (guarded s).limits := by
  unfold selfTest; (repeat' split) <;> simp

@[simp ↓] theorem selfTest_eff (c : Chan) (pass : Bool) (s : State) :
    (guarded (selfTest c pass s)).eff = (guarded s).eff := by
  unfold selfTest; (repeat' split) <;> simp

@[simp ↓] theorem channelStart_guarded (c : Chan) (lv : SinLevels) (s : State) :
    guarded (channelStart c lv s) = guarded s := by
  unfold channelStart; simp

@[simp ↓] theorem linksStart_guarded (s : State) :
    guarded (linksStart s) = guarded s := by
  unfold linksStart; simp

@[simp ↓] theorem safetyOper_queue (lvA lvB : SinLevels) (s : State) :
    (guarded (safetyOper lvA lvB s)).queue = (guarded s).queue := by
  unfold safetyOper; dsimp only; (repeat' split) <;> simp

@[simp ↓] theorem safetyOper_log (lvA lvB : SinLevels) (s : State) :
    (guarded (safetyOper lvA lvB s)).log = (guarded s).log := by
  unfold safetyOper; dsimp only; (repeat' split) <;> simp

@[simp ↓] theorem safetyOper_limits (lvA lvB : SinLevels) (s : State) :
    (guarded (safetyOper lvA lvB s)).limits = (guarded s).limits := by
  unfold safetyOper; dsimp only; (repeat' split) <;> simp

@[simp ↓] theorem safetyOper_eff (lvA lvB : SinLevels) (s : State) :
    (guarded (safetyOper lvA lvB s)).eff = (guarded s).eff := by
  unfold safetyOper; dsimp only; (repeat' split) <;> simp

@[simp ↓] theorem eraseNow_queue (s : State) :
    (guarded (eraseNow s)).queue = (guarded s).queue := by
  unfold eraseNow; simp

@[simp ↓] theorem safetyErase_queue (p : Path) (d : List Byte) (s : State) :
    (guarded (safetyErase p d s).2).queue = (guarded s).queue := by
  unfold safetyErase; simp

end Sys2Proof.Machine
end

