-- ==== Sys2Proof/Laws/Power.lean ====
section
/-! SUPPORT. Laws/Power.lean: what the operations of Power.lean leave of the guarded part. -/

namespace Sys2Proof.Machine

@[simp ↓] theorem pllFault_guarded (s : State) :
    guarded (pllFault s) = guarded s := by
  unfold pllFault; simp

@[simp ↓] theorem pllLoss_guarded (s : State) :
    guarded (pllLoss s) = guarded s := by
  unfold pllLoss; simp

@[simp ↓] theorem checkLfx_guarded (edge : Bool) (s : State) :
    guarded (checkLfx edge s) = guarded s := by
  unfold checkLfx; simp

@[simp ↓] theorem checkMrcA_queue (ppm : Int) (s : State) :
    (guarded (checkMrcA ppm s)).queue = (guarded s).queue := by
  unfold checkMrcA; simp

@[simp ↓] theorem checkMrcA_oper (ppm : Int) (s : State) :
    (guarded (checkMrcA ppm s)).oper = (guarded s).oper := by
  unfold checkMrcA; simp

@[simp ↓] theorem checkMrcA_log (ppm : Int) (s : State) :
    (guarded (checkMrcA ppm s)).log = (guarded s).log := by
  unfold checkMrcA; simp

@[simp ↓] theorem checkMrcA_limits (ppm : Int) (s : State) :
    (guarded (checkMrcA ppm s)).limits = (guarded s).limits := by
  unfold checkMrcA; simp

@[simp ↓] theorem checkMrcA_eff (ppm : Int) (s : State) :
    (guarded (checkMrcA ppm s)).eff = (guarded s).eff := by
  unfold checkMrcA; simp

@[simp ↓] theorem mrcBSettle_guarded (s : State) :
    guarded (mrcBSettle s) = guarded s := by
  unfold mrcBSettle; dsimp only; (repeat' split) <;> simp

@[simp ↓] theorem checkMrcB_queue (ppm : Int) (s : State) :
    (guarded (checkMrcB ppm s)).queue = (guarded s).queue := by
  unfold checkMrcB; simp

@[simp ↓] theorem checkMrcB_oper (ppm : Int) (s : State) :
    (guarded (checkMrcB ppm s)).oper = (guarded s).oper := by
  unfold checkMrcB; simp

@[simp ↓] theorem checkMrcB_log (ppm : Int) (s : State) :
    (guarded (checkMrcB ppm s)).log = (guarded s).log := by
  unfold checkMrcB; simp

@[simp ↓] theorem checkMrcB_limits (ppm : Int) (s : State) :
    (guarded (checkMrcB ppm s)).limits = (guarded s).limits := by
  unfold checkMrcB; simp

@[simp ↓] theorem checkMrcB_eff (ppm : Int) (s : State) :
    (guarded (checkMrcB ppm s)).eff = (guarded s).eff := by
  unfold checkMrcB; simp

@[simp ↓] theorem checkHfx_guarded (ppm : Int) (runs : Bool) (s : State) :
    guarded (checkHfx ppm runs s) = guarded s := by
  unfold checkHfx; simp

@[simp ↓] theorem clockCheck_queue (m : ClockMeas) (s : State) :
    (guarded (clockCheck m s)).queue = (guarded s).queue := by
  unfold clockCheck; simp

@[simp ↓] theorem clockCheck_oper (m : ClockMeas) (s : State) :
    (guarded (clockCheck m s)).oper = (guarded s).oper := by
  unfold clockCheck; simp

@[simp ↓] theorem clockCheck_log (m : ClockMeas) (s : State) :
    (guarded (clockCheck m s)).log = (guarded s).log := by
  unfold clockCheck; simp

@[simp ↓] theorem clockCheck_limits (m : ClockMeas) (s : State) :
    (guarded (clockCheck m s)).limits = (guarded s).limits := by
  unfold clockCheck; simp

@[simp ↓] theorem clockCheck_eff (m : ClockMeas) (s : State) :
    (guarded (clockCheck m s)).eff = (guarded s).eff := by
  unfold clockCheck; simp

@[simp ↓] theorem pwrReq_guarded (r : Nat) (s : State) :
    guarded (pwrReq r s) = guarded s := by
  unfold pwrReq; simp

@[simp ↓] theorem idleExpiry_guarded (s : State) :
    guarded (idleExpiry s) = guarded s := by
  unfold idleExpiry; simp

@[simp ↓] theorem wakeNote_guarded (code : Nat) (s : State) :
    guarded (wakeNote code s) = guarded s := by
  unfold wakeNote; simp

@[simp ↓] theorem standbyWake_guarded (src : WakeSrc) (s : State) :
    guarded (standbyWake src s) = guarded s := by
  unfold standbyWake; simp

@[simp ↓] theorem standbyDone_queue (s : State) :
    (guarded (standbyDone s)).queue = (guarded s).queue := by
  unfold standbyDone; simp

@[simp ↓] theorem standbyDone_log (s : State) :
    (guarded (standbyDone s)).log = (guarded s).log := by
  unfold standbyDone; simp

@[simp ↓] theorem standbyDone_limits (s : State) :
    (guarded (standbyDone s)).limits = (guarded s).limits := by
  unfold standbyDone; simp

@[simp ↓] theorem standbyDone_eff (s : State) :
    (guarded (standbyDone s)).eff = (guarded s).eff := by
  unfold standbyDone; simp

@[simp ↓] theorem wcTick_guarded (n : Nat) (mv : Nat) (s : State) :
    guarded (wcTick n mv s) = guarded s := by
  unfold wcTick; simp

@[simp ↓] theorem wcClear_guarded (v : Nat) (s : State) :
    guarded (wcClear v s) = guarded s := by
  unfold wcClear; simp

end Sys2Proof.Machine
end

