-- ==== Sys2Proof/Laws/Distributor.lean ====
section
/-! SUPPORT. Laws/Distributor.lean: what the operations of Distributor.lean leave of the guarded part. -/

namespace Sys2Proof.Machine

@[simp ↓] theorem edTake_guarded (t : Nat) (id : Nat) (lvl : Nat) (s : State) :
    guarded (edTake t id lvl s).2 = guarded s := by
  unfold edTake; simp

@[simp ↓] theorem edClaim_guarded (t : Nat) (s : State) :
    guarded (edClaim t s).2 = guarded s := by
  unfold edClaim; dsimp only; (repeat' split) <;> simp

@[simp ↓] theorem edErr_guarded (s : State) :
    guarded (edErr s) = guarded s := by
  unfold edErr; simp

@[simp ↓] theorem edFree_guarded (id : Nat) (s : State) :
    guarded (edFree id s) = guarded s := by
  unfold edFree; simp

@[simp ↓] theorem edPop_guarded (t : Nat) (id : Nat) (s : State) :
    guarded (edPop t id s) = guarded s := by
  unfold edPop; dsimp only; (repeat' split) <;> simp

@[simp ↓] theorem edDrop_guarded (t : Nat) (id : Nat) (s : State) :
    guarded (edDrop t id s) = guarded s := by
  unfold edDrop; dsimp only; (repeat' split) <;> simp

@[simp ↓] theorem edComplete_guarded (t : Nat) (id : Nat) (s : State) :
    guarded (edComplete t id s) = guarded s := by
  unfold edComplete; simp

@[simp ↓] theorem edSrcWrite_guarded (n : Nat) (w : Nat) (s : State) :
    guarded (edSrcWrite n w s) = guarded s := by
  unfold edSrcWrite; dsimp only; (repeat' split) <;> simp

@[simp ↓] theorem edTakeBack_guarded (t : Nat) (s : State) :
    guarded (edTakeBack t s) = guarded s := by
  unfold edTakeBack; simp

@[simp ↓] theorem edTcfgWrite_guarded (t : Nat) (w : Nat) (s : State) :
    guarded (edTcfgWrite t w s) = guarded s := by
  unfold edTcfgWrite; simp

@[simp ↓] theorem edLset_guarded (t : Nat) (w : Nat) (s : State) :
    guarded (edLset t w s) = guarded s := by
  unfold edLset; simp

@[simp ↓] theorem edLpend_guarded (t : Nat) (w : Word) (s : State) :
    guarded (edLpend t w s) = guarded s := by
  unfold edLpend; simp

@[simp ↓] theorem edLcnt_guarded (t : Nat) (s : State) :
    guarded (edLcnt t s) = guarded s := by
  unfold edLcnt; simp

@[simp ↓] theorem edLen_guarded (t : Nat) (w : Word) (s : State) :
    guarded (edLen t w s) = guarded s := by
  unfold edLen; simp

@[simp ↓] theorem edLlvl_guarded (t : Nat) (j : Nat) (w : Nat) (s : State) :
    guarded (edLlvl t j w s) = guarded s := by
  unfold edLlvl; simp

@[simp ↓] theorem edStatWrite_guarded (w : Nat) (s : State) :
    guarded (edStatWrite w s) = guarded s := by
  unfold edStatWrite; simp

@[simp ↓] theorem edSyncs_guarded (a : Nat) (n : Nat) (s : State) :
    guarded (edSyncs a n s) = guarded s := by
  unfold edSyncs; simp

@[simp ↓] theorem edSwi_guarded (w : Nat) (s : State) :
    guarded (edSwi w s) = guarded s := by
  unfold edSwi; simp

@[simp ↓] theorem edSecchg_guarded (w : Word) (s : State) :
    guarded (edSecchg w s) = guarded s := by
  unfold edSecchg; simp

@[simp ↓] theorem edEvtClear_guarded (v : Nat) (s : State) :
    guarded (edEvtClear v s) = guarded s := by
  unfold edEvtClear; simp

@[simp ↓] theorem edWaket_guarded (w : Nat) (s : State) :
    guarded (edWaket w s) = guarded s := by
  unfold edWaket; simp

end Sys2Proof.Machine
end

