-- ==== Sys2Proof/Laws/Matrix.lean ====
section
/-! SUPPORT. Laws/Matrix.lean: what the operations of Matrix.lean leave of the guarded part. -/

namespace Sys2Proof.Machine

@[simp ↓] theorem lmRaise_guarded (bits : Nat) (s : State) :
    guarded (lmRaise bits s) = guarded s := by
  unfold lmRaise; simp

@[simp ↓] theorem lmSwap_guarded (s : State) :
    guarded (lmSwap s) = guarded s := by
  unfold lmSwap; (repeat' split) <;> simp

@[simp ↓] theorem lmBegin_guarded (slot cycle : Nat) (s : State) :
    guarded (lmBegin slot cycle s) = guarded s := by
  unfold lmBegin; simp

@[simp ↓] theorem lmSlotRun_guarded (s : State) :
    guarded (lmSlotRun s) = guarded s := by
  unfold lmSlotRun; simp

@[simp ↓] theorem lmPrechargeRun_guarded (s : State) :
    guarded (lmPrechargeRun s) = guarded s := by
  unfold lmPrechargeRun; simp

@[simp ↓] theorem lmSinkOffRun_guarded (die : Nat) (s : State) :
    guarded (lmSinkOffRun die s) = guarded s := by
  unfold lmSinkOffRun; simp

@[simp ↓] theorem lmDiagRun_guarded (d mv supply : Nat) (s : State) :
    guarded (lmDiagRun d mv supply s) = guarded s := by
  unfold lmDiagRun; (repeat' split) <;> simp

@[simp ↓] theorem lmMeasureRun_guarded (r : Nat) (g : Nat) (b : Nat) (s : State) :
    guarded (lmMeasureRun r g b s) = guarded s := by
  unfold lmMeasureRun; dsimp only; (repeat' split) <;> simp

@[simp ↓] theorem lmRegulateRun_guarded (s : State) :
    guarded (lmRegulateRun s) = guarded s := by
  unfold lmRegulateRun; simp

@[simp ↓] theorem lmShowRun_guarded (page : Nat) (time : BitVec 64) (s : State) :
    guarded (lmShowRun page time s) = guarded s := by
  unfold lmShowRun; simp

@[simp ↓] theorem lmEvtClear_guarded (v : BitVec 4) (s : State) :
    guarded (lmEvtClear v s) = guarded s := by
  unfold lmEvtClear; simp

@[simp ↓] theorem lmOpenClear_guarded (w : Nat) (v : Word) (s : State) :
    guarded (lmOpenClear w v s) = guarded s := by
  unfold lmOpenClear; simp

end Sys2Proof.Machine
end

