-- ==== Sys2Proof/Laws/CrcUnits.lean ====
section
/-! SUPPORT. Laws/CrcUnits.lean: what the operations of Registers.lean and CrcUnits.lean leave of the guarded part. -/

namespace Sys2Proof.Machine

@[simp ↓] theorem fetchWord_guarded (a : Nat) (s : State) :
    guarded (fetchWord a s).2 = guarded s := by
  unfold fetchWord; simp

@[simp ↓] theorem crcSet_guarded (n : Nat) (x : Crc) (s : State) :
    guarded (crcSet n x s) = guarded s := by
  unfold crcSet; simp

@[simp ↓] theorem crcPost_guarded (n : Nat) (poly : Nat) (outcome : Nat) (s : State) :
    guarded (crcPost n poly outcome s) = guarded s := by
  unfold crcPost; simp

@[simp ↓] theorem crcGo_guarded (n : Nat) (init : Bool) (s : State) :
    guarded (crcGo n init s) = guarded s := by
  unfold crcGo; simp

@[simp ↓] theorem crcFetch_guarded (x : Crc) (s : State) : guarded (crcFetch x s).2.2 = guarded s := by
  unfold crcFetch; dsimp only; (repeat' split) <;> simp

@[simp ↓] theorem crcWord_guarded (n : Nat) (s : State) :
    guarded (crcWord n s) = guarded s := by
  unfold crcWord; simp

@[simp ↓] theorem crcIgnored_guarded (n poly k : Nat) (s : State) : guarded (crcIgnored n poly k s) = guarded s := by
  induction k generalizing s with
  | zero => rfl
  | succ k ih => simp [crcIgnored, ih]

@[simp ↓] theorem crcEnd_guarded (n outcome : Nat) (s : State) : guarded (crcEnd n outcome s) = guarded s := by
  unfold crcEnd; simp

@[simp ↓] theorem crcWords_guarded (n k : Nat) (s : State) : guarded (crcWords n k s) = guarded s := by
  induction k generalizing s with
  | zero => rfl
  | succ k ih => simp [crcWords, ih]

@[simp ↓] theorem crcDone_guarded (n : Nat) (s : State) : guarded (crcDone n s) = guarded s := by
  unfold crcDone; simp

@[simp ↓] theorem crcProgress_guarded (n : Nat) (s : State) :
    guarded (crcProgress n s) = guarded s := by
  unfold crcProgress; simp

@[simp ↓] theorem crcStop_guarded (n : Nat) (s : State) :
    guarded (crcStop n s) = guarded s := by
  unfold crcStop; simp

@[simp ↓] theorem crcRunLo_guarded (n : Nat) (w : Word) (s : State) :
    guarded (crcRunLo n w s) = guarded s := by
  unfold crcRunLo; simp

@[simp ↓] theorem crcRunHi_guarded (n : Nat) (w : Word) (s : State) :
    guarded (crcRunHi n w s) = guarded s := by
  unfold crcRunHi; simp

@[simp ↓] theorem crcRunLatch_guarded (n : Nat) (s : State) :
    guarded (crcRunLatch n s) = guarded s := by
  unfold crcRunLatch; simp

@[simp ↓] theorem crcRunObj_guarded (n : Nat) (v : BitVec 64) (s : State) :
    guarded (crcRunObj n v s).2 = guarded s := by
  unfold crcRunObj; simp

end Sys2Proof.Machine
end

