-- ==== Sys2Proof/Laws/ZoneMap.lean ====
section
/-! SUPPORT. Laws/ZoneMap.lean: what the operations of ZoneMap.lean leave of the guarded part. -/

namespace Sys2Proof.Machine

@[simp ↓] theorem mapPut_guarded (m : ZMap) (s : State) :
    guarded (mapPut m s).2 = guarded s := by
  unfold mapPut; simp

@[simp ↓] theorem mapData_guarded (pool : Bool) (p : Path) (d : List Byte) (s : State) :
    guarded (mapData pool p d s).2 = guarded s := by
  unfold mapData; simp

@[simp ↓] theorem mapFill_guarded (p : Path) (d : List Byte) (s : State) :
    guarded (mapFill p d s).2 = guarded s := by
  unfold mapFill; simp

@[simp ↓] theorem mapClear_guarded (p : Path) (s : State) :
    guarded (mapClear p s).2 = guarded s := by
  unfold mapClear; simp

@[simp ↓] theorem mapRevert_guarded (s : State) :
    guarded (mapRevert s).2 = guarded s := by
  unfold mapRevert; simp

end Sys2Proof.Machine
end

