-- ==== Sys2Proof/Laws/Dictionary.lean ====
section
/-! SUPPORT. Laws/Dictionary.lean: what the operations of Dictionary.lean leave of the guarded part. -/

namespace Sys2Proof.Machine

@[simp ↓] theorem objReadDone_guarded (i : Nat) (sub : Nat) (s : State) :
    guarded (objReadDone i sub s) = guarded s := by
  unfold objReadDone; simp

@[simp ↓] theorem routeWrite_guarded (d : List Byte) (s : State) :
    guarded (routeWrite d s).2 = guarded s := by
  unfold routeWrite; simp

@[simp ↓] theorem targetsWrite_guarded (d : List Byte) (s : State) :
    guarded (targetsWrite d s) = guarded s := by
  unfold targetsWrite; simp

@[simp ↓] theorem limitWrite_queue (sub : Nat) (v : Nat) (s : State) :
    (guarded (limitWrite sub v s).2).queue = (guarded s).queue := by
  unfold limitWrite; simp

@[simp ↓] theorem limitWrite_switches (sub : Nat) (v : Nat) (s : State) :
    (guarded (limitWrite sub v s).2).switches = (guarded s).switches := by
  unfold limitWrite; simp

@[simp ↓] theorem limitWrite_oper (sub : Nat) (v : Nat) (s : State) :
    (guarded (limitWrite sub v s).2).oper = (guarded s).oper := by
  unfold limitWrite; simp

@[simp ↓] theorem limitWrite_log (sub : Nat) (v : Nat) (s : State) :
    (guarded (limitWrite sub v s).2).log = (guarded s).log := by
  unfold limitWrite; simp

@[simp ↓] theorem limitWrite_eff (sub : Nat) (v : Nat) (s : State) :
    (guarded (limitWrite sub v s).2).eff = (guarded s).eff := by
  unfold limitWrite; simp

@[simp ↓] theorem crcObj_guarded (n : Nat) (sub : Nat) (v : Nat) (s : State) :
    guarded (crcObj n sub v s).2 = guarded s := by
  unfold crcObj; (repeat' split) <;> simp

@[simp ↓] theorem pageWrite_guarded (page : Nat) (d : List Byte) (s : State) :
    guarded (pageWrite page d s) = guarded s := by
  unfold pageWrite; simp

@[simp ↓] theorem openClr_guarded (d : List Byte) (s : State) :
    guarded (openClr d s) = guarded s := by
  unfold openClr; simp

@[simp ↓] theorem nowLow_guarded (p : Path) (i : Nat) (sub : Nat) (d : List Byte) (s : State) :
    guarded (nowLow p i sub d s).2 = guarded s := by
  unfold nowLow; (repeat' split) <;> simp

@[simp ↓] theorem nowHigh_queue (p : Path) (i : Nat) (sub : Nat) (d : List Byte) (s : State) :
    (guarded (nowHigh p i sub d s).2).queue = (guarded s).queue := by
  unfold nowHigh; (repeat' split) <;> simp

@[simp ↓] theorem nowOp_queue (p : Path) (i : Nat) (sub : Nat) (d : List Byte) (s : State) :
    (guarded (nowOp p i sub d s).2).queue = (guarded s).queue := by
  unfold nowOp; simp

@[simp ↓] theorem orderly_queue (o : Obj) (p : Path) (i sub : Nat) (d : List Byte) (r : Nat × State) (s : State)
    (h : (guarded r.2).queue = (guarded s).queue) : (guarded (orderly o p i sub d r s).2).queue = (guarded s).queue := by
  unfold orderly; (repeat' split) <;> simp [h]

@[simp ↓] theorem nowWrite_queue (o : Obj) (p : Path) (i : Nat) (sub : Nat) (d : List Byte) (s : State) :
    (guarded (nowWrite o p i sub d s).2).queue = (guarded s).queue := by
  unfold nowWrite; simp

@[simp ↓] theorem respond_guarded (p : Path) (op : Nat) (r : DictReq) (rsp : DictRsp) (s : State) :
    guarded (respond p op r rsp s) = guarded s := by
  unfold respond; simp

@[simp ↓] theorem say_guarded (p : Path) (op : Nat) (r : DictReq) (abort : Nat) (val : Nat) (s : State) :
    guarded (say p op r abort val s) = guarded s := by
  unfold say; simp

@[simp ↓] theorem xferDrop_guarded (p : Path) (tid : Nat) (s : State) :
    guarded (xferDrop p tid s) = guarded s := by
  unfold xferDrop; simp

@[simp ↓] theorem xferPrune_guarded (s : State) :
    guarded (xferPrune s) = guarded s := by
  unfold xferPrune; simp

@[simp ↓] theorem xferOpen_guarded (x : Xfer) (s : State) :
    guarded (xferOpen x s) = guarded s := by
  unfold xferOpen; simp

@[simp ↓] theorem dictRead_guarded (p : Path) (r : DictReq) (s : State) : guarded (dictRead p r s) = guarded s := by
  unfold dictRead; dsimp only; (repeat' split) <;> simp

@[simp ↓] theorem dictReadSeg_guarded (p : Path) (r : DictReq) (s : State) :
    guarded (dictReadSeg p r s) = guarded s := by
  unfold dictReadSeg; dsimp only; (repeat' split) <;> simp

@[simp ↓] theorem writeWhole_queue (o : Obj) (p : Path) (op : Nat) (r : DictReq) (d : List Byte) (s : State) :
    (guarded (writeWhole o p op r d s)).queue = (guarded s).queue := by
  unfold writeWhole; simp

@[simp ↓] theorem dictWrite_queue (p : Path) (r : DictReq) (s : State) :
    (guarded (dictWrite p r s)).queue = (guarded s).queue := by
  unfold dictWrite; dsimp only; (repeat' split) <;> simp

@[simp ↓] theorem dictWriteSeg_queue (p : Path) (r : DictReq) (s : State) :
    (guarded (dictWriteSeg p r s)).queue = (guarded s).queue := by
  unfold dictWriteSeg; dsimp only; (repeat' split) <;> simp

@[simp ↓] theorem dictCancel_guarded (p : Path) (r : DictReq) (s : State) :
    guarded (dictCancel p r s) = guarded s := by
  unfold dictCancel; dsimp only; (repeat' split) <;> simp

@[simp ↓] theorem dictRequest_queue (op : Nat) (p : Path) (r : DictReq) (s : State) :
    (guarded (dictRequest op p r s)).queue = (guarded s).queue := by
  unfold dictRequest; (repeat' split) <;> simp

@[simp ↓] theorem xferExpire_guarded (p : Path) (tid : Nat) (s : State) :
    guarded (xferExpire p tid s) = guarded s := by
  unfold xferExpire; simp

@[simp ↓] theorem ackWrite_guarded (e : Path × DictReq) (s : State) :
    guarded (ackWrite e s) = guarded s := by
  unfold ackWrite; simp

@[simp ↓] theorem mramStage_guarded (s : State) :
    guarded (mramStage s) = guarded s := by
  unfold mramStage; simp

@[simp ↓] theorem takeReq_queue (f : ZlFrame) (s : State) :
    (guarded (takeReq f s)).queue = (guarded s).queue := by
  unfold takeReq; simp

@[simp ↓] theorem takeCommit_guarded (f : ZlFrame) (s : State) :
    guarded (takeCommit f s) = guarded s := by
  unfold takeCommit; simp

@[simp ↓] theorem takeFrame_queue (p : Nat) (f : ZlFrame) (s : State) :
    (guarded (takeFrame p f s)).queue = (guarded s).queue := by
  unfold takeFrame; (repeat' split) <;> simp

@[simp ↓] theorem frameRun_queue (p : Nat) (f : ZlFrame) (s : State) :
    (guarded (frameRun p f s)).queue = (guarded s).queue := by
  unfold frameRun; simp

end Sys2Proof.Machine
end

