-- ==== Sys2Proof/Laws/HostPort.lean ====
section
/-! SUPPORT. Laws/HostPort.lean: what the operations of HostPort.lean leave of the guarded part. -/

namespace Sys2Proof.Machine

@[simp ↓] theorem hostRead_guarded (a : Nat) (s : State) :
    guarded (hostRead a s).2 = guarded s := by
  unfold hostRead; (repeat' split) <;> simp

@[simp ↓] theorem stageFields_guarded (fs : List (RegFld × Nat)) (w : Nat) (s : State) :
    guarded (stageFields fs w s) = guarded s := by
  unfold stageFields; simp

@[simp ↓] theorem stageWord_guarded (key : Nat) (i : Nat) (w : Nat) (s : State) :
    guarded (stageWord key i w s) = guarded s := by
  unfold stageWord; simp

@[simp ↓] theorem noteRange_guarded (a : Nat) (bad : Bool) (s : State) :
    guarded (noteRange a bad s) = guarded s := by
  unfold noteRange; (repeat' split) <;> simp

@[simp ↓] theorem stageRegister_guarded (a : Nat) (w : Nat) (s : State) :
    guarded (stageRegister a w s).2 = guarded s := by
  unfold stageRegister; (repeat' split) <;> simp

@[simp ↓] theorem mbxGo_queue (w : Nat) (s : State) :
    (guarded (mbxGo w s).2).queue = (guarded s).queue := by
  unfold mbxGo; simp

@[simp ↓] theorem mbxPost_guarded (s : State) :
    guarded (mbxPost s) = guarded s := by
  unfold mbxPost; (repeat' split) <;> simp

@[simp ↓] theorem hpCntClear_guarded (s : State) :
    guarded (hpCntClear s) = guarded s := by
  unfold hpCntClear; simp

@[simp ↓] theorem writeEd_guarded (a : Nat) (w : Nat) (s : State) :
    guarded (writeEd a w s) = guarded s := by
  unfold writeEd; dsimp only; (repeat' split) <;> simp

@[simp ↓] theorem crcCmd_guarded (n : Nat) (w : Nat) (s : State) :
    guarded (crcCmd n w s).2 = guarded s := by
  unfold crcCmd; simp

@[simp ↓] theorem writeCrc_guarded (a w : Nat) (s : State) : guarded (writeCrc a w s).2 = guarded s := by
  unfold writeCrc
  extract_lets o n x
  clear_value n x
  split
  · rfl
  · generalize o % 0x40 = k
    split <;> simp

@[simp ↓] theorem writeHost_queue (a : Nat) (w : Nat) (s : State) :
    (guarded (writeHost a w s).2).queue = (guarded s).queue := by
  unfold writeHost; (repeat' split) <;> simp

@[simp ↓] theorem rqClr_guarded (q : Nat) (c0 : Nat) (n : Nat) (w : Nat) (s : State) :
    guarded (rqClr q c0 n w s) = guarded s := by
  unfold rqClr; simp

@[simp ↓] theorem writeReceivers_guarded (a : Nat) (w : Nat) (s : State) :
    guarded (writeReceivers a w s) = guarded s := by
  unfold writeReceivers; (repeat' split) <;> simp

@[simp ↓] theorem writeMatrix_guarded (a : Nat) (w : Nat) (s : State) :
    guarded (writeMatrix a w s) = guarded s := by
  unfold writeMatrix; (repeat' split) <;> simp

@[simp ↓] theorem writeOther_guarded (a : Nat) (w : Nat) (s : State) :
    guarded (writeOther a w s) = guarded s := by
  unfold writeOther; (repeat' split) <;> simp

@[simp ↓] theorem hostWrite_queue (a : Nat) (w : Nat) (s : State) :
    (guarded (hostWrite a w s).2).queue = (guarded s).queue := by
  unfold hostWrite; (repeat' split) <;> simp

@[simp ↓] theorem hpBegin_guarded (h : SpiHead) (b : Bool) (s : State) :
    guarded (hpBegin h b s) = guarded s := by
  unfold hpBegin; simp

@[simp ↓] theorem hpEnd_guarded (code : Nat) (s : State) :
    guarded (hpEnd code s) = guarded s := by
  unfold hpEnd; simp

@[simp ↓] theorem readWords_guarded (inc : Bool) (n a : Nat) (s : State) : guarded (readWords inc n a s).2.2 = guarded s := by
  induction n generalizing a s with
  | zero => rfl
  | succ k ih => simp [readWords, ih]

@[simp ↓] theorem shiftOut_guarded (h : SpiHead) (ws : List Nat) (s : State) : guarded (shiftOut h ws s) = guarded s := by
  unfold shiftOut; simp

@[simp ↓] theorem shiftOnes_guarded (h : SpiHead) (n : Nat) (s : State) : guarded (shiftOnes h n s) = guarded s := by
  unfold shiftOnes; simp

@[simp ↓] theorem hpReadRun_guarded (r : SpiRead) (s : State) : guarded (hpReadRun r s).2 = guarded s := by
  unfold hpReadRun; split <;> simp

@[simp ↓] theorem hpRead_guarded (r : SpiRead) (s : State) :
    guarded (hpRead r s) = guarded s := by
  unfold hpRead; simp

@[simp ↓] theorem writeWords_queue (inc crc : Bool) (ws : List (Word × Byte)) (a : Nat) (s : State) :
    (guarded (writeWords inc crc ws a s).2).queue = (guarded s).queue := by
  induction ws generalizing a s with
  | nil => rfl
  | cons e ws ih => unfold writeWords; split <;> simp [ih]

@[simp ↓] theorem hpWrite_queue (w : SpiWrite) (s : State) : (guarded (hpWrite w s)).queue = (guarded s).queue := by
  unfold hpWrite; simp

@[simp ↓] theorem hpStatusCmd_guarded (h : SpiHead) (b : Byte) (inHeader : Bool) (s : State) :
    guarded (hpStatusCmd h b inHeader s) = guarded s := by
  unfold hpStatusCmd; simp

@[simp ↓] theorem hpBadcmd_guarded (h : SpiHead) (b : Byte) (s : State) :
    guarded (hpBadcmd h b s) = guarded s := by
  unfold hpBadcmd; simp

end Sys2Proof.Machine
end

