-- ==== Sys2Proof/Laws/Opening.lean ====
section
/-! SUPPORT. Laws/Opening.lean: what opening a switch, opening all of a channel and latching a fault do to the switches (R305, R311), and
the relation "no switch closes and soundness is kept". -/

namespace Sys2Proof.Machine

/-- `Safe`, of the guarded part. -/
def Guarded.Sound (g : Guarded) : Prop :=
  (g.switches.rwaitA = ~~~g.switches.swA ∧ (g.switches.latchA ≠ 0 → g.switches.swA = 0)) ∧
  (g.switches.rwaitB = ~~~g.switches.swB ∧ (g.switches.latchB ≠ 0 → g.switches.swB = 0)) ∧
  (g.oper = false → g.switches.swA = 0 ∧ g.switches.swB = 0) ∧ g.log.length ≤ 512

theorem safe_iff (s : State) : Safe s ↔ (guarded s).Sound := Iff.rfl

/-- No switch closes, and soundness is kept. -/
structure Guarded.Opens (t s : Guarded) : Prop where
  a : t.switches.swA &&& ~~~s.switches.swA = 0
  b : t.switches.swB &&& ~~~s.switches.swB = 0
  sound : s.Sound → t.Sound

theorem bv4_sub_trans (x y z : BitVec 4) (h : x &&& ~~~y = 0) (h' : y &&& ~~~z = 0) : x &&& ~~~z = 0 := by
  revert x y z; decide +revert

theorem bv4_and_ones (x : BitVec 4) : x &&& 15#4 = x := by revert x; decide

theorem Guarded.Opens.refl (s : Guarded) : s.Opens s := ⟨by simp, by simp, id⟩

theorem Guarded.Opens.trans {t u s : Guarded} (h : t.Opens u) (h' : u.Opens s) : t.Opens s :=
  ⟨bv4_sub_trans _ _ _ h.a h'.a, bv4_sub_trans _ _ _ h.b h'.b, fun x => h.sound (h'.sound x)⟩

theorem Guarded.Opens.of_same {t s : Guarded} (hs : t.switches = s.switches) (ho : t.oper = s.oper) (hl : t.log.length ≤ s.log.length ∨ t.log.length ≤ 512) :
    t.Opens s := by
  refine ⟨by simp [hs], by simp [hs], ?_⟩
  intro h
  unfold Sound at *
  rw [hs, ho]
  refine ⟨h.1, h.2.1, h.2.2.1, ?_⟩
  rcases hl with hl | hl
  · exact Nat.le_trans hl h.2.2.2
  · exact hl

theorem foldl_opens {α : Type} (f : State → α → State) (l : List α) (s : State)
    (h : ∀ s x, (guarded (f s x)).Opens (guarded s)) : (guarded (l.foldl f s)).Opens (guarded s) := by
  induction l generalizing s with
  | nil => exact Guarded.Opens.refl _
  | cons x l ih => exact (ih (f s x)).trans (h s x)

/-- What a write of one channel must respect. -/
theorem setC_opens (c : Chan) (f : Saf) (s : State) (hs : f.sw &&& ~~~(getC s c).sw = 0)
    (hk : chanOk (getC s c) → chanOk f) : (guarded (setC c f s)).Opens (guarded s) := by
  cases c <;> refine ⟨?_, ?_, fun h => ?_⟩ <;> simp_all [setC, getC, guarded, Guarded.Sound, chanOk] <;> intro ho <;>
    have := h.2.2.1 ho <;> simp_all [bv4_and_ones]

/-- The switches with pair `p` of channel `c` opened. -/
def Switches.opened (c : Chan) (p : Nat) (w : Switches) : Switches :=
  match c with
  | .a => { w with swA := bset w.swA p false, rwaitA := bset w.rwaitA p true }
  | .b => { w with swB := bset w.swB p false, rwaitB := bset w.rwaitB p true }

/-- The switch bits of channel `c`. -/
def Switches.swOf (c : Chan) (w : Switches) : BitVec 4 := match c with | .a => w.swA | .b => w.swB

theorem leaveOpen_switches (d : Chan) (p at_ : Nat) (s : State) :
    (guarded (updC d (leaveOpen p at_) s)).switches = (guarded s).switches.opened d p := by cases d <;> rfl

theorem opened_idem (c : Chan) (p : Nat) (w : Switches) : (w.opened c p).opened c p = w.opened c p := by
  have h : ∀ (v : BitVec 4) (b : Bool), bset (bset v p b) p b = bset v p b := by
    intro v b; unfold bset; cases b <;> simp [BitVec.and_assoc, BitVec.or_assoc]
  cases c <;> simp only [Switches.opened, h]

/-- R311, R315: opening a switch opens that switch and at most the switch of channel `d` that a test pulse holds open; each pair waits for
a restart. -/
theorem openSwitch_switches (c : Chan) (p : Nat) (s : State) :
    ∃ d, (guarded (openSwitch c p s)).switches = ((guarded s).switches.opened c p).opened d p := by
  unfold openSwitch
  extract_lets was u x v drop w
  have hu : (guarded u).switches = (guarded s).switches.opened c p := leaveOpen_switches c p _ s
  have hv : ∃ d, (guarded v).switches = ((guarded s).switches.opened c p).opened d p := by
    simp only [v]
    split
    · next d _ => exact ⟨d, by rw [leaveOpen_switches, hu]⟩
    · exact ⟨c, by rw [hu, opened_idem]⟩
  have hw : guarded w = guarded v := by simp only [w, tpSet_guarded]
  split
  · obtain ⟨d, hd⟩ := hv
    refine ⟨d, ?_⟩
    split
    · exact (congrArg Guarded.switches hw).trans hd
    · exact (congrArg Guarded.switches hw).trans hd
  · exact ⟨c, by rw [hu, opened_idem]⟩

/-- What opening keeps, `openSwitch` keeps. -/
theorem openSwitch_keeps (P : Switches → Prop) (hP : ∀ c p w, P w → P (w.opened c p)) (c : Chan) (p : Nat) (s : State)
    (h : P (guarded s).switches) : P (guarded (openSwitch c p s)).switches := by
  obtain ⟨d, hd⟩ := openSwitch_switches c p s
  rw [hd]; exact hP _ _ _ (hP _ _ _ h)

theorem openAll_eq (c : Chan) (s : State) : openAll c s = openSwitch c 3 (openSwitch c 2 (openSwitch c 1 (openSwitch c 0 s))) := rfl

/-- What opening keeps, `openAll` keeps. -/
theorem openAll_keeps (P : Switches → Prop) (hP : ∀ c p w, P w → P (w.opened c p)) (c : Chan) (s : State)
    (h : P (guarded s).switches) : P (guarded (openAll c s)).switches := by
  rw [openAll_eq]
  exact openSwitch_keeps P hP _ _ _ (openSwitch_keeps P hP _ _ _ (openSwitch_keeps P hP _ _ _ (openSwitch_keeps P hP _ _ _ h)))

theorem bget_bset_false (v : BitVec 4) (p q : Nat) (h : bget v q = false) : bget (bset v p false) q = false := by
  unfold bget at h
  simp [bset, bget, h]

theorem bget_bset_self (v : BitVec 4) (p : Nat) : bget (bset v p false) p = false := by
  by_cases h : p < 4
  · interval_cases p <;> revert v <;> decide
  · exact BitVec.getLsbD_of_ge _ _ (Nat.le_of_not_lt h)

/-- A switch that has opened stays open while others open. -/
theorem bit_keeps (c : Chan) (q : Nat) : ∀ d p (w : Switches), bget (w.swOf c) q = false → bget ((w.opened d p).swOf c) q = false := by
  intro d p w h
  cases c <;> cases d <;> simp only [Switches.opened, Switches.swOf] at * <;> first | exact h | exact bget_bset_false _ _ _ h

theorem openSwitch_open (c : Chan) (p : Nat) (s : State) : bget ((guarded (openSwitch c p s)).switches.swOf c) p = false := by
  obtain ⟨d, hd⟩ := openSwitch_switches c p s
  rw [hd]
  refine bit_keeps c p d p _ ?_
  cases c <;> exact bget_bset_self _ _

theorem bits_zero (v : BitVec 4) (h0 : bget v 0 = false) (h1 : bget v 1 = false) (h2 : bget v 2 = false) (h3 : bget v 3 = false) :
    v = 0 := by revert v; decide

/-- R305: every switch of the channel is open. -/
theorem openAll_open (c : Chan) (s : State) : (guarded (openAll c s)).switches.swOf c = 0 := by
  rw [openAll_eq]
  have k := fun q s p => openSwitch_keeps (fun w => bget (w.swOf c) q = false) (fun d p w h => bit_keeps c q d p w h) c p s
  refine bits_zero _ ?_ ?_ ?_ (openSwitch_open c 3 _)
  · exact k _ _ _ (k _ _ _ (k _ _ _ (openSwitch_open c 0 _)))
  · exact k _ _ _ (k _ _ _ (openSwitch_open c 1 _))
  · exact k _ _ _ (openSwitch_open c 2 _)

theorem bset_false_sub (v : BitVec 4) (p : Nat) : bset v p false &&& ~~~v = 0 := by
  ext i; simp [bset]; intros; simp_all
theorem bset_sub (v u : BitVec 4) (p : Nat) (h : v &&& ~~~u = 0) : bset v p false &&& ~~~u = 0 :=
  bv4_sub_trans _ _ _ (bset_false_sub v p) h
theorem bset_not (v : BitVec 4) (p : Nat) : bset (~~~v) p true = ~~~(bset v p false) := by
  ext i; simp [bset]
theorem bset_zero (p : Nat) : bset (0 : BitVec 4) p false = 0 := by simp [bset]

/-- Opening closes no switch. -/
theorem opened_sub (w0 : Switches) : ∀ c p (w : Switches), (w.swA &&& ~~~w0.swA = 0 ∧ w.swB &&& ~~~w0.swB = 0) →
    ((w.opened c p).swA &&& ~~~w0.swA = 0 ∧ (w.opened c p).swB &&& ~~~w0.swB = 0) := by
  intro c p w h
  cases c
  · exact ⟨bset_sub _ _ _ h.1, h.2⟩
  · exact ⟨h.1, bset_sub _ _ _ h.2⟩

/-- The part of soundness that opening alone keeps: each pair waits for a restart exactly where its switch is open, and the switches named
as open stay open. -/
structure Switches.Waits (w0 w : Switches) : Prop where
  a : w.rwaitA = ~~~w.swA
  b : w.rwaitB = ~~~w.swB
  la : w.latchA = w0.latchA
  lb : w.latchB = w0.latchB

theorem opened_waits (w0 : Switches) (c : Chan) (p : Nat) (w : Switches) (h : w0.Waits w) : w0.Waits (w.opened c p) := by
  obtain ⟨h1, h2, h3, h4⟩ := h
  cases c
  · exact ⟨by simp only [Switches.opened, h1]; exact bset_not _ _, h2, h3, h4⟩
  · exact ⟨h1, by simp only [Switches.opened, h2]; exact bset_not _ _, h3, h4⟩

theorem opened_zeroA (c : Chan) (p : Nat) (w : Switches) (h : w.swA = 0) : (w.opened c p).swA = 0 := by
  cases c
  · simp only [Switches.opened, h]; exact bset_zero p
  · exact h

theorem opened_zeroB (c : Chan) (p : Nat) (w : Switches) (h : w.swB = 0) : (w.opened c p).swB = 0 := by
  cases c
  · exact h
  · simp only [Switches.opened, h]; exact bset_zero p

theorem openSwitch_opens (c : Chan) (p : Nat) (s : State) : (guarded (openSwitch c p s)).Opens (guarded s) := by
  have hs := openSwitch_keeps _ (opened_sub (guarded s).switches) c p s ⟨by simp, by simp⟩
  refine ⟨hs.1, hs.2, fun h => ?_⟩
  obtain ⟨⟨h1, h2⟩, ⟨h3, h4⟩, h5, h6⟩ := h
  have hw := openSwitch_keeps _ (opened_waits (guarded s).switches) c p s ⟨h1, h3, rfl, rfl⟩
  have za := openSwitch_keeps _ opened_zeroA c p s
  have zb := openSwitch_keeps _ opened_zeroB c p s
  unfold Guarded.Sound
  rw [openSwitch_oper, openSwitch_log]
  exact ⟨⟨hw.a, fun hn => za (h2 (by rwa [hw.la] at hn))⟩, ⟨hw.b, fun hn => zb (h4 (by rwa [hw.lb] at hn))⟩,
    fun ho => ⟨za (h5 ho).1, zb (h5 ho).2⟩, h6⟩

theorem openAll_opens (c : Chan) (s : State) : (guarded (openAll c s)).Opens (guarded s) :=
  foldl_opens _ _ _ (fun _ _ => openSwitch_opens ..)

theorem openBoth_opens (s : State) : (guarded (openBoth s)).Opens (guarded s) := by
  unfold openBoth
  rw [bothC_eq]
  exact (openAll_opens .b _).trans (openAll_opens .a s)

/-- STANDBY, SAVE, boundary scan and erase leave every switch open. -/
theorem openBoth_open (s : State) : AllOpen (openBoth s) := by
  unfold openBoth
  rw [bothC_eq]
  exact ⟨openAll_keeps _ opened_zeroA .b _ (openAll_open .a s), openAll_open .b _⟩

/-- R305: a latched fault opens every switch of its channel. -/
theorem latchFault_open (c : Chan) (b : Nat) (s : State) : (guarded (latchFault c b s)).switches.swOf c = 0 := openAll_open c _

theorem latchFault_opens (c : Chan) (b : Nat) (s : State) : (guarded (latchFault c b s)).Opens (guarded s) := by
  have h0 : ∀ w : Switches, (w = (guarded (updC c (fun f => { f with latch := bset f.latch b true }) s)).switches) →
      w.swA = (guarded s).switches.swA ∧ w.swB = (guarded s).switches.swB ∧
      w.rwaitA = (guarded s).switches.rwaitA ∧ w.rwaitB = (guarded s).switches.rwaitB ∧
      (c = .a → w.latchB = (guarded s).switches.latchB) ∧ (c = .b → w.latchA = (guarded s).switches.latchA) := by
    rintro w rfl; cases c <;> simp [updC, setC, getC, guarded]
  obtain ⟨e1, e2, e3, e4, e5, e6⟩ := h0 _ rfl
  have hs := openAll_keeps _ (opened_sub (guarded s).switches) c (updC c (fun f => { f with latch := bset f.latch b true }) s)
    ⟨by rw [e1]; simp, by rw [e2]; simp⟩
  refine ⟨hs.1, hs.2, fun h => ?_⟩
  obtain ⟨⟨h1, h2⟩, ⟨h3, h4⟩, h5, h6⟩ := h
  have hw := openAll_keeps _ (opened_waits _) c (updC c (fun f => { f with latch := bset f.latch b true }) s)
    ⟨by rw [e3, e1, h1], by rw [e4, e2, h3], rfl, rfl⟩
  have za := openAll_keeps _ opened_zeroA c (updC c (fun f => { f with latch := bset f.latch b true }) s)
  have zb := openAll_keeps _ opened_zeroB c (updC c (fun f => { f with latch := bset f.latch b true }) s)
  rw [e1] at za
  rw [e2] at zb
  have ho := latchFault_open c b s
  unfold Guarded.Sound
  rw [latchFault_oper, latchFault_log]
  unfold latchFault at ho ⊢
  cases c
  · exact ⟨⟨hw.a, fun _ => ho⟩, ⟨hw.b, fun hn => zb (h4 (by rwa [hw.lb, e5 rfl] at hn))⟩, fun hop => ⟨ho, zb (h5 hop).2⟩, h6⟩
  · exact ⟨⟨hw.a, fun hn => za (h2 (by rwa [hw.la, e6 rfl] at hn))⟩, ⟨hw.b, fun _ => ho⟩, fun hop => ⟨za (h5 hop).1, ho⟩, h6⟩

end Sys2Proof.Machine
end

