-- ==== Sys2Proof/Laws/Sound.lean ====
section
/-! SUPPORT. Laws/Sound.lean: every operation that touches the switches, but the reset edge, only opens them and keeps a state sound; the
reset edge keeps a state sound (R305, R311, R322). -/

namespace Sys2Proof.Machine

theorem bv4_ones : (15 : BitVec 4) = ~~~0 := by decide

theorem evalDemands_opens (c : Chan) (s : State) : (guarded (evalDemands c s)).Opens (guarded s) := by
  unfold evalDemands; (repeat' first
    | with_reducible exact Guarded.Opens.refl _
    | with_reducible refine Guarded.Opens.trans (openSwitch_opens ..) ?_
    | with_reducible refine Guarded.Opens.trans (foldl_opens _ _ _ (fun _ _ => ?_)) ?_
    | split
    | simp)

theorem latchDisc_opens (c : Chan) (i : Nat) (s : State) : (guarded (latchDisc c i s)).Opens (guarded s) := by
  unfold latchDisc; (repeat' first
    | with_reducible exact Guarded.Opens.refl _
    | with_reducible refine Guarded.Opens.trans (latchFault_opens ..) ?_
    | with_reducible refine Guarded.Opens.trans (foldl_opens _ _ _ (fun _ _ => ?_)) ?_
    | split
    | simp)

theorem evalPairs_opens (c : Chan) (s : State) : (guarded (evalPairs c s)).Opens (guarded s) := by
  unfold evalPairs; (repeat' first
    | with_reducible exact Guarded.Opens.refl _
    | with_reducible refine Guarded.Opens.trans (evalDemands_opens ..) ?_
    | with_reducible refine Guarded.Opens.trans (latchDisc_opens ..) ?_
    | with_reducible refine Guarded.Opens.trans (foldl_opens _ _ _ (fun _ _ => ?_)) ?_
    | split
    | simp)

theorem discTimeout_opens (c : Chan) (n : Nat) (s : State) : (guarded (discTimeout c n s)).Opens (guarded s) := by
  unfold discTimeout; (repeat' first
    | with_reducible exact Guarded.Opens.refl _
    | with_reducible refine Guarded.Opens.trans (latchDisc_opens ..) ?_
    | with_reducible refine Guarded.Opens.trans (foldl_opens _ _ _ (fun _ _ => ?_)) ?_
    | split
    | simp)

theorem latchDrive_opens (c : Chan) (d : Nat) (s : State) : (guarded (latchDrive c d s)).Opens (guarded s) := by
  unfold latchDrive; (repeat' first
    | with_reducible exact Guarded.Opens.refl _
    | with_reducible refine Guarded.Opens.trans (latchFault_opens ..) ?_
    | with_reducible refine Guarded.Opens.trans (foldl_opens _ _ _ (fun _ _ => ?_)) ?_
    | split
    | simp)

theorem encStep_opens (c : Chan) (d : Nat) (e : Nat) (ab : BitVec 2) (s : State) : (guarded (encStep c d e ab s)).Opens (guarded s) := by
  unfold encStep; (repeat' first
    | with_reducible exact Guarded.Opens.refl _
    | with_reducible refine Guarded.Opens.trans (latchDrive_opens ..) ?_
    | with_reducible refine Guarded.Opens.trans (foldl_opens _ _ _ (fun _ _ => ?_)) ?_
    | split
    | simp)

theorem enterSto_opens (c : Chan) (d : Nat) (s : State) : (guarded (enterSto c d s)).Opens (guarded s) := by
  unfold enterSto; (repeat' first
    | with_reducible exact Guarded.Opens.refl _
    | with_reducible refine Guarded.Opens.trans (openSwitch_opens ..) ?_
    | with_reducible refine Guarded.Opens.trans (foldl_opens _ _ _ (fun _ _ => ?_)) ?_
    | split
    | simp)

theorem monitorStep_opens (c : Chan) (d : Nat) (s : State) : (guarded (monitorStep c d s)).Opens (guarded s) := by
  unfold monitorStep; (repeat' first
    | with_reducible exact Guarded.Opens.refl _
    | with_reducible refine Guarded.Opens.trans (latchDrive_opens ..) ?_
    | with_reducible refine Guarded.Opens.trans (enterSto_opens ..) ?_
    | with_reducible refine Guarded.Opens.trans (foldl_opens _ _ _ (fun _ _ => ?_)) ?_
    | split
    | simp)

theorem speedStep_opens (c : Chan) (d : Nat) (s : State) : (guarded (speedStep c d s)).Opens (guarded s) := by
  unfold speedStep; (repeat' first
    | with_reducible exact Guarded.Opens.refl _
    | with_reducible refine Guarded.Opens.trans (latchDrive_opens ..) ?_
    | with_reducible refine Guarded.Opens.trans (enterSto_opens ..) ?_
    | with_reducible refine Guarded.Opens.trans (monitorStep_opens ..) ?_
    | with_reducible refine Guarded.Opens.trans (foldl_opens _ _ _ (fun _ _ => ?_)) ?_
    | split
    | simp)

theorem driveCompute_opens (c : Chan) (s : State) : (guarded (driveCompute c s)).Opens (guarded s) := by
  unfold driveCompute; (repeat' first
    | with_reducible exact Guarded.Opens.refl _
    | with_reducible refine Guarded.Opens.trans (evalDemands_opens ..) ?_
    | with_reducible refine Guarded.Opens.trans (speedStep_opens ..) ?_
    | with_reducible refine Guarded.Opens.trans (foldl_opens _ _ _ (fun _ _ => ?_)) ?_)

theorem takeCross_opens (c : Chan) (w : Cross) (s : State) : (guarded (takeCross c w s)).Opens (guarded s) := by
  unfold takeCross; (repeat' first
    | with_reducible exact Guarded.Opens.refl _
    | with_reducible refine Guarded.Opens.trans (latchFault_opens ..) ?_
    | with_reducible refine Guarded.Opens.trans (latchDisc_opens ..) ?_
    | with_reducible refine Guarded.Opens.trans (foldl_opens _ _ _ (fun _ _ => ?_)) ?_
    | split
    | simp)

theorem receiveCross_opens (c : Chan) (valid : Bool) (s : State) : (guarded (receiveCross c valid s)).Opens (guarded s) := by
  unfold receiveCross; (repeat' first
    | with_reducible exact Guarded.Opens.refl _
    | with_reducible refine Guarded.Opens.trans (takeCross_opens ..) ?_
    | with_reducible refine Guarded.Opens.trans (foldl_opens _ _ _ (fun _ _ => ?_)) ?_
    | split
    | simp)

theorem readback_opens (c : Chan) (p : Nat) (on : Bool) (s : State) : (guarded (readback c p on s)).Opens (guarded s) := by
  unfold readback; (repeat' first
    | with_reducible exact Guarded.Opens.refl _
    | with_reducible refine Guarded.Opens.trans (latchFault_opens ..) ?_
    | with_reducible refine Guarded.Opens.trans (foldl_opens _ _ _ (fun _ _ => ?_)) ?_
    | split
    | simp)

theorem endPulse_opens (p : Nat) (onA : Bool) (onB : Bool) (s : State) : (guarded (endPulse p onA onB s)).Opens (guarded s) := by
  unfold endPulse; (repeat' first
    | with_reducible exact Guarded.Opens.refl _
    | with_reducible refine Guarded.Opens.trans (latchFault_opens ..) ?_
    | with_reducible refine Guarded.Opens.trans (foldl_opens _ _ _ (fun _ _ => ?_)) ?_
    | split
    | simp)

theorem foldl_bset_false (bs : List Nat) (v : BitVec 16) (h : v = 0) : bs.foldl (fun l b => bset l b false) v = 0 := by
  induction bs generalizing v with
  | nil => exact h
  | cons b bs ih => exact ih _ (by subst h; simp [bset])

theorem clearLatches_opens (c : Chan) (s : State) : (guarded (clearLatches c s)).Opens (guarded s) := by
  unfold clearLatches
  simp only [updC_eq]
  refine setC_opens _ _ _ ?_ ?_
  · simp
  · rintro ⟨h1, h2⟩
    refine ⟨?_, fun hn => ?_⟩
    · simpa using h1
    · simp at hn ⊢
      exact h2 fun h0 => hn (foldl_bset_false _ _ h0)

theorem jamNow_opens (c : Chan) (s : State) : (guarded (jamNow c s)).Opens (guarded s) := by
  unfold jamNow; (repeat' first
    | with_reducible exact Guarded.Opens.refl _
    | with_reducible refine Guarded.Opens.trans (latchFault_opens ..) ?_
    | with_reducible refine Guarded.Opens.trans (foldl_opens _ _ _ (fun _ _ => ?_)) ?_
    | split
    | simp)

theorem resetJam_opens (c : Chan) (s : State) : (guarded (resetJam c s)).Opens (guarded s) := by
  unfold resetJam; (repeat' first
    | with_reducible exact Guarded.Opens.refl _
    | with_reducible refine Guarded.Opens.trans (jamNow_opens ..) ?_
    | with_reducible refine Guarded.Opens.trans (foldl_opens _ _ _ (fun _ _ => ?_)) ?_
    | split
    | simp)

theorem pairEvaluate_opens (c : Chan) (s : State) : (guarded (pairEvaluate c s)).Opens (guarded s) := by
  unfold pairEvaluate; (repeat' first
    | with_reducible exact Guarded.Opens.refl _
    | with_reducible refine Guarded.Opens.trans (evalPairs_opens ..) ?_
    | with_reducible refine Guarded.Opens.trans (foldl_opens _ _ _ (fun _ _ => ?_)) ?_
    | split
    | simp)

theorem govLockNow_opens (s : State) : (guarded (govLockNow s)).Opens (guarded s) := by
  exact Guarded.Opens.of_same (by simp) (by simp) (Or.inl (by simp))

theorem govUse_opens (b : GovBlock) (s : State) : (guarded (govUse b s)).Opens (guarded s) := by
  exact Guarded.Opens.of_same (by simp) (by simp) (Or.inl (by simp))

theorem govLoad_opens (aOk : Bool) (bOk : Bool) (s : State) : (guarded (govLoad aOk bOk s)).Opens (guarded s) := by
  exact Guarded.Opens.of_same (by simp) (by simp) (Or.inl (by simp))

theorem govErase_opens (s : State) : (guarded (govErase s)).Opens (guarded s) := by
  exact Guarded.Opens.of_same (by simp) (by simp) (Or.inl (by simp))

theorem mailboxReceive_opens (c : Chan) (crcOk : Bool) (s : State) : (guarded (mailboxReceive c crcOk s)).Opens (guarded s) := by
  unfold mailboxReceive; (repeat' first
    | with_reducible exact Guarded.Opens.refl _
    | with_reducible refine Guarded.Opens.trans (evalDemands_opens ..) ?_
    | with_reducible refine Guarded.Opens.trans (foldl_opens _ _ _ (fun _ _ => ?_)) ?_
    | split
    | simp)

theorem frameDiff_opens (c : Chan) (s : State) : (guarded (frameDiff c s)).Opens (guarded s) := by
  unfold frameDiff; (repeat' first
    | with_reducible exact Guarded.Opens.refl _
    | with_reducible refine Guarded.Opens.trans (latchFault_opens ..) ?_
    | with_reducible refine Guarded.Opens.trans (boundary_opens ..) ?_
    | with_reducible refine Guarded.Opens.trans (foldl_opens _ _ _ (fun _ _ => ?_)) ?_
    | split
    | simp)

theorem mailboxDeadline_opens (c : Chan) (s : State) : (guarded (mailboxDeadline c s)).Opens (guarded s) := by
  unfold mailboxDeadline; (repeat' first
    | with_reducible exact Guarded.Opens.refl _
    | with_reducible refine Guarded.Opens.trans (evalDemands_opens ..) ?_
    | with_reducible refine Guarded.Opens.trans (frameDiff_opens ..) ?_
    | with_reducible refine Guarded.Opens.trans (foldl_opens _ _ _ (fun _ _ => ?_)) ?_
    | split
    | simp)

theorem saveStart_opens (s : State) : (guarded (saveStart s)).Opens (guarded s) := by
  unfold saveStart; (repeat' first
    | with_reducible exact Guarded.Opens.refl _
    | with_reducible refine Guarded.Opens.trans (openBoth_opens ..) ?_
    | with_reducible refine Guarded.Opens.trans (foldl_opens _ _ _ (fun _ _ => ?_)) ?_
    | split
    | simp)

theorem emRefresh_opens (m : Meter) (s : State) : (guarded (emRefresh m s)).Opens (guarded s) := by
  unfold emRefresh; (repeat' first
    | with_reducible exact Guarded.Opens.refl _
    | with_reducible refine Guarded.Opens.trans (saveStart_opens ..) ?_
    | with_reducible refine Guarded.Opens.trans (foldl_opens _ _ _ (fun _ _ => ?_)) ?_
    | split
    | simp)

theorem opens_of_reset {t s : Guarded} (hs : t.switches = ⟨0, 15, 0, 0, 15, 0⟩) (hl : t.log = s.log) : t.Opens s := by
  refine ⟨by simp [hs], by simp [hs], fun h => ?_⟩
  unfold Guarded.Sound
  rw [hs, hl]
  exact ⟨⟨bv4_ones, fun _ => rfl⟩, ⟨bv4_ones, fun _ => rfl⟩, fun _ => ⟨rfl, rfl⟩, h.2.2.2⟩

theorem powerOff_opens (s : State) : (guarded (powerOff s)).Opens (guarded s) := opens_of_reset rfl (by simp)

theorem saveComplete_opens (s : State) : (guarded (saveComplete s)).Opens (guarded s) := by
  unfold saveComplete; (repeat' first
    | with_reducible exact Guarded.Opens.refl _
    | with_reducible refine Guarded.Opens.trans (powerOff_opens ..) ?_
    | with_reducible refine Guarded.Opens.trans (foldl_opens _ _ _ (fun _ _ => ?_)) ?_
    | split
    | simp)

theorem vbusLoss_opens (s : State) : (guarded (vbusLoss s)).Opens (guarded s) := by
  unfold vbusLoss; (repeat' first
    | with_reducible exact Guarded.Opens.refl _
    | with_reducible refine Guarded.Opens.trans (powerOff_opens ..) ?_
    | with_reducible refine Guarded.Opens.trans (foldl_opens _ _ _ (fun _ _ => ?_)) ?_
    | split
    | simp)

theorem uvloEngage_opens (s : State) : (guarded (uvloEngage s)).Opens (guarded s) := by
  unfold uvloEngage; (repeat' first
    | with_reducible exact Guarded.Opens.refl _
    | with_reducible refine Guarded.Opens.trans (openBoth_opens ..) ?_
    | with_reducible refine Guarded.Opens.trans (foldl_opens _ _ _ (fun _ _ => ?_)) ?_
    | split
    | simp)

theorem vossdFault_opens (s : State) : (guarded (vossdFault s)).Opens (guarded s) := by
  unfold vossdFault; (repeat' first
    | with_reducible exact Guarded.Opens.refl _
    | with_reducible refine Guarded.Opens.trans (latchFault_opens ..) ?_
    | with_reducible refine Guarded.Opens.trans (foldl_opens _ _ _ (fun _ _ => ?_)) ?_
    | split
    | simp)

theorem writeCmd_opens (p : Path) (i sub n : Nat) (f : State → Nat × State) (s : State)
    (h : ∀ s, (guarded (f s).2).Opens (guarded s)) : (guarded (writeCmd p i sub n f s)).Opens (guarded s) := by
  unfold writeCmd answerWrite
  split
  · rw [answer_guarded]; exact h s
  · exact Guarded.Opens.refl _

theorem logAdd_opens (kind user : Nat) (objs : List Nat) (frame : BitVec 32) (count oldCrc newCrc : Nat) (s : State) :
    (guarded (logAdd kind user objs frame count oldCrc newCrc s)).Opens (guarded s) := by
  refine Guarded.Opens.of_same (by simp) (by simp) ?_
  unfold logAdd
  split
  · exact Or.inl (Nat.le_refl _)
  · right
    rename_i h
    have h : ¬ (logMax ≤ s.sess.log.length) := by simpa [logFull] using h
    have : logMax = 512 := rfl
    simp [guarded]
    omega

theorem passSet_opens (p : Path) (d : List Byte) (s : State) : (guarded (passSet p d s).2).Opens (guarded s) := by
  unfold passSet; (repeat' first
    | with_reducible exact Guarded.Opens.refl _
    | with_reducible refine Guarded.Opens.trans (logAdd_opens ..) ?_
    | with_reducible refine Guarded.Opens.trans (foldl_opens _ _ _ (fun _ _ => ?_)) ?_
    | split
    | simp)

theorem logCleared_opens (t : State) (x : Sess) (h : x.log = []) : (guarded { t with sess := x }).Opens (guarded t) :=
  Guarded.Opens.of_same (by simp) (by simp) (Or.inr (by simp [guarded, h]))

theorem logClear_opens (p : Path) (d : List Byte) (s : State) : (guarded (logClear p d s).2).Opens (guarded s) := by
  unfold logClear
  split
  · exact Guarded.Opens.refl _
  · extract_lets t r u c x v
    have ht : (guarded t).Opens (guarded s) := by simp [t]; exact Guarded.Opens.refl _
    split
    · exact ht
    · split
      · exact ht
      · have hu : (guarded u).Opens (guarded s) := by simp [u, r]; exact ht
        have hv : (guarded v).Opens (guarded s) := (logCleared_opens u _ rfl).trans hu
        clear_value u v
        split
        · exact hu
        · split
          · exact hu
          · split
            · exact hu
            · exact (logAdd_opens ..).trans hv

theorem governorLock_opens (p : Path) (crc : Nat) (s : State) : (guarded (governorLock p crc s).2).Opens (guarded s) := by
  unfold governorLock; (repeat' first
    | with_reducible exact Guarded.Opens.refl _
    | with_reducible refine Guarded.Opens.trans (govLockNow_opens ..) ?_
    | with_reducible refine Guarded.Opens.trans (logAdd_opens ..) ?_
    | with_reducible refine Guarded.Opens.trans (foldl_opens _ _ _ (fun _ _ => ?_)) ?_
    | split
    | simp)

theorem pairsChanged_opens (old : State) (s : State) : (guarded (pairsChanged old s)).Opens (guarded s) := by
  unfold pairsChanged; (repeat' first
    | with_reducible exact Guarded.Opens.refl _
    | with_reducible refine Guarded.Opens.trans (foldl_opens _ _ _ (fun _ _ => ?_)) ?_
    | split
    | simp)

theorem outputsChanged_opens (old : State) (s : State) : (guarded (outputsChanged old s)).Opens (guarded s) := by
  unfold outputsChanged; (repeat' first
    | with_reducible exact Guarded.Opens.refl _
    | with_reducible refine Guarded.Opens.trans (openSwitch_opens ..) ?_
    | with_reducible refine Guarded.Opens.trans (foldl_opens _ _ _ (fun _ _ => ?_)) ?_
    | split
    | simp)

theorem afterSet_opens (newMap : Bool) (old : State) (s : State) : (guarded (afterSet newMap old s)).Opens (guarded s) := by
  unfold afterSet; (repeat' first
    | with_reducible exact Guarded.Opens.refl _
    | with_reducible refine Guarded.Opens.trans (evalDemands_opens ..) ?_
    | with_reducible refine Guarded.Opens.trans (pairsChanged_opens ..) ?_
    | with_reducible refine Guarded.Opens.trans (outputsChanged_opens ..) ?_
    | with_reducible refine Guarded.Opens.trans (boundary_opens ..) ?_
    | with_reducible refine Guarded.Opens.trans (foldl_opens _ _ _ (fun _ _ => ?_)) ?_
    | split
    | simp)

theorem commitVerified_opens (intactA intactB : Bool) (s : State) : (guarded (commitVerified intactA intactB s)).Opens (guarded s) := by
  unfold commitVerified; (repeat' first
    | with_reducible exact Guarded.Opens.refl _
    | with_reducible refine Guarded.Opens.trans (logAdd_opens ..) ?_
    | with_reducible refine Guarded.Opens.trans (foldl_opens _ _ _ (fun _ _ => ?_)) ?_
    | split
    | simp)

theorem applyCommit_opens (p : Pend) (s : State) : (guarded (applyCommit p s)).Opens (guarded s) := by
  unfold applyCommit
  extract_lets c m s'
  refine (afterSet_opens ..).trans ?_
  rw [postCommit_guarded]
  exact Guarded.Opens.of_same rfl rfl (Or.inl (Nat.le_refl _))

theorem commitAt_opens (n : BitVec 32) (sys : BitVec 64) (s : State) : (guarded (commitAt n sys s)).Opens (guarded s) := by
  unfold commitAt; (repeat' first
    | with_reducible exact Guarded.Opens.refl _
    | with_reducible refine Guarded.Opens.trans (applyCommit_opens ..) ?_
    | with_reducible refine Guarded.Opens.trans (boundary_opens ..) ?_
    | with_reducible refine Guarded.Opens.trans (foldl_opens _ _ _ (fun _ _ => ?_)) ?_
    | split
    | simp)

theorem assignAt_opens (s : State) : (guarded (assignAt s)).Opens (guarded s) := by
  unfold assignAt; (repeat' first
    | with_reducible exact Guarded.Opens.refl _
    | with_reducible refine Guarded.Opens.trans (afterSet_opens ..) ?_
    | with_reducible refine Guarded.Opens.trans (foldl_opens _ _ _ (fun _ _ => ?_)) ?_
    | split
    | simp)

theorem enterStandby_opens (s : State) : (guarded (enterStandby s)).Opens (guarded s) := by
  unfold enterStandby; (repeat' first
    | with_reducible exact Guarded.Opens.refl _
    | with_reducible refine Guarded.Opens.trans (openBoth_opens ..) ?_
    | with_reducible refine Guarded.Opens.trans (foldl_opens _ _ _ (fun _ _ => ?_)) ?_
    | split
    | simp)

theorem takeState_opens (sel : Nat) (s : State) : (guarded (takeState sel s)).Opens (guarded s) := by
  unfold takeState; (repeat' first
    | with_reducible exact Guarded.Opens.refl _
    | with_reducible refine Guarded.Opens.trans (enterStandby_opens ..) ?_
    | with_reducible refine Guarded.Opens.trans (foldl_opens _ _ _ (fun _ _ => ?_)) ?_
    | split
    | simp)

theorem boundaryRun_opens (s : State) : (guarded (boundaryRun s)).Opens (guarded s) := by
  unfold boundaryRun; (repeat' first
    | with_reducible exact Guarded.Opens.refl _
    | with_reducible refine Guarded.Opens.trans (commitAt_opens ..) ?_
    | with_reducible refine Guarded.Opens.trans (assignAt_opens ..) ?_
    | with_reducible refine Guarded.Opens.trans (takeState_opens ..) ?_
    | with_reducible refine Guarded.Opens.trans (foldl_opens _ _ _ (fun _ _ => ?_)) ?_
    | split
    | simp)

theorem boundary_opens (s : State) : (guarded (boundary s)).Opens (guarded s) := by
  unfold boundary; (repeat' first
    | with_reducible exact Guarded.Opens.refl _
    | with_reducible refine Guarded.Opens.trans (boundaryRun_opens ..) ?_
    | with_reducible refine Guarded.Opens.trans (foldl_opens _ _ _ (fun _ _ => ?_)) ?_
    | split
    | simp)

theorem nominalBoundary_opens (s : State) : (guarded (nominalBoundary s)).Opens (guarded s) := by
  unfold nominalBoundary; (repeat' first
    | with_reducible exact Guarded.Opens.refl _
    | with_reducible refine Guarded.Opens.trans (boundary_opens ..) ?_
    | with_reducible refine Guarded.Opens.trans (foldl_opens _ _ _ (fun _ _ => ?_)) ?_
    | split)

theorem mirrorFault_opens (b : Nat) (s : State) : (guarded (mirrorFault b s)).Opens (guarded s) := by
  unfold mirrorFault; (repeat' first
    | with_reducible exact Guarded.Opens.refl _
    | with_reducible refine Guarded.Opens.trans (boundary_opens ..) ?_
    | with_reducible refine Guarded.Opens.trans (foldl_opens _ _ _ (fun _ _ => ?_)) ?_
    | split
    | simp)

theorem mirrorLock_opens (s : State) : (guarded (mirrorLock s)).Opens (guarded s) := by
  unfold mirrorLock; (repeat' first
    | with_reducible exact Guarded.Opens.refl _
    | with_reducible refine Guarded.Opens.trans (boundary_opens ..) ?_
    | with_reducible refine Guarded.Opens.trans (foldl_opens _ _ _ (fun _ _ => ?_)) ?_
    | split
    | simp)

theorem mixEdge_opens (s : State) : (guarded (mixEdge s)).Opens (guarded s) := by
  unfold mixEdge; (repeat' first
    | with_reducible exact Guarded.Opens.refl _
    | with_reducible refine Guarded.Opens.trans (mirrorFault_opens ..) ?_
    | with_reducible refine Guarded.Opens.trans (mirrorLock_opens ..) ?_
    | with_reducible refine Guarded.Opens.trans (foldl_opens _ _ _ (fun _ _ => ?_)) ?_
    | split
    | simp)

theorem mixTimeout_opens (s : State) : (guarded (mixTimeout s)).Opens (guarded s) := by
  unfold mixTimeout; (repeat' first
    | with_reducible exact Guarded.Opens.refl _
    | with_reducible refine Guarded.Opens.trans (mirrorFault_opens ..) ?_
    | with_reducible refine Guarded.Opens.trans (foldl_opens _ _ _ (fun _ _ => ?_)) ?_
    | split)

theorem mencEdge_opens (forward : Bool) (s : State) : (guarded (mencEdge forward s)).Opens (guarded s) := by
  unfold mencEdge; (repeat' first
    | with_reducible exact Guarded.Opens.refl _
    | with_reducible refine Guarded.Opens.trans (mirrorFault_opens ..) ?_
    | with_reducible refine Guarded.Opens.trans (foldl_opens _ _ _ (fun _ _ => ?_)) ?_
    | split
    | simp)

theorem mencStall_opens (s : State) : (guarded (mencStall s)).Opens (guarded s) := by
  unfold mencStall; (repeat' first
    | with_reducible exact Guarded.Opens.refl _
    | with_reducible refine Guarded.Opens.trans (mirrorFault_opens ..) ?_
    | with_reducible refine Guarded.Opens.trans (foldl_opens _ _ _ (fun _ _ => ?_)) ?_
    | split)

theorem ctrlLost_opens (s : State) : (guarded (ctrlLost s)).Opens (guarded s) := by
  refine opens_of_reset ?_ (by simp)
  unfold ctrlLost
  rw [dropResults_guarded]
  rfl

theorem deviceReset_opens (cause : Nat) (s : State) : (guarded (deviceReset cause s)).Opens (guarded s) := by
  refine opens_of_reset ?_ (by simp)
  unfold deviceReset
  dsimp only
  rw [countReset_guarded]
  rfl

theorem pinAssert_opens (low : Nat) (s : State) : (guarded (pinAssert low s)).Opens (guarded s) := by
  unfold pinAssert; (repeat' first
    | with_reducible exact Guarded.Opens.refl _
    | with_reducible refine Guarded.Opens.trans (deviceReset_opens ..) ?_
    | with_reducible refine Guarded.Opens.trans (foldl_opens _ _ _ (fun _ _ => ?_)) ?_
    | split
    | simp)

theorem resetCmd_opens (scope : Nat) (s : State) : (guarded (resetCmd scope s)).Opens (guarded s) := by
  unfold resetCmd
  refine writeCmd_opens _ _ _ _ _ _ fun s => ?_
  simp; exact Guarded.Opens.refl _

theorem resetNow_opens (s : State) : (guarded (resetNow s)).Opens (guarded s) := by
  unfold resetNow; (repeat' first
    | with_reducible exact Guarded.Opens.refl _
    | with_reducible refine Guarded.Opens.trans (deviceReset_opens ..) ?_
    | with_reducible refine Guarded.Opens.trans (foldl_opens _ _ _ (fun _ _ => ?_)) ?_
    | split
    | simp)

theorem jtagLoad_opens (j : Jtag) (s : State) : (guarded (jtagLoad j s)).Opens (guarded s) := by
  unfold jtagLoad; (repeat' first
    | with_reducible exact Guarded.Opens.refl _
    | with_reducible refine Guarded.Opens.trans (deviceReset_opens ..) ?_
    | with_reducible refine Guarded.Opens.trans (foldl_opens _ _ _ (fun _ _ => ?_)) ?_
    | split
    | simp)

theorem jtagPins_opens (j : Jtag) (s : State) : (guarded (jtagPins j s)).Opens (guarded s) := by
  unfold jtagPins; (repeat' first
    | with_reducible exact Guarded.Opens.refl _
    | with_reducible refine Guarded.Opens.trans (openBoth_opens ..) ?_
    | with_reducible refine Guarded.Opens.trans (jtagLoad_opens ..) ?_
    | with_reducible refine Guarded.Opens.trans (foldl_opens _ _ _ (fun _ _ => ?_)) ?_
    | split
    | simp)

theorem debugHalt_opens (s : State) : (guarded (debugHalt s)).Opens (guarded s) := by
  unfold debugHalt; (repeat' first
    | with_reducible exact Guarded.Opens.refl _
    | with_reducible refine Guarded.Opens.trans (openAll_opens ..) ?_
    | with_reducible refine Guarded.Opens.trans (foldl_opens _ _ _ (fun _ _ => ?_)) ?_
    | split
    | simp)

theorem powerUp_opens (govA : Bool) (govB : Bool) (s : State) : (guarded (powerUp govA govB s)).Opens (guarded s) := by
  exact Guarded.Opens.of_same (by simp) (by simp) (Or.inl (by simp))

theorem loadConfig_opens (aOk : Bool) (bOk : Bool) (s : State) : (guarded (loadConfig aOk bOk s)).Opens (guarded s) := by
  exact Guarded.Opens.of_same (by simp) (by simp) (Or.inl (by simp))

theorem configLoad_opens (aOk : Bool) (bOk : Bool) (cntAOk : Bool) (cntBOk : Bool) (s : State) : (guarded (configLoad aOk bOk cntAOk cntBOk s)).Opens (guarded s) := by
  exact Guarded.Opens.of_same (by simp) (by simp) (Or.inl (by simp))

theorem selfTest_opens (c : Chan) (pass : Bool) (s : State) : (guarded (selfTest c pass s)).Opens (guarded s) := by
  unfold selfTest; (repeat' first
    | with_reducible exact Guarded.Opens.refl _
    | with_reducible refine Guarded.Opens.trans (latchFault_opens ..) ?_
    | with_reducible refine Guarded.Opens.trans (foldl_opens _ _ _ (fun _ _ => ?_)) ?_
    | split
    | simp)

theorem setOper_opens (t : State) (x : Sys) (h : x.oper = true) : (guarded { t with sys := x }).Opens (guarded t) := by
  refine ⟨by simp, by simp, fun hs => ⟨hs.1, hs.2.1, fun ho => ?_, hs.2.2.2⟩⟩
  exact absurd (h.symm.trans ho) (by decide)

theorem safetyOper_opens (lvA lvB : SinLevels) (s : State) : (guarded (safetyOper lvA lvB s)).Opens (guarded s) := by
  unfold safetyOper
  split
  · extract_lets s1 y s2 z s3 s4
    have h1 : (guarded s1).Opens (guarded s) := by simp [s1]; exact Guarded.Opens.refl _
    have h2 : (guarded s2).Opens (guarded s) := (setOper_opens s1 _ rfl).trans h1
    clear_value s2
    have h3 : (guarded s3).Opens (guarded s) := by simp [s3]; exact h2
    clear_value s3
    have h4 : (guarded s4).Opens (guarded s) := by
      simp only [s4, bothC_eq]; exact (evalDemands_opens ..).trans ((evalDemands_opens ..).trans h3)
    clear_value s4
    split
    · simp; exact h4
    · exact h4
  · exact Guarded.Opens.refl _

theorem eraseNow_opens (s : State) : (guarded (eraseNow s)).Opens (guarded s) := by
  unfold eraseNow; (repeat' first
    | with_reducible exact Guarded.Opens.refl _
    | with_reducible refine Guarded.Opens.trans (openBoth_opens ..) ?_
    | with_reducible refine Guarded.Opens.trans (govErase_opens ..) ?_
    | with_reducible refine Guarded.Opens.trans (logAdd_opens ..) ?_
    | with_reducible refine Guarded.Opens.trans (deviceReset_opens ..) ?_)

theorem safetyErase_opens (p : Path) (d : List Byte) (s : State) : (guarded (safetyErase p d s).2).Opens (guarded s) := by
  unfold safetyErase; (repeat' first
    | with_reducible exact Guarded.Opens.refl _
    | with_reducible refine Guarded.Opens.trans (eraseNow_opens ..) ?_
    | with_reducible refine Guarded.Opens.trans (foldl_opens _ _ _ (fun _ _ => ?_)) ?_
    | split
    | simp)

theorem checkMrcA_opens (ppm : Int) (s : State) : (guarded (checkMrcA ppm s)).Opens (guarded s) := by
  unfold checkMrcA; (repeat' first
    | with_reducible exact Guarded.Opens.refl _
    | with_reducible refine Guarded.Opens.trans (latchFault_opens ..) ?_
    | with_reducible refine Guarded.Opens.trans (foldl_opens _ _ _ (fun _ _ => ?_)) ?_
    | split
    | simp)

theorem checkMrcB_opens (ppm : Int) (s : State) : (guarded (checkMrcB ppm s)).Opens (guarded s) := by
  unfold checkMrcB; (repeat' first
    | with_reducible exact Guarded.Opens.refl _
    | with_reducible refine Guarded.Opens.trans (latchFault_opens ..) ?_
    | with_reducible refine Guarded.Opens.trans (foldl_opens _ _ _ (fun _ _ => ?_)) ?_
    | split
    | simp)

theorem clockCheck_opens (m : ClockMeas) (s : State) : (guarded (clockCheck m s)).Opens (guarded s) := by
  unfold clockCheck; (repeat' first
    | with_reducible exact Guarded.Opens.refl _
    | with_reducible refine Guarded.Opens.trans (checkMrcA_opens ..) ?_
    | with_reducible refine Guarded.Opens.trans (checkMrcB_opens ..) ?_
    | with_reducible refine Guarded.Opens.trans (foldl_opens _ _ _ (fun _ _ => ?_)) ?_
    | split
    | simp)

theorem standbyDone_opens (s : State) : (guarded (standbyDone s)).Opens (guarded s) := by
  unfold standbyDone; (repeat' first
    | with_reducible exact Guarded.Opens.refl _
    | with_reducible refine Guarded.Opens.trans (ctrlLost_opens ..) ?_
    | with_reducible refine Guarded.Opens.trans (foldl_opens _ _ _ (fun _ _ => ?_)) ?_
    | split
    | simp)

theorem limitWrite_opens (sub : Nat) (v : Nat) (s : State) : (guarded (limitWrite sub v s).2).Opens (guarded s) := by
  exact Guarded.Opens.of_same (by simp) (by simp) (Or.inl (by simp))

theorem nowHigh_opens (p : Path) (i : Nat) (sub : Nat) (d : List Byte) (s : State) : (guarded (nowHigh p i sub d s).2).Opens (guarded s) := by
  unfold nowHigh; (repeat' first
    | with_reducible exact Guarded.Opens.refl _
    | with_reducible refine Guarded.Opens.trans (passSet_opens ..) ?_
    | with_reducible refine Guarded.Opens.trans (logClear_opens ..) ?_
    | with_reducible refine Guarded.Opens.trans (governorLock_opens ..) ?_
    | with_reducible refine Guarded.Opens.trans (safetyErase_opens ..) ?_
    | with_reducible refine Guarded.Opens.trans (limitWrite_opens ..) ?_
    | with_reducible refine Guarded.Opens.trans (foldl_opens _ _ _ (fun _ _ => ?_)) ?_
    | split
    | simp)

theorem nowOp_opens (p : Path) (i : Nat) (sub : Nat) (d : List Byte) (s : State) : (guarded (nowOp p i sub d s).2).Opens (guarded s) := by
  unfold nowOp; (repeat' first
    | with_reducible exact Guarded.Opens.refl _
    | with_reducible refine Guarded.Opens.trans (nowHigh_opens ..) ?_
    | with_reducible refine Guarded.Opens.trans (foldl_opens _ _ _ (fun _ _ => ?_)) ?_
    | split
    | simp)

theorem orderly_opens (o : Obj) (p : Path) (i sub : Nat) (d : List Byte) (r : Nat × State) (s u : State)
    (h : (guarded r.2).Opens (guarded u)) (h' : (guarded s).Opens (guarded u)) :
    (guarded (orderly o p i sub d r s).2).Opens (guarded u) := by
  unfold orderly; (repeat' split) <;> assumption

theorem nowWrite_opens (o : Obj) (p : Path) (i sub : Nat) (d : List Byte) (s : State) :
    (guarded (nowWrite o p i sub d s).2).Opens (guarded s) := by
  unfold nowWrite
  split
  · exact nowOp_opens ..
  · dsimp only
    split
    · refine orderly_opens _ _ _ _ _ _ _ _ ((nowOp_opens ..).trans ?_) ?_ <;> simp <;> exact Guarded.Opens.refl _
    · exact orderly_opens _ _ _ _ _ _ _ _ (nowOp_opens ..) (Guarded.Opens.refl _)

theorem writeWhole_opens (o : Obj) (p : Path) (op : Nat) (r : DictReq) (d : List Byte) (s : State) : (guarded (writeWhole o p op r d s)).Opens (guarded s) := by
  unfold writeWhole; (repeat' first
    | with_reducible exact Guarded.Opens.refl _
    | with_reducible refine Guarded.Opens.trans (nowWrite_opens ..) ?_
    | with_reducible refine Guarded.Opens.trans (foldl_opens _ _ _ (fun _ _ => ?_)) ?_
    | split
    | simp)

theorem dictWrite_opens (p : Path) (r : DictReq) (s : State) : (guarded (dictWrite p r s)).Opens (guarded s) := by
  unfold dictWrite; (repeat' first
    | with_reducible exact Guarded.Opens.refl _
    | with_reducible refine Guarded.Opens.trans (nowWrite_opens ..) ?_
    | with_reducible refine Guarded.Opens.trans (writeWhole_opens ..) ?_
    | with_reducible refine Guarded.Opens.trans (foldl_opens _ _ _ (fun _ _ => ?_)) ?_
    | split
    | simp)

theorem dictWriteSeg_opens (p : Path) (r : DictReq) (s : State) : (guarded (dictWriteSeg p r s)).Opens (guarded s) := by
  unfold dictWriteSeg; (repeat' first
    | with_reducible exact Guarded.Opens.refl _
    | with_reducible refine Guarded.Opens.trans (writeWhole_opens ..) ?_
    | with_reducible refine Guarded.Opens.trans (foldl_opens _ _ _ (fun _ _ => ?_)) ?_
    | split
    | simp)

theorem dictRequest_opens (op : Nat) (p : Path) (r : DictReq) (s : State) : (guarded (dictRequest op p r s)).Opens (guarded s) := by
  unfold dictRequest; (repeat' first
    | with_reducible exact Guarded.Opens.refl _
    | with_reducible refine Guarded.Opens.trans (dictWrite_opens ..) ?_
    | with_reducible refine Guarded.Opens.trans (dictWriteSeg_opens ..) ?_
    | with_reducible refine Guarded.Opens.trans (foldl_opens _ _ _ (fun _ _ => ?_)) ?_
    | split
    | simp)

theorem takeReq_opens (f : ZlFrame) (s : State) : (guarded (takeReq f s)).Opens (guarded s) := by
  unfold takeReq; (repeat' first
    | with_reducible exact Guarded.Opens.refl _
    | with_reducible refine Guarded.Opens.trans (dictRequest_opens ..) ?_
    | with_reducible refine Guarded.Opens.trans (foldl_opens _ _ _ (fun _ _ => ?_)) ?_
    | split)

theorem takeFrame_opens (p : Nat) (f : ZlFrame) (s : State) : (guarded (takeFrame p f s)).Opens (guarded s) := by
  unfold takeFrame; (repeat' first
    | with_reducible exact Guarded.Opens.refl _
    | with_reducible refine Guarded.Opens.trans (takeReq_opens ..) ?_
    | with_reducible refine Guarded.Opens.trans (foldl_opens _ _ _ (fun _ _ => ?_)) ?_
    | split
    | simp)

theorem frameRun_opens (p : Nat) (f : ZlFrame) (s : State) : (guarded (frameRun p f s)).Opens (guarded s) := by
  unfold frameRun; (repeat' first
    | with_reducible exact Guarded.Opens.refl _
    | with_reducible refine Guarded.Opens.trans (takeFrame_opens ..) ?_
    | with_reducible refine Guarded.Opens.trans (foldl_opens _ _ _ (fun _ _ => ?_)) ?_
    | split
    | simp)

theorem mbxGo_opens (w : Nat) (s : State) : (guarded (mbxGo w s).2).Opens (guarded s) := by
  unfold mbxGo; (repeat' first
    | with_reducible exact Guarded.Opens.refl _
    | with_reducible refine Guarded.Opens.trans (dictRequest_opens ..) ?_
    | with_reducible refine Guarded.Opens.trans (foldl_opens _ _ _ (fun _ _ => ?_)) ?_
    | split
    | simp)

theorem writeHost_opens (a : Nat) (w : Nat) (s : State) : (guarded (writeHost a w s).2).Opens (guarded s) := by
  unfold writeHost; (repeat' first
    | with_reducible exact Guarded.Opens.refl _
    | with_reducible refine Guarded.Opens.trans (mbxGo_opens ..) ?_
    | with_reducible refine Guarded.Opens.trans (foldl_opens _ _ _ (fun _ _ => ?_)) ?_
    | split
    | simp)

theorem hostWrite_opens (a : Nat) (w : Nat) (s : State) : (guarded (hostWrite a w s).2).Opens (guarded s) := by
  unfold hostWrite; (repeat' first
    | with_reducible exact Guarded.Opens.refl _
    | with_reducible refine Guarded.Opens.trans (writeHost_opens ..) ?_
    | with_reducible refine Guarded.Opens.trans (foldl_opens _ _ _ (fun _ _ => ?_)) ?_
    | split
    | simp)

theorem writeWords_opens (inc crc : Bool) (ws : List (Word × Byte)) (a : Nat) (s : State) :
    (guarded (writeWords inc crc ws a s).2).Opens (guarded s) := by
  induction ws generalizing a s with
  | nil => exact Guarded.Opens.refl _
  | cons e ws ih =>
    unfold writeWords
    split
    · exact Guarded.Opens.refl _
    · exact (ih _ _).trans (hostWrite_opens ..)

theorem hpWrite_opens (w : SpiWrite) (s : State) : (guarded (hpWrite w s)).Opens (guarded s) := by
  unfold hpWrite
  split
  · exact Guarded.Opens.refl _
  · dsimp only
    split
    · simp; exact Guarded.Opens.refl _
    · rw [hpEnd_guarded]
      refine (writeWords_opens ..).trans ?_
      simp; exact Guarded.Opens.refl _

@[simp ↓] theorem writeCmd_queue (p : Path) (i sub n : Nat) (f : State → Nat × State) (s : State)
    (h : ∀ s, (guarded (f s).2).queue = (guarded s).queue) : (guarded (writeCmd p i sub n f s)).queue = (guarded s).queue := by
  unfold writeCmd answerWrite
  split
  · rw [answer_guarded]; exact h s
  · rfl

/-- The switches with pair `p` of channel `c` closed. -/
def Switches.closed (c : Chan) (p : Nat) (w : Switches) : Switches :=
  match c with
  | .a => { w with swA := bset w.swA p true, rwaitA := bset w.rwaitA p false }
  | .b => { w with swB := bset w.swB p true, rwaitB := bset w.rwaitB p false }

theorem closeSwitch_switches (c : Chan) (p : Nat) (s : State) :
    (guarded (closeSwitch c p s)).switches = (guarded s).switches.closed c p := by
  unfold closeSwitch
  extract_lets t u
  have ht : (guarded t).switches = (guarded s).switches.closed c p := by cases c <;> rfl
  clear_value t
  split
  · split
    · simp [u, ht]
    · simp [u, ht]
  · exact ht

theorem bset_not' (v : BitVec 4) (p : Nat) : bset (~~~v) p false = ~~~(bset v p true) := by
  ext i; simp [bset]

/-- The fault latches of channel `c`. -/
def Switches.latchOf (c : Chan) (w : Switches) : BitVec 16 := match c with | .a => w.latchA | .b => w.latchB

/-- R322: closing a switch in a channel without latched faults, after safety operational, leaves a sound state. -/
theorem closeSwitch_sound (c : Chan) (p : Nat) (s : State) (h : (guarded s).Sound) (ho : (guarded s).oper = true)
    (hl : (guarded s).switches.latchOf c = 0) : (guarded (closeSwitch c p s)).Sound := by
  obtain ⟨⟨h1, h2⟩, ⟨h3, h4⟩, h5, h6⟩ := h
  unfold Guarded.Sound
  rw [closeSwitch_switches, closeSwitch_oper, closeSwitch_log, ho]
  cases c
  · refine ⟨⟨?_, fun hn => absurd hl hn⟩, ⟨h3, h4⟩, nofun, h6⟩
    simp only [Switches.closed, h1]; exact bset_not' _ _
  · refine ⟨⟨h1, h2⟩, ⟨?_, fun hn => absurd hl hn⟩, nofun, h6⟩
    simp only [Switches.closed, h3]; exact bset_not' _ _

theorem foldl_close_sound (c : Chan) (l : List Nat) (s : State) (h : (guarded s).Sound) (ho : (guarded s).oper = true)
    (hl : (guarded s).switches.latchOf c = 0) : (guarded (l.foldl (fun s p => closeSwitch c p s) s)).Sound := by
  induction l generalizing s with
  | nil => exact h
  | cons p l ih =>
    refine ih _ (closeSwitch_sound c p s h ho hl) ?_ ?_
    · rw [closeSwitch_oper]; exact ho
    · rw [closeSwitch_switches]; cases c <;> exact hl

theorem validEdge_sound (c : Chan) (s : State) (h : (guarded s).Sound) (ho : (guarded s).oper = true) :
    (guarded (validEdge c s)).Sound := by
  unfold validEdge
  extract_lets l0 t u go acted v
  have ht : (guarded t).Sound := (clearLatches_opens ..).sound h
  have hto : (guarded t).oper = true := by simp [t]; exact ho
  clear_value t
  have hu : guarded u = guarded t := by simp [u]
  clear_value u
  rw [noteEdge_guarded]
  by_cases hg : go = []
  · simp only [v, hg, List.foldl_nil, hu]; exact ht
  · refine foldl_close_sound c go u (hu ▸ ht) (hu ▸ hto) ?_
    obtain ⟨p, hp⟩ := List.exists_mem_of_ne_nil _ hg
    have hm : mayClose u c p = true := (List.mem_filter.1 hp).2
    have : (getC u c).latch = 0 := by simp [mayClose] at hm; exact hm.1.1.1.1.2
    cases c <;> exact this

theorem resetFall_sound (c : Chan) (s : State) (h : (guarded s).Sound) (ho : (guarded s).oper = true) :
    (guarded (resetFall c s)).Sound := by
  unfold resetFall
  split
  · exact h
  · extract_lets d t jam
    have ht : guarded t = guarded s := by simp [t]
    clear_value t
    have hj : ∀ u, guarded u = guarded s → (guarded (jam u)).Sound := by
      intro u hu
      simp only [jam, noteEdge_guarded]
      exact (latchFault_opens ..).sound (hu ▸ h)
    clear_value jam
    have hv : ∀ u, guarded u = guarded s → (guarded (validEdge c u)).Sound := fun u hu => validEdge_sound c u (hu ▸ h) (hu ▸ ho)
    have hn : ∀ b u, guarded u = guarded s → (guarded (noteEdge c 2 b u)).Sound := by
      intro b u hu; rw [noteEdge_guarded, hu]; exact h
    have hd : guarded (drawn t) = guarded s := by simp [ht]
    (repeat' split) <;> first | exact hn _ _ ht | exact hn _ _ hd | exact hv _ ht | exact hv _ hd | exact hj _ ht

end Sys2Proof.Machine
end

