-- ==== Sys2Proof/Tests/Slice0.lean ====
section
/-! SUPPORT. Tests/Slice0.lean: the smoke test of WellFormed, worked examples of the spec, and for every statement a concrete state
and operands that meet its hypotheses, clause by clause. Times are 10 s after power-up unless said otherwise. -/

namespace Sys2Proof.Machine

-- The witnesses are closed evaluations: one after another they need less memory than all at once.
set_option Elab.async false

/-! ### Small states -/

/-- 10 s, the instant of the witnesses. -/
def w10 : Nat := 10000000000

/-- A device that is operational at 10 s. -/
def wOn : State where
  sys := { ctrlUp := true, mgmtUp := true, hpUp := true, stA := some true, stB := some true, oper := true, now := w10 }
  cf := { loaded := true }

/-- `s` with object (`i`, `sub`) at the bytes `v` in effect. -/
def wCfg (i sub : Nat) (v : List Byte) (s : State) : State :=
  { s with cf := { s.cf with eff := valPut s.cf.eff (okey i sub) v } }

/-- `s` with the channel A as `f` makes it. -/
def wSaf (f : Saf → Saf) (s : State) : State := { s with safA := f s.safA }

/-! ### Witnesses: start-up, resets, supply -/

theorem witness_StepRunsTheFrontCommand :
    ({ wOn with pending := [.jtagBypass w10] } : State).pending = .jtagBypass w10 :: [] := rfl

theorem witness_EmptyQueueIdles : wOn.pending = [] ∧ wOn.fp.run = false ∧ ∀ q, q < 4 → (neGet wOn q).run = false := by
  decide +kernel

theorem witness_EveryStepKeepsSafe : Safe wOn ∧ (∃ t, step wOn = .next t) ∧
    ∃ t, step { wOn with pending := [.resetFallingEdge w10 .a] } = .next t :=
  ⟨by unfold Safe chanOk; decide, ⟨_, rfl⟩, ⟨_, rfl⟩⟩

/-- A reset pair of channel A that has been high since `h`. -/
def wEdge (h : Nat) : State := wSaf (fun f => { f with rstHigh := some h }) wOn

theorem witness_OnlyAResetEdgeCloses :
    (∃ u, exec (.vossdFault w10) wOn = .next u) ∧ (∃ u, exec (.resetFallingEdge w10 .a) (wEdge 0) = .next u) ∧
    State.reset.sys.oper = false ∧ (getC wOn .a).rstHigh = none ∧
    ((getC (wEdge (w10 - 99 * msNs)) .a).rstHigh = some (w10 - 99 * msNs) ∧
      (advance w10 (wEdge (w10 - 99 * msNs))).sys.now - (w10 - 99 * msNs) ≤ 99 * msNs) ∧
    ((getC (wEdge (w10 - 3001 * msNs)) .a).rstHigh = some (w10 - 3001 * msNs) ∧
      3001 * msNs ≤ (advance w10 (wEdge (w10 - 3001 * msNs))).sys.now - (w10 - 3001 * msNs)) :=
  ⟨⟨_, rfl⟩, ⟨_, rfl⟩, by decide +kernel⟩

/-- A locked governor with a limit. -/
def wLocked : State := { wOn with gov := { locked := true, limb := [(0, 5)] } }

theorem witness_LockedLimitsHold : wLocked.gov.locked = true ∧ (∀ a b t, Instr.vossdFault w10 ≠ .powerUp t a b) ∧
    ∃ u, exec (.vossdFault w10) wLocked = .next u :=
  ⟨rfl, fun _ _ _ h => (by cases h), ⟨_, rfl⟩⟩

/-- Off, with both copies in MRAM; and as both planes have come up, before the configuration load. -/
def wOff : State := { State.reset with sys := { powered := false } }
def wLoad (a b : Nat) : State :=
  { wOn with cf := { copyA := { count := a }, copyB := { count := b } } }

theorem witness_StartUp :
    wOff.sys.powered = false ∧
    (let s : State := { wOn with sys := { wOn.sys with now := 5 * msNs, hpUp := false } }
     s.sys.mgmtUp = true ∧ s.sys.bootAt + 5 * msNs ≤ (advance (5 * msNs) s).sys.now) ∧
    ((wLoad 4 4).sys.ctrlUp = true ∧ (wLoad 4 4).sys.mgmtUp = true ∧ (wLoad 4 4).cf.loaded = false) ∧
    ((true = true → (wLoad 4 4).cf.copyA.count ≤ (wLoad 4 4).cf.copyB.count) ∧ (wLoad 4 3).cf.copyB.count < (wLoad 4 3).cf.copyA.count) := by
  decide +kernel

theorem witness_SelfTestsAndDebug :
    (let s : State := { wOn with sys := { wOn.sys with oper := false } }
     s.sys.ctrlUp = true ∧ s.cf.loaded = true ∧ s.sys.oper = false ∧ s.sys.stA = some true ∧ s.sys.stB = some true ∧
     s.sys.cameFromStandby = false) ∧ (∀ p, p < 4 → (tpGet wOn p).by_ = none) ∧
    Safe { wOn with sys := { wOn.sys with oper := false } } ∧
    (wOn.sys.powered = true ∧ wOn.sys.ctrlUp = true ∧ pinScan wOn = false ∧ wOn.cf.safety = false) ∧
    (let s : State := { wOn with cf := { safety := true } }
     s.sys.powered = true ∧ s.sys.ctrlUp = true ∧ pinScan s = false ∧ s.cf.safety = true) := by
  unfold Safe chanOk; decide +kernel

/-- Resets that are due, oldest first. -/
def wDue (l : List (Nat × Nat)) : State := { wOn with sys := { wOn.sys with resetDue := l } }

theorem witness_DeviceResets :
    (wOn.sys.powered = true ∧ wOn.sup.vstate ≠ 2 ∧ 10000 ≤ 10000 ∧ 999 < 1000) ∧
    ((wDue [(3, w10)]).sys.resetDue = (3, w10) :: [] ∧ w10 ≤ (advance w10 (wDue [(3, w10)])).sys.now) ∧
    (let s : State := { wOn with sys := { wOn.sys with jtag := .extest } }
     s.sys.powered = true ∧ s.sup.vstate ≠ 2 ∧ pinScan s = true) ∧
    wOn.sys.mgmtUp = true := by
  decide +kernel

/-- Powered, with every plane in reset; 3 ms after power-up began. -/
def wHeld (pin rail : Bool) : State := { State.reset with sys := { now := 3 * msNs, pinReset := pin, railLow := rail } }

theorem witness_PlaneResets :
    (wOn.sys.powered = true ∧ wOn.sup.vstate ≠ 2 ∧ wOn.sys.mgmtUp = true) ∧
    ((wDue [(2, w10), (1, w10)]).sys.resetDue = (2, w10) :: [(1, w10)] ∧ w10 ≤ (advance w10 (wDue [(2, w10), (1, w10)])).sys.now) ∧
    (let s : State := { wDue [(1, w10)] with pw := { dp := .scanning } }
     s.sys.powered = true ∧ s.sup.vstate ≠ 2 ∧ s.sys.resetDue = (1, w10) :: [] ∧ w10 ≤ (advance w10 s).sys.now ∧ s.pw.dp = .scanning) ∧
    (let s : State := { wOn with sys := { wOn.sys with mgmtUp := false } }
     s.sys.powered = true ∧ s.sup.vstate ≠ 2 ∧ s.sys.ctrlUp = true ∧ s.sys.mgmtUp = false) ∧
    (let s := wHeld false false
     s.sys.powered = true ∧ s.sys.ctrlUp = false ∧ s.pw.st ≠ 2 ∧ s.sys.pinReset = false ∧ s.sys.railLow = false) ∧
    (let s := wHeld true false
     s.sys.powered = true ∧ s.sys.ctrlUp = false ∧ s.pw.st ≠ 2 ∧ s.sys.pinReset = true ∧ s.sys.railLow = false ∧
     s.sys.bootAt + 3 * msNs ≤ (advance (3 * msNs) s).sys.now) ∧
    (let s := wHeld false true
     s.sys.powered = true ∧ s.sys.ctrlUp = false ∧ s.pw.st ≠ 2 ∧ s.sys.railLow = true ∧ s.sys.pinReset = false) := by
  decide +kernel

theorem witness_FramesAndAccounting :
    (let s : State := { wOn with pw := { dp := .scanning }, mir := { turn := 1 } }
     s.sys.powered = true ∧ s.sys.ctrlUp = true ∧ s.pw.st ≠ 2 ∧ s.pw.dp = .scanning ∧ pinScan s = false ∧
     angleDue (advance w10 s) (stepsPerFrame s) = true) ∧
    (let s : State := { wOn with pw := { lastB := w10 - framePeriod wOn } }
     s.sys.powered = true ∧ s.sys.ctrlUp = true ∧ s.pw.st ≠ 2 ∧ s.pw.dp ≠ .scanning ∧
     s.pw.lastB + framePeriod s ≤ (advance w10 s).sys.now) ∧
    (let s : State := { wOn with pw := { st := 2, lastB := w10 - framePeriod wOn } }
     s.pw.st = 2 ∧ s.pw.dp ≠ .scanning ∧ s.pw.lastB + framePeriod s ≤ (advance w10 s).sys.now) ∧
    (let s : State := { wOn with sys := { wOn.sys with sysTime := 10000000000 } }
     sysSecond (advance w10 s) ≠ s.sys.lastSec ∧ s.sys.mgmtUp = true ∧ s.sys.ctrlUp = true ∧ hasTrack s = true) ∧
    sysSecond (advance w10 wOn) = wOn.sys.lastSec ∧
    ({ wOn with sup := { intervals := 59 } } : State).sup.intervals = 59 := by
  decide +kernel

/-- A pending commit of an empty set whose copies are being written since instant 0. -/
def wPend0 : Pend :=
  { mode := 0, frame := 0, time := 0, safety := false, verified := false, crc := 0, writeAt := some 0, written := false, user := 0,
    set := [], map := none }
def wPendAt : State := { wOn with cf := { wOn.cf with pend := some wPend0 } }

theorem witness_MetersAndPowerLoss :
    (wOn.sys.mgmtUp = true ∧ wOn.sup.holdReady = false ∧ 6000 ≤ (6000 : Nat)) ∧
    (let s : State := { wOn with sup := { holdReady := true } }
     s.sys.mgmtUp = true ∧ cfgN s 0x1200 4 < eAvail (holdCap s) 34000) ∧
    (let s : State := { wOn with sup := { holdReady := true } }
     s.sys.mgmtUp = true ∧ s.sup.holdReady = true ∧ eAvail (holdCap s) 8000 ≤ cfgN s 0x1200 4 ∧ s.sup.vstate ≠ 2) ∧
    ({ wOn with sup := { vstate := 2 } } : State).sup.vstate = 2 ∧ (wOn.sys.powered = true ∧ wOn.sup.t0 = none) := by
  decide +kernel

theorem witness_PowerLoss_copyA : wPendAt.sys.powered = true ∧ wPendAt.sup.t0 = none ∧ wPendAt.cf.pend = some wPend0 ∧
    wPend0.writeAt = some 0 ∧ wPend0.written = false ∧ ∃ t, 0 + copyATime wPend0 wPendAt ≤ (advance t wPendAt).sys.now :=
  ⟨rfl, rfl, rfl, rfl, rfl, copyATime wPend0 wPendAt, by rw [advance_now]; omega⟩

/-- Mains watch on, in state `st`, with samples of one size. -/
def wMw (st : Nat) : State := { wCfg 0x1200 0x10 [100, 0] (wCfg 0x1200 0x11 [0, 0, 1, 0] wOn) with mw := { mstate := st } }
/-- The sample whose RMS is `v` in units of 0.01 %, for the nominal value and the scale of `wMw`. -/
def wVolt (v : Nat) : List Int := [((v * 2 ^ 27 * 100 + 10000 * cfgN (wMw 1) 0x1200 0x11 - 1) / (10000 * cfgN (wMw 1) 0x1200 0x11) : Nat)]

theorem witness_SupplyWatch :
    (wOn.sys.mgmtUp = true ∧ wOn.sup.vstate = 0 ∧ cfgN wOn 0x1200 8 - 1 < cfgN wOn 0x1200 8 ∧ wOn.sup.uvlo = false) ∧
    ({ wOn with sup := { uvlo := true } } : State).sup.uvlo = true ∧
    (let s : State := { wOn with sup := { vstate := 1 } }
     s.sup.vstate = 1 ∧ cfgN s 0x1200 8 + 500 ≤ cfgN wOn 0x1200 8 + 500 ∧ 999999 < 1000000) ∧
    ({ wOn with sup := { chgOn := true } } : State).sup.chgOn = true ∧ 32999 < 33000 ∧
    ({ wOn with sup := { chgFull := true } } : State).sup.chgFull = true ∧ wOn.sys.ctrlUp = true ∧
    (let s : State := { wOn with sup := { chgOn := true, runV := some 10000, spanV := some 10000 } }
     s.sys.mgmtUp = true ∧ s.sup.chgOn = true ∧ s.sup.cmeas = 0 ∧ s.sup.runV = some 10000 ∧ s.sup.spanV = some 10000 ∧
     (if 10000 ≤ 10000 then 20000 else 10000 + 1000) ≤ 20000 ∧ 10000 < 20000) ∧
    ((wMw 1).sys.mgmtUp = true ∧ cfgN (wMw 1) 0x1200 0x10 ≠ 0) ∧
    (let s : State := { wMw 1 with mw := { mstate := 1, pos := some false, crossPrev := some 0 } }
     ([] ++ wVolt 9000).getLast? = some ((wVolt 9000).getD 0 0) ∧ mwBeyond s ((wVolt 9000).getD 0 0) = true ∧
     s.mw.pos ≠ some (decide (0 < (wVolt 9000).getD 0 0)) ∧ s.mw.crossPrev = some 0 ∧ s.mw.pos ≠ none ∧ s.mw.forcedAt = none) ∧
    mwForcedDue (advance w10 (wMw 1)) = true ∧
    mwRms (wMw 1) (wVolt 499) < 500 ∧
    (500 = mwRms (wMw 1) (wVolt 500) ∧ mwRms (wMw 1) (wVolt 8999) < 9000 ∧ (wMw 1).mw.mstate = 1) ∧
    (mwRms (wMw 3) (wVolt (499 + 10 * cfgN (wMw 3) 0x1200 0x13)) < 500 + 10 * cfgN (wMw 3) 0x1200 0x13 ∧ (wMw 3).mw.mstate = 3) ∧
    (9000 ≤ mwRms (wMw 2) (wVolt (8999 + 10 * cfgN (wMw 2) 0x1200 0x13)) ∧
      mwRms (wMw 2) (wVolt (8999 + 10 * cfgN (wMw 2) 0x1200 0x13)) < 9000 + 10 * cfgN (wMw 2) 0x1200 0x13 ∧ (wMw 2).mw.mstate = 2) ∧
    (9000 ≤ mwRms (wMw 1) (wVolt 9000) ∧ mwRms (wMw 1) (wVolt 11000) ≤ 11000 ∧ 11000 < mwRms (wMw 1) (wVolt 11001)) ∧
    (let s : State := { wMw 1 with mw := { mstate := 1, recoverAt := some (w10 - cfgN wOn 0x1200 0x14 * msNs) } }
     s.sys.mgmtUp = true ∧ cfgN s 0x1200 0x10 ≠ 0 ∧ s.mw.recoverAt = some (w10 - cfgN wOn 0x1200 0x14 * msNs) ∧
     w10 - cfgN wOn 0x1200 0x14 * msNs + cfgN s 0x1200 0x14 * msNs ≤ (advance w10 s).sys.now) := by
  decide +kernel

/-! ### Witnesses: clocks, power states, mirror -/

theorem witness_ClocksAndPowerRequests :
    (wOn.sys.powered = true ∧ wOn.sys.ctrlUp = true) ∧ 30000 < (30001 : Int).natAbs ∧ (-30000 : Int).natAbs ≤ 30000 ∧
    (({ wOn with pw := { hfxOk := true } } : State).pw.hfxOk = true ∧ 500 < (-501 : Int).natAbs ∧ (500 : Int).natAbs ≤ 500) ∧
    ({ wOn with pw := { pllT := true } } : State).pw.pllT = true ∧
    (wOn.sys.mgmtUp = true ∧ wOn.sup.vstate ≠ 2 ∧ 2 ≤ 2 ∧ 5 ≤ 5 ∧ 1 < 2 ∧ 5 < 6) ∧
    (let s : State := { wCfg 0x1100 6 [1, 0] wOn with pw := { idleFrom := w10 - secNs } }
     s.sys.ctrlUp = true ∧ s.pw.idleFrom + cfgN s 0x1100 6 * secNs ≤ (advance w10 s).sys.now) := by
  decide +kernel

/-- STANDBY, with a wake latch of comparator 0. -/
def wStandby : State :=
  { wCfg 0x1800 0x30 [5, 0, 0, 0] wOn with pw := { st := 2 }, wc := [(0, { latch := true })] }
/-- Comparator 7 enabled with VTH_CODE 10 and 20 mV of hysteresis, without a sample yet or with one. -/
def wWc (fresh : Bool) : State :=
  { wCfg 0x1800 0x37 [5, 8, 10, 0] wOn with wc := [(7, { fresh := fresh })] }

theorem witness_StandbyAndWakes :
    (wStandby.sys.powered = true ∧ wStandby.pw.st = 2 ∧ wStandby.pw.wakeHold = false ∧ cfgF wStandby 0x1100 3 = false ∧
      wakeLatched wStandby = true) ∧
    ({ wOn with pw := { st := 2, standbyAt := some w10 } } : State).pw.standbyAt.isSome = true ∧
    ((wWc false).sys.powered = true ∧ bitAt (wcCfg (wWc false) 7) 0 = true ∧
      wcTickDue (advance w10 (wWc false)) 7 (mget {} (wWc false).wc 7) = true) ∧
    (wcVth (wWc false) 7 < 201 ∧ 179 + wcHys (wWc false) 7 < wcVth (wWc false) 7) ∧
    (200 ≤ wcVth (wWc false) 7 ∧ wcVth (wWc false) 7 ≤ 180 + wcHys (wWc false) 7 ∧ (mget {} (wWc false).wc 7).fresh = false ∧
      (mget {} (wWc true).wc 7).fresh = true) ∧
    (mget {} wStandby.wc 0).latch = true ∧
    (bitAt (wcCfg (wWc false) 7) 1 = false ∧ (mget {} (wWc false).wc 7).above = false ∧ fld (wcCfg (wWc false) 7) 8 2 = 0 ∧
      (mget {} (wWc false).wc 7).changed = false ∧ bitAt (wcCfg (wWc false) 7) 2 = true) ∧
    (wOn.sys.mgmtUp = true ∧ wOn.sup.vstate ≠ 2) := by
  decide +kernel

/-- Data plane `dp`, with `good` good periods, `n` encoder edges, and the last edges a frame period and a quarter of an edge ago. -/
def wMir (dp : Dp) (good n : Nat) : State :=
  { wOn with
    pw := { dp := dp, readyAt := w10 - 2 * secNs }
    mir := { lastMix := some (w10 - framePeriod wOn), lastMenc := some (w10 - 1000), good := good, count := n } }

theorem witness_DataPlaneAndMirror :
    ({ wOn with pw := { hfxReq := some 0 } } : State).pw.hfxReq.isSome = true ∧
    (let s : State := { wOn with pw := { hfxOk := true, dp := .starting, pllC := true, pllT := true } }
     s.pw.hfxOk = true ∧ s.pw.dp ≠ .off ∧ s.pw.dp = .starting ∧ s.pw.pllC = true ∧ s.pw.pllT = true) ∧
    (let s := wMir .scanning 4 (mencCpr wOn)
     cfgF s 0x2000 0x23 = false ∧ s.mir.lastMix = some (w10 - framePeriod wOn) ∧ s.mir.lastMenc = some (w10 - 1000) ∧ s.pw.dp = .scanning ∧
     periodOk s ((advance w10 s).sys.now - (w10 - framePeriod wOn)) = true ∧ s.mir.count = mencCpr s) ∧
    ((wMir .ready 2 (mencCpr wOn)).pw.dp = .ready ∧ (wMir .ready 2 (mencCpr wOn)).mir.good < 3) ∧
    (let s : State := { wMir .ready 3 (mencCpr wOn) with cf := { loaded := true, defaults := false } }
     s.pw.dp = .ready ∧ periodOk s ((advance w10 s).sys.now - (w10 - framePeriod wOn)) = true ∧ s.mir.count = mencCpr s ∧
     3 ≤ s.mir.good ∧ s.sys.powered = true ∧ s.sys.ctrlUp = true ∧ s.pw.st ≠ 2 ∧ s.cf.pend = none ∧ s.ac.staged = none ∧
     cfgF s 0x1100 3 = false ∧ 4 ≤ selectState s) ∧
    periodOk (wMir .scanning 4 0) (2 * framePeriod wOn) = false ∧
    (wMir .scanning 4 0).mir.count ≠ mencCpr (wMir .scanning 4 0) ∧
    (let s : State := { wMir .scanning 4 0 with
       mir := { lastMix := some (w10 - 101 * framePeriod wOn), lastMenc := some (w10 - 4 * framePeriod wOn) } }
     101 * framePeriod s ≤ 100 * ((advance w10 s).sys.now - (w10 - 101 * framePeriod wOn)) ∧
     4 * framePeriod s ≤ ((advance w10 s).sys.now - (w10 - 4 * framePeriod wOn)) * mencCpr s) ∧
    (let s := wMir .ready 0 0
     s.pw.dp = .ready ∧ s.pw.mirrorRaised = false ∧ s.pw.readyAt + 2 * secNs ≤ (advance w10 s).sys.now ∧ s.sys.mgmtUp = true) := by
  decide +kernel

/-! ### Witnesses: emitters and accords -/

/-- Emitter 0 enabled with every member of its accord, a locked governor with limit `lim`, and one listed burst in slot 0. -/
def wEmit (lim : Nat) (trip : BitVec 16) : State :=
  { wCfg 0x2000 1 [1] (wCfg 0x2000 5 [15] wOn) with
    pw := { dp := .scanning }
    mir := { locked := true }
    gov := { locked := true, trip := trip, limb := [(0, lim)], lim5 := [(0, lim)], lim100 := [(0, lim)] }
    ex := { todo := [⟨0, 0, 0, 3⟩] } }

/-- A burst of code 0 in slot 0 whose first sub-pulse is due. -/
def wBurst : State :=
  { wEmit 1000000 0 with ex := { bursts := [{ e := 0, slot := 0, code := 4, pass := 3, start := 0 }] } }

theorem witness_Bursts :
    MayFire (wEmit 1000000 0) ∧
    (wEmit 1000000 0).ex.todo.find? (fun y => y.e == (0 : Fin 16).val && y.slot == (0 : Fin 8).val) = some ⟨0, 0, 0, 3⟩ ∧
    (emtOn (wEmit 1000000 0) 0 = true ∧ bitAt (emtMask (wEmit 1000000 0) 0) 0 = true) ∧
    (let s : State := { wEmit 1000000 0 with cf := {} }
     MayFire s ∧ s.ex.todo.find? (fun y => y.e == 0 && y.slot == 0) = some ⟨0, 0, 0, 3⟩ ∧ ¬(emtOn s 0 = true ∧ bitAt (emtMask s 0) 0 = true)) ∧
    (let s : State := { wEmit 1000000 0 with mir := { locked := true, mencInt := 100 } }
     MayFire s ∧ s.ex.todo.find? (fun y => y.e == 0 && y.slot == 0) = some ⟨0, 0, 0, 3⟩ ∧ stepPeriodTdc s < slotStart s 0 + windowLen) ∧
    (slotStart (wEmit 1000000 0) 0 + windowLen ≤ stepPeriodTdc (wEmit 1000000 0) ∧ bget (wEmit 1000000 1).gov.trip 0 = true ∧
      bget (wEmit 1000000 0).gov.trip 0 = false) ∧
    govAdmits (wEmit 1000000 0) 0 (codeLen (shotCode (wEmit 1000000 0) ⟨0, 0, 0, 3⟩)) (25 * vstCode (wEmit 1000000 0) 0) = true ∧
    govAdmits (wEmit 1 0) 0 (codeLen (shotCode (wEmit 1 0) ⟨0, 0, 0, 3⟩)) (25 * vstCode (wEmit 1 0) 0) = false ∧
    (∃ b, wBurst.pw.dp = .scanning ∧ burstAt wBurst 0 0 = some b ∧ b.fired = (0 : Fin 7) ∧ (0 : Fin 7) < codeLen b.code ∧
      gateFree wBurst 0 = true) := by
  refine ⟨by unfold MayFire; decide +kernel, by decide +kernel, by decide +kernel, ⟨by unfold MayFire; decide +kernel, by decide +kernel, by decide +kernel⟩,
    ⟨by unfold MayFire; decide +kernel, by decide +kernel, by decide +kernel⟩, by decide +kernel, by decide +kernel, by decide +kernel, { e := 0, slot := 0, code := 4, pass := 3, start := 0 }, by decide +kernel⟩

/-- A session of user 1 through the host port, with MRAM ready. -/
def wSess : State := { wOn with sup := { holdReady := true }, sess := { user := 1, lastAct := w10 } }

theorem witness_Governor :
    (wOn.sys.powered = true ∧ mwf {} wOn.gov.w5 = true ∧ mwf {} wOn.gov.w100 = true) ∧
    (let s : State := { wCfg 0x1800 1 [20, 128, 0, 0] wOn with pw := { dp := .scanning } }
     emtPresent s 0 = true ∧ s.pw.dp ≠ .off ∧ bitAt (fcCfg s 0) 15 = true ∧ bget s.gov.trip 0 = false ∧ bget s.gov.level 0 = false ∧
     500 * fld (fcCfg s 0) 0 10 < 10001 ∧ 5000 + 5000 ≤ 500 * fld (fcCfg s 0) 0 10) ∧
    (wOn.sys.mgmtUp = true ∧ wOn.sup.vstate ≠ 2) ∧
    (wLocked.gov.locked = true ∧ 512 ≤ (List.replicate 512 (⟨1, 1, 0, 0, 0, 0, 0, 0, [], 0⟩ : LogE)).length) ∧
    (wOn.gov.locked = false ∧ wOn.gov.crcBad = false ∧ wOn.sess.log.length < 512 ∧ sessionOn wOn .host = false) ∧
    (sessionOn wSess .host = true ∧ wSess.sup.holdReady = true ∧ (BitVec.ofNat 32 (govCrc wSess + 1)).toNat ≠ govCrc wSess ∧
      (BitVec.ofNat 32 (govCrc wSess)).toNat = govCrc wSess) := by
  decide +kernel

/-- An assignment, and a device that has it. -/
def wAssign : Assign := ⟨[0, 4, 8, 12], 3, true, 5, 0, 7⟩
def wAcc : State := { wOn with ac := { assign := some wAssign } }

theorem witness_AccordRoles :
    (wAcc.sys.mgmtUp = true ∧ assignAbort wAcc (assignBytes wAssign) = 0 ∧
      ∃ b, wAcc.ac.assign = some b ∧ b.codes = (assignOf (assignBytes wAssign)).codes ∧ b.phi = (assignOf (assignBytes wAssign)).phi ∧
        b.hop = (assignOf (assignBytes wAssign)).hop ∧ b.coord = (assignOf (assignBytes wAssign)).coord) ∧
    (wSess.sys.mgmtUp = true ∧ wSess.sup.vstate ≠ 2 ∧ assignAbort wSess (assignBytes wAssign) = 0 ∧ wSess.ac.assign = none) ∧
    assignAbort wOn [] ≠ 0 ∧
    (let s : State := { wCfg 0x2600 0xD [5, 0] wOn with ac := { wAcc.ac with lastAssign := w10 - 5 * secNs } }
     (accordNow s).src = 1 ∧ s.ac.stale = false ∧ s.ac.lastAssign + cfgN s 0x2600 0xD * secNs ≤ (advance w10 s).sys.now ∧
     s.sys.mgmtUp = true) ∧
    (let s : State := { wCfg 0x2600 0xC [1] wOn with zl := { sync := true } }
     coordActive s = true ∧ s.sys.mgmtUp = true ∧ s.zl.sync = true ∧ ∃ e ∈ colourAll (advance w10 s), e.2 ≠ none ∧
       mlook s.ac.colours e.1 ≠ some e.2) ∧
    (let s : State := { wCfg 0x2600 0xC [1] wOn with zl := { sync := true }, ac := { colours := colourAll (advance w10 (wCfg 0x2600 0xC [1] wOn)) } }
     coordActive s = true ∧ ∀ e ∈ colourAll (advance w10 s), e.2 = none ∨ mlook s.ac.colours e.1 = some e.2) ∧
    (let s : State := { wCfg 0x2600 0xC [1] wOn with zl := { p0 := { st := 2 } }, ac := { colours := [(9, some 0)] } }
     s.ac.colours = [(9, some 0)] ∧ 9 ≠ zlAddr s ∧ portUp s 0 = true ∧ portBusy (advance w10 s) 0 = false) ∧
    (let s : State := { wCfg 0x2600 0xC [1] wOn with
       sys := { wOn.sys with sysTime := 1000000000 }, zl := { p0 := { st := 2 } }, ac := { changed := [9] } }
     coordActive s = true ∧ s.ac.coordApply + secNs ≤ (advance w10 s).sys.sysTime.toNat ∧ (9 : Fin 1024).val ∈ s.ac.changed ∧
     (∀ e ∈ s.ac.asked, e.1 ≠ 9) ∧ 9 ≠ zlAddr s ∧ portUp s 0 = true ∧ portBusy (advance w10 s) 0 = false ∧ 8 ∉ s.ac.changed) := by
  refine ⟨⟨by decide +kernel, by decide +kernel, wAssign, by decide +kernel⟩, by decide +kernel, by decide +kernel, by decide +kernel,
    by decide +kernel, by decide +kernel, by decide +kernel, by decide +kernel⟩

/-! ### Witnesses: receive channels, histograms, steps -/

/-- Channel 0 enabled and channel 1 not, with its dead time at `dead` and AMB_STEPS as `amb` says; a burst of emitter 0 from 0 on; `n` events wait in strip 0. -/
def wRx (dead : Int) (amb : List Byte) (n : Nat) (x : RxCh) : State :=
  { wCfg 0x2201 1 [0] (wCfg 0x2200 0x21 amb wOn) with
    pw := { dp := .scanning, scanned := true, st := 5 }
    rx := [(0, { x with deadUntil := dead })]
    hg := { queue := [(0, List.replicate n { buf := 0, ch := 0, slot := 0, t := 5, cls := .top, tot := 1, sat := false, long := false, loss := false })] }
    ex := { open_ := true, list := [⟨0, 0, 0, 3⟩], bursts := [{ e := 0, slot := 0, code := 4, pass := 3, start := 0, fired := 1 }] } }

theorem witness_ReceiveEvents :
    (rxOn (wRx 256 [16, 0] 0 {}) 0 = true ∧ dpOn (wRx 256 [16, 0] 0 {}) = true ∧ (rxGet (wRx 256 [16, 0] 0 {}) 0).deadUntil ≤ 256) ∧
    (let s := wRx 256 [16, 0] 0 {}
     edgesOf s 0 ⟨[(256, 100000), (276, 0)]⟩ = some { tB := 256, tH := some 256, tHF := some 276, tT := some 256, tBF := 276, overTop := 20, long := false } ∧
     (edgesOf s 0 ⟨[(256, 100000)]⟩).map (fun e => (e.long, e.tHF, e.tBF)) = some (true, none, 4352) ∧ tiaOut s 0 4000 = 1000 * (rxGet s 0).base ∧
     edgesOf s 0 ⟨[(256, 4000)]⟩ = none ∧ (edgesOf s 0 ⟨[(255, 4001), (4351, 0)]⟩).map (fun e => (e.tB, e.tH, e.long)) = some (255, none, false)) ∧
    (255 < (rxGet (wRx 256 [16, 0] 0 {}) 0).deadUntil ∧ rxOn (wCfg 0x2200 1 [0] wOn) 0 = false ∧ dpOn wOn = false) ∧
    (windowAt (wRx 0 [16, 0] 0 {}) 0 windowLen = none ∧ (windowAt (wRx 0 [16, 0] 0 {}) 0 0).isSome = true ∧
      (windowAt (wRx 0 [16, 0] 0 {}) 0 (windowLen - 1)).isSome = true) ∧
    (correct (wRx 0 [16, 0] 0 {}) 0 (1, []) 0 .base 0 < 0 ∧ 0 ≤ correct (wRx 0 [16, 0] 0 {}) 0 (0, []) 0 .base 0) ∧
    (dpClocked (wRx 0 [16, 0] 0 {}) = true ∧ inGap (wRx 0 [16, 0] 0 {}) 0 windowLen = true) ∧
    ((hgQueue (wRx 0 [16, 0] 63 {}) (0 / 12)).length < 64 ∧ 64 ≤ (hgQueue (wRx 0 [16, 0] 64 {}) (0 / 12)).length) := by
  decide +kernel

/-- c and the target of R151 for channel 0. -/
def wRate (s : State) : Nat × Nat := ((rxGet s 0).gap * 10000000, max 1 (rqCfg s 0 0x20) * ambSteps s 0 * 6611000)

theorem witness_BaseNotes :
    (let s := wRx 0 [16, 0] 0 { steps := 16, gap := 1000000, noisyRun := 63, baseNext := 200 }
     dpOn s = true ∧ dpClocked s = true ∧ ambSteps s 0 ≤ (rxGet s 0).steps ∧ 8 * (wRate s).2 < (wRate s).1 ∧ 63 ≤ (rxGet s 0).noisyRun ∧
     (clampI (baseMin s 0) (baseTop s 0) ((rxGet s 0).baseNext + 16)).toNat = baseTop s 0) ∧
    (let s := wRx 0 [64, 0] 0 { steps := 64, gap := 4 * (64 * 6611 * max 1 (rqCfg wOn 0 0x20) / 10000) }
     ambSteps s 0 ≤ (rxGet s 0).steps ∧ 2 * (wRate s).2 < (wRate s).1 ∧ (wRate s).1 ≤ 8 * (wRate s).2) ∧
    (let s := wRx 0 [16, 0] 0 { steps := 16, calmRun := 63 }
     ambSteps s 0 ≤ (rxGet s 0).steps ∧ 2 * (wRate s).1 < (wRate s).2 ∧ (wRate s).1 ≤ 2 * (wRate s).2 ∧ 63 ≤ (rxGet s 0).calmRun) ∧
    (let s := wRx 0 [128, 0] 0 { steps := 128, gap := 128 * 6611 * max 1 (rqCfg wOn 0 0x20) / 10000 }
     ambSteps s 0 ≤ (rxGet s 0).steps ∧ (wRate s).1 ≤ 2 * (wRate s).2 ∧ (wRate s).2 ≤ 2 * (wRate s).1) ∧
    (let s : State := { wRx 0 [16, 0] 0 {} with pw := { dp := .scanning, scanned := false, st := 4, lastB := 5 } }
     dpOn s = true ∧ dpClocked s = false ∧ s.sys.now ≠ s.pw.lastB) ∧
    (rxGet (wRx 0 [16, 0] 0 { steps := 15 }) 0).steps < ambSteps (wRx 0 [16, 0] 0 {}) 0 := by
  decide +kernel

/-- After `n` injections of quadrant 0, in a step with an injection. -/
def wBlot (n : Nat) (x : RxCh) : State := { wRx 0 [16, 0] 0 x with rq := [(0, { injN := n })] }

theorem witness_BlotterBiasAndHealth :
    (dpOn (wBlot 0 {}) = true ∧ qPresent (wBlot 0 {}) 0 = true ∧ injStep (wBlot 0 {}) 0 = true ∧ dpClocked (wBlot 0 {}) = true ∧
      rxOn (wBlot 0 {}) (48 * 0 + 0) = true ∧ rxOn (wBlot 0 {}) (48 * 0 + 1) = false) ∧
    injStep { wBlot 0 {} with ex := { stepsRun := 1 } } 0 = false ∧
    (1 < (⟨2, false, 0, .top, 0⟩ : BlotSeen).events ∧ (⟨0, false, 0, .top, 0⟩ : BlotSeen).early = false ∧ 3 ≤ (rxGet (wBlot 0 { miss := 3 }) 0).miss) ∧
    (((rqGet (wBlot 0 {}) 0).injN + 15) % 16 = 15 ∧ ((rqGet (wBlot 15 {}) 0).injN + 15) % 16 ≠ 15) ∧
    (bget (rxGet (wBlot 0 { clr := 1 }) 0).clr 0 = true ∧ (rxGet (wBlot 0 {}) 0).zofsGot = false ∧
      (rxGet (wBlot 0 { zofsGot := true }) 0).zofsGot = true ∧ 3 ≤ (rxGet (wBlot 0 { notTop := 3 }) 0).notTop ∧
      16 ≤ (rxGet (wBlot 0 { inj := 16 }) 0).inj ∧ mlook (rxGet (wBlot 15 {}) 0).walk 14 = none) ∧
    (let s : State := { wCfg 0x2200 0x26 [232, 3] wOn with pw := { dp := .ready }, rq := [(0, { okSince := some (w10 - 10 * msNs), badSince := some (w10 - 10 * msNs) })] }
     qPresent s 0 = true ∧ dpOn s = true ∧ hvTarget s 0 25 = some 100000 ∧ 3 * 100000 < 100 * ((10 * 10301 : Nat) - (100000 : Int)).natAbs ∧
     100 * ((10 * 10300 : Nat) - (100000 : Int)).natAbs ≤ 3 * 100000 ∧ (rqGet s 0).okSince = some (w10 - 10 * msNs) ∧
     w10 - 10 * msNs + 10 * msNs ≤ (advance w10 s).sys.now ∧ (rqGet s 0).badSince = some (w10 - 10 * msNs) ∧
     ¬(advance (w10 - 1) { s with sys := { s.sys with now := 0 } }).sys.now ≥ w10 - 10 * msNs + 10 * msNs) ∧
    (let s : State := { wOn with pw := { dp := .ready } }
     qPresent s 0 = true ∧ dpOn s = true ∧ hvTarget (wCfg 0x2200 0x26 [0, 0] s) 0 25 = none) ∧
    (chPresent wOn 191 = true ∧ qPresent wSess 3 = true ∧ canStage wSess = true ∧ canStage wOn = false) := by
  decide +kernel

theorem witness_EventBinning :
    (let s := wRx 0 [16, 0] 1 {}
     s.ex.open_ = true ∧ (∃ ev, hgQueue s 0 = ev :: []) ∧
     ((stepBursts s 0).find? fun b => b.e == servingCh (viewFrame (bufFrame s 0) s) 0 && b.slot == 0) =
       some { e := 0, slot := 0, code := 4, pass := 3, start := 0, fired := 1 } ∧
     0 + windowLen + 9600 < inStep s 0 163201 ∧ ¬(0 + windowLen + 9600 < inStep s 0 163200) ∧ bufReleased s 0 (0 / 48) = false ∧
     (ctxGet s 0 0).wins.length ≤ 8 ∧ hgBin s 0 ≤ 65535 ∧ (mget [] s.hg.held (csKey 0 0 0)).length < 16) ∧
    (let s := { wRx 0 [16, 0] 1 {} with ex := { list := [⟨0, 0, 0, 2⟩], bursts := [{ e := 0, slot := 0, code := 4, pass := 2, start := 0, fired := 1, closed := true }] } }
     slotBinned (passesOf (stepShots s 0) 0) 0 = false ∧ s.ex.open_ = false) ∧ hgQueue (wRx 0 [16, 0] 0 {}) 0 = [] ∧
    (burstAt (wRx 0 [16, 0] 0 {}) 0 0).map (·.closed) = some false ∧ (burstAt (wRx 0 [16, 0] 0 {}) 0 0).map (·.fired) = some 1 ∧
    0 ∈ channelsOf (wRx 0 [16, 0] 0 {}) 0 ∧ burstAt (wRx 0 [16, 0] 0 {}) 0 7 = none := by
  refine ⟨⟨by decide +kernel, ⟨_, rfl⟩, by decide +kernel⟩, by decide +kernel⟩

/-- Snapshot unit 0 as `x`, at step 5 of frame 1. -/
def wSnap (x : Snap) : State :=
  { wOn with hg := { snap := [(0, x)] }, pw := { dp := .scanning, scanned := true, frameNo := 1 }, ex := { open_ := true, step := 5, begun := 6, list := [⟨0, 0, 0, 1⟩, ⟨0, 1, 0, 2⟩] } }

theorem witness_PickerAndSnapshots :
    (let s := wSnap {}
     s.ex.open_ = true ∧ stripMode (passesOf s.ex.list (serving s 0 0)) = 1 ∧ stripNowin (passesOf s.ex.list (serving s 0 0)) = false ∧
     firstFine (passesOf s.ex.list (serving s 0 0)) < 8) ∧
    stripMode (passesOf (wSnap {}).ex.list (serving (wSnap {}) 0 1)) ≠ 1 ∧
    (bitAt (0x80000000 : Word).toNat 31 = true ∧ qPresent (wSnap {}) 0 = true ∧ (snapGet (wSnap { state := 1 }) 0).state ≠ 0) ∧
    ((snapGet (wSnap {}) 0).state = 0 ∧ 47 < fld (0x80300000 : Word).toNat 16 6 ∧ stepsPerFrame (wSnap {}) ≤ fld (0x80000708 : Word).toNat 0 13) ∧
    (fld (0xC02F0005 : Word).toNat 16 6 ≤ 47 ∧ fld (0xC02F0005 : Word).toNat 0 13 < stepsPerFrame (wSnap {}) ∧
      bitAt (0xC02F0005 : Word).toNat 30 = true ∧ stepBegun (wSnap { frame := 1 }) (BitVec.ofNat 32 1) 5 = true) ∧
    (stepBegun (wSnap { frame := 1 }) (BitVec.ofNat 32 1) 6 = false ∧ bitAt (0x802F0707 : Word).toNat 30 = false ∧
      fld (0x802F0707 : Word).toNat 0 13 < stepsPerFrame (wSnap {})) ∧
    ((snapGet (wSnap { state := 2 }) 0).state = 2 ∧ (snapGet (wSnap {}) 0).state ≠ 2) := by
  decide +kernel

/-- Step `k` of a scanned frame runs, and the buffer of the one before waits for quadrant 0. -/
def wStep (k : Nat) : State :=
  { wOn with pw := { dp := .scanning, scanned := true }, ex := { open_ := true, step := k, takenOk := true, taken := [⟨0, 0, 0, 3⟩] }, hg := { relDue := 1 }
             ps := { l0 := { queue := [(100, []), (50, [])], fill := 150 } } }

theorem witness_StepsReleasesAndPackets :
    (let s : State := { wStep (stepsPerFrame wOn - 2) with mir := { turn := 1 } }
     angleDue (advance w10 s) (s.ex.step + 1) = true ∧ s.pw.dp = .scanning ∧ s.pw.scanned = true ∧ pinScan s = false ∧ s.ex.open_ = true ∧ s.ex.step + 1 < stepsPerFrame s ∧ s.hg.buf ≤ 1) ∧
    ((wStep 0).pw.dp = .scanning ∧ (wStep 0).ex.open_ = true ∧ angleDue (advance w10 (wStep 0)) ((wStep 0).ex.step + 1) = false) ∧
    (({ wStep 0 with pw := { dp := .scanning } } : State).pw.scanned = false ∧ wOn.pw.dp = .off) ∧
    (let s := wStep 0
     bget s.hg.relDue 0 = true ∧ qPresent s 0 = true ∧ s.hg.relAt ≤ (advance w10 s).sys.now ∧ neLoaded (viewFrame s.hg.relFrame s) 0 = false ∧ 8 < neBudget (viewFrame s.hg.relFrame s) 0) ∧
    (let s := { wStep 0 with cf := { loaded := true, eff := [(qkey 0 0x2500 1, [1])] } }
     neLoaded (viewFrame s.hg.relFrame s) 0 = true ∧ neLen (viewFrame s.hg.relFrame s) 0 = 0) ∧
    bget (wStep 0).hg.relDue 1 = false ∧ (advance w10 { wStep 0 with hg := { relAt := w10 + 1 } }).sys.now < w10 + 1 ∧
    (laneGet (wStep 0) 0).queue = (100, []) :: [(50, [])] ∧
    (laneGet wOn 1).queue = [] := by
  decide +kernel

/-! ### Witnesses: note engines, plan programs -/

/-- Engine 0 as `x`, running the built-in program with cycles and program to spare. -/
def wNe (x : Ne) : State := { wOn with ne := [(0, { x with run := true, mask := 1 })] }

theorem wNe_room (x : Ne) (c : Nat) (hc : x.cyc + c < 17440) (hp : x.pc + 1 < 40) (hf : x.frame = 0) : NeRoom 0 (wNe x) c := by
  have hg : neGet (wNe x) 0 = { x with run := true, mask := 1 } := by simp [wNe, neGet, mget]
  have hv : viewFrame x.frame (wNe x) = wNe x := by simp [viewFrame, wNe, wOn, hf]
  have hb : neBudget (wNe x) 0 = 17440 := rfl
  have hl : neLen (wNe x) 0 = 40 := rfl
  exact ⟨by rw [hg], by rw [hg]; simpa [hv, hb] using hc, by rw [hg]; simpa [hv, hl] using hp⟩

theorem witness_NeLaneArithmetic : NeRoom 0 (wNe { pc := 38, cyc := 17438 }) 1 ∧ NeRoom 0 (wNe { cyc := 17437 }) 2 :=
  ⟨wNe_room _ _ (by decide) (by decide) rfl, wNe_room _ _ (by decide) (by decide) rfl⟩

theorem witness_NeScalarMaskAndBranch :
    NeRoom 0 (wNe { pc := 38, cyc := 17438 }) 1 ∧ (7 : BitVec 4).toNat < 8 ∧ (0x3FFD : BitVec 14).toNat % 8 ≤ 5 ∧
    (neGet (wNe { stack := [1, 2, 3] }) 0).stack.length < 4 ∧ (neGet (wNe { stack := [1, 2, 3, 4] }) 0).stack = 1 :: [2, 3, 4] ∧
    NeRoom 0 (wNe { stack := [1, 2, 3, 4] }) 1 ∧ NeRoom 0 (wNe { cyc := 17437 }) 2 ∧ (39 : BitVec 14).toNat < 1024 ∧
    (39 : BitVec 14).toNat < neLen (viewFrame (neGet (wNe {}) 0).frame (wNe {})) 0 :=
  ⟨wNe_room _ _ (by decide) (by decide) rfl, by decide, by decide, by decide +kernel, by decide +kernel,
    wNe_room _ _ (by decide) (by decide) rfl, wNe_room _ _ (by decide) (by decide) rfl, by decide, by decide +kernel⟩

/-- Lane 0 with a window of `n` bins. -/
def wWin (n : Nat) : State := wNe { lanes := [(0, { wlen := n })] }

theorem witness_NeBinAndScan :
    NeRoom 0 (wWin 9) 3 ∧ (6 : BitVec 14).toNat % 32 = 6 ∧ (9 = maxLane (neGet (wWin 9) 0) (·.wlen) ∧ 0 < 9 ∧ NeRoom 0 (wWin 9) (4 + (9 + 7) / 8)) ∧
    (4 : BitVec 14).toNat % 4 = 0 ∧ (2 : BitVec 14).toNat % 4 = 2 ∧ (∀ l, l < 8 → (lnGet (neGet (wWin 4096) 0) l).wlen ≤ 4096) ∧
    NeRoom 0 (wWin 4096) (max (2 + (4096 + 7) / 8) 11) ∧ (14 : BitVec 4).toNat % 2 = 0 ∧ (7 : BitVec 14).toNat % 8 ≠ 0 :=
  ⟨wNe_room _ _ (by decide) (by decide) rfl, by decide, ⟨by decide +kernel, by decide, wNe_room _ _ (by decide) (by decide) rfl⟩, by decide,
    by decide, by decide +kernel, wNe_room _ _ (by decide) (by decide) rfl, by decide, by decide⟩

/-- An engine in its last groups, with contexts of both modes for lane 0. -/
def wCtx (mode j : Nat) : State :=
  { wNe { lanes := [(0, { wbase := j, e := { range := 100, intensity := 9 }, slots := [{ range := 90, intensity := 5 }] })] } with
    hg := { ctx := [(0, { mode := mode, wins := [(0, 0)] })] } }

theorem witness_NeEchoesAndEnds :
    NeRoom 0 (wCtx 2 0) 2 ∧ (ctxGet (wCtx 2 0) 0 (laneCh 0 (neGet (wCtx 2 0) 0) 0)).mode = 2 ∧
    ((ctxGet (wCtx 1 511) 0 0).mode = 1 ∧ (lnGet (neGet (wCtx 1 511) 0) 0).wbase < 512) ∧
    (512 ≤ 575 ∧ 575 < 1024 ∧ (575 - 512) / 64 < (ctxGet (wCtx 1 575) 0 0).wins.length) ∧ (ctxGet (wCtx 1 576) 0 0).wins.length ≤ (576 - 512) / 64 ∧
    (∃ e ∈ (lnGet (neGet (wCtx 2 0) 0) 0).slots, ((e.range : Int) - 100).natAbs ≤ 10) ∧
    (neGet (wCtx 2 0) 0).run = true ∧ (0 + 12 + 0 < neBudget (viewFrame 0 (wNe {})) 0 ∧ (neGet (wNe { group := 4 }) 0).group < 5) ∧
    (neGet (wNe { group := 5 }) 0).group = 5 ∧ ((neGet (wNe {}) 0).lastStep = false ∧ (neGet (wNe { group := 5 }) 0).group ≤ 5) ∧
    (neGet (wNe { cyc := 17440 }) 0).cyc ≤ neBudget (viewFrame 0 (wNe {})) 0 := by
  refine ⟨wNe_room _ _ (by decide) (by decide) rfl, ?_⟩
  decide +kernel

/-- A plan program of two words that stands at word `pc`, with P0 = `a`. -/
def wFp (pc : Nat) (a : Word) : State :=
  { wCfg 0x2700 1 [1] (wCfg 0x2700 2 [0, 8] wOn) with fp := { run := true, pc := pc, p := [(0, a)] }, pw := { dp := .scanning, scanned := true, st := 5 } }

theorem witness_PlanInstructions :
    FpRoom (wFp 2046 0) ∧ ((2047 : BitVec 14).toNat < 2048 ∧ (2047 : BitVec 14).toNat < fpLen (wFp 0 0)) ∧
    ((0x2FFF : BitVec 14).toNat / 2048 ≤ 5 ∧ (0x2FFF : BitVec 14).toNat % 2048 < fpLen (wFp 0 0)) ∧
    inListed ((39 : BitVec 14).toNat % 64) = true ∧ inListed ((9 : BitVec 14).toNat % 64) = true ∧ inListed 16 = true ∧
    (preg (wFp 0 1023) 0).toNat < 1024 := by
  unfold FpRoom; decide +kernel

theorem witness_PlansAndShotLists :
    ((advance w10 (wFp 0 0)).pw.scanned = true ∧ (advance w10 (wFp 0 0)).pw.dp = .scanning ∧ fpNone (advance w10 (wFp 0 0)) (wFp 0 0).pw.st false = false) ∧
    (wFp 0 0).fp.run = true ∧
    (let s : State := { wFp 0 0 with ex := { nextReady := true } }
     s.pw.dp = .scanning ∧ s.ex.missed = false ∧ s.ex.takenOk = false ∧ s.ex.nextReady = true ∧ s.ex.nextStep = upcoming (advance w10 s)) ∧
    (let s : State := { wFp 0 0 with ex := { nextReady := true, nextStep := 7 } }
     s.ex.missed = false ∧ s.ex.takenOk = false ∧ s.ex.nextStep ≠ upcoming (advance w10 s) ∧ wOn.ex.nextReady = false) ∧
    ({ wFp 0 0 with ex := { missed := true } } : State).ex.missed = true ∧ ({ wFp 0 0 with ex := { takenOk := true } } : State).ex.takenOk = true := by
  decide +kernel

/-! ### Witnesses: zones and mailboxes -/

/-- The cell of channel 0 at column 0 names zone 3 from 1,000 mm to 2,000 mm; an echo at `r` mm and a point word wait. -/
def wZone (r pass : Nat) (due sil : Bool) : State :=
  let s := wCfg 0x3003 1 [1] (wCfg 0x3003 6 [1] wOn)
  { s with
    cf := { s.cf with map := { cells := [(0, 0x40000)], pool := [(0, 2000 * 2 ^ 45 + 1000 * 2 ^ 26 + 3 * 2 ^ 16)] } }
    ze := { q := [⟨0, 0, 0, { range := r, pass := pass, sil := sil }⟩], qp := [⟨0, 0, 0, true⟩], latchDue := due } }

theorem wZone_hits : Hits (wZone 1000 1 false true) ⟨0, 0, 0, { range := 1000, pass := 1, sil := true }⟩ 3 ∧
    Hits (wZone 2000 1 false true) ⟨0, 0, 0, { range := 2000, pass := 1 }⟩ 3 ∧ ¬ Hits (wZone 2001 1 false true) ⟨0, 0, 0, { range := 2001, pass := 1 }⟩ 3 ∧
    Names (wZone 1000 1 false true) 0 0 3 ∧ ¬ Names (wZone 1000 1 false true) 0 0 4 := by
  unfold Hits Names; decide +kernel

theorem witness_ZoneEvaluation :
    ((∃ x, (wZone 1000 1 false true).ze.q = x :: [] ∧ zeReady (wZone 1000 1 false true) x.frame = true ∧ x.e.pass ≠ 0 ∧ x.e.sil = true) ∧
      znOn (wZone 1000 1 false true) 3 = true ∧ znSilskip (wZone 1000 1 false true) 3 = true) ∧
    (∃ x, (wZone 1000 0 false false).ze.q = x :: [] ∧ x.e.pass = 0 ∧ x.e.sil = false) ∧
    (∃ x, (wZone 1000 1 false true).ze.qp = x :: [] ∧ zeReady (wZone 1000 1 false true) x.frame = true ∧ x.np = true) ∧
    (∃ x, (wZone 1000 1 true true).ze.q = x :: [] ∧ zeReady (wZone 1000 1 true true) x.frame = false) ∧ wOn.ze.q = [] := by
  refine ⟨⟨⟨_, rfl, ?_⟩, ?_⟩, ⟨_, rfl, ?_⟩, ⟨_, rfl, ?_⟩, ⟨_, rfl, ?_⟩, rfl⟩ <;> decide +kernel

theorem witness_ZoneLatch :
    (let s := wZone 1000 1 true true
     s.ze.latchDue = true ∧ neOwes s s.ze.latchFrame = false ∧ znOn s 3 = true ∧ znOn s 4 = false ∧ s.ze.refillAll = false ∧ 0 < znN s 3 ∧ 0 < znK s 3) ∧
    wOn.ze.latchDue = false ∧ neOwes { wOn with hg := { relDue := 1 } } 0 = true := by
  decide +kernel

/-- A mailbox of frame `f` on its way to both channels; channel A has taken that of frame 6, and saw the boundary of frame 7 at 10 s. -/
def wMbox (f : BitVec 32) (got : Bool) : State :=
  { wSaf (fun x => { x with lastBnd := some w10, lastBndFrame := 7, mbGot := got, mbFrame := 6 }) wOn with
    ze := { mboxA := some ⟨f, w10, [], 0⟩, mboxB := some ⟨f, w10, [], 0⟩, latchOk := true }, pw := { dp := .scanning } }

theorem witness_Mailboxes :
    ((wMbox 7 true).ze.latchOk = true ∧ dpOn (wMbox 7 true) = true ∧ wOn.ze.latchOk = false ∧ wOn.pw.dp ≠ .stopped) ∧
    (let s := wMbox 7 true
     s.sys.oper = true ∧ mboxOf s .a = some ⟨7, w10, [], 0⟩ ∧ (getC s .a).lastBnd = some w10 ∧ (getC s .a).mbGot = true ∧
     0 < ((7 : BitVec 32) - (getC s .a).mbFrame).toInt ∧ (getC s .a).lastBndFrame = 7 ∧ (advance (w10 + 3 * msNs) s).sys.now ≤ w10 + 3 * msNs) ∧
    ((6 : BitVec 32) - (getC (wMbox 6 true) .a).mbFrame).toInt ≤ 0 ∧ (getC (wMbox 6 true) .a).mbGot = true ∧
    w10 + 3 * msNs < (advance (w10 + 3 * msNs + 1) (wMbox 7 true)).sys.now ∧
    (w10 + 3 * msNs ≤ (advance (w10 + 3 * msNs) (wMbox 7 true)).sys.now ∧ (getC (wMbox 7 true) .a).dlDone = false ∧
      mboxInTime (getC (wMbox 7 true) .a) = false) ∧
    (let s := wSaf (fun x => { x with mbFrame := 7, xIn := some ⟨0, 0, 0, 0, 7, 0, true, 0⟩ }) (wMbox 7 true)
     mboxInTime (getC s .a) = true ∧ ∃ g, (getC s .a).xIn = some g ∧ g.got = (getC s .a).mbGot ∧ g.frame = (getC s .a).mbFrame) ∧
    (let s := wSaf (fun x => { x with xFrameDiff := 1, xIn := some ⟨0, 0, 0, 0, 5, 0, true, 0⟩ }) (wMbox 7 true)
     mboxInTime (getC s .a) = false ∧ 1 ≤ (getC s .a).xFrameDiff ∧ ∃ g, (getC s .a).xIn = some g ∧ g.frame ≠ (getC s .a).mbFrame) ∧
    (advance (w10 + 3 * msNs - 1) (wMbox 7 true)).sys.now < w10 + 3 * msNs := by
  refine ⟨by decide +kernel, by decide +kernel, by decide +kernel, by decide +kernel, by decide +kernel, by decide +kernel, ⟨by decide +kernel, _, rfl, by decide +kernel⟩,
    ⟨by decide +kernel, by decide +kernel, _, rfl, by decide +kernel⟩, by decide +kernel⟩

/-! ### Witnesses: safety channels -/

/-- Pair 0 of ROLE 1 in channel A as `x`, and SQ0 DIRECT with its switches closed as `sw` says. -/
def wPair (x : Pair) (sw : BitVec 4) : State :=
  wSaf (fun f => { f with pairs := [(0, x)], sw := sw, rwait := ~~~sw, xAt := w10 - 3 * msNs, xDiff := [(0, 19)], rbOnSince := [(0, w10 - msNs)] })
    (wCfg 0x4000 0x10 [1] (wCfg 0x4400 0x10 [1] wOn))

theorem witness_SafeInputs :
    (let s := wPair {} 0
     s.sys.oper = true ∧ sinRole s 0 ≠ 0 ∧ termReads s 0 false ⟨[11000]⟩ = (prGet (getC s .a) 0).fA) ∧
    (let s := wPair { runA := tFilt (wPair {} 0) 0 - 1 } 0
     termReads s 0 false ⟨[11001]⟩ ≠ (prGet (getC s .a) 0).fA ∧ tFilt s 0 ≤ (prGet (getC s .a) 0).runA + 1) ∧
    ((prGet (getC (wPair {} 0) .a) 0).runA + 1 < tFilt (wPair {} 0) 0) ∧
    (let s := wPair { fA := true, timer := some (w10 - tDisc (wPair {} 0) 0 - msNs) } 1
     (prGet (getC s .a) 0).timer = some (w10 - tDisc (wPair {} 0) 0 - msNs) ∧ (prGet (getC s .a) 0).fA ≠ (prGet (getC s .a) 0).fB ∧
     (prGet (getC s .a) 0).disc = false ∧ w10 - tDisc (wPair {} 0) 0 - msNs + tDisc s 0 + msNs ≤ (advance w10 s).sys.now) ∧
    (sinMode (wPair {} 0) 0 ≠ 1 ∧ sinMode (wCfg 0x4000 0x18 [1] wOn) 0 = 1 ∧ readsOn 5001 = true ∧ readsOn 5000 = false) ∧
    (sqFunc (wPair {} 1) 0 ≠ 0 ∧ demandNow (wPair {} 1) .a 0 = true) := by
  decide +kernel

theorem witness_ChannelTimeoutsAndCrossWords :
    (let s := wPair { timer := some (w10 - tDisc (wPair {} 0) 0 - msNs) } 0
     s.sys.oper = true ∧ (prGet (getC s .a) 0).timer = some (w10 - tDisc (wPair {} 0) 0 - msNs) ∧ (prGet (getC s .a) 0).disc = false ∧
     sinRole s 0 ≠ 0 ∧ w10 - tDisc (wPair {} 0) 0 - msNs + tDisc s 0 + msNs ≤ (advance w10 s).sys.now) ∧
    (let s := wPair { timer := some (w10 + msNs - tDisc (wPair {} 0) 0) } 0
     (prGet (getC s .a) 0).timer = some (w10 + msNs - tDisc (wPair {} 0) 0) ∧
     (advance w10 s).sys.now - (w10 + msNs - tDisc (wPair {} 0) 0) + msNs ≤ tDisc s 0) ∧
    (getC (wPair {} 0) .a).xAt + 3 * msNs ≤ (advance w10 (wPair {} 0)).sys.now ∧
    ((getC (wEdge (w10 - 3001 * msNs)) .a).rstHigh = some (w10 - 3001 * msNs) ∧
      w10 - 3001 * msNs + 3001 * msNs ≤ (advance w10 (wEdge (w10 - 3001 * msNs))).sys.now) ∧
    (let s : State := { wPair { active := true } 0 with out := { xA := some ⟨0, 0, 1, 0, 0, 0, false, 0⟩ } }
     s.out.xA = some ⟨0, 0, 1, 0, 0, 0, false, 0⟩ ∧ bget (1 : BitVec 8) 0 = true ∧ sinRole s 0 ≠ 0 ∧ (prGet (getC s .a) 0).disc = false ∧
     (prGet (getC s .a) 0).active ≠ bget (0 : BitVec 8) 0 ∧ 19 ≤ mget 0 (getC s .a).xDiff 0) := by
  decide +kernel

/-- Both switches of SQ0 closed, with its test pulses as `x`. -/
def wTest (x : Tp) : State :=
  let s := wPair {} 1
  { s with safB := { sw := 1, rwait := 14 }, out := { tp := [(0, x)] } }

theorem witness_ReadbackAndTestPulses :
    (let s := wPair {} 0
     s.sys.oper = true ∧ bget (1 : BitVec 4) 0 = true ∧ swClosed s .a 0 = false ∧ swClosed s (otherC .a) 0 = false ∧
     lastOpened s 0 + msNs < (advance w10 s).sys.now ∧ sqFunc s 0 ≠ 0 ∧ mlook (getC s .a).rbOnSince 0 = some (w10 - msNs) ∧
     w10 - msNs + msNs ≤ (advance w10 s).sys.now) ∧
    (let s := wTest { due := some w10 }
     (tpGet s 0).due = some w10 ∧ w10 ≤ (advance w10 s).sys.now ∧ pairOn s 0 = true ∧ tpBlocked s 0 = false ∧ tpBusy s = false ∧
     (s.out.lastEnd ≤ w10 ∨ s.out.lastEnd + 20000 ≤ (advance w10 s).sys.now)) ∧
    ((tpGet (wTest { by_ := some .a }) 0).by_ = some .a ∧ (tpGet (wTest { by_ := some .a }) 0).dropped = false ∧
      (let s := wTest { by_ := some .a, start := w10 - tpWidth (wTest {}) 0 }
       (tpGet s 0).by_ = some .a ∧ (tpGet s 0).start + tpWidth s 0 ≤ (advance w10 s).sys.now) ∧
      (tpGet (wTest { by_ := some .b, dropped := true }) 0).dropped = true) := by
  decide +kernel

/-- Monitor 0 in use, in RAMP since `ts`, with an encoder reading. -/
def wDm (ts : Nat) : State :=
  wSaf (fun f => { f with dm0 := { st := 2, ts := ts, ab1 := some 0 } }) (wCfg 0x4400 0x30 [1] (wCfg 0x4400 0x10 [2] wOn))

theorem witness_DriveMonitors :
    ((wDm 0).sys.oper = true ∧ (dmGet (getC (wDm 0) .a) 0).ab1 = some 0 ∧ quadStep 0 1 = some 1 ∧ quadStep 0 2 = some (-1) ∧ quadStep 0 0 = some 0 ∧
      quadStep 0 3 = none ∧ dmUsed (wDm 0) 0 = true) ∧
    (let s := wDm (w10 - cfgN (wDm 0) 0x4400 0x3E * msNs)
     (dmGet (getC s .a) 0).st = 2 ∧ (dmGet (getC s .a) 0).ts + cfgN s 0x4400 (0x3E + 0) * msNs ≤ (advance w10 s).sys.now ∧ sqFunc s 0 = 2 ∧ sqDm s 0 = 0) := by
  decide +kernel

theorem witness_RestartEdge :
    ((wEdge (w10 - 99 * msNs)).sys.oper = true ∧ (getC (wEdge (w10 - 99 * msNs)) .a).rstHigh = some (w10 - 99 * msNs) ∧
      (advance w10 (wEdge (w10 - 99 * msNs))).sys.now - (w10 - 99 * msNs) ≤ 99 * msNs) ∧
    3001 * msNs ≤ (advance w10 (wEdge (w10 - 3001 * msNs))).sys.now - (w10 - 3001 * msNs) ∧
    (101 * msNs ≤ (advance w10 (wEdge (w10 - 101 * msNs))).sys.now - (w10 - 101 * msNs) ∧
      (advance w10 (wEdge (w10 - 2999 * msNs))).sys.now - (w10 - 2999 * msNs) ≤ 2999 * msNs) := by
  decide +kernel

/-- A valid edge at 10 s on a DIRECT pair with nothing against it closes the switch of its channel. -/
theorem test_restart_closes :
    (match exec (.resetFallingEdge w10 .a) { wEdge (w10 - 500 * msNs) with
       cf := { loaded := true, defaults := false, safety := true, eff := [(okey 0x4400 0x10, [1])] }, sup := { holdReady := true } } with
     | .next u => u.safA.sw
     | _ => 0) = 1 := by
  decide +kernel

/-! ### Default values along a row -/

/-- Row `o` covers all of the indices from `lo` to `hi`, or none of them, at subindex `s`. -/
def rowRun (lo hi s : Nat) (o : Obj) : Bool :=
  !inRun s o.s0 o.ns o.sst || (o.ist == 1 && (decide (hi ≤ o.i0) || decide (o.i0 + o.ni ≤ lo) || (decide (o.i0 ≤ lo) && decide (hi ≤ o.i0 + o.ni))))

theorem has_run (lo hi s i : Nat) (o : Obj) (h : rowRun lo hi s o = true) (h1 : lo ≤ i) (h2 : i < hi) : o.has i s = o.has lo s := by
  unfold Obj.has Obj.hasIx
  cases hs : inRun s o.s0 o.ns o.sst with
  | false => simp
  | true =>
    simp only [rowRun, hs, Bool.not_true, Bool.false_or, Bool.and_eq_true, Bool.or_eq_true, beq_iff_eq, decide_eq_true_eq] at h
    obtain ⟨h0, h⟩ := h
    simp only [Bool.and_true, inRun, h0, Nat.mod_one, Nat.div_one, decide_true]
    rw [← Bool.decide_and, ← Bool.decide_and]
    exact decide_eq_decide.mpr (by omega)

theorem objAt_run (lo hi s i : Nat) (h : objs.all (rowRun lo hi s) = true) (h1 : lo ≤ i) (h2 : i < hi) : objAt i s = objAt lo s := by
  have : ∀ l : List Obj, l.all (rowRun lo hi s) = true → l.find? (fun o => o.has i s) = l.find? (fun o => o.has lo s) := by
    intro l
    induction l with
    | nil => exact fun _ => rfl
    | cons o l ih =>
      intro h
      rw [List.all_cons, Bool.and_eq_true] at h
      rw [List.find?_cons, List.find?_cons, has_run lo hi s i o h.1 h1 h2, ih h.2]
  exact this _ h

theorem cfgN_default (v : State) (i s : Nat) (o : Obj) (d : Int) (he : v.cf.eff = []) (hs : s < 256) (hi : i < 65536) (ho : objAt i s = some o)
    (ht : o.ty ≠ .dom) (hd : o.default i s = d) : cfgN v i s = (decVal o.ty (encVal o.ty d)).toNat := by
  have hx : keyIx (okey i s) = i := by simp only [keyIx, okey]; omega
  have hk : keySub (okey i s) = s := by simp only [keySub, okey]; omega
  have hb : o.defaultBytes i s = encVal o.ty d := by unfold Obj.defaultBytes; split <;> simp_all
  simp only [cfgN, cfgI, intIn, valIn, he, mlook, Option.getD_none, keyDefault, hx, hk, ho, hb]

theorem default_plain (o : Obj) (i s : Nat) (h0 : o.i0 ≠ 0x2000) (h1 : i ≠ 0x2500) (h2 : i ≠ 0x2600) (h3 : o.i0 ≠ 0x5000) (h4 : i ≠ 0x5100) :
    o.default i s = o.dflt := by
  simp [Obj.default, h0, h1, h2, h3, h4]

theorem notes_default (v : State) (n s : Nat) (o : Obj) (he : v.cf.eff = []) (hs : s < 256) (hn : n < 192) (hr : objs.all (rowRun 0x2200 0x22C0 s) = true)
    (ho : objAt 0x2200 s = some o) (h0 : o.i0 ≠ 0x2000) (h3 : o.i0 ≠ 0x5000) (ht : o.ty ≠ .dom) :
    cfgN v (0x2200 + n) s = (decVal o.ty (encVal o.ty o.dflt)).toNat :=
  cfgN_default v _ s o _ he hs (by omega) (by rw [objAt_run 0x2200 0x22C0 s _ hr (by omega) (by omega)]; exact ho) ht
    (default_plain o _ s h0 (by omega) (by omega) h3 (by omega))

theorem zones_default (v : State) (n s : Nat) (o : Obj) (he : v.cf.eff = []) (hs : s < 256) (hn : n < 1024) (hr : objs.all (rowRun 0x3000 0x3400 s) = true)
    (ho : objAt 0x3000 s = some o) (h0 : o.i0 ≠ 0x2000) (h3 : o.i0 ≠ 0x5000) (ht : o.ty ≠ .dom) :
    cfgN v (0x3000 + n) s = (decVal o.ty (encVal o.ty o.dflt)).toNat :=
  cfgN_default v _ s o _ he hs (by omega) (by rw [objAt_run 0x3000 0x3400 s _ hr (by omega) (by omega)]; exact ho) ht
    (default_plain o _ s h0 (by omega) (by omega) h3 (by omega))

theorem notes_ok (v : State) (he : v.cf.eff = []) : (List.range 192).all (fun n => okNotes v (0x2200 + n)) = true := by
  rw [List.all_eq_true]
  intro n hn
  have hn := List.mem_range.mp hn
  have h3 := notes_default v n 3 (oCm 0x2200 3 .u16 8 500 40 4 1 192) he (by decide) hn (by decide +kernel) (by decide +kernel) (by decide) (by decide) (by decide)
  have h4 := notes_default v n 4 (oCm 0x2200 4 .u16 16 900 120 4 1 192) he (by decide) hn (by decide +kernel) (by decide +kernel) (by decide) (by decide) (by decide)
  have h5 := notes_default v n 5 (oCm 0x2200 5 .u16 24 992 800 4 1 192) he (by decide) hn (by decide +kernel) (by decide +kernel) (by decide) (by decide) (by decide)
  unfold okNotes
  rw [h3, h4, h5]
  decide

theorem zones_ok (v : State) (he : v.cf.eff = []) : (List.range 1024).all (fun n => okDebounce v (0x3000 + n)) = true := by
  rw [List.all_eq_true]
  intro n hn
  have hn := List.mem_range.mp hn
  have h3 := zones_default v n 3 (oCs 0x3000 3 .u8 1 15 1 1 1 1024) he (by decide) hn (by decide +kernel) (by decide +kernel) (by decide) (by decide) (by decide)
  have h4 := zones_default v n 4 (oCs 0x3000 4 .u8 1 15 1 1 1 1024) he (by decide) hn (by decide +kernel) (by decide +kernel) (by decide) (by decide) (by decide)
  unfold okDebounce
  rw [h3, h4]
  decide

/-- The state of no configuration but the defaults. -/
def wDefault : State := { cf := { eff := [] } }

theorem wDefault_small : (okVld wDefault && (List.range 4).all (okStrips wDefault) && okCodes wDefault && okGates wDefault && okReset wDefault) = true := by
  decide +kernel

theorem wDefault_outputs : (okOutputs wDefault && (List.range 8).all (okHead wDefault)) = true := by decide +kernel

theorem wDefault_axle : okAxle wDefault = true := by decide +kernel

/-- The rules of consistency look at the values in effect alone. -/
theorem consistent_eff (v : State) : allConsistent v = allConsistent { cf := { eff := v.cf.eff } } := rfl

/-- The default configuration breaks no rule of consistency. -/
theorem consistent_default (v : State) (he : v.cf.eff = []) : allConsistent v = true := by
  have h1 := wDefault_small
  have h2 := wDefault_outputs
  simp only [Bool.and_eq_true] at h1 h2
  obtain ⟨⟨⟨⟨a, b⟩, c⟩, d⟩, e⟩ := h1
  rw [consistent_eff, he]
  change allConsistent wDefault = true
  simp only [allConsistent, a, b, c, d, e, h2.1, h2.2, wDefault_axle, notes_ok wDefault rfl, zones_ok wDefault rfl, Bool.and_self]

/-! ### Witnesses: commits, sessions, map, log -/

theorem leNat_leBytes4 (x : Nat) : leNat (leBytes 4 x) = x % 2 ^ 32 := by
  simp [leBytes, leNat]; omega

theorem crcRBit_lt (p c : Nat) (hp : p < 2 ^ 32) (hc : c < 2 ^ 32) : crcRBit p c < 2 ^ 32 := by
  unfold crcRBit; split
  · exact Nat.xor_lt_two_pow (by omega) hp
  · omega

theorem crc32c_lt (bs : List Byte) : crc32c bs < 2 ^ 32 := by
  have hb : ∀ (l : List Nat) (c : Nat), c < 2 ^ 32 → l.foldl (fun c _ => crcRBit 0x82F63B78 c) c < 2 ^ 32 := by
    intro l
    induction l with
    | nil => exact fun _ h => h
    | cons _ _ ih => exact fun c h => ih _ (crcRBit_lt _ _ (by decide) h)
  have hf : ∀ (l : List Byte) (c : Nat), c < 2 ^ 32 → l.foldl (crcRByte 0x82F63B78) c < 2 ^ 32 := by
    intro l
    induction l with
    | nil => exact fun _ h => h
    | cons b _ ih =>
      exact fun c h => ih _ (hb _ _ (Nat.xor_lt_two_pow h (by have := b.isLt; omega)))
  exact Nat.xor_lt_two_pow (hf bs _ (by decide)) (by decide)

/-- MRAM ready; commit at frame `f` with the check value `crc` for what is staged, which nothing is; `n` entries in the log; the last
boundary at `b`. -/
def wGo (f crc n b : Nat) : State :=
  { wOn with
    sup := { holdReady := true }
    cf := { loaded := true, live := [(okey 0x1100 0x10, leBytes 4 crc), (okey 0x1100 0x11, [1]), (okey 0x1100 0x12, leBytes 4 f)] }
    sess := { log := List.replicate n ⟨1, 1, 0, 0, 0, 0, 0, 0, [], 0⟩ }
    pw := { lastB := b } }

theorem stagedCrc_plain (s : State) (hs : s.cf.staged = []) (hm : s.cf.mapStage = none) :
    stagedCrc s = crc32c (imageOf s.sys.variant s.cf.eff s.cf.map) := by
  unfold stagedCrc; rw [hs, hm]; rfl

theorem wGo_live (f x n b : Nat) : liveN (wGo f x n b) 0x1100 0x10 = leNat (leBytes 4 x) := rfl

theorem wGo_crc (f n b : Nat) : stagedCrc (wGo f (stagedCrc wOn) n b) = liveN (wGo f (stagedCrc wOn) n b) 0x1100 0x10 := by
  rw [wGo_live, leNat_leBytes4, Nat.mod_eq_of_lt (show stagedCrc wOn < 2 ^ 32 from crc32c_lt _), stagedCrc_plain _ rfl rfl, stagedCrc_plain wOn rfl rfl]
  rfl

/-- The same with a safety object staged in a session. -/
def wGoS (f n b : Nat) : State :=
  let s := wGo f 0 n b
  { s with cf := { s.cf with staged := [(okey 0x4000 0x10, [1])] }, sess := { s.sess with user := 1 } }

theorem copyTime_plain (s : State) :
    copyTime [] none s = 200000 + 2 * (500000 + 50000 * storedKib s.sys.variant s.cf.eff s.cf.map) := rfl

theorem copyTime_wOn (s : State) (hv : s.sys.variant = wOn.sys.variant) (he : s.cf.eff = wOn.cf.eff) (hm : s.cf.map = wOn.cf.map) :
    copyTime [] none s = copyTime [] none wOn := by
  rw [copyTime_plain, copyTime_plain wOn, hv, he, hm]

/-- A commit of nothing, or of a safety object, at frame 1, with the check value `crc`. -/
def wPendC (crc : Nat) (safety verified written : Bool) : Pend :=
  { mode := 1, frame := 1, time := 0, safety := safety, verified := verified, crc := crc, writeAt := none, written := written, user := 1,
    set := [], map := none }
def wPend : Bool → Bool → Bool → Pend := wPendC 0

theorem advance_w10 (s : State) (h : s.sys.now = w10) : (advance w10 s).sys.now = w10 := by
  show s.sys.now + (w10 - s.sys.now) = w10
  omega

theorem timeLeft_true (p : Pend) (s : State) (c : Nat) (hs : p.set = []) (hm : p.map = none) (hn : copyTime [] none s = c)
    (h : s.sys.now + c + msNs ≤ s.pw.lastB) : timeLeft p s = true := by
  unfold timeLeft; rw [hs, hm, hn]; exact decide_eq_true (Nat.le_trans h (Nat.le_add_right _ _))

theorem timeLeft_false (p : Pend) (s : State) (h : s.pw.lastB + boundariesTo p.mode p.frame p.time s * periodNow s < s.sys.now) :
    timeLeft p s = false := by
  unfold timeLeft
  refine decide_eq_false (Nat.not_le.mpr (Nat.lt_of_lt_of_le h ?_))
  rw [Nat.add_assoc]; exact Nat.le_add_right _ _

theorem wGo_copy (k b : Nat) : copyTime [] none (advance w10 (wGo 1 k 0 b)) = copyTime [] none wOn := copyTime_wOn _ rfl rfl rfl

theorem wGo_time (k c b : Nat) (hc : copyTime [] none wOn = c) (hb : w10 + c + msNs ≤ b) :
    timeLeft (commitNow (wGo 1 k 0 b)) (advance w10 (wGo 1 k 0 b)) = true :=
  timeLeft_true _ _ c rfl rfl ((wGo_copy k b).trans hc) (by rw [advance_w10 _ rfl]; exact hb)

theorem wGo_late : timeLeft (commitNow (wGo 1 (stagedCrc wOn) 0 0)) (advance w10 (wGo 1 (stagedCrc wOn) 0 0)) = false :=
  timeLeft_false _ _ (by decide +kernel)

theorem wGo_open (k n b : Nat) : boundaryPast (commitNow (wGo 1 k n b)).mode (commitNow (wGo 1 k n b)).frame (commitNow (wGo 1 k n b)).time (wGo 1 k n b) = false :=
  (by decide +kernel : boundaryPast 1 1 0 (wGo 1 0 0 0) = false)

theorem wOn_consistent : allConsistent (committedView (wPend false false false) wOn) = true :=
  consistent_default _ rfl

theorem wGo_consistent : setConsistent (commitNow (wGo 1 (stagedCrc wOn) 0 0)) (wGo 1 (stagedCrc wOn) 0 0) = true :=
  consistent_default _ rfl

/-- `wGo` with `e` staged. -/
def wGoE (e : Nat × List Byte) (k : Nat) : State := { wGo 1 k 0 0 with cf := { (wGo 1 k 0 0).cf with staged := [e] } }

theorem wGoE_live (e : Nat × List Byte) (k : Nat) : liveN (wGoE e k) 0x1100 0x10 = leNat (leBytes 4 k) := rfl

theorem stagedCrc_one (s : State) (e : Nat × List Byte) (hs : s.cf.staged = [e]) (hm : s.cf.mapStage = none) :
    stagedCrc s = crc32c (imageOf s.sys.variant (afterCommit s.cf.eff [e]) s.cf.map) := by
  unfold stagedCrc; rw [hs, hm]; rfl

theorem wGoE_staged (e : Nat × List Byte) (k : Nat) :
    stagedCrc (wGoE e k) = crc32c (imageOf wOn.sys.variant (afterCommit wOn.cf.eff [e]) wOn.cf.map) := stagedCrc_one _ e rfl rfl

theorem wGoE_crc (e : Nat × List Byte) : stagedCrc (wGoE e (stagedCrc (wGoE e 0))) = liveN (wGoE e (stagedCrc (wGoE e 0))) 0x1100 0x10 := by
  rw [wGoE_live, leNat_leBytes4, Nat.mod_eq_of_lt (show stagedCrc (wGoE e 0) < 2 ^ 32 from crc32c_lt _), wGoE_staged, wGoE_staged]

theorem wGoE_inconsistent : setConsistent (commitNow (wGoE (okey 0x2600 5, [31]) 0)) (wGoE (okey 0x2600 5, [31]) 0) = false := by
  have h : okCodes (committedView (commitNow (wGoE (okey 0x2600 5, [31]) 0)) (wGoE (okey 0x2600 5, [31]) 0)) = false := by decide +kernel
  unfold setConsistent allConsistent
  rw [h, Bool.and_false]
  rfl

theorem witness_CommitGo :
    (wOn.sys.mgmtUp = true ∧ wOn.sup.vstate ≠ 2) ∧
    (let s : State := { wOn with cf := { staged := [(okey 0x4000 0x10, [1])] } }
     stagedSafety s = true ∧ sessionOn s .host = false) ∧
    (stagedSafety wOn = false ∧ wOn.sup.holdReady = false ∧ (wGo 0 0 0 0).sup.holdReady = true ∧ sessionOn (wGoS 1 0 0) .host = true) ∧
    (stagedMaskZero (wGoE (okey 0x2000 5, [0]) 0) = true ∧ stagedMaskZero (wGo 1 0 0 0) = false) ∧
    boundaryPast 1 0 0 (wGo 0 0 0 0) = true ∧
    (let s := wGo 1 0 0 0
     s.cf.pend = none ∧ (commitNow s).safety = false) ∧
    (stagedSafety (wGoE (okey 0x2600 5, [31]) 0) = false ∧ stagedMaskZero (wGoE (okey 0x2600 5, [31]) 0) = false) ∧
    ((commitNow (wGoS 1 512 0)).safety = true ∧ 512 ≤ (wGoS 1 512 0).sess.log.length ∧ (wGoS 1 511 0).sess.log.length < 512) := by
  decide +kernel

/-- A device with a commit that is pending. -/
def wPending (p : Pend) (b : Nat) : State := { wGo 1 0 0 b with cf := { loaded := true, pend := some p } }

theorem wPending_copy (p : Pend) (b : Nat) : copyTime [] none (advance w10 (wPending p b)) = copyTime [] none wOn := copyTime_wOn _ rfl rfl rfl

theorem wPending_time (c b : Nat) (hc : copyTime [] none wOn = c) (hb : w10 + c + msNs ≤ b) :
    timeLeft (wPend true false false) (advance w10 (wPending (wPend true false false) b)) = true :=
  timeLeft_true _ _ c rfl rfl ((wPending_copy _ b).trans hc) (by rw [advance_w10 _ rfl]; exact hb)

theorem wPending_late : timeLeft (wPend true false false) (advance w10 (wPending (wPend true false false) 0)) = false :=
  timeLeft_false _ _ (by decide +kernel)

theorem verifyCause_zero (s : State) (p : Pend) (c : Chan) (hs : bget (getC s c).latch fltStartup = false) (hx : bget (getC s c).latch fltCross = false)
    (hc : setCrc p.set p.map s = p.crc) (hr : setInRange p = true) (hk : setConsistent p s = true) : verifyCause s p c true = 0 := by
  simp [verifyCause, hs, hx, hc, hr, hk]

theorem wPending_crc (p : Pend) : setCrc [] none (wPending p 0) = setCrc [] none wOn := rfl

/-- A channel whose copy is intact finds nothing wrong with a commit of what stands; one that reads a damaged copy names cause 1. -/
theorem witness_CommitVerification :
    (let p := wPendC (setCrc [] none wOn) true false false
     (wPending p 0).cf.pend = some p ∧ verifyCause (wPending p 0) p .a true = 0 ∧ verifyCause (wPending p 0) p .b true = 0) ∧
    verifyCause wOn (wPend true false false) .a false ≠ 0 ∧ verifyCause wOn (wPend true false false) .b false ≠ 0 ∧
    timeLeft (wPend true false false) (advance w10 (wPending (wPend true false false) (w10 + copyTime [] none wOn + msNs))) = true ∧
    deadlineCome (wPend true false false) (advance w10 (wPending (wPend true false false) 0)) = true := by
  refine ⟨⟨rfl, verifyCause_zero _ _ _ rfl rfl (wPending_crc _) rfl ?_, verifyCause_zero _ _ _ rfl rfl (wPending_crc _) rfl ?_⟩, by simp [verifyCause, getC, wOn, bget],
    by simp [verifyCause, getC, wOn, bget], wPending_time _ _ rfl (Nat.le_refl _), ?_⟩
  · exact wOn_consistent
  · exact wOn_consistent
  · refine decide_eq_true (Nat.le_trans ?_ (Nat.le_trans (Nat.le_add_right _ _) (Nat.le_add_right _ _)))
    decide +kernel

theorem witness_CommitsTakeEffect :
    stagedCrc (wGo 1 (stagedCrc wOn) 0 0) = liveN (wGo 1 (stagedCrc wOn) 0 0) 0x1100 0x10 ∧
    (∃ x, x < 2 ^ 32 ∧ stagedCrc (wGo 1 x 0 0) ≠ liveN (wGo 1 x 0 0) 0x1100 0x10) ∧
    (let s := wPending (wPend true false false) 0
     s.cf.pend = some (wPend true false false) ∧ (wPend true false false).safety = true ∧ (wPend true false false).verified = false ∧
     s.sess.log.length < 512) ∧
    ((wPend true true false).written = false ∧ (wPend true true false).verified = true ∧ (wPend false false false).safety = false) ∧
    (let s := wPending (wPend false false true) (w10 - framePeriod wOn)
     s.sys.powered = true ∧ s.sys.ctrlUp = true ∧ s.pw.st ≠ 2 ∧ s.pw.dp ≠ .scanning ∧ s.pw.lastB + framePeriod s ≤ (advance w10 s).sys.now ∧
     commitNamed (wPend false false true) s.pw.frameNo (advance w10 s).sys.sysTime = true ∧ commitReady (wPend false false true) = true ∧
     commitReady (wPend false false false) = false ∧ commitReady (wPend true false true) = false ∧
     commitNamed (wPend false false true) 1 0 = false) := by
  refine ⟨wGo_crc 1 0 0, ⟨if stagedCrc wOn = 0 then 1 else 0, by split <;> decide, ?_⟩, by decide +kernel⟩
  split
  next h =>
    have h1 : liveN (wGo 1 1 0 0) 0x1100 0x10 = 1 := by decide +kernel
    have h0 : stagedCrc (wGo 1 1 0 0) = stagedCrc wOn := rfl
    rw [h1, h0, h]; decide
  next h => exact h

/-- User 1's passphrase is `pass`, and a value that carries it after `pre` bytes. -/
def wSlot (user : Nat) (pass : List Byte) : State :=
  { wOn with sup := { holdReady := true }, sess := { user := user, lastAct := w10 - 60 * secNs, slots := [(1, ([], passHash [] pass))] } }
def wPass (pre pass : List Byte) : List Byte := pre ++ BitVec.ofNat 8 pass.length :: pass
def wWord : List Byte := [0x41, 0x42, 0x43, 0x44, 0x45, 0x46, 0x47, 0x7E]

theorem wSlot_matches (user : Nat) (pass : List Byte) : passMatches (wSlot user pass) 1 pass = true := by
  simp [passMatches, wSlot, mlook]

theorem witness_SessionsAndPassphrases :
    (let s := wSlot 0 wWord
     let d := wPass [1] wWord
     s.sys.mgmtUp = true ∧ s.sup.vstate ≠ 2 ∧ 2 ≤ d.length ∧ d.length ≤ 34 ∧ passLenOk d 1 = true ∧ passRange d 1 = true ∧
     passChars (passAt d 1) = true ∧ 1 ≤ leAt d 0 1 ∧ leAt d 0 1 ≤ 4 ∧ passAt d 1 = wWord ∧ leAt d 0 1 = 1 ∧
     s.sup.holdReady = true ∧ lockOn (advance w10 s) = false ∧ s.sess.user = 0) ∧
    passMatches (wSlot 0 wWord) 1 wWord = true ∧ passMatches wOn 1 wWord = false ∧
    4 ≤ (lockExpire (advance w10 { wOn with sess := { fails := 4 } })).sess.fails ∧
    (sessionOn wSess .host = true ∧ sessionOn wSess (.zeley 5) = false ∧ wSess.sess.user ≠ 0) ∧
    (let s : State := { wCfg 0x4000 0x33 [5, 0] wOn with sess := { user := 1, lastAct := w10 - 5 * secNs } }
     s.sess.user ≠ 0 ∧ s.sess.lastAct + cfgN s 0x4000 0x33 * secNs ≤ (advance w10 s).sys.now) ∧
    (let s : State := { wOn with sup := { holdReady := true } }
     let d := wPass [1] wWord
     s.sess.log.length < 512 ∧ (if s.sess.slots = [] then leAt d 0 1 = 1 else sessionOn s .host = true) ∧ leAt d 1 1 ≠ 0 ∧ passRange d 1 = true) ∧
    (let s := wSlot 1 wWord
     let d : List Byte := [2, 0]
     2 ≤ d.length ∧ passLenOk d 1 = true ∧ leAt d 1 1 = 0 ∧ passChars (passAt d 1) = true ∧ sessionOn s .host = true ∧ leAt d 0 1 = 2) ∧
    (let s : State := { wOn with sess := { lockLeft := 5, lockAt := w10 - 5 } }
     s.sys.powered = true ∧ s.sess.lockLeft ≠ 0 ∧ lockOn (advance w10 s) = false) ∧
    (let s : State := { wOn with sess := { lockLeft := 6, lockAt := w10 - 5 } }
     s.sys.mgmtUp = true ∧ lockOn (advance w10 s) = true) := by
  refine ⟨by decide +kernel, wSlot_matches 0 wWord, by decide +kernel, by decide +kernel, by decide +kernel, by decide +kernel, by decide +kernel,
    by decide +kernel, by decide +kernel, by decide +kernel⟩

theorem wSlot_good (o : Nat) (pre : List Byte) (hl : passLenOk (wPass pre wWord) o = true) (hr : passRange (wPass pre wWord) o = true)
    (ha : passAt (wPass pre wWord) o = wWord) (hm : o + 1 ≤ (wPass pre wWord).length ∧ (wPass pre wWord).length ≤ o + 33) :
    PassGood (advance w10 (wSlot 1 wWord)) 1 o (wPass pre wWord) :=
  ⟨hm.1, hm.2, hl, hr, rfl, by rw [ha]; exact wSlot_matches 1 wWord⟩

theorem witness_LogClearAndErase :
    (let s := wSlot 1 wWord
     s.sys.mgmtUp = true ∧ s.sup.vstate ≠ 2 ∧ sessionOn s .host = true ∧ s.sup.holdReady = true ∧ s.cf.pend = none ∧ s.sess.log.length < 512) ∧
    PassGood (advance w10 (wSlot 1 wWord)) (wSlot 1 wWord).sess.user 8 (wPass [0, 0, 0, 0, 0, 0, 0, 0] wWord) ∧
    (leAt (wPass [0, 0, 0, 0, 0, 0, 0, 0] wWord) 0 4 = (wSlot 1 wWord).sess.log.length ∧
      leAt (wPass [0, 0, 0, 0, 0, 0, 0, 0] wWord) 4 4 = logCrc (wSlot 1 wWord)) ∧
    PassGood (advance w10 (wSlot 1 wWord)) (wSlot 1 wWord).sess.user 2 (wPass [0xA5, 0xE7] wWord) ∧
    leAt (wPass [0xA5, 0xE7] wWord) 0 2 = 0xE7A5 := by
  refine ⟨by decide +kernel, wSlot_good 8 _ (by decide +kernel) (by decide +kernel) (by decide +kernel) (by decide +kernel), ?_,
    wSlot_good 2 _ (by decide +kernel) (by decide +kernel) (by decide +kernel) (by decide +kernel), by decide +kernel⟩
  exact ⟨by decide +kernel, rfl⟩

theorem witness_MapAndMramStaging :
    (let d : List Byte := [0, 0, 191, 0, 0, 0, 7, 7] ++ leBytes 8 0x40000
     wSess.sys.mgmtUp = true ∧ wSess.sup.vstate ≠ 2 ∧ mapPending wSess = false ∧ sessionOn wSess .host = true ∧ d.length = 16 ∧
     leAt d 0 2 ≤ leAt d 2 2 ∧ leAt d 2 2 ≤ 191 ∧ leAt d 4 2 ≤ leAt d 6 2 ∧ leAt d 6 2 ≤ 1799 ∧ cellOk wSess.sys.variant (leAt d 2 2) (leAt d 8 8) = true) ∧
    (let d : List Byte := [0, 0, 0, 0, 0, 0, 9, 0] ++ leBytes 8 0x40000
     mapSize { cells := mfill 0 9 (leAt d 8 8) (mapStageNow wSess).cells } ≤ 163840 ∧ leAt d 6 2 = 9) ∧
    (sessionOn wOn .host = false ∧ wSess.sup.holdReady = true) := by
  decide +kernel

/-! ### Witnesses: track front end, axle counting, track links -/

/-- Channel 0 excited, AGC and onset detection on, as `x`. -/
def wTf (x : Tf) : State :=
  { wCfg 0x5000 1 [1] (wCfg 0x5000 5 [1] (wCfg 0x5000 0xB [1] wOn)) with tf := { ch := [(0, { x with excited := true })] } }

theorem witness_TrackSamples :
    (tfActive (wTf {}) 0 = true ∧ tfStatus (advance w10 (wTf {})) 0 (advance w10 (wTf {})).sys.now = 0 ∧ cfgF (wTf {}) 0x5000 5 = true) ∧
    (471858 < (clampI (-524288) 524287 (-471859)).natAbs ∧ (tfGet (wTf { hiRun := 3, gain := 1 }) 0).hiRun = 3 ∧ 0 < (tfGet (wTf { hiRun := 3, gain := 1 }) 0).gain) ∧
    ((clampI (-524288) 524287 104857).natAbs < 104858 ∧ (tfGet (wTf { loRun := 31, gain := 2 }) 0).loRun = 31 ∧ (tfGet (wTf { loRun := 31, gain := 2 }) 0).gain < 3) ∧
    (tfStatus (advance w10 (wTf { open_ := true })) 0 w10 ≠ 0 ∧ cfgF (wCfg 0x5000 5 [0] wOn) 0x5000 5 = false) ∧
    (let s := wTf { baseGot := true, onRun := 2 }
     cfgF s 0x5000 0xB = true ∧ (tfGet s 0).baseGot = true ∧ (tfGet s 0).frozen = false ∧ 2 ≤ (tfGet s 0).onRun ∧
     cfgN s 0x5000 0xC * 65536 < (clampI (-524288) 524287 524287 * rangeFs 0 / 8 - (tfGet s 0).basel).natAbs) ∧
    (tfGet (wTf { frozen := true }) 0).frozen = true := by
  decide +kernel

/-- Blank pin active, with channel 0 masked. -/
def wPin (pin : Bool) : State :=
  { wCfg 0x5000 7 [1] (wCfg 0x5001 7 [0] (wTf {})) with tf := { (wTf {}).tf with pin := pin } }

theorem witness_TrackTimersBlanksAndCapture :
    (let s := wTf { frozen := true, quietSince := some (w10 - 100 * msNs) }
     (tfGet s 0).frozen = true ∧ (tfGet s 0).quietSince = some (w10 - 100 * msNs) ∧ w10 - 100 * msNs + 100 * msNs ≤ (advance w10 s).sys.now) ∧
    (let s := wTf { frozen := true, quietSince := some (w10 - 100 * msNs + 1) }
     (tfGet s 0).quietSince = some (w10 - 100 * msNs + 1) ∧ (advance w10 s).sys.now < w10 - 100 * msNs + 1 + 100 * msNs) ∧
    (let s := wCfg 0x5000 9 [1, 0] (wTf { open_ := true, openClear := w10 - 100 * msNs })
     (tfGet s 0).open_ = true ∧ (tfGet s 0).openRx = false ∧ (tfGet s 0).openEx = false ∧ (tfGet s 0).openClear + 100 * msNs ≤ (advance w10 s).sys.now ∧
     tfActive (advance w10 s) 0 = true ∧ 0 < cfgN s 0x5000 9) ∧
    (let s : State := { wOn with tf := { ch := [(0, { open_ := true, openClear := w10 - 100 * msNs })] } }
     (tfGet s 0).open_ = true ∧ (tfGet s 0).openClear + 100 * msNs ≤ (advance w10 s).sys.now ∧ tfActive (advance w10 s) 0 = false) ∧
    (advance w10 (wTf { openClear := w10 })).sys.now < (tfGet (wTf { openClear := w10 }) 0).openClear + 100 * msNs ∧
    (let s := wPin (cfgF wOn 0x5000 0x20)
     tfRuns (advance w10 s) = true ∧ s.tf.pin = cfgF s 0x5000 0x20 ∧ (!s.tf.pin) ≠ s.tf.pin ∧ cfgF s 0x5000 7 = true ∧ cfgF s 0x5001 7 = false ∧
     (tfGet s 0).pinFrom = none ∧ (tfGet s 1).pinFrom = none) ∧
    (let s := wCfg 0x5000 8 [1, 0] { wPin (!cfgF wOn 0x5000 0x20) with tf := { pin := !cfgF wOn 0x5000 0x20, ch := [(0, { pinFrom := some 0 })] } }
     tfRuns (advance w10 s) = true ∧ s.tf.pin ≠ cfgF s 0x5000 0x20 ∧ (!s.tf.pin) ≠ s.tf.pin ∧ cfgF s 0x5000 7 = true ∧ cfgF s 0x5001 7 = false ∧
     (tfGet s 0).pinFrom = some 0 ∧ 0 < (advance w10 s).sys.now ∧ 0 < cfgN s 0x5000 8 ∧ (tfGet s 1).pinFrom = none) ∧
    (bitAt (0x10001 : Word).toNat 0 = true ∧ bitAt (0x10001 : Word).toNat 1 = false ∧ tfActive (advance w10 (wTf {})) 0 = true ∧ 0 < fld (0x10001 : Word).toNat 16 8) ∧
    ((tfGet (wTf {}) 0).open_ = false ∧ tfRuns (advance w10 (wTf {})) = true ∧ headOn (wCfg 0x5100 1 [0x10, 0, 0, 0x80] wOn) 0 = true ∧
      headA (wCfg 0x5100 1 [0x10, 0, 0, 0x80] wOn) 0 = 0) ∧
    (bitAt (0x80000000 : Word).toNat 31 = true ∧ wOn.tf.capState = 0 ∧ tfRuns wOn = true ∧ bitAt (0 : Word).toNat 31 = false ∧
      ({ wOn with tf := { capState := 2, cap := List.replicate 2048 0 } } : State).tf.cap.length = 2048 ∧ wOn.tf.cap.length < 2048) := by
  decide +kernel

/-- Head 0 between sections 1 and 2 at counting point 0, a link counting point 1 of peer point 3 on link 0, epoch 4, between 2 and 3;
axle evaluator as `x`. -/
def wAx (x : Ax) : State :=
  { wCfg 0x5100 1 [0x10, 0, 0, 0x80] (wCfg 0x5100 0x23 ([1, 0, 1, 2, 0, 0, 0, 0, 3, 3, 2, 3, 4, 0, 0, 0] ++ List.replicate 240 0)
      (wCfg 0x5300 1 [9, 0] wOn)) with ax := x }

theorem witness_CountsAndSections :
    (let s := wAx { wstate := 1, writing := [⟨0, false, false, 0, 1⟩], secs := [(1, { st := 3 }), (2, { st := 2, count := -32768 })] }
     s.ax.wstate = 1 ∧ (∃ p, s.ax.writing = [p] ∧ s.ax.writing.filter (passFresh s) = [p] ∧ (cpAt s p.cp).aside < 32 ∧ (cpAt s p.cp).bside < 32 ∧ (cpAt s p.cp).aside ≠ (cpAt s p.cp).bside ∧
       2 ∈ secsOf s p.cp) ∧ cpsOf s 1 ≠ [] ∧ (secGet s 1).st ≠ 0 ∧ (secGet s 1).st ≠ 1) ∧
    (let s := wAx { wstate := 1, writing := [⟨0, false, false, 0, 2⟩] }
     s.ax.wstate = 1 ∧ s.ax.writing.filter (passFresh s) = [] ∧ s.ax.writing.length = 1) ∧
    (wAx { wstate := 2 }).ax.wstate = 2 ∧ instantOpen (advance w10 (wAx { wstate := 2, dirty := true })) = false ∧
    (let s := wAx { heads := [(0, { faulty := true, offSince := some (w10 - secNs) })] }
     (hdGet s 0).faulty = true ∧ (tfGet s (headA s 0)).open_ = false ∧ (tfGet s (headB s 0)).open_ = false ∧
     (hdGet s 0).offSince = some (w10 - secNs) ∧ w10 - secNs + secNs ≤ (advance w10 s).sys.now ∧ (advance w10 s).sys.now < w10 - secNs + 1 + secNs) := by
  refine ⟨⟨rfl, ⟨_, rfl, by decide +kernel⟩, by decide +kernel⟩, by decide +kernel, rfl, by decide +kernel⟩

/-- A SECTRESET pair, ACTIVE and high since 7 s. -/
def wJam (h : Nat) : State :=
  { wCfg 0x4000 0x17 [4] wOn with ax := { srHigh := [(7, h)] }, safA := { pairs := [(7, { active := true })] } }

theorem witness_SectionResetsAndWords :
    (let s : State := { wAx {} with sess := { user := 1 } }
     hasTrack s = true ∧ s.sys.ctrlUp = true ∧ saveStopped (advance w10 s) = false ∧ sessionOn s .host = true ∧ (secGet s 1).st = 0 ∧ cpsOf s 1 ≠ [] ∧
     secHealthy s 1 = true ∧ secProgress s 1 = false) ∧
    (secGet (wAx { secs := [(1, { st := 3 })] }) 1).st ≠ 0 ∧ secHealthy (wAx {}) 3 = false ∧
    secProgress (wAx { heads := [(0, { ph := .a1 })] }) 1 = true ∧ sessionOn wOn .host = false ∧
    (let s := wJam (w10 - 3000 * msNs)
     mlook s.ax.srHigh 7 = some (w10 - 3000 * msNs) ∧ sinRole s 7 = 4 ∧ pairActive s .a 7 = true ∧ mget false s.ax.srJam 7 = false ∧
     w10 - 3000 * msNs + 3000 * msNs ≤ (advance w10 s).sys.now ∧ (advance w10 s).sys.now < w10 - 3000 * msNs + 1 + 3000 * msNs) ∧
    (let s : State := { wOn with out := { secWord := some ([], 0) }, safA := { secAt := w10 - 3 * msNs } }
     s.sys.oper = true ∧ s.out.secWord = some ([], 0) ∧ (getC s .a).secAt + 3 * msNs ≤ (advance w10 s).sys.now ∧
     ¬ (getC s .a).secAt + 3 * msNs ≤ (advance w10 s).sys.now - 1) := by
  decide +kernel

/-- A frame from the peer of link 0, in sequence after 6. -/
def wTlf (seq src epoch : Nat) (ok ev : Bool) (time : Nat) : TlFrame :=
  let f : TlFrame := { isEvent := ev, len := if ev then 24 else 36, src := src, seq := seq, sync := true, time := time, cp := 3, dirBA := false,
                       vehicle := false, epoch := epoch, health := 0, states := 0, secexp := 0, crc := 0 }
  { f with crc := if ok then tlCrc f else ~~~tlCrc f }

theorem witness_TrackLinks :
    (let s := wAx { tl0 := { rxseq := some 65535, evq := [⟨1, false, false, 0, 1⟩], statusRun := 2, up := true, lastRx := w10 - 20 * msNs }, wstate := 1 }
     tlLive s 0 = true ∧ (∃ p, (tlGet s 0).evq = p :: []) ∧ (tlGet s 0).rxseq = some 65535 ∧ 2 ≤ (tlGet s 0).statusRun ∧ (tlGet s 0).up = true ∧
     (tlGet s 0).lastRx + 20 * msNs ≤ (advance w10 s).sys.now ∧ s.ax.wstate ≠ 0 ∧ tlPeer s 0 = 9 ∧ tlStale (advance w10 s) (wTlf 0 9 4 true true 0) = false ∧
     (linkCps s 0).filter (fun c => fld (cpAt s c).ref 0 5 == 3) = [1] ∧ (cpAt s 1).repoch = 4 ∧ tlLive (advance w10 s) 0 = true ∧ tlRuns (advance w10 s) = true ∧ unitFits s 1 false = true) ∧
    (tlGet (wAx {}) 0).evq = [] ∧ tlWhole (wTlf 0 9 4 false true 0) = false ∧ tlWhole { wTlf 0 9 4 true true 0 with len := 23 } = false ∧
    tlWhole (wTlf 0 9 4 true true 0) = true ∧ tlWhole (wTlf 0 9 4 true false 0) = true ∧ (wTlf 0 8 4 true true 0).src ≠ tlPeer (wAx {}) 0 ∧
    tlStale { wAx {} with zl := { sync := true } } (wTlf 0 9 4 true true (5 * msNs + 1)) = true ∧
    ((wTlf 0 9 4 true true 0).seq = (65535 + 1) % 65536 ∧ (wTlf 65535 9 4 true false 0).seq ≠ (65535 + 1) % 65536 ∧ (tlGet (wAx {}) 0).rxseq = none) ∧
    (wTlf 0 9 5 true true 0).epoch ≠ (cpAt (wAx {}) 1).repoch ∧ unitFits (wAx {}) 1 true = false ∧
    (advance w10 (wAx { tl0 := { lastRx := w10 } })).sys.now < (tlGet (wAx { tl0 := { lastRx := w10 } }) 0).lastRx + 20 * msNs := by
  refine ⟨⟨by decide +kernel, ⟨_, rfl⟩, by decide +kernel⟩, by decide +kernel⟩

/-! ### Witnesses: Zeley link, dictionary, host port -/

/-- Address 5, both ports UP, the header of a frame handled on port 0. -/
def wZl (z : Zl) : State :=
  { wCfg 0x1400 1 [5, 0] wOn with zl := { z with p0 := { z.p0 with st := 2, hdr := true }, p1 := { z.p1 with st := 2 } } }

/-- A frame of type `ty` and address mode `dm` from device 3. -/
def wFrame (ty dm : Nat) (body : List Byte) : ZlFrame :=
  zlSeal { type := ty, dmode := dm, dst := 5, unasg := false, src := 3, hops := 0, seq := 1, len := body.length, body := body, hcrc := 0, crc := 0 }

theorem witness_LinkPortsAndForwarding :
    (let s : State := { wCfg 0x1300 2 [1] wOn with pw := { hfxOk := true } }
     linkOn s = true ∧ (zpGet s 0).st = 0) ∧
    (let s : State := { wOn with zl := { p1 := { st := 1 } } }
     (zpGet s 1).st = 1 ∧ (zpGet s 1).commaAt + 10000 ≤ (advance w10 s).sys.now) ∧
    ((zpGet (wZl {}) 1).st ≠ 0 ∧ (zpGet (wZl {}) 1).hdr = false ∧ (zpGet (wZl {}) 1).commaAt + 20000 ≤ (advance w10 (wZl {})).sys.now) ∧
    (zpGet (wZl {}) 0).hdr = true ∧ portUp (wZl {}) 0 = true ∧
    (zpGet (wZl {}) 0).q = [] ∧ (advance w10 (wZl { p0 := { busyTo := w10 + 1 } })).sys.now < w10 + 1 ∧
    (let s := wZl { p0 := { q := [⟨wFrame 3 2 [], none⟩, ⟨wFrame 2 2 [], none⟩, ⟨wFrame 1 2 [], none⟩] } }
     (zpGet s 0).q ≠ [] ∧ (zpGet s 0).busyTo ≤ (advance w10 s).sys.now ∧ ∃ y ∈ (zpGet s 0).q, y.f.type = 1) ∧
    (let s := wZl { p0 := { q := [⟨wFrame 3 2 [], none⟩, ⟨wFrame 2 2 [], none⟩] } }
     (∀ y ∈ (zpGet s 0).q, y.f.type ≠ 1) ∧ ∃ y ∈ (zpGet s 0).q, y.f.type = 2) ∧
    (let f := zlSeal { wFrame 4 0 [] with dst := 7 }
     zlHcrcOk f = true ∧ zlForwards (wZl {}) 0 f = true ∧ f.type ≠ 1 ∧ f.type ≠ 6 ∧ portBusy (advance w10 (wZl {})) 1 = false) ∧
    zlForwards (wZl {}) 0 (wFrame 4 0 []) = false ∧ zlHcrcOk { wFrame 4 0 [] with dst := 7 } = false := by
  decide +kernel

theorem witness_LinkOwnFrames :
    (portUp (wZl {}) 0 = true ∧ portBusy (advance w10 (wZl {})) 0 = false ∧ (wZl {}).sys.mgmtUp = true ∧ (wZl { master := true }).zl.master = true) ∧
    (let A := advance w10 (wZl {})
     periodPassed A.zl.lastHello secNs A = true ∧ periodPassed A.zl.timeAt (10 * msNs) A = true ∧ periodPassed (zpGet A 0).pdAt secNs A = true) ∧
    (let A := advance w10 (wZl { lastHello := some w10, timeAt := some w10, p0 := { pdAt := some w10 } })
     periodPassed A.zl.lastHello secNs A = false ∧ periodPassed A.zl.timeAt (10 * msNs) A = false ∧
     periodPassed (zpGet A 0).pdAt secNs A = false) ∧
    (let s := wZl { inConflict := true, lastConflict := w10 - 3 * secNs }
     s.zl.inConflict = true ∧ s.zl.lastConflict + 3 * secNs ≤ (advance w10 s).sys.now) ∧
    (let s := wCfg 0x1400 3 [1] (wZl { lastLower := w10 - 50 * msNs })
     s.sys.mgmtUp = true ∧ cfgN s 0x1400 3 = 1 ∧ zlAssigned s = true ∧ s.zl.master = false ∧ s.zl.lastLower + 50 * msNs ≤ (advance w10 s).sys.now) ∧
    (let s := wZl { sync := true, lastTime := w10 - 100 * msNs }
     s.zl.sync = true ∧ s.zl.master = false ∧ s.zl.lastTime + 100 * msNs ≤ (advance w10 s).sys.now) := by
  decide +kernel

theorem witness_LinkFramesReceived :
    (NewFrame 0 (wFrame 1 2 (leBytes 16 0)) (advance w10 (wZl {})) ∧ (zpGet (wZl {}) 0).hdr = true ∧ (wZl {}).zl.master = false ∧
      (wZl {}).zl.stepDue = true ∧ (wZl { stepDue := false, goodRun := 3 }).zl.stepDue = false ∧ 3 ≤ (wZl { stepDue := false, goodRun := 3 }).zl.goodRun) ∧
    (let s : State := { wZl { stepDue := false, goodRun := 3 } with sys := { wOn.sys with sysTime := 10000 } }
     let f := wFrame 1 2 (leBytes 8 7440 ++ leBytes 8 0)
     NewFrame 0 f (advance w10 s) ∧
     (((advance w10 s).sys.sysTime.toNat : Int) - frameNs f - ((leAt f.body 0 8 : Int) + ((leAt f.body 8 8 + (zpGet s 0).delayPs) / 1000 : Nat))).natAbs ≤ 200) ∧
    (NewFrame 0 (wFrame 3 2 (leBytes 16 0)) (advance w10 (wZl {})) ∧ (wFrame 3 2 []).unasg = false) ∧
    (NewFrame 0 (wFrame 6 3 (leBytes 20 2)) (advance w10 (wZl { p0 := { pdT1 := some 0 } })) ∧ leAt (wFrame 6 3 (leBytes 20 2)).body 0 1 ≠ 0 ∧
      (zpGet (wZl { p0 := { pdT1 := some 0 } }) 0).pdT1 = some 0) := by
  unfold NewFrame; decide +kernel

theorem witness_AddressConflictAndTime :
    (let s := wZl { nonce := 7 }
     let f := zlSeal { wFrame 3 2 (leBytes 8 0) with src := 5 }
     portUp s 0 = true ∧ zlHcrcOk f = true ∧ zlCrcOk f = true ∧ f.type = 3 ∧ f.dmode = 2 ∧ ownSrc s f = true ∧ leAt f.body 4 4 ≠ s.zl.nonce.toNat ∧
     (∀ e ∈ s.zl.seen, e.1 ≠ f.src) ∧ s.sys.mgmtUp = true) ∧
    ((wZl { master := true }).sup.vstate ≠ 2 ∧ (wZl { master := true }).zl.master = true ∧ (wZl {}).zl.master = false) := by
  decide +kernel

/-- A request of index `i`, subindex `sub`, with VAL `v` and data `d`. -/
def wReq (i sub v : Nat) (d : List Byte) : DictReq := { index := i, sub := sub, epoch := 0, tid := 1, val := v, data := d }

theorem witness_DictionaryReads :
    (let A := advance w10 wOn
     Fresh 1 .host (wReq 0x1100 0x10 0 []) A ∧ (locate wOn 0xFFFF 0).2 = none ∧
     (∃ o, (locate wOn 0x4000 0x30).2 = some o ∧ (o.acc = .wo ∨ o.acc = .wos)) ∧
     (∃ o, (locate wOn 0x1200 8).2 = some o ∧ o.acc ≠ .wo ∧ o.acc ≠ .wos ∧
       ∃ v, objRead (judged false o .host (wReq 0x1200 8 0 []) A) o 0x1200 8 = (0, v) ∧ v.length ≤ 992)) ∧
    (let r := wReq 0x3400 0x11 992 []
     let x : Xfer := { path := .host, tid := 1, write := false, key := okey 0x3400 0x11, epoch := 0, total := 1000, data := List.replicate 1000 0, last := w10 - 5 }
     let s : State := { wOn with dc := { xfers := [x] } }
     Fresh 2 .host r (advance w10 s) ∧ xferOf (xferPrune (advance w10 s)) .host r = some x ∧ x.write = false ∧ x.key = okey r.index r.sub ∧
     r.val % 992 = 0 ∧ r.val < x.total ∧ x.total ≤ r.val + 992 ∧ 0 + 992 < x.total ∧
     ∃ o, (locate s 0x3400 0x11).2 = some o ∧ o.acc ≠ .wo ∧ o.acc ≠ .wos) ∧
    (let r := wReq 0x1200 8 0 []
     let x : DictRsp := rspTo 1 r 0 2 [0, 0]
     let s : State := { wOn with dc := { prev := [(.host, 1, w10 - 5, r, x)] } }
     s.sys.mgmtUp = true ∧ s.sup.vstate ≠ 2 ∧ repeated (advance w10 s) .host 1 r = some x) := by
  unfold Fresh
  refine ⟨⟨by decide +kernel, by decide +kernel, ⟨_, rfl, by decide +kernel⟩, ⟨_, rfl, by decide +kernel, by decide +kernel, _, rfl, by decide +kernel⟩⟩,
    ⟨by decide +kernel, by decide +kernel, by decide +kernel, by decide +kernel, by decide +kernel, by decide +kernel, by decide +kernel,
      by decide +kernel, _, rfl, by decide +kernel⟩, by decide +kernel⟩

/-- The same with MRAM ready. -/
def wMram : State := { wOn with sup := { holdReady := true } }

theorem witness_DictionaryWrites :
    (let r := wReq 0x1200 8 2 (leBytes 2 20000)
     ∃ o, (locate wMram 0x1200 8).2 = some o ∧ Fresh 3 .host r (advance w10 wMram) ∧ r.val ≤ 992 ∧ writeGate o .host r.index r.sub r.epoch wMram = 0 ∧
       r.val = r.data.length ∧ o.eff = .commit ∧ stageAbort o r.index r.sub r.data (judged true o .host r (advance w10 wMram)) = 0 ∧
       stageAbort o r.index r.sub (leBytes 2 0) (judged true o .host r (advance w10 wMram)) ≠ 0) ∧
    (∃ o, (locate wMram 0x4000 0x10).2 = some o ∧ o.eff = .commit ∧ writeGate o .host 0x4000 0x10 0 wMram ≠ 0) ∧
    (locate wMram 0xFFFF 0).2 = none ∧
    (let r := wReq 0x1100 0x11 1 [2]
     ∃ o, (locate wMram 0x1100 0x11).2 = some o ∧ Fresh 3 .host r (advance w10 wMram) ∧ writeGate o .host r.index r.sub r.epoch wMram = 0 ∧ r.val = r.data.length ∧
       o.eff ≠ .commit ∧
       (let w := nowWrite o .host r.index r.sub r.data (xferDrop .host r.tid (xferPrune (advance w10 wMram)))
        w.2.sys.mgmtUp = true ∧ w.2.sup.vstate ≠ 2)) := by
  unfold Fresh
  exact ⟨⟨_, rfl, by decide +kernel⟩, ⟨_, rfl, by decide +kernel⟩, by decide +kernel, ⟨_, rfl, by decide +kernel⟩⟩

/-- A transfer of a program of 1,000 bytes, of which 992 have come, 5 ns ago. -/
def wXfer : Xfer := { path := .host, tid := 1, write := true, key := okey 0x2500 0x11, epoch := 0, total := 1000, data := List.replicate 992 0, last := w10 - 5 }
def wWriting (x : Xfer) : State := { wMram with dc := { xfers := [x] } }

theorem witness_DictionaryTransfers :
    (let r := wReq 0x2500 0x11 992 (List.replicate 8 0)
     ∃ o, (locate (wWriting wXfer) 0x2500 0x11).2 = some o ∧ Fresh 4 .host r (advance w10 (wWriting wXfer)) ∧
       writeGate o .host r.index r.sub r.epoch (wWriting wXfer) = 0 ∧ xferOf (xferPrune (advance w10 (wWriting wXfer))) .host r = some wXfer ∧
       wXfer.write = true ∧ wXfer.key = okey r.index r.sub ∧ r.val = wXfer.data.length ∧ r.data.length = min 992 (wXfer.total - wXfer.data.length) ∧
       wXfer.data.length + r.data.length = wXfer.total ∧ o.eff = .commit ∧
       stageAbort o r.index r.sub (wXfer.data ++ r.data) (judged true o .host r (advance w10 (wWriting wXfer))) = 0) ∧
    (let x : Xfer := { wXfer with total := 2000 }
     let r := wReq 0x2500 0x11 992 (List.replicate 992 0)
     xferOf (xferPrune (advance w10 (wWriting x))) .host r = some x ∧ r.data.length = min 992 (x.total - x.data.length) ∧
     x.data.length + r.data.length < x.total ∧ Fresh 5 .host r (advance w10 (wWriting x)) ∧ xferOf (xferPrune (advance w10 (wWriting x))) .host r ≠ none) ∧
    xferOf (xferPrune (advance w10 wMram)) .host (wReq 0x2500 0x11 0 []) = none ∧
    (wMram.sys.mgmtUp = true ∧ wMram.sup.vstate ≠ 2 ∧ wMram.sup.holdReady = true) := by
  unfold Fresh
  exact ⟨⟨_, rfl, by decide +kernel⟩, by decide +kernel, by decide +kernel, by decide +kernel⟩

theorem witness_FramesForTheDictionary :
    (let f := wFrame 4 0 (List.replicate 12 0)
     NewFrame 0 f (advance w10 (wZl {})) ∧ f.unasg = false ∧ 12 ≤ f.body.length ∧ (zpGet (wZl {}) 0).hdr = true) ∧
    (let s : State := { wZl {} with cf := { (wZl {}).cf with live := [(okey 0x1400 8, [9, 0])] } }
     let f := wFrame 2 2 (leBytes 8 77 ++ leBytes 2 9)
     NewFrame 0 f (advance w10 s) ∧ liveN s 0x1400 8 ≠ 0 ∧ leAt f.body 8 2 = liveN s 0x1400 8 ∧ f.body.length = 10 ∧
     leAt (wFrame 2 2 (leBytes 10 0)).body 8 2 ≠ liveN s 0x1400 8) ∧ liveN (wZl {}) 0x1400 8 = 0 := by
  unfold NewFrame; decide +kernel

/-! ### Witnesses: host port, event distributor, CRC units, indicator matrix -/

/-- A READ of one word at `a` with `n` wait bytes at 50 ns a bit. -/
def wRead (a n : Nat) : SpiRead :=
  { head := ⟨false, false, n, a⟩, hcrc := 0, tsclk := 50, words := 1, inHeader := false }

theorem witness_HostReads :
    (PortOpen wOn ∧ HeaderOk wOn 0 ⟨false, false, 10, 0x010004⟩ 0 false ∧
      HeaderOk wOn 1 ⟨false, true, 0, 0x050004⟩ (hcrcByte 0x50050004) false ∧ hcrcOk 2 ⟨false, true, 0, 0⟩ (hcrcByte 0x90000000) = true ∧
      HeaderOk wOn 3 ⟨false, true, 0, 0⟩ (hcrcByte 0xD0000000) false ∧ hcrcOk 0 ⟨true, true, 1, 0⟩ (hcrcByte 0x21000000) = false) ∧
    (waitBad (wRead 0x010004 10) = false ∧ readSwaps (wRead 0x010004 10) (advance w10 wOn) = false ∧ Machine.addrOk 0x010004 = true) ∧
    (waitBad (wRead 0x020000 10) = false ∧ Machine.addrOk 0xFFFFFC = false) ∧
    (let s : State := { wOn with ex := { open_ := true, stepAt := w10 }, pw := { dp := .scanning } }
     waitBad (wRead 0x100000 10) = false ∧ readSwaps (wRead 0x100000 10) (advance w10 s) = true) ∧
    waitBad (wRead 0x010004 0) = true ∧ ({ wOn with hp := { crcOnly := true } } : State).hp.crcOnly = true := by
  unfold PortOpen HeaderOk; decide +kernel

theorem witness_RegisterAccesses :
    (wMram.sys.mgmtUp = true ∧ wMram.sup.vstate ≠ 2) ∧ (Machine.addrOk 0xFFFFFC = false ∧ regAbsent .c192L 0x500000 = true) ∧
    (Machine.addrOk 0x0E0000 = true ∧ isStaged 0x0E0000 = true ∧ canStage wOn = false ∧ canStage wMram = true) ∧
    (progLenBad 0x0E0000 (1025 * 65536) = true ∧ progLenBad 0x0E0000 (1024 * 65536) = false) ∧ (2 ≤ (2 : Word).toNat % 8 ∧ (5 : Word).toNat % 8 ≤ 5) := by
  decide +kernel

theorem witness_HostMailbox :
    (wOn.sys.mgmtUp = true ∧ wOn.sup.vstate ≠ 2 ∧ wOn.hp.busy = false) ∧
    ((0x8000000C : Word).getLsbD 31 = true ∧ 12 ≤ (0x8000000C : Word).toNat % 2048 ∧ (0x800003EC : Word).toNat % 2048 ≤ 1004) ∧
    ((0xC : Word).getLsbD 31 = false ∧ (0x8000000B : Word).toNat % 2048 < 12 ∧ 1004 < (0x800003ED : Word).toNat % 2048) ∧
    ({ wOn with dc := { rsps := [(.host, rspTo 1 (wReq 0x1200 8 0 []) 0 0 [])] } } : State).dc.rsps = (.host, rspTo 1 (wReq 0x1200 8 0 []) 0 0 []) :: [] := by
  decide +kernel

/-- The event distributor as `x`. -/
def wEd (x : Ed) : State := { wOn with ed := x }

theorem witness_Distributor :
    (maskMixed 0x21 = true ∧ maskMixed 0x1F = false) ∧
    (edCands wOn 0 = [] ∧ (edTgtGet (wEd { tgt := [(0, { withdrawn := true })] }) 0).withdrawn = true) ∧
    (let s := wEd { src := [(7, { en := true, sig := some 5, level := 3, tmask := 0x20 })], tgt := [(5, { en := true })] }
     edCands s 5 = [(7, 3)] ∧ ∀ x ∈ edCands s 5, x = (7, 3) ∨ x.2 < 3) ∧
    (let s := wEd { tgt := [(0, { stack := [(3, 7)] }), (5, { claimed := [(3, 7)] })] }
     idValid 7 = true ∧ (edTgtGet s 0).stack = (3, 7) :: [] ∧ (3, 7) ∈ (edTgtGet s 5).claimed ∧ (∀ e ∈ (edTgtGet s 5).claimed, e.2 ≠ 8)) ∧
    (edTgtGet wOn 0).stack = [] := by
  decide +kernel

theorem witness_CrcUnits :
    ((crcUnit ({ wOn with crc0 := { busy := true } } : State) 0).busy = true ∧ (crcUnit wOn 0).busy = false ∧ (crcUnit wOn 0).len = 0) ∧
    (crcRangeOk 0x010001 4 = false ∧ crcRangeOk 0x010000 4 = true) ∧
    ((crcUnit ({ wOn with crc0 := { busy := true } } : State) 0).goIgnored = 0 ∧ (crcUnit ({ wOn with crc1 := { busy := true, goIgnored := 1 } } : State) 1).goIgnored ≠ 0) ∧
    (wOn.sys.mgmtUp = true ∧ wOn.sup.vstate ≠ 2) := by
  decide +kernel

/-- The matrix on, with system time `T`; matrix as `x`. -/
def wLm (T : Nat) (x : Lm) : State :=
  { wCfg 0x5800 1 [1] (wCfg 0x5800 8 [1] (wCfg 0x5800 9 [1] wOn)) with
    sys := { wOn.sys with sysTime := BitVec.ofNat 64 T }
    pw := { mrcBOkSince := some 0 }
    lm := { x with configured := true } }

theorem witness_IndicatorMatrix :
    lmOn wOn = false ∧
    (let s := wLm 832000 { armed := some (1, 832000, false) }
     lmOn s = true ∧ (advance w10 s).sys.sysTime.toNat % 832000 = 0 ∧ s.lm.armed = some (1, 832000, false) ∧ 832000 ≤ (advance w10 s).sys.sysTime.toNat ∧
     (advance w10 s).sys.sysTime.toNat < 832001) ∧
    (let s := wLm (832000 + 64000) { run := true, cycle := 1 }
     let T := (advance w10 s).sys.sysTime.toNat
     lmOn s = true ∧ T % 64000 = 0 ∧ T % 832000 ≠ 0 ∧ s.lm.run = true ∧ s.lm.cycle = T / 832000 ∧ s.lm.slot + 1 = T % 832000 / 64000) ∧
    (let s := wLm 0 { run := true, pre := true }
     lmOn s = true ∧ s.lm.run = true ∧ s.lm.pre = true ∧ s.lm.slot < 12) ∧
    (let s := wLm 0 { row := some 3, slot := 3, sinks := 1, onT := [64], openRun := [(144, true)], pix := (List.range 16).map fun c => (48 + c, 0xFFFFFFFF) }
     s.lm.row = some 3 ∧ cfgF s 0x5800 8 = true ∧ s.lm.slot < 12 ∧ 64 ≤ lmOnNow s 0 ∧ bget s.lm.sinks 0 = true ∧
     mget false s.lm.openRun 144 = true) ∧
    (let s := wLm 0 { run := true, slot := 12, cycle := 1, lit := some (1, 2, 3) }
     lmOn s = true ∧ s.lm.run = true ∧ s.lm.slot = 12 ∧ cfgF s 0x5800 9 = true ∧ s.lm.cycle % 2 = 1 ∧ s.lm.lit = some (1, 2, 3) ∧
     (wLm 0 { run := true, slot := 12, cycle := 2 }).lm.cycle % 2 = 0) ∧
    (hasTrack wOn = true ∧ wOn.sys.mgmtUp = true ∧ cfgF wOn 0x5800 9 = false ∧
      (let s := wLm 0 { nRead := 32, trimG := 128, trimB := 384 }
       cfgF s 0x5800 9 = true ∧ 32 ≤ s.lm.nRead ∧ ∀ c, c < 3 → 128 ≤ lmTrim s.lm c ∧ lmTrim s.lm c ≤ 384)) ∧
    ((1 : Fin 2).val ≠ (wLm 0 {}).lm.page ∧ (0 : Fin 2).val = (wLm 0 {}).lm.page) := by
  decide +kernel

/-! ### Well-formedness: each check refuses a term that breaks it -/

theorem test_wf_refuses :
    (SinLevels.wf ⟨[0]⟩ = false ∧ Path.wf (.zeley 1024) = false ∧ Sys2Proof.addrOk 0x1000000 = false) ∧
    (DictReq.wf (wReq 0x10000 0 0 []) = false ∧ DictReq.wf (wReq 0 256 0 []) = false ∧ DictReq.wf (wReq 0 0 (2 ^ 32) []) = false ∧
      DictReq.wf { wReq 0 0 0 [] with epoch := 65536 } = false ∧ DictReq.wf { wReq 0 0 0 [] with tid := 65536 } = false ∧
      DictReq.wf (wReq 0 0 993 (List.replicate 993 0)) = false) ∧
    (ZlFrame.wf { wFrame 1 2 [0, 0] with type := 16 } = false ∧ ZlFrame.wf (wFrame 1 4 [0, 0]) = false ∧ ZlFrame.wf { wFrame 1 2 [0, 0] with dst := 1024 } = false ∧
      ZlFrame.wf { wFrame 1 2 [0, 0] with src := 1024 } = false ∧ ZlFrame.wf { wFrame 1 2 [0, 0] with hops := 1024 } = false ∧
      ZlFrame.wf { wFrame 1 2 [0, 0] with seq := 65536 } = false ∧ ZlFrame.wf (wFrame 1 2 [0]) = false ∧
      ZlFrame.wf { wFrame 1 2 [0, 0] with len := 1523 } = false ∧ ZlFrame.wf { wFrame 1 2 [0, 0, 0] with len := 2 } = false) ∧
    (TlFrame.wf (wTlf 0 1024 0 true true 0) = false ∧ TlFrame.wf (wTlf 65536 9 0 true true 0) = false ∧ TlFrame.wf (wTlf 0 9 65536 true true 0) = false ∧
      TlFrame.wf (wTlf 0 9 0 true true (2 ^ 64)) = false ∧ TlFrame.wf { wTlf 0 9 0 true true 0 with cp := 32 } = false ∧
      TlFrame.wf { wTlf 0 9 0 true true 0 with len := 256 } = false) := by
  decide +kernel

theorem test_wf_commands :
    (Instr.wf (.safetyOperational w10 ⟨⟨List.replicate 16 0⟩, ⟨[]⟩⟩) = false ∧ Instr.wf (.sinSample w10 .a ⟨[]⟩) = false ∧ Instr.wf (.readbackSample w10 .a [0]) = false ∧ Instr.wf (.commitGo w10 (.zeley 1024)) = false ∧
      Instr.wf (.sessionOpen w10 .host (List.replicate 4097 0)) = false ∧ Instr.wf (.sectionReset w10 0 (some (.zeley 1024))) = false ∧
      Instr.wf (.dictRead w10 .host (wReq 0x10000 0 0 [])) = false ∧ Instr.wf (.dictTransferExpiry w10 (.zeley 1024) 0) = false ∧
      Instr.wf (.hpRead w10 (wRead 0x1000000 0)) = false ∧ Instr.wf (.hpRead w10 (wRead 0 16)) = false ∧ Instr.wf (.rxEvent 0 ⟨[(1, 5), (1, 0)]⟩) = false ∧
      Instr.wf (.hpStatusCmd w10 ⟨false, false, 16, 0⟩ 0 false) = false ∧ Instr.wf (.hpBadcmd w10 ⟨false, false, 0, 0x1000000⟩ 0) = false ∧ Instr.wf (.registerWrite 2 0) = false ∧ Instr.wf (.resultStatusRead 0x1000000) = false ∧
      Instr.wf (.zlHelloFrame w10 0 (wFrame 1 4 [])) = false ∧ Instr.wf (.tlFrameReceive w10 0 (wTlf 65536 9 0 true true 0)) = false ∧
      Instr.wf (.assignWrite w10 ⟨.zeley 1024, []⟩) = false ∧ Instr.wf (.fcTripWrite (.zeley 1024) 0) = false) ∧
    (Instr.wf (.sinSample w10 .a ⟨List.replicate 16 0⟩) = true ∧ Instr.wf (.zlHelloFrame w10 0 (wFrame 3 2 (leBytes 16 0))) = true ∧ Instr.wf (.registerWrite 4 0) = true) := by
  decide +kernel

/-! ### Worked examples of the spec -/

/-- 19_host_port_events.md, R417: the CRC-8 of "123456789" is 0xDF. -/
theorem test_crc8_check : crc8 [0x31, 0x32, 0x33, 0x34, 0x35, 0x36, 0x37, 0x38, 0x39] = 0xDF := by decide +kernel

/-- 09_accords_interference.md, R215: code 29 has the offsets 0, 2,688 and 4,608 steps. -/
theorem test_code29 : codeOffsets 29 = [0, 2688, 4608] := by decide +kernel
/-- 20_crc_units.md, "the standard check": OUTCOME 1 with the check value 0xCBF4_3926, the register before XorOut 0x340B_C6D9. -/
theorem test_crc_standard :
    (match exec (.crcScanDone 0) { wOn with
       hp := { req := (List.range 9).map fun i => (i, BitVec.ofNat 8 (0x31 + i)) }
       crc0 := { busy := true, sPoly := 1, sAddr := 0x051000, sLeft := 9, run := 0xFFFFFFFF } } with
     | .next u => (u.crc0.outcome, u.crc0.result.toNat, u.crc0.run.toNat % 2 ^ 32)
     | _ => (0, 0, 0)) = (1, 0xCBF43926, 0x340BC6D9) := by
  decide +kernel


end Sys2Proof.Machine
end

section
/-! PROOF. O34: the latch of a zone frame. Draining the queue and the floor test leave every zone's history, so the debounce of the
latch starts from the history as it stood; the posted table and the contexts that go on are then read zone by zone. -/

namespace Sys2Proof.Machine

/-! ### Tables that list a run of keys -/

/-- A table with one entry for each listed key reads as its function. -/
theorem mlook_map_of_mem {α : Type} (g : Nat → α) {l : List Nat} {k : Nat} (hk : k ∈ l) :
    mlook (l.map fun i => (i, g i)) k = some (g k) := by
  induction l with
  | nil => cases hk
  | cons i l ih =>
    by_cases hi : k = i
    · simp [mlook, hi]
    · simpa [mlook, hi] using ih (List.mem_of_ne_of_mem hi hk)

/-- A key that is not listed reads as the default. -/
theorem mget_filterMap_of_notMem {α : Type} [DecidableEq α] (d : α) (g : Nat → α) {l : List Nat} {k : Nat} (hk : k ∉ l) :
    mget d (l.filterMap fun i => if g i = d then none else some (i, g i)) k = d := by
  induction l with
  | nil => rfl
  | cons i l ih =>
    obtain ⟨hi, hl⟩ := List.ne_and_not_mem_of_not_mem_cons hk
    by_cases hd : g i = d <;> simp [hd, mget, hi, ih hl]

/-- A table of which the entries equal to the default are dropped still reads as its function. -/
theorem mget_filterMap_of_mem {α : Type} [DecidableEq α] (d : α) (g : Nat → α) {l : List Nat} {k : Nat} (hk : k ∈ l) :
    mget d (l.filterMap fun i => if g i = d then none else some (i, g i)) k = g k := by
  induction l with
  | nil => cases hk
  | cons i l ih =>
    by_cases hl : k ∈ l
    · by_cases hd : g i = d
      · simpa [hd] using ih hl
      · by_cases hi : k = i
        · simp [hd, mget, hi]
        · simpa [hd, mget, hi] using ih hl
    · obtain rfl : k = i := (List.mem_cons.mp hk).resolve_right hl
      by_cases hd : g k = d
      · simpa [hd] using mget_filterMap_of_notMem d g hl
      · simp [hd, mget]

/-! ### What evaluation leaves of the zones -/

/-- The echo queue, the refill that is due, and every zone's history and OCC are the same. -/
structure HistoryKept (u s : State) : Prop where
  queue : u.ze.q = s.ze.q
  refill : u.ze.refillAll = s.ze.refillAll
  hist : ∀ z, (znGet u z).h = (znGet s z).h
  occ : ∀ z, (znGet u z).occ = (znGet s z).occ

theorem HistoryKept.refl (s : State) : HistoryKept s s := ⟨rfl, rfl, fun _ => rfl, fun _ => rfl⟩

theorem HistoryKept.trans {u t s : State} (h₁ : HistoryKept u t) (h₂ : HistoryKept t s) : HistoryKept u s :=
  ⟨h₁.queue.trans h₂.queue, h₁.refill.trans h₂.refill, fun z => (h₁.hist z).trans (h₂.hist z), fun z => (h₁.occ z).trans (h₂.occ z)⟩

theorem HistoryKept.foldl {α : Type} {f : State → α → State} (hf : ∀ s x, HistoryKept (f s x) s) (l : List α) (s : State) :
    HistoryKept (l.foldl f s) s := by
  induction l generalizing s with
  | nil => exact .refl s
  | cons x l ih => exact (ih (f s x)).trans (hf s x)

theorem znGet_znUpd_same (z : Nat) (f : Zn → Zn) (s : State) : znGet (znUpd z f s) z = f (znGet s z) := by simp [znGet, znUpd]

theorem znGet_znUpd_other {y z : Nat} (h : y ≠ z) (f : Zn → Zn) (s : State) : znGet (znUpd z f s) y = znGet s y := by
  simp [znGet, znUpd, h]

theorem znUpd_historyKept (z : Nat) (f : Zn → Zn) (s : State)
    (hh : ∀ x, (f x).h = x.h := by intro; rfl) (ho : ∀ x, (f x).occ = x.occ := by intro; rfl) :
    HistoryKept (znUpd z f s) s := by
  have hz : ∀ y, (znGet (znUpd z f s) y).h = (znGet s y).h ∧ (znGet (znUpd z f s) y).occ = (znGet s y).occ := by
    intro y
    by_cases hy : y = z
    · subst hy; rw [znGet_znUpd_same]; exact ⟨hh _, ho _⟩
    · rw [znGet_znUpd_other hy]; exact ⟨rfl, rfl⟩
  exact ⟨rfl, rfl, fun y => (hz y).1, fun y => (hz y).2⟩

theorem zeCnt_historyKept (f : ZeCnt → ZeCnt) (s : State) : HistoryKept (zeCnt f s) s := ⟨rfl, rfl, fun _ => rfl, fun _ => rfl⟩

theorem zoneHit_historyKept (v : State) (e : Echo) (z : Nat) (s : State) : HistoryKept (zoneHit v e z s) s := by
  unfold zoneHit
  split <;> exact znUpd_historyKept z _ s

theorem evalEcho_historyKept (v : State) (x : QEcho) (s : State) : HistoryKept (evalEcho v x s) s := by
  unfold evalEcho
  split
  · exact zeCnt_historyKept _ s
  · exact (HistoryKept.foldl (fun s z => zoneHit_historyKept v x.e z s) _ _).trans (zeCnt_historyKept _ s)

theorem evalPoint_historyKept (v : State) (x : QPoint) (s : State) : HistoryKept (evalPoint v x s) s := by
  unfold evalPoint evalNp
  split
  · exact HistoryKept.foldl (fun s _ => HistoryKept.foldl (fun s z => znUpd_historyKept z _ s) _ s) _ s
  · exact .refl s

theorem floorTest_historyKept (v s : State) : HistoryKept (floorTest v s) s := by
  unfold floorTest
  refine HistoryKept.foldl (fun u e => ?_) _ s
  split
  · exact HistoryKept.foldl (fun s z => znUpd_historyKept z _ s) _ u
  · exact .refl u

/-- The state with the records of frame `f` out of the two queues. -/
def withoutFrame (f : BitVec 32) (s : State) : State :=
  { s with ze := { s.ze with q := s.ze.q.filter (fun x => x.frame != f), qp := s.ze.qp.filter (fun x => x.frame != f) } }

/-- A drain takes the records of the frame out of the two queues and then only evaluates. -/
theorem drainFrame_historyKept (f : BitVec 32) (s : State) : HistoryKept (drainFrame f s) (withoutFrame f s) :=
  (HistoryKept.foldl (fun s x => evalPoint_historyKept _ x s) _ _).trans (HistoryKept.foldl (fun s x => evalEcho_historyKept _ x s) _ _)

/-- The state at the latch of frame `f` when all its records are evaluated and the floor is tested. -/
def evaluated (f : BitVec 32) (s : State) : State := floorTest (viewFrame f s) (drainFrame f s)

theorem evaluated_historyKept (f : BitVec 32) (s : State) : HistoryKept (evaluated f s) (withoutFrame f s) :=
  (floorTest_historyKept _ _).trans (drainFrame_historyKept f s)

@[simp] theorem evaluated_refillAll (f : BitVec 32) (s : State) : (evaluated f s).ze.refillAll = s.ze.refillAll :=
  (evaluated_historyKept f s).refill
@[simp] theorem evaluated_h (f : BitVec 32) (s : State) (z : Nat) : (znGet (evaluated f s) z).h = (znGet s z).h :=
  (evaluated_historyKept f s).hist z
@[simp] theorem evaluated_occ (f : BitVec 32) (s : State) (z : Nat) : (znGet (evaluated f s) z).occ = (znGet s z).occ :=
  (evaluated_historyKept f s).occ z

theorem frame_ne_of_mem_evaluated_q {f : BitVec 32} {s : State} {x : QEcho} (hx : x ∈ (evaluated f s).ze.q) : x.frame ≠ f := by
  rw [(evaluated_historyKept f s).queue] at hx
  simpa using (List.mem_filter.mp hx).2

/-! ### The close of one zone -/

/-- STATE of the state word is the zone's state (Table 1.6). -/
theorem zoneWord_state (v : State) (z : Nat) (x : Zn) : fld (zoneWord v z x).toNat 12 2 = zoneState v z x := by
  have hs : zoneState v z x < 4 := by unfold zoneState; (repeat' split) <;> decide
  have hb : ∀ (b : Bool) (i : Nat), bitIf b i ≤ 2 ^ i := by intro b i; cases b <;> simp [bitIf]
  have h11 := hb (decide (1 ≤ x.hits)) 11
  have h10 := hb x.ovt 10
  have h9 := hb x.np 9
  have h8 := hb x.short 8
  simp only [zoneWord, fld, put, BitVec.toNat_ofNat]
  omega

theorem zoneClose_state (v s : State) (z : Nat) : fld (zoneClose v s z).1.word.toNat 12 2 = zoneState v z (zoneClose v s z).1 :=
  zoneWord_state v z _

theorem zoneClose_state_inactive {v s : State} {z : Nat} (hon : znOn v z = false) : fld (zoneClose v s z).1.word.toNat 12 2 = 3 := by
  simp [zoneClose_state, zoneState, hon]

theorem zoneClose_state_occupied {v s : State} {z : Nat} (hon : znOn v z = true) (ho : (zoneClose v s z).1.occ = true) :
    fld (zoneClose v s z).1.word.toNat 12 2 = 0 := by
  simp [zoneClose_state, zoneState, hon, ho]

/-- R36: a zone that is not OCCUPIED is UNVERIFIED where NP or SHORT is 1, else EMPTY. -/
theorem zoneClose_state_vacant {v s : State} {z : Nat} (hon : znOn v z = true) (ho : (zoneClose v s z).1.occ = false) :
    fld (zoneClose v s z).1.word.toNat 12 2 = if (zoneClose v s z).1.np = true ∨ (zoneClose v s z).1.short = true then 2 else 1 := by
  simp [zoneClose_state, zoneState, hon, ho]

section Debounce
variable {v s : State} {z : Nat} (hon : znOn v z = true) (hr : s.ze.refillAll = false)
include hon hr

/-- R259: the newest outcome enters the history of N frames. -/
theorem zoneClose_h (f : BitVec 32) : (zoneClose v (evaluated f s) z).1.h =
    decide (znHitmin v z ≤ (zoneClose v (evaluated f s) z).1.hits) :: (znGet s z).h.take (znN v z - 1) := by
  simp [zoneClose, debounceHist, hr, hon]

/-- R259: K positive outcomes set OCC, none clears it, and any other number leaves it. -/
theorem zoneClose_occ (f : BitVec 32) : (zoneClose v (evaluated f s) z).1.occ =
    if znK v z ≤ ((zoneClose v (evaluated f s) z).1.h.filter id).length then true
    else if ((zoneClose v (evaluated f s) z).1.h.filter id).length = 0 then false else (znGet s z).occ := by
  simp [zoneClose, debounceHist, hr, hon]

theorem zoneClose_occ_set (f : BitVec 32) (hk : znK v z ≤ ((zoneClose v (evaluated f s) z).1.h.filter id).length) :
    (zoneClose v (evaluated f s) z).1.occ = true := by
  rw [zoneClose_occ hon hr, if_pos hk]

theorem zoneClose_occ_cleared (f : BitVec 32) (hk : ((zoneClose v (evaluated f s) z).1.h.filter id).length < znK v z)
    (h0 : ((zoneClose v (evaluated f s) z).1.h.filter id).length = 0) : (zoneClose v (evaluated f s) z).1.occ = false := by
  rw [zoneClose_occ hon hr, if_neg (Nat.not_le.mpr hk), if_pos h0]

theorem zoneClose_occ_left (f : BitVec 32) (hk : ((zoneClose v (evaluated f s) z).1.h.filter id).length < znK v z)
    (h0 : ((zoneClose v (evaluated f s) z).1.h.filter id).length ≠ 0) : (zoneClose v (evaluated f s) z).1.occ = (znGet s z).occ := by
  rw [zoneClose_occ hon hr, if_neg (Nat.not_le.mpr hk), if_neg h0]

end Debounce

/-- R261: what goes on into the next frame is the history and OCC; every counter restarts. -/
theorem zoneClose_next {v s : State} {z : Nat} (h : (zoneClose v s z).1.refillPost = false) :
    (zoneClose v s z).2 = { h := (zoneClose v s z).1.h, occ := (zoneClose v s z).1.occ } :=
  if_neg (Bool.eq_false_iff.mp h)

/-! ### The latch of every zone -/

theorem latchZones_lat (f : BitVec 32) (s : State) {z : Nat} (hz : z < 1024) :
    mlook (latchZones f s).ze.lat z = some (zoneClose (viewFrame f s) (evaluated f s) z).1 := by
  unfold latchZones
  simp only [List.map_map, Function.comp_def]
  exact mlook_map_of_mem (fun i => (zoneClose (viewFrame f s) (evaluated f s) i).1) (List.mem_range.mpr hz)

theorem latchZones_znGet (f : BitVec 32) (s : State) {z : Nat} (hz : z < 1024) :
    znGet (latchZones f s) z = (zoneClose (viewFrame f s) (evaluated f s) z).2 := by
  unfold znGet latchZones
  simp only [List.filterMap_map, Function.comp_def]
  exact (mget_filterMap_of_mem ({} : Zn) (fun i => (zoneClose (viewFrame f s) (evaluated f s) i).2) (List.mem_range.mpr hz) :)

theorem latchZones_q (f : BitVec 32) (s : State) : (latchZones f s).ze.q = (evaluated f s).ze.q := by
  unfold latchZones evaluated; rfl

theorem frame_ne_of_mem_latchZones_q {f : BitVec 32} {s : State} {x : QEcho} (hx : x ∈ (latchZones f s).ze.q) : x.frame ≠ f :=
  frame_ne_of_mem_evaluated_q (latchZones_q f s ▸ hx)

/-! ### Time changes no setting -/

theorem viewFrame_advance (f : BitVec 32) (t : Nat) (s : State) : viewFrame f (advance t s) = advance t (viewFrame f s) := by
  simp only [viewFrame, advance_pw, apply_ite (advance t)]
  rfl

theorem neOwes_advance (f : BitVec 32) (t : Nat) (s : State) : neOwes (advance t s) f = neOwes s f := rfl

/-! ### The two commands -/

theorem exec_zoneFrameLatch_due {s : State} (t : Nat) (hd : s.ze.latchDue = true) (ho : neOwes s s.ze.latchFrame = false) :
    exec (.zoneFrameLatch t) s = .next (latchZones s.ze.latchFrame (advance t s)) :=
  congrArg Host.Outcome.next (if_pos (by simp [hd, neOwes_advance, ho]))

theorem exec_zoneFrameLatch_waits {s : State} (t : Nat) (h : s.ze.latchDue = false ∨ neOwes s s.ze.latchFrame = true) :
    exec (.zoneFrameLatch t) s = .next (advance t s) :=
  congrArg Host.Outcome.next (if_neg (by obtain hd | ho := h <;> simp [neOwes_advance, *]))

/-- The expansion of a new map ends only when no latch is due (R267). -/
theorem exec_mapExpansionDone_done {s : State} (t : Nat) (hd : s.ze.latchDue = false) :
    exec (.mapExpansionDone t) s = .next { advance t s with ze := { s.ze with expanding := false } } :=
  congrArg Host.Outcome.next (if_neg (by simp [hd]))

theorem exec_mapExpansionDone_waits {s : State} (t : Nat) (hd : s.ze.latchDue = true) :
    exec (.mapExpansionDone t) s = .next (advance t s) :=
  congrArg Host.Outcome.next (if_pos hd)

/-! ### The obligation -/

/-- Settles O34: it holds. The latch is taken exactly where it is due and no note engine owes records; evaluation leaves each zone's
history, so the debounce of the latch adds one outcome to the history that stood. -/
theorem zoneLatch : Obligations.ZoneLatch := by
  unfold Obligations.ZoneLatch
  intro s t
  refine ⟨fun hd ho => ?_, fun h => ⟨_, exec_zoneFrameLatch_waits t h, rfl⟩, fun hd => ⟨_, exec_mapExpansionDone_done t hd, rfl⟩,
    fun hd => ⟨_, exec_mapExpansionDone_waits t hd, rfl⟩⟩
  refine ⟨_, exec_zoneFrameLatch_due t hd ho, ?_, rfl, rfl, rfl, rfl, fun x => frame_ne_of_mem_latchZones_q, fun z hz => ?_⟩
  · exact (latchZones_guarded _ _).trans (advance_guarded t s)
  have hlat := latchZones_lat s.ze.latchFrame (advance t s) hz
  have hnext := latchZones_znGet s.ze.latchFrame (advance t s) hz
  rw [viewFrame_advance] at hlat hnext
  refine ⟨_, hlat, zoneClose_state_inactive, zoneClose_state_occupied, zoneClose_state_vacant, fun hon hr _ => ?debounce, fun hp => ?restart⟩
  case debounce =>
    exact ⟨zoneClose_h (s := advance t s) hon hr _, zoneClose_occ_set (s := advance t s) hon hr _,
      zoneClose_occ_cleared (s := advance t s) hon hr _, zoneClose_occ_left (s := advance t s) hon hr _⟩
  case restart =>
    rw [hnext, zoneClose_next hp]
    exact ⟨rfl, rfl, rfl, rfl⟩

end Sys2Proof.Machine
end

section
/-! PROOF. O23: the blotter path, the detector bias and the health of a channel. Each command is read once, case by case, as a write of
one channel's or one quadrant's record; the clauses are then facts about that record. -/

namespace Sys2Proof.Machine

/-! ### Entries of a store and folds over the state -/

@[simp] theorem mlook_mput_same {α : Type} (m : SMap α) (k : Nat) (v : α) : mlook (mput m k v) k = some v := by
  induction m with
  | nil => simp [mput, mlook]
  | cons e m ih =>
    obtain ⟨k', x⟩ := e
    unfold mput
    (repeat' split) <;> simp_all [mlook]

theorem mlook_mput_other {α : Type} (m : SMap α) {k j : Nat} (v : α) (h : j ≠ k) : mlook (mput m k v) j = mlook m j := by
  induction m with
  | nil => simp [mput, mlook, h]
  | cons e m ih =>
    obtain ⟨k', x⟩ := e
    unfold mput
    (repeat' split) <;> simp_all [mlook]

@[simp] theorem mlook_mdel_same {α : Type} (m : SMap α) (k : Nat) : mlook (mdel m k) k = none := by
  induction m with
  | nil => rfl
  | cons e m ih =>
    obtain ⟨k', x⟩ := e
    unfold mdel
    split <;> simp_all [mlook]

/-- What every step of a fold leaves unchanged, the fold leaves unchanged. -/
theorem foldl_keeps {α β : Type} (p : State → β) {f : State → α → State} (h : ∀ s x, p (f s x) = p s) (l : List α) (s : State) :
    p (l.foldl f s) = p s := by
  induction l generalizing s with
  | nil => rfl
  | cons x l ih => exact (ih (f s x)).trans (h s x)

/-! ### Records of a channel and of a quadrant -/

@[simp] theorem rxGet_rxPut_same (ch : Nat) (x : RxCh) (s : State) : rxGet (rxPut ch x s) ch = x := mget_mset_same _ _ _ _
theorem rxGet_rxPut_other {ch k : Nat} (h : k ≠ ch) (x : RxCh) (s : State) : rxGet (rxPut ch x s) k = rxGet s k :=
  mget_mset_other _ _ _ _ _ h
@[simp] theorem rxGet_rxUpd_same (ch : Nat) (f : RxCh → RxCh) (s : State) : rxGet (rxUpd ch f s) ch = f (rxGet s ch) :=
  rxGet_rxPut_same _ _ _
theorem rxGet_rxUpd_other {ch k : Nat} (h : k ≠ ch) (f : RxCh → RxCh) (s : State) : rxGet (rxUpd ch f s) k = rxGet s k :=
  rxGet_rxPut_other h _ s
@[simp] theorem rqGet_rqPut_same (q : Nat) (x : Rq) (s : State) : rqGet (rqPut q x s) q = x := mget_mset_same _ _ _ _

theorem rqGet_advance (t q : Nat) (s : State) : rqGet (advance t s) q = rqGet s q := rfl

theorem onlyRx_rxPut (ch : Nat) (x : RxCh) (s : State) : OnlyRx ch s (rxPut ch x s) :=
  ⟨rxPut_guarded ch x s, fun _ hk => rxGet_rxPut_other hk x s⟩

theorem OnlyRx.trans {ch : Nat} {s t u : State} (h₁ : OnlyRx ch s t) (h₂ : OnlyRx ch t u) : OnlyRx ch s u :=
  ⟨h₂.1.trans h₁.1, fun k hk => (h₂.2 k hk).trans (h₁.2 k hk)⟩

theorem onlyRx_drawn (ch : Nat) (s : State) : OnlyRx ch s (drawn s) := ⟨by simp [Kept], fun _ _ => rfl⟩

/-! ### Injections (R158) -/

/-- The record of a channel after an injection. -/
def injected (x : RxCh) : RxCh := { x with inj := min 16 (x.inj + 1), cnt := { x.cnt with inj := satAdd 8 x.cnt.inj 1 } }

/-- An injection into channel `c` of the quadrant, if it is enabled. -/
def injectCh (q : Nat) (s : State) (c : Nat) : State :=
  if rxOn s (48 * q + c) then rxUpd (48 * q + c) injected s else s

theorem inject_due {q : Nat} {s : State} (hp : qPresent s q = true) (hi : injStep s q = true) (hc : dpClocked s = true) :
    inject q s = (List.range 48).foldl (injectCh q) (rqPut q { rqGet s q with injN := (rqGet s q).injN + 1 } s) :=
  if_pos (by simp [hp, hi, hc])

theorem inject_idle {q : Nat} {s : State} (h : injStep s q = false ∨ dpClocked s = false) : inject q s = s :=
  if_neg (by obtain h | h := h <;> simp [h])

theorem rqGet_injectCh (q c k : Nat) (s : State) : rqGet (injectCh q s c) k = rqGet s k := by
  unfold injectCh; split <;> rfl

theorem rxOn_injectCh (q c ch : Nat) (s : State) : rxOn (injectCh q s c) ch = rxOn s ch := by
  unfold injectCh; split <;> rfl

theorem rxGet_injectCh (q c : Nat) (s : State) : rxGet (injectCh q s c) (48 * q + c) =
    if rxOn s (48 * q + c) = true then injected (rxGet s (48 * q + c)) else rxGet s (48 * q + c) := by
  unfold injectCh; split <;> simp

theorem rxGet_injectCh_other {q c k : Nat} (h : k ≠ 48 * q + c) (s : State) : rxGet (injectCh q s c) k = rxGet s k := by
  unfold injectCh; split
  · exact rxGet_rxUpd_other h _ s
  · rfl

/-- Each of the first `n` channels of the quadrant takes its own injection and no other channel's. -/
theorem rxGet_foldl_injectCh {q c n : Nat} (hc : c < n) (s : State) : rxGet ((List.range n).foldl (injectCh q) s) (48 * q + c) =
    if rxOn s (48 * q + c) = true then injected (rxGet s (48 * q + c)) else rxGet s (48 * q + c) := by
  have before : ∀ m, m ≤ c → rxGet ((List.range m).foldl (injectCh q) s) (48 * q + c) = rxGet s (48 * q + c) := by
    intro m hm
    induction m with
    | zero => rfl
    | succ m ih =>
      rw [List.range_succ, List.foldl_append]
      exact (rxGet_injectCh_other (by omega) _).trans (ih (by omega))
  induction n with
  | zero => omega
  | succ n ih =>
    rw [List.range_succ, List.foldl_append, List.foldl_cons, List.foldl_nil]
    obtain rfl | hlt := Nat.eq_or_lt_of_le (Nat.le_of_lt_succ hc)
    · rw [rxGet_injectCh, before c le_rfl, foldl_keeps (rxOn · (48 * q + c)) fun s x => rxOn_injectCh q x _ s]
    · rw [rxGet_injectCh_other (by omega), ih hlt]

theorem rxGet_inject {q : Nat} {s : State} (hp : qPresent s q = true) (hi : injStep s q = true) (hc : dpClocked s = true) {c : Nat}
    (h48 : c < 48) : rxGet (inject q s) (48 * q + c) =
      if rxOn s (48 * q + c) = true then injected (rxGet s (48 * q + c)) else rxGet s (48 * q + c) := by
  rw [inject_due hp hi hc]
  exact rxGet_foldl_injectCh h48 _

theorem injN_inject {q : Nat} {s : State} (hp : qPresent s q = true) (hi : injStep s q = true) (hc : dpClocked s = true) :
    (rqGet (inject q s) q).injN = (rqGet s q).injN + 1 := by
  rw [inject_due hp hi hc, foldl_keeps (rqGet · q) fun s c => rqGet_injectCh q c q s, rqGet_rqPut_same]

/-! ### Listens (R159 to R161) -/

/-- The attenuator level of the listen in progress (R158). -/
def listenLevel (s : State) (ch : Nat) : Nat := ((rqGet s (ch / 48)).injN + 15) % 16

/-- The record of a channel after a busy listen. -/
def listenedBusy (x : RxCh) : RxCh := { x with cnt := { x.cnt with busy := satAdd 8 x.cnt.busy 1 } }

/-- The record of a channel after a listen of level `a` without event, before UNCAL is checked. -/
def listenedMiss (a : Nat) (x : RxCh) : RxCh :=
  { x with miss := min 4 (x.miss + 1), dead := x.dead || min 4 (x.miss + 1) == 4, clr := bset x.clr 0 false
           walk := if a = 15 then x.walk else mdel x.walk a }

/-- The record of a channel that has heard its injection, before the result is taken. -/
def listenedHit (x : RxCh) : RxCh := { x with miss := 0, dead := x.dead && !bget x.clr 0, clr := bset x.clr 0 false }

section Listen
variable {s : State} {ch : Nat} {b : BlotSeen} (hd : dpOn s = true) (hon : rxOn s ch = true)
include hd hon

theorem listen_opens : ¬(!rxOn s ch || !dpOn s) = true := by simp [hd, hon]

theorem listen_busy (h : 1 < b.events ∨ b.early = true) : listen ch b s = rxPut ch (listenedBusy (rxGet s ch)) s :=
  (if_neg (listen_opens hd hon)).trans (if_pos (by simpa using h))

theorem listen_miss (h0 : b.events = 0) (he : b.early = false) :
    listen ch b s = uncalEnd ch (rxPut ch (listenedMiss (listenLevel s ch) (rxGet s ch)) s) :=
  (if_neg (listen_opens hd hon)).trans ((if_neg (by simp [h0, he])).trans (if_pos h0))

theorem listen_result15 (h1 : b.events = 1) (he : b.early = false) (ha : listenLevel s ch = 15) :
    listen ch b s = uncalEnd ch (level15 ch b (rxPut ch (listenedHit (rxGet s ch)) s)) :=
  (if_neg (listen_opens hd hon)).trans ((if_neg (by simp [h1, he])).trans ((if_neg (by simp [h1])).trans (congrArg (uncalEnd ch) (if_pos ha))))

theorem listen_resultLow (h1 : b.events = 1) (he : b.early = false) (ha : listenLevel s ch ≠ 15) :
    listen ch b s = uncalEnd ch (levelLow ch (listenLevel s ch) b (rxPut ch (listenedHit (rxGet s ch)) s)) :=
  (if_neg (listen_opens hd hon)).trans ((if_neg (by simp [h1, he])).trans ((if_neg (by simp [h1])).trans (congrArg (uncalEnd ch) (if_neg ha))))

end Listen

theorem onlyRx_uncalEnd (ch : Nat) (s : State) : OnlyRx ch s (uncalEnd ch s) := onlyRx_rxPut ch _ s

theorem rxGet_uncalEnd (ch : Nat) (s : State) : rxGet (uncalEnd ch s) ch =
    { rxGet s ch with uncal := (rxGet s ch).uncal && !((rxGet s ch).zofsGot && decide (16 ≤ (rxGet s ch).inj)) } :=
  rxGet_rxUpd_same _ _ _

/-- R161: after four listens in a row without event the channel is DEAD. -/
theorem listenedMiss_dead {x : RxCh} (a : Nat) (h : 3 ≤ x.miss) : (listenedMiss a x).dead = true := by
  have h4 : min 4 (x.miss + 1) = 4 := by omega
  simp [listenedMiss, h4]

theorem listenedMiss_walk {a : Nat} (x : RxCh) (h : a ≠ 15) : mlook (listenedMiss a x).walk a = none := by
  simp [listenedMiss, h]

/-- R162: DEAD ends with a listen that hears its injection, where a clear waits for it. -/
theorem listenedHit_dead {x : RxCh} (h : bget x.clr 0 = true) : (listenedHit x).dead = false := by
  simp [listenedHit, h]

theorem onlyRx_level15 (ch : Nat) (b : BlotSeen) (s : State) : OnlyRx ch s (level15 ch b s) :=
  (onlyRx_drawn ch s).trans (onlyRx_rxPut ch _ _)

/-- What a level-15 result leaves of the record, and what it says of ZOFS. -/
theorem level15_keeps (ch : Nat) (b : BlotSeen) (s : State) :
    (rxGet (level15 ch b s) ch).miss = (rxGet s ch).miss ∧ (rxGet (level15 ch b s) ch).dead = (rxGet s ch).dead ∧
    (rxGet (level15 ch b s) ch).inj = (rxGet s ch).inj ∧ (rxGet (level15 ch b s) ch).zofsGot = true := by
  simp [level15]

theorem filt16_step (z m : Int) (up : Bool) : FilterStep z m (filt16 z m up) := by
  unfold FilterStep filt16
  split
  next h => exact .inr ⟨h.1, rfl⟩
  next => exact .inl (by omega)

/-- R159: the first level-15 result after a data-plane start is taken directly. -/
theorem level15_zofs_first {ch : Nat} {s : State} (b : BlotSeen) (h : (rxGet s ch).zofsGot = false) :
    (rxGet (level15 ch b s) ch).zofs16 = 16 * b.m := by
  simp [level15, h]

/-- R159: every later one moves ZOFS by the filter. -/
theorem level15_zofs_step {ch : Nat} {s : State} (b : BlotSeen) (h : (rxGet s ch).zofsGot = true) :
    FilterStep (rxGet s ch).zofs16 (16 * b.m) (rxGet (level15 ch b s) ch).zofs16 := by
  simpa [level15, h] using filt16_step _ _ _

/-- R161: four level-15 results in a row that are not TOP give THRFAULT. -/
theorem level15_thr {ch : Nat} {b : BlotSeen} {s : State} (hc : b.cls ≠ .top) (h : 3 ≤ (rxGet s ch).notTop) :
    (rxGet (level15 ch b s) ch).thr = true := by
  have h4 : min 4 ((rxGet s ch).notTop + 1) = 4 := by omega
  simp [level15, hc, h4]

theorem onlyRx_levelLow (ch a : Nat) (b : BlotSeen) (s : State) : OnlyRx ch s (levelLow ch a b s) := by
  unfold levelLow; dsimp only; split
  · exact onlyRx_rxPut ch _ s
  · exact (onlyRx_drawn ch s).trans (onlyRx_rxPut ch _ _)

/-- A result of a lower level changes only the walk entries of the channel. -/
theorem rxGet_levelLow (ch a : Nat) (b : BlotSeen) (s : State) :
    ∃ w, rxGet (levelLow ch a b s) ch = { rxGet s ch with walk := w } := by
  unfold levelLow; dsimp only; split <;> exact ⟨_, rxGet_rxPut_same _ _ _⟩

theorem levelLow_walk_base {b : BlotSeen} (ch a : Nat) (s : State) (hc : b.cls = .base) :
    mlook (rxGet (levelLow ch a b s) ch).walk a = none := by
  simp [levelLow, hc]

/-- An entry that is not valid takes the result directly (assumption 115). -/
theorem levelLow_walk_fresh {ch a : Nat} {b : BlotSeen} {s : State} (hc : b.cls ≠ .base) (h : mlook (rxGet s ch).walk a = none) :
    mlook (rxGet (levelLow ch a b s) ch).walk a = some ⟨16 * b.m - (rxGet s ch).zofs16, b.tot⟩ := by
  simp [levelLow, hc, h, walkEntry]

theorem onlyRx_listen (ch : Nat) (b : BlotSeen) (s : State) : OnlyRx ch s (listen ch b s) := by
  unfold listen; dsimp only
  split
  next => exact ⟨rfl, fun _ _ => rfl⟩
  split
  next => exact onlyRx_rxPut ch _ s
  split
  next => exact (onlyRx_rxPut ch _ s).trans (onlyRx_uncalEnd ch _)
  split
  next => exact ((onlyRx_rxPut ch _ s).trans (onlyRx_level15 ch b _)).trans (onlyRx_uncalEnd ch _)
  next => exact ((onlyRx_rxPut ch _ s).trans (onlyRx_levelLow ch _ b _)).trans (onlyRx_uncalEnd ch _)

section Result
variable {s : State} {ch : Nat} {b : BlotSeen} (hd : dpOn s = true) (hon : rxOn s ch = true) (h1 : b.events = 1) (he : b.early = false)
include hd hon h1 he

/-- A result of any level ends the run of misses, and DEAD where a clear waits. -/
theorem listen_result : (rxGet (listen ch b s) ch).miss = 0 ∧
    (bget (rxGet s ch).clr 0 = true → (rxGet (listen ch b s) ch).dead = false) := by
  by_cases ha : listenLevel s ch = 15
  · obtain ⟨hm, hdead, -, -⟩ := level15_keeps ch b (rxPut ch (listenedHit (rxGet s ch)) s)
    rw [listen_result15 hd hon h1 he ha, rxGet_uncalEnd, hm, hdead, rxGet_rxPut_same]
    exact ⟨rfl, listenedHit_dead⟩
  · obtain ⟨w, hw⟩ := rxGet_levelLow ch (listenLevel s ch) b (rxPut ch (listenedHit (rxGet s ch)) s)
    rw [listen_resultLow hd hon h1 he ha, rxGet_uncalEnd, hw, rxGet_rxPut_same]
    exact ⟨rfl, listenedHit_dead⟩

theorem listen_level15 (ha : listenLevel s ch = 15) :
    (rxGet (listen ch b s) ch).zofsGot = true ∧
    ((rxGet s ch).zofsGot = false → (rxGet (listen ch b s) ch).zofs16 = 16 * b.m) ∧
    ((rxGet s ch).zofsGot = true → FilterStep (rxGet s ch).zofs16 (16 * b.m) (rxGet (listen ch b s) ch).zofs16) ∧
    (b.cls ≠ .top → 3 ≤ (rxGet s ch).notTop → (rxGet (listen ch b s) ch).thr = true) ∧
    (16 ≤ (rxGet s ch).inj → (rxGet (listen ch b s) ch).uncal = false) := by
  have hx : rxGet (rxPut ch (listenedHit (rxGet s ch)) s) ch = listenedHit (rxGet s ch) := rxGet_rxPut_same _ _ _
  obtain ⟨-, -, hinj, hgot⟩ := level15_keeps ch b (rxPut ch (listenedHit (rxGet s ch)) s)
  rw [listen_result15 hd hon h1 he ha, rxGet_uncalEnd]
  refine ⟨hgot, fun h => level15_zofs_first b (by rw [hx]; exact h), fun h => ?_, fun hc h => level15_thr hc (by rw [hx]; exact h), fun h => ?_⟩
  · have hstep := level15_zofs_step (ch := ch) (s := rxPut ch (listenedHit (rxGet s ch)) s) b (by rw [hx]; exact h)
    rwa [hx] at hstep
  · have h16 : 16 ≤ (listenedHit (rxGet s ch)).inj := h
    simp [hgot, hinj, hx, h16]

theorem listen_levelLow (ha : listenLevel s ch ≠ 15) :
    (rxGet (listen ch b s) ch).zofs16 = (rxGet s ch).zofs16 ∧
    (b.cls = .base → mlook (rxGet (listen ch b s) ch).walk (listenLevel s ch) = none) ∧
    (b.cls ≠ .base → mlook (rxGet s ch).walk (listenLevel s ch) = none →
      mlook (rxGet (listen ch b s) ch).walk (listenLevel s ch) = some ⟨16 * b.m - (rxGet s ch).zofs16, b.tot⟩) := by
  have hx : rxGet (rxPut ch (listenedHit (rxGet s ch)) s) ch = listenedHit (rxGet s ch) := rxGet_rxPut_same _ _ _
  obtain ⟨w, hw⟩ := rxGet_levelLow ch (listenLevel s ch) b (rxPut ch (listenedHit (rxGet s ch)) s)
  rw [listen_resultLow hd hon h1 he ha, rxGet_uncalEnd]
  refine ⟨by rw [hw, hx]; rfl, levelLow_walk_base ch _ _, fun hc h => ?_⟩
  have hfresh := levelLow_walk_fresh (s := rxPut ch (listenedHit (rxGet s ch)) s) hc (by rw [hx]; exact h)
  rwa [hx] at hfresh

end Result

/-! ### Detector bias (R144, R145) -/

section Bias
variable {s : State} {q : Nat} {temp : Int} (hp : qPresent s q = true) (hd : dpOn s = true)
include hp hd

/-- Without a target the bias goes to 0 V, and a standing HVFAULT ends (assumption 118). -/
theorem hvAdjust_off (hv : Nat) (ht : hvTarget s q temp = none) :
    hvAdjust q hv temp s = rqPut q (biasOff { rqGet s q with hv := hv, temp := temp }) s := by
  simp [hvAdjust, hp, hd, ht]

/-- R145: more than 3 % off the target, the time off it runs on or starts; by how much the bias moves is open (assumption 117). -/
theorem hvAdjust_bad {hv : Nat} {tg : Int} (ht : hvTarget s q temp = some tg) (h : 3 * tg < 100 * ((10 * hv : Nat) - tg).natAbs) :
    hvAdjust q hv temp s = rqPut q { rqGet s q with
      hv := hv, temp := temp, okSince := none, badSince := some ((rqGet s q).badSince.getD s.sys.now)
      bias := biasNext (min 2500 (rqGet s q).bias) (10 * hv : Nat) tg (freeNow s) } (drawn s) := by
  have hb : decide (3 * tg < 100 * ((10 * hv : Nat) - tg).natAbs) = true := decide_eq_true h
  simp only [hvAdjust, hp, hd, ht, hb]
  simp [holdSince, heldFor]

/-- R145, Table 6.3: within 3 % of the target, the time within it runs on or starts, and 10 ms of it end HVFAULT. -/
theorem hvAdjust_ok {hv : Nat} {tg : Int} (ht : hvTarget s q temp = some tg) (h : (100 * ((10 * hv : Nat) - tg).natAbs : Nat) ≤ 3 * tg) :
    hvAdjust q hv temp s = rqPut q { rqGet s q with
      hv := hv, temp := temp, badSince := none, okSince := some ((rqGet s q).okSince.getD s.sys.now)
      bias := biasNext (min 2500 (rqGet s q).bias) (10 * hv : Nat) tg (freeNow s)
      hvFault := (rqGet s q).hvFault && !decide ((rqGet s q).okSince.getD s.sys.now + 10 * msNs ≤ s.sys.now) } (drawn s) := by
  have hb : decide (3 * tg < 100 * ((10 * hv : Nat) - tg).natAbs) = false := decide_eq_false (by omega)
  simp only [hvAdjust, hp, hd, ht, hb]
  simp [holdSince, heldFor]

theorem hvTimeout_due {f : Nat} (ht : hvTarget s q (rqGet s q).temp ≠ none) (hb : (rqGet s q).badSince = some f)
    (hf : f + 10 * msNs ≤ s.sys.now) : hvTimeout q s = rqPut q { rqGet s q with hvFault := true } s := by
  simp [hvTimeout, hp, hd, Option.isSome_iff_ne_none, ht, hb, heldFor, hf]

end Bias

theorem hvTimeout_early {s : State} {q f : Nat} (hb : (rqGet s q).badSince = some f) (hf : s.sys.now < f + 10 * msNs) :
    hvTimeout q s = s := by
  simp [hvTimeout, hb, heldFor, Nat.not_le.mpr hf]

/-- R144: a bias at its target stays. -/
theorem biasNext_at_target (old : Nat) (tg : Int) (f : Nat) : biasNext old tg tg f = old := by simp [biasNext]

/-! ### Clears and ZREF (R162, R165) -/

theorem bget_clearBits (d t c : Bool) :
    bget (BitVec.ofNat 3 (bitIf d 0 + bitIf t 1 + bitIf c 2)) 0 = d ∧ bget (BitVec.ofNat 3 (bitIf d 0 + bitIf t 1 + bitIf c 2)) 1 = t ∧
    bget (BitVec.ofNat 3 (bitIf d 0 + bitIf t 1 + bitIf c 2)) 2 = c := by
  revert d t c; decide

theorem exec_healthClr {ch : Fin 192} {s : State} (hp : chPresent s ch = true) : exec (.healthClr ch) s = .next (healthClr ch s) :=
  congrArg Host.Outcome.next (if_pos hp)

theorem rxGet_healthClr (ch : Nat) (s : State) : rxGet (healthClr ch s) ch =
    { rxGet s ch with clr := BitVec.ofNat 3 (bitIf (rxGet s ch).dead 0 + bitIf (rxGet s ch).thr 1 + bitIf (rxGet s ch).drift 2) } :=
  rxGet_rxUpd_same _ _ _

/-- ZREF_LATCH stages the ZOFS of channel `c` of the quadrant. -/
def zrefStage (q : Nat) (s : State) (c : Nat) : State :=
  stagePut (okey (0x2200 + (48 * q + c)) 7) (leBytes 2 (clampI 0 65535 (round16 (rxGet s (48 * q + c)).zofs16)).toNat) s

theorem zrefLatch_due {q : Nat} {s : State} (hp : qPresent s q = true) (hc : canStage s = true) :
    zrefLatch q s = (List.range 48).foldl (zrefStage q) s := if_pos (by simp [hp, hc])

theorem zrefLatch_refused {q : Nat} {s : State} (hc : canStage s = false) : zrefLatch q s = s := if_neg (by simp [hc])

theorem zrefStage_other {q c d : Nat} (h : d ≠ c) (s : State) :
    mlook (zrefStage q s c).cf.staged (okey (0x2200 + (48 * q + d)) 7) = mlook s.cf.staged (okey (0x2200 + (48 * q + d)) 7) :=
  mlook_mput_other _ _ (by unfold okey; omega)

theorem staged_foldl_zrefStage {q c n : Nat} (hc : c < n) (s : State) :
    mlook ((List.range n).foldl (zrefStage q) s).cf.staged (okey (0x2200 + (48 * q + c)) 7) =
      some (leBytes 2 (clampI 0 65535 (round16 (rxGet s (48 * q + c)).zofs16)).toNat) := by
  induction n with
  | zero => omega
  | succ n ih =>
    rw [List.range_succ, List.foldl_append, List.foldl_cons, List.foldl_nil]
    obtain rfl | hlt := Nat.eq_or_lt_of_le (Nat.le_of_lt_succ hc)
    · have hrx := foldl_keeps (rxGet · (48 * q + c)) (f := zrefStage q) (fun _ _ => rfl) (List.range c) s
      rw [← hrx]
      exact mlook_mput_same _ _ _
    · rw [zrefStage_other (by omega), ih hlt]

/-! ### The commands -/

/-- Settles O23: it holds. The clauses of an injection and of a listen are facts about the record that each command writes; those of
the bias follow from the three cases of the adjustment: no target, off the target, within it. -/
theorem blotterBiasAndHealth : Obligations.BlotterBiasAndHealth := by
  unfold Obligations.BlotterBiasAndHealth
  refine ⟨fun s q ch b hd => ?blotter, fun s t q hv temp tg ch => ?bias⟩
  case blotter =>
    refine ⟨fun hp hi hc => ⟨_, rfl, inject_guarded q s, injN_inject hp hi hc, fun c h48 => ?injection⟩, fun h => ⟨_, rfl, inject_idle h⟩,
      fun hon => ⟨fun hb => ?busy, fun h0 he => ?miss, fun h1 he => ?result⟩⟩
    case injection =>
      rw [rxGet_inject hp hi hc h48]
      exact ⟨fun hon => if_pos hon, fun hoff => if_neg (by simp [hoff])⟩
    case busy =>
      refine ⟨_, rfl, ?_⟩
      rw [listen_busy hd hon hb]
      exact ⟨onlyRx_rxPut ch _ s, rxGet_rxPut_same _ _ _⟩
    case miss =>
      refine ⟨_, rfl, onlyRx_listen ch b s, ?_⟩
      rw [listen_miss hd hon h0 he, rxGet_uncalEnd, rxGet_rxPut_same]
      exact ⟨rfl, rfl, listenedMiss_dead (listenLevel s ch), listenedMiss_walk _⟩
    case result =>
      obtain ⟨hmiss, hdead⟩ := listen_result hd hon h1 he
      exact ⟨_, rfl, onlyRx_listen ch b s, hmiss, hdead, listen_level15 hd hon h1 he, listen_levelLow hd hon h1 he⟩
  case bias =>
    refine ⟨fun hp hd ht => ⟨fun hbad => ?bad, fun hok => ?ok⟩, fun hp hd ht => ?off,
      fun hp hd ht f hb => ⟨fun hf => ?due, fun hf => ?early⟩, fun hp => ?clear, fun hp hc => ?zref, fun hc => ⟨_, rfl, zrefLatch_refused hc⟩⟩
    case bad =>
      refine ⟨_, rfl, (hvAdjust_guarded _ _ _ _).trans (advance_guarded t s), ?_⟩
      rw [hvAdjust_bad (s := advance t s) hp hd ht hbad, rqGet_rqPut_same]
      rfl
    case ok =>
      refine ⟨_, rfl, (hvAdjust_guarded _ _ _ _).trans (advance_guarded t s), ?_⟩
      rw [hvAdjust_ok (s := advance t s) hp hd ht hok, rqGet_rqPut_same]
      refine ⟨rfl, rfl, rfl, fun he => ?_, fun f hf h10 => ?_⟩
      · exact he ▸ biasNext_at_target _ _ _
      · simp only [rqGet_advance, hf, Option.getD_some, decide_eq_true h10, Bool.not_true, Bool.and_false]
    case off =>
      refine ⟨_, rfl, (hvAdjust_guarded _ _ _ _).trans (advance_guarded t s), ?_⟩
      rw [hvAdjust_off (s := advance t s) hp hd hv ht, rqGet_rqPut_same]
      rfl
    case due =>
      refine ⟨_, rfl, (hvTimeout_guarded _ _).trans (advance_guarded t s), ?_⟩
      rw [hvTimeout_due (s := advance t s) hp hd ht hb hf, rqGet_rqPut_same]
      rfl
    case early => exact ⟨_, rfl, hvTimeout_early (s := advance t s) hb hf⟩
    case clear =>
      refine ⟨_, exec_healthClr hp, onlyRx_rxPut ch _ s, ?_⟩
      rw [rxGet_healthClr]
      exact ⟨rfl, bget_clearBits _ _ _⟩
    case zref =>
      refine ⟨_, rfl, zrefLatch_guarded q s, fun c h48 => ?_⟩
      rw [zrefLatch_due hp hc]
      exact staged_foldl_zrefStage h48 s

end Sys2Proof.Machine
end

section
/-! PROOF. O33: the evaluation of echoes and point words. Both are folds that change one zone's counters for each zone listed; such a
fold changes a zone as often as the list names it: never, once (the zones that an echo hits), or at least once (NP). -/

namespace Sys2Proof.Machine

/-! ### Folds over zones -/

/-- A fold of zone updates changes a zone once for each time that it is listed. -/
theorem znGet_foldl_znUpd (g : Nat → Zn → Zn) (z : Nat) (l : List Nat) (s : State) :
    znGet (l.foldl (fun s y => znUpd y (g y) s) s) z = (g z)^[l.count z] (znGet s z) := by
  induction l generalizing s with
  | nil => rfl
  | cons y l ih =>
    rw [List.foldl_cons, ih]
    obtain rfl | hy := eq_or_ne z y
    · rw [List.count_cons_self, Function.iterate_succ_apply, znGet_znUpd_same]
    · rw [List.count_cons_of_ne hy.symm, znGet_znUpd_other hy]

theorem znGet_foldl_znUpd_of_notMem (g : Nat → Zn → Zn) {z : Nat} {l : List Nat} (hz : z ∉ l) (s : State) :
    znGet (l.foldl (fun s y => znUpd y (g y) s) s) z = znGet s z := by
  rw [znGet_foldl_znUpd, List.count_eq_zero.mpr hz]
  rfl

theorem znGet_foldl_znUpd_of_nodup (g : Nat → Zn → Zn) {z : Nat} {l : List Nat} (hl : l.Nodup) (hz : z ∈ l) (s : State) :
    znGet (l.foldl (fun s y => znUpd y (g y) s) s) z = g z (znGet s z) := by
  rw [znGet_foldl_znUpd, List.count_eq_one_of_mem hl hz]
  rfl

/-! ### Echoes (R255) -/

theorem nodup_eraseDups {α : Type} [BEq α] [LawfulBEq α] (l : List α) : l.eraseDups.Nodup := by
  induction h : l.length using Nat.strong_induction_on generalizing l with
  | _ n ih =>
    cases l with
    | nil => exact List.nodup_nil
    | cons a l =>
      have hlt : (l.filter fun b => !b == a).length < n := h ▸ Nat.lt_succ_of_le (List.length_filter_le _ l)
      rw [List.eraseDups_cons, List.nodup_cons]
      exact ⟨by simp, ih _ hlt _ rfl⟩

/-- The counters of zone `z` after echo `e` hits it, or is skipped as a sillage. -/
def afterHit (v : State) (e : Echo) (z : Nat) (x : Zn) : Zn :=
  if znSilskip v z && e.sil then { x with silsk := satAdd 16 x.silsk 1 }
  else { x with
    hits := satAdd 32 x.hits 1, minr := min x.minr e.range, ovt := x.ovt || e.ovt
    ovthits := if e.ovt then satAdd 16 x.ovthits 1 else x.ovthits }

theorem zoneHit_eq (v : State) (e : Echo) (z : Nat) (s : State) : zoneHit v e z s = znUpd z (afterHit v e z) s := by
  unfold zoneHit afterHit
  split <;> rfl

/-- The zones of the intervals that contain the echo, one for each interval. -/
def zonesAround (v : State) (x : QEcho) : List Nat :=
  (((pointCells v x.ch x.step).flatMap (cellIvs v.cf.map)).filter fun i =>
    decide (ivNear i ≤ x.e.range) && decide (x.e.range ≤ ivFar i)).map ivZone

theorem mem_zonesAround {v : State} {x : QEcho} {z : Nat} : z ∈ zonesAround v x ↔ Hits v x z := by
  simp only [zonesAround, Hits, List.mem_map, List.mem_filter, List.mem_flatMap, Bool.and_eq_true, decide_eq_true_eq]
  constructor
  · rintro ⟨i, ⟨⟨w, hw, hi⟩, hr⟩, hz⟩
    exact ⟨w, hw, i, hi, hz, hr⟩
  · rintro ⟨w, hw, i, hi, hz, hr⟩
    exact ⟨i, ⟨⟨w, hw, hi⟩, hr⟩, hz⟩

/-- The zones that the echo counts for, each once. -/
def hitZones (v : State) (x : QEcho) : List Nat := ((zonesAround v x).filter (znOn v)).eraseDups

theorem mem_hitZones {v : State} {x : QEcho} {z : Nat} : z ∈ hitZones v x ↔ Hits v x z ∧ znOn v z = true := by
  rw [hitZones, List.mem_eraseDups, List.mem_filter, mem_zonesAround]

theorem nodup_hitZones (v : State) (x : QEcho) : (hitZones v x).Nodup := nodup_eraseDups _

/-- R255: an echo with PASS 0 is counted and not evaluated. -/
theorem evalEcho_pass0 {v : State} {x : QEcho} (hp : x.e.pass = 0) (s : State) :
    evalEcho v x s = zeCnt (fun c => { c with pass0 := satAdd 16 c.pass0 1 }) s := if_pos hp

/-- The evaluator's counters with the echo in them, and its hits of zones that are not enabled. -/
def echoCounted (v : State) (x : QEcho) (s : State) : State :=
  zeCnt (fun c => { c with
    echoes := satAdd 32 c.echoes 1, inacthit := satAdd 16 c.inacthit ((zonesAround v x).filter fun z => !znOn v z).length }) s

section Passed
variable {v : State} {x : QEcho} (hp : x.e.pass ≠ 0) (s : State)
include hp

theorem evalEcho_passed :
    evalEcho v x s = (hitZones v x).foldl (fun s z => znUpd z (afterHit v x.e z) s) (echoCounted v x s) := by
  rw [evalEcho, if_neg hp]
  simp only [zoneHit_eq]
  rfl

theorem evalEcho_echoes : (evalEcho v x s).ze.cnt.echoes = satAdd 32 s.ze.cnt.echoes 1 := by
  rw [evalEcho_passed hp]
  exact foldl_keeps (·.ze.cnt.echoes) (f := fun s z => znUpd z (afterHit v x.e z) s) (fun _ _ => rfl) _ _

theorem znGet_evalEcho_missed {z : Nat} (h : ¬ Hits v x z ∨ znOn v z = false) : znGet (evalEcho v x s) z = znGet s z := by
  have hz : z ∉ hitZones v x := by
    rw [mem_hitZones]
    rintro ⟨hhit, hon⟩
    simp [hhit, hon] at h
  rw [evalEcho_passed hp]
  exact znGet_foldl_znUpd_of_notMem _ hz _

theorem znGet_evalEcho_hit {z : Nat} (hhit : Hits v x z) (hon : znOn v z = true) :
    znGet (evalEcho v x s) z = afterHit v x.e z (znGet s z) := by
  rw [evalEcho_passed hp]
  exact znGet_foldl_znUpd_of_nodup _ (nodup_hitZones v x) (mem_hitZones.mpr ⟨hhit, hon⟩) _

end Passed

theorem afterHit_skipped {v : State} {e : Echo} {z : Nat} (hskip : znSilskip v z = true) (hsil : e.sil = true) (x : Zn) :
    afterHit v e z x = { x with silsk := satAdd 16 x.silsk 1 } := if_pos (by simp [hskip, hsil])

theorem afterHit_counted {v : State} {e : Echo} {z : Nat} (h : znSilskip v z = false ∨ e.sil = false) (x : Zn) :
    afterHit v e z x = { x with
      hits := satAdd 32 x.hits 1, minr := min x.minr e.range, ovt := x.ovt || e.ovt
      ovthits := if e.ovt then satAdd 16 x.ovthits 1 else x.ovthits } := if_neg (by obtain h | h := h <;> simp [h])

/-! ### Point words (R257) -/

/-- The counters of a zone after a cell of a point word with NP names it. -/
def afterNp (x : Zn) : Zn := { x with np := true, npcells := satAdd 16 x.npcells 1 }

/-- The zones that the cells of the channel-point name, once for each cell. -/
def namedZones (v : State) (ch k : Nat) : List Nat := (pointCells v ch k).flatMap (cellZones v.cf.map)

theorem mem_namedZones {v : State} {ch k z : Nat} : z ∈ namedZones v ch k ↔ Names v ch k z := List.mem_flatMap

theorem evalNp_eq (v : State) (ch k : Nat) (s : State) :
    evalNp v ch k s = (namedZones v ch k).foldl (fun s z => znUpd z afterNp s) s := List.foldl_flatMap.symm

theorem evalNp_qp (v : State) (ch k : Nat) (s : State) : (evalNp v ch k s).ze.qp = s.ze.qp := by
  rw [evalNp_eq]
  exact foldl_keeps (·.ze.qp) (f := fun s z => znUpd z afterNp s) (fun _ _ => rfl) _ s

theorem evalPoint_qp (v : State) (x : QPoint) (s : State) : (evalPoint v x s).ze.qp = s.ze.qp := by
  unfold evalPoint
  split
  · exact evalNp_qp v _ _ s
  · rfl

theorem evalPoint_np {v : State} {x : QPoint} (h : x.np = true) (s : State) : evalPoint v x s = evalNp v x.ch x.step s := if_pos h

theorem evalPoint_noNp {v : State} {x : QPoint} (h : x.np = false) (s : State) : evalPoint v x s = s := if_neg (by simp [h])

/-- However many cells name it, a zone that is named ends with NP. -/
theorem evalNp_named {v : State} {ch k z : Nat} (h : Names v ch k z) (s : State) : (znGet (evalNp v ch k s) z).np = true := by
  obtain ⟨n, hn⟩ := Nat.exists_eq_succ_of_ne_zero (List.count_pos_iff.mpr (mem_namedZones.mpr h)).ne'
  rw [evalNp_eq, znGet_foldl_znUpd (fun _ => afterNp), hn, Function.iterate_succ_apply']
  rfl

theorem evalNp_unnamed {v : State} {ch k z : Nat} (h : ¬ Names v ch k z) (s : State) : znGet (evalNp v ch k s) z = znGet s z := by
  rw [evalNp_eq]
  exact znGet_foldl_znUpd_of_notMem (fun _ => afterNp) (mt mem_namedZones.mp h) s

/-! ### The two commands -/

section Echo
variable {s : State} {x : QEcho} {rest : List QEcho} (hq : s.ze.q = x :: rest)
include hq

theorem takeEcho_ready (hr : zeReady s x.frame = true) :
    takeEcho s = evalEcho (viewFrame x.frame s) x { s with ze := { s.ze with q := rest } } := by
  simp [takeEcho, hq, hr]

/-- R267: an echo of the frame in progress waits for the latch and for the expansion of a new map. -/
theorem takeEcho_waits (hr : zeReady s x.frame = false) : takeEcho s = s := by
  simp [takeEcho, hq, hr]

end Echo

theorem takeEcho_empty {s : State} (hq : s.ze.q = []) : takeEcho s = s := by
  simp [takeEcho, hq]

theorem takePoint_ready {s : State} {x : QPoint} {rest : List QPoint} (hq : s.ze.qp = x :: rest) (hr : zeReady s x.frame = true) :
    takePoint s = evalPoint (viewFrame x.frame s) x { s with ze := { s.ze with qp := rest } } := by
  simp [takePoint, hq, hr]

/-! ### The obligation -/

/-- Settles O33: it holds. The zones that an echo counts for are listed once each, so each takes one hit or one skip; a zone that is
named by a point word with NP is listed at least once, and any update sets its NP. -/
theorem zoneEvaluation : Obligations.ZoneEvaluation := by
  unfold Obligations.ZoneEvaluation
  intro s
  refine ⟨fun x rest hq hr => ⟨_, rfl, takeEcho_guarded s, ?echo⟩, fun x rest hq hr => ⟨_, rfl, takePoint_guarded s, ?point⟩,
    fun x rest hq hr => ⟨_, rfl, takeEcho_waits hq hr⟩, fun hq => ⟨_, rfl, takeEcho_empty hq⟩⟩
  case echo =>
    rw [takeEcho_ready hq hr]
    refine ⟨(evalEcho_historyKept _ x _).queue, fun hp => ?_, fun hp => ⟨evalEcho_echoes hp _, fun z => ⟨znGet_evalEcho_missed hp _, ?_⟩⟩⟩
    · rw [evalEcho_pass0 hp]
      exact ⟨rfl, rfl⟩
    · refine ⟨fun hhit hon hskip hsil => ?skipped, fun hhit hon h => ?counted⟩
      case skipped => exact (znGet_evalEcho_hit hp _ hhit hon).trans (afterHit_skipped hskip hsil _)
      case counted =>
        rw [znGet_evalEcho_hit hp _ hhit hon, afterHit_counted h]
        exact ⟨rfl, rfl, rfl, rfl, rfl⟩
  case point =>
    rw [takePoint_ready hq hr]
    refine ⟨evalPoint_qp _ x _, fun hnp => by rw [evalPoint_noNp hnp], fun hnp z => ?_⟩
    rw [evalPoint_np hnp]
    exact ⟨fun h => evalNp_named h _, fun h => evalNp_unnamed h _⟩

end Sys2Proof.Machine
end

section
/-! PROOF. O6: nothing but a valid reset edge switches a pair on (R323). Every command but the falling edge of a reset input only opens
switches, which the laws of its operation say; the falling edge closes switches only where it acts as a valid edge, and then only those
of its own channel. -/

namespace Sys2Proof.Machine

/-! ### Rules for "no switch closes" -/

theorem Guarded.Opens.noneCloses {u s : State} (h : (guarded u).Opens (guarded s)) : NoneCloses u s := ⟨h.a, h.b⟩

theorem Guarded.Opens.of_kept {u s : State} (h : guarded u = guarded s) : (guarded u).Opens (guarded s) := h ▸ .refl _

/-- The time at which a command comes closes no switch. -/
theorem Guarded.Opens.timed {u : Guarded} {t : Nat} {s : State} (h : u.Opens (guarded (advance t s))) : u.Opens (guarded s) := by
  rwa [advance_guarded] at h

/-- An operation that is carried out under a condition. -/
theorem Guarded.Opens.gated {c : Prop} [Decidable c] {u s : State} (h : (guarded u).Opens (guarded s)) :
    (guarded (if c then u else s)).Opens (guarded s) := by
  split
  · exact h
  · exact .refl _

theorem Guarded.Opens.timed_gated {c : Prop} [Decidable c] {u : State} {t : Nat} {s : State}
    (h : (guarded u).Opens (guarded (advance t s))) : (guarded (if c then u else advance t s)).Opens (guarded s) := h.gated.timed

theorem writeCmd_opens_of_kept {f : State → Nat × State} (hf : ∀ s, guarded (f s).2 = guarded s) (p : Path) (i sub n : Nat) (s : State) :
    (guarded (writeCmd p i sub n f s)).Opens (guarded s) :=
  writeCmd_opens p i sub n f s fun s => .of_kept (hf s)

theorem mirrorBoundary_opens (s : State) : (guarded (mirrorBoundary s)).Opens (guarded s) :=
  .gated (.trans (boundary_opens _) (.of_kept rfl))

/-! ### Every command but the reset edge -/

/-- R323: a command that is not the falling edge of a reset input closes no switch. A named case cites the law of
the command's operation; every other command is seen to leave the guarded part as it is by the rules for its updates. -/
theorem exec_opens {i : Instr} {s u : State} (hi : ∀ t c, i ≠ .resetFallingEdge t c) (h : exec i s = .next u) :
    (guarded u).Opens (guarded s) := by
  cases i <;> cases h
  case resetFallingEdge t c => exact absurd rfl (hi t c)
  -- start-up, resets, boundary scan
  case powerUp => exact (powerUp_opens ..).timed
  case configLoad => exact (configLoad_opens ..).timed
  case selfTestDone => exact (selfTest_opens ..).timed
  case safetyOperational => exact (safetyOper_opens ..).timed
  case resetPinAssert => exact (pinAssert_opens ..).timed
  case railUndervoltage => exact Guarded.Opens.timed_gated (.trans (.of_kept rfl) (deviceReset_opens 2 _))
  case resetCmdDataPlane => exact (resetCmd_opens ..).timed
  case resetCmdMgmtPlane => exact (resetCmd_opens ..).timed
  case resetCmdDevice => exact (resetCmd_opens ..).timed
  case resetTakesEffect => exact (resetNow_opens _).timed
  case jtagExtest => exact (jtagPins_opens ..).timed
  case jtagClamp => exact (jtagPins_opens ..).timed
  case jtagHighz => exact (jtagPins_opens ..).timed
  case jtagSamplePreload => exact (jtagLoad_opens ..).timed
  case jtagBypass => exact (jtagLoad_opens ..).timed
  case jtagPinInstructionExit => exact (jtagLoad_opens ..).timed_gated
  case spDebugHalt => exact (debugHalt_opens _).timed
  -- supply, clocks, power states
  case uvloEngage => exact (uvloEngage_opens _).timed
  case emRefresh => exact (emRefresh_opens ..).timed
  case saveComplete => exact (saveComplete_opens _).timed
  case vbusLoss => exact (vbusLoss_opens _).timed
  case vossdFault => exact (vossdFault_opens _).timed
  case clockCheck => exact (clockCheck_opens ..).timed
  case wakeEvent => exact Guarded.Opens.timed_gated (.of_kept (wake_guarded _))
  case standbyEntryDone => exact (standbyDone_opens _).timed
  -- frames and the mirror
  case frameBoundary => exact (mirrorBoundary_opens _).timed
  case nominalBoundary => exact (nominalBoundary_opens _).timed
  case mixEdge e =>
    refine Guarded.Opens.timed (t := e.t) ?_
    split
    · exact .refl _
    · exact mixEdge_opens _
  case mixPeriodTimeout => exact (mixTimeout_opens _).timed
  case mencEdge => exact (mencEdge_opens ..).timed
  case mencStallTimeout => exact (mencStall_opens _).timed
  -- safety channels
  case mailboxReceive => exact (mailboxReceive_opens ..).timed
  case mailboxDeadline => exact (mailboxDeadline_opens ..).timed
  case pairEvaluate => exact (pairEvaluate_opens ..).timed
  case discrepancyTimeout => exact (discTimeout_opens ..).timed_gated
  case crossWordReceive => exact (receiveCross_opens ..).timed_gated
  case crossWordTimeout => exact (latchFault_opens ..).timed_gated
  case readbackSample t _ _ =>
    refine Guarded.Opens.timed (t := t) (.trans (.gated (foldl_opens _ _ _ fun _ _ => readback_opens ..)) (.of_kept ?_))
    split <;> rfl
  case testPulseEnd => exact (endPulse_opens ..).timed
  case encoderEdge => exact (encStep_opens ..).timed_gated
  case driveSpeedCompute => exact (driveCompute_opens ..).timed_gated
  case resetJamTimeout => exact (resetJam_opens ..).timed_gated
  -- configuration, sessions, log
  case governorLock => exact (writeCmd_opens _ _ _ _ _ _ fun _ => governorLock_opens ..).timed
  case commitGo => exact (writeCmd_opens_of_kept (commitGo_guarded _) ..).timed
  case commitVerifyDone => exact (commitVerified_opens ..).timed
  case assignWrite => exact (writeCmd_opens_of_kept (assignRun_guarded _) ..).timed
  case reassign => exact Guarded.Opens.timed_gated (.of_kept (coordRun_guarded _))
  case sessionOpen => exact (writeCmd_opens_of_kept (sessionOpen_guarded _ _) ..).timed
  case sessionClose => exact (writeCmd_opens_of_kept (sessionClose_guarded _) ..).timed
  case passSet => exact (writeCmd_opens _ _ _ _ _ _ fun _ => passSet_opens ..).timed
  case lockoutExpiry => exact Guarded.Opens.timed_gated (.of_kept (lockExpire_guarded _))
  case logClear => exact (writeCmd_opens _ _ _ _ _ _ fun _ => logClear_opens ..).timed
  case safetyErase => exact (writeCmd_opens _ _ _ _ _ _ fun _ => safetyErase_opens ..).timed
  case mapFill => exact (writeCmd_opens_of_kept (mapFill_guarded _ _) ..).timed
  case mapClear => exact (writeCmd_opens_of_kept (mapClear_guarded _) ..).timed
  case mapRevert => exact (writeCmd_opens_of_kept mapRevert_guarded ..).timed
  -- Zeley link, dictionary, host port, CRC units
  case zlFrameReceive => exact (frameRun_opens ..).timed
  case zlCommitFrame => exact (frameRun_opens ..).timed_gated
  case zlReqFrame => exact (frameRun_opens ..).timed_gated
  case timeSet => exact (writeCmd_opens_of_kept (timeSetRun_guarded _) ..).timed
  case dictRead => exact (dictRequest_opens ..).timed
  case dictReadSeg => exact (dictRequest_opens ..).timed
  case dictWrite => exact (dictRequest_opens ..).timed
  case dictWriteSeg => exact (dictRequest_opens ..).timed
  case dictCancel => exact (dictRequest_opens ..).timed
  case hpWrite => exact (hpWrite_opens ..).timed
  case registerWrite => exact .gated (hostWrite_opens ..)
  case hpMbxGo => exact (mbxGo_opens ..).timed_gated
  case crcRunWrite => exact writeCmd_opens_of_kept (crcRunObj_guarded _ _) ..
  all_goals exact .of_kept (by simp)

/-! ### The falling edge of a reset input -/

theorem getC_advance (t : Nat) (s : State) (c : Chan) : getC (advance t s) c = getC s c := by cases c <;> rfl

theorem getC_sw (s : State) (c : Chan) : (getC s c).sw = (guarded s).switches.swOf c := by cases c <;> rfl

theorem Guarded.Opens.swOf {t s : Guarded} (h : t.Opens s) : ∀ c, t.switches.swOf c &&& ~~~s.switches.swOf c = 0
  | .a => h.a
  | .b => h.b

theorem Switches.swOf_closed_other (c : Chan) (p : Nat) (w : Switches) : (w.closed c p).swOf (otherC c) = w.swOf (otherC c) := by
  cases c <;> rfl

theorem foldl_close_other (c : Chan) (l : List Nat) (s : State) :
    (guarded (l.foldl (fun s p => closeSwitch c p s) s)).switches.swOf (otherC c) = (guarded s).switches.swOf (otherC c) := by
  induction l generalizing s with
  | nil => rfl
  | cons p l ih => rw [List.foldl_cons, ih, closeSwitch_switches, Switches.swOf_closed_other]

theorem clearLatches_other (c : Chan) (s : State) :
    (guarded (clearLatches c s)).switches.swOf (otherC c) = (guarded s).switches.swOf (otherC c) := by
  cases c <;> rfl

/-- R322: a valid edge of one channel leaves the other channel's switches. -/
theorem validEdge_other (c : Chan) (s : State) :
    (guarded (validEdge c s)).switches.swOf (otherC c) = (guarded s).switches.swOf (otherC c) := by
  unfold validEdge
  simp only [noteEdge_guarded, foldl_close_other, edgeMonitor_guarded, clearLatches_other]

/-- In the edge's channel a pulse lies in the band where the edge can be valid: it is longer than 99 ms and shorter than 3,001 ms
(Table 14.3). -/
def EdgeBand (c : Chan) (s : State) : Prop :=
  ∃ h, (getC s c).rstHigh = some h ∧ 99 * msNs < s.sys.now - h ∧ s.sys.now - h < 3001 * msNs

/-- Table 14.3: a falling edge closes no switch, or it ends a pulse in the band and acts as a valid edge. -/
theorem resetFall_cases (c : Chan) (s : State) :
    (guarded (resetFall c s)).Opens (guarded s) ∨
    (EdgeBand c s ∧ ∃ v, guarded v = guarded s ∧ guarded (resetFall c s) = guarded (validEdge c v)) := by
  unfold resetFall
  split
  case h_1 => exact .inl (.refl _)
  case h_2 h hh =>
    extract_lets d t jam
    have ht : guarded t = guarded s := by simp [t]
    have hd : guarded (drawn t) = guarded s := ht
    have short : ∀ v, guarded v = guarded s → (guarded (noteEdge c 2 true v)).Opens (guarded s) := fun v hv =>
      .of_kept ((noteEdge_guarded ..).trans hv)
    have long : ∀ v, guarded v = guarded s → (guarded (jam v)).Opens (guarded s) := fun v hv => by
      simp only [jam, noteEdge_guarded]
      exact hv ▸ latchFault_opens c fltJammed v
    have band : 99 * msNs < d → d < 3001 * msNs → EdgeBand c s := fun hlo hhi => ⟨h, hh, hlo, hhi⟩
    clear_value d t jam
    split
    · exact .inl (short _ ht)
    split
    · split
      · exact .inr ⟨band (by omega) (by omega), _, hd, rfl⟩
      · exact .inl (short _ hd)
    split
    · exact .inr ⟨band (by omega) (by omega), _, ht, rfl⟩
    split
    · split
      · exact .inr ⟨band (by omega) (by omega), _, hd, rfl⟩
      · exact .inl (long _ hd)
    · exact .inl (long _ ht)

/-- What the command can do: it closes no switch, or safety is operational, the pulse that ends lies in the band and the edge is
valid. -/
theorem exec_resetFallingEdge_cases {t : Nat} {c : Chan} {s u : State} (h : exec (.resetFallingEdge t c) s = .next u) :
    (guarded u).Opens (guarded s) ∨
    (s.sys.oper = true ∧ EdgeBand c (advance t s) ∧ ∃ v, guarded v = guarded s ∧ guarded u = guarded (validEdge c v)) := by
  cases h
  split
  case isTrue ho =>
    obtain hopen | ⟨hband, v, hv, hu⟩ := resetFall_cases c (advance t s)
    · exact .inl hopen.timed
    · exact .inr ⟨(advance_sys_oper t s).symm.trans ho, hband, v, hv.trans (advance_guarded t s), hu⟩
  case isFalse => exact .inl (.of_kept (advance_guarded t s))

theorem exec_resetFallingEdge_other {t : Nat} {c : Chan} {s u : State} (h : exec (.resetFallingEdge t c) s = .next u) :
    (getC u (otherC c)).sw &&& ~~~(getC s (otherC c)).sw = 0 := by
  rw [getC_sw, getC_sw]
  obtain hopen | ⟨-, -, v, hv, hu⟩ := exec_resetFallingEdge_cases h
  · exact hopen.swOf _
  · rw [hu, validEdge_other, hv, BitVec.and_not_self]

/-- No switch closes where safety is not operational or the pulse lies outside the band. -/
theorem exec_resetFallingEdge_noneCloses {t : Nat} {c : Chan} {s u : State} (h : exec (.resetFallingEdge t c) s = .next u)
    (hno : ¬ (s.sys.oper = true ∧ EdgeBand c (advance t s))) : NoneCloses u s := by
  obtain hopen | ⟨ho, hband, -⟩ := exec_resetFallingEdge_cases h
  · exact hopen.noneCloses
  · exact absurd ⟨ho, hband⟩ hno

theorem edgeBand_advance {c : Chan} {t : Nat} {s : State} (h : EdgeBand c (advance t s)) :
    ∃ k, (getC s c).rstHigh = some k ∧ 99 * msNs < (advance t s).sys.now - k ∧ (advance t s).sys.now - k < 3001 * msNs := by
  unfold EdgeBand at h
  rwa [getC_advance] at h

/-! ### The obligation -/

/-- Settles O6: it holds. Every other command only opens switches; the falling edge closes one only as a valid edge, which needs safety
operation and a pulse in the band, and closes in its own channel only. -/
theorem onlyAResetEdgeCloses : Obligations.OnlyAResetEdgeCloses := by
  unfold Obligations.OnlyAResetEdgeCloses
  intro i s u h
  refine ⟨fun hi => (exec_opens hi h).noneCloses, ?edge⟩
  rintro t c rfl
  refine ⟨exec_resetFallingEdge_other h, fun ho => ?idle, fun hnone => ?noPulse, fun k hk hlen => ?outside⟩ <;>
    refine exec_resetFallingEdge_noneCloses h fun ⟨hop, hband⟩ => ?_
  case idle => exact Bool.false_ne_true (ho.symm.trans hop)
  all_goals obtain ⟨k', hk', hlo, hhi⟩ := edgeBand_advance hband
  case noPulse => cases hnone.symm.trans hk'
  case outside =>
    cases hk.symm.trans hk'
    omega

end Sys2Proof.Machine
end

section
/-! PROOF. O46: timers, blanks, open wires and capture of the track front end. An operation on one channel changes that channel's
record alone; an operation over the 16 channels therefore acts on each of them as it would at the start. An open wire reaches
past the front end, into the heads and sections; that part leaves the channels' records as they are. -/

namespace Sys2Proof.Machine

/-! ### Writes of one channel's record -/

/-- `u` differs from `s` in the channels' records of the front end at most. -/
def ChansOnly (s u : State) : Prop := ∃ ch, u = { s with tf := { s.tf with ch := ch } }

theorem ChansOnly.refl (s : State) : ChansOnly s s := ⟨s.tf.ch, rfl⟩

theorem ChansOnly.trans {s t u : State} (h₁ : ChansOnly s t) (h₂ : ChansOnly t u) : ChansOnly s u := by
  obtain ⟨_, rfl⟩ := h₁
  exact h₂

section Shared
variable {s u : State} (h : ChansOnly s u)
include h

theorem ChansOnly.now : u.sys.now = s.sys.now := by obtain ⟨_, rfl⟩ := h; rfl
theorem ChansOnly.ax : u.ax = s.ax := by obtain ⟨_, rfl⟩ := h; rfl
theorem ChansOnly.pin : u.tf.pin = s.tf.pin := by obtain ⟨_, rfl⟩ := h; rfl
theorem ChansOnly.pinRel : u.tf.pinRel = s.tf.pinRel := by obtain ⟨_, rfl⟩ := h; rfl
theorem ChansOnly.cfgN (i sub : Nat) : Machine.cfgN u i sub = Machine.cfgN s i sub := by obtain ⟨_, rfl⟩ := h; rfl
theorem ChansOnly.cfgF (i sub : Nat) : Machine.cfgF u i sub = Machine.cfgF s i sub := by obtain ⟨_, rfl⟩ := h; rfl
theorem ChansOnly.tfRuns : Machine.tfRuns u = Machine.tfRuns s := by obtain ⟨_, rfl⟩ := h; rfl
theorem ChansOnly.tfPinActive : Machine.tfPinActive u = Machine.tfPinActive s := by obtain ⟨_, rfl⟩ := h; rfl
theorem ChansOnly.kept : Kept u s := by obtain ⟨_, rfl⟩ := h; rfl

end Shared

/-- `u` differs from `s` in the record of channel `n` at most. -/
structure OneChan (n : Nat) (s u : State) : Prop where
  shared : ChansOnly s u
  others : ∀ m, m ≠ n → tfGet u m = tfGet s m

theorem OneChan.refl (n : Nat) (s : State) : OneChan n s s := ⟨.refl s, fun _ _ => rfl⟩

theorem OneChan.trans {n : Nat} {s t u : State} (h₁ : OneChan n s t) (h₂ : OneChan n t u) : OneChan n s u :=
  ⟨h₁.shared.trans h₂.shared, fun m hm => (h₂.others m hm).trans (h₁.others m hm)⟩

theorem OneChan.onlyTf {n : Nat} {s u : State} (h : OneChan n s u) : OnlyTf n s u := ⟨h.shared.kept, h.others⟩

theorem OnlyTf.timed {n t : Nat} {s u : State} (h : OnlyTf n (advance t s) u) : OnlyTf n s u :=
  ⟨h.1.trans (advance_guarded t s), h.2⟩

/-- `t` shows channel `n` and everything that the channels share as `s` does. -/
structure SameFor (n : Nat) (s t : State) : Prop where
  shared : ChansOnly s t
  chan : tfGet t n = tfGet s n

theorem SameFor.tfActive {n : Nat} {s t : State} (h : SameFor n s t) : tfActive t n = tfActive s n := by
  simp only [Machine.tfActive, h.shared.tfRuns, h.shared.cfgF, h.chan]

section Fold
variable {f : State → Nat → State} (hf : ∀ s n, OneChan n s (f s n)) {n : Nat} {l : List Nat}
include hf

theorem foldl_chansOnly (l : List Nat) (s : State) : ChansOnly s (l.foldl f s) := by
  induction l generalizing s with
  | nil => exact .refl s
  | cons x l ih => exact (hf s x).shared.trans (ih _)

theorem tfGet_foldl_of_notMem (hn : n ∉ l) (s : State) : tfGet (l.foldl f s) n = tfGet s n := by
  induction l generalizing s with
  | nil => rfl
  | cons x l ih =>
    obtain ⟨hx, hl⟩ := List.ne_and_not_mem_of_not_mem_cons hn
    exact (ih hl _).trans ((hf s x).others n hx)

/-- Over the channels, each is left as its own step leaves it, taken from a state that shows it as it was. -/
theorem tfGet_foldl_of_mem (hl : l.Nodup) (hn : n ∈ l) (s : State) :
    ∃ t, SameFor n s t ∧ tfGet (l.foldl f s) n = tfGet (f t n) n := by
  induction l generalizing s with
  | nil => cases hn
  | cons x l ih =>
    obtain ⟨hx, hl⟩ := List.nodup_cons.mp hl
    obtain rfl | hne := eq_or_ne n x
    · exact ⟨s, ⟨.refl s, rfl⟩, tfGet_foldl_of_notMem hf hx _⟩
    · obtain ⟨t, ht, he⟩ := ih hl (List.mem_of_ne_of_mem hne hn) (f s x)
      exact ⟨t, ⟨(hf s x).shared.trans ht.shared, ht.chan.trans ((hf s x).others n hne)⟩, he⟩

theorem tfGet_foldl_range (hn : n < 16) (s : State) :
    ∃ t, SameFor n s t ∧ tfGet ((List.range 16).foldl f s) n = tfGet (f t n) n :=
  tfGet_foldl_of_mem hf List.nodup_range (List.mem_range.mpr hn) s

end Fold

@[simp] theorem tfGet_tfPut_same (n : Nat) (x : Tf) (s : State) : tfGet (tfPut n x s) n = x := mget_mset_same _ _ _ _

theorem oneChan_tfPut (n : Nat) (x : Tf) (s : State) : OneChan n s (tfPut n x s) :=
  ⟨⟨_, rfl⟩, fun _ hm => mget_mset_other _ _ _ _ _ hm⟩

/-! ### Blanks and drydowns (R351, R353, R354) -/

/-- The record of a channel after a blank from `a` to `b`. -/
def blanked (now a b : Nat) (x : Tf) : Tf :=
  if a < b then { x with blankIv := (a, b) :: x.blankIv.filter fun e => decide (now < e.2 + 120000) } else x

section Blanked
variable {now a b : Nat} {x : Tf}

@[simp] theorem blanked_pinFrom : (blanked now a b x).pinFrom = x.pinFrom := by unfold blanked; split <;> rfl
@[simp] theorem blanked_open : (blanked now a b x).open_ = x.open_ := by unfold blanked; split <;> rfl
@[simp] theorem blanked_openUntil : (blanked now a b x).openUntil = x.openUntil := by unfold blanked; split <;> rfl
@[simp] theorem blanked_dry : (blanked now a b x).dry = x.dry := by unfold blanked; split <;> rfl
@[simp] theorem blanked_settles : (blanked now a b x).settles = x.settles := by unfold blanked; split <;> rfl

theorem mem_blanked (hab : a < b) : (a, b) ∈ (blanked now a b x).blankIv := by simp [blanked, hab]

/-- A further blank keeps an interval that a sample to come can overlap. -/
theorem mem_blanked_of_mem {e : Nat × Nat} (he : e ∈ x.blankIv) (hnow : now < e.2 + 120000) : e ∈ (blanked now a b x).blankIv := by
  unfold blanked
  split
  · exact List.mem_cons_of_mem _ (List.mem_filter.mpr ⟨he, decide_eq_true hnow⟩)
  · exact he

/-- The blank of BLANK_EXT outlasts the one of the pin that is entered with it. -/
theorem mem_blankExt {f ext : Nat} (he : 0 < ext) : (now, now + ext * 1000) ∈
    (blanked now f now { blanked now now (now + ext * 1000) x with pinFrom := none }).blankIv :=
  mem_blanked_of_mem (mem_blanked (by omega)) (by omega)

end Blanked

theorem oneChan_tfBlank (n a b : Nat) (s : State) : OneChan n s (tfBlank n a b s) := by
  unfold tfBlank
  split
  · exact oneChan_tfPut ..
  · exact .refl n s

@[simp] theorem tfGet_tfBlank_same (n a b : Nat) (s : State) : tfGet (tfBlank n a b s) n = blanked s.sys.now a b (tfGet s n) := by
  unfold tfBlank blanked
  split
  · exact tfGet_tfPut_same ..
  · rfl

/-- The record of a channel after the start of a drydown, but for POSTBLANK. -/
def drying (now : Nat) (x : Tf) : Tf :=
  { x with dry := now :: x.dry.filter fun f => decide (now < f + drydownNs + 120000), settles := satAdd 8 x.settles 1 }

theorem oneChan_tfDrydown (n : Nat) (s : State) : OneChan n s (tfDrydown n s) :=
  (oneChan_tfPut n _ s).trans (oneChan_tfBlank ..)

theorem tfGet_tfDrydown_same (n : Nat) (s : State) : tfGet (tfDrydown n s) n =
    blanked s.sys.now s.sys.now (s.sys.now + cfgN s (0x5000 + n) 9 * 1000) (drying s.sys.now (tfGet s n)) :=
  (tfGet_tfBlank_same ..).trans (congrArg _ (tfGet_tfPut_same ..))

/-! ### The blank pin (R353) -/

theorem tfPinUpdate_unmasked {n : Nat} {s : State} (hm : cfgF s (0x5000 + n) 7 = false) (hp : (tfGet s n).pinFrom = none) :
    tfPinUpdate n s = s := by
  simp [tfPinUpdate, hm, hp]

theorem tfPinUpdate_active {n : Nat} {s : State} (hm : cfgF s (0x5000 + n) 7 = true) (ha : tfPinActive s = true)
    (hp : (tfGet s n).pinFrom = none) : tfPinUpdate n s = tfPut n { tfGet s n with pinFrom := some s.sys.now } s := by
  simp [tfPinUpdate, hm, ha, hp]

/-- The end of the blanking by the pin: BLANK_EXT from the release `r`, and the time since `f` that the pin was active. -/
theorem tfGet_tfPinUpdate_released {n r f : Nat} {s : State} (hm : cfgF s (0x5000 + n) 7 = true) (ha : tfPinActive s = false)
    (hr : s.tf.pinRel = some r) (hp : (tfGet s n).pinFrom = some f) : tfGet (tfPinUpdate n s) n = blanked s.sys.now f s.sys.now
      { blanked s.sys.now s.sys.now (r + cfgN s (0x5000 + n) 8 * 1000) (tfGet s n) with pinFrom := none } := by
  have hv := (oneChan_tfBlank n s.sys.now (r + cfgN s (0x5000 + n) 8 * 1000) s).shared
  simp [tfPinUpdate, hm, ha, hr, hp, hv.tfPinActive, hv.now]

theorem oneChan_tfPinUpdate (n : Nat) (s : State) : OneChan n s (tfPinUpdate n s) := by
  unfold tfPinUpdate
  extract_lets x mask ext v
  have hv : OneChan n s v := by
    dsimp only [v]
    split
    · split
      · exact oneChan_tfBlank ..
      · exact .refl n s
    · exact .refl n s
  split
  · split
    · exact hv.trans (oneChan_tfPut ..)
    · exact hv
  · split
    · exact hv
    · exact hv.trans ((oneChan_tfPut ..).trans (oneChan_tfBlank ..))

theorem tfPinUpdateAll_chansOnly (s : State) : ChansOnly s (tfPinUpdateAll s) :=
  foldl_chansOnly (fun s n => oneChan_tfPinUpdate n s) _ s

section PinUpdateAll
variable {n : Nat} (hn : n < 16) {s : State}
include hn

theorem tfGet_tfPinUpdateAll : ∃ t, SameFor n s t ∧ tfGet (tfPinUpdateAll s) n = tfGet (tfPinUpdate n t) n :=
  tfGet_foldl_range (fun s n => oneChan_tfPinUpdate n s) hn s

theorem tfGet_tfPinUpdateAll_unmasked (hm : cfgF s (0x5000 + n) 7 = false) (hp : (tfGet s n).pinFrom = none) :
    tfGet (tfPinUpdateAll s) n = tfGet s n := by
  obtain ⟨t, ht, he⟩ := tfGet_tfPinUpdateAll hn (s := s)
  rw [he, tfPinUpdate_unmasked ((ht.shared.cfgF ..).trans hm) (ht.chan ▸ hp), ht.chan]

theorem tfGet_tfPinUpdateAll_active (hm : cfgF s (0x5000 + n) 7 = true) (ha : tfPinActive s = true)
    (hp : (tfGet s n).pinFrom = none) : tfGet (tfPinUpdateAll s) n = { tfGet s n with pinFrom := some s.sys.now } := by
  obtain ⟨t, ht, he⟩ := tfGet_tfPinUpdateAll hn (s := s)
  rw [he, tfPinUpdate_active ((ht.shared.cfgF ..).trans hm) (ht.shared.tfPinActive.trans ha) (ht.chan ▸ hp), tfGet_tfPut_same,
    ht.chan, ht.shared.now]

theorem tfGet_tfPinUpdateAll_released {r f : Nat} (hm : cfgF s (0x5000 + n) 7 = true) (ha : tfPinActive s = false)
    (hr : s.tf.pinRel = some r) (hp : (tfGet s n).pinFrom = some f) : tfGet (tfPinUpdateAll s) n =
      blanked s.sys.now f s.sys.now
        { blanked s.sys.now s.sys.now (r + cfgN s (0x5000 + n) 8 * 1000) (tfGet s n) with pinFrom := none } := by
  obtain ⟨t, ht, he⟩ := tfGet_tfPinUpdateAll hn (s := s)
  rw [he, tfGet_tfPinUpdate_released ((ht.shared.cfgF ..).trans hm) (ht.shared.tfPinActive.trans ha) (ht.shared.pinRel.trans hr)
    (ht.chan ▸ hp), ht.chan, ht.shared.now, ht.shared.cfgN]

end PinUpdateAll

/-- The pin as it stands at a change of level, before the channels are brought up to date. -/
def pinSet (high : Bool) (rel : Option Nat) (s : State) : State := { s with tf := { s.tf with pin := high, pinRel := rel } }

theorem tfPinChange_eq {high : Bool} {s : State} (hr : tfRuns s = true) : tfPinChange high s = tfPinUpdateAll (pinSet high
    (if tfPinActive s && !tfPinActive (pinSet high s.tf.pinRel s) then some s.sys.now else s.tf.pinRel) s) :=
  if_pos hr

section PinChange
variable {high : Bool} {s : State}

theorem tfPinActive_of_onset (hp : s.tf.pin = cfgF s 0x5000 0x20) (hh : high ≠ s.tf.pin) (rel : Option Nat) :
    tfPinActive (pinSet high rel s) = true :=
  bne_iff_ne.mpr (hp ▸ hh)

theorem tfPinActive_of_release (hp : s.tf.pin ≠ cfgF s 0x5000 0x20) (hh : high ≠ s.tf.pin) (rel : Option Nat) :
    tfPinActive (pinSet high rel s) = false :=
  bne_eq_false_iff_eq.mpr (by rw [Bool.eq_not_of_ne hh, Bool.eq_not_of_ne hp, Bool.not_not]; rfl)

theorem tfPinChange_onset (hr : tfRuns s = true) (hp : s.tf.pin = cfgF s 0x5000 0x20) :
    tfPinChange high s = tfPinUpdateAll (pinSet high s.tf.pinRel s) := by
  have hwas : tfPinActive s = false := bne_eq_false_iff_eq.mpr hp
  rw [tfPinChange_eq hr, hwas]
  rfl

theorem tfPinChange_release (hr : tfRuns s = true) (hp : s.tf.pin ≠ cfgF s 0x5000 0x20) (hh : high ≠ s.tf.pin) :
    tfPinChange high s = tfPinUpdateAll (pinSet high (some s.sys.now) s) := by
  have hwas : tfPinActive s = true := bne_iff_ne.mpr hp
  rw [tfPinChange_eq hr, hwas, tfPinActive_of_release hp hh]
  rfl

theorem exec_tfblankPinChange_onset {t : Nat} (hr : tfRuns (advance t s) = true) (hp : s.tf.pin = cfgF s 0x5000 0x20) :
    exec (.tfblankPinChange t high) s = .next (tfPinUpdateAll (pinSet high s.tf.pinRel (advance t s))) :=
  congrArg Host.Outcome.next (tfPinChange_onset (s := advance t s) hr hp)

theorem exec_tfblankPinChange_release {t : Nat} (hr : tfRuns (advance t s) = true) (hp : s.tf.pin ≠ cfgF s 0x5000 0x20)
    (hh : high ≠ s.tf.pin) : exec (.tfblankPinChange t high) s =
      .next (tfPinUpdateAll (pinSet high (some (advance t s).sys.now) (advance t s))) :=
  congrArg Host.Outcome.next (tfPinChange_release (s := advance t s) hr hp hh)

end PinChange

/-! ### Soft blanks (R354) -/

/-- The start of the first conversion of channel `n` that begins after now. -/
def nextConv (s : State) (n : Nat) : Nat :=
  (s.sys.now + 40000 - (tfGet s n).lastAt % 40000) / 40000 * 40000 + (tfGet s n).lastAt % 40000

/-- It is the one instant of the channel's conversion grid in the period that follows. -/
theorem nextConv_spec (s : State) (n : Nat) : s.sys.now < nextConv s n ∧ nextConv s n ≤ s.sys.now + 40000 ∧
    nextConv s n % 40000 = (tfGet s n).lastAt % 40000 := by
  unfold nextConv
  omega

theorem SameFor.nextConv {n : Nat} {s t : State} (h : SameFor n s t) : nextConv t n = nextConv s n := by
  simp only [Machine.nextConv, h.shared.now, h.chan]

/-- The soft blank `w` at channel `n`. -/
def softBlankCh (w : Nat) (s : State) (n : Nat) : State :=
  if bitAt w n && tfActive s n then tfBlank n (nextConv s n) (nextConv s n + min 250 (fld w 16 8) * 40000) s else s

theorem oneChan_softBlankCh (w : Nat) (s : State) (n : Nat) : OneChan n s (softBlankCh w s n) := by
  unfold softBlankCh
  split
  · exact oneChan_tfBlank ..
  · exact .refl n s

theorem tfSoftBlank_eq {w : Nat} {s : State} (hr : tfRuns s = true) :
    tfSoftBlank w s = (List.range 16).foldl (softBlankCh w) s := if_pos hr

section SoftBlank
variable {w n : Nat} (hn : n < 16) {s : State} (hr : tfRuns s = true)
include hn hr

theorem tfGet_tfSoftBlank_masked (hb : bitAt w n = false) : tfGet (tfSoftBlank w s) n = tfGet s n := by
  obtain ⟨t, ht, he⟩ := tfGet_foldl_range (oneChan_softBlankCh w) hn s
  rw [tfSoftBlank_eq hr, he, softBlankCh, if_neg (by simp [hb]), ht.chan]

theorem tfGet_tfSoftBlank_active (hb : bitAt w n = true) (ha : tfActive s n = true) : tfGet (tfSoftBlank w s) n =
    blanked s.sys.now (nextConv s n) (nextConv s n + min 250 (fld w 16 8) * 40000) (tfGet s n) := by
  obtain ⟨t, ht, he⟩ := tfGet_foldl_range (oneChan_softBlankCh w) hn s
  rw [tfSoftBlank_eq hr, he, softBlankCh, if_pos (by simp [hb, ht.tfActive, ha]), tfGet_tfBlank_same, ht.nextConv, ht.chan,
    ht.shared.now]

end SoftBlank

/-! ### Timers (R351, R357, R358) -/

section Timers
variable {n : Nat} {s : State}

theorem tfRearm_due {f : Nat} (hz : (tfGet s n).frozen = true) (hq : (tfGet s n).quietSince = some f)
    (hf : f + 100 * msNs ≤ s.sys.now) :
    tfRearm n s = tfPut n { tfGet s n with frozen := false, quietSince := none, onRun := 0 } s :=
  if_pos (by simp [hz, hq, heldFor, hf])

theorem tfRearm_early {f : Nat} (hq : (tfGet s n).quietSince = some f) (hf : s.sys.now < f + 100 * msNs) : tfRearm n s = s :=
  if_neg (by simp [hq, heldFor, hf])

theorem tfGet_tfDryEnd_same (n : Nat) (s : State) : tfGet (tfDryEnd n s) n =
    { tfGet s n with dry := (tfGet s n).dry.filter fun f => decide (s.sys.now < f + 1320000) } := by
  simp only [tfDryEnd, tfGet_tfPut_same, drydownNs, Nat.add_assoc, Nat.reduceAdd]

/-- The state at the end of OPEN, before the drydown. -/
def openEnded (n : Nat) (s : State) : State := tfPut n { tfGet s n with open_ := false, openUntil := s.sys.now } s

theorem tfActive_openEnded : tfActive (openEnded n s) n = tfActive s n := by
  simp only [tfActive, openEnded, tfGet_tfPut_same, (oneChan_tfPut ..).shared.tfRuns, (oneChan_tfPut ..).shared.cfgF]

theorem tfOpenOver_due (ho : (tfGet s n).open_ = true) (hrx : (tfGet s n).openRx = false) (hex : (tfGet s n).openEx = false)
    (hc : (tfGet s n).openClear + 100 * msNs ≤ s.sys.now) :
    tfOpenOver n s = if tfActive s n = true then tfDrydown n (openEnded n s) else openEnded n s := by
  rw [← tfActive_openEnded]
  exact if_pos (by simp [ho, hrx, hex, hc])

theorem exec_tfOpenEnd_active {t : Nat} {n : Fin 16} (ho : (tfGet s n).open_ = true) (hrx : (tfGet s n).openRx = false)
    (hex : (tfGet s n).openEx = false) (hc : (tfGet s n).openClear + 100 * msNs ≤ (advance t s).sys.now)
    (ha : tfActive (advance t s) n = true) : exec (.tfOpenEnd t n) s = .next (tfDrydown n (openEnded n (advance t s))) :=
  congrArg Host.Outcome.next ((tfOpenOver_due (s := advance t s) ho hrx hex hc).trans (if_pos ha))

theorem exec_tfOpenEnd_idle {t : Nat} {n : Fin 16} (ho : (tfGet s n).open_ = true) (hrx : (tfGet s n).openRx = false)
    (hex : (tfGet s n).openEx = false) (hc : (tfGet s n).openClear + 100 * msNs ≤ (advance t s).sys.now)
    (ha : ¬ tfActive (advance t s) n = true) : exec (.tfOpenEnd t n) s = .next (openEnded n (advance t s)) :=
  congrArg Host.Outcome.next ((tfOpenOver_due (s := advance t s) ho hrx hex hc).trans (if_neg ha))

theorem tfOpenOver_early (hc : s.sys.now < (tfGet s n).openClear + 100 * msNs) : tfOpenOver n s = s :=
  if_neg (by simp [hc])

theorem tfGet_tfDrydown_openEnded : tfGet (tfDrydown n (openEnded n s)) n =
    blanked s.sys.now s.sys.now (s.sys.now + cfgN s (0x5000 + n) 9 * 1000)
      (drying s.sys.now { tfGet s n with open_ := false, openUntil := s.sys.now }) := by
  have h := (oneChan_tfPut n { tfGet s n with open_ := false, openUntil := s.sys.now } s).shared
  rw [tfGet_tfDrydown_same, openEnded, tfGet_tfPut_same, h.now, h.cfgN]

end Timers

/-! ### What the event distributor leaves unchanged (R433, R435) -/

/-- `u` differs from `s` in the event distributor at most. -/
def DistributorOnly (s u : State) : Prop := ∃ e, u = { s with ed := e }

theorem DistributorOnly.refl (s : State) : DistributorOnly s s := ⟨s.ed, rfl⟩

theorem DistributorOnly.after {s u : State} {e : Ed} (h : DistributorOnly { s with ed := e } u) : DistributorOnly s u := h

theorem edUpdate_distributorOnly (fuel n : Nat) (s : State) : DistributorOnly s (edUpdate fuel n s) := by
  induction fuel generalizing n s with
  | zero => exact .refl s
  | succ fuel ih =>
    have line (t : Nat) (e : Ed) :
        DistributorOnly s (if dataClass t then edUpdate fuel (376 + t) { s with ed := e } else { s with ed := e }) := by
      split
      · exact .after (ih _ _)
      · exact ⟨e, rfl⟩
    unfold edUpdate
    extract_lets x live
    split
    · split
      · exact .refl s
      · exact line _ _
    · split
      · split
        · exact line _ _
        · split <;> exact ⟨_, rfl⟩
      · exact .refl s

theorem edSync_distributorOnly (n : Nat) (s : State) : DistributorOnly s (edSync n s) := edUpdate_distributorOnly 7 n s

theorem raise_distributorOnly (j : Nat) (s : State) : DistributorOnly s (raise j s) := by
  unfold raise
  split
  · exact .after (edSync_distributorOnly _ _)
  · exact .refl s

/-! ### Posted results (R13) -/

theorem regPuts_tf (ws : List (Nat × Nat)) (s : State) : (regPuts ws s).tf = s.tf :=
  foldl_keeps (·.tf) (f := fun s (e : Nat × Nat) => regPut e.1 e.2 s) (fun _ _ => rfl) ws s

theorem regPuts_res (ws : List (Nat × Nat)) (s : State) : (regPuts ws s).res = s.res :=
  foldl_keeps (·.res) (f := fun s (e : Nat × Nat) => regPut e.1 e.2 s) (fun _ _ => rfl) ws s

/-- The status of a result once it is posted. -/
def postedRes (r : Res) : Res := { valid := true, fresh := true, seq := if r.valid then (r.seq + 1) % 16 else 1 }

/-- A post writes the result's status and words; its source is then a matter of the event distributor. -/
theorem post_distributorOnly (a low : Nat) (ws : List (Nat × Nat)) (s : State) : DistributorOnly
    (regPuts ((a, low) :: ws) { s with res := mset {} s.res a (postedRes (resGet s a)) }) (post a low ws s) := by
  unfold post
  extract_lets r v u
  change DistributorOnly u _
  split
  · split
    · exact edSync_distributorOnly _ _
    · exact .refl _
  · exact .refl _

theorem post_tf (a low : Nat) (ws : List (Nat × Nat)) (s : State) : (post a low ws s).tf = s.tf := by
  obtain ⟨e, he⟩ := post_distributorOnly a low ws s
  rw [he, regPuts_tf]

theorem resGet_post_fresh (a low : Nat) (ws : List (Nat × Nat)) (s : State) : (resGet (post a low ws s) a).fresh = true := by
  obtain ⟨e, he⟩ := post_distributorOnly a low ws s
  rw [he, resGet, regPuts_res, mget_mset_same, postedRes]

/-! ### What faults of heads and changes of sections leave unchanged (R368, R374) -/

/-- The front end, the configuration and the heads are the same. -/
structure HeadsKept (s u : State) : Prop where
  tf : u.tf = s.tf
  cf : u.cf = s.cf
  heads : u.ax.heads = s.ax.heads

theorem HeadsKept.refl (s : State) : HeadsKept s s := ⟨rfl, rfl, rfl⟩

theorem HeadsKept.trans {s t u : State} (h₁ : HeadsKept s t) (h₂ : HeadsKept t u) : HeadsKept s u :=
  ⟨h₂.tf.trans h₁.tf, h₂.cf.trans h₁.cf, h₂.heads.trans h₁.heads⟩

theorem HeadsKept.foldl {α : Type} {f : State → α → State} (hf : ∀ s x, HeadsKept s (f s x)) (l : List α) (s : State) :
    HeadsKept s (l.foldl f s) :=
  ⟨foldl_keeps (·.tf) (fun s x => (hf s x).tf) l s, foldl_keeps (·.cf) (fun s x => (hf s x).cf) l s,
    foldl_keeps (·.ax.heads) (fun s x => (hf s x).heads) l s⟩

theorem DistributorOnly.headsKept {s u : State} (h : DistributorOnly s u) : HeadsKept s u := by
  obtain ⟨_, rfl⟩ := h
  exact ⟨rfl, rfl, rfl⟩

theorem secChange_headsKept (k : Nat) (s : State) : HeadsKept s (secChange k s) := by
  unfold secChange
  split
  · exact (DistributorOnly.after (edSync_distributorOnly _ _)).headsKept
  · exact .refl s

theorem secSet_headsKept (k : Nat) (x : Sec) (s : State) : HeadsKept s (secSet k x s) := ⟨rfl, rfl, rfl⟩

theorem disturb_headsKept (cause k : Nat) (s : State) : HeadsKept s (disturb cause k s) := by
  unfold disturb
  dsimp only
  split
  · exact secSet_headsKept ..
  · exact ⟨(secChange_headsKept ..).tf, (secChange_headsKept ..).cf, (secChange_headsKept ..).heads⟩

theorem secGo_headsKept (k st : Nat) (s : State) : HeadsKept s (secGo k st s) := by
  unfold secGo
  dsimp only
  split
  · exact .refl s
  · exact (secSet_headsKept ..).trans (secChange_headsKept ..)

theorem secUpdate_headsKept (k : Nat) (s : State) : HeadsKept s (secUpdate k s) := by
  unfold secUpdate
  dsimp only
  split
  · split
    · exact secSet_headsKept ..
    · exact (secSet_headsKept ..).trans (secChange_headsKept ..)
  split
  · exact .refl s
  split
  · exact disturb_headsKept ..
  split
  · split
    · exact secGo_headsKept ..
    split
    · exact secGo_headsKept ..
    · exact .refl s
  · exact secGo_headsKept ..

theorem secUpdateAll_headsKept (s : State) : HeadsKept s (secUpdateAll s) := .foldl (fun s k => secUpdate_headsKept k s) _ s

theorem disturbCps_headsKept (cause : Nat) (cps : List Nat) (s : State) : HeadsKept s (disturbCps cause cps s) :=
  .foldl (fun s k => disturb_headsKept cause k s) _ s

/-! ### Faulty heads (R368) -/

/-- A fault of head `h` writes its record, and otherwise disturbs sections. -/
theorem headFaulty_headsKept (h : Nat) (s : State) :
    HeadsKept (hdSet h { hdGet s h with faulty := true, ph := .idle, offSince := none } s) (headFaulty h s) := by
  unfold headFaulty
  dsimp only
  split
  · exact .refl _
  · exact disturbCps_headsKept ..

theorem hdGet_headFaulty_same (h : Nat) (s : State) :
    hdGet (headFaulty h s) h = { hdGet s h with faulty := true, ph := .idle, offSince := none } := by
  rw [hdGet, (headFaulty_headsKept h s).heads]
  exact mget_mset_same ..

theorem hdGet_headFaulty_other {h k : Nat} (hk : k ≠ h) (s : State) : hdGet (headFaulty h s) k = hdGet s k := by
  rw [hdGet, (headFaulty_headsKept h s).heads]
  exact mget_mset_other _ _ _ _ _ hk

/-- A head is FAULTY, with no passage in progress. -/
def Faulted (s : State) (h : Nat) : Prop := (hdGet s h).faulty = true ∧ (hdGet s h).ph = .idle

theorem faulted_headFaulty (h : Nat) (s : State) : Faulted (headFaulty h s) h := by
  rw [Faulted, hdGet_headFaulty_same]
  exact ⟨rfl, rfl⟩

/-- A fault of another head, or of the same again, leaves a faulted head faulted. -/
theorem Faulted.headFaulty {s : State} {k : Nat} (hk : Faulted s k) (h : Nat) : Faulted (headFaulty h s) k := by
  obtain rfl | hne := eq_or_ne k h
  · exact faulted_headFaulty k s
  · rwa [Faulted, hdGet_headFaulty_other hne]

theorem Faulted.foldl {s : State} {k : Nat} (hk : Faulted s k) (l : List Nat) :
    Faulted (l.foldl (fun s h => Machine.headFaulty h s) s) k := by
  induction l generalizing s with
  | nil => exact hk
  | cons h l ih => exact ih (hk.headFaulty h)

theorem faulted_foldl_of_mem {l : List Nat} {k : Nat} (hk : k ∈ l) (s : State) :
    Faulted (l.foldl (fun s h => headFaulty h s) s) k := by
  induction l generalizing s with
  | nil => cases hk
  | cons h l ih =>
    obtain rfl | hl := List.mem_cons.mp hk
    · exact (faulted_headFaulty k s).foldl l
    · exact ih hl _

theorem faulted_headsFaulty {n k : Nat} {s : State} (hk : k < 8) (hon : headOn s k = true)
    (hn : headA s k = n ∨ headB s k = n) : Faulted (headsFaulty n s) k := by
  rw [Faulted, hdGet, headsFaulty, (secUpdateAll_headsKept _).heads]
  exact faulted_foldl_of_mem (List.mem_filter.mpr ⟨List.mem_range.mpr hk, by simpa [hon] using hn⟩) s

theorem headsFaulty_tf (n : Nat) (s : State) : (headsFaulty n s).tf = s.tf :=
  (secUpdateAll_headsKept _).tf.trans (foldl_keeps (·.tf) (fun s h => (headFaulty_headsKept h s).tf) _ s)

/-! ### Open wires (R355, R356) -/

/-- The record of a channel whose open detector has fired. -/
def opened (rx ex : Bool) (x : Tf) : Tf := { x with openRx := rx, openEx := ex, open_ := true, opens := satAdd 8 x.opens 1 }

/-- Either condition makes a channel OPEN; that of the excitation counts only where the channel is excited. -/
theorem tfOpen_fires {n : Nat} {rx ex : Bool} {s : State} (ho : (tfGet s n).open_ = false)
    (h : rx = true ∨ (ex && tfActive s n) = true) :
    tfOpen n rx ex s = headsFaulty n (raise evTfOpen (tfPut n (opened rx (ex && tfActive s n) (tfGet s n)) s)) := by
  have hfire : (rx || (ex && tfActive s n)) = true := Bool.or_eq_true_iff.mpr h
  have hclear : (((tfGet s n).openRx || (tfGet s n).openEx) && !rx && !(ex && tfActive s n)) = false := by
    rw [Bool.and_assoc, ← Bool.not_or, hfire, Bool.not_true, Bool.and_false]
  simp only [tfOpen, hfire, ho, hclear, opened, Bool.not_false, Bool.and_self, Bool.false_eq_true, ↓reduceIte]

section Fires
variable {n : Nat} {rx ex : Bool} {s : State} (ho : (tfGet s n).open_ = false) (h : rx = true ∨ (ex && tfActive s n) = true)
include ho h

theorem tfOpen_fires_tf : (tfOpen n rx ex s).tf = (tfPut n (opened rx (ex && tfActive s n) (tfGet s n)) s).tf := by
  rw [tfOpen_fires ho h, headsFaulty_tf, (raise_distributorOnly _ _).headsKept.tf]

theorem tfGet_tfOpen_fires : tfGet (tfOpen n rx ex s) n = opened rx (ex && tfActive s n) (tfGet s n) := by
  rw [tfGet, tfOpen_fires_tf ho h]
  exact tfGet_tfPut_same ..

theorem onlyTf_tfOpen_fires : OnlyTf n s (tfOpen n rx ex s) := by
  refine ⟨tfOpen_guarded n rx ex s, fun m hm => ?_⟩
  rw [tfGet, tfOpen_fires_tf ho h]
  exact (oneChan_tfPut ..).others m hm

theorem faulted_tfOpen_fires {k : Nat} (hk : k < 8) (hon : headOn s k = true) (hn : headA s k = n ∨ headB s k = n) :
    Faulted (tfOpen n rx ex s) k := by
  obtain ⟨e, he⟩ := raise_distributorOnly evTfOpen (tfPut n (opened rx (ex && tfActive s n) (tfGet s n)) s)
  rw [tfOpen_fires ho h, he]
  exact faulted_headsFaulty hk hon hn

end Fires

/-- A reading of TFnn_P above 1.50 V. -/
theorem exec_tfOpenDetect_rx {t rxMv exUa : Nat} {n : Fin 16} {s : State} (hr : tfRuns (advance t s) = true) (hrx : 1500 < rxMv) :
    exec (.tfOpenDetect t n rxMv exUa) s = .next (tfOpen n true (decide (exUa < cfgN s (0x5000 + n) 3)) (advance t s)) := by
  rw [← decide_eq_true hrx]
  exact congrArg Host.Outcome.next (if_pos hr)

/-! ### Capture (R360) and the flags (R361) -/

section Capture
variable {s : State}

theorem tfArm_rest {w : Nat} (hr : tfRuns s = true) (hw : bitAt w 31 = true) (h0 : s.tf.capState = 0) :
    tfArm w s = { s with tf := { s.tf with capState := 1, capCh := fld w 0 4, capTrig := bitAt w 30, cap := [] } } :=
  if_pos (by simp [hr, hw, h0])

theorem tfArm_refused {w : Nat} (h : bitAt w 31 = false ∨ s.tf.capState ≠ 0) : tfArm w s = s :=
  if_neg (by obtain hw | h0 := h <;> simp [*])

theorem tfCaptureDone_full (hr : tfRuns s = true) (h2 : s.tf.capState = 2) (hl : s.tf.cap.length = 2048) :
    tfCaptureDone s = post 0x500018 (put s.tf.capCh 4 4) []
      { s with tf := { s.tf with capState := 0, capArea := s.tf.cap.reverse, cap := [] } } :=
  if_pos ⟨hr, h2, hl⟩

theorem tfCaptureDone_short (hl : s.tf.cap.length < 2048) : tfCaptureDone s = s := if_neg fun h => hl.ne h.2.2

end Capture

/-- The write `v` to TF_ONSET at channel `n`. -/
def onsetClearCh (v : BitVec 16) (s : State) (n : Nat) : State :=
  if bget v n && (tfGet s n).fired then tfPut n { tfGet s n with fired := false } s else s

theorem oneChan_onsetClearCh (v : BitVec 16) (s : State) (n : Nat) : OneChan n s (onsetClearCh v s n) := by
  unfold onsetClearCh
  split
  · exact oneChan_tfPut ..
  · exact .refl n s

theorem tfGet_onsetClearCh_same (v : BitVec 16) (s : State) (n : Nat) :
    tfGet (onsetClearCh v s n) n = { tfGet s n with fired := (tfGet s n).fired && !bget v n } := by
  unfold onsetClearCh
  split
  case isTrue h => simp [(Bool.and_eq_true_iff.mp h).1]
  case isFalse h =>
    have hkeep : ((tfGet s n).fired && !bget v n) = (tfGet s n).fired := by
      cases hb : bget v n
      · exact Bool.and_true _
      · simpa [hb] using h
    rw [hkeep]

theorem tfOnsetClear_tf (v : BitVec 16) (s : State) :
    (tfOnsetClear v s).tf = ((List.range 16).foldl (onsetClearCh v) s).tf := (edSync_distributorOnly 9 _).headsKept.tf

theorem tfGet_tfOnsetClear {n : Nat} (hn : n < 16) (v : BitVec 16) (s : State) :
    tfGet (tfOnsetClear v s) n = { tfGet s n with fired := (tfGet s n).fired && !bget v n } := by
  obtain ⟨t, ht, he⟩ := tfGet_foldl_range (oneChan_onsetClearCh v) hn s
  rw [tfGet, tfOnsetClear_tf, ← tfGet, he, tfGet_onsetClearCh_same, ht.chan]

/-! ### The obligation -/

/-- Settles O46: it holds. Timers and open wires write the record of their channel alone; the pin, a soft blank and a write to TF_ONSET
act on each channel as they would at the start; an open wire leaves every head of its channel FAULTY; a completed capture is posted in
the order of delivery. -/
theorem trackTimersBlanksAndCapture : Obligations.TrackTimersBlanksAndCapture := by
  unfold Obligations.TrackTimersBlanksAndCapture
  refine ⟨fun s t n f => ?timers, fun s t n high w hr => ?blanks, fun s w v => ?capture⟩
  case timers =>
    refine ⟨fun hz hq hf => ?rearm, fun hq hf => ⟨_, rfl, tfRearm_early (s := advance t s) hq hf⟩, ?dry, ?blank,
      fun ho hrx hex hc => ?openEnd, fun hc => ⟨_, rfl, tfOpenOver_early (s := advance t s) hc⟩⟩
    case rearm =>
      refine ⟨_, rfl, ?_⟩
      rw [tfRearm_due (s := advance t s) hz hq hf]
      exact ⟨(oneChan_tfPut ..).onlyTf.timed, tfGet_tfPut_same ..⟩
    case dry => exact ⟨_, rfl, (oneChan_tfPut ..).onlyTf.timed, tfGet_tfDryEnd_same ..⟩
    case blank => exact ⟨_, rfl, (oneChan_tfPut ..).onlyTf.timed, tfGet_tfPut_same ..⟩
    case openEnd =>
      have hended : OneChan n (advance t s) (openEnded n (advance t s)) := oneChan_tfPut ..
      by_cases ha : tfActive (advance t s) n = true
      · have hchan := hended.trans (oneChan_tfDrydown ..)
        have hget := tfGet_tfDrydown_openEnded (n := n) (s := advance t s)
        refine ⟨_, exec_tfOpenEnd_active ho hrx hex hc ha, hchan.onlyTf.timed, ?_, ?_, hchan.shared.ax, fun h => ?_, fun _ => ?_⟩
        · rw [hget, blanked_open]; rfl
        · rw [hget, blanked_openUntil]; rfl
        · exact absurd ha (by simp [h])
        · rw [hget, blanked_dry, blanked_settles]
          exact ⟨List.mem_cons_self, rfl, fun h9 => mem_blanked (Nat.lt_add_of_pos_right (Nat.mul_pos h9 (by decide)))⟩
      · have hget : tfGet (openEnded n (advance t s)) n = _ := tfGet_tfPut_same ..
        exact ⟨_, exec_tfOpenEnd_idle ho hrx hex hc ha, hended.onlyTf.timed, congrArg Tf.open_ hget, congrArg Tf.openUntil hget,
          hended.shared.ax, fun _ => hget, fun h => absurd h ha⟩
  case blanks =>
    refine ⟨fun hp hh => ?onset, fun hp hh => ?release, ?soft, fun ho => ?openWire⟩
    case onset =>
      have ha := tfPinActive_of_onset (s := advance t s) hp hh s.tf.pinRel
      have hall := tfPinUpdateAll_chansOnly (pinSet high s.tf.pinRel (advance t s))
      refine ⟨_, exec_tfblankPinChange_onset hr hp, hall.kept, hall.pin, hall.pinRel,
        fun m hm => ⟨fun hmask hn => ?_, fun hmask hn => ?_⟩⟩
      · exact tfGet_tfPinUpdateAll_unmasked hm hmask hn
      · exact tfGet_tfPinUpdateAll_active hm hmask ha hn
    case release =>
      have ha := tfPinActive_of_release (s := advance t s) hp hh (some (advance t s).sys.now)
      have hall := tfPinUpdateAll_chansOnly (pinSet high (some (advance t s).sys.now) (advance t s))
      refine ⟨_, exec_tfblankPinChange_release hr hp hh, hall.kept, hall.pin, hall.pinRel,
        fun m hm => ⟨fun hmask hn => ?_, fun f hmask hf => ?_⟩⟩
      · exact tfGet_tfPinUpdateAll_unmasked hm hmask hn
      · have hget := tfGet_tfPinUpdateAll_released (s := pinSet high (some (advance t s).sys.now) (advance t s)) hm hmask ha rfl hf
        exact hget ▸ ⟨blanked_pinFrom, mem_blanked, mem_blankExt⟩
    case soft =>
      refine ⟨_, rfl, (tfSoftBlank_guarded ..).trans (advance_guarded t s), fun m hm => ⟨fun hb => ?_, fun hb ha hdur => ?_⟩⟩
      · exact tfGet_tfSoftBlank_masked hm hr hb
      · obtain ⟨hlo, hhi, hgrid⟩ := nextConv_spec (advance t s) m
        exact ⟨_, hlo, hhi, hgrid, tfGet_tfSoftBlank_active hm hr hb ha ▸ mem_blanked (by omega)⟩
    case openWire =>
      have hget (ex : Bool) := tfGet_tfOpen_fires (s := advance t s) (rx := true) (ex := ex) ho (.inl rfl)
      exact ⟨_, exec_tfOpenDetect_rx hr (by decide), (onlyTf_tfOpen_fires (s := advance t s) ho (.inl rfl)).timed,
        congrArg Tf.open_ (hget _), congrArg Tf.openRx (hget _), congrArg Tf.opens (hget _),
        fun k hk hon hn => faulted_tfOpen_fires (s := advance t s) ho (.inl rfl) hk hon hn⟩
  case capture =>
    refine ⟨fun hr hw h0 => ⟨_, rfl, tfArm_rest hr hw h0⟩, fun h => ⟨_, rfl, tfArm_refused h⟩, fun hr h2 hl => ?complete,
      fun hl => ⟨_, rfl, tfCaptureDone_short hl⟩, ⟨_, rfl, tfOnsetClear_guarded v s, fun m hm => tfGet_tfOnsetClear hm v s⟩⟩
    case complete =>
      refine ⟨_, rfl, tfCaptureDone_guarded s, ?_⟩
      rw [tfCaptureDone_full hr h2 hl]
      exact ⟨post_tf .., resGet_post_fresh ..⟩

end Sys2Proof.Machine
end

section
/-! PROOF. O49: the track links. Disturbing sections and bringing them up to date leave the links, the configuration and the passages
that wait; a section once DISTURBED stays so while a counting point bounds it. A received frame is therefore read in two parts: what
it makes of the record of its link, and which sections it leaves DISTURBED. -/

namespace Sys2Proof.Machine

/-! ### What a change of sections leaves unchanged (R374) -/

/-- `u` differs from `s` in the sections, their count of disturbances and the event distributor at most. -/
def SectionsOnly (s u : State) : Prop :=
  ∃ secs n e, u = { s with ax := { s.ax with secs := secs, disturbs := n }, ed := e }

theorem SectionsOnly.refl (s : State) : SectionsOnly s s := ⟨s.ax.secs, s.ax.disturbs, s.ed, rfl⟩

theorem SectionsOnly.trans {s t u : State} (h₁ : SectionsOnly s t) (h₂ : SectionsOnly t u) : SectionsOnly s u := by
  obtain ⟨_, _, _, rfl⟩ := h₁
  exact h₂

theorem SectionsOnly.foldl {α : Type} {f : State → α → State} (hf : ∀ s x, SectionsOnly s (f s x)) (l : List α) (s : State) :
    SectionsOnly s (l.foldl f s) := by
  induction l generalizing s with
  | nil => exact .refl s
  | cons x l ih => exact (hf s x).trans (ih _)

section Shared
variable {s u : State} (h : SectionsOnly s u)
include h

theorem SectionsOnly.cf : u.cf = s.cf := by obtain ⟨_, _, _, rfl⟩ := h; rfl
theorem SectionsOnly.tlGet (l : Nat) : tlGet u l = tlGet s l := by obtain ⟨_, _, _, rfl⟩ := h; rfl
theorem SectionsOnly.queue : u.ax.queue = s.ax.queue := by obtain ⟨_, _, _, rfl⟩ := h; rfl
theorem SectionsOnly.epdisc : u.ax.epdisc = s.ax.epdisc := by obtain ⟨_, _, _, rfl⟩ := h; rfl
theorem SectionsOnly.wstate : u.ax.wstate = s.ax.wstate := by obtain ⟨_, _, _, rfl⟩ := h; rfl

end Shared

/-- `u` differs from `s` in section `k` at most, and in what every section shares. -/
structure OneSection (k : Nat) (s u : State) : Prop where
  shared : SectionsOnly s u
  others : ∀ j, j ≠ k → secGet u j = secGet s j

theorem OneSection.refl (k : Nat) (s : State) : OneSection k s s := ⟨.refl s, fun _ _ => rfl⟩

theorem OneSection.trans {k : Nat} {s t u : State} (h₁ : OneSection k s t) (h₂ : OneSection k t u) : OneSection k s u :=
  ⟨h₁.shared.trans h₂.shared, fun j hj => (h₂.others j hj).trans (h₁.others j hj)⟩

@[simp] theorem secGet_secSet_same (k : Nat) (x : Sec) (s : State) : secGet (secSet k x s) k = x := mget_mset_same _ _ _ _

theorem oneSection_secSet (k : Nat) (x : Sec) (s : State) : OneSection k s (secSet k x s) :=
  ⟨⟨_, s.ax.disturbs, s.ed, rfl⟩, fun j hj => secGet_secSet_other k j x s hj⟩

theorem secChange_distributorOnly (k : Nat) (s : State) : DistributorOnly s (secChange k s) := by
  unfold secChange
  split
  · exact .after (edSync_distributorOnly _ _)
  · exact .refl s

theorem secGet_secChange (k j : Nat) (s : State) : secGet (secChange k s) j = secGet s j := by
  obtain ⟨_, he⟩ := secChange_distributorOnly k s
  rw [he]
  rfl

theorem oneSection_secChange (k : Nat) (s : State) : OneSection k s (secChange k s) := by
  obtain ⟨e, he⟩ := secChange_distributorOnly k s
  exact ⟨⟨s.ax.secs, s.ax.disturbs, e, he⟩, fun j _ => secGet_secChange k j s⟩

theorem oneSection_disturb (cause k : Nat) (s : State) : OneSection k s (disturb cause k s) := by
  unfold disturb
  extract_lets x v
  have hv : OneSection k s v := oneSection_secSet ..
  have hn : OneSection k v { v with ax := { v.ax with disturbs := satAdd 16 v.ax.disturbs 1 } } :=
    ⟨⟨v.ax.secs, _, v.ed, rfl⟩, fun _ _ => rfl⟩
  split
  · exact hv
  · exact hv.trans (hn.trans (oneSection_secChange ..))

theorem oneSection_secGo (k st : Nat) (s : State) : OneSection k s (secGo k st s) := by
  unfold secGo
  extract_lets x
  split
  · exact .refl k s
  · exact (oneSection_secSet ..).trans (oneSection_secChange ..)

theorem oneSection_secUpdate (k : Nat) (s : State) : OneSection k s (secUpdate k s) := by
  unfold secUpdate
  extract_lets x v
  have hv : OneSection k s v := oneSection_secSet ..
  split
  · split
    · exact hv
    · exact hv.trans (oneSection_secChange ..)
  split
  · exact .refl k s
  split
  · exact oneSection_disturb ..
  split
  · split
    · exact oneSection_secGo ..
    split
    · exact oneSection_secGo ..
    · exact .refl k s
  · exact oneSection_secGo ..

theorem secUpdateAll_sectionsOnly (s : State) : SectionsOnly s (secUpdateAll s) :=
  .foldl (fun s k => (oneSection_secUpdate k s).shared) _ s

theorem disturbCps_sectionsOnly (cause : Nat) (cps : List Nat) (s : State) : SectionsOnly s (disturbCps cause cps s) :=
  .foldl (fun s k => (oneSection_disturb cause k s).shared) _ s

/-! ### Configuration of the counting points -/

section Config
variable {s u : State} (h : u.cf = s.cf)
include h

theorem cpAt_of_cf (c : Nat) : cpAt u c = cpAt s c := by simp only [cpAt, cfgB, h]
theorem secsOf_of_cf (c : Nat) : secsOf u c = secsOf s c := by simp only [secsOf, cpAt_of_cf h]
theorem cpsOf_of_cf (k : Nat) : cpsOf u k = cpsOf s k := by simp only [cpsOf, cpAt_of_cf h]
theorem mem_secsOf_of_cf {c k : Nat} (hk : k ∈ secsOf s c) : k ∈ secsOf u c := by rwa [secsOf_of_cf h]
theorem cpsOf_ne_nil_of_cf {k : Nat} (hcp : cpsOf s k ≠ []) : cpsOf u k ≠ [] := by rwa [cpsOf_of_cf h]
theorem linkCps_of_cf (l : Nat) : linkCps u l = linkCps s l := by simp only [linkCps, cpAt_of_cf h]
theorem unitFits_of_cf (c : Nat) (v : Bool) : unitFits u c v = unitFits s c v := by
  simp only [unitFits, secUnit, secsOf_of_cf h, cpsOf_of_cf h, cpAt_of_cf h]

end Config

/-- A section that a counting point of a link bounds has a counting point. -/
theorem cpsOf_ne_nil_of_linkCps {s : State} {l c k : Nat} (hc : c ∈ linkCps s l) (hk : k ∈ secsOf s c) : cpsOf s k ≠ [] := by
  obtain ⟨hr, hsrc⟩ := List.mem_filter.mp hc
  obtain ⟨hk, -⟩ := List.mem_filter.mp hk
  refine List.ne_nil_of_mem (List.mem_filter.mpr ⟨hr, ?_⟩)
  have h3 : (cpAt s c).src = 3 := by simpa using (Bool.and_eq_true_iff.mp hsrc).1
  have hside : k = (cpAt s c).aside ∨ k = (cpAt s c).bside := by simpa using hk
  simpa [h3] using hside.imp Eq.symm Eq.symm

/-! ### DISTURBED sections (R374, Table 17.3) -/

/-- Section `k` is DISTURBED, for a cause in `C`. -/
def HaltedBy (C : Nat → Prop) (k : Nat) (s : State) : Prop := (secGet s k).st = 0 ∧ C (secGet s k).cause

theorem secGet_disturb_same (cause k : Nat) (s : State) :
    secGet (disturb cause k s) k = { secGet s k with st := 0, cause := cause, rose := false } := by
  unfold disturb
  extract_lets x v
  have hv : secGet v k = { x with st := 0, cause := cause, rose := false } := secGet_secSet_same ..
  split
  · exact hv
  · exact (secGet_secChange ..).trans hv

section Halted
variable {C : Nat → Prop} {cause k : Nat} {s : State}

theorem haltedBy_disturb (hc : C cause) : HaltedBy C k (disturb cause k s) := by
  rw [HaltedBy, secGet_disturb_same]
  exact ⟨rfl, hc⟩

theorem HaltedBy.of_secGet {u : State} (h : HaltedBy C k s) (hu : secGet u k = secGet s k) : HaltedBy C k u := by
  rwa [HaltedBy, hu]

theorem HaltedBy.disturb (h : HaltedBy C k s) (hc : C cause) (j : Nat) : HaltedBy C k (disturb cause j s) := by
  obtain rfl | hne := eq_or_ne k j
  · exact haltedBy_disturb hc
  · exact h.of_secGet ((oneSection_disturb cause j s).others k hne)

theorem HaltedBy.foldl_disturb (h : HaltedBy C k s) (hc : C cause) (l : List Nat) :
    HaltedBy C k (l.foldl (fun s j => Machine.disturb cause j s) s) := by
  induction l generalizing s with
  | nil => exact h
  | cons j l ih => exact ih (h.disturb hc j)

theorem haltedBy_foldl_disturb {l : List Nat} (hk : k ∈ l) (hc : C cause) :
    HaltedBy C k (l.foldl (fun s j => Machine.disturb cause j s) s) := by
  induction l generalizing s with
  | nil => cases hk
  | cons j l ih =>
    obtain rfl | hl := List.mem_cons.mp hk
    · exact (haltedBy_disturb hc).foldl_disturb hc l
    · exact ih hl

theorem HaltedBy.disturbCps (h : HaltedBy C k s) (hc : C cause) (cps : List Nat) : HaltedBy C k (disturbCps cause cps s) :=
  h.foldl_disturb hc _

theorem haltedBy_disturbCps {c : Nat} {cps : List Nat} (hc : C cause) (hcp : c ∈ cps) (hk : k ∈ secsOf s c) :
    HaltedBy C k (Machine.disturbCps cause cps s) :=
  haltedBy_foldl_disturb (List.mem_flatMap.mpr ⟨c, hcp, hk⟩) hc

/-- A DISTURBED section leaves that state by a reset request alone, while a counting point bounds it (R374, R376). -/
theorem secUpdate_halted (h : (secGet s k).st = 0) (hcp : cpsOf s k ≠ []) : secUpdate k s = s := by
  have hne : ¬ (cpsOf s k).isEmpty = true := by simpa using hcp
  exact (if_neg hne).trans (if_pos h)

theorem HaltedBy.secUpdate (h : HaltedBy C k s) (hcp : cpsOf s k ≠ []) (j : Nat) : HaltedBy C k (secUpdate j s) := by
  obtain rfl | hne := eq_or_ne k j
  · rwa [secUpdate_halted h.1 hcp]
  · exact h.of_secGet ((oneSection_secUpdate j s).others k hne)

theorem HaltedBy.foldl_secUpdate (h : HaltedBy C k s) (hcp : cpsOf s k ≠ []) (l : List Nat) :
    HaltedBy C k (l.foldl (fun s j => Machine.secUpdate j s) s) := by
  induction l generalizing s with
  | nil => exact h
  | cons j l ih => exact ih (h.secUpdate hcp j) (cpsOf_ne_nil_of_cf (oneSection_secUpdate j s).shared.cf hcp)

theorem HaltedBy.secUpdateAll (h : HaltedBy C k s) (hcp : cpsOf s k ≠ []) : HaltedBy C k (secUpdateAll s) :=
  h.foldl_secUpdate hcp _

end Halted

/-- An event of Table 17.3 at counting points of a link shows in the sections that they bound once all are brought up to date. -/
theorem haltedBy_secUpdateAll_disturbCps {C : Nat → Prop} {cause l c k : Nat} {cps : List Nat} {s : State} (hc : C cause)
    (hl : c ∈ linkCps s l) (hcp : c ∈ cps) (hk : k ∈ secsOf s c) : HaltedBy C k (secUpdateAll (disturbCps cause cps s)) :=
  (haltedBy_disturbCps hc hcp hk).secUpdateAll
    (cpsOf_ne_nil_of_cf (disturbCps_sectionsOnly cause cps s).cf (cpsOf_ne_nil_of_linkCps hl hk))

theorem disturbed_secUpdateAll_disturbCps {cause l : Nat} {cps : List Nat} {s v : State} (hcf : v.cf = s.cf)
    (hcps : ∀ c ∈ cps, c ∈ linkCps s l) : Disturbed cause cps s (secUpdateAll (disturbCps cause cps v)) := fun c hc _ hk =>
  haltedBy_secUpdateAll_disturbCps (C := (· = cause)) rfl (linkCps_of_cf hcf l ▸ hcps c hc) hc (mem_secsOf_of_cf hcf hk)

/-! ### Records of a link -/

@[simp] theorem tlGet_tlSet_same (l : Nat) (x : Tl) (s : State) : tlGet (tlSet l x s) l = x := by
  unfold tlGet tlSet
  split <;> rfl

@[simp] theorem tlSet_cf (l : Nat) (x : Tl) (s : State) : (tlSet l x s).cf = s.cf := by unfold tlSet; split <;> rfl
@[simp] theorem tlSet_queue (l : Nat) (x : Tl) (s : State) : (tlSet l x s).ax.queue = s.ax.queue := by unfold tlSet; split <;> rfl
@[simp] theorem tlSet_epdisc (l : Nat) (x : Tl) (s : State) : (tlSet l x s).ax.epdisc = s.ax.epdisc := by unfold tlSet; split <;> rfl
@[simp] theorem tlSet_wstate (l : Nat) (x : Tl) (s : State) : (tlSet l x s).ax.wstate = s.ax.wstate := by unfold tlSet; split <;> rfl
@[simp] theorem secGet_tlSet (l k : Nat) (x : Tl) (s : State) : secGet (tlSet l x s) k = secGet s k := by
  unfold tlSet; split <;> rfl

/-- The links and the configuration are the same. -/
structure LinksKept (s u : State) : Prop where
  tl : ∀ l, tlGet u l = tlGet s l
  cf : u.cf = s.cf

theorem LinksKept.trans {s t u : State} (h₁ : LinksKept s t) (h₂ : LinksKept t u) : LinksKept s u :=
  ⟨fun l => (h₂.tl l).trans (h₁.tl l), h₂.cf.trans h₁.cf⟩

theorem LinksKept.foldl {α : Type} {f : State → α → State} (hf : ∀ s x, LinksKept s (f s x)) (l : List α) (s : State) :
    LinksKept s (l.foldl f s) :=
  ⟨fun i => foldl_keeps (tlGet · i) (fun s x => (hf s x).tl i) l s, foldl_keeps (·.cf) (fun s x => (hf s x).cf) l s⟩

theorem SectionsOnly.linksKept {s u : State} (h : SectionsOnly s u) : LinksKept s u := ⟨h.tlGet, h.cf⟩

/-! ### Writes of the counts (R379) -/

theorem startWrite_busy {s : State} (h : s.ax.wstate ≠ 0) : startWrite s = s := if_neg fun hw => h hw.1

theorem startWrite_linksKept (s : State) : LinksKept s (startWrite s) := by
  unfold startWrite
  split
  · exact ⟨fun _ => rfl, rfl⟩
  · exact ⟨fun _ => rfl, rfl⟩

theorem startWrite_epdisc (s : State) : (startWrite s).ax.epdisc = s.ax.epdisc := by unfold startWrite; split <;> rfl

theorem secGet_startWrite (k : Nat) (s : State) : secGet (startWrite s) k = secGet s k := by unfold startWrite; split <;> rfl

/-! ### Frames sent (R380, R381) -/

section Sent
variable {l : Nat} {s : State}

theorem tlGet_tlSent (f : List Byte) : tlGet (tlSent l f s) l = { tlGet s l with
    out := (tlGet s l).out ++ [f], wire := lineBits f, txseq := ((tlGet s l).txseq + 1) % 65536
    txframes := satAdd 16 (tlGet s l).txframes 1 } := tlGet_tlSet_same ..

/-- The EVENT frame of a passage (Table 17.5). -/
def eventFrame (l : Nat) (p : Pass) (s : State) : List Byte :=
  tlFrameBytes 1 s l p.time (leBytes 1 p.cp ++ leBytes 1 (p.ba.toNat + 2 * p.vehicle.toNat) ++ leBytes 2 p.epoch)

/-- The STATUS frame of a link at system time `time` (Table 17.5). -/
def statusFrame (l : Nat) (time : BitVec 64) (s : State) : List Byte :=
  tlFrameBytes 2 s l time
    (leBytes 4 (cpHealthWord s) ++ leBytes 8 (secStatesWord s (cfgN s 0x5300 (5 + l))) ++ leBytes 4 (cfgN s 0x5300 (5 + l)))

theorem tlSendEvent_cons {p : Pass} {rest : List Pass} (h : (tlGet s l).evq = p :: rest) : tlSendEvent l s =
    tlSet l { tlGet (tlSent l (eventFrame l p s) s) l with evq := rest } (tlSent l (eventFrame l p s) s) := by
  unfold tlSendEvent
  simp only [h]
  rfl

theorem tlSendEvent_nil (h : (tlGet s l).evq = []) : tlSendEvent l s = s := by
  unfold tlSendEvent
  simp only [h]

theorem tlGet_tlSendEvent {p : Pass} {rest : List Pass} (h : (tlGet s l).evq = p :: rest) :
    tlGet (tlSendEvent l s) l = { tlGet s l with
      evq := rest, txseq := ((tlGet s l).txseq + 1) % 65536, txframes := satAdd 16 (tlGet s l).txframes 1
      out := (tlGet s l).out ++ [eventFrame l p s], wire := lineBits (eventFrame l p s) } := by
  rw [tlSendEvent_cons h, tlGet_tlSet_same, tlGet_tlSent]

theorem tlSent_now (f : List Byte) : (tlSent l f s).sys.now = s.sys.now := by unfold tlSent tlSet; split <;> rfl

theorem tlGet_tlSendStatus : tlGet (tlSendStatus l s) l = { tlGet s l with
    txseq := ((tlGet s l).txseq + 1) % 65536, txframes := satAdd 16 (tlGet s l).txframes 1, lastStatus := s.sys.now
    out := (tlGet s l).out ++ [statusFrame l s.sys.sysTime s], wire := lineBits (statusFrame l s.sys.sysTime s) } := by
  refine (tlGet_tlSet_same ..).trans ?_
  rw [tlGet_tlSent, tlSent_now]
  rfl

end Sent

/-! ### Lost frames and silence (R382 to R384) -/

section Lost
variable {l : Nat} {s : State}

/-- The record of a link that has lost a frame. -/
def lost (x : Tl) : Tl := { x with gap := satAdd 16 x.gap 1, statusRun := 0 }

theorem tlLost_eq (l : Nat) (s : State) : tlLost l s = disturbCps 7 (linkCps s l) (tlSet l (lost (tlGet s l)) s) := rfl

theorem tlGet_tlLost : tlGet (tlLost l s) l = lost (tlGet s l) := by
  rw [tlLost_eq, (disturbCps_sectionsOnly ..).tlGet, tlGet_tlSet_same]

theorem tlLost_cf : (tlLost l s).cf = s.cf := by rw [tlLost_eq, (disturbCps_sectionsOnly ..).cf, tlSet_cf]

theorem tlLost_queue : (tlLost l s).ax.queue = s.ax.queue := by rw [tlLost_eq, (disturbCps_sectionsOnly ..).queue, tlSet_queue]

theorem haltedBy_tlLost {c k : Nat} (hc : c ∈ linkCps s l) (hk : k ∈ secsOf s c) : HaltedBy (· = 7) k (tlLost l s) := by
  rw [tlLost_eq]
  exact haltedBy_disturbCps rfl hc (mem_secsOf_of_cf (tlSet_cf ..) hk)

theorem disturbed_secUpdateAll_tlLost {v : State} (hcf : v.cf = s.cf) : Disturbed 7 (linkCps s l) s (secUpdateAll (tlLost l v)) := by
  rw [tlLost_eq, linkCps_of_cf hcf]
  exact disturbed_secUpdateAll_disturbCps ((tlSet_cf ..).trans hcf) fun _ hc => hc

end Lost

/-- A frame that is discarded at `t`, once the three counts of discards (R382) are `a`, `b` and `c`. -/
def discarded (l t a b c : Nat) (s : State) : State :=
  secUpdateAll (tlLost l (tlSet l { tlGet s l with crcfail := a, wrongpeer := b, stale := c } (advance t s)))

section Discard
variable {l t a b c : Nat} {s : State}

theorem tlGet_discarded : tlGet (discarded l t a b c s) l =
    lost { tlGet s l with crcfail := a, wrongpeer := b, stale := c } := by
  rw [discarded, (secUpdateAll_sectionsOnly _).tlGet, tlGet_tlLost, tlGet_tlSet_same]

theorem discarded_kept : Kept (discarded l t a b c s) s := by
  simp only [Kept, discarded, secUpdateAll_guarded, tlLost_guarded, tlSet_guarded, advance_guarded]

theorem discarded_queue : (discarded l t a b c s).ax.queue = s.ax.queue := by
  rw [discarded, (secUpdateAll_sectionsOnly _).queue, tlLost_queue, tlSet_queue, advance_ax]

theorem frameLost_discarded : FrameLost l s (discarded l t a b c s) := by
  rw [FrameLost, tlGet_discarded]
  exact ⟨discarded_kept, rfl, rfl, rfl, rfl, rfl, discarded_queue, disturbed_secUpdateAll_tlLost (tlSet_cf ..)⟩

end Discard

section Down
variable {l : Nat} {s : State}

/-- A link that has gone DOWN. -/
def downed (x : Tl) : Tl := { x with up := false, rxseq := none, statusRun := 0, downs := satAdd 16 x.downs 1 }

theorem tlDown_due (hup : (tlGet s l).up = true) (hdue : (tlGet s l).lastRx + 20 * msNs ≤ s.sys.now) : tlDown l s =
    secUpdateAll (disturbCps 6 (linkCps s l) (tlSet l (downed (tlGet s l)) s)) := by
  unfold tlDown
  simp only [if_pos hdue, hup, if_true, linkCps_of_cf (tlSet_cf l _ s)]
  rfl

theorem tlDown_early (h : s.sys.now < (tlGet s l).lastRx + 20 * msNs) : tlDown l s = s := if_neg (Nat.not_le_of_lt h)

theorem tlGet_tlDown_due (hup : (tlGet s l).up = true) (hdue : (tlGet s l).lastRx + 20 * msNs ≤ s.sys.now) :
    tlGet (tlDown l s) l = downed (tlGet s l) := by
  rw [tlDown_due hup hdue, (secUpdateAll_sectionsOnly _).tlGet, (disturbCps_sectionsOnly ..).tlGet, tlGet_tlSet_same]

theorem disturbed_tlDown_due (hup : (tlGet s l).up = true) (hdue : (tlGet s l).lastRx + 20 * msNs ≤ s.sys.now) :
    Disturbed 6 (linkCps s l) s (tlDown l s) := by
  rw [tlDown_due hup hdue]
  exact disturbed_secUpdateAll_disturbCps (tlSet_cf ..) fun _ hc => hc

end Down

/-! ### Received events (R385) -/

/-- An EVENT is discarded and counted. -/
def epdiscCounted (s : State) : State := { s with ax := { s.ax with epdisc := satAdd 16 s.ax.epdisc 1 } }

/-- An EVENT at one counting point. -/
def tlEventAt (f : TlFrame) (s : State) (c : Nat) : State :=
  if f.epoch ≠ (cpAt s c).repoch ∨ unitFits s c f.vehicle = false then
    disturbCps 8 [c] (epdiscCounted s)
  else { s with ax := { s.ax with queue :=
    s.ax.queue ++ [⟨c, f.dirBA, f.vehicle, BitVec.ofNat 64 f.time, epochOf s.cf.epochs 2 c⟩] } }

/-- The counting points of link `l` that name the sender's counting point. -/
def eventCps (l : Nat) (f : TlFrame) (s : State) : List Nat := (linkCps s l).filter fun c => fld (cpAt s c).ref 0 5 == f.cp

theorem tlEvent_eq (l : Nat) (f : TlFrame) (s : State) : tlEvent l f s = (eventCps l f s).foldl (tlEventAt f) s := rfl

section Event
variable {f : TlFrame} {s : State}

theorem tlEventAt_linksKept (f : TlFrame) (s : State) (c : Nat) : LinksKept s (tlEventAt f s c) := by
  unfold tlEventAt
  split
  · exact .trans (t := epdiscCounted s) ⟨fun _ => rfl, rfl⟩ (disturbCps_sectionsOnly 8 [c] _).linksKept
  · exact ⟨fun _ => rfl, rfl⟩

theorem tlEventAt_wstate (f : TlFrame) (s : State) (c : Nat) : (tlEventAt f s c).ax.wstate = s.ax.wstate := by
  unfold tlEventAt
  split
  · exact (disturbCps_sectionsOnly 8 [c] (epdiscCounted s)).wstate
  · rfl

theorem tlEvent_linksKept (l : Nat) (f : TlFrame) (s : State) : LinksKept s (tlEvent l f s) :=
  .foldl (tlEventAt_linksKept f) _ s

/-- Whatever an EVENT does, a DISTURBED section stays DISTURBED; its cause may become 8 (Table 17.3). -/
theorem HaltedBy.tlEventAt {C : Nat → Prop} {k : Nat} (h : HaltedBy C k s) (h8 : C 8) (c : Nat) : HaltedBy C k (tlEventAt f s c) := by
  unfold Machine.tlEventAt
  split
  · exact (h.of_secGet (u := epdiscCounted s) rfl).disturbCps h8 _
  · exact h.of_secGet rfl

theorem HaltedBy.tlEvent {C : Nat → Prop} {k : Nat} (h : HaltedBy C k s) (h8 : C 8) (l : Nat) : HaltedBy C k (tlEvent l f s) := by
  rw [tlEvent_eq]
  generalize eventCps l f s = cs
  induction cs generalizing s with
  | nil => exact h
  | cons c cs ih => exact ih (h.tlEventAt h8 c)

end Event

/-! ### Valid frames (R383 to R385) -/

/-- A valid frame is in sequence; after DOWN the first one sets the sequence. -/
def inOrder (f : TlFrame) (x : Tl) : Bool := match x.rxseq with | some q => f.seq == (q + 1) % 65536 | none => true

/-- The record of a link after a valid frame at `now`. -/
def heard (ok : Bool) (f : TlFrame) (now : Nat) (x : Tl) : Tl :=
  let run := if f.isEvent then x.statusRun else min 3 ((if ok then x.statusRun else 0) + 1)
  let x := { x with rxseq := some f.seq, rxShow := f.seq, psync := f.sync, peer := f.src, lastRx := now, statusRun := run
                    up := x.up || decide (3 ≤ run) }
  if f.isEvent then x else { x with health := f.health, states := f.states }

theorem inOrder_of_rxseq {f : TlFrame} {x : Tl} {q : Nat} (h : x.rxseq = some q) (hs : f.seq = (q + 1) % 65536) :
    inOrder f x = true := by
  simp [inOrder, h, hs]

theorem inOrder_gap {f : TlFrame} {x : Tl} {q : Nat} (h : x.rxseq = some q) (hs : f.seq ≠ (q + 1) % 65536) :
    inOrder f x = false := by
  simp [inOrder, h, hs]

theorem inOrder_first {f : TlFrame} {x : Tl} (h : x.rxseq = none) : inOrder f x = true := by simp [inOrder, h]

section Heard
variable {ok : Bool} {f : TlFrame} {now : Nat} {x : Tl}

@[simp] theorem heard_rxseq : (heard ok f now x).rxseq = some f.seq := by unfold heard; dsimp only; split <;> rfl
@[simp] theorem heard_lastRx : (heard ok f now x).lastRx = now := by unfold heard; dsimp only; split <;> rfl
@[simp] theorem heard_gap : (heard ok f now x).gap = x.gap := by unfold heard; dsimp only; split <;> rfl

theorem heard_up_of_up (h : x.up = true) : (heard ok f now x).up = true := by unfold heard; simp only [h]; split <;> rfl

theorem heard_status (he : f.isEvent = false) : (heard ok f now x).health = f.health ∧ (heard ok f now x).states = f.states := by
  simp [heard, he]

/-- The third valid STATUS frame in sequence brings the link UP (R384). -/
theorem heard_up_of_statusRun (he : f.isEvent = false) (h : 2 ≤ x.statusRun) : (heard true f now x).up = true := by
  simp [heard, he, h]

end Heard

/-- The state in which a valid frame has written the record of its link, its loss before it counted. -/
def recorded (l : Nat) (f : TlFrame) (s : State) : State :=
  let ok := inOrder f (tlGet s l)
  let v := if ok then s else tlLost l s
  tlSet l (heard ok f v.sys.now (tlGet v l)) v

theorem tlValid_eq (l : Nat) (f : TlFrame) (s : State) : tlValid l f s =
    startWrite (secUpdateAll (if f.isEvent then tlEvent l f (recorded l f s) else recorded l f s)) := rfl

section Valid
variable {l : Nat} {f : TlFrame} {s : State}

theorem tlValid_status (he : f.isEvent = false) : tlValid l f s = startWrite (secUpdateAll (recorded l f s)) := by
  simp only [tlValid_eq, he, Bool.false_eq_true, if_false]

theorem tlValid_event (he : f.isEvent = true) : tlValid l f s = startWrite (secUpdateAll (tlEvent l f (recorded l f s))) := by
  simp only [tlValid_eq, he, if_true]

theorem tlValid_linksKept (l : Nat) (f : TlFrame) (s : State) : LinksKept (recorded l f s) (tlValid l f s) := by
  have hend (v : State) : LinksKept v (startWrite (secUpdateAll v)) :=
    (secUpdateAll_sectionsOnly v).linksKept.trans (startWrite_linksKept _)
  cases he : f.isEvent with
  | false => exact tlValid_status he ▸ hend _
  | true => exact tlValid_event he ▸ (tlEvent_linksKept ..).trans (hend _)

theorem recorded_inOrder (h : inOrder f (tlGet s l) = true) : recorded l f s = tlSet l (heard true f s.sys.now (tlGet s l)) s := by
  simp only [recorded, h, if_true]

theorem recorded_gap (h : inOrder f (tlGet s l) = false) :
    recorded l f s = tlSet l (heard false f (tlLost l s).sys.now (tlGet (tlLost l s) l)) (tlLost l s) := by
  simp only [recorded, h, Bool.false_eq_true, if_false]

theorem recorded_cf : (recorded l f s).cf = s.cf := by
  cases h : inOrder f (tlGet s l) with
  | false => rw [recorded_gap h, tlSet_cf, tlLost_cf]
  | true => rw [recorded_inOrder h, tlSet_cf]

theorem tlGet_tlValid_inOrder (h : inOrder f (tlGet s l) = true) :
    tlGet (tlValid l f s) l = heard true f s.sys.now (tlGet s l) := by
  rw [(tlValid_linksKept l f s).tl, recorded_inOrder h, tlGet_tlSet_same]

/-- A frame out of sequence is a loss (R383), and a valid frame all the same. -/
theorem tlGet_tlValid_gap (h : inOrder f (tlGet s l) = false) : tlGet (tlValid l f s) l =
    heard false f (tlLost l s).sys.now (lost (tlGet s l)) := by
  rw [(tlValid_linksKept l f s).tl, recorded_gap h, tlGet_tlSet_same, tlGet_tlLost]

theorem tlValid_status_epdisc (h : inOrder f (tlGet s l) = true) (he : f.isEvent = false) :
    (tlValid l f s).ax.epdisc = s.ax.epdisc := by
  rw [tlValid_status he, startWrite_epdisc, (secUpdateAll_sectionsOnly _).epdisc, recorded_inOrder h, tlSet_epdisc]

section Gap
variable {c k : Nat} (h : inOrder f (tlGet s l) = false) (hc : c ∈ linkCps s l) (hk : k ∈ secsOf s c)
include h hc hk

theorem haltedBy_recorded_gap : HaltedBy (· = 7) k (recorded l f s) := by
  rw [recorded_gap h]
  exact (haltedBy_tlLost hc hk).of_secGet (secGet_tlSet ..)

theorem haltedBy_tlValid_status_gap (he : f.isEvent = false) : HaltedBy (· = 7) k (tlValid l f s) := by
  rw [tlValid_status he]
  exact ((haltedBy_recorded_gap h hc hk).secUpdateAll
    (cpsOf_ne_nil_of_cf recorded_cf (cpsOf_ne_nil_of_linkCps hc hk))).of_secGet (secGet_startWrite ..)

theorem st_tlValid_gap : (secGet (tlValid l f s) k).st = 0 := by
  cases he : f.isEvent with
  | false => exact (haltedBy_tlValid_status_gap h hc hk he).1
  | true =>
    have hrec : HaltedBy (fun _ => True) k (recorded l f s) := ⟨(haltedBy_recorded_gap h hc hk).1, trivial⟩
    have hcp : cpsOf (tlEvent l f (recorded l f s)) k ≠ [] :=
      cpsOf_ne_nil_of_cf ((tlEvent_linksKept ..).cf.trans recorded_cf) (cpsOf_ne_nil_of_linkCps hc hk)
    rw [tlValid_event he, secGet_startWrite]
    exact ((hrec.tlEvent trivial l).secUpdateAll hcp).1

end Gap

section Named
variable {c : Nat} (h : inOrder f (tlGet s l) = true) (he : f.isEvent = true) (hcp : eventCps l f s = [c]) (hw : s.ax.wstate ≠ 0)

theorem eventCps_of_cf {v : State} (hcf : v.cf = s.cf) : eventCps l f v = eventCps l f s := by
  simp only [eventCps, linkCps_of_cf hcf, cpAt_of_cf hcf]

include he hcp in
theorem tlValid_event_one : tlValid l f s = startWrite (secUpdateAll (tlEventAt f (recorded l f s) c)) := by
  rw [tlValid_event he, tlEvent_eq, eventCps_of_cf recorded_cf, hcp]
  rfl

theorem tlEventAt_counts {v : State} (hep : f.epoch = (cpAt v c).repoch) (hfit : unitFits v c f.vehicle = true) : tlEventAt f v c =
    { v with ax := { v.ax with queue :=
      v.ax.queue ++ [⟨c, f.dirBA, f.vehicle, BitVec.ofNat 64 f.time, epochOf v.cf.epochs 2 c⟩] } } :=
  if_neg (by simp [hep, hfit])

theorem tlEventAt_differs {v : State} (hd : f.epoch ≠ (cpAt v c).repoch ∨ unitFits v c f.vehicle = false) : tlEventAt f v c =
    disturbCps 8 [c] (epdiscCounted v) := if_pos hd

include h he hcp hw

/-- The counts are being written: the write that runs leaves what the EVENT has done. -/
theorem tlValid_event_busy : tlValid l f s = secUpdateAll (tlEventAt f (recorded l f s) c) := by
  rw [tlValid_event_one he hcp, startWrite_busy]
  rwa [(secUpdateAll_sectionsOnly _).wstate, tlEventAt_wstate, recorded_inOrder h, tlSet_wstate]

/-- An EVENT of the epoch and unit of its counting point waits for the next write of the counts. -/
theorem tlValid_event_counts (hep : f.epoch = (cpAt s c).repoch) (hfit : unitFits s c f.vehicle = true) :
    (tlValid l f s).ax.queue =
      s.ax.queue ++ [⟨c, f.dirBA, f.vehicle, BitVec.ofNat 64 f.time, epochOf s.cf.epochs 2 c⟩] := by
  have hcf : (recorded l f s).cf = s.cf := recorded_cf
  have hq : (recorded l f s).ax.queue = s.ax.queue := by rw [recorded_inOrder h, tlSet_queue]
  rw [tlValid_event_busy h he hcp hw, (secUpdateAll_sectionsOnly _).queue,
    tlEventAt_counts (by rwa [cpAt_of_cf hcf]) (by rwa [unitFits_of_cf hcf])]
  rw [hq, hcf]

/-- Any other is discarded, counted, and disturbs the sections that the counting point bounds (R385). -/
theorem tlValid_event_differs (hd : f.epoch ≠ (cpAt s c).repoch ∨ unitFits s c f.vehicle = false) :
    (tlValid l f s).ax.epdisc = satAdd 16 s.ax.epdisc 1 ∧ (tlValid l f s).ax.queue = s.ax.queue ∧
      Disturbed 8 [c] s (tlValid l f s) := by
  have hcf : (recorded l f s).cf = s.cf := recorded_cf
  have hd' : f.epoch ≠ (cpAt (recorded l f s) c).repoch ∨ unitFits (recorded l f s) c f.vehicle = false := by
    rwa [cpAt_of_cf hcf, unitFits_of_cf hcf]
  have hupd := (disturbCps_sectionsOnly 8 [c] (epdiscCounted (recorded l f s))).trans (secUpdateAll_sectionsOnly _)
  have hlink : c ∈ linkCps s l := List.mem_of_mem_filter (hcp ▸ List.mem_singleton_self c : c ∈ eventCps l f s)
  rw [tlValid_event_busy h he hcp hw, tlEventAt_differs hd']
  refine ⟨hupd.epdisc.trans ?_, hupd.queue.trans ?_, disturbed_secUpdateAll_disturbCps (l := l) hcf fun _ hc => ?_⟩
  · rw [epdiscCounted, recorded_inOrder h, tlSet_epdisc]
  · rw [epdiscCounted, recorded_inOrder h, tlSet_queue]
  · exact List.mem_singleton.mp hc ▸ hlink

end Named
end Valid

/-! ### The commands -/

section Commands
variable {s : State} {t : Nat} {l : Fin 2} {f : TlFrame}

theorem exec_tlEventSend (hl : tlLive s l = true) : exec (.tlEventSend l) s = .next (tlSendEvent l s) :=
  congrArg Host.Outcome.next (if_pos hl)

theorem exec_tlStatusSend (hl : tlLive (advance t s) l = true) :
    exec (.tlStatusSend t l) s = .next (tlSendStatus l (advance t s)) := congrArg Host.Outcome.next (if_pos hl)

theorem exec_tlFrameReceive (hl : tlLive (advance t s) l = true) :
    exec (.tlFrameReceive t l f) s = .next (tlReceive l f (advance t s)) := congrArg Host.Outcome.next (if_pos hl)

theorem exec_tlDownTimeout (hr : tlRuns (advance t s) = true) :
    exec (.tlDownTimeout t l) s = .next (tlDown l (advance t s)) := congrArg Host.Outcome.next (if_pos hr)

theorem exec_tlDownTimeout_early (h : (advance t s).sys.now < (tlGet s l).lastRx + 20 * msNs) :
    exec (.tlDownTimeout t l) s = .next (advance t s) :=
  congrArg Host.Outcome.next ((congrArg (ite _ · _) (tlDown_early (s := advance t s) h)).trans (ite_self _))

theorem tlReceive_broken (hw : tlWhole f = false) : tlReceive l f (advance t s) =
    discarded l t (satAdd 16 (tlGet s l).crcfail 1) (tlGet s l).wrongpeer (tlGet s l).stale s :=
  if_pos (by rw [hw]; rfl)

theorem tlReceive_wrongPeer (hw : tlWhole f = true) (hp : f.src ≠ tlPeer s l) : tlReceive l f (advance t s) =
    discarded l t (tlGet s l).crcfail (satAdd 16 (tlGet s l).wrongpeer 1) (tlGet s l).stale s :=
  (if_neg (by simp [hw])).trans (if_pos hp)

theorem tlReceive_stale (hw : tlWhole f = true) (hp : f.src = tlPeer s l) (hst : tlStale (advance t s) f = true) :
    tlReceive l f (advance t s) =
      discarded l t (tlGet s l).crcfail (tlGet s l).wrongpeer (satAdd 16 (tlGet s l).stale 1) s :=
  (if_neg (by simp [hw])).trans ((if_neg (not_not_intro hp)).trans (if_pos hst))

theorem tlReceive_valid (hw : tlWhole f = true) (hp : f.src = tlPeer s l) (hst : tlStale (advance t s) f = false) :
    tlReceive l f (advance t s) = tlValid l f (advance t s) :=
  (if_neg (by simp [hw])).trans ((if_neg (not_not_intro hp)).trans (if_neg (by simp [hst])))

theorem exec_tlFrameReceive_valid (hl : tlLive (advance t s) l = true) (hw : tlWhole f = true) (hp : f.src = tlPeer s l)
    (hst : tlStale (advance t s) f = false) : exec (.tlFrameReceive t l f) s = .next (tlValid l f (advance t s)) :=
  (exec_tlFrameReceive hl).trans (congrArg Host.Outcome.next (tlReceive_valid hw hp hst))

theorem answers_discarded {a b c : Nat} (hl : tlLive (advance t s) l = true)
    (h : tlReceive l f (advance t s) = discarded l t a b c s) : Answers (.tlFrameReceive t l f) s fun u =>
      FrameLost l s u ∧ tlGet u l = lost { tlGet s l with crcfail := a, wrongpeer := b, stale := c } :=
  ⟨_, (exec_tlFrameReceive hl).trans (congrArg Host.Outcome.next h), frameLost_discarded, tlGet_discarded⟩

end Commands

/-! ### The obligation -/

/-- Settles O49: it holds. What is sent and received is read off the record of the link; a lost frame, silence and an EVENT of another
epoch or unit disturb sections, which the update that follows leaves DISTURBED, as a counting point of the link bounds them. -/
theorem trackLinks : Obligations.TrackLinks := by
  unfold Obligations.TrackLinks
  refine ⟨fun s t l hl hlt => ?send, fun s t l f => ⟨fun hl => ?receive, fun hr hup hdue => ?down, fun h => ?early⟩⟩
  case send =>
    exact ⟨fun p rest hq => ⟨_, exec_tlEventSend hl, tlSendEvent_guarded .., tlGet_tlSendEvent hq⟩,
      fun hq => ⟨_, exec_tlEventSend hl, tlSendEvent_nil hq⟩,
      ⟨_, exec_tlStatusSend hlt, (tlSendStatus_guarded ..).trans (advance_guarded t s), tlGet_tlSendStatus (s := advance t s)⟩⟩
  case receive =>
    refine ⟨fun hw => ?broken, fun hw hp => ?wrongPeer, fun hw hp hst => ?stale, fun hw hp hst => ?valid⟩
    case broken =>
      obtain ⟨u, hu, hlost, hget⟩ := answers_discarded hl (tlReceive_broken hw)
      exact ⟨u, hu, hlost, congrArg Tl.crcfail hget⟩
    case wrongPeer =>
      obtain ⟨u, hu, hlost, hget⟩ := answers_discarded hl (tlReceive_wrongPeer hw hp)
      exact ⟨u, hu, hlost, congrArg Tl.wrongpeer hget⟩
    case stale =>
      obtain ⟨u, hu, hlost, hget⟩ := answers_discarded hl (tlReceive_stale hw hp hst)
      exact ⟨u, hu, hlost, congrArg Tl.stale hget⟩
    case valid =>
      have hexec := exec_tlFrameReceive_valid hl hw hp hst
      have hkept : Kept (tlValid l f (advance t s)) s := (tlValid_guarded ..).trans (advance_guarded t s)
      refine ⟨fun q hq hseq => ⟨_, hexec, hkept, ?inSeq⟩, fun q hq hseq => ⟨_, hexec, hkept, ?gap⟩, fun hq => ⟨_, hexec, ?first⟩⟩
      case inSeq =>
        have hin : inOrder f (tlGet (advance t s) l) = true := inOrder_of_rxseq hq hseq
        rw [tlGet_tlValid_inOrder hin]
        refine ⟨heard_rxseq, heard_lastRx, heard_gap, heard_up_of_up, fun he => ?_, heard_up_of_statusRun, fun c he hcp hw =>
          ⟨tlValid_event_counts (s := advance t s) hin he hcp hw, tlValid_event_differs (s := advance t s) hin he hcp hw⟩⟩
        obtain ⟨hhealth, hstates⟩ := heard_status he
        exact ⟨hhealth, hstates, tlValid_status_epdisc hin he⟩
      case gap =>
        have hgap : inOrder f (tlGet (advance t s) l) = false := inOrder_gap hq hseq
        rw [tlGet_tlValid_gap hgap]
        exact ⟨heard_rxseq, heard_gap, fun he c hc k hk => haltedBy_tlValid_status_gap (s := advance t s) hgap hc hk he,
          fun c hc k hk => st_tlValid_gap (s := advance t s) hgap hc hk⟩
      case first =>
        have hget := tlGet_tlValid_inOrder (s := advance t s) (inOrder_first (f := f) hq)
        exact ⟨(congrArg Tl.rxseq hget).trans heard_rxseq, (congrArg Tl.gap hget).trans heard_gap⟩
  case down =>
    exact ⟨_, exec_tlDownTimeout hr, (tlDown_guarded ..).trans (advance_guarded t s), tlGet_tlDown_due (s := advance t s) hup hdue,
      disturbed_tlDown_due (s := advance t s) hup hdue⟩
  case early => exact ⟨_, exec_tlDownTimeout_early h, rfl⟩

end Sys2Proof.Machine
end

section
/-! PROOF. O1 to O5 and O7: the step, the reset state, and what every step keeps. The limits of a locked governor move only by an erase,
which ends in a reset of the device; so each operation either keeps the limits or leaves them empty with the management plane in reset. -/

namespace Sys2Proof.Machine

-- One after another the proofs need less memory than all at once.
set_option Elab.async false

theorem foldl_mgmtUp {α : Type} (f : State → α → State) (l : List α) (s : State)
    (h : ∀ s x, (f s x).sys.mgmtUp = s.sys.mgmtUp) : (l.foldl f s).sys.mgmtUp = s.sys.mgmtUp := foldl_keeps (·.sys.mgmtUp) h l s

theorem DistributorOnly.keeps {α : Type} {s u : State} (h : DistributorOnly s u) (p : State → α)
    (hp : ∀ (s : State) e, p { s with ed := e } = p s) : p u = p s := by
  obtain ⟨e, rfl⟩ := h
  exact hp s e

theorem edSync_mgmtUp (n : Nat) (s : State) : (edSync n s).sys.mgmtUp = s.sys.mgmtUp :=
  (edSync_distributorOnly n s).keeps (·.sys.mgmtUp) fun _ _ => rfl
theorem post_mgmtUp (a low : Nat) (ws : List (Nat × Nat)) (s : State) : (post a low ws s).sys.mgmtUp = s.sys.mgmtUp :=
  ((post_distributorOnly a low ws s).keeps (·.sys.mgmtUp) fun _ _ => rfl).trans
    (foldl_mgmtUp (fun s (e : Nat × Nat) => regPut e.1 e.2 s) _ _ fun _ _ => rfl)
theorem fcSet_mgmtUp (n : Nat) (s : State) : (fcSet n s).sys.mgmtUp = s.sys.mgmtUp := by
  unfold fcSet
  extract_lets rest t gov ex u
  split
  · exact edSync_mgmtUp 8 u
  · rfl
theorem fcClear_mgmtUp (w : BitVec 16) (s : State) : (fcClear w s).sys.mgmtUp = s.sys.mgmtUp := by
  unfold fcClear
  refine (edSync_mgmtUp ..).trans ((foldl_mgmtUp _ _ _ fun t n => ?_).trans rfl)
  split
  · exact fcSet_mgmtUp n t
  · rfl
theorem wcClear_mgmtUp (v : Nat) (s : State) : (wcClear v s).sys.mgmtUp = s.sys.mgmtUp := by
  refine foldl_mgmtUp _ _ _ fun t n => ?_
  split
  · exact edSync_mgmtUp ..
  · rfl
theorem tfSoftBlank_mgmtUp (v : Nat) (s : State) : (tfSoftBlank v s).sys.mgmtUp = s.sys.mgmtUp := by
  unfold tfSoftBlank
  dsimp only
  split
  · refine foldl_mgmtUp _ _ _ fun t n => ?_
    unfold tfBlank
    (repeat' split) <;> rfl
  · rfl
theorem tfOnsetClear_mgmtUp (v : BitVec 16) (s : State) : (tfOnsetClear v s).sys.mgmtUp = s.sys.mgmtUp := by
  unfold tfOnsetClear
  refine (edSync_mgmtUp ..).trans (foldl_mgmtUp _ _ _ fun t n => ?_)
  split <;> rfl

theorem writeOther_mgmtUp (a w : Nat) (s : State) : (writeOther a w s).sys.mgmtUp = s.sys.mgmtUp := by
  unfold writeOther
  split
  case h_1 =>
    unfold syReset
    (repeat' split) <;> rfl
  case h_2 =>
    unfold pwrReq
    split <;> rfl
  case h_3 => exact wcClear_mgmtUp ..
  case h_4 => exact fcClear_mgmtUp ..
  case h_5 => rfl
  case h_6 =>
    unfold acStatClear
    split <;> rfl
  case h_7 => rfl
  case h_8 => exact tfSoftBlank_mgmtUp ..
  case h_9 => exact tfOnsetClear_mgmtUp ..
  case h_10 =>
    unfold tfArm
    split <;> rfl
  case h_11 =>
    unfold zlIdWrite
    split <;> rfl
  case h_12 => split <;> rfl

theorem lmShowRun_mgmtUp (p : Nat) (v : BitVec 64) (s : State) : (lmShowRun p v s).sys.mgmtUp = s.sys.mgmtUp := by
  unfold lmShowRun
  dsimp only
  split
  · rfl
  split
  · exact post_mgmtUp ..
  · rfl

theorem writeMatrix_mgmtUp (a w : Nat) (s : State) : (writeMatrix a w s).sys.mgmtUp = s.sys.mgmtUp := by
  unfold writeMatrix
  split
  case h_1 =>
    split
    · exact lmShowRun_mgmtUp ..
    · rfl
  case h_2 => rfl
  case h_3 => rfl
  case h_4 =>
    unfold lmEvtClear
    split
    · rfl
    · exact edSync_mgmtUp ..
  case h_5 => (repeat' split) <;> rfl

theorem rqClr_mgmtUp (q c0 n w : Nat) (s : State) : (rqClr q c0 n w s).sys.mgmtUp = s.sys.mgmtUp :=
  foldl_mgmtUp _ _ _ fun t i => by split <;> rfl

theorem writeReceivers_mgmtUp (a w : Nat) (s : State) : (writeReceivers a w s).sys.mgmtUp = s.sys.mgmtUp := by
  unfold writeReceivers
  dsimp only
  split
  case h_1 => exact rqClr_mgmtUp ..
  case h_2 => exact rqClr_mgmtUp ..
  case h_3 =>
    unfold snapCmd
    dsimp only
    (repeat' split) <;> rfl
  case h_4 => rfl
  case h_5 => rfl

theorem noteRange_mgmtUp (a : Nat) (bad : Bool) (s : State) : (noteRange a bad s).sys.mgmtUp = s.sys.mgmtUp := by
  unfold noteRange
  (repeat' split) <;> rfl

theorem stageFields_mgmtUp (fs : List (RegFld × Nat)) (w : Nat) (s : State) : (stageFields fs w s).sys.mgmtUp = s.sys.mgmtUp := by
  unfold stageFields
  dsimp only
  split <;> rfl

theorem stageRegister_mgmtUp (a w : Nat) (s : State) : (stageRegister a w s).2.sys.mgmtUp = s.sys.mgmtUp := by
  unfold stageRegister
  split
  · rfl
  split
  · exact noteRange_mgmtUp ..
  split
  · rfl
  · exact (noteRange_mgmtUp ..).trans (stageFields_mgmtUp ..)

theorem edLine_mgmtUp (t : Nat) (s : State) : (edLine t s).sys.mgmtUp = s.sys.mgmtUp := by
  unfold edLine
  split
  · exact edSync_mgmtUp ..
  · rfl

theorem edSyncs_mgmtUp (a n : Nat) (s : State) : (edSyncs a n s).sys.mgmtUp = s.sys.mgmtUp :=
  foldl_mgmtUp _ _ _ fun _ _ => edSync_mgmtUp ..

theorem edArbitrate_mgmtUp (s : State) : (edArbitrate s).sys.mgmtUp = s.sys.mgmtUp :=
  foldl_mgmtUp _ _ _ fun _ _ => edSync_mgmtUp ..

theorem edSrcWrite_mgmtUp (n w : Nat) (s : State) : (edSrcWrite n w s).sys.mgmtUp = s.sys.mgmtUp := by
  unfold edSrcWrite
  dsimp only
  split
  · rfl
  split
  · exact (edLine_mgmtUp ..).trans (edSync_mgmtUp ..)
  · exact edSync_mgmtUp ..

theorem edTcfgWrite_mgmtUp (t w : Nat) (s : State) : (edTcfgWrite t w s).sys.mgmtUp = s.sys.mgmtUp := by
  unfold edTcfgWrite
  refine (edLine_mgmtUp ..).trans ((edArbitrate_mgmtUp _).trans ?_)
  unfold edTakeBack
  dsimp only
  split
  · rfl
  · exact foldl_mgmtUp _ _ _ fun _ _ => rfl

theorem edFree_mgmtUp (id : Nat) (s : State) : (edFree id s).sys.mgmtUp = s.sys.mgmtUp := by
  unfold edFree
  split
  · exact edSync_mgmtUp ..
  · rfl

theorem edComplete_mgmtUp (t id : Nat) (s : State) : (edComplete t id s).sys.mgmtUp = s.sys.mgmtUp := by
  unfold edComplete
  refine (edLine_mgmtUp ..).trans ((edArbitrate_mgmtUp _).trans ?_)
  split
  · unfold edPop
    dsimp only
    (repeat' split) <;> first | rfl | exact edFree_mgmtUp ..
  · unfold edDrop
    dsimp only
    split
    · exact edFree_mgmtUp ..
    · rfl

theorem localEdgeT_mgmtUp (i t : Nat) (s : State) : (localEdgeT i t s).sys.mgmtUp = s.sys.mgmtUp := edLine_mgmtUp ..

theorem edLset_mgmtUp (t w : Nat) (s : State) : (edLset t w s).sys.mgmtUp = s.sys.mgmtUp :=
  foldl_mgmtUp _ _ _ fun u i => by
    split
    · exact localEdgeT_mgmtUp ..
    · rfl

theorem edSwi_mgmtUp (w : Nat) (s : State) : (edSwi w s).sys.mgmtUp = s.sys.mgmtUp := by
  unfold edSwi
  exact edSyncs_mgmtUp ..

theorem edSecchg_mgmtUp (w : Word) (s : State) : (edSecchg w s).sys.mgmtUp = s.sys.mgmtUp := by
  unfold edSecchg
  exact edSyncs_mgmtUp ..

theorem edEvtClear_mgmtUp (v : Nat) (s : State) : (edEvtClear v s).sys.mgmtUp = s.sys.mgmtUp := by
  unfold edEvtClear
  exact edSyncs_mgmtUp ..

theorem writeEd_mgmtUp (a w : Nat) (s : State) : (writeEd a w s).sys.mgmtUp = s.sys.mgmtUp := by
  unfold writeEd
  extract_lets o v t
  clear_value v t
  split
  · exact edSrcWrite_mgmtUp ..
  split
  · generalize o % 0x40 = k
    split
    case h_1 => exact edTcfgWrite_mgmtUp ..
    case h_2 => exact edComplete_mgmtUp ..
    case h_5 => exact edLset_mgmtUp ..
    case h_10 => rfl
    case h_11 => rfl
    all_goals exact edLine_mgmtUp ..
  · clear_value o
    split
    case h_1 => rfl
    case h_2 => rfl
    case h_3 => exact edSwi_mgmtUp ..
    case h_4 => exact edSecchg_mgmtUp ..
    case h_5 => exact edEvtClear_mgmtUp ..
    case h_6 => exact edEvtClear_mgmtUp ..
    case h_7 => rfl

theorem crcSet_mgmtUp (n : Nat) (x : Crc) (s : State) : (crcSet n x s).sys.mgmtUp = s.sys.mgmtUp := by
  unfold crcSet
  split <;> rfl

theorem crcPost_mgmtUp (n poly o : Nat) (s : State) : (crcPost n poly o s).sys.mgmtUp = s.sys.mgmtUp :=
  (post_mgmtUp ..).trans (crcSet_mgmtUp ..)

theorem crcGo_mgmtUp (n : Nat) (i : Bool) (s : State) : (crcGo n i s).sys.mgmtUp = s.sys.mgmtUp := by
  unfold crcGo
  dsimp only
  (repeat' split) <;> first | rfl | exact crcSet_mgmtUp .. | exact crcPost_mgmtUp ..

theorem crcFetch_mgmtUp (x : Crc) (s : State) : (crcFetch x s).2.2.sys.mgmtUp = s.sys.mgmtUp := by
  unfold crcFetch fetchWord
  (repeat' split) <;> rfl

theorem crcWords_mgmtUp (n k : Nat) (s : State) : (crcWords n k s).sys.mgmtUp = s.sys.mgmtUp := by
  induction k generalizing s with
  | zero => rfl
  | succ k ih => exact (ih _).trans ((crcSet_mgmtUp ..).trans (crcFetch_mgmtUp ..))

theorem crcProgress_mgmtUp (n : Nat) (s : State) : (crcProgress n s).sys.mgmtUp = s.sys.mgmtUp := by
  unfold crcProgress
  dsimp only
  split
  · exact crcWords_mgmtUp ..
  · rfl

theorem crcIgnored_mgmtUp (n poly k : Nat) (s : State) : (crcIgnored n poly k s).sys.mgmtUp = s.sys.mgmtUp := by
  induction k generalizing s with
  | zero => rfl
  | succ k ih => exact (ih _).trans (crcPost_mgmtUp ..)

theorem crcStop_mgmtUp (n : Nat) (s : State) : (crcStop n s).sys.mgmtUp = s.sys.mgmtUp := by
  unfold crcStop
  split
  · exact (crcIgnored_mgmtUp ..).trans ((crcPost_mgmtUp ..).trans ((crcSet_mgmtUp ..).trans (crcProgress_mgmtUp ..)))
  · rfl

theorem crcCmd_mgmtUp (n w : Nat) (s : State) : (crcCmd n w s).2.sys.mgmtUp = s.sys.mgmtUp := by
  have hgo : (if bitAt w 31 = true then crcGo n (bitAt w 30) s else s).sys.mgmtUp = s.sys.mgmtUp := by
    split
    · exact crcGo_mgmtUp ..
    · rfl
  unfold crcCmd
  dsimp only
  split
  · exact (crcStop_mgmtUp ..).trans hgo
  · exact hgo

theorem crcRunLo_mgmtUp (n : Nat) (w : Word) (s : State) : (crcRunLo n w s).sys.mgmtUp = s.sys.mgmtUp := by
  unfold crcRunLo
  dsimp only
  split
  · rfl
  · exact crcSet_mgmtUp ..

theorem crcRunHi_mgmtUp (n : Nat) (w : Word) (s : State) : (crcRunHi n w s).sys.mgmtUp = s.sys.mgmtUp := by
  unfold crcRunHi
  dsimp only
  split
  · rfl
  · exact crcSet_mgmtUp ..

theorem writeCrc_mgmtUp (a w : Nat) (s : State) : (writeCrc a w s).2.sys.mgmtUp = s.sys.mgmtUp := by
  unfold writeCrc
  extract_lets o n x
  clear_value n x
  split
  · rfl
  generalize o % 0x40 = k
  split
  case h_4 => exact crcCmd_mgmtUp ..
  case h_5 => exact crcRunLo_mgmtUp ..
  case h_6 => exact crcRunHi_mgmtUp ..
  case h_7 => rfl
  all_goals exact crcSet_mgmtUp ..

theorem dictRequest_down {s : State} (h : s.sys.mgmtUp = false) (op : Nat) (p : Path) (r : DictReq) : dictRequest op p r s = s := by
  simp [dictRequest, hostUp, h]

theorem mbxGo_down {s : State} (h : s.sys.mgmtUp = false) (w : Nat) : ∃ hp, (mbxGo w s).2 = { s with hp := hp } := by
  unfold mbxGo
  dsimp only
  (repeat' split)
  case isFalse.isFalse.isFalse.isFalse => exact ⟨_, dictRequest_down (s := { s with hp := { s.hp with busy := true } }) h ..⟩
  all_goals exact ⟨s.hp, rfl⟩

/-- A word written while the management plane is in reset reaches no dictionary request. -/
theorem hostWrite_down {s : State} (h : s.sys.mgmtUp = false) (a w : Nat) :
    (hostWrite a w s).2.sys.mgmtUp = false ∧ guarded (hostWrite a w s).2 = guarded s := by
  have host : (writeHost a w s).2.sys.mgmtUp = false ∧ guarded (writeHost a w s).2 = guarded s := by
    unfold writeHost
    split
    case h_3 =>
      obtain ⟨hp, hhp⟩ := mbxGo_down h w
      rw [hhp]
      exact ⟨h, rfl⟩
    case h_4 => split <;> exact ⟨h, rfl⟩
    all_goals exact ⟨h, rfl⟩
  unfold hostWrite
  split
  · exact ⟨h, rfl⟩
  split
  · exact ⟨h, rfl⟩
  split
  · exact ⟨(stageRegister_mgmtUp ..).trans h, stageRegister_guarded ..⟩
  generalize a / 0x10000 = k
  split
  · dsimp only
    exact ⟨(writeEd_mgmtUp a w s).trans h, writeEd_guarded a w s⟩
  · exact ⟨(writeCrc_mgmtUp a w s).trans h, writeCrc_guarded a w s⟩
  · exact host
  · dsimp only
    exact ⟨(writeReceivers_mgmtUp a w s).trans h, writeReceivers_guarded a w s⟩
  · dsimp only
    exact ⟨(writeMatrix_mgmtUp a w s).trans h, writeMatrix_guarded a w s⟩
  · dsimp only
    exact ⟨(writeOther_mgmtUp a w s).trans h, writeOther_guarded a w s⟩

/-! ### The queue (O3) -/

theorem exec_queue {i : Instr} {s u : State} (h : exec i s = .next u) : (guarded u).queue = (guarded s).queue := by
  have gated : ∀ {c : Prop} [Decidable c] {v t : State}, (guarded v).queue = (guarded t).queue →
      (guarded (if c then v else t)).queue = (guarded t).queue := by
    intro c _ v t hv
    split
    · exact hv
    · rfl
  cases i <;> cases h
  case resetCmdDataPlane => simp [resetCmd]
  case resetCmdMgmtPlane => simp [resetCmd]
  case resetCmdDevice => simp [resetCmd]
  case wakeEvent t => exact (gated (t := advance t s) (by simp)).trans (by simp)
  case reassign t => exact (gated (t := advance t s) (by simp)).trans (by simp)
  case lockoutExpiry t => exact (gated (t := advance t s) (by simp)).trans (by simp)
  all_goals simp

/-! ### Limits of a locked governor (O7) -/

/-- The governor is empty and unlocked. -/
def emptyLimits : Limits := ⟨[], [], [], false⟩

/-- The limits stay, or an erase has emptied them and left the management plane in reset (R137, R338). -/
def LimitsHeld (u s : State) : Prop :=
  (guarded u).limits = (guarded s).limits ∨ ((guarded u).limits = emptyLimits ∧ u.sys.mgmtUp = false)

theorem LimitsHeld.of_kept {u s : State} (h : guarded u = guarded s) : LimitsHeld u s := .inl (congrArg Guarded.limits h)

theorem LimitsHeld.of_limits {u s : State} (h : (guarded u).limits = (guarded s).limits) : LimitsHeld u s := .inl h

theorem LimitsHeld.from {u t s : State} (h : LimitsHeld u t) (ht : guarded t = guarded s) : LimitsHeld u s := by
  unfold LimitsHeld at *
  rwa [ht] at h

/-- A response after an operation changes no limit, and none leaves a management plane in reset. -/
theorem LimitsHeld.after {v u s : State} (h : LimitsHeld u s) (hg : guarded v = guarded u)
    (hm : u.sys.mgmtUp = false → v.sys.mgmtUp = false) : LimitsHeld v s := by
  unfold LimitsHeld at *
  rw [hg]
  exact h.imp_right fun h => ⟨h.1, hm h.2⟩

theorem answer_down {s : State} (h : s.sys.mgmtUp = false) (p : Path) (r : DictRsp) : answer p r s = s := by
  simp [answer, h]

theorem say_mgmtUp_down {s : State} (h : s.sys.mgmtUp = false) (p : Path) (op : Nat) (r : DictReq) (ab v : Nat) :
    (say p op r ab v s).sys.mgmtUp = false := by
  unfold say respond
  generalize List.filter _ s.dc.prev = keep
  have hd : ({ s with dc := { s.dc with prev := (p, op, s.sys.now, r, rspTo op r ab v) :: keep } } : State).sys.mgmtUp = false := h
  exact (congrArg (·.sys.mgmtUp) (answer_down hd p _)).trans h

theorem LimitsHeld.say {u s : State} (h : LimitsHeld u s) (p : Path) (op : Nat) (r : DictReq) (ab v : Nat) :
    LimitsHeld (Machine.say p op r ab v u) s := h.after (say_guarded ..) (say_mgmtUp_down · p op r ab v)

theorem LimitsHeld.answerWrite {r : Nat × State} {s : State} (h : LimitsHeld r.2 s) (p : Path) (i sub n : Nat) :
    LimitsHeld (Machine.answerWrite p i sub n r) s :=
  h.after (answer_guarded ..) fun hm => (congrArg (·.sys.mgmtUp) (answer_down hm p _)).trans hm

/-- A command that carries one write. -/
theorem LimitsHeld.writeCmd {f : State → Nat × State} {s : State} (h : LimitsHeld (f s).2 s) (p : Path) (i sub n : Nat) :
    LimitsHeld (Machine.writeCmd p i sub n f s) s := by
  unfold Machine.writeCmd
  split
  · exact h.answerWrite p i sub n
  · exact .of_kept rfl

/-- The governor is locked, in the guarded part. -/
def Locked (s : State) : Prop := (guarded s).limits.locked = true

theorem Locked.of_kept {u s : State} (h : Locked s) (hg : guarded u = guarded s) : Locked u := by
  unfold Locked at *
  rwa [hg]

theorem Locked.shut {s : State} (h : Locked s) : govShut s = true := by
  have hl : s.gov.locked = true := h
  simp [govShut, hl]

/-! #### Immediate writes of the dictionary -/

theorem limitWrite_locked {s : State} (h : Locked s) (sub v : Nat) : limitWrite sub v s = (0x0610, s) := by
  simp [limitWrite, h.shut]

theorem governorLock_locked {s : State} (h : Locked s) (p : Path) (c : Nat) : governorLock p c s = (0x0610, s) := by
  simp [governorLock, h.shut]

theorem eraseNow_held (s : State) : LimitsHeld (eraseNow s) s := by
  unfold eraseNow
  exact .inr ⟨(deviceReset_limits ..).trans rfl, rfl⟩

theorem safetyErase_held (p : Path) (d : List Byte) (s : State) : LimitsHeld (safetyErase p d s).2 s := by
  unfold safetyErase
  split
  · exact .of_kept rfl
  split
  · exact .of_kept rfl
  extract_lets t r
  have ht : guarded t = guarded s := touchSession_guarded ..
  have hr : guarded r.2 = guarded s := (passCheck_guarded ..).trans ht
  split
  · exact .of_kept ht
  split
  · exact .of_kept ht
  (repeat' split)
  case isFalse.isFalse.isFalse => exact (eraseNow_held r.2).from hr
  all_goals exact .of_kept hr

theorem nowHigh_held {s : State} (h : Locked s) (p : Path) (i sub : Nat) (d : List Byte) : LimitsHeld (nowHigh p i sub d s).2 s := by
  unfold nowHigh
  dsimp only
  split
  · split
    · exact .of_kept (congrArg (guarded ·.2) (governorLock_locked h ..))
    · exact .of_kept (congrArg (guarded ·.2) (limitWrite_locked h ..))
  split
  · (repeat' split) <;> exact .of_kept (by simp)
  split
  case h_10 => exact .of_limits (passSet_limits ..)
  case h_11 => exact safetyErase_held ..
  case h_12 => exact .of_limits (logClear_limits ..)
  all_goals refine .of_kept ?_
  all_goals simp

theorem nowOp_held {s : State} (h : Locked s) (p : Path) (i sub : Nat) (d : List Byte) : LimitsHeld (nowOp p i sub d s).2 s := by
  unfold nowOp
  split
  · exact .of_kept (nowLow_guarded ..)
  · exact nowHigh_held h ..

theorem orderly_held {r : Nat × State} {s t : State} (hr : LimitsHeld r.2 t) (hs : LimitsHeld s t) (o : Obj) (p : Path) (i sub : Nat)
    (d : List Byte) : LimitsHeld (orderly o p i sub d r s).2 t := by
  unfold orderly
  (repeat' split) <;> assumption

theorem nowWrite_held {s : State} (h : Locked s) (o : Obj) (p : Path) (i sub : Nat) (d : List Byte) :
    LimitsHeld (nowWrite o p i sub d s).2 s := by
  unfold nowWrite
  split
  · exact nowOp_held h ..
  · extract_lets t
    have ht : guarded t = guarded s := by simp [t]
    exact orderly_held ((nowOp_held (h.of_kept ht) ..).from ht) (.of_kept ht) ..

theorem writeWhole_held {s : State} (h : Locked s) (o : Obj) (p : Path) (op : Nat) (r : DictReq) (d : List Byte) :
    LimitsHeld (writeWhole o p op r d s) s := by
  unfold writeWhole
  split
  · exact .of_kept (by simp)
  · exact (nowWrite_held h ..).say ..

theorem touched_guarded (o : Obj) (p : Path) (s : State) :
    guarded (if needsSession o then touchSession p s else s) = guarded s := by
  split
  · exact touchSession_guarded ..
  · rfl

theorem dictWrite_held {s : State} (h : Locked s) (p : Path) (r : DictReq) : LimitsHeld (dictWrite p r s) s := by
  unfold dictWrite
  extract_lets l t
  have ht : guarded t = guarded s := xferDrop_guarded ..
  have hw (o : Obj) : LimitsHeld (writeWhole o p 3 r r.data t) s := (writeWhole_held (h.of_kept ht) ..).from ht
  clear_value t
  split
  · exact .of_kept ((say_guarded ..).trans ht)
  extract_lets g
  split
  · split
    · exact .of_kept ((say_guarded ..).trans ht)
    split
    · exact .of_kept ((say_guarded ..).trans ht)
    split
    · exact .of_kept ((say_guarded ..).trans ht)
    · exact hw _
  · refine .of_kept (.trans ?_ ht)
    (repeat' split)
    case isFalse.isFalse.isFalse.isFalse => exact (say_guarded ..).trans ((xferOpen_guarded ..).trans (touched_guarded ..))
    all_goals exact say_guarded ..

theorem dictWriteSeg_held {s : State} (h : Locked s) (p : Path) (r : DictReq) : LimitsHeld (dictWriteSeg p r s) s := by
  unfold dictWriteSeg
  dsimp only
  have ht : guarded (xferDrop p r.tid s) = guarded s := xferDrop_guarded ..
  (repeat' split)
  all_goals first
    | exact (writeWhole_held (h.of_kept ht) ..).from ht
    | exact .of_kept (by simp)

theorem dictRequest_held {s : State} (h : Locked s) (op : Nat) (p : Path) (r : DictReq) : LimitsHeld (dictRequest op p r s) s := by
  have ht : guarded (xferPrune s) = guarded s := xferPrune_guarded s
  unfold dictRequest
  split
  · exact .of_kept rfl
  split
  · exact .of_kept (answer_guarded ..)
  split
  · exact .of_kept rfl
  dsimp only
  split
  case h_3 => exact (dictWrite_held (h.of_kept ht) ..).from ht
  case h_4 => exact (dictWriteSeg_held (h.of_kept ht) ..).from ht
  all_goals exact .of_kept (by simp)

/-! #### Frames and the host port -/

theorem takeFrame_held {s : State} (h : Locked s) (p : Nat) (f : ZlFrame) : LimitsHeld (takeFrame p f s) s := by
  unfold takeFrame
  split
  · exact .of_kept (takeCommit_guarded ..)
  · unfold takeReq
    split
    · exact .of_kept rfl
    · exact dictRequest_held h ..
  · exact .of_kept (takeLinkFrame_guarded ..)

theorem frameRun_held {s : State} (h : Locked s) (p : Nat) (f : ZlFrame) : LimitsHeld (frameRun p f s) s := by
  have ht : guarded (frameIn p f s).2 = guarded s := frameIn_guarded ..
  unfold frameRun
  dsimp only
  split
  · exact (takeFrame_held (h.of_kept ht) ..).from ht
  · exact .of_kept ht

theorem mbxGo_held {s : State} (h : Locked s) (w : Nat) : LimitsHeld (mbxGo w s).2 s := by
  unfold mbxGo
  dsimp only
  (repeat' split)
  case isFalse.isFalse.isFalse.isFalse =>
    exact (dictRequest_held (s := { s with hp := { s.hp with busy := true } }) h ..).from rfl
  all_goals exact .of_kept rfl

theorem writeHost_held {s : State} (h : Locked s) (a w : Nat) : LimitsHeld (writeHost a w s).2 s := by
  unfold writeHost
  split
  case h_3 => exact mbxGo_held h w
  case h_4 => split <;> exact .of_kept rfl
  all_goals exact .of_kept rfl

theorem hostWrite_held {s : State} (h : Locked s) (a w : Nat) : LimitsHeld (hostWrite a w s).2 s := by
  unfold hostWrite
  split
  · exact .of_kept rfl
  split
  · exact .of_kept rfl
  split
  · exact .of_kept (stageRegister_guarded ..)
  generalize a / 0x10000 = k
  split
  case h_3 => exact writeHost_held h ..
  all_goals exact .of_kept (by simp)

/-- The words of a transfer: after the word whose request erases, the others reach nothing that holds limits. -/
theorem writeWords_held {s : State} (h : Locked s) (inc crc : Bool) (ws : List (Word × Byte)) (a : Nat) (t : State)
    (ht : LimitsHeld t s) : LimitsHeld (writeWords inc crc ws a t).2 s := by
  induction ws generalizing a t with
  | nil => exact ht
  | cons e ws ih =>
    obtain ⟨w, b⟩ := e
    unfold writeWords
    split
    · exact ht
    · refine ih _ _ ?_
      obtain hl | ⟨hl, hm⟩ := ht
      · have hlt : Locked t := by
          unfold Locked at *
          rwa [hl]
        refine (hostWrite_held hlt a w.toNat).imp (·.trans hl) id
      · obtain ⟨hm', hg⟩ := hostWrite_down hm a w.toNat
        exact .inr ⟨(congrArg Guarded.limits hg).trans hl, hm'⟩

theorem hpWrite_held {s : State} (h : Locked s) (x : SpiWrite) : LimitsHeld (hpWrite x s) s := by
  have hb : guarded (hpBegin x.head x.inHeader s) = guarded s := hpBegin_guarded ..
  unfold hpWrite
  dsimp only
  split
  · exact .of_kept rfl
  split
  · exact .of_kept ((hpEnd_guarded ..).trans hb)
  · exact (writeWords_held h _ _ _ _ _ (.of_kept hb)).after (hpEnd_guarded ..) id

/-! #### Every command -/

theorem powerOff_held {u s : State} (h : u = s ∨ ∃ v, u = powerOff v) : (guarded u).limits = (guarded s).limits ∨ (guarded u).limits = emptyLimits := by
  obtain rfl | ⟨v, rfl⟩ := h
  · exact .inl rfl
  · exact .inr rfl

/-- R137: a command other than a power-up keeps the limits of a locked governor or empties them. -/
theorem exec_limits {i : Instr} {s u : State} (hl : Locked s) (hi : ∀ a b t, i ≠ .powerUp t a b) (h : exec i s = .next u) :
    (guarded u).limits = (guarded s).limits ∨ (guarded u).limits = emptyLimits := by
  have hA (t : Nat) : Locked (advance t s) := hl.of_kept (advance_guarded t s)
  have timed {t : Nat} {v : State} (hv : LimitsHeld v (advance t s)) :
      (guarded v).limits = (guarded s).limits ∨ (guarded v).limits = emptyLimits :=
    (hv.from (advance_guarded t s)).imp_right And.left
  have gated {c : Prop} [Decidable c] {v t : State} (hv : LimitsHeld v t) : LimitsHeld (if c then v else t) t := by
    split
    · exact hv
    · exact .of_kept rfl
  have kept {f : State → Nat × State} (hf : ∀ s, guarded (f s).2 = guarded s) (p : Path) (i sub n t : Nat) :
      LimitsHeld (writeCmd p i sub n f (advance t s)) (advance t s) := LimitsHeld.writeCmd (.of_kept (hf _)) p i sub n
  cases i <;> cases h
  case powerUp => exact absurd rfl (hi _ _ _)
  case resetCmdDataPlane => exact timed (kept (fun _ => rfl) ..)
  case resetCmdMgmtPlane => exact timed (kept (fun _ => rfl) ..)
  case resetCmdDevice => exact timed (kept (fun _ => rfl) ..)
  case saveComplete t =>
    refine (powerOff_held (s := advance t s) ?_).imp_left (·.trans (by simp))
    unfold saveComplete
    split
    · exact .inr ⟨_, rfl⟩
    · exact .inl rfl
  case vbusLoss t =>
    refine (powerOff_held (s := advance t s) ?_).imp_left (·.trans (by simp))
    unfold vbusLoss
    split
    · exact .inl rfl
    · exact .inr ⟨_, rfl⟩
  case wakeEvent => exact timed (gated (.of_kept (wake_guarded _)))
  case governorLock t p c =>
    exact timed (LimitsHeld.writeCmd (.of_kept (congrArg (guarded ·.2) (governorLock_locked (hA t) ..))) ..)
  case commitGo => exact timed (kept (commitGo_guarded _) ..)
  case assignWrite => exact timed (kept (assignRun_guarded _) ..)
  case reassign => exact timed (gated (.of_kept (coordRun_guarded _)))
  case sessionOpen => exact timed (kept (sessionOpen_guarded _ _) ..)
  case sessionClose => exact timed (kept (sessionClose_guarded _) ..)
  case passSet => exact timed (LimitsHeld.writeCmd (.of_limits (passSet_limits ..)) ..)
  case lockoutExpiry => exact timed (gated (.of_kept (lockExpire_guarded _)))
  case logClear => exact timed (LimitsHeld.writeCmd (.of_limits (logClear_limits ..)) ..)
  case safetyErase => exact timed (LimitsHeld.writeCmd (safetyErase_held ..) ..)
  case mapFill => exact timed (kept (mapFill_guarded _ _) ..)
  case mapClear => exact timed (kept (mapClear_guarded _) ..)
  case mapRevert => exact timed (kept mapRevert_guarded ..)
  case zlFrameReceive => exact timed (frameRun_held (hA _) ..)
  case zlCommitFrame => exact timed (gated (frameRun_held (hA _) ..))
  case zlReqFrame => exact timed (gated (frameRun_held (hA _) ..))
  case timeSet => exact timed (kept (timeSetRun_guarded _) ..)
  case dictRead => exact timed (dictRequest_held (hA _) ..)
  case dictReadSeg => exact timed (dictRequest_held (hA _) ..)
  case dictWrite => exact timed (dictRequest_held (hA _) ..)
  case dictWriteSeg => exact timed (dictRequest_held (hA _) ..)
  case dictCancel => exact timed (dictRequest_held (hA _) ..)
  case hpWrite => exact timed (hpWrite_held (hA _) ..)
  case registerWrite => exact (gated (hostWrite_held hl ..)).imp_right And.left
  case hpMbxGo => exact timed (gated (mbxGo_held (hA _) ..))
  case crcRunWrite => exact (LimitsHeld.writeCmd (.of_kept (crcRunObj_guarded ..)) ..).imp_right And.left
  all_goals exact .inl (by simp)

/-- Settles O7: it holds. Only an erase and power-off touch the limits of a locked governor; an erase that a word of a host transfer
brings leaves the management plane in reset, so that no later word reaches the limits. -/
theorem lockedLimitsHold : Obligations.LockedLimitsHold := by
  unfold Obligations.LockedLimitsHold
  intro i s u hl hi h
  refine (exec_limits hl hi h).imp_right fun he => ?_
  exact ⟨congrArg Limits.locked he, congrArg Limits.limb he, congrArg Limits.lim5 he, congrArg Limits.lim100 he⟩

/-! ### Every step (O1 to O5) -/

/-- Settles O1: it holds, by the definition of the step. -/
theorem stepRunsTheFrontCommand : Obligations.StepRunsTheFrontCommand := fun _ _ _ => rfl

theorem neRunWord_kept (q : Fin 4) (w : Nat) (s : State) : ∃ u, neRunWord q w s = .next u ∧ guarded u = guarded s := by
  unfold neRunWord
  extract_lets d a b i
  generalize fld w 26 6 = k
  split
  all_goals exact ⟨_, rfl, by simp⟩

theorem fpRunWord_kept (w : Nat) (s : State) : ∃ u, fpRunWord w s = .next u ∧ guarded u = guarded s := by
  unfold fpRunWord
  extract_lets d a b i
  generalize fld w 26 6 = k
  split
  all_goals exact ⟨_, rfl, by simp⟩

/-- R211, R232: a program that runs on without a command touches nothing of the guarded part. -/
theorem idle_kept (s : State) : ∃ u, idle s = .next u ∧ guarded u = guarded s := by
  unfold idle
  split
  · exact neRunWord_kept ..
  split
  · exact fpRunWord_kept ..
  · exact ⟨s, rfl, rfl⟩

theorem idle_still {s : State} (hf : s.fp.run = false) (hn : ∀ q, q < 4 → (neGet s q).run = false) : idle s = .next s := by
  have noEngine : ((List.finRange 4).find? fun q => (mget ({} : Ne) s.ne q.val).run) = none :=
    List.find?_eq_none.2 fun q _ => by simpa [neGet] using hn q.val q.isLt
  unfold idle
  rw [noEngine, hf]
  rfl

/-- Settles O2: it holds. -/
theorem emptyQueueIdles : Obligations.EmptyQueueIdles := by
  unfold Obligations.EmptyQueueIdles
  intro s hs
  have hstep : step s = idle s := by simp [step, hs]
  obtain ⟨u, hu, hk⟩ := idle_kept s
  refine ⟨u, hstep.trans hu, hk, fun hf hn => ?_⟩
  injection hu.symm.trans (idle_still hf hn)

/-- Settles O3: it holds. -/
theorem everyCommandCompletes : Obligations.EveryCommandCompletes := fun i s => by
  obtain ⟨u, hu⟩ : ∃ u, exec i s = .next u := by cases i <;> exact ⟨_, rfl⟩
  exact ⟨u, hu, exec_queue hu⟩

/-- Settles O4: it holds, field by field of the reset state. -/
theorem resetIsSafe : Obligations.ResetIsSafe := by
  unfold Obligations.ResetIsSafe Safe AllOpen chanOk
  decide

/-- R322: the falling edge of a reset input keeps a state sound. -/
theorem exec_resetFallingEdge_sound {t : Nat} {c : Chan} {s u : State} (h : exec (.resetFallingEdge t c) s = .next u)
    (hs : (guarded s).Sound) : (guarded u).Sound := by
  have hA : (guarded (advance t s)).Sound := (advance_guarded t s).symm ▸ hs
  cases h
  split
  · exact resetFall_sound c _ hA (by assumption)
  · exact hA

theorem exec_sound {i : Instr} {s u : State} (h : exec i s = .next u) (hs : (guarded s).Sound) : (guarded u).Sound := by
  by_cases hi : ∃ t c, i = .resetFallingEdge t c
  · obtain ⟨t, c, rfl⟩ := hi
    exact exec_resetFallingEdge_sound h hs
  · exact (exec_opens (fun t c he => hi ⟨t, c, he⟩) h).sound hs

/-- Settles O5: it holds. A command only opens switches and keeps soundness, or is a reset edge, which closes a switch only in a
channel without a latched fault; the programs that run on without a command touch no switch. -/
theorem everyStepKeepsSafe : Obligations.EveryStepKeepsSafe := by
  unfold Obligations.EveryStepKeepsSafe
  intro s t hs ht
  cases hq : s.pending with
  | nil =>
    obtain ⟨u, hu, hk⟩ := idle_kept s
    have hst : step s = idle s := by simp [step, hq]
    obtain rfl : u = t := by injection hu.symm.trans (hst.symm.trans ht)
    exact (safe_iff u).2 (hk ▸ (safe_iff s).1 hs)
  | cons c rest =>
    have hst : step s = exec c { s with pending := rest } := by simp [step, hq]
    exact (safe_iff t).2 (exec_sound (hst.symm.trans ht) hs)

end Sys2Proof.Machine
end

section
/-! PROOF. O31 and O32: plan programs and shot lists. A plan instruction that neither faults nor leaves the program puts the cycle count
and the PC into the record that its operation gives; the instructions then differ in the register or the table that they write. -/

namespace Sys2Proof.Machine

-- One after another the proofs need less memory than all at once.
set_option Elab.async false

/-! ### Tables and bit fields -/

/-- A table of the first `n` keys reads as its function. -/
theorem mget_mtab {α : Type} [DecidableEq α] (d : α) (n : Nat) (f : Nat → α) (i : Nat) (hi : i < n) : mget d (mtab d n f) i = f i := by
  have h : mtab d n f = (List.range n).filterMap fun i => if f i = d then none else some (i, f i) := by
    unfold mtab
    rw [← List.filterMap_eq_filter, List.filterMap_map]
    congr 1
    funext i
    by_cases hd : f i = d <;> simp [hd, Option.guard]
  rw [h]
  exact mget_filterMap_of_mem d f (List.mem_range.2 hi)

/-- LIH: the immediate is put above the lower 14 bits of the register. -/
theorem loadHigh_fields (w : Word) (imm : BitVec 14) :
    let x := BitVec.ofNat 32 (imm.toNat * 2 ^ 14 + w.toNat % 2 ^ 14)
    x.extractLsb' 14 14 = imm ∧ x.extractLsb' 28 4 = 0#4 ∧ x.extractLsb' 0 14 = w.extractLsb' 0 14 := by
  have hi := imm.isLt
  refine ⟨BitVec.eq_of_toNat_eq ?_, BitVec.eq_of_toNat_eq ?_, BitVec.eq_of_toNat_eq ?_⟩
  all_goals
    simp only [BitVec.extractLsb'_toNat, BitVec.toNat_ofNat, Nat.shiftRight_eq_div_pow]
    omega

theorem sminW_toInt (x y : Word) : (sminW x y).toInt = min x.toInt y.toInt := by
  unfold sminW
  split <;> omega

theorem smaxW_toInt (x y : Word) : (smaxW x y).toInt = max x.toInt y.toInt := by
  unfold smaxW
  split <;> omega

/-- The comparisons of Table 8.3 and Table 10.6. -/
theorem condHolds_eq {c : Nat} (hc : c ≤ 5) (x y : Int) : ∃ b, condHolds c x y = some b ∧ (b = true ↔ NeCond c x y) := by
  obtain rfl | rfl | rfl | rfl | rfl | rfl : c = 0 ∨ c = 1 ∨ c = 2 ∨ c = 3 ∨ c = 4 ∨ c = 5 := by omega
  all_goals exact ⟨_, rfl, by simp [NeCond]⟩

/-! ### One instruction -/

/-- The plan record of `fp`, at `c` more cycles than `s` and word `pc`. -/
def fpAt (s : State) (fp : Fp) (c pc : Nat) : State := { s with fp := { fp with cyc := s.fp.cyc + c, pc := pc } }

/-- An instruction that does not fault and stays in the program. -/
theorem fpInstr_ok {s : State} {op : State → Nat × FpRes} {c : Nat} {fp : Fp} {tgt : Option Nat} (hr : s.fp.run = true)
    (hop : op s = (c, .ok fp tgt)) (hpc : tgt.getD (s.fp.pc + 1) < fpLen s) :
    fpInstr op s = fpAt s fp c (tgt.getD (s.fp.pc + 1)) := by
  have hlen : ¬ fpLen (fpAt s fp c (tgt.getD (s.fp.pc + 1))) ≤ (fpAt s fp c (tgt.getD (s.fp.pc + 1))).fp.pc := Nat.not_le.2 hpc
  unfold fpInstr
  rw [hop, hr]
  exact if_neg hlen

/-- An instruction that goes on to the next word. -/
theorem fpInstr_next {s : State} (h : FpRoom s) {op : State → Nat × FpRes} {c : Nat} {fp : Fp} (hop : op s = (c, .ok fp none)) :
    fpInstr op s = fpAt s fp c (s.fp.pc + 1) := fpInstr_ok h.1 hop h.2

/-- Of the plan record `fp` only registers and working table differ from those of `s`. -/
def FpRegsOnly (s : State) (fp : Fp) : Prop := fp = { s.fp with p := fp.p, work := fp.work }

theorem fpAt_went {s : State} {fp : Fp} (h : FpRegsOnly s fp) (c pc : Nat) : FpWent s (fpAt s fp c pc) c pc := by
  unfold FpWent fpAt
  rw [h]

theorem fpSet_regsOnly (s : State) (d : BitVec 4) (w : Word) : FpRegsOnly s (fpSet s.fp d w) := rfl

theorem fpWork_regsOnly (s : State) (m : SMap Nat) : FpRegsOnly s { s.fp with work := m } := rfl

theorem preg_set_same (s : State) (d : BitVec 4) (w : Word) (c pc : Nat) : preg (fpAt s (fpSet s.fp d w) c pc) d = w :=
  mget_mset_same 0 s.fp.p d.toNat w

theorem preg_set_other (s : State) {d j : BitVec 4} (h : j ≠ d) (w : Word) (c pc : Nat) :
    preg (fpAt s (fpSet s.fp d w) c pc) j = preg s j :=
  mget_mset_other 0 s.fp.p d.toNat j.toNat w fun e => h (BitVec.eq_of_toNat_eq e)

theorem fpAt_writes (s : State) (d : BitVec 4) (w : Word) (c pc : Nat) : FpWrites s (fpAt s (fpSet s.fp d w) c pc) d w :=
  ⟨preg_set_same .., fun _ h => preg_set_other s h .., rfl⟩

/-- Pd = f: the instruction goes on and writes Pd. -/
theorem fpReg_next {s : State} (h : FpRoom s) (c : Nat) (d : BitVec 4) (f : State → Word) :
    FpWent s (fpInstr (fpReg c d f) s) c (s.fp.pc + 1) ∧ FpWrites s (fpInstr (fpReg c d f) s) d (f s) := by
  rw [fpInstr_next h (op := fpReg c d f) rfl]
  exact ⟨fpAt_went (fpSet_regsOnly ..) .., fpAt_writes ..⟩

/-- An operation that gives a register write and goes on. -/
theorem fpInstr_writes {s : State} (h : FpRoom s) {op : State → Nat × FpRes} {c : Nat} {d : BitVec 4} {w : Word}
    (hop : op s = (c, .ok (fpSet s.fp d w) none)) :
    FpWent s (fpInstr op s) c (s.fp.pc + 1) ∧ FpWrites s (fpInstr op s) d w := by
  rw [fpInstr_next h hop]
  exact ⟨fpAt_went (fpSet_regsOnly ..) .., fpAt_writes ..⟩

/-- A branch whose target lies within the program. -/
theorem fpBranch_eq {s : State} {imm : BitVec 14} (ht : imm.toNat % 2048 < fpLen s) (always : Bool) (f : State → Fp × Bool) :
    fpBranch imm always f s = if (f s).2 then (2, .ok (f s).1 (some (imm.toNat % 2048))) else (if always then 2 else 1, .ok (f s).1 none) :=
  if_neg (Nat.not_le.2 ht)

/-! ### Branches -/

theorem fpBr_taken {s : State} (h : FpRoom s) {imm : BitVec 14} (hi : imm.toNat < 2048) (ht : imm.toNat < fpLen s) :
    fpInstr (fpBrOp imm) s = fpAt s s.fp 2 imm.toNat := by
  have hm : imm.toNat % 2048 = imm.toNat := Nat.mod_eq_of_lt hi
  refine fpInstr_ok (tgt := some imm.toNat) h.1 ?_ ht
  unfold fpBrOp
  rw [if_neg (Nat.not_le.2 hi), fpBranch_eq (by rwa [hm]), hm]
  rfl

theorem fpBc_eq {s : State} (h : FpRoom s) {a b : BitVec 4} {imm : BitVec 14} {t : Bool} (ht : imm.toNat % 2048 < fpLen s)
    (hc : condHolds (imm.toNat / 2048) (preg s a).toInt (preg s b).toInt = some t) :
    fpInstr (fpBcOp a b imm) s = if t then fpAt s s.fp 2 (imm.toNat % 2048) else fpAt s s.fp 1 (s.fp.pc + 1) := by
  have hop : fpBcOp a b imm s = fpBranch imm false (fun s => (s.fp, t)) s := by
    unfold fpBcOp
    rw [hc]
  rw [fpBranch_eq ht] at hop
  cases t with
  | true => exact fpInstr_ok (tgt := some _) h.1 hop ht
  | false => exact fpInstr_next h hop

theorem fpLoop_eq {s : State} (h : FpRoom s) (a : BitVec 4) {imm : BitVec 14} (hi : imm.toNat < 2048) (ht : imm.toNat < fpLen s) :
    fpInstr (fpLoopOp a imm) s = if 1 < (preg s a).toInt then fpAt s (fpSet s.fp a (preg s a - 1)) 2 imm.toNat
      else fpAt s (fpSet s.fp a 0) 1 (s.fp.pc + 1) := by
  have hm : imm.toNat % 2048 = imm.toNat := Nat.mod_eq_of_lt hi
  have hop : fpLoopOp a imm s = fpBranch imm false (fpLoopStep a) s := if_neg (Nat.not_le.2 hi)
  rw [fpBranch_eq (by rwa [hm]), hm] at hop
  by_cases hl : 1 < (preg s a).toInt
  · have hs : fpLoopStep a s = (fpSet s.fp a (preg s a - 1), true) := if_pos hl
    rw [hs] at hop
    rw [if_pos hl]
    exact fpInstr_ok (tgt := some _) h.1 hop ht
  · have hs : fpLoopStep a s = (fpSet s.fp a 0, false) := if_neg hl
    rw [hs] at hop
    rw [if_neg hl]
    exact fpInstr_next h hop

/-! ### Tables -/

theorem fpTable_ok {s : State} {a : BitVec 4} (ha : (preg s a).toNat < 1024) (d : BitVec 4) (f : State → Nat → Nat) :
    fpTable d a f s = (2, .ok (fpSet s.fp d (BitVec.ofNat 32 (f s (preg s a).toNat))) none) := if_pos ha

theorem fpPut_ok {s : State} {a : BitVec 4} (ha : (preg s a).toNat < 1024) (b : BitVec 4) :
    fpPutOp a b s = (1, .ok { s.fp with work := mset 0 s.fp.work (preg s a).toNat (planWord (preg s b).toNat) } none) := if_pos ha

theorem fpIn_ok {imm : BitVec 14} (hi : inListed (imm.toNat % 64) = true) (s : State) (d : BitVec 4) :
    fpInOp d imm s = (1, .ok (fpSet s.fp d (mget 0 s.fp.inp (imm.toNat % 64))) none) := if_pos hi

theorem divW_zero (x : Word) : divW x 0 = 0xFFFFFFFF#32 := rfl

theorem divW_toNat (x : Word) {y : Word} (h : y ≠ 0) : (divW x y).toNat = x.toNat / y.toNat := by
  rw [divW, if_neg h, BitVec.toNat_udiv]

/-! ### The instructions (O31) -/

theorem fpAt_still (s : State) (c pc : Nat) : FpWent s (fpAt s s.fp c pc) c pc := fpAt_went (fp := s.fp) rfl c pc

/-- `Pd = f` with what the table says of the value written. -/
theorem fpReg_value {s : State} (h : FpRoom s) (c : Nat) (d : BitVec 4) (f : State → Word) {V : Word → Prop} (hv : V (f s)) :
    FpWent s (fpInstr (fpReg c d f) s) c (s.fp.pc + 1) ∧ ∃ w, FpWrites s (fpInstr (fpReg c d f) s) d w ∧ V w :=
  ⟨(fpReg_next h c d f).1, _, (fpReg_next h c d f).2, hv⟩

theorem fpNop_keeps {s : State} (h : FpRoom s) : Answers .fpNop s fun u =>
    FpWent s u 1 (s.fp.pc + 1) ∧ u.fp.p = s.fp.p ∧ u.fp.work = s.fp.work := by
  have hn := fpInstr_next h (op := fun s => (1, .ok s.fp none)) rfl
  exact ⟨_, rfl, hn ▸ ⟨fpAt_still .., rfl, rfl⟩⟩

theorem fpBr_goes {s : State} (h : FpRoom s) {imm : BitVec 14} (hi : imm.toNat < 2048) (ht : imm.toNat < fpLen s) :
    Answers (.fpBr imm) s fun u => FpWent s u 2 imm.toNat ∧ u.fp.p = s.fp.p ∧ u.fp.work = s.fp.work :=
  ⟨_, rfl, fpBr_taken h hi ht ▸ ⟨fpAt_still .., rfl, rfl⟩⟩

theorem fpLoop_counts {s : State} (h : FpRoom s) (a : BitVec 4) {imm : BitVec 14} (hi : imm.toNat < 2048) (ht : imm.toNat < fpLen s) :
    Answers (.fpLoop a imm) s fun u => if (preg s a).toInt > 1 then FpWent s u 2 imm.toNat ∧ FpWrites s u a (preg s a - 1)
      else FpWent s u 1 (s.fp.pc + 1) ∧ FpWrites s u a 0 := by
  refine ⟨_, rfl, ?_⟩
  rw [fpLoop_eq h a hi ht]
  dsimp only
  by_cases hl : 1 < (preg s a).toInt
  · rw [if_pos hl, if_pos hl]
    exact ⟨fpAt_went (fpSet_regsOnly ..) .., fpAt_writes ..⟩
  · rw [if_neg hl, if_neg hl]
    exact ⟨fpAt_went (fpSet_regsOnly ..) .., fpAt_writes ..⟩

theorem fpBc_decides {s : State} (h : FpRoom s) (a b : BitVec 4) {imm : BitVec 14} (hc : imm.toNat / 2048 ≤ 5)
    (ht : imm.toNat % 2048 < fpLen s) : Answers (.fpBc a b imm) s fun u => u.fp.p = s.fp.p ∧ u.fp.work = s.fp.work ∧
      (NeCond (imm.toNat / 2048) (preg s a).toInt (preg s b).toInt → FpWent s u 2 (imm.toNat % 2048)) ∧
      (¬NeCond (imm.toNat / 2048) (preg s a).toInt (preg s b).toInt → FpWent s u 1 (s.fp.pc + 1)) := by
  obtain ⟨t, ht', hiff⟩ := condHolds_eq hc (preg s a).toInt (preg s b).toInt
  refine ⟨_, rfl, ?_⟩
  rw [fpBc_eq h ht ht', ← hiff]
  cases t with
  | true => exact ⟨rfl, rfl, fun _ => fpAt_still .., fun hn => absurd rfl hn⟩
  | false => exact ⟨rfl, rfl, fun hn => absurd hn Bool.false_ne_true, fun _ => fpAt_still ..⟩

/-- An operation that gives a working table and goes on. -/
theorem fpInstr_works {s : State} (h : FpRoom s) {op : State → Nat × FpRes} {c : Nat} {m : SMap Nat}
    (hop : op s = (c, .ok { s.fp with work := m } none)) :
    FpWent s (fpInstr op s) c (s.fp.pc + 1) ∧ (fpInstr op s).fp.p = s.fp.p ∧ (fpInstr op s).fp.work = m := by
  rw [fpInstr_next h hop]
  exact ⟨fpAt_went (fpWork_regsOnly ..) .., rfl, rfl⟩

theorem fpPut_writes {s : State} (h : FpRoom s) {a : BitVec 4} (ha : (preg s a).toNat < 1024) (b : BitVec 4) :
    Answers (.fpPut a b) s fun u => FpWent s u 1 (s.fp.pc + 1) ∧ u.fp.p = s.fp.p ∧
      mget 0 u.fp.work (preg s a).toNat = planWord (preg s b).toNat ∧
      ∀ i, i ≠ (preg s a).toNat → mget 0 u.fp.work i = mget 0 s.fp.work i := by
  obtain ⟨hw, hp, hm⟩ := fpInstr_works h (fpPut_ok ha b)
  exact ⟨_, rfl, hw, hp, hm ▸ mget_mset_same .., fun _ hi => hm ▸ mget_mset_other _ _ _ _ _ hi⟩

theorem fpPutall_fills {s : State} (h : FpRoom s) (b : BitVec 4) : Answers (.fpPutall b) s fun u =>
    FpWent s u 64 (s.fp.pc + 1) ∧ u.fp.p = s.fp.p ∧ ∀ i, i < 1024 → mget 0 u.fp.work i = planWord (preg s b).toNat := by
  obtain ⟨hw, hp, hm⟩ := fpInstr_works h
    (op := fun s => (64, .ok { s.fp with work := mtab 0 1024 fun _ => planWord (preg s b).toNat } none)) rfl
  exact ⟨_, rfl, hw, hp, fun _ hi => hm ▸ mget_mtab _ _ _ _ hi⟩

theorem fpUnlisted_faults {s : State} (h : FpRoom s) : Answers .fpUnlistedOpcode s fun u => u = { s with fp := { s.fp with
    run := false, work := [], cycUsed := s.fp.cyc, progFault := true, cause := 1, faultPc := s.fp.pc % 2048 } } := by
  refine ⟨_, rfl, ?_⟩
  unfold fpInstr
  rw [h.1]
  rfl

/-- Settles O31: it holds, instruction by instruction. -/
theorem planInstructions : Obligations.PlanInstructions := by
  unfold Obligations.PlanInstructions
  refine ⟨fun s d a b imm h => ?_, fun s d a b imm h => ?_⟩
  · have reg (c : Nat) (f : State → Word) := fpReg_next h c d f
    exact ⟨fpNop_keeps h, ⟨_, rfl, reg ..⟩, ⟨_, rfl, fpReg_value h 1 d _ (loadHigh_fields ..)⟩, ⟨_, rfl, reg ..⟩, ⟨_, rfl, reg ..⟩,
      ⟨_, rfl, reg ..⟩, ⟨_, rfl, reg ..⟩, ⟨_, rfl, fpReg_value h 18 d _ ⟨fun hb => hb ▸ divW_zero _, divW_toNat _⟩⟩, ⟨_, rfl, reg ..⟩,
      ⟨_, rfl, reg ..⟩, ⟨_, rfl, fpReg_value h 1 d _ (sminW_toInt ..)⟩, ⟨_, rfl, fpReg_value h 1 d _ (smaxW_toInt ..)⟩,
      ⟨_, rfl, reg ..⟩, ⟨_, rfl, reg ..⟩⟩
  · exact ⟨fun hi ht => ⟨fpBr_goes h hi ht, fpLoop_counts h a hi ht⟩, fpBc_decides h a b,
      fun hi => ⟨_, rfl, fpInstr_writes h (fpIn_ok hi s d)⟩,
      fun ha => ⟨⟨_, rfl, fpInstr_writes h (fpTable_ok ha ..)⟩, ⟨_, rfl, fpInstr_writes h (fpTable_ok ha ..)⟩, fpPut_writes h ha b⟩,
      fpPutall_fills h b, ⟨_, rfl, if_pos h.1⟩, fpUnlisted_faults h⟩

/-! ### The start and the deadline of a program, and shot lists (O32) -/

theorem planStart_runs {s : State} (hs : s.pw.scanned = true) (hd : s.pw.dp = .scanning) (hn : fpNone s s.pw.st false = false) :
    planStart s = { s with fp := (planStart s).fp } ∧ (planStart s).fp.run = true ∧ (planStart s).fp.pc = 0 ∧
      (planStart s).fp.cyc = 0 ∧ (∀ r, preg (planStart s) r = 0) ∧ (planStart s).fp.work = s.fp.plan ∧
      (planStart s).fp.plan = s.fp.plan := by
  have hc : (s.pw.scanned && s.pw.dp == .scanning && !fpNone s s.pw.st false) = true := by rw [hs, hd, hn]; rfl
  unfold planStart
  rw [if_pos hc]
  exact ⟨rfl, rfl, rfl, rfl, fun _ => rfl, rfl, rfl⟩

theorem planLate_stops {s : State} (hr : s.fp.run = true) :
    planLate s = { s with fp := { s.fp with run := false, work := [], cycUsed := s.fp.cyc, planLate := true } } := if_pos hr

/-- Only the sequencer's lists and the planner differ. -/
def OnlyLists (s u : State) : Prop := u = { s with ex := u.ex, fp := u.fp }

theorem refill_onlyPlanner (k : Nat) (s : State) : refill k s = { s with fp := (refill k s).fp } := by
  unfold refill
  extract_lets
  split <;> rfl

/-- The build is offered for its step, late where it is not in time. -/
theorem buildNext_offers (inTime : Bool) (k : Nat) (s : State) :
    OnlyLists s (buildNext inTime k s) ∧ (buildNext inTime k s).ex.nextStep = k ∧ (buildNext inTime k s).ex.nextReady = inTime ∧
      ∃ b, (buildNext inTime k s).fp.pend = some b ∧ b.late = !inTime := by
  unfold buildNext
  split
  case isTrue hk => exact ⟨rfl, hk.symm, rfl, _, rfl, rfl⟩
  case isFalse =>
    rw [refill_onlyPlanner]
    exact ⟨rfl, rfl, rfl, _, rfl, rfl⟩

theorem listMissed_late (k : Nat) (s : State) :
    OnlyLists s (listMissed k s) ∧ (listMissed k s).ex.missed = true ∧ ∃ b, (listMissed k s).fp.pend = some b ∧ b.late = true := by
  unfold listMissed
  cases hp : s.fp.pend with
  | some b => exact ⟨rfl, rfl, _, rfl, rfl⟩
  | none =>
    obtain ⟨hb, _, _, hl⟩ := buildNext_offers false k s
    exact ⟨by dsimp only; rw [hb]; rfl, rfl, hl⟩

/-- The data plane scans or is about to. -/
theorem expanding_of {s : State} (h : s.pw.dp = .scanning ∨ s.pw.dp = .ready) : expanding s = true := by
  unfold expanding
  rcases h with h | h <;> rw [h] <;> rfl

theorem expanderBuild_open {s : State} (he : expanding s = true) (hm : s.ex.missed = false) (ht : s.ex.takenOk = false) (inTime : Bool) :
    expanderBuild inTime s = buildNext inTime (upcoming s) s := by
  unfold expanderBuild
  exact if_pos (by rw [he, hm, ht]; rfl)

theorem expanderBuild_closed {s : State} (h : s.ex.missed = true ∨ s.ex.takenOk = true) (inTime : Bool) : expanderBuild inTime s = s := by
  unfold expanderBuild
  rcases h with h | h <;> simp [h]

theorem shotListTake_closed {s : State} (h : s.ex.missed = true ∨ s.ex.takenOk = true) (tk : Nat) : shotListTake tk s = s := by
  unfold shotListTake
  rcases h with h | h <;> simp [h]

/-- A list that is ready for the upcoming step is taken; the planner is as it was. -/
theorem shotListTake_ready {s : State} (he : expanding s = true) (hm : s.ex.missed = false) (ht : s.ex.takenOk = false)
    (hr : s.ex.nextReady = true) (hk : s.ex.nextStep = upcoming s) (tk : Nat) :
    let u := shotListTake tk s
    OnlyLists s u ∧ u.ex.nextReady = false ∧ u.ex.taken = s.ex.next ∧ u.ex.takenOk = true ∧ u.ex.missed = false ∧ u.fp = s.fp := by
  simp only [shotListTake, he, hm, ht, hr, hk, OnlyLists, beq_self_eq_true, Bool.and_self, Bool.not_true, Bool.or_false,
    Bool.false_eq_true, if_false, if_true, and_self]

/-- Else it takes an empty one, and the step counts as late. -/
theorem shotListTake_late {s : State} (he : expanding s = true) (hm : s.ex.missed = false) (ht : s.ex.takenOk = false)
    (hr : s.ex.nextReady = false ∨ s.ex.nextStep ≠ upcoming s) (tk : Nat) :
    let u := shotListTake tk s
    OnlyLists s u ∧ u.ex.nextReady = false ∧ u.ex.taken = [] ∧ u.ex.takenOk = false ∧ u.ex.missed = true ∧
      ∃ b, u.fp.pend = some b ∧ b.late = true := by
  have hok : (s.ex.nextReady && s.ex.nextStep == upcoming s) = false := by rcases hr with h | h <;> simp [h]
  obtain ⟨hu, hmiss, hl⟩ := listMissed_late (upcoming s) s
  simp only [shotListTake, he, hm, ht, hok, OnlyLists, Bool.not_true, Bool.or_false, Bool.false_eq_true, if_false]
  exact ⟨by rw [hu], trivial, trivial, trivial, hmiss, hl⟩

/-- Settles O32: it holds. -/
theorem plansAndShotLists : Obligations.PlansAndShotLists := by
  unfold Obligations.PlansAndShotLists
  refine ⟨fun s t => ⟨fun hs hd hn => ⟨_, rfl, planStart_runs hs hd hn⟩, fun hr => ⟨_, rfl, planLate_stops (s := advance t s) hr⟩⟩,
    fun s t tk inTime hd => ⟨fun hm ht => ⟨⟨_, rfl, ?_⟩, ⟨_, rfl, ?_⟩⟩,
      fun h => ⟨⟨_, rfl, expanderBuild_closed (s := advance t s) h inTime⟩, ⟨_, rfl, shotListTake_closed (s := advance t s) h tk.toNat⟩⟩⟩⟩
  · have he : expanding (advance t s) = true := expanding_of hd
    rw [expanderBuild_open he hm ht]
    exact buildNext_offers ..
  · have he : expanding (advance t s) = true := expanding_of hd
    cases hok : s.ex.nextReady && s.ex.nextStep == upcoming (advance t s) with
    | true =>
      obtain ⟨hr, hk⟩ := by simpa using hok
      obtain ⟨hu, hn, hrest⟩ := shotListTake_ready (s := advance t s) he hm ht hr hk tk.toNat
      exact ⟨hu, hn, fun _ _ => hrest, fun h => absurd hok (by rcases h with h | h <;> simp [h])⟩
    | false =>
      have hl : s.ex.nextReady = false ∨ s.ex.nextStep ≠ upcoming (advance t s) := by
        cases hr : s.ex.nextReady <;> simp_all
      obtain ⟨hu, hn, hrest⟩ := shotListTake_late (s := advance t s) he hm ht hl tk.toNat
      exact ⟨hu, hn, fun hr hk => absurd hok (by simp [hr, hk]), fun _ => hrest⟩

end Sys2Proof.Machine
end

section
/-! PROOF. O27 and O28: lane arithmetic, scalars, masks and branches of the note engines. An instruction that completes within budget
and program puts its engine's record back with the cycle count and the PC moved on; a lane instruction acts on each active lane by
itself. -/

namespace Sys2Proof.Machine

-- One after another the proofs need less memory than all at once.
set_option Elab.async false

/-! ### Lanes -/

theorem lnGet_lnPut_same (x : Ne) (l : Nat) (y : Lane) : lnGet (lnPut x l y) l = y := mget_mset_same ..

theorem lnGet_lnPut_other (x : Ne) {l k : Nat} (y : Lane) (h : k ≠ l) : lnGet (lnPut x l y) k = lnGet x k := mget_mset_other _ _ _ _ _ h

/-- One lane's act, where the lane is active. -/
def onLane (f : Nat → Lane → Lane) (x : Ne) (l : Nat) : Ne := if bget x.mask l then lnPut x l (f l (lnGet x l)) else x

theorem onLane_lanes (f : Nat → Lane → Lane) (x : Ne) (l : Nat) : onLane f x l = { x with lanes := (onLane f x l).lanes } := by
  unfold onLane
  split <;> rfl

theorem onLane_foldl_lanes (f : Nat → Lane → Lane) (ls : List Nat) (x : Ne) :
    ls.foldl (onLane f) x = { x with lanes := (ls.foldl (onLane f) x).lanes } := by
  induction ls generalizing x with
  | nil => rfl
  | cons l ls ih => rw [List.foldl_cons, ih, onLane_lanes f x l]

/-- An act on lanes leaves the rest of the engine. -/
theorem onLanes_lanes (x : Ne) (f : Nat → Lane → Lane) : onLanes x f = { x with lanes := (onLanes x f).lanes } :=
  onLane_foldl_lanes f (List.range 8) x

theorem onLane_foldl_get (f : Nat → Lane → Lane) {ls : List Nat} (hn : ls.Nodup) (x : Ne) (k : Nat) :
    lnGet (ls.foldl (onLane f) x) k = if k ∈ ls ∧ bget x.mask k = true then f k (lnGet x k) else lnGet x k := by
  induction ls generalizing x with
  | nil => simp
  | cons l ls ih =>
    obtain ⟨hl, hn⟩ := List.nodup_cons.1 hn
    have hm : (onLane f x l).mask = x.mask := by rw [onLane_lanes]
    rw [List.foldl_cons, ih hn, hm]
    by_cases hk : k = l
    · subst hk
      by_cases hb : bget x.mask k = true <;> simp [hl, hb, onLane, lnGet_lnPut_same]
    · have hg : lnGet (onLane f x l) k = lnGet x k := by
        unfold onLane
        split
        · exact lnGet_lnPut_other x _ hk
        · rfl
      simp [hk, hg]

/-- Each active lane is acted on once, by itself; the others stay. -/
theorem lnGet_onLanes (x : Ne) (f : Nat → Lane → Lane) {k : Nat} (hk : k < 8) :
    lnGet (onLanes x f) k = if bget x.mask k = true then f k (lnGet x k) else lnGet x k := by
  have h := onLane_foldl_get f List.nodup_range x k (ls := List.range 8)
  simp only [List.mem_range, hk, true_and] at h
  exact h

theorem laneWrites_lset (y : Lane) (d : Nat) (w : Word) : LaneWrites d w y (lset y d w) :=
  ⟨mget_mset_same .., fun _ h => mget_mset_other _ _ _ _ _ h, rfl⟩

/-! ### An instruction that completes -/

/-- Engine `q` goes on as `y`, `c` cycles later, at word `pc`. -/
def neAt (q : Nat) (s : State) (y : Ne) (c pc : Nat) : State := nePut q { y with cyc := (neGet s q).cyc + c, pc := pc } s

theorem neGet_nePut_same (q : Nat) (x : Ne) (s : State) : neGet (nePut q x s) q = x := mget_mset_same ..

theorem neGet_nePut_other {q k : Nat} (x : Ne) (s : State) (h : k ≠ q) : neGet (nePut q x s) k = neGet s k :=
  mget_mset_other _ _ _ _ _ h

theorem neGet_neAt (q : Nat) (s : State) (y : Ne) (c pc : Nat) :
    neGet (neAt q s y c pc) q = { y with cyc := (neGet s q).cyc + c, pc := pc } := neGet_nePut_same ..

theorem neAt_went {y : Ne} (hy : y.run = true) (q : Nat) (s : State) (c pc : Nat) : NeWent q s (neAt q s y c pc) c pc := by
  refine ⟨rfl, fun k hk => neGet_nePut_other _ _ hk, ?_⟩
  rw [neGet_neAt]
  exact ⟨hy, rfl, rfl⟩

/-- After an instruction that stays below the budget and within the program. -/
theorem neNext_goes {v s : State} {q : Nat} (hb : (neGet s q).cyc < neBudget v q) (hp : (neGet s q).pc < neLen v q) :
    neNext v q s = s := by
  unfold neNext
  dsimp only
  rw [if_neg (Nat.not_le.2 hb), if_neg (Nat.not_le.2 hp), ite_self]

/-- An instruction that does not fault and stays below the budget and within the program. -/
theorem neInstr_ok {q : Nat} {s : State} {op : State → State → Ne → Nat × NeRes} {c : Nat} {y : Ne} {tgt : Option Nat}
    (hr : (neGet s q).run = true) (hop : op (viewFrame (neGet s q).frame s) s (neGet s q) = (c, .ok y tgt))
    (hb : (neGet s q).cyc + c < neBudget (viewFrame (neGet s q).frame s) q)
    (hp : tgt.getD ((neGet s q).pc + 1) < neLen (viewFrame (neGet s q).frame s) q) :
    neInstr q op s = neAt q s y c (tgt.getD ((neGet s q).pc + 1)) := by
  unfold neInstr
  dsimp only
  rw [hop, hr]
  simp only [Bool.not_true, Bool.false_eq_true, if_false]
  rw [if_neg (by omega)]
  exact neNext_goes (by rw [neGet_nePut_same]; exact hb) (by rw [neGet_nePut_same]; exact hp)

theorem NeRoom.mono {q : Nat} {s : State} {c c' : Nat} (h : NeRoom q s c) (hc : c' ≤ c) : NeRoom q s c' :=
  ⟨h.1, by have := h.2.1; omega, h.2.2⟩

/-- An instruction that goes on to the next word. -/
theorem neInstr_next {q : Nat} {s : State} {c : Nat} (h : NeRoom q s c) {op : State → State → Ne → Nat × NeRes} {y : Ne}
    (hop : op (viewFrame (neGet s q).frame s) s (neGet s q) = (c, .ok y none)) : neInstr q op s = neAt q s y c (nePcNext q s) :=
  neInstr_ok h.1 hop h.2.1 h.2.2

/-- An act on lanes, lane by lane. -/
theorem neLanes_onLanes (q : Nat) (s : State) (c pc : Nat) {f : Nat → Lane → Lane} {R : Nat → Lane → Lane → Prop}
    (hR : ∀ l, R l (lnGet (neGet s q) l) (f l (lnGet (neGet s q) l))) :
    NeLanes q s (neAt q s (onLanes (neGet s q) f) c pc) R := by
  unfold NeLanes
  rw [neGet_neAt]
  refine ⟨by rw [onLanes_lanes], fun l hl => ?_⟩
  have hg := lnGet_onLanes (neGet s q) f hl
  split
  case isTrue hm => exact (show lnGet _ l = _ from hg.trans (if_pos hm)) ▸ hR l
  case isFalse hm => exact hg.trans (if_neg hm)

/-- A lane instruction. -/
theorem laneInstr {q : Nat} {s : State} {c : Nat} (h : NeRoom q s c) {op : State → State → Ne → Nat × NeRes} {f : Nat → Lane → Lane}
    {R : Nat → Lane → Lane → Prop} (hop : op (viewFrame (neGet s q).frame s) s (neGet s q) = (c, .ok (onLanes (neGet s q) f) none))
    (hR : ∀ l, R l (lnGet (neGet s q) l) (f l (lnGet (neGet s q) l))) :
    NeWent q s (neInstr q op s) c (nePcNext q s) ∧ NeLanes q s (neInstr q op s) R := by
  rw [neInstr_next h hop]
  exact ⟨neAt_went (by rw [onLanes_lanes]; exact h.1) .., neLanes_onLanes q s c _ hR⟩

theorem laneAlu_writes {q : Nat} {s : State} {c : Nat} (h : NeRoom q s c) (d : Nat) (f : Lane → Word) :
    NeWent q s (neInstr q (laneOp c fun _ y => lset y d (f y)) s) c (nePcNext q s) ∧
    NeLanes q s (neInstr q (laneOp c fun _ y => lset y d (f y)) s) fun _ y => LaneWrites d (f y) y :=
  laneInstr h rfl fun _ => laneWrites_lset ..

/-- `Ld = f` with what the table says of the value written. -/
theorem laneAlu_value {q : Nat} {s : State} {c : Nat} (h : NeRoom q s c) (d : Nat) (f : Lane → Word) (V : Lane → Word → Prop)
    (hV : ∀ y, V y (f y)) :
    NeWent q s (neInstr q (laneOp c fun _ y => lset y d (f y)) s) c (nePcNext q s) ∧
    NeLanes q s (neInstr q (laneOp c fun _ y => lset y d (f y)) s) fun _ y z => V y (lreg z d) ∧ LaneWrites d (lreg z d) y z := by
  refine laneInstr h rfl fun l => ?_
  have hw := laneWrites_lset (lnGet (neGet s q) l) d (f (lnGet (neGet s q) l))
  rw [hw.1]
  exact ⟨hV _, hw⟩

/-- Settles O27: it holds. -/
theorem neLaneArithmetic : Obligations.NeLaneArithmetic := by
  unfold Obligations.NeLaneArithmetic
  intro q s d a b imm
  exact ⟨fun h => ⟨⟨_, rfl, laneAlu_writes h ..⟩, ⟨_, rfl, laneAlu_writes h ..⟩, ⟨_, rfl, laneAlu_writes h ..⟩,
    ⟨_, rfl, laneAlu_writes h ..⟩, ⟨_, rfl, laneAlu_writes h ..⟩, ⟨_, rfl, laneAlu_writes h ..⟩,
    ⟨_, rfl, laneAlu_value h _ _ (fun y w => w.toInt = min (lval y a.toNat) (lval y b.toNat)) fun _ => sminW_toInt ..⟩,
    ⟨_, rfl, laneAlu_value h _ _ (fun y w => w.toInt = max (lval y a.toNat) (lval y b.toNat)) fun _ => smaxW_toInt ..⟩⟩,
    fun h => ⟨_, rfl, laneAlu_writes h ..⟩⟩

/-! ### Masks -/

theorem maskOf_succ (n : Nat) (p : Nat → Bool) : maskOf (n + 1) p = maskOf n p + bitIf (p n) n := by
  simp [maskOf, List.range_succ]

theorem maskOf_lt (n : Nat) (p : Nat → Bool) : maskOf n p < 2 ^ n := by
  induction n with
  | zero => exact Nat.one_pos
  | succ n ih =>
    rw [maskOf_succ, Nat.pow_succ]
    unfold bitIf
    split <;> omega

/-- Bit `i` of a mask is its predicate at `i`. -/
theorem maskOf_testBit (n : Nat) (p : Nat → Bool) (i : Nat) : (maskOf n p).testBit i = (decide (i < n) && p i) := by
  induction n with
  | zero => simp [maskOf]
  | succ n ih =>
    rw [maskOf_succ, Nat.add_comm]
    have hl := maskOf_lt n p
    by_cases hp : p n = true
    · rw [show bitIf (p n) n = 2 ^ n from if_pos hp]
      obtain hi | rfl | hi := Nat.lt_trichotomy i n
      · rw [Nat.testBit_two_pow_add_gt hi, ih]
        simp [hi, Nat.lt_succ_of_lt hi]
      · rw [Nat.testBit_two_pow_add_eq, Nat.testBit_lt_two_pow hl]
        simp [hp]
      · rw [Nat.testBit_lt_two_pow ((by rw [Nat.pow_succ]; omega : 2 ^ n + maskOf n p < 2 ^ (n + 1)).trans_le
          (Nat.pow_le_pow_right Nat.two_pos hi))]
        simp [Nat.not_lt.2 (Nat.succ_le_of_lt hi)]
    · rw [show bitIf (p n) n = 0 from if_neg hp, Nat.zero_add, ih]
      obtain hi | rfl | hi := Nat.lt_trichotomy i n
      · simp [hi, Nat.lt_succ_of_lt hi]
      · simp [hp]
      · simp [Nat.not_lt.2 (Nat.succ_le_of_lt hi), Nat.not_lt.2 hi.le]

theorem bget_maskOf {n : Nat} (p : Nat → Bool) {l : Nat} (hl : l < n) : bget (BitVec.ofNat n (maskOf n p)) l = p l := by
  rw [bget, BitVec.getLsbD_ofNat, maskOf_testBit, decide_eq_true hl, Bool.true_and, Bool.true_and]

/-- MSET: the lanes whose condition is false leave the mask. -/
theorem msetOp_mask {q : Nat} {s : State} (h : NeRoom q s 1) {c : Nat} (hc : c ≤ 5) (a : BitVec 4) (rhs : Lane → Int) :
    NeWent q s (neInstr q (msetOp c a rhs) s) 1 (nePcNext q s) ∧ ∃ w, NeMask q s (neInstr q (msetOp c a rhs) s) w (neGet s q).stack ∧
      ∀ l, l < 8 → (bget w l = true ↔ bget (neGet s q).mask l = true ∧
        NeCond c (lval (lnGet (neGet s q) l) a.toNat) (rhs (lnGet (neGet s q) l))) := by
  rw [neInstr_next h (op := msetOp c a rhs) (if_neg (Nat.not_lt.2 hc))]
  refine ⟨neAt_went (by exact h.1) .., _, by unfold NeMask; rw [neGet_neAt], fun l hl => ?_⟩
  obtain ⟨b, hb, hiff⟩ := condHolds_eq hc (lval (lnGet (neGet s q) l) a.toNat) (rhs (lnGet (neGet s q) l))
  rw [bget_maskOf _ hl, hb, ← hiff]
  simp

/-- IMM[13:3] as a signed number. -/
theorem toS_field (imm : BitVec 14) : toS 11 (imm.toNat / 8) = (imm.extractLsb' 3 11).toInt := by
  have he : (imm.extractLsb' 3 11).toNat = imm.toNat / 8 % 2048 := by
    rw [BitVec.extractLsb'_toNat, Nat.shiftRight_eq_div_pow]
  rw [BitVec.toInt_eq_toNat_cond, he]
  unfold toS
  (repeat' split) <;> omega

/-- An instruction that writes only mask and stack. -/
theorem maskInstr {q : Nat} {s : State} (h : NeRoom q s 1) {op : State → State → Ne → Nat × NeRes} {m : BitVec 8} {st : List (BitVec 8)}
    (hop : op (viewFrame (neGet s q).frame s) s (neGet s q) = (1, .ok { neGet s q with mask := m, stack := st } none)) :
    NeWent q s (neInstr q op s) 1 (nePcNext q s) ∧ NeMask q s (neInstr q op s) m st := by
  rw [neInstr_next h hop]
  exact ⟨neAt_went (by exact h.1) .., by unfold NeMask; rw [neGet_neAt]⟩

/-! ### Scalars -/

theorem neScalar_gset (q : Nat) (s : State) (d : Nat) (w : Word) (c pc : Nat) :
    NeScalar q s (neAt q s (gset (neGet s q) d w) c pc) d w := by
  unfold NeScalar
  rw [neGet_neAt]
  exact ⟨rfl, mget_mset_same .., fun _ h => mget_mset_other _ _ _ _ _ h⟩

/-- A scalar instruction. -/
theorem scalarInstr {q : Nat} {s : State} (h : NeRoom q s 1) {d : BitVec 4} (hd : d.toNat < 8) {ok : Bool} (hok : ok = true)
    (f : Ne → Word) : NeWent q s (neInstr q (scalarOp d ok f) s) 1 (nePcNext q s) ∧
      NeScalar q s (neInstr q (scalarOp d ok f) s) d.toNat (f (neGet s q)) := by
  have hs : (scalarOk d && ok) = true := by rw [hok, scalarOk, decide_eq_true hd]; rfl
  rw [neInstr_next h (op := scalarOp d ok f) (if_pos hs)]
  exact ⟨neAt_went (by exact h.1) .., neScalar_gset ..⟩

/-! ### Branches -/

theorem branchOp_ok {q : Nat} {imm : BitVec 14} {v s : State} {x : Ne} (hi : imm.toNat < 1024) (hl : imm.toNat < neLen v q)
    (always : Bool) (f : Ne → Ne × Bool) : branchOp q imm always f v s x =
      if (f x).2 then (2, .ok (f x).1 (some imm.toNat)) else (if always then 2 else 1, .ok (f x).1 none) := by
  unfold branchOp
  rw [if_neg (Nat.not_le.2 hi), if_neg (Nat.not_le.2 hl)]

section Branch

variable {q : Nat} {s : State} {imm : BitVec 14} {op : State → State → Ne → Nat × NeRes} {f : Ne → Ne × Bool}

/-- A taken branch. -/
theorem branch_taken (h : NeRoom q s 2) (hi : imm.toNat < 1024) (hl : imm.toNat < neLen (viewFrame (neGet s q).frame s) q)
    {always : Bool} (hf : (f (neGet s q)).2 = true) :
    neInstr q (branchOp q imm always f) s = neAt q s (f (neGet s q)).1 2 imm.toNat := by
  refine neInstr_ok (tgt := some imm.toNat) h.1 ?_ h.2.1 hl
  rw [branchOp_ok hi hl, if_pos hf]

/-- A branch that is not taken. -/
theorem branch_passed (h : NeRoom q s 2) (hi : imm.toNat < 1024) (hl : imm.toNat < neLen (viewFrame (neGet s q).frame s) q)
    (hf : (f (neGet s q)).2 = false) :
    neInstr q (branchOp q imm false f) s = neAt q s (f (neGet s q)).1 1 (nePcNext q s) := by
  refine neInstr_next (h.mono (by omega)) ?_
  rw [branchOp_ok hi hl, hf]
  rfl

end Branch

theorem neAt_only (q : Nat) (s : State) (c pc : Nat) : neGet (neAt q s (neGet s q) c pc) q =
    { neGet s q with cyc := (neGet (neAt q s (neGet s q) c pc) q).cyc, pc := (neGet (neAt q s (neGet s q) c pc) q).pc } := by
  rw [neGet_neAt]

/-- A branch that writes nothing, on a condition of the engine. -/
theorem branch_decides {q : Nat} {s : State} {imm : BitVec 14} (h : NeRoom q s 2) (hi : imm.toNat < 1024)
    (hl : imm.toNat < neLen (viewFrame (neGet s q).frame s) q) (p : Ne → Bool) {P : Prop} [Decidable P] (hP : p (neGet s q) = true ↔ P) :
    let u := neInstr q (branchOp q imm false fun x => (x, p x)) s
    (if P then NeWent q s u 2 imm.toNat else NeWent q s u 1 (nePcNext q s)) ∧
      neGet u q = { neGet s q with cyc := (neGet u q).cyc, pc := (neGet u q).pc } := by
  dsimp only
  by_cases hc : P
  · rw [if_pos hc, branch_taken h hi hl (hP.2 hc)]
    exact ⟨neAt_went h.1 .., neAt_only ..⟩
  · rw [if_neg hc, branch_passed h hi hl (Bool.eq_false_iff.2 (mt hP.1 hc))]
    exact ⟨neAt_went h.1 .., neAt_only ..⟩

theorem neLoop_counts {q : Nat} {s : State} {a : BitVec 4} {imm : BitVec 14} (h : NeRoom q s 2) (hi : imm.toNat < 1024)
    (hl : imm.toNat < neLen (viewFrame (neGet s q).frame s) q) (ha : a.toNat < 8) :
    let u := neInstr q (neLoopOp q a imm) s
    if (greg (neGet s q) a.toNat).toInt > 1 then NeWent q s u 2 imm.toNat ∧ NeScalar q s u a.toNat (greg (neGet s q) a.toNat - 1)
    else NeWent q s u 1 (nePcNext q s) ∧ NeScalar q s u a.toNat 0 := by
  have hop : neLoopOp q a imm = branchOp q imm false (loopStep a.toNat) := by
    funext v s x
    exact if_pos (decide_eq_true ha)
  dsimp only
  rw [hop]
  by_cases hc : (greg (neGet s q) a.toNat).toInt > 1
  · have hs : loopStep a.toNat (neGet s q) = (gset (neGet s q) a.toNat (greg (neGet s q) a.toNat - 1), true) := if_pos hc
    rw [if_pos hc, branch_taken h hi hl (by rw [hs]), hs]
    exact ⟨neAt_went (by exact h.1) .., neScalar_gset ..⟩
  · have hs : loopStep a.toNat (neGet s q) = (gset (neGet s q) a.toNat 0, false) := if_neg hc
    rw [if_neg hc, branch_passed h hi hl (by rw [hs]), hs]
    exact ⟨neAt_went (by exact h.1) .., neScalar_gset ..⟩

theorem neNop_keeps {q : Nat} {s : State} (h : NeRoom q s 1) :
    let u := neInstr q (fun _ _ x => (1, .ok x none)) s
    NeWent q s u 1 (nePcNext q s) ∧ neGet u q = { neGet s q with cyc := (neGet u q).cyc, pc := (neGet u q).pc } := by
  dsimp only
  rw [neInstr_next h (op := fun _ _ x => (1, .ok x none)) rfl]
  exact ⟨neAt_went h.1 .., neAt_only ..⟩

theorem neLg_writes {q : Nat} {s : State} (h : NeRoom q s 1) (d : BitVec 4) {a : BitVec 4} (ha : a.toNat < 8) :
    NeWent q s (neInstr q (neLgOp d a) s) 1 (nePcNext q s) ∧
    NeLanes q s (neInstr q (neLgOp d a) s) fun _ => LaneWrites d.toNat (greg (neGet s q) a.toNat) :=
  laneInstr h (if_pos (decide_eq_true ha)) fun _ => laneWrites_lset ..

theorem neBr_goes {q : Nat} {s : State} {imm : BitVec 14} (h : NeRoom q s 2) (hi : imm.toNat < 1024)
    (hl : imm.toNat < neLen (viewFrame (neGet s q).frame s) q) :
    let u := neInstr q (branchOp q imm true fun x => (x, true)) s
    NeWent q s u 2 imm.toNat ∧ neGet u q = { neGet s q with cyc := (neGet u q).cyc, pc := (neGet u q).pc } := by
  dsimp only
  rw [branch_taken h hi hl rfl]
  exact ⟨neAt_went h.1 .., neAt_only ..⟩

/-- Settles O28: it holds. -/
theorem neScalarMaskAndBranch : Obligations.NeScalarMaskAndBranch := by
  unfold Obligations.NeScalarMaskAndBranch
  refine ⟨fun q s d a imm h => ?_, fun q s a b imm m rest h => ?_, fun q s a imm h hi hl => ?_⟩
  · exact ⟨⟨_, rfl, neNop_keeps h⟩, fun ha => ⟨_, rfl, neLg_writes h d ha⟩, fun hd => ⟨_, rfl, scalarInstr h hd rfl _⟩,
      fun hd => ⟨_, rfl, (scalarInstr h hd rfl _).1, _, (scalarInstr h hd rfl _).2, loadHigh_fields ..⟩,
      fun hd ha => ⟨_, rfl, scalarInstr h hd (decide_eq_true ha) _⟩⟩
  · refine ⟨fun hc => ⟨⟨_, rfl, msetOp_mask h hc a _⟩, ⟨_, rfl, toS_field imm ▸ msetOp_mask h hc a _⟩⟩,
      fun hs => ⟨_, rfl, maskInstr h (if_neg (Nat.not_le.2 hs))⟩, fun hs => ⟨⟨_, rfl, maskInstr h ?_⟩, ⟨_, rfl, maskInstr h ?_⟩⟩⟩
    · unfold neMpopOp
      rw [hs]
    · unfold neMnotOp
      rw [hs]
  · exact ⟨⟨_, rfl, neBr_goes h hi hl⟩, ⟨_, rfl, branch_decides h hi hl (fun x => x.mask != 0) (by simp)⟩,
      ⟨_, rfl, branch_decides h hi hl (fun x => x.mask == 0) (by simp)⟩, fun ha => ⟨_, rfl, neLoop_counts h hi hl ha⟩⟩

end Sys2Proof.Machine
end

section
/-! PROOF. O29: contexts, windows, bins and scans of the note engines. Each is an act on lanes; a scan's cycle count is bounded by the bins
that the widest window holds. -/

namespace Sys2Proof.Machine

-- One after another the proofs need less memory than all at once.
set_option Elab.async false

theorem laneWrites_lsetI (y : Lane) (d : Nat) (z : Int) : LaneWrites d (BitVec.ofInt 32 z) y (lsetI y d z) := laneWrites_lset ..

theorem laneWrites_lsetI_nat (y : Lane) (d n : Nat) : LaneWrites d (BitVec.ofNat 32 n) y (lsetI y d n) := by
  have h := laneWrites_lsetI y d n
  rwa [BitVec.ofInt_natCast] at h

/-- Two registers written in a row. -/
theorem laneWrites2_lsetI (y : Lane) (d : Nat) (v w : Int) : LaneWrites2 d v w y (lsetI (lsetI y d v) (d + 1) w) := by
  refine ⟨?_, mget_mset_same .., fun j h1 h2 => ?_, rfl⟩
  · exact (mget_mset_other _ _ _ _ _ (by omega)).trans (mget_mset_same ..)
  · exact (mget_mset_other _ _ _ _ _ h2).trans (mget_mset_other _ _ _ _ _ h1)

/-! ### Contexts and windows -/

theorem neCtx_writes {q : Nat} {s : State} (h : NeRoom q s 1) (d : BitVec 4) (imm : BitVec 14) {k : Nat} {f : Nat → Nat}
    (hk : imm.toNat % 32 = k)
    (hf : (k, f) ∈ [(1, fun l => (ctxGet s (neGet s q).buf (laneCh q (neGet s q) l)).nc),
      (2, fun l => (ctxGet s (neGet s q).buf (laneCh q (neGet s q) l)).nf), (5, fun l => 48 * q + 8 * (neGet s q).group + l),
      (6, fun _ => (neGet s q).step), (8, fun l => l), (9, fun l => (ctxGet s (neGet s q).buf (laneCh q (neGet s q) l)).health)]) :
    NeWent q s (neInstr q (neCtxOp q d imm) s) 1 (nePcNext q s) ∧
      NeLanes q s (neInstr q (neCtxOp q d imm) s) fun l => LaneWrites d.toNat (BitVec.ofNat 32 (f l)) := by
  have hc : ∀ l, ctxField s q (neGet s q) l (imm.toNat % 32) = some (f l : Int) := by
    intro l
    simp only [List.mem_cons, List.mem_nil_iff, or_false, Prod.mk.injEq] at hf
    obtain ⟨rfl, rfl⟩ | ⟨rfl, rfl⟩ | ⟨rfl, rfl⟩ | ⟨rfl, rfl⟩ | ⟨rfl, rfl⟩ | ⟨rfl, rfl⟩ := hf <;> rw [hk] <;> rfl
  have hop : neCtxOp q d imm (viewFrame (neGet s q).frame s) s (neGet s q) =
      (1, .ok (onLanes (neGet s q) fun l y => lsetI y d.toNat ((ctxField s q (neGet s q) l (imm.toNat % 32)).getD 0)) none) :=
    if_neg (by rw [hc]; exact Bool.false_ne_true)
  refine laneInstr h hop fun l => ?_
  rw [hc]
  exact laneWrites_lsetI_nat ..

theorem winOk_iff (y : Lane) (a b : Nat) :
    winOk y a b = true ↔ 0 ≤ lval y a ∧ lval y a ≤ 4095 ∧ 0 ≤ lval y b ∧ lval y b ≤ 4096 := by
  simp [winOk, and_assoc]

/-- WIN in one lane. -/
theorem winLane_eq (y : Lane) (a b : Nat) :
    (if winOk y a b then { y with wbase := (lval y a).toNat, wlen := (lval y b).toNat } else { y with wbase := 0, wlen := 0 } : Lane) =
      if 0 ≤ lval y a ∧ lval y a ≤ 4095 ∧ 0 ≤ lval y b ∧ lval y b ≤ 4096 then
        { y with wbase := (lval y a).toNat, wlen := (lval y b).toNat } else { y with wbase := 0, wlen := 0 } :=
  if_congr (winOk_iff y a b) rfl rfl

/-- An act on lanes that also writes counters of the engine. -/
theorem neInstr_lanes {q : Nat} {s : State} {c : Nat} (h : NeRoom q s c) {op : State → State → Ne → Nat × NeRes}
    {f : Nat → Lane → Lane} {g : Ne → Ne} (hg : ∀ x, (g x).lanes = x.lanes) (hr : ∀ x, (g x).run = x.run)
    (hop : op (viewFrame (neGet s q).frame s) s (neGet s q) = (c, .ok (g (onLanes (neGet s q) f)) none)) :
    NeWent q s (neInstr q op s) c (nePcNext q s) ∧
      neGet (neInstr q op s) q = { g (onLanes (neGet s q) f) with cyc := (neGet s q).cyc + c, pc := nePcNext q s } ∧
      ∀ l, l < 8 → lnGet (neGet (neInstr q op s) q) l =
        if bget (neGet s q).mask l then f l (lnGet (neGet s q) l) else lnGet (neGet s q) l := by
  rw [neInstr_next h hop, neGet_neAt]
  refine ⟨neAt_went (by rw [hr, onLanes_lanes]; exact h.1) .., rfl, fun l hl => ?_⟩
  rw [← lnGet_onLanes _ _ hl]
  exact congrArg (fun m => mget ({} : Lane) m l) (hg _)

theorem neBin_writes {q : Nat} {s : State} (h : NeRoom q s 3) (d a : BitVec 4) (imm : BitVec 14) :
    NeWent q s (neInstr q (neBinOp q d a imm) s) 3 (nePcNext q s) ∧
      NeLanes q s (neInstr q (neBinOp q d a imm) s) fun l y => LaneWrites d.toNat (BitVec.ofNat 32
        (if imm.toNat % 2 = 1 then neRaw s q l y (lval y a.toNat) else neU s q l y (lval y a.toNat))) y :=
  laneInstr h rfl fun _ => laneWrites_lsetI_nat ..

theorem neWin_writes {q : Nat} {s : State} (h : NeRoom q s 1) (a b : BitVec 4) :
    let u := neInstr q (neWinOp a b) s
    NeWent q s u 1 (nePcNext q s) ∧
    (∀ l, l < 8 → lnGet (neGet u q) l = if bget (neGet s q).mask l then
        (if 0 ≤ lval (lnGet (neGet s q) l) a.toNat ∧ lval (lnGet (neGet s q) l) a.toNat ≤ 4095 ∧
          0 ≤ lval (lnGet (neGet s q) l) b.toNat ∧ lval (lnGet (neGet s q) l) b.toNat ≤ 4096 then
          { lnGet (neGet s q) l with
              wbase := (lval (lnGet (neGet s q) l) a.toNat).toNat, wlen := (lval (lnGet (neGet s q) l) b.toNat).toNat }
        else { lnGet (neGet s q) l with wbase := 0, wlen := 0 })
      else lnGet (neGet s q) l) ∧
    neGet u q = { neGet s q with
      lanes := (neGet u q).lanes, cyc := (neGet u q).cyc, pc := (neGet u q).pc
      winerr := satAdd 8 (neGet s q).winerr (((List.range 8).filter fun l => bget (neGet s q).mask l &&
        !winOk (lnGet (neGet s q) l) a.toNat b.toNat).length) } := by
  obtain ⟨hw, hg, hl⟩ := neInstr_lanes h (op := neWinOp a b) (f := fun _ y => if winOk y a.toNat b.toNat then
      { y with wbase := (lval y a.toNat).toNat, wlen := (lval y b.toNat).toNat } else { y with wbase := 0, wlen := 0 })
    (g := fun x => { x with winerr := satAdd 8 x.winerr (((List.range 8).filter fun l => bget (neGet s q).mask l &&
      !winOk (lnGet (neGet s q) l) a.toNat b.toNat).length) }) (fun _ => rfl) (fun _ => rfl) rfl
  refine ⟨hw, fun l hl8 => ?_, ?_⟩
  · rw [hl l hl8, winLane_eq]
  · rw [hg, onLanes_lanes]

/-! ### Backgrounds -/

/-- Modes 0 and 2 of BGS: the mean and the minimum of the window's raw counts (R199). -/
theorem bgOf_spec (s : State) (q l : Nat) (y : Lane) (mode : Nat) :
    (mode = 0 → 0 < y.wlen →
      bgOf s q (neGet s q) l y mode = ((List.range y.wlen).map fun (i : Nat) => neRaw s q l y i).sum / y.wlen) ∧
    (mode = 2 → 0 < y.wlen → (∀ i : Nat, i < y.wlen → bgOf s q (neGet s q) l y mode ≤ neRaw s q l y i) ∧
      ∃ i : Nat, i < y.wlen ∧ bgOf s q (neGet s q) l y mode = neRaw s q l y i) ∧
    (y.wlen = 0 → bgOf s q (neGet s q) l y mode = 0) := by
  refine ⟨?_, ?_, fun h0 => if_pos h0⟩
  · rintro rfl h
    exact (if_neg h.ne').trans (if_pos rfl)
  · rintro rfl h
    have he : bgOf s q (neGet s q) l y 2 = (((List.range y.wlen).map fun (i : Nat) => neRaw s q l y i).min?).getD 0 := if_neg h.ne'
    cases hm : ((List.range y.wlen).map fun (i : Nat) => neRaw s q l y i).min? with
    | none =>
      rw [List.min?_eq_none_iff, List.map_eq_nil_iff, List.range_eq_nil] at hm
      omega
    | some m =>
      rw [he, hm, Option.getD_some]
      obtain ⟨hmem, hle⟩ := List.min?_eq_some_iff.1 hm
      obtain ⟨i, hi, rfl⟩ := List.mem_map.1 hmem
      exact ⟨fun k hk => hle _ (List.mem_map_of_mem (List.mem_range.2 hk)), i, List.mem_range.1 hi, rfl⟩

theorem neBgs_writes {q : Nat} {s : State} {W : Nat} (hW : W = maxLane (neGet s q) (·.wlen)) (h0 : 0 < W)
    (h : NeRoom q s (4 + (W + 7) / 8)) (d : BitVec 4) {imm : BitVec 14} (hm : imm.toNat % 4 = 0 ∨ imm.toNat % 4 = 2) :
    NeWent q s (neInstr q (neBgsOp q d imm) s) (4 + (W + 7) / 8) (nePcNext q s) ∧
      NeLanes q s (neInstr q (neBgsOp q d imm) s) fun l y z => lreg z d.toNat = BitVec.ofNat 32 z.bg ∧
        (∀ j, j ≠ d.toNat → lreg z j = lreg y j) ∧ z = { y with r := z.r, bg := z.bg } ∧
        (imm.toNat % 4 = 0 → 0 < y.wlen → z.bg = ((List.range y.wlen).map fun (i : Nat) => neRaw s q l y i).sum / y.wlen) ∧
        (imm.toNat % 4 = 2 → 0 < y.wlen → (∀ i : Nat, i < y.wlen → z.bg ≤ neRaw s q l y i) ∧
          ∃ i : Nat, i < y.wlen ∧ z.bg = neRaw s q l y i) ∧
        (y.wlen = 0 → z.bg = 0) := by
  have hop : neBgsOp q d imm (viewFrame (neGet s q).frame s) s (neGet s q) =
      (4 + (W + 7) / 8, .ok (onLanes (neGet s q) fun l y =>
        let b := bgOf s q (neGet s q) l y (imm.toNat % 4); { lsetI y d.toNat b with bg := b }) none) := by
    unfold neBgsOp
    dsimp only
    rw [← hW, if_neg (by omega : ¬ imm.toNat % 4 = 3), if_neg (by omega : ¬ imm.toNat % 4 = 1), if_neg h0.ne']
    rfl
  refine laneInstr h hop fun l => ?_
  obtain ⟨hw, hk, _⟩ := laneWrites_lsetI_nat (lnGet (neGet s q) l) d.toNat
    (bgOf s q (neGet s q) l (lnGet (neGet s q) l) (imm.toNat % 4))
  exact ⟨hw, hk, rfl, bgOf_spec s q l (lnGet (neGet s q) l) (imm.toNat % 4)⟩

/-! ### Scans -/

theorem foldl_max_le (p : Nat → Bool) (g : Nat → Nat) {B : Nat} (ls : List Nat) (hg : ∀ l ∈ ls, g l ≤ B) {m : Nat} (hm : m ≤ B) :
    ls.foldl (fun m l => if p l then max m (g l) else m) m ≤ B := by
  induction ls generalizing m with
  | nil => exact hm
  | cons l ls ih =>
    refine ih (fun k hk => hg k (List.mem_cons_of_mem _ hk)) ?_
    have := hg l List.mem_cons_self
    dsimp only
    split <;> omega

/-- A scan costs 2 cycles and one for every eight bins examined (R200). -/
theorem scanCost_bound (x : Ne) (f : Nat → Lane → Nat) {B : Nat} (hf : ∀ l, l < 8 → f l (lnGet x l) ≤ B) :
    2 ≤ scanCost x f ∧ scanCost x f ≤ 2 + (B + 7) / 8 := by
  have h := foldl_max_le (fun l => bget x.mask l) (fun l => f l (lnGet x l)) (List.range 8)
    (fun l hl => hf l (List.mem_range.1 hl)) B.zero_le
  unfold scanCost ceilDiv
  omega

/-- A scan whose cycles fit. -/
theorem scanInstr {q : Nat} {s : State} {C : Nat} (h : NeRoom q s C) {op : State → State → Ne → Nat × NeRes} {cf : Nat → Lane → Nat}
    {f : Nat → Lane → Lane} {R : Nat → Lane → Lane → Prop} {B : Nat} (hf : ∀ l, l < 8 → cf l (lnGet (neGet s q) l) ≤ B)
    (hB : 2 + (B + 7) / 8 ≤ C)
    (hop : op (viewFrame (neGet s q).frame s) s (neGet s q) = (scanCost (neGet s q) cf, .ok (onLanes (neGet s q) f) none))
    (hR : ∀ l, R l (lnGet (neGet s q) l) (f l (lnGet (neGet s q) l))) :
    (∃ c, 2 ≤ c ∧ c ≤ 2 + (B + 7) / 8 ∧ NeWent q s (neInstr q op s) c (nePcNext q s)) ∧ NeLanes q s (neInstr q op s) R := by
  obtain ⟨h2, hc⟩ := scanCost_bound (neGet s q) cf hf
  obtain ⟨hw, hl⟩ := laneInstr (h.mono (hc.trans hB)) hop hR
  exact ⟨⟨_, h2, hc, hw⟩, hl⟩

theorem range_drop (n k : Nat) : (List.range n).drop k = List.range' k (n - k) := by
  rw [List.range_eq_range', List.drop_range', Nat.zero_add, Nat.mul_one]

theorem peakOf_examined (s : State) (q : Nat) (x : Ne) (l : Nat) (y : Lane) (a b : Nat) : (peakOf s q x l y a b).2 ≤ y.wlen := by
  unfold peakOf
  dsimp only
  split
  · exact (Nat.sub_le ..).trans (Nat.min_le_right ..)
  · exact Nat.sub_le ..

/-- The first peak at or after La in the window, or none. -/
theorem peakOf_spec (s : State) (q l : Nat) (y : Lane) (a b : Nat) :
    (∃ p : Nat, (peakOf s q (neGet s q) l y a b).1 = some p ∧ max (lval y a) 0 ≤ p ∧ p < y.wlen ∧ isPeak s q l y (lval y b) p ∧
      ∀ k : Nat, max (lval y a) 0 ≤ k → k < p → ¬isPeak s q l y (lval y b) k) ∨
    ((peakOf s q (neGet s q) l y a b).1 = none ∧ ∀ k : Nat, max (lval y a) 0 ≤ k → k < y.wlen → ¬isPeak s q l y (lval y b) k) := by
  have hpk (p : Nat) : (decide (lval y b ≤ uAt s q (neGet s q) l y p) && decide (uAt s q (neGet s q) l y (p - 1) ≤ uAt s q (neGet s q) l y p) &&
      decide (uAt s q (neGet s q) l y (p + 1) < uAt s q (neGet s q) l y p)) = true ↔ isPeak s q l y (lval y b) p := by
    rw [Bool.and_eq_true, Bool.and_eq_true, decide_eq_true_iff, decide_eq_true_iff, decide_eq_true_iff, and_assoc]
    rfl
  unfold peakOf
  dsimp only
  rw [range_drop]
  split
  case h_1 p hp =>
    obtain ⟨hpeak, hmem, hfirst⟩ := List.find?_range'_eq_some.1 hp
    obtain ⟨hlo, hhi⟩ := List.mem_range'_1.1 hmem
    refine .inl ⟨p, rfl, by omega, by omega, (hpk p).1 hpeak, fun k hk hkp hk' => ?_⟩
    have := hfirst k (by omega) hkp
    rw [(hpk k).2 hk'] at this
    exact Bool.false_ne_true this
  case h_2 hp =>
    refine .inr ⟨rfl, fun k hk hkp hk' => ?_⟩
    have := List.find?_range'_eq_none.1 hp k (by omega) (by omega)
    rw [(hpk k).2 hk'] at this
    exact Bool.false_ne_true this

theorem mem_spanOf (y : Lane) (lo hi : Int) (p : Nat) : p ∈ spanOf y lo hi ↔ lo ≤ p ∧ p ≤ hi ∧ p < y.wlen := by
  unfold spanOf
  simp only [List.mem_map, List.mem_range]
  constructor
  · rintro ⟨i, hi, rfl⟩
    omega
  · rintro ⟨h1, h2, h3⟩
    exact ⟨p - (max lo 0).toNat, by omega, by omega⟩

theorem spanOf_length (y : Lane) (lo hi : Int) : (spanOf y lo hi).length ≤ y.wlen := by
  unfold spanOf
  rw [List.length_map, List.length_range]
  omega

/-! ### PEAK, VMIN, CENT and FWID -/

section Scan

variable {q : Nat} {s : State} {W C : Nat} (hw : ∀ l, l < 8 → (lnGet (neGet s q) l).wlen ≤ W) (h : NeRoom q s C)

include hw h

theorem nePeak_finds (hC : 2 + (W + 7) / 8 ≤ C) {d : BitVec 4} (hd : d.toNat % 2 = 0) (a b : BitVec 4) :
    let u := neInstr q (nePeakOp q d a b) s
    (∃ c, 2 ≤ c ∧ c ≤ 2 + (W + 7) / 8 ∧ NeWent q s u c (nePcNext q s)) ∧ NeLanes q s u fun l y z =>
      (∃ p : Nat, max (lval y a.toNat) 0 ≤ p ∧ p < y.wlen ∧ isPeak s q l y (lval y b.toNat) p ∧
        (∀ k : Nat, max (lval y a.toNat) 0 ≤ k → k < p → ¬isPeak s q l y (lval y b.toNat) k) ∧
        LaneWrites2 d.toNat p (neU s q l y p) y z) ∨
      ((∀ k : Nat, max (lval y a.toNat) 0 ≤ k → k < y.wlen → ¬isPeak s q l y (lval y b.toNat) k) ∧
        LaneWrites2 d.toNat (-1) 0 y z) := by
  have hp : ¬ (!pairReg d) = true := by simp [pairReg, hd]
  refine scanInstr h (fun l hl => (peakOf_examined ..).trans (hw l hl)) hC (if_neg hp) fun l => ?_
  obtain ⟨p, he, hlo, hhi, hpk, hfirst⟩ | ⟨he, hno⟩ := peakOf_spec s q l (lnGet (neGet s q) l) a.toNat b.toNat
  · rw [he]
    exact .inl ⟨p, hlo, hhi, hpk, hfirst, laneWrites2_lsetI ..⟩
  · rw [he]
    exact .inr ⟨hno, laneWrites2_lsetI ..⟩

theorem neVmin_finds (hC : 2 + (W + 7) / 8 ≤ C) (d a b : BitVec 4) :
    let u := neInstr q (neVminOp q d a b) s
    (∃ c, 2 ≤ c ∧ c ≤ 2 + (W + 7) / 8 ∧ NeWent q s u c (nePcNext q s)) ∧ NeLanes q s u fun l y z =>
      (∃ p : Nat, lval y a.toNat ≤ p ∧ p ≤ lval y b.toNat ∧ p < y.wlen ∧
        (∀ k : Nat, lval y a.toNat ≤ k → k ≤ lval y b.toNat → k < y.wlen → neU s q l y p ≤ neU s q l y k) ∧
        LaneWrites d.toNat (BitVec.ofNat 32 (neU s q l y p)) y z) ∨
      ((∀ k : Nat, lval y a.toNat ≤ k → k ≤ lval y b.toNat → y.wlen ≤ k) ∧ LaneWrites d.toNat (-1) y z) := by
  refine scanInstr h (fun l hl => (spanOf_length ..).trans (hw l hl)) hC rfl fun l => ?_
  split
  case h_1 m hm =>
    obtain ⟨hmem, hle⟩ := List.min?_eq_some_iff.1 hm
    obtain ⟨p, hp, rfl⟩ := List.mem_map.1 hmem
    obtain ⟨h1, h2, h3⟩ := (mem_spanOf ..).1 hp
    exact .inl ⟨p, h1, h2, h3, fun k hk1 hk2 hk3 => hle _ (List.mem_map_of_mem ((mem_spanOf ..).2 ⟨hk1, hk2, hk3⟩)),
      laneWrites_lsetI_nat ..⟩
  case h_2 hm =>
    rw [List.min?_eq_none_iff, List.map_eq_nil_iff] at hm
    refine .inr ⟨fun k hk1 hk2 => Nat.not_lt.1 fun hk3 => ?_, laneWrites_lsetI ..⟩
    exact List.not_mem_nil (hm ▸ (mem_spanOf (lnGet (neGet s q) l) _ _ k).2 ⟨hk1, hk2, hk3⟩)

end Scan

/-- A quotient rounded to nearest lies within half the divisor. -/
theorem roundDiv_near (a : Int) {b : Int} (hb : 0 < b) : 2 * (roundDiv a b * b - a) ≤ b ∧ 2 * (a - roundDiv a b * b) ≤ b := by
  unfold roundDiv
  have h1 := Int.mul_ediv_self_le (x := 2 * a + b) (k := 2 * b) (by omega)
  have h2 := Int.lt_mul_ediv_self_add (x := 2 * a + b) (k := 2 * b) (by omega)
  generalize (2 * a + b) / (2 * b) = v at h1 h2
  have he : 2 * b * v = 2 * (v * b) := by ring
  omega

/-- What CENT leaves of a lane whose position lies in the window. -/
theorem centLane_spec (s : State) (q d a r l : Nat) (y : Lane) {ps : List Nat} (hp : ¬ (lval y a < 0 ∨ (y.wlen : Int) ≤ lval y a))
    (hps : ps = spanOf y (lval y a - r) (lval y a + r)) {S T : Nat} (hS : S = (ps.map fun (i : Nat) => neU s q l y i).sum)
    (hT : T = (ps.map fun (i : Nat) => neU s q l y i * i).sum) :
    let z := centLane s q (neGet s q) d a r l y
    (∃ v : Int, (if S = 0 then v = 256 * lval y a else 2 * (v * S - 256 * T) ≤ S ∧ 2 * (256 * T - v * S) ≤ S) ∧
      lreg z d = BitVec.ofInt 32 v) ∧
    lreg z (d + 1) = BitVec.ofNat 32 (min S 2147483647) ∧ (∀ j, j ≠ d → j ≠ d + 1 → lreg z j = lreg y j) ∧
    z = { y with
      r := z.r
      e := { y.e with
        edge := y.e.edge || decide (ps.length < 2 * r + 1)
        ovt := y.e.ovt || ps.any fun (i : Nat) => neRaw s q l y i == 65535 } } := by
  subst hps hS hT
  unfold centLane
  dsimp only
  rw [if_neg hp]
  by_cases h0 : ((spanOf y (lval y a - r) (lval y a + r)).map fun (i : Nat) => uAt s q (neGet s q) l y i).sum = 0
  · rw [if_pos h0]
    obtain ⟨hv, hw, hk, _⟩ := laneWrites2_lsetI y d (256 * lval y a) 0
    exact ⟨⟨_, (if_pos h0).symm ▸ rfl, hv⟩, hw.trans (congrArg (fun n => BitVec.ofNat 32 (min n 2147483647)) h0).symm, hk, rfl⟩
  · rw [if_neg h0]
    obtain ⟨hv, hw, hk, _⟩ := laneWrites2_lsetI y d
      (roundDiv (256 * ((spanOf y (lval y a - r) (lval y a + r)).map fun (i : Nat) => uAt s q (neGet s q) l y i * i).sum : Nat)
        ((spanOf y (lval y a - r) (lval y a + r)).map fun (i : Nat) => uAt s q (neGet s q) l y i).sum)
      (min ((spanOf y (lval y a - r) (lval y a + r)).map fun (i : Nat) => uAt s q (neGet s q) l y i).sum 2147483647 : Nat)
    refine ⟨⟨_, (if_neg h0).symm ▸ ?_, hv⟩, hw.trans (BitVec.ofInt_natCast ..), hk, rfl⟩
    have hn := roundDiv_near
      (256 * ((spanOf y (lval y a - r) (lval y a + r)).map fun (i : Nat) => uAt s q (neGet s q) l y i * i).sum : Nat)
      (Int.natCast_pos.2 (Nat.pos_of_ne_zero h0))
    rwa [Nat.cast_mul] at hn

theorem neCent_writes {q : Nat} {s : State} (h : NeRoom q s 6) {d : BitVec 4} (hd : d.toNat % 2 = 0) (a : BitVec 4) {imm : BitVec 14}
    (hi : imm.toNat % 8 ≠ 0) :
    let u := neInstr q (neCentOp q d a imm) s
    NeWent q s u 6 (nePcNext q s) ∧ NeLanes q s u fun l y z =>
      if lval y a.toNat < 0 ∨ (y.wlen : Int) ≤ lval y a.toNat then LaneWrites2 d.toNat (-1) 0 y z
      else ∀ ps, ps = spanOf y (lval y a.toNat - (imm.toNat % 8 : Nat)) (lval y a.toNat + (imm.toNat % 8 : Nat)) →
        ∀ S T, S = (ps.map fun (i : Nat) => neU s q l y i).sum → T = (ps.map fun (i : Nat) => neU s q l y i * i).sum →
        (∃ v : Int, (if S = 0 then v = 256 * lval y a.toNat else 2 * (v * S - 256 * T) ≤ S ∧ 2 * (256 * T - v * S) ≤ S) ∧
          lreg z d.toNat = BitVec.ofInt 32 v) ∧
        lreg z (d.toNat + 1) = BitVec.ofNat 32 (min S 2147483647) ∧
        (∀ j, j ≠ d.toNat → j ≠ d.toNat + 1 → lreg z j = lreg y j) ∧
        z = { y with
          r := z.r
          e := { y.e with
            edge := y.e.edge || decide (ps.length < 2 * (imm.toNat % 8) + 1)
            ovt := y.e.ovt || ps.any fun (i : Nat) => neRaw s q l y i == 65535 } } := by
  have hp : ¬ (!pairReg d) = true := by simp [pairReg, hd]
  refine laneInstr h ((if_neg hp).trans (if_neg hi)) fun l => ?_
  by_cases hout : lval (lnGet (neGet s q) l) a.toNat < 0 ∨ ((lnGet (neGet s q) l).wlen : Int) ≤ lval (lnGet (neGet s q) l) a.toNat
  · rw [if_pos hout, centLane, if_pos hout]
    exact laneWrites2_lsetI ..
  · rw [if_neg hout]
    exact fun _ hps _ _ hS hT => centLane_spec s q _ _ _ l _ hout hps hS hT

/-! ### FWID -/

/-- One side of FWID: at most 32 bins are examined, and the distance is at most 520 sixteenths. -/
theorem fwidSide_bound (u : Nat → Nat) {m : Nat} (hm : m ≤ 32) :
    (fwidSide u m).1 ≤ 32 ∧ 0 < (fwidSide u m).2.1.2 ∧ (fwidSide u m).2.1.1 ≤ 520 * (fwidSide u m).2.1.2 := by
  unfold fwidSide
  dsimp only
  split
  case h_1 j hj =>
    obtain ⟨hlow, hmem, hfirst⟩ := List.find?_range_eq_some.1 hj
    have hlow : 2 * u (j + 1) < u 0 := of_decide_eq_true hlow
    have hjm := List.mem_range.1 hmem
    have hhigh : u 0 ≤ 2 * u j := by
      cases j with
      | zero => omega
      | succ k =>
        have := hfirst k (Nat.lt_succ_self k)
        simpa using this
    have hd : 32 * j * (u j - u (j + 1)) ≤ 32 * 31 * (u j - u (j + 1)) := Nat.mul_le_mul_right _ (by omega)
    refine ⟨?_, ?_, ?_⟩ <;> dsimp only <;> omega
  case h_2 => exact ⟨hm, Nat.one_pos, by dsimp only; omega⟩

/-- The width of FWID and what it examines. -/
theorem fwidOf_bound (s : State) (q : Nat) (x : Ne) (a l : Nat) (y : Lane) :
    (fwidOf s q x a l y).1 ≤ 65 ∧ 0 < (fwidOf s q x a l y).2.1.2 ∧ (fwidOf s q x a l y).2.1.1 ≤ 1040 * (fwidOf s q x a l y).2.1.2 := by
  unfold fwidOf
  extract_lets p lo hi
  split
  · exact ⟨Nat.zero_le _, Nat.one_pos, Nat.zero_le _⟩
  split
  · exact ⟨by dsimp only; omega, Nat.one_pos, Nat.zero_le _⟩
  obtain ⟨hl1, hl2, hl3⟩ := fwidSide_bound (fun j => uAt s q x l y (p - j)) (m := min 32 p.toNat) (Nat.min_le_left ..)
  obtain ⟨hh1, hh2, hh3⟩ := fwidSide_bound (fun j => uAt s q x l y (p + j)) (m := min 32 (y.wlen - 1 - p.toNat)) (Nat.min_le_left ..)
  have hl1' : lo.1 ≤ 32 := hl1
  have hh1' : hi.1 ≤ 32 := hh1
  refine ⟨show lo.1 + hi.1 + 1 ≤ 65 by omega, Nat.mul_pos hl2 hh2, ?_⟩
  calc lo.2.1.1 * hi.2.1.2 + hi.2.1.1 * lo.2.1.2
      ≤ 520 * lo.2.1.2 * hi.2.1.2 + 520 * hi.2.1.2 * lo.2.1.2 := Nat.add_le_add (Nat.mul_le_mul_right _ hl3) (Nat.mul_le_mul_right _ hh3)
    _ = 1040 * (lo.2.1.2 * hi.2.1.2) := by ring

/-- A fraction rounded down, or up where it is inexact. -/
theorem rounded_le {n d B : Nat} (hn : n ≤ B * d) (e : Prop) [Decidable e] :
    n / d + (if n % d ≠ 0 ∧ e then 1 else 0) ≤ B := by
  have hq : n / d ≤ B := Nat.div_le_of_le_mul (by rwa [Nat.mul_comm])
  split
  case isFalse => exact hq
  case isTrue hr =>
    refine Nat.lt_of_le_of_ne hq fun he => hr.1 ?_
    have hm := Nat.div_add_mod n d
    rw [he, Nat.mul_comm] at hm
    omega

theorem viewFrame_drawn (f : BitVec 32) (s : State) : viewFrame f (drawn s) = drawn (viewFrame f s) := by
  unfold viewFrame
  rw [drawn_pw]
  split <;> rfl

/-- A draw of a free value changes neither budget nor program. -/
theorem neRoom_drawn {q : Nat} {s : State} {c : Nat} (h : NeRoom q s c) : NeRoom q (drawn s) c := by
  unfold NeRoom
  rw [viewFrame_drawn]
  exact h

theorem neLanes_drawn {q : Nat} {s u : State} {R : Nat → Lane → Lane → Prop} (h : NeLanes q (drawn s) u R) : NeLanes q s u R := h

/-- What FWID leaves of lane `l` (R202). -/
def FwidLane (q : Nat) (s : State) (d a l : Nat) (y z : Lane) : Prop :=
  ∃ w, w ≤ 1040 ∧ LaneWrites d (BitVec.ofNat 32 w) y { z with e := y.e } ∧ z.e = { y.e with edge := z.e.edge } ∧
    (y.e.edge = true → z.e.edge = true) ∧ (lval y a < 0 ∨ (y.wlen : Int) ≤ lval y a ∨ neU s q l y (lval y a) = 0 → w = 0)

theorem fwidOf_zero {s : State} {q : Nat} {x : Ne} {a l : Nat} {y : Lane}
    (h : lval y a < 0 ∨ (y.wlen : Int) ≤ lval y a ∨ uAt s q x l y (lval y a) = 0) : (fwidOf s q x a l y).2.1 = (0, 1) := by
  unfold fwidOf
  dsimp only
  by_cases hout : lval y a < 0 ∨ (y.wlen : Int) ≤ lval y a
  · rw [if_pos hout]
  · rw [if_neg hout, if_pos ((or_assoc.2 h).resolve_left hout)]

theorem neFwid_lane (q : Nat) (s : State) (d a f l : Nat) (y : Lane) :
    let r := fwidOf s q (neGet s q) a l y
    let w := r.2.1.1 / r.2.1.2 + (if r.2.1.1 % r.2.1.2 ≠ 0 ∧ bitAt f l = true then 1 else 0)
    FwidLane q s d a l y { lsetI y d w with e := { y.e with edge := y.e.edge || r.2.2 } } := by
  intro r w
  obtain ⟨_, _, hn⟩ := fwidOf_bound s q (neGet s q) a l y
  refine ⟨w, rounded_le hn _, laneWrites_lsetI_nat .., rfl, fun he => by dsimp only; rw [he]; rfl, fun hz => ?_⟩
  have h0 : r.2.1 = (0, 1) := fwidOf_zero hz
  simp [w, h0]

theorem neFwid_writes {q : Nat} {s : State} (h : NeRoom q s 11) (d a : BitVec 4) :
    (∃ c, 2 ≤ c ∧ c ≤ 11 ∧ NeWent q (drawn s) (neFwid q d a s) c (nePcNext q s)) ∧
    NeLanes q s (neFwid q d a s) (FwidLane q s d.toNat a.toNat) := by
  have hu : neFwid q d a s = neInstr q (neFwidOp q d a (freeNow s)) (drawn s) := if_pos h.1
  rw [hu]
  obtain ⟨hc, hl⟩ := scanInstr (op := neFwidOp q d a (freeNow s)) (B := 65) (R := FwidLane q (drawn s) d.toNat a.toNat) (neRoom_drawn h)
    (fun l _ => (fwidOf_bound ..).1) (by omega) rfl fun l => neFwid_lane q (drawn s) d.toNat a.toNat (freeNow s) l _
  exact ⟨hc, neLanes_drawn hl⟩

/-- Settles O29: it holds. -/
theorem neBinAndScan : Obligations.NeBinAndScan := by
  unfold Obligations.NeBinAndScan
  refine ⟨fun q s d a b imm => ⟨fun h k f hk hf => ⟨_, rfl, neCtx_writes h d imm hk hf⟩, fun h => ⟨_, rfl, neWin_writes h a b⟩,
    fun h => ⟨_, rfl, neBin_writes h d a imm⟩, fun W hW h0 h hm => ⟨_, rfl, neBgs_writes hW h0 h d hm⟩,
    fun h => ⟨_, rfl, laneInstr h rfl fun _ => rfl⟩⟩, fun q s d a b imm W hw h => ⟨fun hd => ⟨_, rfl, ?_⟩, ⟨_, rfl, ?_⟩, fun hd hi => ⟨_, rfl, ?_⟩, ⟨_, rfl, ?_⟩⟩⟩
  · exact nePeak_finds hw h (Nat.le_max_left ..) hd a b
  · exact neVmin_finds hw h (Nat.le_max_left ..) d a b
  · exact neCent_writes (h.mono (by omega)) hd a hi
  · exact neFwid_writes (h.mono (Nat.le_max_right ..)) d a

end Sys2Proof.Machine
end

section
/-! PROOF. O30: echoes, END, cuts and faults of the note engines. The echo instructions are acts on lanes. END, a cut and a fault deliver
channel-points, which leaves the engines and the configuration; then the step ends or the next group starts. -/

namespace Sys2Proof.Machine

-- One after another the proofs need less memory than all at once.
set_option Elab.async false

/-! ### The echo under construction -/

/-- Where ERNG places the range of a lane, and the pass of its bin (R203, Table 7.2). -/
def ErngLane (q : Nat) (s : State) (a l : Nat) (y z : Lane) : Prop :=
  ∀ c v x, c = ctxGet s (neGet s q).buf (laneCh q (neGet s q) l) → v = viewFrame (neGet s q).frame s →
    x = (max (lval y a) 0).toNat →
    z.j0 = (y.wbase + x / 256) % 4096 ∧ z = { y with j0 := z.j0, e := { y.e with range := z.e.range, pass := z.e.pass } } ∧
    z.e.range ≤ 524287 ∧
    (c.mode = 2 → z.e.pass = 3 ∧
      z.e.range = rangeMm (256 * (origin v (laneCh q (neGet s q) l / 12) + 32 * z.j0) + (x % 256 + 128) * 32)) ∧
    (c.mode = 1 → z.j0 < 512 → z.e.pass = 1 ∧
      z.e.range = rangeMm (256 * (origin v (laneCh q (neGet s q) l / 12) + 256 * z.j0) + (x % 256 + 128) * 256)) ∧
    (c.mode = 1 → 512 ≤ z.j0 → z.j0 < 1024 → (z.j0 - 512) / 64 < c.wins.length → z.e.pass = 2) ∧
    (c.mode = 1 → 1024 ≤ z.j0 ∨ (512 ≤ z.j0 ∧ c.wins.length ≤ (z.j0 - 512) / 64) → z.e.pass = 0 ∧ z.e.range = 0)

theorem rangeMm_le (t : Nat) : rangeMm t ≤ 524287 := by
  unfold rangeMm clampI
  omega

/-- ERNG in one lane, for the bin's place `b`. -/
def erngLane (j p : Nat) (b : Option (Nat × Nat × Nat)) (y : Lane) : Lane :=
  match b with
  | some b => { y with j0 := j, e := { y.e with range := rangeMm (256 * b.1 + (p % 256 + 128) * b.2.1), pass := b.2.2 } }
  | none => { y with j0 := j, e := { y.e with range := 0, pass := 0 } }

section Place

variable {v s : State} {q l j : Nat} {x : Ne}

theorem binPlace_precise (hm : (ctxGet s x.buf (laneCh q x l)).mode = 2) :
    binPlace v s q x l j = some (origin v (laneCh q x l / 12) + 32 * j, 32, 3) := if_pos hm

theorem binPlace_coarse (hm : (ctxGet s x.buf (laneCh q x l)).mode = 1) (hj : j < 512) :
    binPlace v s q x l j = some (origin v (laneCh q x l / 12) + 256 * j, 256, 1) :=
  (if_neg (by omega)).trans ((if_pos hm).trans (if_pos hj))

theorem binPlace_fine (hm : (ctxGet s x.buf (laneCh q x l)).mode = 1) (h1 : 512 ≤ j) (h2 : j < 1024) :
    binPlace v s q x l j = ((ctxGet s x.buf (laneCh q x l)).wins[(j - 512) / 64]?).map fun w => (w.1 + 16 * ((j - 512) % 64), 16, 2) :=
  (if_neg (by omega)).trans ((if_pos hm).trans ((if_neg (by omega)).trans (if_pos h2)))

theorem binPlace_beyond (hm : (ctxGet s x.buf (laneCh q x l)).mode = 1) (hj : 1024 ≤ j) : binPlace v s q x l j = none :=
  (if_neg (by omega)).trans ((if_pos hm).trans ((if_neg (by omega)).trans (if_neg (by omega))))

end Place

theorem erngLane_spec (q : Nat) (s : State) (a l : Nat) (y : Lane) :
    let p := (max (lval y a) 0).toNat
    let j := (y.wbase + p / 256) % 4096
    ErngLane q s a l y (erngLane j p (binPlace (viewFrame (neGet s q).frame s) s q (neGet s q) l j) y) := by
  intro p j c v x hc hv hx
  subst hc hv hx
  have hj (b : Option (Nat × Nat × Nat)) : (erngLane j p b y).j0 = j := by cases b <;> rfl
  have hsome (b : Nat × Nat × Nat) : (erngLane j p (some b) y).e.pass = b.2.2 ∧
      (erngLane j p (some b) y).e.range = rangeMm (256 * b.1 + (p % 256 + 128) * b.2.1) := ⟨rfl, rfl⟩
  have hnone : (erngLane j p none y).e.pass = 0 ∧ (erngLane j p none y).e.range = 0 := ⟨rfl, rfl⟩
  rw [hj]
  refine ⟨rfl, ?_, ?_, fun hm => ?_, fun hm h1 => ?_, fun hm h1 h2 hw => ?_, fun hm hw => ?_⟩
  · cases binPlace (viewFrame (neGet s q).frame s) s q (neGet s q) l j <;> rfl
  · cases binPlace (viewFrame (neGet s q).frame s) s q (neGet s q) l j with
    | none => exact Nat.zero_le _
    | some b => exact rangeMm_le _
  · rw [binPlace_precise hm]
    exact hsome _
  · rw [binPlace_coarse hm h1]
    exact hsome _
  · rw [binPlace_fine hm h1 h2, List.getElem?_eq_getElem hw]
    exact (hsome _).1
  · by_cases h2 : 1024 ≤ j
    · rw [binPlace_beyond hm h2]
      exact hnone
    · obtain ⟨h1, hw⟩ := hw.resolve_left h2
      rw [binPlace_fine hm h1 (by omega), List.getElem?_eq_none hw]
      exact hnone

theorem neErng_writes {q : Nat} {s : State} (h : NeRoom q s 2) (a : BitVec 4) :
    NeWent q s (neInstr q (neErngOp q a) s) 2 (nePcNext q s) ∧
    NeLanes q s (neInstr q (neErngOp q a) s) (ErngLane q s a.toNat) :=
  laneInstr (f := fun l y => erngLane ((y.wbase + (max (lval y a.toNat) 0).toNat / 256) % 4096) (max (lval y a.toNat) 0).toNat
    (binPlace (viewFrame (neGet s q).frame s) s q (neGet s q) l ((y.wbase + (max (lval y a.toNat) 0).toNat / 256) % 4096)) y)
    h rfl fun l => erngLane_spec q s a.toNat l _

/-- What CLS leaves of a lane (R204). -/
def ClsLane (q : Nat) (s : State) (d : Nat) (y z : Lane) : Prop :=
  ∃ r : Bool, LaneWrites d (BitVec.ofNat 32 r.toNat) y { z with e := y.e } ∧ z.e = { y.e with sil := y.e.sil || r } ∧
    ∀ v, v = viewFrame (neGet s q).frame s →
      (r = true → cfgQN v q 0x2500 4 ≠ 0 ∧ y.e.range ≤ cfgQN v q 0x2500 4 ∧ y.e.intensity ≤ cfgQN v q 0x2500 6)

theorem clsHolds_limits {v : State} {q : Nat} {y : Lane} {la : Int} {w : Option Nat} {free : Bool}
    (h : clsHolds v q y la w free = true) :
    cfgQN v q 0x2500 4 ≠ 0 ∧ y.e.range ≤ cfgQN v q 0x2500 4 ∧ y.e.intensity ≤ cfgQN v q 0x2500 6 := by
  unfold clsHolds at h
  simp only [Bool.and_eq_true, bne_iff_ne, decide_eq_true_eq] at h
  exact ⟨h.1.1.1, h.1.1.2, h.2⟩

/-- The lane that CLS leaves, with its outcome `r`. -/
theorem neCls_lane {q : Nat} {s : State} (d : Nat) (y : Lane) (r : Bool)
    (hr : r = true → cfgQN (viewFrame (neGet s q).frame s) q 0x2500 4 ≠ 0 ∧ y.e.range ≤ cfgQN (viewFrame (neGet s q).frame s) q 0x2500 4 ∧
      y.e.intensity ≤ cfgQN (viewFrame (neGet s q).frame s) q 0x2500 6) :
    ClsLane q s d y { lsetI y d r.toNat with e := { y.e with sil := y.e.sil || r } } :=
  ⟨r, laneWrites_lsetI_nat .., rfl, fun _ hv => hv ▸ hr⟩

theorem cfgQN_drawn (s : State) (q i sub : Nat) : cfgQN (drawn s) q i sub = cfgQN s q i sub := by
  rw [cfgQN, cfgQN, cfgQI, cfgQI, drawn_cf]

theorem neCls_writes {q : Nat} {s : State} (h : NeRoom q s 2) (d a : BitVec 4) :
    NeWent q (drawn s) (neCls q d a s) 2 (nePcNext q s) ∧ NeLanes q s (neCls q d a s) fun _ => ClsLane q s d.toNat := by
  have hu : neCls q d a s = neInstr q (neClsOp q d a (freeNow s)) (drawn s) := if_pos h.1
  rw [hu]
  obtain ⟨hc, hl⟩ := laneInstr (op := neClsOp q d a (freeNow s)) (R := fun _ => ClsLane q s d.toNat) (neRoom_drawn h) rfl fun l =>
    neCls_lane d.toNat _ _ fun hr => by
      have hlim := clsHolds_limits hr
      rw [viewFrame_drawn, cfgQN_drawn, cfgQN_drawn] at hlim
      exact hlim
  exact ⟨hc, neLanes_drawn hl⟩

/-! #### EMIT -/

theorem emitLane_append {tol : Nat} {dup : Bool} {y : Lane}
    (h : dup = false ∨ ∀ e ∈ y.slots, ((e.range : Int) - y.e.range).natAbs > tol) :
    (emitLane tol dup y).1 = if y.slots.length < 8 then y.slots ++ [y.e] else y.slots := by
  have hn : (if dup then y.slots.findIdx? fun e => decide ((e.range : Int) - y.e.range ≤ tol) && decide ((y.e.range : Int) - e.range ≤ tol)
      else none) = none := by
    obtain rfl | h := h
    · rfl
    · split
      · refine List.findIdx?_eq_none_iff.2 fun e he => ?_
        have := h e he
        simp only [Bool.and_eq_false_iff, decide_eq_false_iff_not]
        omega
      · rfl
  unfold emitLane
  rw [hn]
  dsimp only
  by_cases h8 : y.slots.length < 8
  · rw [if_neg (by omega), if_pos h8]
  · rw [if_pos (by omega), if_neg h8]

theorem emitLane_replace {tol : Nat} {y : Lane} (h : ∃ e ∈ y.slots, ((e.range : Int) - y.e.range).natAbs ≤ tol) :
    ∃ i, i < y.slots.length ∧ (((y.slots.getD i {}).range : Int) - y.e.range).natAbs ≤ tol ∧
      (emitLane tol true y).1 = if (y.slots.getD i {}).intensity < y.e.intensity then y.slots.set i y.e else y.slots := by
  obtain ⟨e, he, hd⟩ := h
  cases hf : y.slots.findIdx? fun e => decide ((e.range : Int) - y.e.range ≤ tol) && decide ((y.e.range : Int) - e.range ≤ tol) with
  | none =>
    have := List.findIdx?_eq_none_iff.1 hf e he
    simp only [Bool.and_eq_false_iff, decide_eq_false_iff_not] at this
    omega
  | some i =>
    obtain ⟨hi, hp, _⟩ := List.findIdx?_eq_some_iff_getElem.1 hf
    simp only [Bool.and_eq_true, decide_eq_true_eq] at hp
    refine ⟨i, hi, ?_, ?_⟩
    · rw [List.getD_eq_getElem _ _ hi]
      omega
    · unfold emitLane
      rw [if_pos rfl, hf]

/-- What EMIT leaves of an active lane (R205). -/
theorem emitLane_spec (tol : Nat) (imm : BitVec 14) (y : Lane) :
    (imm.toNat % 2 = 0 ∨ (∀ e ∈ y.slots, ((e.range : Int) - y.e.range).natAbs > tol) →
      (emitLane tol (bitAt imm.toNat 0) y).1 = if y.slots.length < 8 then y.slots ++ [y.e] else y.slots) ∧
    (imm.toNat % 2 = 1 → (∃ e ∈ y.slots, ((e.range : Int) - y.e.range).natAbs ≤ tol) →
      ∃ i, i < y.slots.length ∧ (((y.slots.getD i {}).range : Int) - y.e.range).natAbs ≤ tol ∧
        (emitLane tol (bitAt imm.toNat 0) y).1 = if (y.slots.getD i {}).intensity < y.e.intensity then y.slots.set i y.e else y.slots) := by
  refine ⟨fun h => emitLane_append (h.imp_left fun h => ?_), fun h he => ?_⟩
  · simp [bitAt, h]
  · have hb : bitAt imm.toNat 0 = true := by simp [bitAt, h]
    rw [hb]
    exact emitLane_replace he

theorem neEmit_writes {q : Nat} {s : State} (h : NeRoom q s 1) (imm : BitVec 14) :
    let u := neInstr q (neEmitOp q imm) s
    NeWent q s u 1 (nePcNext q s) ∧
    neGet u q = { neGet s q with
      lanes := (neGet u q).lanes, cyc := (neGet u q).cyc, pc := (neGet u q).pc
      dups := (neGet u q).dups, capdrop := (neGet u q).capdrop } ∧
    ∀ l, l < 8 → ∀ y z tol, y = lnGet (neGet s q) l → z = lnGet (neGet u q) l → tol = cfgQN (viewFrame (neGet s q).frame s) q 0x2500 7 →
      if bget (neGet s q).mask l then
        z = { y with slots := z.slots, e := {} } ∧
        (imm.toNat % 2 = 0 ∨ (∀ e ∈ y.slots, ((e.range : Int) - y.e.range).natAbs > tol) →
          z.slots = if y.slots.length < 8 then y.slots ++ [y.e] else y.slots) ∧
        (imm.toNat % 2 = 1 → (∃ e ∈ y.slots, ((e.range : Int) - y.e.range).natAbs ≤ tol) →
          ∃ i, i < y.slots.length ∧ (((y.slots.getD i {}).range : Int) - y.e.range).natAbs ≤ tol ∧
            z.slots = if (y.slots.getD i {}).intensity < y.e.intensity then y.slots.set i y.e else y.slots)
      else z = y := by
  intro u
  let tol := cfgQN (viewFrame (neGet s q).frame s) q 0x2500 7
  let dup := bitAt imm.toNat 0
  let counted := fun l => bget (neGet s q).mask l && (ctxGet s (neGet s q).buf (laneCh q (neGet s q) l)).mode != 0
  obtain ⟨hw, hg, hl⟩ := neInstr_lanes h (op := neEmitOp q imm)
    (f := fun _ y => { y with slots := (emitLane tol dup y).1, e := {} })
    (g := fun x => { x with
      dups := satAdd 16 x.dups ((List.range 8).filter fun l => counted l && (emitLane tol dup (lnGet (neGet s q) l)).2.1).length
      capdrop := satAdd 16 x.capdrop ((List.range 8).filter fun l => counted l && (emitLane tol dup (lnGet (neGet s q) l)).2.2).length })
    (fun _ => rfl) (fun _ => rfl) rfl
  refine ⟨hw, by rw [hg, onLanes_lanes], fun l hl8 y z tol' hy hz ht => ?_⟩
  rw [hl l hl8] at hz
  subst hy ht
  split
  case isTrue hm =>
    rw [if_pos hm] at hz
    subst hz
    exact ⟨rfl, emitLane_spec ..⟩
  case isFalse hm => exact hz.trans (if_neg hm)

/-! ### What a delivery touches -/

/-- From `s` to `u` only the zone evaluator, the point stream and the planner may differ. -/
def DeliveryOnly (s u : State) : Prop := ∃ z p f, u = { s with ze := z, ps := p, fp := f }

theorem DeliveryOnly.refl (s : State) : DeliveryOnly s s := ⟨s.ze, s.ps, s.fp, rfl⟩

theorem DeliveryOnly.trans {s t u : State} (h₁ : DeliveryOnly s t) (h₂ : DeliveryOnly t u) : DeliveryOnly s u := by
  obtain ⟨_, _, _, rfl⟩ := h₁
  obtain ⟨_, _, _, rfl⟩ := h₂
  exact ⟨_, _, _, rfl⟩

theorem DeliveryOnly.foldl {α : Type} {f : State → α → State} (hf : ∀ s x, DeliveryOnly s (f s x)) (l : List α) (s : State) :
    DeliveryOnly s (l.foldl f s) := by
  induction l generalizing s with
  | nil => exact .refl s
  | cons x l ih => exact (hf s x).trans (ih _)

theorem DeliveryOnly.ne {s u : State} (h : DeliveryOnly s u) (q : Nat) : neGet u q = neGet s q := by
  obtain ⟨_, _, _, rfl⟩ := h
  rfl

theorem znUpd_deliveryOnly (z : Nat) (f : Zn → Zn) (s : State) : DeliveryOnly s (znUpd z f s) := ⟨_, s.ps, s.fp, rfl⟩

theorem zeEnqueue_deliveryOnly (f : BitVec 32) (ch k : Nat) (e : Echo) (v s : State) : DeliveryOnly s (zeEnqueue f ch k e v s) := by
  unfold zeEnqueue
  dsimp only
  split
  · exact .trans ⟨_, s.ps, s.fp, rfl⟩ (.foldl (fun s w => .foldl (fun s z => znUpd_deliveryOnly z _ s) _ s) _ _)
  · exact ⟨_, s.ps, s.fp, rfl⟩

theorem laneUpd_deliveryOnly (l : Nat) (f : Lps → Lps) (s : State) : DeliveryOnly s (laneUpd l f s) := by
  unfold laneUpd lanePut
  split <;> exact ⟨s.ze, _, s.fp, rfl⟩

theorem psFlush_go_deliveryOnly (v : State) (l : Nat) (qs : List Nat) (s : State) : DeliveryOnly s (psFlush.go v l qs s) := by
  induction qs generalizing s with
  | nil => exact .refl s
  | cons q qs ih =>
    unfold psFlush.go
    split
    · exact ih s
    · split
      · exact .trans (.trans ⟨s.ze, _, s.fp, rfl⟩ (laneUpd_deliveryOnly ..)) (ih _)
      · exact .refl s

theorem psFlush_deliveryOnly (v : State) (l : Nat) (s : State) : DeliveryOnly s (psFlush v l s) := by
  unfold psFlush
  dsimp only
  refine .trans (psFlush_go_deliveryOnly v l ((List.range 4).filter fun q => streamed v q && laneOf v q == l) s) ?_
  split
  · exact ⟨_, _, _, rfl⟩
  · exact .refl _

theorem offerEcho_deliveryOnly (v : State) (l : Nat) (acc : State × List Byte × Nat × Bool) (e : Echo) :
    DeliveryOnly acc.1 (offerEcho v l acc e).1 := by
  unfold offerEcho
  dsimp only
  generalize (if e.index = 0 then 28672 else cfgN v 0x2800 5) = lim
  split
  · exact .refl _
  split
  · exact .trans (laneUpd_deliveryOnly ..) ⟨_, _, _, rfl⟩
  · dsimp only
    exact laneUpd_deliveryOnly ..

theorem offers_deliveryOnly (v : State) (l : Nat) (es : List Echo) (acc : State × List Byte × Nat × Bool) :
    DeliveryOnly acc.1 (es.foldl (offerEcho v l) acc).1 := by
  induction es generalizing acc with
  | nil => exact .refl _
  | cons e es ih => exact (offerEcho_deliveryOnly v l acc e).trans (ih _)

theorem psOffer_deliveryOnly (q step stime pw : Nat) (es : List Echo) (v s : State) :
    DeliveryOnly s (psOffer q step stime pw es v s) := by
  unfold psOffer
  extract_lets l n t t' r t'' word b w
  have ht : DeliveryOnly s t := by
    unfold t
    split
    · exact .trans ⟨s.ze, _, s.fp, rfl⟩ (laneUpd_deliveryOnly ..)
    · exact .refl s
  have hr : DeliveryOnly s t'' := .trans (.trans ht (laneUpd_deliveryOnly ..)) (offers_deliveryOnly v l es (t', [], 0, false))
  clear_value t''
  split
  · exact .refl s
  split
  · exact hr.trans (.trans (.trans ⟨_, _, _, rfl⟩ (laneUpd_deliveryOnly ..)) (.trans ⟨_, _, _, rfl⟩ (psFlush_deliveryOnly ..)))
  · exact hr.trans ⟨_, _, _, rfl⟩

theorem deliver_deliveryOnly (v : State) (q ch : Nat) (c : Ctx) (es : List Echo) (cut : Bool) (s : State) :
    DeliveryOnly s (deliver v q ch c es cut s) := by
  unfold deliver
  dsimp only
  exact .trans (.trans (.trans (.foldl (fun s e => zeEnqueue_deliveryOnly ..) es s) ⟨_, _, _, rfl⟩) (psOffer_deliveryOnly ..)) ⟨_, _, _, rfl⟩

/-! ### Budgets after a delivery -/

theorem neBudget_congr {v w : State} (h : v.cf.eff = w.cf.eff) (q : Nat) : neBudget v q = neBudget w q := by
  rw [neBudget, neBudget, cfgQN, cfgQN, cfgQI, cfgQI, h]

theorem DeliveryOnly.budget {s u : State} (h : DeliveryOnly s u) (f : BitVec 32) (q : Nat) :
    neBudget (viewFrame f u) q = neBudget (viewFrame f s) q := by
  obtain ⟨_, _, _, rfl⟩ := h
  refine neBudget_congr ?_ q
  unfold viewFrame
  dsimp only
  split <;> rfl

theorem nePut_budget (f : BitVec 32) (k : Nat) (x : Ne) (s : State) (q : Nat) :
    neBudget (viewFrame f (nePut k x s)) q = neBudget (viewFrame f s) q := by
  refine neBudget_congr ?_ q
  unfold viewFrame
  rw [nePut_pw]
  split <;> rfl

/-! ### The end of a step -/

theorem regPuts_ne (ws : List (Nat × Nat)) (s : State) : (regPuts ws s).ne = s.ne :=
  foldl_keeps (·.ne) (f := fun s (e : Nat × Nat) => regPut e.1 e.2 s) (fun _ _ => rfl) ws s

theorem post_ne (a low : Nat) (ws : List (Nat × Nat)) (s : State) : (post a low ws s).ne = s.ne :=
  ((post_distributorOnly a low ws s).keeps (·.ne) fun _ _ => rfl).trans (regPuts_ne ..)

theorem raise_ne (j : Nat) (s : State) : (raise j s).ne = s.ne := (raise_distributorOnly j s).keeps (·.ne) fun _ _ => rfl

theorem laneUpd_ne (l : Nat) (f : Lps → Lps) (s : State) : (laneUpd l f s).ne = s.ne := by
  unfold laneUpd lanePut
  split <;> rfl

theorem psLatch_ne (f : BitVec 32) (s : State) : (psLatch f s).ne = s.ne := by
  have hc (s : State) : (psCountsEnd s).ne = s.ne := foldl_keeps (·.ne) (fun s l => laneUpd_ne ..) _ s
  have hh (s : State) : (psHeaders s).ne = s.ne := by
    refine (foldl_keeps (·.ne) (fun s l => ?_) _ _).trans rfl
    split
    · exact (laneUpd_ne ..).trans (laneUpd_ne ..)
    · rfl
  unfold psLatch
  dsimp only
  split
  · exact (hh _).trans ((hc _).trans (post_ne ..))
  · exact (hc _).trans (post_ne ..)

theorem neGet_congr {s u : State} (h : u.ne = s.ne) (q : Nat) : neGet u q = neGet s q := congrArg (fun m => mget ({} : Ne) m q) h

theorem neUpd_latched_run (k q : Nat) (s : State) : (neGet (neUpd k (fun x => { x with latched := false }) s) q).run = (neGet s q).run := by
  unfold neUpd
  by_cases hk : q = k
  · rw [hk, neGet_nePut_same]
  · rw [neGet_nePut_other _ _ hk]

/-- The latch of a frame's statistics starts no engine. -/
theorem neLatch_run (q : Nat) (s : State) : (neGet (neLatch q s) q).run = (neGet s q).run := by
  unfold neLatch
  extract_lets x a s1 s2 c s3 s4
  have h3 : (neGet s3 q).run = (neGet s q).run := by rw [neGet_nePut_same]; rfl
  split
  · refine (foldl_keeps (fun s => (neGet s q).run) (fun s k => neUpd_latched_run k q s) _ _).trans (Eq.trans ?_ h3)
    exact congrArg Ne.run (neGet_congr (psLatch_ne ..) q)
  · exact h3

theorem neStepDone_run (q : Nat) (s : State) : (neGet (neStepDone q s) q).run = false := by
  unfold neStepDone
  extract_lets x t
  have ht : (neGet t q).run = false := by rw [neGet_nePut_same]
  split
  · rw [neLatch_run, ht]
  · exact ht

/-- A step that is not its frame's last ends without a latch. -/
theorem neStepDone_eq {q : Nat} {s : State} (h : (neGet s q).lastStep = false) : neStepDone q s =
    nePut q { neGet s q with run := false, cycMax := max (neGet s q).cycMax (neGet s q).cyc, lanes := [], stack := [], mask := 0 } s :=
  if_neg (by rw [h]; exact Bool.false_ne_true)

theorem neCut_run (q : Nat) (s : State) : (neGet (neCut q s) q).run = false :=
  (congrArg Ne.run (neGet_congr (raise_ne ..) q)).trans (neStepDone_run ..)

/-! ### Cuts -/

/-- `n` counts up by 1, saturating, are one count up by `n`. -/
theorem satAdd_one_iterate (b : Nat) {n : Nat} (hn : 0 < n) (c : Nat) : (fun x => satAdd b x 1)^[n] c = satAdd b c n := by
  induction n with
  | zero => omega
  | succ n ih =>
    cases n with
    | zero => rfl
    | succ n =>
      rw [Function.iterate_succ_apply', ih (Nat.succ_pos n)]
      unfold satAdd
      omega

/-- One more channel-point of engine `q` is delivered as cut. -/
theorem cutPoint_engines {q k : Nat} {s u : State} (h : DeliveryOnly (neUpd q (fun y => { y with notproc := satAdd 32 y.notproc 1 }) s) u) :
    neGet u k = if k = q then { neGet s q with notproc := satAdd 32 (neGet s q).notproc 1 } else neGet s k := by
  rw [h.ne, neUpd]
  split
  case isTrue hk => rw [hk, neGet_nePut_same]
  case isFalse hk => exact neGet_nePut_other _ _ hk

theorem cutPoints_foldl_engines {q : Nat} {f : State → Nat → State}
    (hf : ∀ s i, DeliveryOnly (neUpd q (fun y => { y with notproc := satAdd 32 y.notproc 1 }) s) (f s i)) (l : List Nat) (s : State) (k : Nat) :
    neGet (l.foldl f s) k =
      if k = q then { neGet s q with notproc := (fun x => satAdd 32 x 1)^[l.length] (neGet s q).notproc } else neGet s k := by
  induction l generalizing s with
  | nil =>
    split
    case isTrue hk => rw [hk]; rfl
    case isFalse => rfl
  | cons i l ih =>
    rw [List.foldl_cons, ih, cutPoint_engines (hf s i), cutPoint_engines (hf s i), if_pos rfl]
    split
    · rfl
    · rfl

/-- A cut counts the channel-points of the running group and of the later groups (R192). -/
theorem cutPoints_engines (q : Nat) (s : State) (h : (neGet s q).group ≤ 5) (k : Nat) :
    neGet (cutPoints q s) k =
      if k = q then { neGet s q with notproc := satAdd 32 (neGet s q).notproc (48 - 8 * (neGet s q).group) } else neGet s k := by
  unfold cutPoints
  dsimp only
  rw [cutPoints_foldl_engines (q := q) (fun s i => deliver_deliveryOnly ..), List.length_range, satAdd_one_iterate 32 (by omega)]

/-- A cut, or a fault, of a step that is not its frame's last: the counters `f`, the event `j`. -/
theorem stepEnds_engines {q : Nat} {s : State} (f : Ne → Ne) (j : Nat) (hf : ∀ x, (f x).lastStep = x.lastStep)
    (hl : (neGet s q).lastStep = false) (hg : (neGet s q).group ≤ 5) :
    let y := f { neGet s q with notproc := satAdd 32 (neGet s q).notproc (48 - 8 * (neGet s q).group) }
    let u := raise j (neStepDone q (neUpd q f (cutPoints q s)))
    (∀ k, k ≠ q → neGet u k = neGet s k) ∧
      neGet u q = { y with run := false, cycMax := max y.cycMax y.cyc, lanes := [], stack := [], mask := 0 } := by
  intro y u
  have hq : neGet (neUpd q f (cutPoints q s)) q = y := by
    rw [neUpd, neGet_nePut_same, cutPoints_engines q s hg, if_pos rfl]
  have hu (k : Nat) : neGet u k = neGet (neStepDone q (neUpd q f (cutPoints q s))) k := neGet_congr (raise_ne ..) k
  have hd := neStepDone_eq (q := q) (s := neUpd q f (cutPoints q s)) (by rw [hq]; exact (hf _).trans hl)
  rw [hq] at hd
  refine ⟨fun k hk => ?_, ?_⟩
  · rw [hu, hd, neGet_nePut_other _ _ hk, neUpd, neGet_nePut_other _ _ hk, cutPoints_engines q s hg, if_neg hk]
  · rw [hu, hd, neGet_nePut_same]

theorem budgetCut_ends {q : Nat} {s : State} (hr : (neGet s q).run = true) (hl : (neGet s q).lastStep = false)
    (hg : (neGet s q).group ≤ 5) :
    let u := budgetCut q s
    Kept u s ∧ (∀ k, k ≠ q → neGet u k = neGet s k) ∧ (neGet u q).run = false ∧
      (neGet u q).overruns = satAdd 16 (neGet s q).overruns 1 ∧
      (neGet u q).notproc = satAdd 32 (neGet s q).notproc (48 - 8 * (neGet s q).group) := by
  intro u
  let t := neUpd q (fun y => { y with cyc := neBudget (viewFrame y.frame s) q }) s
  have ht : neGet t q = { neGet s q with cyc := neBudget (viewFrame (neGet s q).frame s) q } := neGet_nePut_same ..
  have hu : u = neCut q t := if_pos hr
  obtain ⟨ho, hq⟩ := stepEnds_engines (s := t) (fun y => { y with overruns := satAdd 16 y.overruns 1 }) (evNeOverrun + q)
    (fun _ => rfl) (by rw [ht]; exact hl) (by rw [ht]; exact hg)
  rw [hu]
  refine ⟨(neCut_guarded q t).trans (neUpd_guarded ..), fun k hk => (ho k hk).trans (neGet_nePut_other _ _ hk), ?_⟩
  unfold neCut
  rw [hq, ht]
  exact ⟨rfl, rfl, rfl⟩

theorem neUnlisted_faults {q : Nat} {s : State} (hr : (neGet s q).run = true) (hl : (neGet s q).lastStep = false)
    (hg : (neGet s q).group ≤ 5) (hb : (neGet s q).cyc ≤ neBudget (viewFrame (neGet s q).frame s) q) :
    let u := neInstr q neUnlisted s
    Kept u s ∧ (∀ k, k ≠ q → neGet u k = neGet s k) ∧ (neGet u q).run = false ∧
      (neGet u q).progfault = satAdd 8 (neGet s q).progfault 1 ∧ (neGet u q).cause = 1 ∧
      (neGet u q).faultPc = (neGet s q).pc % 1024 ∧
      (neGet u q).notproc = satAdd 32 (neGet s q).notproc (48 - 8 * (neGet s q).group) ∧
      (neGet u q).overruns = (neGet s q).overruns := by
  intro u
  have hu : u = neFault q 1 (neGet s q).pc s := by
    have hn : (!(neGet s q).run) = false := by rw [hr]; rfl
    exact (if_neg (by rw [hn]; exact Bool.false_ne_true)).trans (if_neg (Nat.not_lt.2 hb))
  obtain ⟨ho, hq⟩ := stepEnds_engines (s := s)
    (fun y => { y with progfault := satAdd 8 y.progfault 1, cause := 1, faultPc := (neGet s q).pc % 1024 }) (evNeProgfault + q)
    (fun _ => rfl) hl hg
  rw [hu]
  refine ⟨neFault_guarded .., ho, ?_⟩
  unfold neFault
  rw [hq]
  exact ⟨rfl, rfl, rfl, rfl, rfl, rfl⟩

/-! ### END -/

theorem neEnd_last {q : Nat} {s : State} (hr : (neGet s q).run = true) (hg : (neGet s q).group = 5) :
    Kept (neEnd q s) s ∧ (neGet (neEnd q s) q).run = false := by
  refine ⟨neEnd_guarded q s, ?_⟩
  unfold neEnd
  extract_lets x v out n cyc all t u
  rw [hr]
  simp only [Bool.not_true, Bool.false_eq_true, if_false]
  split
  · exact neCut_run ..
  · exact neStepDone_run ..

/-- A group that starts below the budget (R189, Table 8.1). -/
theorem groupStart_goes {q g : Nat} {s : State} (hb : (neGet s q).cyc + 8 < neBudget (viewFrame (neGet s q).frame s) q) :
    let u := groupStart q g s
    (∀ k, k ≠ q → neGet u k = neGet s k) ∧ neGet u q = { neGet s q with
      group := g, pc := 0, stack := [], lanes := [], cyc := (neGet s q).cyc + 8, g := (neGet u q).g, mask := (neGet u q).mask } := by
  have hu : groupStart q g s = nePut q { neGet s q with
      group := g, pc := 0, stack := [], lanes := [], cyc := (neGet s q).cyc + 8
      g := mtab 0 8 fun j => BitVec.ofInt 32 (cfgQI (viewFrame (neGet s q).frame s) q 0x2500 (8 + j))
      mask := BitVec.ofNat 8 (maskOf 8 fun l => (ctxGet s (neGet s q).buf (48 * q + 8 * g + l)).health != 1) } s :=
    if_neg (Nat.not_le.2 hb)
  rw [hu]
  exact ⟨fun k hk => neGet_nePut_other _ _ hk, by rw [neGet_nePut_same]⟩

/-- END of a group before the last (R207). -/
theorem neEnd_next {q : Nat} {s : State} (hr : (neGet s q).run = true) {E : Nat}
    (hE : E = ((List.range 8).map fun l => (laneEchoes (viewFrame (neGet s q).frame s) s q (neGet s q) l).length).sum)
    (hb : (neGet s q).cyc + 12 + E < neBudget (viewFrame (neGet s q).frame s) q) (hg : (neGet s q).group < 5) :
    let u := neEnd q s
    Kept u s ∧ (∀ k, k ≠ q → neGet u k = neGet s k) ∧ (neGet u q).run = true ∧
      (neGet u q).group = (neGet s q).group + 1 ∧ (neGet u q).pc = 0 ∧ (neGet u q).stack = [] ∧ (neGet u q).lanes = [] ∧
      (neGet u q).cyc = (neGet s q).cyc + 12 + E ∧ (neGet u q).echoes = satAdd 32 (neGet s q).echoes E := by
  refine ⟨neEnd_guarded q s, ?_⟩
  unfold neEnd
  extract_lets x v out n cyc all t u
  have hn : n = E := by
    rw [hE]
    simp only [n, out, List.map_map]
    rfl
  have hc : cyc = x.cyc + 4 + E := by rw [← hn]
  have hx : x.group < 5 := hg
  have hb : x.cyc + 12 + E < neBudget v q := hb
  have hd : DeliveryOnly t u := .foldl (fun s e => deliver_deliveryOnly ..) _ _
  have ht (k : Nat) (hk : k ≠ q) : neGet u k = neGet s k := (hd.ne k).trans (neGet_nePut_other _ _ hk)
  have hq : neGet u q = _ := (hd.ne q).trans (neGet_nePut_same ..)
  have hcyc : (neGet u q).cyc = cyc := by rw [hq]
  have hbud : neBudget (viewFrame (neGet u q).frame u) q = neBudget v q := by
    rw [hq]
    exact (hd.budget ..).trans (nePut_budget ..)
  rw [hr]
  simp only [Bool.not_true, Bool.false_eq_true, if_false]
  clear_value u n
  have h8 : cyc + 8 < neBudget v q := by omega
  rw [if_neg (Nat.not_lt.2 (by omega : cyc ≤ neBudget v q)), if_neg hx.ne, if_neg (by omega : ¬ neBudget v q ≤ cyc)]
  obtain ⟨ho, hs⟩ := groupStart_goes (g := x.group + 1) (by rw [hbud, hcyc]; exact h8 : (neGet u q).cyc + 8 < neBudget (viewFrame (neGet u q).frame u) q)
  refine ⟨fun k hk => (ho k hk).trans (ht k hk), ?_⟩
  rw [hs, hq]
  exact ⟨hr, rfl, rfl, rfl, rfl, show cyc + 8 = x.cyc + 12 + E by omega, by rw [hn]⟩

theorem otherEngines {q : Fin 4} {s u : State} (h : ∀ k, k ≠ q.val → neGet u k = neGet s k) (k : Fin 4) (hk : k ≠ q) :
    neGet u k = neGet s k := h k (Fin.val_ne_of_ne hk)

/-- Settles O30: it holds. -/
theorem neEchoesAndEnds : Obligations.NeEchoesAndEnds := by
  unfold Obligations.NeEchoesAndEnds
  refine ⟨fun q s d a imm h => ?_, fun q s hr => ⟨fun E hE hb hg => ?_, fun hg => ⟨_, rfl, neEnd_last hr hg⟩, fun hl hg => ⟨?_, fun hb => ?_⟩⟩⟩
  · have h1 : NeRoom q s 1 := h.mono (by omega)
    exact ⟨⟨_, rfl, laneInstr h1 rfl fun _ => rfl⟩, ⟨_, rfl, neErng_writes h a⟩, ⟨_, rfl, laneInstr h1 rfl fun _ => rfl⟩,
      ⟨_, rfl, laneInstr h1 rfl fun _ => rfl⟩, ⟨_, rfl, laneInstr h1 rfl fun _ => rfl⟩, ⟨_, rfl, neCls_writes h d a⟩,
      ⟨_, rfl, neEmit_writes h1 imm⟩⟩
  · obtain ⟨hk, ho, hrest⟩ := neEnd_next hr hE hb hg
    exact ⟨_, rfl, hk, otherEngines ho, hrest⟩
  · obtain ⟨hk, ho, hrest⟩ := budgetCut_ends hr hl hg
    exact ⟨_, rfl, hk, otherEngines ho, hrest⟩
  · obtain ⟨hk, ho, hrest⟩ := neUnlisted_faults hr hl hg hb
    exact ⟨_, rfl, hk, otherEngines ho, hrest⟩

end Sys2Proof.Machine
end

section
/-! PROOF. O57 and O58: the event distributor. Arbitration moves signals and pointers of sources, and withdrawals, wake requests and sleep
of targets; what a register write, a claim or a completion sets besides these is then there in the end. -/

namespace Sys2Proof.Machine

-- One after another the proofs need less memory than all at once.
set_option Elab.async false

/-! ### Bits -/

theorem bget_bset_true {n : Nat} (v : BitVec n) {i : Nat} (hi : i < n) (k : Nat) :
    bget (bset v i true) k = (bget v k || decide (k = i)) := by
  unfold bget bset
  rw [if_pos rfl, BitVec.getLsbD_or, BitVec.getLsbD_ofNat, Nat.testBit_two_pow]
  by_cases hk : k = i
  · simp [hk, hi]
  · simp [hk, Ne.symm hk]

theorem bget_bset_clear {n : Nat} (v : BitVec n) (i k : Nat) : bget (bset v i false) k = (bget v k && decide (k ≠ i)) := by
  unfold bget bset
  rw [if_neg Bool.false_ne_true, BitVec.getLsbD_and, BitVec.getLsbD_not, BitVec.getLsbD_ofNat, Nat.testBit_two_pow]
  by_cases hk : k < n
  · by_cases hi : k = i
    · simp [hi, hi ▸ hk]
    · simp [hi, hk, Ne.symm hi]
  · simp [BitVec.getLsbD_of_ge _ _ (Nat.not_lt.1 hk)]

theorem bitAt_eq_getLsbD {n : Nat} (w : BitVec n) (i : Nat) : bitAt w.toNat i = w.getLsbD i := by
  unfold bitAt
  rw [BitVec.getLsbD, Nat.testBit_eq_decide_div_mod_eq]
  simp [BEq.beq]

/-! ### What arbitration leaves (R435, R437) -/

/-- A source but for its signal and pointer. -/
def EdSrc.settled (x : EdSrc) : EdSrc := { x with sig := none, ptr := 9 }

/-- A target but for what arbitration moves. -/
def EdTgt.settled (x : EdTgt) : EdTgt := { x with sleep := false, withdrawn := false, wakereq := false }

/-- The distributor's own flags and counters. -/
structure EdFlags where
  evt : BitVec 56
  swi : BitVec 3
  secchg : BitVec 32
  routeErr : Bool
  eoiErr : Nat
  lastClaim : Nat

def Ed.flags (e : Ed) : EdFlags := ⟨e.evt, e.swi, e.secchg, e.routeErr, e.eoiErr, e.lastClaim⟩

/-- From `s` to `u` the distributor has arbitrated. -/
structure Arbitrated (s u : State) : Prop where
  only : DistributorOnly s u
  flags : u.ed.flags = s.ed.flags
  src : ∀ n, (edSrcGet u n).settled = (edSrcGet s n).settled
  tgt : ∀ t, (edTgtGet u t).settled = (edTgtGet s t).settled

theorem DistributorOnly.trans {s t u : State} (h₁ : DistributorOnly s t) (h₂ : DistributorOnly t u) : DistributorOnly s u := by
  obtain ⟨_, rfl⟩ := h₁
  obtain ⟨_, rfl⟩ := h₂
  exact ⟨_, rfl⟩

theorem DistributorOnly.onlyEd {s u : State} (h : DistributorOnly s u) : OnlyEd s u := by
  obtain ⟨_, rfl⟩ := h
  rfl

theorem Arbitrated.refl (s : State) : Arbitrated s s := ⟨.refl s, rfl, fun _ => rfl, fun _ => rfl⟩

theorem Arbitrated.trans {s t u : State} (h₁ : Arbitrated s t) (h₂ : Arbitrated t u) : Arbitrated s u :=
  ⟨h₁.only.trans h₂.only, h₂.flags.trans h₁.flags, fun n => (h₂.src n).trans (h₁.src n), fun t => (h₂.tgt t).trans (h₁.tgt t)⟩

theorem Arbitrated.foldl {α : Type} {f : State → α → State} (hf : ∀ s x, Arbitrated s (f s x)) (l : List α) (s : State) :
    Arbitrated s (l.foldl f s) := by
  induction l generalizing s with
  | nil => exact .refl s
  | cons x l ih => exact (hf s x).trans (ih _)

/-! ### Records of a source and of a target -/

theorem edSrcGet_set_same (n : Nat) (x : EdSrc) (s : State) : edSrcGet (edSrcSet n x s) n = x := mget_mset_same ..

theorem edSrcGet_set_other {n k : Nat} (h : k ≠ n) (x : EdSrc) (s : State) : edSrcGet (edSrcSet n x s) k = edSrcGet s k :=
  mget_mset_other _ _ _ _ _ h

theorem edTgtGet_set_same (t : Nat) (x : EdTgt) (s : State) : edTgtGet (edTgtSet t x s) t = x := mget_mset_same ..

theorem edTgtGet_set_other {t k : Nat} (h : k ≠ t) (x : EdTgt) (s : State) : edTgtGet (edTgtSet t x s) k = edTgtGet s k :=
  mget_mset_other _ _ _ _ _ h

theorem edSrcSet_arbitrated {n : Nat} {x : EdSrc} {s : State} (h : x.settled = (edSrcGet s n).settled) :
    Arbitrated s (edSrcSet n x s) := by
  refine ⟨⟨_, rfl⟩, rfl, fun k => ?_, fun _ => rfl⟩
  by_cases hk : k = n
  · rw [hk, edSrcGet_set_same, h]
  · rw [edSrcGet_set_other hk]

theorem edTgtSet_arbitrated {t : Nat} {x : EdTgt} {s : State} (h : x.settled = (edTgtGet s t).settled) :
    Arbitrated s (edTgtSet t x s) := by
  refine ⟨⟨_, rfl⟩, rfl, fun _ => rfl, fun k => ?_⟩
  by_cases hk : k = t
  · rw [hk, edTgtGet_set_same, h]
  · rw [edTgtGet_set_other hk]

/-! ### Arbitration -/

theorem wakeRequest_arbitrated (s : State) : Arbitrated s (wakeRequest s) := edTgtSet_arbitrated rfl

theorem edUpdate_arbitrated (fuel n : Nat) (s : State) : Arbitrated s (edUpdate fuel n s) := by
  induction fuel generalizing n s with
  | zero => exact .refl s
  | succ fuel ih =>
    have line (t : Nat) (u : State) : Arbitrated u (if dataClass t then edUpdate fuel (376 + t) u else u) := by
      split
      · exact ih _ _
      · exact .refl u
    unfold edUpdate
    extract_lets x live
    split
    · split
      · exact .refl s
      · exact (edSrcSet_arbitrated (by rfl)).trans ((edTgtSet_arbitrated (by rfl)).trans (line ..))
    · split
      · split
        · exact (edSrcSet_arbitrated (by rfl)).trans (line ..)
        · refine (wakeRequest_arbitrated s).trans ?_
          split
          · exact edSrcSet_arbitrated rfl
          · exact .refl _
      · exact .refl s

theorem edSync_arbitrated (n : Nat) (s : State) : Arbitrated s (edSync n s) := edUpdate_arbitrated 7 n s

theorem edLine_arbitrated (t : Nat) (s : State) : Arbitrated s (edLine t s) := by
  unfold edLine
  split
  · exact edSync_arbitrated ..
  · exact .refl s

theorem edArbitrate_arbitrated (s : State) : Arbitrated s (edArbitrate s) := .foldl (fun s n => edSync_arbitrated n s) _ s

theorem edSyncs_arbitrated (a n : Nat) (s : State) : Arbitrated s (edSyncs a n s) := .foldl (fun s i => edSync_arbitrated (a + i) s) _ s

theorem hostUp_of {s : State} (hm : s.sys.mgmtUp = true) (hv : s.sup.vstate ≠ 2) : hostUp s = true := by
  unfold hostUp
  simp [hm, hv]

/-! ### Registers (O57) -/

theorem edSrcWrite_sets (n : Nat) {w : Word} (hw : maskMixed w.toNat = false) (s : State) :
    OnlyEd s (edSrcWrite n w.toNat s) ∧ (edSrcGet (edSrcWrite n w.toNat s) n).en = w.getLsbD 31 ∧
      (edSrcGet (edSrcWrite n w.toNat s) n).level = w.toNat / 2 ^ 16 % 16 ∧
      (edSrcGet (edSrcWrite n w.toNat s) n).tmask = w.extractLsb' 0 10 ∧ (edSrcWrite n w.toNat s).ed.routeErr = s.ed.routeErr := by
  have hset : Arbitrated (edSrcSet n (srcOf w.toNat (edSrcGet s n)) s) (edSrcWrite n w.toNat s) := by
    unfold edSrcWrite
    rw [hw]
    simp only [Bool.false_eq_true, if_false]
    split
    · exact (edSync_arbitrated ..).trans (edLine_arbitrated ..)
    · exact edSync_arbitrated ..
  have hx := hset.src n
  rw [edSrcGet_set_same] at hx
  refine ⟨(DistributorOnly.trans ⟨_, rfl⟩ hset.only).onlyEd, (congrArg EdSrc.en hx).trans (bitAt_eq_getLsbD w 31),
    congrArg EdSrc.level hx, (congrArg EdSrc.tmask hx).trans ?_, congrArg EdFlags.routeErr hset.flags⟩
  exact BitVec.eq_of_toNat_eq (by simp [EdSrc.settled, srcOf])

theorem edTakeBack_tgt (t : Nat) (s : State) (k : Nat) : edTgtGet (edTakeBack t s) k = edTgtGet s k := by
  unfold edTakeBack
  dsimp only
  split
  · rfl
  · exact foldl_keeps (edTgtGet · k) (f := fun s (e : Nat × EdSrc) => edSrcSet e.1 { e.2 with sig := none } s) (fun _ _ => rfl) _ s

theorem edTakeBack_distributorOnly (t : Nat) (s : State) : DistributorOnly s (edTakeBack t s) := by
  have hf (l : List (Nat × EdSrc)) : ∀ s, DistributorOnly s (l.foldl (fun s e => edSrcSet e.1 { e.2 with sig := none } s) s) := by
    induction l with
    | nil => exact .refl
    | cons e l ih => exact fun s => .trans ⟨_, rfl⟩ (ih _)
  unfold edTakeBack
  dsimp only
  split
  · exact .refl s
  · exact hf _ s

theorem edTcfgWrite_sets (t : Nat) (w : Word) (s : State) :
    OnlyEd s (edTcfgWrite t w.toNat s) ∧ (edTgtGet (edTcfgWrite t w.toNat s) t).en = w.getLsbD 31 ∧
      (edTgtGet (edTcfgWrite t w.toNat s) t).pol = w.getLsbD 29 ∧ (edTgtGet (edTcfgWrite t w.toNat s) t).od = w.getLsbD 28 ∧
      (edTgtGet (edTcfgWrite t w.toNat s) t).thr = (if t < 5 then 0 else w.toNat % 16) := by
  have ha : Arbitrated (edTakeBack t (edTgtSet t (tgtOf t w.toNat (edTgtGet s t)) s)) (edTcfgWrite t w.toNat s) :=
    (edArbitrate_arbitrated _).trans (edLine_arbitrated ..)
  have hx := ha.tgt t
  rw [edTakeBack_tgt, edTgtGet_set_same] at hx
  refine ⟨(DistributorOnly.trans (.trans ⟨_, rfl⟩ (edTakeBack_distributorOnly ..)) ha.only).onlyEd,
    (congrArg EdTgt.en hx).trans (bitAt_eq_getLsbD w 31), (congrArg EdTgt.pol hx).trans (bitAt_eq_getLsbD w 29),
    (congrArg EdTgt.od hx).trans (bitAt_eq_getLsbD w 28), (congrArg EdTgt.thr hx).trans ?_⟩
  simp [EdTgt.settled, tgtOf, dataClass, fld]

/-- An edge on local source `i` of target `t` sets its pending bit and clears none. -/
theorem localEdgeT_lpend {i : Nat} (hi : i < 32) (t : Nat) (s : State) (k : Nat) :
    bget (edTgtGet (localEdgeT i t s) t).lpend k = (bget (edTgtGet s t).lpend k || decide (k = i)) := by
  unfold localEdgeT
  extract_lets x y
  have hx := congrArg EdTgt.lpend ((edLine_arbitrated t (edTgtSet t y s)).tgt t)
  rw [edTgtGet_set_same] at hx
  have hy : bget y.lpend k = (bget x.lpend k || decide (k = i)) := by
    unfold y
    split
    case isTrue hb =>
      by_cases hk : k = i
      · rw [hk]
        exact hb.trans (by simp)
      · simp [hk]
    case isFalse => exact bget_bset_true _ hi k
  exact (congrArg (bget · k) hx).trans hy

theorem localEdgeT_distributorOnly (i t : Nat) (s : State) : DistributorOnly s (localEdgeT i t s) :=
  .trans ⟨_, rfl⟩ (edLine_arbitrated ..).only

/-- What ED_LSET sets: the bits of `l` that are 1 in `w`. -/
theorem edLset_foldl (t w : Nat) (l : List Nat) (hl : ∀ i ∈ l, i < 32) (s : State) (k : Nat) :
    DistributorOnly s (l.foldl (fun s i => if bitAt w i then localEdgeT i t s else s) s) ∧
    bget (edTgtGet (l.foldl (fun s i => if bitAt w i then localEdgeT i t s else s) s) t).lpend k =
      (bget (edTgtGet s t).lpend k || (decide (k ∈ l) && bitAt w k)) := by
  induction l generalizing s with
  | nil => exact ⟨.refl s, by simp⟩
  | cons i l ih =>
    rw [List.foldl_cons]
    have hi := hl i List.mem_cons_self
    have ih := ih fun j hj => hl j (List.mem_cons_of_mem _ hj)
    cases hb : bitAt w i with
    | false =>
      refine ⟨(ih _).1, (ih _).2.trans ?_⟩
      by_cases hk : k = i <;> simp [hk, hb]
    | true =>
      refine ⟨(localEdgeT_distributorOnly ..).trans (ih _).1, (ih _).2.trans ?_⟩
      rw [if_pos rfl, localEdgeT_lpend hi]
      by_cases hk : k = i <;> simp [hk, hb]

theorem edLset_sets (t : Nat) (w : Word) (s : State) : OnlyEd s (edLset t w.toNat s) ∧ ∀ i, i < 32 →
    bget (edTgtGet (edLset t w.toNat s) t).lpend i = (bget (edTgtGet s t).lpend i || (decide (i < 16) && w.getLsbD i)) := by
  have h := edLset_foldl t w.toNat (List.range 16) (fun i hi => Nat.lt_trans (List.mem_range.1 hi) (by decide)) s
  refine ⟨(h 0).1.onlyEd, fun i _ => (h i).2.trans ?_⟩
  rw [bitAt_eq_getLsbD]
  simp

theorem edLpend_clears (t : Nat) (w : Word) (s : State) :
    OnlyEd s (edLpend t w s) ∧ (edTgtGet (edLpend t w s) t).lpend = (edTgtGet s t).lpend &&& ~~~w := by
  have ha : Arbitrated (edTgtSet t { edTgtGet s t with lpend := w1c (edTgtGet s t).lpend w } s) (edLpend t w s) := edLine_arbitrated ..
  have hx := congrArg EdTgt.lpend (ha.tgt t)
  rw [edTgtGet_set_same] at hx
  exact ⟨(DistributorOnly.trans ⟨_, rfl⟩ ha.only).onlyEd, hx⟩

/-! #### Flags, of any state `u` that arbitration leads to -/

theorem onlyEd_of_flags {s u : State} {e : Ed} (h : Arbitrated { s with ed := e } u) : OnlyEd s u := (DistributorOnly.after h.only).onlyEd

theorem swi_sets {s u : State} {w : Word} (h : Arbitrated { s with ed := { s.ed with swi := BitVec.ofNat 3 w.toNat } } u) :
    OnlyEd s u ∧ u.ed.swi = w.extractLsb' 0 3 :=
  ⟨onlyEd_of_flags h, (congrArg EdFlags.swi h.flags).trans (BitVec.eq_of_toNat_eq (by simp [Ed.flags]))⟩

theorem secchg_clears {s u : State} {w : Word} (h : Arbitrated { s with ed := { s.ed with secchg := w1c s.ed.secchg w } } u) :
    OnlyEd s u ∧ u.ed.secchg = s.ed.secchg &&& ~~~w :=
  ⟨onlyEd_of_flags h, congrArg EdFlags.secchg h.flags⟩

theorem evt_clears {s u : State} {f : BitVec 64}
    (h : Arbitrated { s with ed := { s.ed with evt := w1c s.ed.evt (BitVec.ofNat 56 f.toNat) } } u) :
    OnlyEd s u ∧ u.ed.evt = s.ed.evt &&& ~~~f.extractLsb' 0 56 := by
  have hf : BitVec.ofNat 56 f.toNat = f.extractLsb' 0 56 := BitVec.eq_of_toNat_eq (by simp)
  refine ⟨onlyEd_of_flags h, (congrArg EdFlags.evt h.flags).trans ?_⟩
  rw [← hf]
  rfl

theorem edSwi_sets (w : Word) (s : State) : OnlyEd s (edSwi w.toNat s) ∧ (edSwi w.toNat s).ed.swi = w.extractLsb' 0 3 :=
  swi_sets (edSyncs_arbitrated ..)

theorem edSecchg_clears (w : Word) (s : State) : OnlyEd s (edSecchg w s) ∧ (edSecchg w s).ed.secchg = s.ed.secchg &&& ~~~w :=
  secchg_clears (edSyncs_arbitrated ..)

theorem edEvtClear_clears (f : BitVec 64) (s : State) :
    OnlyEd s (edEvtClear f.toNat s) ∧ (edEvtClear f.toNat s).ed.evt = s.ed.evt &&& ~~~f.extractLsb' 0 56 :=
  evt_clears (edSyncs_arbitrated ..)

theorem edStat_clears (w : Word) (s : State) :
    edStatWrite w.toNat s = { s with ed := { s.ed with routeErr := s.ed.routeErr && !w.getLsbD 31, eoiErr := 0 } } := by
  rw [← bitAt_eq_getLsbD]
  rfl

/-- A command that acts while its condition holds. -/
theorem acts {c : Bool} {u v : State} (h : c = true) : (.next (if c then u else v) : Host.Outcome State Fault Refusal) = .next u := by
  rw [if_pos h]

/-- Settles O57: it holds. -/
theorem distributorRegisters : Obligations.DistributorRegisters := by
  unfold Obligations.DistributorRegisters
  intro s n tg w f hm hv
  have up := hostUp_of hm hv
  exact ⟨fun hw => ⟨_, acts up, if_pos hw⟩, fun hw => ⟨_, acts up, edSrcWrite_sets n hw s⟩, ⟨_, acts up, edTcfgWrite_sets tg w s⟩,
    ⟨_, acts up, edLset_sets tg w s⟩, ⟨_, acts up, edLpend_clears tg w s⟩, ⟨_, acts up, rfl, edTgtGet_set_same ..⟩,
    ⟨_, acts up, edStat_clears w s⟩, ⟨_, acts up, edSwi_sets w s⟩, ⟨_, acts up, edSecchg_clears w s⟩, ⟨_, acts up, edEvtClear_clears f s⟩⟩

/-! ### Claims (O58) -/

/-- A synchronisation of one source reaches of the others only the request lines (R430). -/
theorem edUpdate_other (fuel n : Nat) (s : State) {k : Nat} (hn : k ≠ n) (hk : k < 376) :
    edSrcGet (edUpdate fuel n s) k = edSrcGet s k := by
  induction fuel generalizing n s with
  | zero => rfl
  | succ fuel ih =>
    have line (t : Nat) (u : State) (hu : edSrcGet u k = edSrcGet s k) :
        edSrcGet (if dataClass t then edUpdate fuel (376 + t) u else u) k = edSrcGet s k := by
      split
      · exact (ih _ _ (by omega)).trans hu
      · exact hu
    unfold edUpdate
    extract_lets x live
    split
    · split
      · rfl
      · exact line _ _ (edSrcGet_set_other hn _ s)
    · split
      · split
        · exact line _ _ (edSrcGet_set_other hn _ s)
        · split
          · exact (edSrcGet_set_other hn _ _).trans rfl
          · rfl
      · rfl

theorem edLine_other (t : Nat) (s : State) {k : Nat} (hk : k < 376) : edSrcGet (edLine t s) k = edSrcGet s k := by
  unfold edLine
  split
  · exact edUpdate_other 7 (376 + t) s (by omega) hk
  · rfl

/-- The best candidate is one of the highest level. -/
theorem bestCand_some {l : List (Nat × Nat)} {d : Nat × Nat} (h : bestCand l = some d) : d ∈ l ∧ ∀ x ∈ l, x.2 ≤ d.2 := by
  induction l generalizing d with
  | nil => cases h
  | cons c cs ih =>
    unfold bestCand at h
    cases hb : bestCand cs with
    | none =>
      rw [hb] at h
      obtain rfl := Option.some.inj h
      cases cs with
      | nil => exact ⟨List.mem_cons_self, fun x hx => by rw [List.mem_singleton.1 hx]⟩
      | cons e es =>
        unfold bestCand at hb
        (repeat' split at hb) <;> cases hb
    | some e =>
      rw [hb] at h
      obtain ⟨hm, hle⟩ := ih hb
      by_cases hlt : c.2 < e.2
      · obtain rfl := Option.some.inj ((if_pos hlt).symm.trans h)
        exact ⟨List.mem_cons_of_mem _ hm, fun x hx => (List.mem_cons.1 hx).elim (fun hx => hx ▸ hlt.le) (hle x)⟩
      · obtain rfl := Option.some.inj ((if_neg hlt).symm.trans h)
        exact ⟨List.mem_cons_self, fun x hx => (List.mem_cons.1 hx).elim (fun hx => hx ▸ le_refl _) fun hx => (hle x hx).trans (Nat.not_lt.1 hlt)⟩

theorem bestCand_isSome {l : List (Nat × Nat)} {c : Nat × Nat} (hc : c ∈ l) : ∃ d, bestCand l = some d := by
  cases l with
  | nil => cases hc
  | cons e es =>
    unfold bestCand
    (repeat' split) <;> exact ⟨_, rfl⟩

/-- A candidate above all the others is the best. -/
theorem bestCand_eq {l : List (Nat × Nat)} {c : Nat × Nat} (hc : c ∈ l) (h : ∀ x ∈ l, x = c ∨ x.2 < c.2) : bestCand l = some c := by
  obtain ⟨d, hd⟩ := bestCand_isSome hc
  obtain ⟨hm, hle⟩ := bestCand_some hd
  rw [hd, (h d hm).resolve_right (Nat.not_lt.2 (hle c hc))]

/-- The state in which a claim takes its source: the withdrawal and the wake request have ended. -/
def claiming (t : Nat) (s : State) : State := edTgtSet t { edTgtGet s t with withdrawn := false, wakereq := false } s

theorem claiming_tgt (t : Nat) (s : State) :
    edTgtGet (claiming t s) t = { edTgtGet s t with withdrawn := false, wakereq := false } := edTgtGet_set_same ..

/-- The claim's answer is noted. -/
def noted (id : Nat) (s : State) : State := { s with ed := { s.ed with lastClaim := id } }

theorem edClaim_none {t : Nat} {s : State} (h : edCands s t = []) :
    (edClaim t s).2 = edLine t (noted (if (edTgtGet s t).withdrawn then 0x3FF else 0x3FE) (claiming t s)) := by
  unfold edClaim edNext
  rw [h]
  rfl

theorem edClaim_some {t : Nat} {s : State} {c : Nat × Nat} (h : bestCand (edCands s t) = some c) :
    (edClaim t s).2 = edLine t (noted (edTake t c.1 c.2 (claiming t s)).1 (edTake t c.1 c.2 (claiming t s)).2) := by
  unfold edClaim
  rw [h]
  rfl

theorem EdTgt.lists_of_settled {x y : EdTgt} (h : x.settled = y.settled) :
    x.stack = y.stack ∧ x.claimed = y.claimed ∧ x.lpend = y.lpend := by
  have hs := congrArg EdTgt.stack h
  have hc := congrArg EdTgt.claimed h
  have hp := congrArg EdTgt.lpend h
  exact ⟨hs, hc, hp⟩

/-- What an arbitration after a claim's answer leaves of the claiming target. -/
theorem noted_arbitrated {t id : Nat} {s v u : State} {x : EdTgt} (hv : OnlyEd s v) (hx : edTgtGet v t = x)
    (h : Arbitrated (noted id v) u) : OnlyEd s u ∧ u.ed.lastClaim = id ∧ (edTgtGet u t).stack = x.stack ∧
      (edTgtGet u t).claimed = x.claimed ∧ (edTgtGet u t).lpend = x.lpend := by
  have ht : (edTgtGet u t).settled = x.settled := (h.tgt t).trans (congrArg EdTgt.settled hx)
  exact ⟨(DistributorOnly.trans ⟨_, hv⟩ (.after h.only)).onlyEd, congrArg EdFlags.lastClaim h.flags,
    EdTgt.lists_of_settled ht⟩

/-- A claim that finds nothing. -/
theorem claim_nothing {s : State} {t : Nat} (h : edCands s t = []) : OnlyEd s (edClaim t s).2 ∧
    (edClaim t s).2.ed.lastClaim = (if (edTgtGet s t).withdrawn then 0x3FF else 0x3FE) ∧
    (edTgtGet (edClaim t s).2 t).stack = (edTgtGet s t).stack ∧ (edTgtGet (edClaim t s).2 t).claimed = (edTgtGet s t).claimed := by
  rw [edClaim_none h]
  obtain ⟨ho, hl, hs, hc, _⟩ := noted_arbitrated (s := s) (v := claiming t s) rfl (claiming_tgt t s) (edLine_arbitrated t _)
  exact ⟨ho, hl, hs, hc⟩

/-- A shared source below 376 that is claimed. -/
theorem edTake_shared {t id lvl : Nat} (hid : id < 376) (s : State) : edTake t id lvl s =
    (id, edTgtSet t (edServe t id lvl (edTgtGet s t)) (edSrcSet id { edSrcGet s id with sig := none, inserv := some t, again := false } s)) := by
  unfold edTake
  have h1 : ¬ 376 ≤ id := Nat.not_le.2 hid
  rw [if_pos (by omega)]
  simp [h1]

/-- A local source that is claimed. -/
theorem edTake_local {t id lvl : Nat} (hid : 0x200 ≤ id) (s : State) : edTake t id lvl s =
    (id, edTgtSet t (edServe t id lvl { edTgtGet s t with lpend := bset (edTgtGet s t).lpend (id - 0x200) false }) s) :=
  if_neg (Nat.not_lt.2 hid)

/-- What a claim leaves of its target: the source on the stack, or among the claimed. -/
theorem edServe_lists (t id lvl : Nat) (x : EdTgt) :
    (t < 5 → (edServe t id lvl x).stack = (lvl, id) :: x.stack) ∧ (5 ≤ t → (edServe t id lvl x).claimed = (lvl, id) :: x.claimed) ∧
      (edServe t id lvl x).lpend = x.lpend := by
  unfold edServe dataClass
  refine ⟨fun h => ?_, fun h => ?_, ?_⟩
  · rw [if_pos (decide_eq_true h)]
  · rw [if_neg (by simpa using h)]
  · split <;> rfl

/-- What stands after a claim of `c` by a target with the record `x` before. -/
structure Claimed (t : Nat) (c : Nat × Nat) (x : EdTgt) (s u : State) : Prop where
  only : OnlyEd s u
  last : u.ed.lastClaim = c.1
  stack : t < 5 → (edTgtGet u t).stack = (c.2, c.1) :: x.stack
  claimed : 5 ≤ t → (edTgtGet u t).claimed = (c.2, c.1) :: x.claimed
  lpend : (edTgtGet u t).lpend = x.lpend

theorem claimed_of {t : Nat} {c : Nat × Nat} {x : EdTgt} {s v u : State} (hv : OnlyEd s v)
    (hx : edTgtGet v t = edServe t c.1 c.2 x) (h : Arbitrated (noted c.1 v) u) : Claimed t c x s u := by
  obtain ⟨ho, hl, hs, hc, hp⟩ := noted_arbitrated hv hx h
  obtain ⟨hs', hc', hp'⟩ := edServe_lists t c.1 c.2 x
  exact ⟨ho, hl, fun h5 => hs.trans (hs' h5), fun h5 => hc.trans (hc' h5), hp.trans hp'⟩

theorem claim_shared {s : State} {t : Nat} {c : Nat × Nat} (hb : bestCand (edCands s t) = some c) (hid : c.1 < 376) :
    Claimed t c (edTgtGet (claiming t s) t) s (edClaim t s).2 ∧
      (edSrcGet (edClaim t s).2 c.1).inserv = some t ∧ (edSrcGet (edClaim t s).2 c.1).sig = none := by
  rw [edClaim_some hb, edTake_shared hid]
  refine ⟨claimed_of (by rfl) (edTgtGet_set_same ..) (edLine_arbitrated t _), ?_⟩
  rw [edLine_other t _ hid]
  have hs (v : State) (x : EdSrc) (y : EdTgt) (id : Nat) : edSrcGet (noted id (edTgtSet t y (edSrcSet c.1 x v))) c.1 = x :=
    edSrcGet_set_same ..
  rw [hs]
  exact ⟨rfl, rfl⟩

theorem claim_local {s : State} {t : Nat} {c : Nat × Nat} (hb : bestCand (edCands s t) = some c) (hid : 0x200 ≤ c.1) :
    Claimed t c { edTgtGet (claiming t s) t with lpend := bset (edTgtGet (claiming t s) t).lpend (c.1 - 0x200) false } s (edClaim t s).2 := by
  rw [edClaim_some hb, edTake_local hid]
  exact claimed_of (by rfl) (edTgtGet_set_same ..) (edLine_arbitrated t _)

theorem claim_takes {s : State} {t : Nat} {c : Nat × Nat} (hc : c ∈ edCands s t) (hid : c.1 < 376 ∨ 0x200 ≤ c.1)
    (h : ∀ x ∈ edCands s t, x = c ∨ x.2 < c.2) :
    let u := (edClaim t s).2
    OnlyEd s u ∧ u.ed.lastClaim = c.1 ∧ (c.1 < 0x200 → (edSrcGet u c.1).inserv = some t ∧ (edSrcGet u c.1).sig = none) ∧
      (0x200 ≤ c.1 → bget (edTgtGet u t).lpend (c.1 - 0x200) = false) ∧
      (t < 5 → (edTgtGet u t).stack = (c.2, c.1) :: (edTgtGet s t).stack) ∧
      (5 ≤ t → (edTgtGet u t).claimed = (c.2, c.1) :: (edTgtGet s t).claimed) := by
  have hb := bestCand_eq hc h
  intro u
  obtain hid | hid := hid
  · obtain ⟨hcl, hs⟩ := claim_shared hb hid
    have hst := hcl.stack
    have hcd := hcl.claimed
    rw [claiming_tgt] at hst hcd
    exact ⟨hcl.only, hcl.last, fun _ => hs, fun h2 => absurd hid (by omega), hst, hcd⟩
  · have hcl := claim_local hb hid
    have hst := hcl.stack
    have hcd := hcl.claimed
    have hlp := hcl.lpend
    rw [claiming_tgt] at hst hcd hlp
    exact ⟨hcl.only, hcl.last, fun h2 => absurd hid (by omega), fun _ => by rw [hlp, bget_bset_clear]; simp, hst, hcd⟩

/-! ### Completions (O58) -/

theorem edFree_arbitrated (id : Nat) (s : State) : ∃ v, Arbitrated v (edFree id s) ∧ DistributorOnly s v ∧ v.ed.flags = s.ed.flags ∧
    (∀ t, edTgtGet v t = edTgtGet s t) ∧ (id < 384 → (edSrcGet v id).inserv = none) := by
  unfold edFree
  split
  · exact ⟨_, edSync_arbitrated .., ⟨_, rfl⟩, rfl, fun _ => rfl, fun _ => by rw [edSrcGet_set_same]⟩
  case isFalse h => exact ⟨s, .refl s, .refl s, rfl, fun _ => rfl, fun h' => absurd h' h⟩

theorem complete_arbitrated (t : Nat) (s : State) : Arbitrated s (edLine t (edArbitrate s)) :=
  (edArbitrate_arbitrated s).trans (edLine_arbitrated ..)

/-- A source freed, and the arbitration after it. -/
theorem freed_spec {id t : Nat} {s u : State} (h : Arbitrated (edFree id s) u) :
    DistributorOnly s u ∧ u.ed.flags = s.ed.flags ∧ (edTgtGet u t).settled = (edTgtGet s t).settled ∧
      (id < 384 → (edSrcGet u id).inserv = none) := by
  obtain ⟨v, hv, ho, hf, ht, hi⟩ := edFree_arbitrated id s
  have ha := hv.trans h
  exact ⟨ho.trans ha.only, ha.flags.trans hf, (ha.tgt t).trans (congrArg EdTgt.settled (ht t)),
    fun hid => (congrArg EdSrc.inserv (ha.src id)).trans (hi hid)⟩

theorem edPop_pops {t id l n : Nat} {rest : List (Nat × Nat)} {s : State} (hid : idValid id = true)
    (hs : (edTgtGet s t).stack = (l, n) :: rest) :
    edPop t id s = edFree n (edTgtSet t { edTgtGet s t with stack := rest } (if n = id then s else edErr s)) := by
  unfold edPop
  dsimp only
  rw [hs]
  exact if_neg (by rw [hid]; exact Bool.false_ne_true)

theorem edPop_empty {t : Nat} (id : Nat) {s : State} (hs : (edTgtGet s t).stack = []) : edPop t id s = edErr s := by
  unfold edPop
  dsimp only
  rw [hs]

theorem pop_spec {t id l n : Nat} {rest : List (Nat × Nat)} {s u : State} (hid : idValid id = true)
    (hs : (edTgtGet s t).stack = (l, n) :: rest) (h : Arbitrated (edPop t id s) u) :
    OnlyEd s u ∧ (edTgtGet u t).stack = rest ∧ (n < 384 → (edSrcGet u n).inserv = none) ∧
      u.ed.eoiErr = (if n = id then s.ed.eoiErr else satAdd 16 s.ed.eoiErr 1) := by
  rw [edPop_pops hid hs] at h
  obtain ⟨ho, hf, ht, hi⟩ := freed_spec (t := t) h
  rw [edTgtGet_set_same] at ht
  have hv : DistributorOnly s (edTgtSet t { edTgtGet s t with stack := rest } (if n = id then s else edErr s)) := by
    split
    · exact ⟨_, rfl⟩
    · exact ⟨_, rfl⟩
  refine ⟨(hv.trans ho).onlyEd, congrArg EdTgt.stack ht, hi, (congrArg EdFlags.eoiErr hf).trans ?_⟩
  split <;> rfl

theorem err_spec {s u : State} (h : Arbitrated (edErr s) u) :
    OnlyEd s u ∧ u.ed.eoiErr = satAdd 16 s.ed.eoiErr 1 ∧ ∀ t, (edTgtGet u t).claimed = (edTgtGet s t).claimed :=
  ⟨(DistributorOnly.trans ⟨_, rfl⟩ h.only).onlyEd, congrArg EdFlags.eoiErr h.flags, fun t => (EdTgt.lists_of_settled (h.tgt t)).2.1⟩

theorem drop_spec {t id l : Nat} {s u : State} (hm : (l, id) ∈ (edTgtGet s t).claimed) (h : Arbitrated (edDrop t id s) u) :
    OnlyEd s u ∧ u.ed.eoiErr = s.ed.eoiErr ∧ (edTgtGet u t).claimed.length + 1 = (edTgtGet s t).claimed.length ∧
      (id < 384 → (edSrcGet u id).inserv = none) := by
  obtain ⟨e, he⟩ : ∃ e, (edTgtGet s t).claimed.find? (fun e => e.2 == id) = some e := by
    cases hf : (edTgtGet s t).claimed.find? (fun e => e.2 == id) with
    | none => exact absurd (List.find?_eq_none.1 hf _ hm) (by simp)
    | some e => exact ⟨e, rfl⟩
  have hd : edDrop t id s = edFree id (edTgtSet t { edTgtGet s t with claimed := (edTgtGet s t).claimed.erase e } s) := by
    unfold edDrop
    dsimp only
    rw [he]
  rw [hd] at h
  obtain ⟨ho, hf, ht, hi⟩ := freed_spec (t := t) h
  rw [edTgtGet_set_same] at ht
  refine ⟨(DistributorOnly.trans ⟨_, rfl⟩ ho).onlyEd, congrArg EdFlags.eoiErr hf, ?_, hi⟩
  have hl := List.length_erase_of_mem (List.mem_of_find?_eq_some he)
  have hp := List.length_pos_of_mem hm
  have hc : (edTgtGet u t).claimed = (edTgtGet s t).claimed.erase e := congrArg EdTgt.claimed ht
  rw [hc]
  omega

theorem edDrop_unknown {t id : Nat} {s : State} (hm : ∀ e ∈ (edTgtGet s t).claimed, e.2 ≠ id) : edDrop t id s = edErr s := by
  have hf : (edTgtGet s t).claimed.find? (fun e => e.2 == id) = none :=
    List.find?_eq_none.2 fun e he => by simpa using hm e he
  unfold edDrop
  dsimp only
  rw [hf]

theorem edComplete_data {t : Nat} (ht : t < 5) (id : Nat) (s : State) : Arbitrated (edPop t id s) (edComplete t id s) := by
  unfold edComplete
  rw [if_pos (by simpa [dataClass] using ht)]
  exact complete_arbitrated ..

theorem edComplete_system {t : Nat} (ht : 5 ≤ t) (id : Nat) (s : State) : Arbitrated (edDrop t id s) (edComplete t id s) := by
  unfold edComplete
  rw [if_neg (by simpa [dataClass] using ht)]
  exact complete_arbitrated ..

/-- Settles O58: it holds. -/
theorem claimsAndCompletions : Obligations.ClaimsAndCompletions := by
  unfold Obligations.ClaimsAndCompletions
  refine ⟨fun s tg hm => ⟨fun he => ⟨_, acts hm, claim_nothing he⟩, fun c hc hid h => ⟨_, acts hm, claim_takes hc hid h⟩⟩,
    fun s tg w hm hv => ?_⟩
  have up := hostUp_of hm hv
  have hid : fld w.toNat 0 10 = w.toNat % 1024 := by simp [fld]
  intro id
  refine ⟨fun ht hi l n rest hs => ⟨_, acts up, hid ▸ pop_spec hi hs (edComplete_data ht ..)⟩, fun ht hs => ⟨_, acts up, ?_⟩,
    fun ht l hc => ⟨_, acts up, hid ▸ drop_spec hc (edComplete_system ht ..)⟩, fun ht hc => ⟨_, acts up, ?_⟩⟩
  · have ha := edComplete_data ht (fld w.toNat 0 10) s
    rw [edPop_empty _ hs] at ha
    obtain ⟨ho, he, _⟩ := err_spec ha
    exact ⟨ho, he⟩
  · have ha := edComplete_system ht (fld w.toNat 0 10) s
    rw [hid, edDrop_unknown hc] at ha
    obtain ⟨ho, he, hcl⟩ := err_spec ha
    exact hid ▸ ⟨ho, he, hcl _⟩

end Sys2Proof.Machine
end

section
/-! PROOF. O59: the CRC units. A post writes the unit's outcome and result, and leaves the other fields of the unit; a scan's words move
only the running value and the unit's place in the range. First the responses to commands that carry a write. -/

namespace Sys2Proof.Machine

-- One after another the proofs need less memory than all at once.
set_option Elab.async false

/-! ### Responses (R405) -/

/-- From `s` to `u` only the link may differ. -/
def LinkOnly (s u : State) : Prop := ∃ z, u = { s with zl := z }

theorem LinkOnly.refl (s : State) : LinkOnly s s := ⟨s.zl, rfl⟩

theorem LinkOnly.trans {s t u : State} (h₁ : LinkOnly s t) (h₂ : LinkOnly t u) : LinkOnly s u := by
  obtain ⟨_, rfl⟩ := h₁
  obtain ⟨_, rfl⟩ := h₂
  exact ⟨_, rfl⟩

theorem LinkOnly.foldl {α : Type} {f : State → α → State} (hf : ∀ s x, LinkOnly s (f s x)) (l : List α) (s : State) :
    LinkOnly s (l.foldl f s) := by
  induction l generalizing s with
  | nil => exact .refl s
  | cons x l ih => exact (hf s x).trans (ih _)

theorem zpPut_linkOnly (p : Nat) (x : Zp) (s : State) : LinkOnly s (zpPut p x s) := by
  unfold zpPut
  split <;> exact ⟨_, rfl⟩

theorem zpUpd_linkOnly (p : Nat) (f : Zp → Zp) (s : State) : LinkOnly s (zpUpd p f s) := zpPut_linkOnly ..

theorem transmit_linkOnly (p : Nat) (x : ZlQ) (at_ : Nat) (s : State) : LinkOnly s (transmit p x at_ s) :=
  .trans (zpUpd_linkOnly ..) ⟨_, rfl⟩

theorem portSend_linkOnly (p : Nat) (x : ZlQ) (s : State) : LinkOnly s (portSend p x s) := by
  unfold portSend
  split
  · exact .refl s
  split
  · exact .trans (zpUpd_linkOnly ..) ⟨_, rfl⟩
  · exact transmit_linkOnly ..

theorem originate_linkOnly (type dmode dst : Nat) (ports : List Nat) (body : List Byte) (s : State) :
    LinkOnly s (originate type dmode dst ports body s) :=
  .trans ⟨_, rfl⟩ (.foldl (fun _ _ => portSend_linkOnly ..) ports _)

/-- A response is noted for its path; over the link it leaves as a frame. -/
theorem answer_says {s : State} (hm : s.sys.mgmtUp = true) (hv : s.sup.vstate ≠ 2) (p : Path) (r : DictRsp) :
    LinkOnly { s with dc := { s.dc with rsps := s.dc.rsps ++ [(p, r)] } } (answer p r s) := by
  unfold answer
  rw [if_neg (by simp [hm, hv])]
  dsimp only
  split
  · exact .refl _
  · refine .trans ?_ (originate_linkOnly ..)
    split
    · exact .refl _
    · exact ⟨_, rfl⟩

theorem answer_host {s : State} (hm : s.sys.mgmtUp = true) (hv : s.sup.vstate ≠ 2) (r : DictRsp) :
    answer .host r s = { s with dc := { s.dc with rsps := s.dc.rsps ++ [(.host, r)] } } := by
  unfold answer
  rw [if_neg (by simp [hm, hv])]

theorem writeCmd_up {s : State} (hm : s.sys.mgmtUp = true) (hv : s.sup.vstate ≠ 2) (p : Path) (i sub n : Nat) (f : State → Nat × State) :
    writeCmd p i sub n f s = answerWrite p i sub n (f s) := by
  unfold writeCmd
  exact if_pos (by simp [hm, hv])

/-- A write's response, where its operation leaves the server, the management plane and the supply. -/
theorem answerWrite_responds {r : Nat × State} {s : State} (hm : r.2.sys.mgmtUp = true) (hv : r.2.sup.vstate ≠ 2)
    (hd : r.2.dc.rsps = s.dc.rsps) (p : Path) (i sub n : Nat) : RespondedTo p i sub n r.1 s (answerWrite p i sub n r) := by
  obtain ⟨z, hz⟩ := answer_says hm hv p { op := 3, index := i, sub := sub, tid := 0, abort := r.1, val := if r.1 = 0 then n else 0, data := [] }
  unfold RespondedTo answerWrite
  rw [hz, ← hd]

/-! ### The units -/

theorem crcUnit_set_same (n : Fin 2) (x : Crc) (s : State) : crcUnit (crcSet n x s) n = x := by
  unfold crcUnit crcSet
  split <;> rfl

/-- From `s` to `u` only results and the event distributor may differ. -/
def ReportsOnly (s u : State) : Prop := ∃ e r g, u = { s with ed := e, res := r, regs := g }

theorem ReportsOnly.refl (s : State) : ReportsOnly s s := ⟨s.ed, s.res, s.regs, rfl⟩

theorem ReportsOnly.trans {s t u : State} (h₁ : ReportsOnly s t) (h₂ : ReportsOnly t u) : ReportsOnly s u := by
  obtain ⟨_, _, _, rfl⟩ := h₁
  obtain ⟨_, _, _, rfl⟩ := h₂
  exact ⟨_, _, _, rfl⟩

theorem ReportsOnly.foldl {α : Type} {f : State → α → State} (hf : ∀ s x, ReportsOnly s (f s x)) (l : List α) (s : State) :
    ReportsOnly s (l.foldl f s) := by
  induction l generalizing s with
  | nil => exact .refl s
  | cons x l ih => exact (hf s x).trans (ih _)

theorem DistributorOnly.reports {s u : State} (h : DistributorOnly s u) : ReportsOnly s u := by
  obtain ⟨_, rfl⟩ := h
  exact ⟨_, s.res, s.regs, rfl⟩

theorem regPuts_reportsOnly (ws : List (Nat × Nat)) (s : State) : ReportsOnly s (regPuts ws s) :=
  .foldl (f := fun s (e : Nat × Nat) => regPut e.1 e.2 s) (fun s _ => ⟨s.ed, s.res, _, rfl⟩) ws s

theorem post_reportsOnly (a low : Nat) (ws : List (Nat × Nat)) (s : State) : ReportsOnly s (post a low ws s) :=
  .trans (.trans ⟨s.ed, _, s.regs, rfl⟩ (regPuts_reportsOnly ..)) (post_distributorOnly a low ws s).reports

theorem resGet_post (a low : Nat) (ws : List (Nat × Nat)) (s : State) : resGet (post a low ws s) a = postedRes (resGet s a) := by
  obtain ⟨e, he⟩ := post_distributorOnly a low ws s
  rw [he, resGet, regPuts_res, mget_mset_same]

theorem ReportsOnly.crcUnit {s u : State} (h : ReportsOnly s u) (n : Nat) : crcUnit u n = crcUnit s n := by
  obtain ⟨_, _, _, rfl⟩ := h
  rfl

/-- What a post leaves of the unit. -/
theorem crcPost_unit (n : Fin 2) (poly outcome : Nat) (s : State) : crcUnit (crcPost n poly outcome s) n =
    { crcUnit s n with outcome := outcome, shownPoly := poly, result := BitVec.ofNat 64 (crcCheck poly (crcUnit s n)) } := by
  unfold crcPost
  exact ((post_reportsOnly ..).crcUnit n).trans (crcUnit_set_same ..)

theorem crcPost_res (n : Nat) (poly outcome : Nat) (s : State) :
    (resGet (crcPost n poly outcome s) (0x030010 + 0x40 * n)).valid = true ∧
    (resGet (crcPost n poly outcome s) (0x030010 + 0x40 * n)).fresh = true := by
  unfold crcPost
  dsimp only
  rw [resGet_post]
  exact ⟨rfl, rfl⟩

/-- The result of outcome `o` is posted and the unit is idle (R446). -/
def CrcPosted (n : Fin 2) (o : Nat) (u : State) : Prop :=
  (crcUnit u n).busy = false ∧ (crcUnit u n).outcome = o ∧
    (crcUnit u n).result = BitVec.ofNat 64 (crcCheck (crcUnit u n).shownPoly (crcUnit u n)) ∧
    (resGet u (0x030010 + 0x40 * n)).valid = true ∧ (resGet u (0x030010 + 0x40 * n)).fresh = true

theorem crcPost_posted {n : Fin 2} {s : State} (hb : (crcUnit s n).busy = false) (poly o : Nat) : CrcPosted n o (crcPost n poly o s) := by
  have hu := crcPost_unit n poly o s
  refine ⟨by rw [hu]; exact hb, by rw [hu], ?_, crcPost_res ..⟩
  rw [hu]
  rfl

theorem crcIgnored_posted {n : Fin 2} (poly : Nat) {k : Nat} (hk : k ≠ 0) {s : State} (hb : (crcUnit s n).busy = false) :
    CrcPosted n 0 (crcIgnored n poly k s) := by
  induction k generalizing s with
  | zero => exact absurd rfl hk
  | succ k ih =>
    have hp := crcPost_posted hb poly 0
    cases k with
    | zero => exact hp
    | succ k => exact ih (Nat.succ_ne_zero k) hp.1

/-- One word moves the running value and the unit's place in its range. -/
theorem crcWord_unit (n : Fin 2) (s : State) : crcUnit (crcWord n s) n = { crcUnit s n with
    sinceSwap := (crcUnit (crcWord n s) n).sinceSwap, sAddr := (crcUnit (crcWord n s) n).sAddr
    sLeft := (crcUnit (crcWord n s) n).sLeft, run := (crcUnit (crcWord n s) n).run } := by
  unfold crcWord
  dsimp only
  rw [crcUnit_set_same]

theorem crcWords_unit (n : Fin 2) (k : Nat) (s : State) : crcUnit (crcWords n k s) n = { crcUnit s n with
    sinceSwap := (crcUnit (crcWords n k s) n).sinceSwap, sAddr := (crcUnit (crcWords n k s) n).sAddr
    sLeft := (crcUnit (crcWords n k s) n).sLeft, run := (crcUnit (crcWords n k s) n).run } := by
  induction k generalizing s with
  | zero => rfl
  | succ k ih =>
    refine (ih (crcWord n s)).trans ?_
    rw [crcWord_unit]
    rfl

/-- The end of a scan with no GO ignored. -/
theorem crcEnd_posted {n : Fin 2} {s : State} (hg : (crcUnit s n).goIgnored = 0) (o : Nat) :
    CrcPosted n o (crcEnd n o s) ∧ (crcUnit (crcEnd n o s) n).shownPoly = (crcUnit s n).sPoly ∧
      (crcUnit (crcEnd n o s) n).run = (crcUnit s n).run := by
  have he : crcEnd n o s = crcPost n (crcUnit s n).sPoly o (crcSet n { crcUnit s n with busy := false, goIgnored := 0 } s) := by
    unfold crcEnd
    dsimp only
    rw [hg]
    rfl
  rw [he]
  refine ⟨crcPost_posted (by rw [crcUnit_set_same]) .., ?_⟩
  rw [crcPost_unit, crcUnit_set_same]
  exact ⟨rfl, rfl⟩

theorem crcEnd_ignored {n : Fin 2} {s : State} (hg : (crcUnit s n).goIgnored ≠ 0) (o : Nat) : CrcPosted n 0 (crcEnd n o s) :=
  crcIgnored_posted _ hg (crcPost_posted (by rw [crcUnit_set_same]) ..).1

/-! ### Commands -/

section Idle

variable {n : Fin 2} {s : State} (hm : s.sys.mgmtUp = true) (hb : (crcUnit s n).busy = false)

include hm

theorem crcGo_busy (hb : (crcUnit s n).busy = true) (init : Bool) :
    crcGo n init s = crcSet n { crcUnit s n with goIgnored := (crcUnit s n).goIgnored + 1 } s := by
  simp [crcGo, hm, hb]

include hb

theorem crcGo_empty (hl : (crcUnit s n).len = 0) (init : Bool) : crcGo n init s = crcPost n (crcUnit s n).poly 1 s := by
  simp [crcGo, hm, hb, hl]

theorem crcGo_rejected (hl : (crcUnit s n).len ≠ 0) (hr : crcRangeOk (crcUnit s n).start (crcUnit s n).len = false) (init : Bool) :
    crcGo n init s = crcPost n (crcUnit s n).poly 2 s := by
  simp [crcGo, hm, hb, hl, hr]

theorem crcGo_starts (hl : (crcUnit s n).len ≠ 0) (hr : crcRangeOk (crcUnit s n).start (crcUnit s n).len = true) (init : Bool) :
    crcGo n init s = crcSet n { crcUnit s n with
      busy := true, sPoly := (crcUnit s n).poly, sAddr := (crcUnit s n).start, sLeft := (crcUnit s n).len
      run := BitVec.ofNat 64 (if init then crcInit (crcUnit s n).poly else crcRun (crcUnit s n).poly (crcUnit s n)) } s := by
  simp [crcGo, hm, hb, hl, hr]

theorem crcRunLatch_idle : crcRunLatch n (crcProgress n s) =
    crcSet n { crcUnit s n with runHiLatch := BitVec.ofNat 32 (crcShown (crcUnit s n) / 2 ^ 32) } s := by
  have hp : crcProgress n s = s := if_neg (by rw [hb]; exact Bool.false_ne_true)
  have hf : BitVec.ofNat 32 (fld (crcShown (crcUnit s n)) 32 32) = BitVec.ofNat 32 (crcShown (crcUnit s n) / 2 ^ 32) :=
    BitVec.eq_of_toNat_eq (by simp [fld])
  rw [hp, crcRunLatch, if_pos hm, hf]

end Idle

theorem crcDone_busy {n : Fin 2} {s : State} (hb : (crcUnit s n).busy = true) :
    crcDone n s = crcEnd n 1 (crcWords n (ceilDiv (crcUnit s n).sLeft 4) s) := if_pos hb

theorem crcStop_busy {n : Fin 2} {s : State} (hb : (crcUnit s n).busy = true) :
    crcStop n s = crcEnd n 3 (crcWords n (freeNow s % (ceilDiv (crcUnit s n).sLeft 4 + 1)) (drawn s)) := by
  unfold crcStop crcProgress
  rw [if_pos hb, if_pos hb]

theorem crcWords_ignored (n : Fin 2) (k : Nat) (s : State) : (crcUnit (crcWords n k s) n).goIgnored = (crcUnit s n).goIgnored := by
  rw [crcWords_unit]

theorem crcRunWrite_responds {n : Fin 2} {s : State} (hm : s.sys.mgmtUp = true) (hv : s.sup.vstate ≠ 2) {r : Nat × State} {x : Crc}
    (hr : r.2 = crcSet n x s) : crcUnit (answerWrite .host 0x1700 (5 + 0x10 * n) 8 r) n = x ∧
      RespondedTo .host 0x1700 (5 + 0x10 * n) 8 r.1 s (answerWrite .host 0x1700 (5 + 0x10 * n) 8 r) := by
  have hk : (crcSet n x s).sys = s.sys ∧ (crcSet n x s).sup = s.sup ∧ (crcSet n x s).dc = s.dc := by
    unfold crcSet
    split <;> exact ⟨rfl, rfl, rfl⟩
  obtain ⟨hsys, hsup, hdc⟩ := hk
  have hm' : r.2.sys.mgmtUp = true := by rw [hr, hsys, hm]
  have hv' : r.2.sup.vstate ≠ 2 := by rw [hr, hsup]; exact hv
  refine ⟨?_, answerWrite_responds hm' hv' (by rw [hr, hdc]) ..⟩
  unfold answerWrite
  rw [answer_host hm' hv', hr]
  exact crcUnit_set_same n x s

theorem crcSet_self (n : Fin 2) (s : State) : crcSet n (crcUnit s n) s = s := by
  unfold crcSet crcUnit
  split <;> rfl

/-- Settles O59: it holds. -/
theorem crcUnits : Obligations.CrcUnits := by
  unfold Obligations.CrcUnits
  refine ⟨fun s n init => ⟨fun hm => ⟨fun hb => ⟨_, rfl, crcGo_busy hm hb init⟩, fun hb hl => ⟨_, rfl, ?_⟩, fun hb hl hr => ⟨_, rfl, ?_⟩,
      fun hb hl hr => ⟨_, rfl, crcGo_starts hm hb hl hr init⟩⟩, fun hb hg => ⟨⟨_, rfl, ?_⟩, ⟨_, rfl, ?_⟩⟩, fun hb hg => ⟨_, rfl, ?_⟩,
      fun hb => ⟨_, rfl, if_neg (by rw [hb]; exact Bool.false_ne_true)⟩⟩,
    fun s n w v hm => ⟨fun hb => ⟨⟨_, rfl, by simp [crcRunLo, hm, hb]⟩, ⟨_, rfl, by simp [crcRunHi, hm, hb]⟩,
      ⟨_, rfl, crcRunLatch_idle hm hb⟩, fun hv => ⟨_, rfl, ?_⟩⟩,
      fun hb => ⟨⟨_, rfl, by simp [crcRunLo, hb]⟩, ⟨_, rfl, by simp [crcRunHi, hb]⟩, fun hv => ⟨_, rfl, ?_⟩⟩⟩⟩
  · rw [crcGo_empty hm hb hl]
    exact ⟨crcPost_posted hb .., by rw [crcPost_unit], crcPost_guarded ..⟩
  · rw [crcGo_rejected hm hb hl hr]
    exact ⟨crcPost_posted hb .., by rw [crcPost_unit], crcPost_guarded ..⟩
  · obtain ⟨hp, _⟩ := crcEnd_posted ((crcWords_ignored n _ (drawn s)).trans hg) 3
    rw [crcStop_busy hb]
    exact ⟨hp, by simp [Kept]⟩
  · obtain ⟨hp, hpoly, hrun⟩ := crcEnd_posted ((crcWords_ignored n (ceilDiv (crcUnit s n).sLeft 4) s).trans hg) 1
    rw [crcDone_busy hb]
    refine ⟨hp, hpoly.trans ?_, hrun, by simp [Kept]⟩
    rw [crcWords_unit]
  · rw [crcDone_busy hb]
    exact crcEnd_ignored (by rwa [crcWords_ignored]) 1
  · have hr : crcRunObj n v s = (0, crcSet n { crcUnit s n with run := v } s) := if_neg (by rw [hb]; exact Bool.false_ne_true)
    rw [writeCmd_up hm hv, hr]
    exact crcRunWrite_responds hm hv rfl
  · have hr : crcRunObj n v s = (0x0640, s) := if_pos hb
    rw [writeCmd_up hm hv, hr]
    exact crcRunWrite_responds hm hv (crcSet_self n s).symm

end Sys2Proof.Machine
end

section
/-! PROOF. O55 and O56: the host port. A read leaves the port's own record; a transfer's end writes that record and nothing else. The
register accesses go address by address, and the mailbox hands its request to the dictionary and its response to the host. -/

namespace Sys2Proof.Machine

-- One after another the proofs need less memory than all at once.
set_option Elab.async false

/-! ### Reads leave the host port's record -/

theorem fetchWord_hp (a : Nat) (s : State) : (fetchWord a s).2.hp = s.hp := by
  unfold fetchWord
  split <;> rfl

theorem crcSet_hp (n : Nat) (x : Crc) (s : State) : (crcSet n x s).hp = s.hp := by
  unfold crcSet
  split <;> rfl

theorem crcFetch_hp (x : Crc) (s : State) : (crcFetch x s).2.2.hp = s.hp := by
  unfold crcFetch
  split
  · split <;> rfl
  · exact fetchWord_hp ..

theorem crcWords_hp (n k : Nat) (s : State) : (crcWords n k s).hp = s.hp := by
  induction k generalizing s with
  | zero => rfl
  | succ k ih => exact (ih _).trans ((crcSet_hp ..).trans (crcFetch_hp ..))

theorem crcProgress_hp (n : Nat) (s : State) : (crcProgress n s).hp = s.hp := by
  unfold crcProgress
  dsimp only
  split
  · exact crcWords_hp ..
  · rfl

theorem crcRunLatch_hp (n : Nat) (s : State) : (crcRunLatch n s).hp = s.hp := by
  unfold crcRunLatch
  dsimp only
  split
  · exact crcSet_hp ..
  · rfl

theorem edSync_hp (n : Nat) (s : State) : (edSync n s).hp = s.hp := (edSync_distributorOnly n s).keeps (·.hp) fun _ _ => rfl

theorem edTake_hp (t id lvl : Nat) (s : State) : (edTake t id lvl s).2.hp = s.hp := by
  unfold edTake
  dsimp only
  split
  · split
    · exact edSync_hp ..
    · dsimp only [edTgtSet, edSrcSet]
      split <;> rfl
  · rfl

theorem edClaim_hp (t : Nat) (s : State) : (edClaim t s).2.hp = s.hp := by
  unfold edClaim
  dsimp only
  refine ((edLine_arbitrated t _).only.keeps (·.hp) fun _ _ => rfl).trans ?_
  dsimp only
  split
  · exact edTake_hp ..
  · rfl

theorem clearFresh_hp (a : Nat) (s : State) : (clearFresh a s).hp = s.hp := by
  unfold clearFresh
  dsimp only
  split
  · exact edSync_hp ..
  · rfl

theorem hostRead_hp (a : Nat) (s : State) : (hostRead a s).2.hp = s.hp := by
  unfold hostRead
  dsimp only
  split
  · rfl
  split
  · exact edClaim_hp ..
  split
  · rfl
  split
  · exact (crcRunLatch_hp ..).trans (crcProgress_hp ..)
  split
  · exact crcProgress_hp ..
  split
  · exact clearFresh_hp ..
  · exact fetchWord_hp ..

/-! ### Transfers (O55) -/

theorem hpTakes_of {s : State} (h : PortOpen s) (t : Nat) : hpTakes (advance t s) = true := by
  obtain ⟨h1, h2, h3⟩ := h
  show (s.sys.hpUp && s.sys.mgmtUp && !pinScan s) = true
  rw [h1, h2, h3]
  rfl

/-- The end of a transfer that began in `s`, with `m` and `c` shifted out, writes the port's record and nothing else. -/
theorem hpEnd_transferred {code : Nat} {ws : List Word} {cs : List Byte} {s v w : State} (hw : w = { v with hp := w.hp })
    (hh : w.hp = { v.hp with status := BitVec.ofNat 32 (hpStatusWord s), miso := ws, check := cs }) :
    Transferred code ws cs s v (hpEnd code w) := by
  unfold Transferred hpEnd
  dsimp only
  rw [hw]
  dsimp only
  rw [hh]
  refine ⟨rfl, rfl, rfl, rfl, rfl, rfl, rfl, ?_, ?_⟩
  · simp only [Bool.or_eq_true, beq_iff_eq]
  · simp only [Bool.and_eq_true, Bool.not_eq_true', Bool.or_eq_false_iff, beq_eq_false_iff_ne, bne_iff_ne, ← not_or]
    rw [← ite_not]
    exact if_congr (by tauto) rfl rfl

theorem hpBegin_only (h : SpiHead) (i : Bool) (s : State) : hpBegin h i s = { s with hp := (hpBegin h i s).hp } := rfl

theorem hpBegin_hp (h : SpiHead) (i : Bool) (s : State) :
    (hpBegin h i s).hp = { s.hp with
      status := BitVec.ofNat 32 (hpStatusWord s), miso := [], check := if h.crc && !i then [hcrcByte (hpStatusWord s)] else [] } := rfl

theorem hpBegin_crcOnly (h : SpiHead) (i : Bool) (s : State) : (hpBegin h i s).hp.crcOnly = s.hp.crcOnly := by
  rw [hpBegin_hp]

/-- The header's problem does not depend on how the transfer began. -/
theorem headerCode_begin (h0 : SpiHead) (i0 : Bool) (s : State) (op : Nat) (h : SpiHead) (b : Byte) (i e : Bool) :
    headerCode (hpBegin h0 i0 s) op h b i e = headerCode s op h b i e := by
  unfold headerCode
  rw [hpBegin_crcOnly]

/-- A transfer that ends behind its header, or inside it. -/
theorem begun_transferred (code : Nat) (h : SpiHead) (i : Bool) (s : State) :
    Transferred code [] (if h.crc && !i then [hcrcByte (hpStatusWord s)] else []) s s (hpEnd code (hpBegin h i s)) :=
  hpEnd_transferred (hpBegin_only h i s) (hpBegin_hp h i s)

theorem hpBegin_check (h : SpiHead) (s : State) : (if h.crc && !false then [hcrcByte (hpStatusWord s)] else []) = statusCheck h s := by
  unfold statusCheck
  rw [Bool.not_false, Bool.and_true]

/-- A transfer that ends behind its whole header. -/
theorem headed_transferred (code : Nat) (h : SpiHead) (s : State) :
    Transferred code [] (statusCheck h s) s s (hpEnd code (hpBegin h false s)) :=
  hpBegin_check h s ▸ begun_transferred code h false s

/-- A transfer that ends inside its header. -/
theorem cut_transferred (code : Nat) (h : SpiHead) (s : State) : Transferred code [] [] s s (hpEnd code (hpBegin h true s)) := by
  have e := begun_transferred code h true s
  rwa [Bool.not_true, Bool.and_false, if_neg Bool.false_ne_true] at e

/-- A header that passes has no problem. -/
theorem headerCode_ok {s : State} {op : Nat} {h : SpiHead} {b : Byte} {i : Bool} (hh : HeaderOk s op h b i) (exempt : Bool) :
    headerCode s op h b i exempt = 0 := by
  obtain ⟨rfl, h1, h2⟩ := hh
  unfold headerCode
  cases hc : h.crc with
  | true => simp [h1 hc]
  | false => simp [h2 hc]

/-- A READ whose header passes. -/
theorem hpRead_ok {s : State} (ht : hpTakes s = true) {r : SpiRead} (hh : HeaderOk s 0 r.head r.hcrc r.inHeader) :
    hpRead r s = hpEnd (hpReadRun r (hpBegin r.head false s)).1 (hpReadRun r (hpBegin r.head false s)).2 := by
  unfold hpRead
  dsimp only
  rw [ht, Bool.not_true, if_neg Bool.false_ne_true, headerCode_begin, headerCode_ok hh, if_neg (not_not_intro rfl), hh.1]

/-- A READ whose header has a problem. -/
theorem hpRead_bad {s : State} (ht : hpTakes s = true) {r : SpiRead} {c : Nat} (hc : c ≠ 0)
    (hh : headerCode s 0 r.head r.hcrc r.inHeader false = c) : hpRead r s = hpEnd c (hpBegin r.head r.inHeader s) := by
  unfold hpRead
  dsimp only
  rw [ht, Bool.not_true, if_neg Bool.false_ne_true, headerCode_begin, hh, if_pos hc]

/-- One word read. -/
theorem readWords_one (inc : Bool) (a : Nat) (s : State) :
    readWords inc 1 a s = (if addrOk a then 0 else lastAddr, [(hostRead a s).1], (hostRead a s).2) := by
  unfold readWords readWords
  by_cases h : addrOk a = true <;> simp [h, firstCode, lastAddr]

theorem hpBegin_ex (h : SpiHead) (i : Bool) (s : State) : (hpBegin h i s).ex = s.ex := by rw [hpBegin_only]

theorem hpBegin_sys (h : SpiHead) (i : Bool) (s : State) : (hpBegin h i s).sys = s.sys := by rw [hpBegin_only]

theorem readSwaps_begin (r : SpiRead) (h : SpiHead) (i : Bool) (s : State) : readSwaps r (hpBegin h i s) = readSwaps r s := by
  rw [readSwaps, readSwaps, hpBegin_ex, hpBegin_sys]

/-- One word shifted out after a read that left the port's record as the header had set it. -/
theorem shiftOut_transferred {s v : State} {h : SpiHead} (hv : v.hp = (hpBegin h false s).hp) (code w : Nat) :
    Transferred code [BitVec.ofNat 32 w] (statusCheck h s ++ wordCheck h w) s v (hpEnd code (shiftOut h [w] v)) := by
  refine hpEnd_transferred rfl ?_
  unfold shiftOut wordCheck
  dsimp only
  rw [hv, hpBegin_hp, hpBegin_check]
  congr 2
  cases h.inc <;> rfl

/-- The ones that a READ with too few wait bytes shows (R419). -/
theorem shiftOnes_transferred (code n : Nat) (h : SpiHead) (s : State) :
    Transferred code (List.replicate n 0xFFFFFFFF) (statusCheck h s ++ if h.crc then List.replicate n 0xFF else []) s s
      (hpEnd code (shiftOnes h n (hpBegin h false s))) := by
  refine hpEnd_transferred (by rw [hpBegin_only]; rfl) ?_
  unfold shiftOnes
  dsimp only
  rw [hpBegin_hp, hpBegin_check]

section Read

variable {r : SpiRead} {s : State} (hw : r.words = 1)

include hw in
/-- A READ of one word outside a buffer swap. -/
theorem hpReadRun_one (hb : waitBad r = false) (hs : readSwaps r s = false) :
    hpReadRun r s = (if addrOk r.head.addr then 0 else lastAddr, shiftOut r.head [(hostRead r.head.addr s).1] (hostRead r.head.addr s).2) := by
  unfold hpReadRun
  rw [hb, hw, readWords_one, hs]
  rfl

include hw in
/-- During a buffer swap the word may come from the other buffer (KL-01). -/
theorem hpReadRun_swap (hb : waitBad r = false) (hs : readSwaps r s = true) :
    hpReadRun r s = (if addrOk r.head.addr then 0 else lastAddr,
      shiftOut r.head (swapWord r (hostRead r.head.addr s).2 [(hostRead r.head.addr s).1]) (drawn (hostRead r.head.addr s).2)) := by
  unfold hpReadRun
  rw [hb, hw, readWords_one, hs]
  rfl

include hw in
theorem swapWord_one (w : Nat) : ∃ w', swapWord r s [w] = [w'] ∧
    (w' = w ∨ w' = regRead s (otherBuffer r.head.addr) ∧ 0x100000 ≤ r.head.addr ∧ r.head.addr < 0x400000) := by
  unfold swapWord
  rw [hw]
  rcases Nat.mod_two_eq_zero_or_one (freeNow s) with hk | hk
  · rw [hk]
    dsimp only
    rw [Nat.mul_zero, Nat.add_zero, ite_self]
    split
    · next hr => exact ⟨_, rfl, .inr ⟨rfl, hr.1, hr.2.1⟩⟩
    · exact ⟨_, rfl, .inl rfl⟩
  · rw [hk]
    exact ⟨w, ite_self _, .inl rfl⟩

end Read

theorem hostRead_hole {a : Nat} {s : State} (h : addrOk a = false) : hostRead a s = (0, s) := by
  unfold hostRead
  rw [h]
  rfl

theorem firstCode_zero (n : Nat) : firstCode n 0 = n := by
  unfold firstCode
  split
  · next h => exact h.symm
  · rfl

section Transfers

variable {s : State} (hp : PortOpen s) (t : Nat)
include hp

/-- O55: a READ whose header passes. -/
theorem hpRead_transfers {r : SpiRead} (hh : HeaderOk s 0 r.head r.hcrc r.inHeader) :
    let A := advance t s
    let v := hostRead r.head.addr (hpBegin r.head false A)
    let code := if addrOk r.head.addr then 0 else lastAddr
    (waitBad r = false → r.words = 1 → readSwaps r A = false → Answers (.hpRead t r) s
      (Transferred code [BitVec.ofNat 32 v.1] (statusCheck r.head A ++ wordCheck r.head v.1) A v.2)) ∧
    (waitBad r = false → r.words = 1 → readSwaps r A = true → Answers (.hpRead t r) s fun u =>
      ∃ w, (w = v.1 ∨ (w = regRead v.2 (otherBuffer r.head.addr) ∧ 0x100000 ≤ r.head.addr ∧ r.head.addr < 0x400000)) ∧
        Transferred code [BitVec.ofNat 32 w] (statusCheck r.head A ++ wordCheck r.head w) A (drawn v.2) u) ∧
    (waitBad r = false → r.words = 1 → addrOk r.head.addr = false → v = (0, hpBegin r.head false A)) ∧
    (waitBad r = true → Answers (.hpRead t r) s (Transferred lastWait (List.replicate r.words 0xFFFFFFFF)
      (statusCheck r.head A ++ if r.head.crc then List.replicate r.words 0xFF else []) A A)) := by
  intro A v code
  have run := hpRead_ok (hpTakes_of hp t) (s := A) hh
  refine ⟨fun hb hw hs => ⟨_, rfl, ?_⟩, fun hb hw hs => ⟨_, rfl, ?_⟩, fun _ _ ha => hostRead_hole ha, fun hb => ⟨_, rfl, ?_⟩⟩
  · rw [run, hpReadRun_one hw hb ((readSwaps_begin ..).trans hs)]
    exact shiftOut_transferred (hostRead_hp ..) ..
  · rw [run, hpReadRun_swap hw hb ((readSwaps_begin ..).trans hs)]
    obtain ⟨w, he, ho⟩ := swapWord_one (s := v.2) hw v.1
    rw [he]
    exact ⟨w, ho, shiftOut_transferred ((drawn_hp _).trans (hostRead_hp ..)) ..⟩
  · rw [run]
    unfold hpReadRun
    rw [hb, if_pos rfl]
    exact shiftOnes_transferred ..

/-- O55: a READ whose header fails. -/
theorem hpRead_fails (r : SpiRead) :
    let A := advance t s
    (r.inHeader = true → Answers (.hpRead t r) s (Transferred lastPartial [] [] A A)) ∧
    (r.inHeader = false → r.head.crc = true → hcrcOk 0 r.head r.hcrc = false →
      Answers (.hpRead t r) s (Transferred lastHcrc [] (statusCheck r.head A) A A)) ∧
    (r.inHeader = false → r.head.crc = false → s.hp.crcOnly = true → Answers (.hpRead t r) s (Transferred lastCrcreq [] [] A A)) := by
  intro A
  have ht := hpTakes_of hp t
  refine ⟨fun hi => ⟨_, rfl, ?_⟩, fun hi hc hb => ⟨_, rfl, ?_⟩, fun hi hc ho => ⟨_, rfl, ?_⟩⟩
  · rw [hpRead_bad ht (c := lastPartial) (by decide) (if_pos hi), hi]
    exact cut_transferred ..
  · rw [hpRead_bad ht (c := lastHcrc) (by decide) (by simp [headerCode, hi, hc, hb]), hi]
    exact headed_transferred ..
  · rw [hpRead_bad ht (c := lastCrcreq) (by decide) (by simp [headerCode, hi, hc, ho]), hi]
    have e := headed_transferred lastCrcreq r.head A
    rwa [statusCheck, hc, if_neg Bool.false_ne_true] at e

omit hp in
/-- A WRITE of one whole word. -/
theorem hpWrite_one {s : State} (ht : hpTakes s = true) {h : SpiHead} {hc dc : Byte} {w : Word} :
    hpWrite ⟨h, hc, [(w, dc)], false, false⟩ s =
      if headerCode s 1 h hc false false ≠ 0 then hpEnd (headerCode s 1 h hc false false) (hpBegin h false s)
      else if h.crc && dc != dcrcByte h.addr w.toNat then hpEnd lastDcrc (hpBegin h false s)
      else hpEnd (hostWrite h.addr w.toNat (hpBegin h false s)).1 (hostWrite h.addr w.toNat (hpBegin h false s)).2 := by
  unfold hpWrite
  dsimp only
  rw [ht, Bool.not_true, if_neg Bool.false_ne_true, headerCode_begin]
  unfold writeWords
  split
  · rfl
  split
  · rfl
  · unfold writeWords
    dsimp only
    rw [firstCode_zero, if_neg Bool.false_ne_true, firstCode_zero]

/-- O55: a WRITE of one word. -/
theorem hpWrite_transfers (h : SpiHead) (w : Word) (hc dc : Byte) :
    let A := advance t s
    let x : SpiWrite := ⟨h, hc, [(w, dc)], false, false⟩
    let v := hostWrite h.addr w.toNat (hpBegin h false A)
    (HeaderOk s 1 h hc false →
      (h.crc = false ∨ dc = dcrcByte h.addr w.toNat → Answers (.hpWrite t x) s fun u => u = { v.2 with hp := u.hp } ∧ u.hp.last = v.1 ∧
        u.hp.tcount = (v.2.hp.tcount + 1) % 256 ∧ u.hp.miso = v.2.hp.miso) ∧
      (h.crc = true → dc ≠ dcrcByte h.addr w.toNat →
        Answers (.hpWrite t x) s (Transferred lastDcrc [] (statusCheck h A) A A))) ∧
    (h.crc = true → hcrcOk 1 h hc = false → Answers (.hpWrite t x) s (Transferred lastHcrc [] (statusCheck h A) A A)) := by
  intro A x v
  have run := hpWrite_one (hpTakes_of hp t) (s := A) (h := h) (hc := hc) (dc := dc) (w := w)
  refine ⟨fun hh => ⟨fun hd => ⟨_, rfl, ?_⟩, fun hcr hd => ⟨_, rfl, ?_⟩⟩, fun hcr hb => ⟨_, rfl, ?_⟩⟩
  · have hok : headerCode A 1 h hc false false = 0 := headerCode_ok hh false
    have hd' : (h.crc && dc != dcrcByte h.addr w.toNat) = false := by rcases hd with hd | hd <;> simp [hd]
    rw [run, hok, if_neg (not_not_intro rfl), hd', if_neg Bool.false_ne_true]
    exact ⟨rfl, rfl, rfl, rfl⟩
  · have hok : headerCode A 1 h hc false false = 0 := headerCode_ok hh false
    rw [run, hok, if_neg (not_not_intro rfl), if_pos (by simp [hcr, hd])]
    exact headed_transferred ..
  · have hbad : headerCode A 1 h hc false false = lastHcrc := by simp [headerCode, hcr, hb]
    rw [run, hbad, if_pos (by decide)]
    exact headed_transferred ..

/-- O55: STATUS and the operation that is not defined. -/
theorem hpStatus_transfers (h : SpiHead) (hc : Byte) :
    let A := advance t s
    (h.crc = false ∨ hcrcOk 2 h hc = true → Answers (.hpStatusCmd t h hc false) s (Transferred 0 [] (statusCheck h A) A A)) ∧
    Answers (.hpStatusCmd t h hc true) s (Transferred lastPartial [] [] A A) ∧
    (HeaderOk s 3 h hc false → Answers (.hpBadcmd t h hc) s (Transferred lastBadcmd [] (statusCheck h A) A A)) := by
  intro A
  have ht : hpTakes A = true := hpTakes_of hp t
  refine ⟨fun hb => ⟨_, rfl, ?_⟩, ⟨_, rfl, ?_⟩, fun hh => ⟨_, rfl, ?_⟩⟩
  · unfold hpStatusCmd
    dsimp only
    have hok : headerCode A 2 h hc false true = 0 := by rcases hb with hb | hb <;> simp [headerCode, hb]
    rw [if_pos ht, headerCode_begin, hok]
    exact headed_transferred ..
  · unfold hpStatusCmd
    dsimp only
    rw [if_pos ht, headerCode_begin, show headerCode A 2 h hc true true = lastPartial from if_pos rfl]
    exact cut_transferred ..
  · unfold hpBadcmd
    dsimp only
    have hok : headerCode A 3 h hc false false = 0 := headerCode_ok hh false
    rw [if_pos ht, headerCode_begin, hok]
    exact headed_transferred ..

end Transfers

/-- Settles O55: it holds. -/
theorem hostTransfers : Obligations.HostTransfers := by
  unfold Obligations.HostTransfers
  refine ⟨fun s t r hp => ⟨hpRead_transfers hp t, hpRead_fails hp t r⟩, fun s t h w hc dc hp => ?_⟩
  obtain ⟨hw, hb⟩ := hpWrite_transfers hp t h w hc dc
  exact ⟨hw, hb, hpStatus_transfers hp t h hc⟩

end Sys2Proof.Machine
end

section
/-! PROOF. O56: the register accesses go address by address, and the mailbox hands its request to the dictionary and its response to
the host. -/

namespace Sys2Proof.Machine

-- One after another the proofs need less memory than all at once.
set_option Elab.async false

/-! ### Stores -/

theorem mget_mputs_before {α : Type} [DecidableEq α] (d : α) (vs : List α) (m : SMap α) {k j : Nat} (h : j < k) :
    mget d (mputs d m k vs) j = mget d m j := by
  induction vs generalizing m k with
  | nil => rfl
  | cons v vs ih => exact (ih _ (by omega)).trans (mget_mset_other _ _ _ _ _ (by omega))

/-- A run of entries written from key `k` on reads back. -/
theorem mget_mputs {α : Type} [DecidableEq α] (d : α) (vs : List α) (m : SMap α) (k : Nat) {i : Nat} (h : i < vs.length) :
    mget d (mputs d m k vs) (k + i) = vs.getD i d := by
  induction vs generalizing m k i with
  | nil => exact absurd h (Nat.not_lt_zero i)
  | cons v vs ih =>
    cases i with
    | zero => exact (mget_mputs_before d vs _ (Nat.lt_succ_self k)).trans (mget_mset_same ..)
    | succ i =>
      rw [← Nat.add_assoc, Nat.add_right_comm]
      exact ih _ _ (Nat.lt_of_succ_lt_succ h)

theorem regGet_regPut_same (a v : Nat) (s : State) : regGet (regPut a v s) a = v := by
  unfold regGet regPut
  dsimp only
  split
  · next h => rw [mlook_mdel_same, h]; rfl
  · rw [mlook_mput_same]; rfl

theorem edSync_res (n : Nat) (s : State) : (edSync n s).res = s.res := (edSync_distributorOnly n s).keeps (·.res) fun _ _ => rfl

theorem regGet_post_low (a low : Nat) (s : State) : regGet (post a low [] s) a = low := by
  obtain ⟨e, he⟩ := post_distributorOnly a low [] s
  rw [he]
  exact regGet_regPut_same a low _

/-! ### Register accesses (O56) -/

theorem hostWrite_hole {a w : Nat} {s : State} (h : addrOk a = false ∨ regAbsent s.sys.variant a = true) : (hostWrite a w s).2 = s := by
  unfold hostWrite
  rcases h with h | h
  · rw [h]
    rfl
  · rw [if_pos h]
    split <;> rfl

theorem hostWrite_staged {a w : Nat} {s : State} (ha : addrOk a = true) (hs : isStaged a = true) :
    (hostWrite a w s).2 = s ∨ (hostWrite a w s).2 = (stageRegister a w s).2 := by
  unfold hostWrite
  rw [ha, if_pos hs, Bool.not_true, if_neg Bool.false_ne_true]
  split
  · exact .inl rfl
  · exact .inr rfl

theorem noteRange_cf (a : Nat) (b : Bool) (s : State) : (noteRange a b s).cf = s.cf := by
  unfold noteRange
  split
  · rfl
  split <;> rfl

theorem stageRegister_closed {a w : Nat} {s : State} (h : canStage s = false) : (stageRegister a w s).2 = s := by
  unfold stageRegister
  rw [h]
  rfl

theorem stageRegister_long {a w : Nat} {s : State} (h : progLenBad a w = true) : (stageRegister a w s).2.cf = s.cf := by
  unfold stageRegister
  rw [if_pos h]
  split
  · rfl
  · exact noteRange_cf ..

/-- A register that acts at once and is present in every variant. -/
theorem hostWrite_acts {a : Nat} (ha : addrOk a = true) (hb : ∀ v, regAbsent v a = false) (hs : isStaged a = false) (w : Nat) (s : State) :
    hostWrite a w s = match a / 0x10000 with
      | 0x02 => (0, writeEd a w s) | 0x03 => writeCrc a w s | 0x05 => writeHost a w s | 0x0A => (0, writeReceivers a w s)
      | 0x5C => (0, writeMatrix a w s) | _ => (0, writeOther a w s) := by
  unfold hostWrite
  rw [ha, hb, hs]
  rfl

theorem hostWrite_cfg (w : Nat) (s : State) : hostWrite 0x050004 w s = (0, { s with hp := { s.hp with crcOnly := bitAt w 0 } }) :=
  hostWrite_acts (by decide) (by rintro (_ | _ | _) <;> decide) (by decide) w s

theorem hostWrite_req (w : Nat) (s : State) : hostWrite 0x010004 w s = (0, pwrReq (w % 8) s) :=
  hostWrite_acts (by decide) (by rintro (_ | _ | _) <;> decide) (by decide) w s

theorem pwrReq_sets {r : Nat} (h : 2 ≤ r ∧ r ≤ 5) (s : State) :
    (pwrReq r s).pw.req = r ∧ (pwrReq r s).pw.demand = r ∧ Kept (pwrReq r s) s := by
  unfold pwrReq
  rw [if_pos h]
  exact ⟨rfl, rfl, vigilClear_guarded _⟩

section Accesses

variable {s : State} (hm : s.sys.mgmtUp = true) (hv : s.sup.vstate ≠ 2)

include hm hv in
/-- O56: register writes. -/
theorem registerWrite_acts (a : Nat) (w : Word) :
    (addrOk a = false ∨ regAbsent s.sys.variant a = true → Answers (.registerWrite a w) s fun u => u = s) ∧
    (addrOk a = true → isStaged a = true → canStage s = false → Answers (.registerWrite a w) s fun u => u = s) ∧
    (addrOk a = true → isStaged a = true → progLenBad a w.toNat = true → Answers (.registerWrite a w) s fun u => u.cf = s.cf) ∧
    Answers (.registerWrite 0x050004 w) s (fun u => u = { s with hp := { s.hp with crcOnly := w.getLsbD 0 } }) ∧
    (2 ≤ w.toNat % 8 → w.toNat % 8 ≤ 5 → Answers (.registerWrite 0x010004 w) s fun u => u.pw.req = w.toNat % 8 ∧
      u.pw.demand = w.toNat % 8 ∧ Kept u s) := by
  have up := hostUp_of hm hv
  refine ⟨fun h => ⟨_, acts up, hostWrite_hole h⟩, fun ha hs hc => ⟨_, acts up, ?_⟩, fun ha hs hl => ⟨_, acts up, ?_⟩,
    ⟨_, acts up, ?_⟩, fun h1 h2 => ⟨_, acts up, ?_⟩⟩
  · rcases hostWrite_staged (w := w.toNat) (s := s) ha hs with h | h
    · exact h
    · exact h.trans (stageRegister_closed hc)
  · rcases hostWrite_staged (w := w.toNat) (s := s) ha hs with h | h
    · rw [h]
    · rw [h]
      exact stageRegister_long hl
  · rw [hostWrite_cfg, bitAt_eq_getLsbD]
  · rw [hostWrite_req]
    exact pwrReq_sets ⟨h1, h2⟩ s

/-- The first read of a result's status word clears FRESH and nothing else of any result. -/
theorem clearFresh_res (a : Nat) (s : State) : (clearFresh a s).res = mset {} s.res a { resGet s a with fresh := false } := by
  unfold clearFresh
  dsimp only
  split
  · exact edSync_res ..
  · rfl

theorem clearFresh_only (a : Nat) (s : State) :
    clearFresh a s = { s with res := (clearFresh a s).res, ed := (clearFresh a s).ed } := by
  unfold clearFresh
  dsimp only
  split
  · next n _ =>
    obtain ⟨e, he⟩ := edSync_distributorOnly n { s with res := mset {} s.res a { resGet s a with fresh := false } }
    rw [he]
  · rfl

/-- O56: a read of a result's status word. -/
theorem resultStatusRead_clears (a : Nat) (s : State) : Answers (.resultStatusRead a) s fun u =>
    (resGet u a).fresh = false ∧ (resGet u a).valid = (resGet s a).valid ∧ (resGet u a).seq = (resGet s a).seq ∧
      (∀ b, b ≠ a → resGet u b = resGet s b) ∧ u = { s with res := u.res, ed := u.ed } := by
  refine ⟨_, rfl, ?_⟩
  split
  · have hr := clearFresh_res a s
    have ha : resGet (clearFresh a s) a = { resGet s a with fresh := false } := by rw [resGet, hr, mget_mset_same]
    refine ⟨by rw [ha], by rw [ha], by rw [ha], fun b hb => ?_, clearFresh_only a s⟩
    rw [resGet, hr]
    exact mget_mset_other _ _ _ _ _ hb
  · next h => exact ⟨Bool.eq_false_iff.2 h, rfl, rfl, fun _ _ => rfl, rfl⟩

theorem fld_high (x : BitVec 64) : BitVec.ofNat 32 (fld x.toNat 32 32) = x.extractLsb' 32 32 := by
  apply BitVec.eq_of_toNat_eq
  simp [fld, BitVec.extractLsb', Nat.shiftRight_eq_div_pow]

theorem absent_timelo (v : Variant) : regAbsent v 0x580020 = false := by cases v <;> decide

/-- O56: a read of ZL_TIMELO latches the upper half of system time (R413). -/
theorem hostRead_timelo (s : State) :
    (hostRead 0x580020 s).2 = { s with zl := { s.zl with timeHi := s.sys.sysTime.extractLsb' 32 32 } } := by
  unfold hostRead
  rw [absent_timelo, ← fld_high]
  rfl

end Accesses

/-! ### The dictionary mailbox (O56) -/

theorem fld_low (w n : Nat) : fld w 0 n = w % 2 ^ n := by
  rw [fld, Nat.pow_zero, Nat.div_one]

section Mailbox

variable {s : State} (hm : s.sys.mgmtUp = true) (hv : s.sup.vstate ≠ 2) (t : Nat)
include hm hv

/-- O56: GO takes the request in HP_MBX_REQ. -/
theorem hpMbxGo_takes {w : Word} (hgo : w.getLsbD 31 = true) (hb : s.hp.busy = false) (h1 : 12 ≤ w.toNat % 2048) (h2 : w.toNat % 2048 ≤ 1004) :
    Answers (.hpMbxGo t w) s fun u => u = dictRequest (reqOf (mbxBytes s (w.toNat % 2048))).1 .host
      (reqOf (mbxBytes s (w.toNat % 2048))).2 { advance t s with hp := { s.hp with busy := true } } := by
  refine ⟨_, acts (hostUp_of hm hv), ?_⟩
  unfold mbxGo
  rw [fld_low, bitAt_eq_getLsbD, hgo, advance_hp, hb]
  dsimp only
  rw [if_neg (by decide), if_neg (by decide), if_neg (by omega), if_neg (by omega)]
  rfl

/-- O56: without GO, while it is busy, or with a length out of range nothing is taken. -/
theorem hpMbxGo_refuses {w : Word} (h : w.getLsbD 31 = false ∨ s.hp.busy = true ∨ w.toNat % 2048 < 12 ∨ 1004 < w.toNat % 2048) :
    Answers (.hpMbxGo t w) s fun u => u = advance t s := by
  refine ⟨_, acts (hostUp_of hm hv), ?_⟩
  unfold mbxGo
  rw [fld_low, bitAt_eq_getLsbD, advance_hp]
  dsimp only
  split
  · rfl
  next hgo =>
  split
  · rfl
  next hb =>
  split
  · rfl
  split
  · rfl
  next hl =>
    rw [Bool.not_eq_true, Bool.not_eq_false'] at hgo
    rw [Bool.not_eq_true] at hb
    rcases h with h | h | h
    · exact absurd (hgo.symm.trans h) (by decide)
    · exact absurd (hb.symm.trans h) (by decide)
    · exact absurd h hl

/-- O56: the response of the oldest request of the host. -/
theorem hpMbxResponse_posts {x : DictRsp} {rest : List (Path × DictRsp)} (h : s.dc.rsps = (.host, x) :: rest) :
    Answers (.hpMbxResponsePost t) s fun u => u.dc.rsps = rest ∧ u.hp.busy = false ∧ u.hp.rlen = (rspBytes x).length ∧
      (∀ i, i < (rspBytes x).length → mget 0 u.hp.rsp i = (rspBytes x).getD i 0) ∧
      (resGet u 0x050014).fresh = true ∧ regGet u 0x050014 = (rspBytes x).length ∧ Kept u s := by
  have hpost : mbxPost (advance t s) = post 0x050014 (rspBytes x).length [] { advance t s with
      dc := { s.dc with rsps := rest }
      hp := { s.hp with busy := false, rsp := mputs 0 s.hp.rsp 0 (rspBytes x), rlen := (rspBytes x).length } } := by
    unfold mbxPost
    rw [advance_dc, h]
    rfl
  refine ⟨_, acts (hostUp_of hm hv), ?_⟩
  rw [hpost]
  obtain ⟨e, r, g, hr⟩ := post_reportsOnly 0x050014 (rspBytes x).length [] { advance t s with
      dc := { s.dc with rsps := rest }
      hp := { s.hp with busy := false, rsp := mputs 0 s.hp.rsp 0 (rspBytes x), rlen := (rspBytes x).length } }
  refine ⟨by rw [hr], by rw [hr], by rw [hr], fun i hi => ?_, by rw [resGet_post]; rfl, regGet_post_low .., ?_⟩
  · rw [hr]
    have e := mget_mputs 0 (rspBytes x) s.hp.rsp 0 hi
    rwa [Nat.zero_add] at e
  · exact (post_guarded ..).trans (advance_guarded t s)

end Mailbox

/-- Settles O56: it holds. -/
theorem registersAndMailbox : Obligations.RegistersAndMailbox := by
  unfold Obligations.RegistersAndMailbox
  refine ⟨fun s a w => ⟨fun hm hv => registerWrite_acts hm hv a w, resultStatusRead_clears a s, ⟨_, rfl, hostRead_timelo s⟩, ⟨_, rfl, rfl⟩⟩,
    fun s t w hm hv => ?_⟩
  exact ⟨hpMbxGo_takes hm hv t, hpMbxGo_refuses hm hv t, fun x rest => hpMbxResponse_posts hm hv t⟩

end Sys2Proof.Machine
end

section
/-! PROOF. O60: the indicator matrix. Its slots, samples and latches write the matrix's own record; a raised event flag also goes to the
distributor, and a page swap posts its result. -/

namespace Sys2Proof.Machine

-- One after another the proofs need less memory than all at once.
set_option Elab.async false

/-! ### What the matrix's operations write -/

theorem mget_mfilter {α : Type} (d : α) (p : Nat → Bool) (m : SMap α) (k : Nat) :
    mget d (mfilter p m) k = if p k then mget d m k else d := by
  induction m with
  | nil => exact (ite_self d).symm
  | cons e m ih =>
    obtain ⟨k', v⟩ := e
    unfold mfilter at ih ⊢
    by_cases hk : k = k' <;> cases hp : p k' <;> simp_all [mget]

theorem lmRaise_ed (bits : Nat) (s : State) :
    DistributorOnly { s with lm := { s.lm with evt := s.lm.evt ||| BitVec.ofNat 4 bits } } (lmRaise bits s) := by
  unfold lmRaise
  split
  · next h =>
    subst h
    exact ⟨s.ed, by rw [BitVec.or_zero]⟩
  · exact edSync_distributorOnly ..

theorem lmRaise_lm (bits : Nat) (s : State) : (lmRaise bits s).lm = { s.lm with evt := s.lm.evt ||| BitVec.ofNat 4 bits } := by
  obtain ⟨e, he⟩ := lmRaise_ed bits s
  rw [he]

theorem lmRaise_res (bits : Nat) (s : State) : (lmRaise bits s).res = s.res := by
  obtain ⟨e, he⟩ := lmRaise_ed bits s
  rw [he]

theorem post_lm (a low : Nat) (ws : List (Nat × Nat)) (s : State) : (post a low ws s).lm = s.lm := by
  obtain ⟨e, r, g, h⟩ := post_reportsOnly a low ws s
  rw [h]

theorem resGet_congr {s u : State} (h : u.res = s.res) (a : Nat) : resGet u a = resGet s a := by
  rw [resGet, h, resGet]

/-! ### Slots (R453, R454, R460) -/

theorem cfgI_congr {s u : State} (h : u.cf = s.cf) (i k : Nat) : cfgI u i k = cfgI s i k := by
  rw [cfgI, h, cfgI]

theorem cfgN_congr {s u : State} (h : u.cf = s.cf) (i k : Nat) : cfgN u i k = cfgN s i k := by
  rw [cfgN, cfgI_congr h, cfgN]

theorem cfgF_congr {s u : State} (h : u.cf = s.cf) (i k : Nat) : cfgF u i k = cfgF s i k := by
  rw [cfgF, cfgI_congr h, cfgF]

theorem lmOnTime_congr {s u : State} (hc : u.cf = s.cf) (hp : u.lm.pix = s.lm.pix) (hg : u.lm.page = s.lm.page)
    (hy : u.lm.cycle = s.lm.cycle) (k d : Nat) : lmOnTime u k d = lmOnTime s k d := by
  unfold lmOnTime lmStretch lmOnBase lmLevel lmPreEff
  rw [cfgF_congr hc, cfgF_congr hc, cfgN_congr hc, hp, hg, hy]

theorem lmBegin_begins (k c : Nat) (s : State) : SlotBegins k c (lmBegin k c s) := by
  refine ⟨rfl, rfl, rfl, rfl, rfl, rfl, fun hk d hd => ?_⟩
  unfold lmBegin
  extract_lets _ v
  have ht (u : State) : lmOnTime { u with lm := { u.lm with onT := if k < 12 then (List.range 48).map (lmOnTime u k) else [] } } k d = lmOnTime u k d :=
    lmOnTime_congr rfl rfl rfl rfl k d
  refine Eq.trans ?_ (ht v).symm
  unfold lmOnNow
  dsimp only
  rw [if_pos hk, List.getD_eq_getElem _ _ (by rw [List.length_map, List.length_range]; exact hd), List.getElem_map, List.getElem_range]

theorem lmSwap_none {s : State} (h : s.lm.armed = none) : lmSwap s = s := by
  unfold lmSwap
  rw [h]

theorem lmSwap_waits {s : State} {pg tm : Nat} {late : Bool} (h : s.lm.armed = some (pg, tm, late)) (ht : s.sys.sysTime.toNat < tm) :
    lmSwap s = s := by
  unfold lmSwap
  rw [h]
  exact if_neg (Nat.not_le.2 ht)

theorem lmSwap_swaps {s : State} {pg tm : Nat} {late : Bool} (h : s.lm.armed = some (pg, tm, late)) (ht : tm ≤ s.sys.sysTime.toNat) :
    (lmSwap s).lm.page = pg ∧ (lmSwap s).lm.armed = none ∧ (lmSwap s).lm.swapTime = s.sys.sysTime ∧
      (lmSwap s).lm.swapLate = (late || !s.zl.sync) ∧ (resGet (lmSwap s) 0x5C0040).fresh = true := by
  unfold lmSwap
  rw [h]
  dsimp only
  rw [if_pos ht]
  generalize 2 * (late || !s.zl.sync).toNat + pg = low
  generalize [(0x5C0044, fld s.sys.sysTime.toNat 0 32), (0x5C0048, fld s.sys.sysTime.toNat 32 32)] = ws
  rw [lmRaise_lm, post_lm, resGet_congr (lmRaise_res ..), resGet_post]
  exact ⟨rfl, rfl, rfl, rfl, rfl⟩

theorem lmSlotRun_off {s : State} (h : lmOn s = false) : lmSlotRun s = lmOff { s with lm := { s.lm with run := false } } := by
  unfold lmSlotRun
  rw [h]
  rfl

theorem lmSlotRun_cycle {s : State} (h : lmOn s = true) (ht : s.sys.sysTime.toNat % 832000 = 0) :
    lmSlotRun s = lmBegin 0 (s.sys.sysTime.toNat / 832000) (lmSwap s) := by
  unfold lmSlotRun
  dsimp only
  rw [h, Bool.not_true, if_neg Bool.false_ne_true, if_neg (by omega), if_pos (by omega)]

theorem lmSlotRun_next {s : State} (h : lmOn s = true) (ht : s.sys.sysTime.toNat % 64000 = 0) (hr : s.lm.run = true)
    (hc : s.lm.cycle = s.sys.sysTime.toNat / 832000) (hs : s.lm.slot + 1 = s.sys.sysTime.toNat % 832000 / 64000) :
    lmSlotRun s = lmBegin (s.lm.slot + 1) s.lm.cycle s := by
  unfold lmSlotRun
  dsimp only
  rw [h, Bool.not_true, if_neg Bool.false_ne_true, if_neg (by omega), if_neg (by omega), ← hc, ← hs, hr, beq_self_eq_true, beq_self_eq_true]
  rfl

theorem lmOn_advance (t : Nat) (s : State) : lmOn (advance t s) = lmOn s := by
  rw [lmOn, cfgF_congr (advance_cf t s), hasTrack, advance_sup, advance_lm, advance_pw, advance_sys_variant, advance_sys_mgmtUp]
  rfl

section Slots

variable (s : State) (t : Nat)

theorem lmSlotRun_kept : Kept (lmSlotRun (advance t s)) s := (lmSlotRun_guarded _).trans (advance_guarded t s)

/-- O60: with the matrix off every output is off. -/
theorem lmSlotStart_off (h : lmOn s = false) : Answers (.lmSlotStart t) s fun u =>
    u.lm.run = false ∧ u.lm.row = none ∧ u.lm.pre = false ∧ u.lm.sinks = 0 ∧ u.lm.page = s.lm.page ∧ Kept u s := by
  refine ⟨_, rfl, ?_⟩
  have hk := lmSlotRun_kept s t
  rw [lmSlotRun_off ((lmOn_advance t s).trans h)] at hk ⊢
  exact ⟨rfl, rfl, rfl, rfl, rfl, hk⟩

/-- O60: slot 0 begins a cycle, with the armed page swap whose time has come. -/
theorem lmSlotStart_cycle (h : lmOn s = true) (ht : (advance t s).sys.sysTime.toNat % 832000 = 0) : Answers (.lmSlotStart t) s fun u =>
    SlotBegins 0 ((advance t s).sys.sysTime.toNat / 832000) u ∧ Kept u s ∧ (s.lm.armed = none → u.lm.page = s.lm.page) ∧
    (∀ pg tm late, s.lm.armed = some (pg, tm, late) →
      ((advance t s).sys.sysTime.toNat < tm → u.lm.page = s.lm.page ∧ u.lm.armed = s.lm.armed) ∧
      (tm ≤ (advance t s).sys.sysTime.toNat → u.lm.page = pg ∧ u.lm.armed = none ∧
        u.lm.swapTime.toNat = (advance t s).sys.sysTime.toNat ∧ u.lm.swapLate = (late || !s.zl.sync) ∧
        (resGet u 0x5C0040).fresh = true)) := by
  refine ⟨_, rfl, ?_⟩
  have hk := lmSlotRun_kept s t
  rw [lmSlotRun_cycle ((lmOn_advance t s).trans h) ht] at hk ⊢
  refine ⟨lmBegin_begins .., hk, fun ha => ?_, fun pg tm late ha => ⟨fun hl => ?_, fun hl => ?_⟩⟩
  · rw [lmSwap_none (s := advance t s) ha]
    rfl
  · rw [lmSwap_waits (s := advance t s) ha hl]
    exact ⟨rfl, rfl⟩
  · obtain ⟨h1, h2, h3, h4, h5⟩ := lmSwap_swaps (s := advance t s) ha hl
    exact ⟨h1, h2, congrArg BitVec.toNat h3, h4, h5⟩

/-- O60: a later slot follows the one before it. -/
theorem lmSlotStart_next (h : lmOn s = true) (ht : (advance t s).sys.sysTime.toNat % 64000 = 0) (hr : s.lm.run = true)
    (hc : s.lm.cycle = (advance t s).sys.sysTime.toNat / 832000)
    (hs : s.lm.slot + 1 = (advance t s).sys.sysTime.toNat % 832000 / 64000) : Answers (.lmSlotStart t) s fun u =>
    SlotBegins (s.lm.slot + 1) s.lm.cycle u ∧ u.lm.page = s.lm.page := by
  refine ⟨_, rfl, ?_⟩
  rw [lmSlotRun_next (s := advance t s) ((lmOn_advance t s).trans h) ht hr hc hs]
  exact ⟨lmBegin_begins .., rfl⟩

/-- O60: after pre-charge the row and the sinks of its lit dies conduct. -/
theorem lmPrechargeEnd_conducts {d : Nat} (hd : d < 48) (h : lmOn s = true) (hr : s.lm.run = true) (hp : s.lm.pre = true)
    (hs : s.lm.slot < 12) : Answers (.lmPrechargeEnd t) s fun u =>
    u = { advance t s with lm := { s.lm with pre := false, row := some s.lm.slot, sinks := u.lm.sinks } } ∧
      bget u.lm.sinks d = decide (0 < lmOnNow s d) := by
  have hb : lmPrechargeRun (advance t s) = { advance t s with lm := { s.lm with
      pre := false
      row := some s.lm.slot
      sinks := BitVec.ofNat 48 (maskOf 48 fun d => decide (0 < lmOnNow (advance t s) d)) } } := by
    unfold lmPrechargeRun
    rw [lmOn_advance, h, advance_lm, hr, hp]
    exact if_pos hs
  refine ⟨_, rfl, ?_⟩
  rw [hb]
  exact ⟨rfl, bget_maskOf _ hd⟩

/-- O60: a die's on-time expires. -/
theorem lmSinkOff_opens (d : Fin 48) : Answers (.lmSinkOff d) s fun u => u = { s with lm := { s.lm with sinks := u.lm.sinks } } ∧
    ∀ k, k < 48 → bget u.lm.sinks k = (bget s.lm.sinks k && decide (k ≠ d.val)) :=
  ⟨_, rfl, rfl, fun k _ => bget_bset_clear s.lm.sinks d k⟩

end Slots

/-! ### Diagnosis and regulation (R457, R458) -/

/-- O60: the sample of a die; two open ones in a row latch it. -/
theorem lmDiagSample_latches {s : State} {row d : Nat} (x : SinkReading) (hr : s.lm.row = some row) (hd : cfgF s 0x5800 8 = true)
    (hs : s.lm.slot < 12) (ht : 64 ≤ lmOnNow s d) (hb : bget s.lm.sinks d = true) :
    Kept (lmDiagRun d x.mv x.supply s) s ∧
      mget false (lmDiagRun d x.mv x.supply s).lm.openRun (48 * row + d) = decide (x.mv < 300 ∧ 3000 ≤ x.supply ∧ x.supply ≤ 5500) ∧
      mget false (lmDiagRun d x.mv x.supply s).lm.open_ (48 * row + d) = (mget false s.lm.open_ (48 * row + d) ||
        (decide (x.mv < 300 ∧ 3000 ≤ x.supply ∧ x.supply ≤ 5500) && mget false s.lm.openRun (48 * row + d))) ∧
      (decide (x.mv < 300 ∧ 3000 ≤ x.supply ∧ x.supply ≤ 5500) = true → mget false s.lm.openRun (48 * row + d) = true →
        bget (lmDiagRun d x.mv x.supply s).lm.evt 0 = true) := by
  refine ⟨lmDiagRun_guarded .., ?_⟩
  have ho : (decide (x.mv < 300) && decide (3000 ≤ x.supply) && decide (x.supply ≤ 5500)) =
      decide (x.mv < 300 ∧ 3000 ≤ x.supply ∧ x.supply ≤ 5500) := by
    rw [Bool.and_assoc, ← Bool.decide_and, ← Bool.decide_and]
  unfold lmDiagRun
  rw [hr, hd, decide_eq_true hs, decide_eq_true ht, hb]
  dsimp only
  rw [ho]
  generalize decide (x.mv < 300 ∧ 3000 ≤ x.supply ∧ x.supply ≤ 5500) = o
  rw [if_pos (by rfl), lmRaise_lm]
  refine ⟨mget_mset_same .., ?_, fun h1 h2 => ?_⟩
  · dsimp only
    cases h : o && mget false s.lm.openRun (48 * row + d) with
    | true => rw [if_pos rfl, mget_mset_same, Bool.or_true]
    | false => rw [if_neg Bool.false_ne_true, Bool.or_false]
  · rw [h1, h2]
    dsimp only [bget, bitIf]
    rw [BitVec.getLsbD_or]
    exact Bool.or_true _

theorem lmMeasureRun_on {s : State} (h : lmOn s = true) (hr : s.lm.run = true) (hs : s.lm.slot = 12) (hc : cfgF s 0x5800 9 = true)
    (r g b : Nat) : ∃ f, lmMeasureRun r g b s = if s.lm.cycle % 2 = 0 then
        { lmOff s with lm := { (lmOff s).lm with lit := some (r, g, b), satur := f } }
      else match s.lm.lit with
        | some (lr, lg, lb) => { lmOff s with lm := { (lmOff s).lm with
            lit := none
            sumR := s.lm.sumR + lr - r
            sumG := s.lm.sumG + lg - g
            sumB := s.lm.sumB + lb - b
            nRead := s.lm.nRead + 1 } }
        | none => lmOff s := by
  refine ⟨s.lm.satur ||| BitVec.ofNat 3 (maskOf 3 fun c => decide ([r, g, b].getD c 0 = 4095)), ?_⟩
  unfold lmMeasureRun
  rw [h, hr, hs, hc]
  rfl

/-- O60: the lit sample of an even cycle. -/
theorem lmMeasureSlot_lit {s : State} (h : lmOn s = true) (hr : s.lm.run = true) (hs : s.lm.slot = 12) (hc : cfgF s 0x5800 9 = true)
    (he : s.lm.cycle % 2 = 0) (r g b : BitVec 12) : Answers (.lmMeasureSlot r g b) s fun u =>
    u.lm.lit = some (r.toNat, g.toNat, b.toNat) ∧ u.lm.sinks = 0 ∧ u.lm.row = none ∧ u.lm.nRead = s.lm.nRead ∧ Kept u s := by
  refine ⟨_, rfl, ?_⟩
  have hk := lmMeasureRun_guarded r.toNat g.toNat b.toNat s
  obtain ⟨f, hf⟩ := lmMeasureRun_on h hr hs hc r.toNat g.toNat b.toNat
  rw [hf, if_pos he] at hk ⊢
  exact ⟨rfl, rfl, rfl, rfl, hk⟩

/-- O60: the dark sample after it makes a reading. -/
theorem lmMeasureSlot_dark {s : State} (h : lmOn s = true) (hr : s.lm.run = true) (hs : s.lm.slot = 12) (hc : cfgF s 0x5800 9 = true)
    {lr lg lb : Nat} (he : s.lm.cycle % 2 = 1) (hl : s.lm.lit = some (lr, lg, lb)) (r g b : BitVec 12) :
    Answers (.lmMeasureSlot r g b) s fun u => u.lm.lit = none ∧
      u.lm.sumR = s.lm.sumR + lr - r.toNat ∧ u.lm.sumG = s.lm.sumG + lg - g.toNat ∧ u.lm.sumB = s.lm.sumB + lb - b.toNat ∧
      u.lm.nRead = s.lm.nRead + 1 ∧ Kept u s := by
  refine ⟨_, rfl, ?_⟩
  have hk := lmMeasureRun_guarded r.toNat g.toNat b.toNat s
  obtain ⟨f, hf⟩ := lmMeasureRun_on h hr hs hc r.toNat g.toNat b.toNat
  rw [hf, if_neg (by omega), hl] at hk ⊢
  exact ⟨rfl, rfl, rfl, rfl, rfl, hk⟩

/-- A trim keeps its range and moves by at most 1. -/
def TrimStep (x y : Nat) : Prop := 128 ≤ y ∧ y ≤ 384 ∧ y ≤ x + 1 ∧ x ≤ y + 1

theorem lmTrimStep_steps {s : State} {c : Nat} (h : 128 ≤ lmTrim s.lm c ∧ lmTrim s.lm c ≤ 384) (sense : Nat) :
    TrimStep (lmTrim s.lm c) (lmTrimStep s c sense).1 := by
  have hc (w : Int) (hw : w = lmTrim s.lm c ∨ w = lmTrim s.lm c + 1 ∨ w = lmTrim s.lm c - 1) :
      TrimStep (lmTrim s.lm c) (clampI 128 384 w).toNat := by
    unfold TrimStep clampI
    omega
  unfold lmTrimStep
  dsimp only
  split
  · exact ⟨h.1, h.2, Nat.le_succ _, Nat.le_succ _⟩
  · refine hc _ ?_
    split
    · exact .inr (.inl rfl)
    split
    · exact .inr (.inr rfl)
    · exact .inl rfl

/-- O60: 32 readings step each trim. -/
theorem lmRegulation_steps {s : State} (ht : hasTrack s = true) (hm : s.sys.mgmtUp = true) (hc : cfgF s 0x5800 9 = true)
    (hn : 32 ≤ s.lm.nRead) (h : ∀ c, c < 3 → 128 ≤ lmTrim s.lm c ∧ lmTrim s.lm c ≤ 384) :
    Answers .lmRegulationPeriod s fun u => Kept u s ∧ u.lm.nRead = 0 ∧ u.lm.sumR = 0 ∧ u.lm.sumG = 0 ∧ u.lm.sumB = 0 ∧
      ∀ c, c < 3 → 128 ≤ lmTrim u.lm c ∧ lmTrim u.lm c ≤ 384 ∧ lmTrim u.lm c ≤ lmTrim s.lm c + 1 ∧ lmTrim s.lm c ≤ lmTrim u.lm c + 1 := by
  refine ⟨_, rfl, lmRegulateRun_guarded s, ?_⟩
  unfold lmRegulateRun
  rw [ht, hm, hc, if_neg (by decide), if_neg (by decide), if_neg (Nat.not_lt.2 hn)]
  extract_lets n v sr sg sb tr tg tb bits u
  rw [lmRaise_lm]
  refine ⟨rfl, rfl, rfl, rfl, fun c hc => ?_⟩
  match c, hc with
  | 0, h0 => exact lmTrimStep_steps (h 0 h0) sr
  | 1, h1 => exact lmTrimStep_steps (h 1 h1) sg
  | 2, h2 => exact lmTrimStep_steps (h 2 h2) sb

/-- O60: without regulation each trim is 256. -/
theorem lmRegulation_off {s : State} (ht : hasTrack s = true) (hm : s.sys.mgmtUp = true) (hc : cfgF s 0x5800 9 = false) :
    Answers .lmRegulationPeriod s fun u => u = { s with lm := { s.lm with trimR := 256, trimG := 256, trimB := 256 } } := by
  refine ⟨_, rfl, ?_⟩
  unfold lmRegulateRun
  rw [ht, hm, hc]
  rfl

/-! ### Latches and page swaps (R459, R460) -/

theorem lmEvtWrite_clears {s : State} (ht : hasTrack s = true) (hm : s.sys.mgmtUp = true) (v : BitVec 4) :
    Answers (.lmEvtWrite v) s fun u => u = { s with lm := { s.lm with evt := s.lm.evt &&& ~~~v }, ed := u.ed } := by
  refine ⟨_, rfl, ?_⟩
  unfold lmEvtClear
  rw [ht, hm, if_neg (by decide)]
  obtain ⟨e, he⟩ := edSync_distributorOnly 359 { s with lm := { s.lm with evt := w1c s.lm.evt v } }
  rw [he]
  rfl

theorem lmOpenWrite_clears (k : Fin 18) (w : Word) (s : State) : Answers (.lmOpenWrite k w) s fun u =>
    u = { s with lm := { s.lm with open_ := u.lm.open_ } } ∧
      ∀ j, mget false u.lm.open_ j = (mget false s.lm.open_ j && !(decide (j / 32 = k.val) && w.getLsbD (j % 32))) := by
  refine ⟨_, rfl, rfl, fun j => ?_⟩
  unfold lmOpenClear
  dsimp only
  rw [mget_mfilter, show (j / 32 == k.val && bget w (j % 32)) = (decide (j / 32 = k.val) && w.getLsbD (j % 32)) from rfl]
  cases (decide (j / 32 = k.val) && w.getLsbD (j % 32)) <;> simp

section Show

variable {s : State} (ht : hasTrack s = true) (hm : s.sys.mgmtUp = true) (tm : BitVec 64)
include ht hm

/-- O60: SHOW of another page arms the swap. -/
theorem lmShow_arms {page : Fin 2} (hp : page.val ≠ s.lm.page) : Answers (.lmShow page tm) s fun u => u = { s with lm := { s.lm with
    showTime := tm, armed := some (page.val, tm.toNat, decide (tm.toNat + 832000 < s.sys.sysTime.toNat)) } } := by
  refine ⟨_, rfl, ?_⟩
  unfold lmShowRun
  rw [ht, hm, if_neg (by decide)]
  exact if_neg hp

/-- O60: SHOW of the page shown posts the last result again. -/
theorem lmShow_posts {page : Fin 2} (hp : page.val = s.lm.page) : Answers (.lmShow page tm) s fun u =>
    u.lm = { s.lm with showTime := tm } ∧ (resGet u 0x5C0040).fresh = true ∧ Kept u s := by
  refine ⟨_, rfl, ?_, ?_, lmShowRun_guarded ..⟩ <;> unfold lmShowRun <;> rw [ht, hm, if_neg (by decide)] <;> dsimp only <;> rw [if_pos hp]
  · exact post_lm ..
  · rw [resGet_post]
    rfl

end Show

/-- Settles O60: it holds. -/
theorem indicatorMatrix : Obligations.IndicatorMatrix := by
  unfold Obligations.IndicatorMatrix
  refine ⟨fun s t d => ⟨lmSlotStart_off s t, lmSlotStart_cycle s t, fun h ht _ => lmSlotStart_next s t h ht,
      lmPrechargeEnd_conducts s t d.isLt, lmSinkOff_opens s d⟩,
    fun s d x r g b v k w => ⟨fun row hr hd hs ht hb => ⟨_, rfl, lmDiagSample_latches x hr hd hs ht hb⟩, fun h hr hs hc => ?_,
      fun ht hm => ⟨lmRegulation_off ht hm, lmRegulation_steps ht hm, lmEvtWrite_clears ht hm v⟩, lmOpenWrite_clears k w s⟩,
    fun s page tm ht hm => ⟨lmShow_arms ht hm tm, lmShow_posts ht hm tm⟩⟩
  exact ⟨fun he => lmMeasureSlot_lit h hr hs hc he r g b, fun lr lg lb he hl => lmMeasureSlot_dark h hr hs hc he hl r g b⟩

end Sys2Proof.Machine
end

section
/-! PROOF. Frames: what the shared operations leave unchanged, part by part of the state. -/

namespace Sys2Proof.Machine

-- One after another the proofs need less memory than all at once.
set_option Elab.async false

/-- A part of the state: a component, or what is often asked of one. -/
inductive Part where
  | sys
  | sup
  | mw
  | pw
  | wc
  | mir
  | ex
  | gov
  | rx
  | rq
  | hg
  | ne
  | ac
  | fp
  | ze
  | ps
  | safA
  | safB
  | out
  | cf
  | sess
  | tf
  | ax
  | zl
  | dc
  | hp
  | ed
  | crc0
  | crc1
  | lm
  | res
  | regs
  | pending
  | now
  | sysTime
  | variant
  | powered
  | ctrlUp
  | mgmtUp
  | hpUp
  | oper
  | jtag
  | frameNo
  | frameSys
  | lastB
  | st
  | dp
  | vstate
  | eff
  | copyA
  | copyB
  | pend
  | defaults
  | eFrame
  | pllBlock
  | req
  | fromStandby
  deriving DecidableEq

/-- What the part holds. -/
def Part.Holds : Part → Type
  | .sys => Sys
  | .sup => Sup
  | .mw => Mw
  | .pw => Pw
  | .wc => SMap Wc
  | .mir => Mir
  | .ex => Ex
  | .gov => Gov
  | .rx => SMap RxCh
  | .rq => SMap Rq
  | .hg => Hg
  | .ne => SMap Ne
  | .ac => Ac
  | .fp => Fp
  | .ze => Ze
  | .ps => Ps
  | .safA => Saf
  | .safB => Saf
  | .out => Out
  | .cf => Cf
  | .sess => Sess
  | .tf => Tfu
  | .ax => Ax
  | .zl => Zl
  | .dc => Dc
  | .hp => Hp
  | .ed => Ed
  | .crc0 => Crc
  | .crc1 => Crc
  | .lm => Lm
  | .res => SMap Res
  | .regs => SMap Nat
  | .pending => List Instr
  | .now => Nat
  | .sysTime => BitVec 64
  | .variant => Variant
  | .powered => Bool
  | .ctrlUp => Bool
  | .mgmtUp => Bool
  | .hpUp => Bool
  | .oper => Bool
  | .jtag => Jtag
  | .frameNo => BitVec 32
  | .frameSys => BitVec 64
  | .lastB => Nat
  | .st => Nat
  | .dp => Dp
  | .vstate => Nat
  | .eff => SMap (List Byte)
  | .copyA => Copy
  | .copyB => Copy
  | .pend => Option Pend
  | .defaults => Bool
  | .eFrame => Nat
  | .pllBlock => Bool
  | .req => Nat
  | .fromStandby => Bool

/-- The part in a state. -/
def Part.get (s : State) : (p : Part) → p.Holds
  | .sys => s.sys
  | .sup => s.sup
  | .mw => s.mw
  | .pw => s.pw
  | .wc => s.wc
  | .mir => s.mir
  | .ex => s.ex
  | .gov => s.gov
  | .rx => s.rx
  | .rq => s.rq
  | .hg => s.hg
  | .ne => s.ne
  | .ac => s.ac
  | .fp => s.fp
  | .ze => s.ze
  | .ps => s.ps
  | .safA => s.safA
  | .safB => s.safB
  | .out => s.out
  | .cf => s.cf
  | .sess => s.sess
  | .tf => s.tf
  | .ax => s.ax
  | .zl => s.zl
  | .dc => s.dc
  | .hp => s.hp
  | .ed => s.ed
  | .crc0 => s.crc0
  | .crc1 => s.crc1
  | .lm => s.lm
  | .res => s.res
  | .regs => s.regs
  | .pending => s.pending
  | .now => s.sys.now
  | .sysTime => s.sys.sysTime
  | .variant => s.sys.variant
  | .powered => s.sys.powered
  | .ctrlUp => s.sys.ctrlUp
  | .mgmtUp => s.sys.mgmtUp
  | .hpUp => s.sys.hpUp
  | .oper => s.sys.oper
  | .jtag => s.sys.jtag
  | .frameNo => s.pw.frameNo
  | .frameSys => s.pw.frameSys
  | .lastB => s.pw.lastB
  | .st => s.pw.st
  | .dp => s.pw.dp
  | .vstate => s.sup.vstate
  | .eff => s.cf.eff
  | .copyA => s.cf.copyA
  | .copyB => s.cf.copyB
  | .pend => s.cf.pend
  | .defaults => s.cf.defaults
  | .eFrame => s.sup.eFrame
  | .pllBlock => s.pw.pllBlock
  | .req => s.pw.req
  | .fromStandby => s.sys.cameFromStandby

/-- The part as `s` has it where it is listed, and else as `u` has it. -/
def Part.pick (l : List Part) (s u : State) (p : Part) : p.Holds := bif l.contains p then p.get s else p.get u

/-- Only the parts of the list may differ. -/
structure Frame (l : List Part) (s u : State) : Prop where
  parts : ∀ p, Part.pick l s u p = p.get s

/-- Every part at once: the listed ones as `s` has them, the others as `u` has them. -/
def Part.picks (l : List Part) (s u : State) :=
  (bif l.contains .sys then s.sys else u.sys,
   bif l.contains .sup then s.sup else u.sup,
   bif l.contains .mw then s.mw else u.mw,
   bif l.contains .pw then s.pw else u.pw,
   bif l.contains .wc then s.wc else u.wc,
   bif l.contains .mir then s.mir else u.mir,
   bif l.contains .ex then s.ex else u.ex,
   bif l.contains .gov then s.gov else u.gov,
   bif l.contains .rx then s.rx else u.rx,
   bif l.contains .rq then s.rq else u.rq,
   bif l.contains .hg then s.hg else u.hg,
   bif l.contains .ne then s.ne else u.ne,
   bif l.contains .ac then s.ac else u.ac,
   bif l.contains .fp then s.fp else u.fp,
   bif l.contains .ze then s.ze else u.ze,
   bif l.contains .ps then s.ps else u.ps,
   bif l.contains .safA then s.safA else u.safA,
   bif l.contains .safB then s.safB else u.safB,
   bif l.contains .out then s.out else u.out,
   bif l.contains .cf then s.cf else u.cf,
   bif l.contains .sess then s.sess else u.sess,
   bif l.contains .tf then s.tf else u.tf,
   bif l.contains .ax then s.ax else u.ax,
   bif l.contains .zl then s.zl else u.zl,
   bif l.contains .dc then s.dc else u.dc,
   bif l.contains .hp then s.hp else u.hp,
   bif l.contains .ed then s.ed else u.ed,
   bif l.contains .crc0 then s.crc0 else u.crc0,
   bif l.contains .crc1 then s.crc1 else u.crc1,
   bif l.contains .lm then s.lm else u.lm,
   bif l.contains .res then s.res else u.res,
   bif l.contains .regs then s.regs else u.regs,
   bif l.contains .pending then s.pending else u.pending,
   bif l.contains .now then s.sys.now else u.sys.now,
   bif l.contains .sysTime then s.sys.sysTime else u.sys.sysTime,
   bif l.contains .variant then s.sys.variant else u.sys.variant,
   bif l.contains .powered then s.sys.powered else u.sys.powered,
   bif l.contains .ctrlUp then s.sys.ctrlUp else u.sys.ctrlUp,
   bif l.contains .mgmtUp then s.sys.mgmtUp else u.sys.mgmtUp,
   bif l.contains .hpUp then s.sys.hpUp else u.sys.hpUp,
   bif l.contains .oper then s.sys.oper else u.sys.oper,
   bif l.contains .jtag then s.sys.jtag else u.sys.jtag,
   bif l.contains .frameNo then s.pw.frameNo else u.pw.frameNo,
   bif l.contains .frameSys then s.pw.frameSys else u.pw.frameSys,
   bif l.contains .lastB then s.pw.lastB else u.pw.lastB,
   bif l.contains .st then s.pw.st else u.pw.st,
   bif l.contains .dp then s.pw.dp else u.pw.dp,
   bif l.contains .vstate then s.sup.vstate else u.sup.vstate,
   bif l.contains .eff then s.cf.eff else u.cf.eff,
   bif l.contains .copyA then s.cf.copyA else u.cf.copyA,
   bif l.contains .copyB then s.cf.copyB else u.cf.copyB,
   bif l.contains .pend then s.cf.pend else u.cf.pend,
   bif l.contains .defaults then s.cf.defaults else u.cf.defaults,
   bif l.contains .eFrame then s.sup.eFrame else u.sup.eFrame,
   bif l.contains .pllBlock then s.pw.pllBlock else u.pw.pllBlock,
   bif l.contains .req then s.pw.req else u.pw.req,
   bif l.contains .fromStandby then s.sys.cameFromStandby else u.sys.cameFromStandby)

/-- Every part at once. -/
def Part.all (s : State) :=
  (s.sys, s.sup, s.mw, s.pw, s.wc, s.mir, s.ex, s.gov, s.rx, s.rq, s.hg, s.ne, s.ac, s.fp, s.ze, s.ps, s.safA, s.safB, s.out, s.cf, s.sess, s.tf, s.ax, s.zl, s.dc, s.hp, s.ed, s.crc0, s.crc1, s.lm, s.res, s.regs, s.pending, s.sys.now, s.sys.sysTime, s.sys.variant, s.sys.powered, s.sys.ctrlUp, s.sys.mgmtUp, s.sys.hpUp, s.sys.oper, s.sys.jtag, s.pw.frameNo, s.pw.frameSys, s.pw.lastB, s.pw.st, s.pw.dp, s.sup.vstate, s.cf.eff, s.cf.copyA, s.cf.copyB, s.cf.pend, s.cf.defaults, s.sup.eFrame, s.pw.pllBlock, s.pw.req, s.sys.cameFromStandby)

/-- Frames of updates written out hold by computation. -/
theorem Frame.of {l : List Part} {s u : State} (h : Part.picks l s u = Part.all s := by rfl) : Frame l s u := by
  simp only [Part.picks, Part.all, Prod.mk.injEq] at h
  obtain ⟨h0, h1, h2, h3, h4, h5, h6, h7, h8, h9, h10, h11, h12, h13, h14, h15, h16, h17, h18, h19, h20, h21, h22, h23, h24, h25, h26, h27, h28, h29, h30, h31, h32, h33, h34, h35, h36, h37, h38, h39, h40, h41, h42, h43, h44, h45, h46, h47, h48, h49, h50, h51, h52, h53, h54, h55, h56⟩ := h
  refine ⟨fun p => ?_⟩
  cases p
  · exact h0
  · exact h1
  · exact h2
  · exact h3
  · exact h4
  · exact h5
  · exact h6
  · exact h7
  · exact h8
  · exact h9
  · exact h10
  · exact h11
  · exact h12
  · exact h13
  · exact h14
  · exact h15
  · exact h16
  · exact h17
  · exact h18
  · exact h19
  · exact h20
  · exact h21
  · exact h22
  · exact h23
  · exact h24
  · exact h25
  · exact h26
  · exact h27
  · exact h28
  · exact h29
  · exact h30
  · exact h31
  · exact h32
  · exact h33
  · exact h34
  · exact h35
  · exact h36
  · exact h37
  · exact h38
  · exact h39
  · exact h40
  · exact h41
  · exact h42
  · exact h43
  · exact h44
  · exact h45
  · exact h46
  · exact h47
  · exact h48
  · exact h49
  · exact h50
  · exact h51
  · exact h52
  · exact h53
  · exact h54
  · exact h55
  · exact h56

theorem Part.pick_of_mem {l : List Part} {p : Part} (h : p ∈ l) (s u : State) : Part.pick l s u p = p.get s := by
  rw [Part.pick, List.contains_iff_mem.2 h, cond_true]

theorem Part.pick_of_notMem {l : List Part} {p : Part} (h : p ∉ l) (s u : State) : Part.pick l s u p = p.get u := by
  rw [Part.pick, Bool.eq_false_iff.2 (fun e => h (List.contains_iff_mem.1 e)), cond_false]

theorem Frame.iff {l : List Part} {s u : State} : Frame l s u ↔ ∀ p, p ∉ l → p.get u = p.get s := by
  constructor
  · intro h p hp
    rw [← h.parts p, Part.pick_of_notMem hp]
  · refine fun h => ⟨fun p => ?_⟩
    by_cases hp : p ∈ l
    · exact Part.pick_of_mem hp ..
    · exact (Part.pick_of_notMem hp ..).trans (h p hp)

theorem Frame.refl (l : List Part) (s : State) : Frame l s s := Frame.iff.2 fun _ _ => rfl

/-- A part that is not listed is the same. -/
theorem Frame.same {l : List Part} {s u : State} (h : Frame l s u) (p : Part) (hp : p ∉ l := by decide) : p.get u = p.get s :=
  Frame.iff.1 h p hp

theorem Frame.mono {l l' : List Part} {s u : State} (h : Frame l s u) (hs : l ⊆ l' := by decide) : Frame l' s u :=
  Frame.iff.2 fun p hp => h.same p fun e => hp (hs e)

/-- Two steps differ at most in the parts of either. -/
theorem Frame.trans {l l' r : List Part} {s u v : State} (h : Frame l s u) (h' : Frame l' u v) (hs : l ++ l' ⊆ r := by decide) :
    Frame r s v :=
  Frame.iff.2 fun p hp => (h'.same p fun e => hp (hs (List.mem_append_right _ e))).trans
    (h.same p fun e => hp (hs (List.mem_append_left _ e)))

theorem Frame.foldl {α : Type} {l : List Part} {f : State → α → State} (h : ∀ s x, Frame l s (f s x)) (xs : List α) (s : State) :
    Frame l s (xs.foldl f s) := by
  induction xs generalizing s with
  | nil => exact .refl l s
  | cons x xs ih => exact (h s x).trans (ih _) (List.append_subset.2 ⟨List.Subset.refl _, List.Subset.refl _⟩)

theorem DistributorOnly.frame {s u : State} (h : DistributorOnly s u) : Frame [.ed] s u := by
  obtain ⟨e, rfl⟩ := h
  exact .of

theorem ReportsOnly.frame {s u : State} (h : ReportsOnly s u) : Frame [.ed, .res, .regs] s u := by
  obtain ⟨e, r, g, rfl⟩ := h
  exact .of

theorem DeliveryOnly.frame {s u : State} (h : DeliveryOnly s u) : Frame [.ze, .ps, .fp] s u := by
  obtain ⟨z, p, f, rfl⟩ := h
  exact .of

theorem LinkOnly.frame {s u : State} (h : LinkOnly s u) : Frame [.zl] s u := by
  obtain ⟨z, rfl⟩ := h
  exact .of

/-! ### Events and results -/

theorem edSync_frame (n : Nat) (s : State) : Frame [.ed] s (edSync n s) := (edSync_distributorOnly n s).frame

theorem raise_frame (j : Nat) (s : State) : Frame [.ed] s (raise j s) := (raise_distributorOnly j s).frame

theorem raiseIf_frame (b : Bool) (j : Nat) (s : State) : Frame [.ed] s (raiseIf b j s) := by
  unfold raiseIf
  split
  · exact raise_frame j s
  · exact .refl ..

theorem edLine_frame (t : Nat) (s : State) : Frame [.ed] s (edLine t s) := (edLine_arbitrated t s).only.frame

theorem localEdge_frame (i : Nat) (s : State) : Frame [.ed] s (localEdge i s) := by
  unfold localEdge
  split
  · refine .foldl (fun s t => ?_) _ s
    unfold localEdgeT
    exact (Frame.of (l := [.ed])).trans (edLine_frame ..)
  · exact .refl ..

theorem post_frame (a low : Nat) (ws : List (Nat × Nat)) (s : State) : Frame [.ed, .res, .regs] s (post a low ws s) :=
  (post_reportsOnly a low ws s).frame

theorem drawn_frame (s : State) : Frame [.sys] s (drawn s) := .of

/-! ### The two channels -/

/-- What opening a switch or latching a fault may change: the two channels and the test pulses. -/
abbrev channelParts : List Part := [.safA, .safB, .out]

theorem setC_frame (c : Chan) (f : Saf) (s : State) : Frame channelParts s (setC c f s) := by
  cases c
  · exact .of
  · exact .of

theorem tpSet_frame (p : Nat) (x : Tp) (s : State) : Frame channelParts s (tpSet p x s) := .of

theorem openSwitch_frame (c : Chan) (p : Nat) (s : State) : Frame channelParts s (openSwitch c p s) := by
  unfold openSwitch
  extract_lets was u x v drop w
  have hu : Frame channelParts s u := setC_frame ..
  have hv : Frame channelParts s v := by
    unfold v
    split
    · exact hu.trans (setC_frame ..)
    · exact hu
  have hw : Frame channelParts s w := hv.trans (tpSet_frame ..)
  clear_value w v u
  split
  · split
    · exact hw.trans (Frame.of (l := channelParts))
    · exact hw
  · exact hu

theorem openAll_frame (c : Chan) (s : State) : Frame channelParts s (openAll c s) := .foldl (fun s p => openSwitch_frame c p s) _ s

theorem openBoth_frame (s : State) : Frame channelParts s (openBoth s) := (openAll_frame .a s).trans (openAll_frame .b _)

theorem latchFault_frame (c : Chan) (b : Nat) (s : State) : Frame channelParts s (latchFault c b s) :=
  (setC_frame ..).trans (openAll_frame ..)

theorem startRamp_frame (c : Chan) (d : Nat) (s : State) : Frame channelParts s (startRamp c d s) := setC_frame ..

theorem evalDemands_frame (c : Chan) (s : State) : Frame channelParts s (evalDemands c s) := by
  unfold evalDemands
  extract_lets im ss u v
  have hu : Frame channelParts s u := .foldl (fun s p => by
    split
    · exact .refl ..
    · exact openSwitch_frame c p s) im s
  have hv : Frame channelParts u v := .foldl (fun s p => by
    split
    · exact startRamp_frame ..
    · exact .refl ..) ss u
  clear_value u v
  exact (hu.trans hv (r := channelParts)).trans (setC_frame ..)

theorem bothC_frame {l : List Part} {g : Chan → State → State} (h : ∀ c s, Frame l s (g c s)) (s : State) : Frame l s (bothC g s) :=
  (h .a s).trans (h .b _) (List.append_subset.2 ⟨List.Subset.refl _, List.Subset.refl _⟩)

/-! ### Channels that open: latches, and the other channel -/

theorem getC_congr {s u : State} (ha : u.safA = s.safA) (hb : u.safB = s.safB) (c : Chan) : getC u c = getC s c := by
  cases c
  · exact ha
  · exact hb

theorem updC_leaveOpen_latch (c d : Chan) (p at_ : Nat) (s : State) : (getC (updC d (leaveOpen p at_) s) c).latch = (getC s c).latch := by
  cases c <;> cases d <;> rfl

theorem openSwitch_latch (c d : Chan) (p : Nat) (s : State) : (getC (openSwitch c p s) d).latch = (getC s d).latch := by
  unfold openSwitch
  extract_lets was u x v drop w
  have hu : (getC u d).latch = (getC s d).latch := updC_leaveOpen_latch ..
  have hv : (getC v d).latch = (getC s d).latch := by
    unfold v
    split
    · exact (updC_leaveOpen_latch ..).trans hu
    · exact hu
  have hw : (getC w d).latch = (getC s d).latch := (congrArg Saf.latch (getC_congr rfl rfl d)).trans hv
  split
  · split
    · exact (congrArg Saf.latch (getC_congr rfl rfl d)).trans hw
    · exact hw
  · exact hu

/-- Opening latches nothing. -/
theorem openAll_latch (c d : Chan) (s : State) : (getC (openAll c s) d).latch = (getC s d).latch :=
  foldl_keeps (fun s => (getC s d).latch) (f := fun s p => openSwitch c p s) (fun s p => openSwitch_latch c d p s) _ s

theorem openAll_sw (c : Chan) (s : State) : (getC (openAll c s) c).sw = 0 := by
  rw [getC_sw]
  exact openAll_open c s

theorem latchFault_sw (c : Chan) (b : Nat) (s : State) : (getC (latchFault c b s) c).sw = 0 := openAll_sw ..

theorem latchFault_latch (c : Chan) (b : Nat) (s : State) : (getC (latchFault c b s) c).latch = bset (getC s c).latch b true := by
  unfold latchFault
  rw [openAll_latch]
  cases c <;> rfl

theorem latchFault_latch_other (c : Chan) (b : Nat) (s : State) :
    (getC (latchFault c b s) (otherC c)).latch = (getC s (otherC c)).latch := by
  unfold latchFault
  rw [openAll_latch]
  cases c <;> rfl

/-- No test pulse holds a switch open. -/
def NoPulse (s : State) : Prop := ∀ p, p < 4 → (tpGet s p).by_ = none

theorem NoPulse.congr {s u : State} (h : u.out.tp = s.out.tp) (hs : NoPulse s) : NoPulse u := fun p hp => by
  rw [tpGet, h]
  exact hs p hp

theorem tpSet_noPulse {s : State} {p : Nat} {x : Tp} (hs : NoPulse s) (hx : x.by_ = none) : NoPulse (tpSet p x s) := fun q hq => by
  by_cases h : q = p
  · rw [h, tpGet, tpSet, mget_mset_same]
    exact hx
  · rw [tpGet_tpSet_other _ _ _ _ h]
    exact hs q hq

/-- Where no test pulse runs, opening a switch leaves the other channel as it is. -/
theorem openSwitch_other (c : Chan) {p : Nat} (hp : p < 4) {s : State} (h : NoPulse s) :
    getC (openSwitch c p s) (otherC c) = getC s (otherC c) ∧ NoPulse (openSwitch c p s) := by
  unfold openSwitch
  extract_lets was u x v drop w
  have hu : getC u (otherC c) = getC s (otherC c) := getC_setC_other ..
  have htp : u.out = s.out := by
    unfold u
    cases c <;> rfl
  have hun : NoPulse u := h.congr (congrArg (·.tp) htp)
  have hx : x.by_ = none := hun p hp
  have hv : v = u := by
    unfold v
    rw [hx]
  have hw : getC w (otherC c) = getC s (otherC c) ∧ NoPulse w := by
    unfold w
    rw [hv]
    exact ⟨(getC_congr rfl rfl _).trans hu, tpSet_noPulse hun hx⟩
  split
  · split
    · exact ⟨(getC_congr rfl rfl _).trans hw.1, hw.2.congr rfl⟩
    · exact hw
  · exact ⟨hu, hun⟩

theorem openAll_other (c : Chan) {s : State} (h : NoPulse s) : getC (openAll c s) (otherC c) = getC s (otherC c) ∧ NoPulse (openAll c s) := by
  rw [openAll_eq]
  obtain ⟨e0, h0⟩ := openSwitch_other c (p := 0) (by decide) h
  obtain ⟨e1, h1⟩ := openSwitch_other c (p := 1) (by decide) h0
  obtain ⟨e2, h2⟩ := openSwitch_other c (p := 2) (by decide) h1
  obtain ⟨e3, h3⟩ := openSwitch_other c (p := 3) (by decide) h2
  exact ⟨e3.trans (e2.trans (e1.trans e0)), h3⟩

theorem latchFault_other (c : Chan) (b : Nat) {s : State} (h : NoPulse s) :
    getC (latchFault c b s) (otherC c) = getC s (otherC c) ∧ NoPulse (latchFault c b s) := by
  have hu : NoPulse (updC c (fun f => { f with latch := bset f.latch b true }) s) := h.congr (by cases c <;> rfl)
  obtain ⟨e, hn⟩ := openAll_other c hu
  exact ⟨e.trans (getC_setC_other ..), hn⟩

/-! ### Sessions -/

theorem endSession_frame (s : State) : Frame [.sess, .cf] s (endSession s) := by
  unfold endSession
  split
  · exact .refl ..
  dsimp only
  split
  · split
    · exact .of
    · exact .of
  · exact .of

theorem touchSession_frame (p : Path) (s : State) : Frame [.sess] s (touchSession p s) := by
  unfold touchSession
  split
  · exact .of
  · exact .refl ..

/-! ### The data plane starts and stops -/

theorem hfxFollow_frame (s : State) : Frame [.pw] s (hfxFollow s) := by
  unfold hfxFollow
  split
  · split
    · exact .refl ..
    · exact .of
  · exact .of

theorem dpStart_frame (s : State) : Frame [.pw, .dp] s (dpStart s) := by
  unfold dpStart
  split
  · exact (Frame.of (l := [.pw, .dp])).trans (hfxFollow_frame _)
  · exact .refl ..

theorem snapAbandon_frame (all : Bool) (s : State) : Frame [.hg] s (snapAbandon all s) := by
  unfold snapAbandon
  refine .foldl (fun s q => ?_) _ s
  dsimp only
  split
  · exact .of
  · exact .refl ..

theorem laneUpd_frame (l : Nat) (f : Lps → Lps) (s : State) : Frame [.ps] s (laneUpd l f s) := by
  unfold laneUpd lanePut
  split
  · exact .of
  · exact .of

theorem lanes_frame (g : State → Nat → Lps → Lps) (n : Nat) (s : State) :
    Frame [.ps] s ((List.range n).foldl (fun s l => laneUpd l (g s l) s) s) := .foldl (fun s l => laneUpd_frame l (g s l) s) _ s

theorem laneStop_frame (l : Nat) (s : State) : Frame [.ps] s (laneStop l s) := laneUpd_frame ..

theorem psStop_frame (s : State) : Frame [.ps] s (psStop s) := by
  unfold psStop
  extract_lets u v
  have hu : Frame [.ps] s u := by
    unfold u
    split
    · exact lanes_frame (fun s _ x => { laneAbandon s.pw.frameNo.toNat x with lastDropn := 0, lastDrop0 := 0, lastPkts := 0 }) 2 s
    · exact .refl ..
  have hv : Frame [.ps] u v := lanes_frame (fun _ _ x => { x with dropn := 0, drop0 := 0, pkts := 0, peak := 0 }) 2 u
  clear_value u v
  exact ((hu.trans hv (r := [.ps])).trans (Frame.of (l := [.ps])) (r := [.ps])).trans
    ((laneStop_frame 0 _).trans (laneStop_frame 1 _) (r := [.ps]))

theorem psCountsEnd_frame (s : State) : Frame [.ps] s (psCountsEnd s) :=
  (lanes_frame (fun _ _ x => { x with
    lastDropn := x.dropn, lastDrop0 := x.drop0, lastPkts := x.pkts, dropn := 0, drop0 := 0, pkts := 0, peak := x.fill }) 2 s).trans (Frame.of (l := [.ps]))

theorem queueReady_frame (q : Nat) (s : State) : Frame [.ps] s (queueReady q s) := by
  unfold queueReady
  split
  · exact laneUpd_frame ..
  · exact .refl ..

theorem psAbandon_frame (s : State) : Frame [.ps] s (psAbandon s) := by
  unfold psAbandon
  extract_lets u v w
  have hu : Frame [.ps] s u := lanes_frame (fun s _ => laneAbandon s.pw.frameNo.toNat) 2 s
  have hv : Frame [.ps] u v := .foldl (fun s q => queueReady_frame q s) _ u
  have hw : Frame [.ps] v w := lanes_frame (fun s l x => { x with fill := x.fill - asmBytes s l }) 2 v
  clear_value u v w
  split
  · exact hu
  · exact ((hu.trans hv (r := [.ps])).trans hw (r := [.ps])).trans ((Frame.of (l := [.ps])).trans (psCountsEnd_frame _) (r := [.ps]))

theorem neStopFrame_frame (f : BitVec 32) (s : State) : Frame [.ne, .hg, .fp] s (neStopFrame f s) := by
  unfold neStopFrame
  extract_lets owed u
  have hu : Frame [.ne] s u := .foldl (fun s q => by
    split
    · exact .refl ..
    · exact .of) _ s
  clear_value u
  exact hu.trans (Frame.of (l := [.hg, .fp]))

theorem stepVoid_frame (s : State) : Frame [.ex, .fp, .hg] s (stepVoid s) := .of

theorem zeAbandon_frame (f : BitVec 32) (s : State) : Frame [.ze] s (zeAbandon f s) := .of

theorem neStopAll_frame (s : State) : Frame [.ne, .fp] s (neStopAll s) := .of

theorem biasStop_frame (s : State) : Frame [.rq] s (biasStop s) := .of

theorem abandonFrame_frame (s : State) : Frame [.pw, .hg, .ps, .ne, .fp, .ze, .ex] s (abandonFrame s) := by
  unfold abandonFrame
  split
  · dsimp only
    refine Frame.trans (l := [.pw, .hg, .ps, .ne, .fp, .ze]) ?_ (stepVoid_frame _)
    refine Frame.trans (l := [.pw, .hg, .ps, .ne, .fp]) ?_ (zeAbandon_frame ..)
    refine Frame.trans (l := [.pw, .hg, .ps]) ?_ (neStopFrame_frame ..)
    refine Frame.trans (l := [.pw, .hg]) ?_ (psAbandon_frame _)
    refine Frame.trans (l := [.pw]) ?_ (snapAbandon_frame ..)
    exact .of
  · exact (stepVoid_frame s).mono

/-- What a stop of the data plane may change. -/
abbrev stopParts : List Part := [.pw, .dp, .mir, .ex, .gov, .rq, .hg, .ne, .fp, .ze, .ps]

theorem dpStop_frame (s : State) : Frame stopParts s (dpStop s) := by
  unfold dpStop
  split
  · exact .refl ..
  · extract_lets u
    have hu : Frame [.ne, .fp, .hg, .ps, .ex, .rq] s u := by
      unfold u
      refine Frame.trans (l := [.ne, .fp, .hg, .ps, .ex]) ?_ (biasStop_frame _)
      refine Frame.trans (l := [.ne, .fp, .hg, .ps]) ?_ (stepVoid_frame _)
      refine Frame.trans (l := [.ne, .fp, .hg]) ?_ (psStop_frame _)
      exact (neStopAll_frame s).trans (snapAbandon_frame ..)
    clear_value u
    refine Frame.trans (l := stopParts) ?_ (hfxFollow_frame _)
    exact hu.trans (Frame.of (l := [.pw, .dp, .mir, .gov, .hg, .ex, .ze, .fp]))

theorem dpRemove_frame (s : State) : Frame stopParts s (dpRemove s) := by
  unfold dpRemove
  split
  · exact (stepVoid_frame s).trans (Frame.of (l := [.pw, .dp, .mir]))
  · exact dpStop_frame s

end Sys2Proof.Machine
end

section
/-! PROOF. O10 and O11: the resets of the device and of its planes. A reset of the device builds its state anew from what Table 4.4
keeps; a plane's reset leaves the other planes' parts. -/

namespace Sys2Proof.Machine

-- One after another the proofs need less memory than all at once.
set_option Elab.async false

/-! ### The whole device -/

theorem endSession_user (s : State) : (endSession s).sess.user = 0 := by
  unfold endSession
  split
  · assumption
  dsimp only
  split
  · split <;> rfl
  · rfl

theorem endSession_pend (s : State) : (endSession s).cf.pend = s.cf.pend := (endSession_frame s).same .pend

theorem log_of_guarded {s u : State} (h : guarded u = guarded s) : u.sess.log = s.sess.log := congrArg Guarded.log h

/-- What precedes a reset of the device: the switches open, the data plane stops, and the session ends. -/
theorem resetPrepared_frame (s : State) :
    Frame (stopParts ++ channelParts ++ [.sess, .cf, .pend]) s (endSession (dpStop (openBoth { s with cf := { s.cf with pend := none } }))) := by
  refine Frame.trans (l := stopParts ++ channelParts ++ [.cf, .pend]) ?_ (endSession_frame _)
  refine Frame.trans (l := channelParts ++ [.cf, .pend]) ?_ (dpStop_frame _)
  refine Frame.trans (l := [.cf, .pend]) ?_ (openBoth_frame _)
  exact .of

/-- A reset of all three planes (R105, R106, Table 4.4). -/
theorem deviceReset_isReset (cause : Nat) (s : State) : DeviceIsReset cause s (deviceReset cause s) := by
  have hf := resetPrepared_frame s
  have hl : (endSession (dpStop (openBoth { s with cf := { s.cf with pend := none } }))).sess.log = s.sess.log := by
    rw [log_of_guarded (endSession_guarded _), log_of_guarded (dpStop_guarded _)]
    exact congrArg Sess.log ((openBoth_frame _).same .sess)
  unfold deviceReset
  generalize hu : endSession (dpStop (openBoth { s with cf := { s.cf with pend := none } })) = u at hf hl ⊢
  have hr : satAdd 16 u.sys.resets 1 = satAdd 16 s.sys.resets 1 := congrArg (fun x : Sys => satAdd 16 x.resets 1) (hf.same .sys)
  have ht : u.sys.sysTime = s.sys.sysTime := hf.same .sysTime
  have hh : u.sup.holdReady = s.sup.holdReady := congrArg Sup.holdReady (hf.same .sup)
  have hn : u.sess.user = 0 := hu ▸ endSession_user _
  exact ⟨⟨rfl, rfl, hr, ht⟩, ⟨rfl, rfl, rfl, rfl⟩, ⟨rfl, rfl⟩, fun _ => rfl, rfl, hn, rfl, hh, hf.same .copyA, hf.same .copyB, hl⟩

section Device

variable {s : State} (hp : s.sys.powered = true) (hv : s.sup.vstate ≠ 2) (t : Nat)

include hp hv in
theorem resettable_of : resettable (advance t s) = true := by
  unfold resettable
  rw [advance_sys_powered, advance_sup, hp, bne_iff_ne.2 hv]
  rfl

include hp hv in
/-- O10: RESET_N low for 10 µs or more. -/
theorem resetPin_resets {low : Nat} (hl : 10000 ≤ low) : Answers (.resetPinAssert t low) s fun u =>
    DeviceIsReset 1 (advance t s) u ∧ u.sys.pinReset = true := by
  have h : pinAssert low (advance t s) = { deviceReset 1 (advance t s) with sys := { (deviceReset 1 (advance t s)).sys with pinReset := true } } := by
    unfold pinAssert pinRecognised
    rw [if_pos hl]
    dsimp only
    rw [if_pos (resettable_of hp hv t)]
    rfl
  refine ⟨_, rfl, ?_⟩
  rw [h]
  exact ⟨deviceReset_isReset .., rfl⟩

/-- O10: a level on RESET_N shorter than 1 µs. -/
theorem resetPin_ignored (s : State) (t : Nat) {low : Nat} (hl : low < 1000) :
    Answers (.resetPinAssert t low) s fun u => u = advance t s := by
  have h : pinRecognised low (advance t s) = (false, advance t s) := (if_neg (by omega)).trans (if_pos hl)
  refine ⟨_, rfl, ?_⟩
  unfold pinAssert
  rw [h]
  rfl

include hp hv in
/-- O10: a rail below its threshold. -/
theorem rail_resets : Answers (.railUndervoltage t) s fun u => DeviceIsReset 2 (advance t s) u ∧ u.sys.railLow = true :=
  ⟨_, acts (resettable_of hp hv t), deviceReset_isReset .., rfl⟩

/-- The reset of a SCOPE (R110). -/
def scopeReset (k : Nat) (s : State) : State :=
  match k with
  | 1 => dataReset s
  | 2 => mgmtReset 4 s
  | _ => deviceReset 3 s

theorem resetNow_due {s : State} {k at_ : Nat} {rest : List (Nat × Nat)} (h : s.sys.resetDue = (k, at_) :: rest) (ht : at_ ≤ s.sys.now)
    (hr : resettable s = true) : resetNow s = scopeReset k { s with sys := { s.sys with resetDue := rest } } := by
  unfold resetNow
  rw [h]
  dsimp only
  rw [if_neg (Nat.not_lt.2 ht)]
  exact if_neg (by rw [Bool.not_eq_true, Bool.not_eq_false']; exact hr)

include hp hv in
/-- O10: a reset of SCOPE 3 that is due. -/
theorem scheduled_resets {at_ : Nat} {rest : List (Nat × Nat)} (h : s.sys.resetDue = (3, at_) :: rest) (ht : at_ ≤ (advance t s).sys.now) :
    Answers (.resetTakesEffect t) s fun u => DeviceIsReset 3 (advance t s) u ∧ u.sys.resetDue = [] := by
  refine ⟨_, rfl, ?_⟩
  rw [resetNow_due (s := advance t s) h ht (resettable_of hp hv t)]
  exact ⟨deviceReset_isReset .., rfl⟩

include hp hv in
/-- O10: the end of a pin-controlling instruction. -/
theorem pinInstructionExit_resets (hs : pinScan s = true) : Answers (.jtagPinInstructionExit t) s fun u =>
    DeviceIsReset 7 (advance t s) u ∧ u.sys.jtag = .bypass := by
  have hs' : pinScan (advance t s) = true := hs
  have h : jtagLoad .bypass (advance t s) =
      { deviceReset 7 (advance t s) with sys := { (deviceReset 7 (advance t s)).sys with jtag := .bypass } } := by
    unfold jtagLoad
    dsimp only
    rw [advance_sys_powered, hp, hs', resettable_of hp hv t]
    rfl
  refine ⟨_, acts hs', ?_⟩
  rw [h]
  exact ⟨deviceReset_isReset .., rfl⟩

end Device

/-! ### Requested resets -/

section Requests

variable {s : State} (hp : s.sys.powered = true) (hm : s.sys.mgmtUp = true) (hv : s.sup.vstate ≠ 2) (t : Nat)
include hp hm hv

theorem syReset_schedules (k : Nat) : syReset k (advance t s) = { advance t s with sys := { (advance t s).sys with
    resetDue := s.sys.resetDue ++ [(k, (advance t s).sys.now + 10000)] } } := by
  unfold syReset
  rw [resettable_of hp hv, advance_sys_mgmtUp, hm]
  rfl

omit hp in
theorem resetCmd_schedules (k : Nat) :
    resetCmd k (advance t s) = { advance t s with
        sys := { (advance t s).sys with resetDue := s.sys.resetDue ++ [(k, (advance t s).sys.now + 10000)] }
        dc := (resetCmd k (advance t s)).dc } ∧
      RespondedTo .host 0x1003 1 4 0 s (resetCmd k (advance t s)) := by
  have hu : resetCmd k (advance t s) = answerWrite .host 0x1003 1 4 (0, scheduleReset k (advance t s)) :=
    writeCmd_up (s := advance t s) hm hv ..
  rw [hu]
  refine ⟨?_, answerWrite_responds hm hv rfl ..⟩
  rw [answerWrite, answer_host (s := scheduleReset k (advance t s)) hm hv]
  rfl

end Requests

/-- Settles O10: it holds. -/
theorem deviceResets : Obligations.DeviceResets := by
  unfold Obligations.DeviceResets
  refine ⟨fun s t low hp hv => ⟨resetPin_resets hp hv t, resetPin_ignored s t, rail_resets hp hv t,
      fun at_ rest => scheduled_resets hp hv t, pinInstructionExit_resets hp hv t⟩, fun s t hp hm hv => ?_⟩
  exact ⟨⟨_, rfl, syReset_schedules hp hm hv t 1⟩, ⟨_, rfl, syReset_schedules hp hm hv t 2⟩, ⟨_, rfl, syReset_schedules hp hm hv t 3⟩,
    ⟨_, rfl, resetCmd_schedules hm hv t 1⟩, ⟨_, rfl, resetCmd_schedules hm hv t 2⟩, ⟨_, rfl, resetCmd_schedules hm hv t 3⟩⟩

/-! ### The management plane (R107) -/

/-- A reset of the management plane (R107, Table 4.4). -/
theorem mgmtReset_isReset (cause : Nat) (s : State) : MgmtIsReset cause s (mgmtReset cause s) := by
  have hf : Frame [.cf, .pend, .sess] s (endSession { s with cf := { s.cf with pend := none } }) := by
    refine Frame.trans (l := [.cf, .pend]) ?_ (endSession_frame _)
    exact .of
  have hp : (endSession { s with cf := { s.cf with pend := none } }).cf.pend = none := endSession_pend _
  unfold mgmtReset mgmtLost
  generalize hu : endSession { s with cf := { s.cf with pend := none } } = u at hf hp ⊢
  have hr : satAdd 16 u.sys.resets 1 = satAdd 16 s.sys.resets 1 := congrArg (fun x : Sys => satAdd 16 x.resets 1) (hf.same .sys)
  have hn : u.sess.user = 0 := hu ▸ endSession_user _
  have he : u.sup.eTotalMram = s.sup.eTotalMram := congrArg Sup.eTotalMram (hf.same .sup)
  have hc : (mget ({} : Res) (mfilter (fun a => !mgmtResult a) u.res) aCommit).valid = false := by
    rw [mget_mfilter]
    rfl
  exact ⟨⟨rfl, rfl, hr⟩, ⟨rfl, rfl, hp, rfl, hn, he⟩, hc, hf.same .safA, hf.same .safB, hf.same .ax, hf.same .out, hf.same .oper⟩

section Planes

variable {s : State} (hp : s.sys.powered = true) (hv : s.sup.vstate ≠ 2) (t : Nat)

omit hp in
include hv in
/-- O11: MP's watchdog. -/
theorem mpWatchdog_resets (hm : s.sys.mgmtUp = true) : Answers (.mpWatchdogExpiry t) s (MgmtIsReset 6 (advance t s)) := by
  have h : ((advance t s).sys.mgmtUp && (advance t s).sup.vstate != 2) = true := by
    rw [advance_sys_mgmtUp, advance_sup, hm, bne_iff_ne.2 hv]
    rfl
  exact ⟨_, acts h, mgmtReset_isReset ..⟩

include hp hv in
/-- O11: a reset of SCOPE 2 that is due. -/
theorem scheduled_mgmtReset {at_ : Nat} {rest : List (Nat × Nat)} (h : s.sys.resetDue = (2, at_) :: rest) (ht : at_ ≤ (advance t s).sys.now) :
    Answers (.resetTakesEffect t) s fun u => MgmtIsReset 4 (advance t s) u ∧ u.sys.resetDue = rest := by
  have hk (v : State) (h : v.sys.resetDue = rest) : (mgmtReset 4 v).sys.resetDue = rest := by
    have hf : (endSession { v with cf := { v.cf with pend := none } }).sys = v.sys := (endSession_frame _).same .sys
    exact (congrArg Sys.resetDue hf).trans h
  refine ⟨_, rfl, ?_⟩
  rw [resetNow_due (s := advance t s) h ht (resettable_of hp hv t)]
  exact ⟨mgmtReset_isReset .., hk _ rfl⟩

omit hp hv in
/-- O11: the management plane's reset ends. -/
theorem mgmtReset_ends (hp : s.sys.powered = true) (hc : s.sys.ctrlUp = true) (hm : s.sys.mgmtUp = false) :
    Answers (.mgmtResetDone t) s fun u => u = { advance t s with sys := { (advance t s).sys with mgmtUp := true, hpUp := true } } := by
  refine ⟨_, rfl, ?_⟩
  unfold mgmtResetDone
  rw [advance_sys_powered, advance_sys_ctrlUp, advance_sys_mgmtUp, hp, hc, hm]
  rfl

/-! ### The data plane (R108) -/

theorem hfxFollow_pw (s : State) : (hfxFollow s).pw = { s.pw with hfxOk := (hfxFollow s).pw.hfxOk, hfxReq := (hfxFollow s).pw.hfxReq } := by
  unfold hfxFollow
  split
  · split <;> rfl
  · rfl

theorem dpStart_pw (s : State) : (dpStart s).pw =
    { s.pw with dp := (dpStart s).pw.dp, hfxOk := (dpStart s).pw.hfxOk, hfxReq := (dpStart s).pw.hfxReq } := by
  unfold dpStart
  split
  · rw [hfxFollow_pw]
  · rfl

theorem dpStart_dp (s : State) (h : s.pw.dp = .off) : (dpStart s).pw.dp = .starting := by
  unfold dpStart
  rw [h, hfxFollow_pw]

theorem dpStop_on {s : State} (h : s.pw.dp ≠ .off) : (dpStop s).pw.dp = .off ∧ (dpStop s).pw.scanned = false ∧
    (dpStop s).gov = { s.gov with fcs := [], level := 0 } := by
  have hd : Frame [.ne, .fp, .hg, .ps, .ex, .rq] s (biasStop (stepVoid (psStop (snapAbandon true (neStopAll s))))) := by
    refine Frame.trans (l := [.ne, .fp, .hg, .ps, .ex]) ?_ (biasStop_frame _)
    refine Frame.trans (l := [.ne, .fp, .hg, .ps]) ?_ (stepVoid_frame _)
    refine Frame.trans (l := [.ne, .fp, .hg]) ?_ (psStop_frame _)
    exact (neStopAll_frame s).trans (snapAbandon_frame ..)
  have hg := hd.same .gov
  unfold dpStop
  split
  · contradiction
  · generalize biasStop (stepVoid (psStop (snapAbandon true (neStopAll s)))) = u at hg ⊢
    dsimp only
    rw [hfxFollow_pw]
    refine ⟨rfl, rfl, ?_⟩
    refine ((hfxFollow_frame _).same .gov).trans ?_
    change { u.gov with fcs := [], level := 0 } = { s.gov with fcs := [], level := 0 }
    rw [show u.gov = s.gov from hg]

include hp hv in
/-- O11: a reset of SCOPE 1 that is due. -/
theorem scheduled_dataReset {at_ : Nat} {rest : List (Nat × Nat)} (h : s.sys.resetDue = (1, at_) :: rest) (ht : at_ ≤ (advance t s).sys.now)
    (hd : s.pw.dp = .scanning) : Answers (.resetTakesEffect t) s fun u =>
    u.sys.cause = 5 ∧ u.sys.planes = 1 ∧ u.pw.st = 3 ∧ u.pw.dp ≠ .scanning ∧ u.pw.scanned = false ∧
      u.gov = { s.gov with fcs := u.gov.fcs, level := u.gov.level } ∧ u.safA = s.safA ∧ u.safB = s.safB ∧ u.ax = s.ax ∧
      u.sys.mgmtUp = s.sys.mgmtUp := by
  have hon : (advance t s).pw.dp ≠ .off := by rw [advance_pw, hd]; decide
  refine ⟨_, rfl, ?_⟩
  rw [resetNow_due (s := advance t s) h ht (resettable_of hp hv t), show scopeReset 1 = dataReset from rfl]
  obtain ⟨h1, h2, h3⟩ := dpStop_on (s := { advance t s with sys := { (advance t s).sys with resetDue := rest } }) hon
  have hf := dpStop_frame { advance t s with sys := { (advance t s).sys with resetDue := rest } }
  unfold dataReset
  generalize dpStop { advance t s with sys := { (advance t s).sys with resetDue := rest } } = u at h1 h2 h3 hf ⊢
  extract_lets v p w
  have hw : w.pw.dp = .off := h1
  have ha : w.safA = s.safA ∧ w.safB = s.safB ∧ w.ax = s.ax ∧ w.sys.mgmtUp = s.sys.mgmtUp :=
    ⟨hf.same .safA, hf.same .safB, hf.same .ax, hf.same .mgmtUp⟩
  have hg : w.gov = { s.gov with fcs := w.gov.fcs, level := w.gov.level } := by
    change u.gov = { s.gov with fcs := u.gov.fcs, level := u.gov.level }
    rw [h3]
    rfl
  have hx : w.sys.cause = 5 ∧ w.sys.planes = 1 ∧ w.pw.st = 3 ∧ w.pw.scanned = false := ⟨rfl, rfl, rfl, h2⟩
  clear_value w
  obtain ⟨x1, x2, x3, x4⟩ := hx
  obtain ⟨a1, a2, a3, a4⟩ := ha
  split
  · have hs := dpStart_frame w
    refine ⟨?_, ?_, (hs.same .st).trans x3, ?_, ?_, ?_, (hs.same .safA).trans a1, (hs.same .safB).trans a2, (hs.same .ax).trans a3,
      (hs.same .mgmtUp).trans a4⟩
    · exact (congrArg Sys.cause (hs.same .sys)).trans x1
    · exact (congrArg Sys.planes (hs.same .sys)).trans x2
    · rw [dpStart_dp w hw]
      decide
    · rw [dpStart_pw]
      exact x4
    · rw [show (dpStart w).gov = w.gov from hs.same .gov]
      exact hg
  · exact ⟨x1, x2, x3, by rw [hw]; decide, x4, hg, a1, a2, a3, a4⟩

end Planes

/-! ### Leaving reset -/

theorem planesUp_asleep {s : State} (h : waking s = false) : ∃ p q b,
    planesUp s = hfxFollow { s with sys := { s.sys with ctrlUp := true, mgmtUp := true, hpUp := b }, sup := p, pw := q } := by
  unfold planesUp
  rw [h]
  exact ⟨_, _, _, rfl⟩

/-- The planes leave reset, out of STANDBY (Table 4.1). -/
theorem planesLeave_leaves {s : State} (hp : s.sys.powered = true) (hn : s.sys.pinReset = false) (hr : s.sys.railLow = false)
    (hc : s.sys.ctrlUp = false) (hs : s.pw.st ≠ 2) : (planesLeave s).sys.ctrlUp = true ∧ (planesLeave s).sys.mgmtUp = true ∧
      (planesLeave s).sys.oper = s.sys.oper ∧ (planesLeave s).safA = s.safA ∧ (planesLeave s).safB = s.safB ∧
      (planesLeave s).sys.pinReset = false ∧ (planesLeave s).sys.railLow = false := by
  have hw : waking s = false := by
    unfold waking
    rw [beq_eq_false_iff_ne.2 hs]
    rfl
  have hfree : planesFree s = true := by
    unfold planesFree
    rw [hp, hn, hr, hc, bne_iff_ne.2 hs]
    rfl
  obtain ⟨p, q, h, he⟩ := planesUp_asleep hw
  unfold planesLeave
  rw [if_pos hfree, he]
  generalize hu : { s with sys := { s.sys with ctrlUp := true, mgmtUp := true, hpUp := h }, sup := p, pw := q } = u
  have hf : Frame [.pw] u (hfxFollow u) := hfxFollow_frame u
  have hy : (hfxFollow u).sys = u.sys := hf.same .sys
  rw [hy, show (hfxFollow u).safA = u.safA from hf.same .safA, show (hfxFollow u).safB = u.safB from hf.same .safB, ← hu]
  exact ⟨rfl, rfl, rfl, rfl, rfl, hn, hr⟩

section Leaving

variable {s : State} (hp : s.sys.powered = true) (hc : s.sys.ctrlUp = false) (hs : s.pw.st ≠ 2) (t : Nat)
include hp hc hs

theorem planesLeaveReset_leaves (hn : s.sys.pinReset = false) (hr : s.sys.railLow = false) : Answers (.planesLeaveReset t) s fun u =>
    u.sys.ctrlUp = true ∧ u.sys.mgmtUp = true ∧ u.sys.oper = s.sys.oper ∧ u.safA = s.safA ∧ u.safB = s.safB := by
  obtain ⟨h1, h2, h3, h4, h5, _⟩ := planesLeave_leaves (s := advance t s) hp hn hr hc hs
  exact ⟨_, rfl, h1, h2, h3, h4, h5⟩

theorem resetPinRelease_leaves (hn : s.sys.pinReset = true) (hr : s.sys.railLow = false) (hb : s.sys.bootAt + 3 * msNs ≤ (advance t s).sys.now) :
    Answers (.resetPinRelease t) s fun u => u.sys.pinReset = false ∧ u.sys.ctrlUp = true ∧ u.sys.mgmtUp = true := by
  obtain ⟨h1, h2, _, _, _, h6, _⟩ :=
    planesLeave_leaves (s := { advance t s with sys := { (advance t s).sys with pinReset := false } }) hp rfl hr hc hs
  have h : pinRelease (advance t s) = planesLeave { advance t s with sys := { (advance t s).sys with pinReset := false } } := if_pos hb
  refine ⟨_, acts hn, ?_⟩
  rw [h]
  exact ⟨h6, h1, h2⟩

theorem railRecovery_leaves (hr : s.sys.railLow = true) (hn : s.sys.pinReset = false) :
    Answers (.railRecovery t) s fun u => u.sys.railLow = false ∧ u.sys.ctrlUp = true ∧ u.sys.mgmtUp = true := by
  obtain ⟨h1, h2, _, _, _, _, h7⟩ :=
    planesLeave_leaves (s := { advance t s with sys := { (advance t s).sys with railLow := false } }) hp hn rfl hc hs
  exact ⟨_, acts hr, h7, h1, h2⟩

end Leaving

/-- Settles O11: it holds. -/
theorem planeResets : Obligations.PlaneResets := by
  unfold Obligations.PlaneResets
  refine ⟨fun s t hp hv => ⟨mpWatchdog_resets hv t, fun at_ rest => scheduled_mgmtReset hp hv t, fun at_ rest => scheduled_dataReset hp hv t,
    fun hc hm => mgmtReset_ends t hp hc hm⟩, fun s t hp hc hs => ?_⟩
  exact ⟨planesLeaveReset_leaves hp hc hs t, resetPinRelease_leaves hp hc hs t, railRecovery_leaves hp hc hs t⟩

end Sys2Proof.Machine
end

section
/-! PROOF. O8 and O9: power-up, the load of a configuration, the self-tests, boundary scan and debug. -/

namespace Sys2Proof.Machine

-- One after another the proofs need less memory than all at once.
set_option Elab.async false

/-! ### What a set that is loaded or takes effect changes -/

theorem ChansOnly.frame {s u : State} (h : ChansOnly s u) : Frame [.tf] s u := by
  obtain ⟨c, rfl⟩ := h
  exact .of

theorem tfPut_frame (n : Nat) (x : Tf) (s : State) : Frame [.tf] s (tfPut n x s) := .of

theorem tfStart_frame (n : Nat) (s : State) : Frame [.tf] s (tfStart n s) := by
  unfold tfStart
  split
  · exact (tfPut_frame ..).trans (oneChan_tfDrydown n _).shared.frame
  · exact .refl ..

theorem tfGain_frame (n : Nat) (s : State) : Frame [.tf] s (tfGain n s) := by
  unfold tfGain
  dsimp only
  split
  · exact .refl ..
  · exact tfPut_frame ..

theorem tfStartAll_frame (s : State) : Frame [.tf] s (tfStartAll s) :=
  (Frame.foldl (fun s n => (tfGain_frame n s).trans (tfStart_frame n _) (r := [.tf])) _ s).trans (tfPinUpdateAll_chansOnly _).frame

theorem zpPut_frame (p : Nat) (x : Zp) (s : State) : Frame [.zl] s (zpPut p x s) := (zpPut_linkOnly p x s).frame

theorem portDown_frame (p : Nat) (s : State) : Frame [.zl, .ed] s (portDown p s) := by
  unfold portDown
  dsimp only
  split
  · exact .refl ..
  · refine Frame.trans (l := [.zl]) ?_ (raise_frame ..)
    exact (zpPut_frame ..).trans (Frame.of (l := [.zl]))

theorem linkDown_frame (s : State) : Frame [.zl, .ed] s (linkDown s) := (portDown_frame 0 s).trans (portDown_frame 1 _)

theorem syncLost_frame (s : State) : Frame [.zl] s (syncLost s) := .of

theorem linkCommitted_frame (s : State) : Frame [.zl, .ed] s (linkCommitted s) := by
  unfold linkCommitted
  extract_lets u
  have hu : Frame [.zl, .ed] s u := by
    unfold u
    split
    · exact .refl ..
    · exact linkDown_frame s
  clear_value u
  split
  · refine Frame.trans (l := [.zl, .ed]) ?_ (syncLost_frame _)
    exact hu.trans (Frame.of (l := [.zl]))
  · exact hu

theorem accordCheck_frame (s : State) : Frame [.ac, .ed] s (accordCheck s) := by
  unfold accordCheck
  refine Frame.trans (l := [.ac]) ?_ (raiseIf_frame ..)
  exact .of

theorem derived_frame (m n : Nat) (s : State) : Frame [.fp, .sup] s
    { s with fp := { s.fp with unreach := m }, sup := { s.sup with floorUj := n } } := .of

theorem plannerDerive_frame (s : State) : Frame [.fp, .sup] s (plannerDerive s) := derived_frame ..

theorem vldJudge_frame (mv : Nat) (s : State) : Frame [.sup, .ed] s (vldJudge mv s) := by
  unfold vldJudge
  refine Frame.trans (l := [.sup]) ?_ (raiseIf_frame ..)
  exact .of

theorem supplyCommitted_frame (s : State) : Frame [.sup, .mw, .ed] s (supplyCommitted s) := by
  unfold supplyCommitted
  extract_lets u
  have hu : Frame [.sup, .ed] s u := by
    unfold u
    split
    · exact vldJudge_frame ..
    · exact .refl ..
  clear_value u
  split
  · exact hu.trans (Frame.of (l := [.sup, .mw]))
  split
  · exact hu.trans (Frame.of (l := [.mw]))
  · exact hu.mono

theorem secSet_frame (k : Nat) (x : Sec) (s : State) : Frame [.ax] s (secSet k x s) := .of

theorem axleStart_frame (cause : Nat) (aOk bOk : Bool) (s : State) : Frame [.ax, .ed] s (axleStart cause aOk bOk s) := by
  unfold axleStart
  extract_lets a b cnt _ u v
  have hu : Frame [.ax] s u := .of
  have hv : Frame [.ax] u v := .foldl (fun _ _ => secSet_frame ..) _ _
  clear_value u v
  exact (hu.trans hv (r := [.ax])).trans (raiseIf_frame ..)

theorem govLoad_frame (aOk bOk : Bool) (s : State) : Frame [.gov, .ed] s (govLoad aOk bOk s) := by
  unfold govLoad
  dsimp only
  split
  · exact .of
  split
  · exact .of
  · refine Frame.trans (l := [.gov]) ?_ (raise_frame ..)
    exact .of
  · refine Frame.trans (l := [.gov]) ?_ (raise_frame ..)
    exact .of
  · refine Frame.trans (l := [.gov]) ?_ (raise_frame ..)
    exact .of

/-! ### Power-up (O8) -/

/-- What a power-up leaves, of the parts that the governor's load does not touch. -/
theorem powerUp_parts {s : State} (h : s.sys.powered = false) (ga gb : Bool) (P : Sys → Sup → Saf → Saf → Ax → Cf → Prop)
    (hP : ∀ n, P { s.sys with
        powered := true, sysTime := 0, bootAt := s.sys.now, mgmtUp := false, cause := if s.sys.saveRecord then 8 else 0, planes := 7
        saveRecord := false, freeCtr := n
        unsaved := if s.sys.everOff && !s.sys.saveRecord then satAdd 32 s.sys.unsaved 1 else s.sys.unsaved }
      { s.sup with vinPath := true, holdPath := false, uvlo := false } s.safA s.safB s.ax s.cf) :
    P (powerUp ga gb s).sys (powerUp ga gb s).sup (powerUp ga gb s).safA (powerUp ga gb s).safB (powerUp ga gb s).ax (powerUp ga gb s).cf := by
  have governed (v : State) (hv : P { v.sys with mgmtUp := false } v.sup v.safA v.safB v.ax v.cf) :
      P { (govLoad ga gb v).sys with mgmtUp := false } (govLoad ga gb v).sup (govLoad ga gb v).safA (govLoad ga gb v).safB
        (govLoad ga gb v).ax (govLoad ga gb v).cf := by
    have hf := govLoad_frame ga gb v
    rwa [show (govLoad ga gb v).sys = v.sys from hf.same .sys, show (govLoad ga gb v).sup = v.sup from hf.same .sup,
      show (govLoad ga gb v).safA = v.safA from hf.same .safA, show (govLoad ga gb v).safB = v.safB from hf.same .safB,
      show (govLoad ga gb v).ax = v.ax from hf.same .ax, show (govLoad ga gb v).cf = v.cf from hf.same .cf]
  unfold powerUp
  rw [h, if_neg Bool.false_ne_true]
  exact governed _ (hP _)

/-- O8: power-up. -/
theorem powerUp_powers {s : State} (h : s.sys.powered = false) (t : Nat) (ga gb : Bool) : Answers (.powerUp t ga gb) s fun u =>
    u.sys.powered = true ∧ u.sys.sysTime = 0 ∧ u.sys.bootAt = (advance t s).sys.now ∧ u.sys.planes = 7 ∧
    u.sys.cause = (if s.sys.saveRecord then 8 else 0) ∧ u.sys.mgmtUp = false ∧ u.sup.vinPath = true ∧ u.sup.holdPath = false ∧
    u.sup.uvlo = false ∧ u.sys.unsaved = (if s.sys.everOff && !s.sys.saveRecord then satAdd 32 s.sys.unsaved 1 else s.sys.unsaved) ∧
    u.safA = s.safA ∧ u.safB = s.safB ∧ u.ax = s.ax ∧ u.cf = s.cf :=
  ⟨_, rfl, powerUp_parts (s := advance t s) h ga gb (fun y p a b x c =>
    y.powered = true ∧ y.sysTime = 0 ∧ y.bootAt = (advance t s).sys.now ∧ y.planes = 7 ∧
    y.cause = (if s.sys.saveRecord then 8 else 0) ∧ y.mgmtUp = false ∧ p.vinPath = true ∧ p.holdPath = false ∧ p.uvlo = false ∧
    y.unsaved = (if s.sys.everOff && !s.sys.saveRecord then satAdd 32 s.sys.unsaved 1 else s.sys.unsaved) ∧
    a = s.safA ∧ b = s.safB ∧ x = s.ax ∧ c = s.cf) fun _ => ⟨rfl, rfl, rfl, rfl, rfl, rfl, rfl, rfl, rfl, rfl, rfl, rfl, rfl, rfl⟩⟩

theorem hpStart_opens {s : State} {t : Nat} (hm : s.sys.mgmtUp = true) (hb : s.sys.bootAt + 5 * msNs ≤ (advance t s).sys.now) :
    Answers (.hpStartReady t) s fun u => u = { advance t s with sys := { (advance t s).sys with hpUp := true } } := by
  refine ⟨_, rfl, ?_⟩
  unfold hpStart
  rw [if_pos]
  rw [advance_sys_mgmtUp, hm, show (advance t s).sys.bootAt = s.sys.bootAt from rfl, Bool.true_and]
  exact decide_eq_true hb

/-! ### The load of a configuration (O8, Table 4.2) -/

/-- The copy of a row of Table 4.2. -/
def pickedCopy (r : Option Bool) (s : State) : Copy := match r with | some false => s.cf.copyA | some true => s.cf.copyB | none => {}

/-- What the load leaves of the configuration. -/
structure Loaded (aOk bOk : Bool) (r : Option Bool) (s u : State) : Prop where
  eff : u.cf.eff = (pickedCopy r s).objs
  map : u.cf.map = (pickedCopy r s).map
  count : u.cf.count = (pickedCopy r s).count
  used : u.cf.used = (r == some true)
  loaded : u.cf.loaded = true
  aBad : u.cf.aBad = !aOk
  bBad : u.cf.bBad = !bOk
  defaults : r = none → u.cf.defaults = true
  copies : r = none → u.cf.copyA = s.cf.copyA ∧ u.cf.copyB = s.cf.copyB

theorem Loaded.congr {aOk bOk : Bool} {r : Option Bool} {s u v : State} (h : Loaded aOk bOk r s u) (hc : v.cf = u.cf) : Loaded aOk bOk r s v := by
  obtain ⟨h1, h2, h3, h4, h5, h6, h7, h8, h9⟩ := h
  constructor <;> rw [hc] <;> assumption

theorem loadConfig_loaded (aOk bOk : Bool) (s : State) :
    Loaded aOk bOk (loadRow aOk bOk s.cf.copyA s.cf.copyB).1 s (loadConfig aOk bOk s) := by
  unfold loadConfig
  dsimp only
  generalize loadRow aOk bOk s.cf.copyA s.cf.copyB = r
  obtain ⟨r, e⟩ := r
  have hm : (match r with | some false => s.cf.copyA | some true => s.cf.copyB | none => {}) = pickedCopy r s := rfl
  have h (u : State) (hu : Loaded aOk bOk r s u) : Loaded aOk bOk r s (match e with | some e => raise e u | none => u) := by
    split
    · exact hu.congr ((raise_frame ..).same .cf)
    · exact hu
  refine h _ ⟨?_, ?_, ?_, rfl, rfl, rfl, rfl, fun hr => ?_, fun hr => ?_⟩
  · exact congrArg Copy.objs hm
  · exact congrArg Copy.map hm
  · exact congrArg Copy.count hm
  · subst hr
    rfl
  · subst hr
    exact ⟨rfl, rfl⟩

theorem configLoad_cf {s : State} (hc : s.sys.ctrlUp = true) (hm : s.sys.mgmtUp = true) (hl : s.cf.loaded = false) (aOk bOk ca cb : Bool) :
    (configLoad aOk bOk ca cb s).cf = (loadConfig aOk bOk s).cf := by
  unfold configLoad
  have hif : (s.sys.ctrlUp && s.sys.mgmtUp && !s.cf.loaded) = true := by
    rw [hc, hm, hl]
    rfl
  rw [if_pos hif]
  extract_lets u v w
  have hv : Frame [.pw, .zl, .ed, .ac, .fp, .sup, .mw] u v := by
    refine Frame.trans (l := [.pw, .zl, .ed, .ac, .fp, .sup]) ?_ (supplyCommitted_frame _)
    refine Frame.trans (l := [.pw, .zl, .ed, .ac]) ?_ (plannerDerive_frame _)
    refine Frame.trans (l := [.pw, .zl, .ed]) ?_ (accordCheck_frame _)
    exact (hfxFollow_frame _).trans (linkCommitted_frame _)
  clear_value v
  split
  · refine ((tfStartAll_frame _).same .cf).trans ?_
    refine ((axleStart_frame ..).same .cf).trans ?_
    change v.cf = u.cf
    exact hv.same .cf
  · exact hv.same .cf

/-- O8: the load. -/
theorem configLoad_loads {s : State} (hc : s.sys.ctrlUp = true) (hm : s.sys.mgmtUp = true) (hl : s.cf.loaded = false)
    (t : Nat) (aOk bOk ca cb : Bool) : Answers (.configLoad t aOk bOk ca cb) s fun u =>
    u.cf.loaded = true ∧ u.cf.aBad = !aOk ∧ u.cf.bBad = !bOk ∧
    (aOk = true → (bOk = true → s.cf.copyA.count ≤ s.cf.copyB.count) →
      u.cf.eff = s.cf.copyA.objs ∧ u.cf.map = s.cf.copyA.map ∧ u.cf.count = s.cf.copyA.count ∧ u.cf.used = false) ∧
    (bOk = true → (aOk = true → s.cf.copyB.count < s.cf.copyA.count) →
      u.cf.eff = s.cf.copyB.objs ∧ u.cf.map = s.cf.copyB.map ∧ u.cf.count = s.cf.copyB.count ∧ u.cf.used = true) ∧
    (aOk = false → bOk = false → u.cf.eff = [] ∧ u.cf.map = {} ∧ u.cf.defaults = true ∧ u.cf.copyA = s.cf.copyA ∧ u.cf.copyB = s.cf.copyB) := by
  have h := (loadConfig_loaded aOk bOk (advance t s)).congr (configLoad_cf (s := advance t s) hc hm hl aOk bOk ca cb)
  refine ⟨_, rfl, h.loaded, h.aBad, h.bBad, fun ha hb => ?_, fun hb ha => ?_, fun ha hb => ?_⟩
  · have hr : (loadRow aOk bOk s.cf.copyA s.cf.copyB).1 = some false := by
      subst ha
      cases bOk with
      | false => rfl
      | true =>
        have := hb rfl
        unfold loadRow
        dsimp only
        split
        · rfl
        · exact congrArg some (decide_eq_false (by omega))
    rw [advance_cf, hr] at h
    exact ⟨h.eff, h.map, h.count, h.used⟩
  · have hr : (loadRow aOk bOk s.cf.copyA s.cf.copyB).1 = some true := by
      subst hb
      cases aOk with
      | false => rfl
      | true =>
        have := ha rfl
        unfold loadRow
        dsimp only
        rw [if_neg (by omega)]
        exact congrArg some (decide_eq_true this)
    rw [advance_cf, hr] at h
    exact ⟨h.eff, h.map, h.count, h.used⟩
  · have hr : (loadRow aOk bOk s.cf.copyA s.cf.copyB).1 = none := by
      subst ha hb
      rfl
    rw [advance_cf, hr] at h
    exact ⟨h.eff, h.map, h.defaults rfl, h.copies rfl⟩

/-- Settles O8: it holds. -/
theorem startUp : Obligations.StartUp := by
  unfold Obligations.StartUp
  exact ⟨fun s t ga gb => ⟨fun h => powerUp_powers h t ga gb, hpStart_opens⟩,
    fun s t aOk bOk ca cb hc hm hl => configLoad_loads hc hm hl t aOk bOk ca cb⟩

end Sys2Proof.Machine
end

section
/-! PROOF. O9: self-tests, safety operational, boundary scan and debug. -/

namespace Sys2Proof.Machine

-- One after another the proofs need less memory than all at once.
set_option Elab.async false

/-! ### Self-tests (R99) -/

section SelfTest

variable {s : State} (hc : s.sys.ctrlUp = true) (hl : s.cf.loaded = true) (ho : s.sys.oper = false)

/-- The outcome of a self-test is noted. -/
def noteTest (c : Chan) (pass : Bool) (s : State) : State := { s with sys := { s.sys with
  stA := if c = .a then some pass else s.sys.stA, stB := if c = .b then some pass else s.sys.stB } }

include hc hl ho in
theorem selfTest_notes (c : Chan) (pass : Bool) :
    selfTest c pass s = if pass then noteTest c pass s else latchFault c fltStartup (noteTest c pass s) := by
  unfold selfTest
  rw [hc, hl, ho]
  cases c <;> rfl

include hc hl ho in
/-- O9: a self-test that passes. -/
theorem selfTest_passes (t : Nat) (c : Chan) : Answers (.selfTestDone t c true) s fun u => u = { advance t s with sys := { (advance t s).sys with
    stA := if c = .a then some true else s.sys.stA, stB := if c = .b then some true else s.sys.stB } } := by
  refine ⟨_, rfl, ?_⟩
  rw [selfTest_notes (s := advance t s) hc hl ho, if_pos rfl]
  rfl

include hc hl ho in
/-- O9: a self-test that fails. -/
theorem selfTest_fails (t : Nat) (c : Chan) : Answers (.selfTestDone t c false) s fun u =>
    (getC u c).sw = 0 ∧ (getC u c).latch = bset (getC s c).latch fltStartup true ∧
    (getC u (otherC c)).latch = (getC s (otherC c)).latch ∧
    ((∀ p, p < 4 → (tpGet s p).by_ = none) → getC u (otherC c) = getC s (otherC c)) ∧
    u.sys.stA = (if c = .a then some false else s.sys.stA) ∧ u.sys.stB = (if c = .b then some false else s.sys.stB) := by
  have hn : ∀ d, getC (noteTest c false (advance t s)) d = getC s d := getC_congr rfl rfl
  have hsys : (latchFault c fltStartup (noteTest c false (advance t s))).sys = (noteTest c false (advance t s)).sys :=
    (latchFault_frame ..).same .sys
  refine ⟨_, rfl, ?_⟩
  rw [selfTest_notes (s := advance t s) hc hl ho, if_neg Bool.false_ne_true]
  refine ⟨latchFault_sw .., ?_, ?_, fun hp => ?_, congrArg Sys.stA hsys, congrArg Sys.stB hsys⟩
  · rw [latchFault_latch, hn]
  · rw [latchFault_latch_other, hn]
  · have hp' : NoPulse (noteTest c false (advance t s)) := hp
    rw [(latchFault_other c fltStartup hp').1, hn]

end SelfTest

/-! ### Safety operational (R98) -/

/-- Every switch is open and each pair waits for a restart. -/
structure Rests (s : State) : Prop where
  sound : Safe s
  swA : s.safA.sw = 0
  swB : s.safB.sw = 0

theorem Rests.of_same {s u : State} (h : Rests s) (hs : (guarded u).switches = (guarded s).switches) (hl : u.sess.log = s.sess.log) : Rests u := by
  obtain ⟨⟨h1, h2, _, h4⟩, ha, hb⟩ := h
  have e := hs
  simp only [guarded, Switches.mk.injEq] at e
  obtain ⟨e1, e2, e3, e4, e5, e6⟩ := e
  refine ⟨⟨?_, ?_, fun _ => ⟨e1.trans ha, e4.trans hb⟩, hl ▸ h4⟩, e1.trans ha, e4.trans hb⟩
  · rw [chanOk, e1, e2, e3]
    exact h1
  · rw [chanOk, e4, e5, e6]
    exact h2

theorem Rests.opens {s u : State} (h : Rests s) (ho : (guarded u).Opens (guarded s)) : Rests u := by
  obtain ⟨hs, ha, hb⟩ := h
  obtain ⟨oa, ob, os⟩ := ho
  refine ⟨os hs, ?_, ?_⟩
  · have e : u.safA.sw &&& ~~~s.safA.sw = 0 := oa
    rw [ha] at e
    exact (bv4_and_ones _).symm.trans e
  · have e : u.safB.sw &&& ~~~s.safB.sw = 0 := ob
    rw [hb] at e
    exact (bv4_and_ones _).symm.trans e

theorem Rests.rwait {s : State} (h : Rests s) : s.safA.rwait = 15 ∧ s.safB.rwait = 15 := by
  obtain ⟨⟨⟨h1, _⟩, ⟨h2, _⟩, _⟩, ha, hb⟩ := h
  exact ⟨by rw [h1, ha]; rfl, by rw [h2, hb]; rfl⟩

theorem Rests.of_safe {s : State} (h : Safe s) (ho : s.sys.oper = false) : Rests s := by
  obtain ⟨ha, hb⟩ := h.2.2.1 ho
  exact ⟨h, ha, hb⟩

/-- The last part of safety operational: the demands of both channels, and the data plane's start. -/
def operationalEnd (v : State) : State :=
  let w := bothC evalDemands v
  if 4 ≤ selectState w then dpStart w else w

/-- Safety is operational from here on, and PWR_BOOT is requested but after a wake. -/
def operationalBegin (s : State) : State :=
  let v := { s with sys := { s.sys with oper := true, safeMs := if s.sys.safeMs = 0 then bootMs s else s.sys.safeMs } }
  if v.sys.cameFromStandby then v
  else { v with pw := { v.pw with req := cfgN v 0x1100 8, demand := cfgN v 0x1100 8, idleFrom := v.sys.now } }

theorem safetyOper_eq {s : State} (h : (s.sys.ctrlUp && s.cf.loaded && !s.sys.oper && s.sys.stA == some true && s.sys.stB == some true) = true)
    (lvA lvB : SinLevels) :
    safetyOper lvA lvB s = operationalEnd (operationalBegin (linksStart (channelStart .b lvB (channelStart .a lvA s)))) := if_pos h

/-- The demands of both channels and the data plane's start leave what safety operational has set. -/
theorem operational_settles {v : State} (hr : Rests v) (ho : v.sys.oper = true) {c : Bool} {n : Nat} (hq : c = false → v.pw.req = n) :
    let u := operationalEnd v
    u.sys.oper = true ∧ AllOpen u ∧ u.safA.rwait = 15 ∧ u.safB.rwait = 15 ∧ (c = false → u.pw.req = n) := by
  unfold operationalEnd
  intro u
  extract_lets w at u
  have hw : Rests w := hr.opens ((evalDemands_opens .b _).trans (evalDemands_opens .a v))
  have hf : Frame channelParts v w := bothC_frame evalDemands_frame v
  have hu : Frame [.pw, .dp] w u := by
    unfold u
    split
    · exact dpStart_frame w
    · exact .refl ..
  have hk : u.pw.req = w.pw.req := by
    unfold u
    split
    · rw [dpStart_pw]
    · rfl
  have ha : u.safA = w.safA := hu.same .safA
  have hb : u.safB = w.safB := hu.same .safB
  obtain ⟨ra, rb⟩ := hw.rwait
  refine ⟨((hu.same .oper).trans (hf.same .oper)).trans ho, ⟨by rw [ha]; exact hw.swA, by rw [hb]; exact hw.swB⟩, by rw [ha]; exact ra, by rw [hb]; exact rb,
    fun hc => ?_⟩
  exact hk.trans ((congrArg Pw.req (hf.same .pw)).trans (hq hc))

/-- The channels' start changes no switch, no interlock and no latch. -/
theorem channelStart_guarded' (c : Chan) (lv : SinLevels) (s : State) : guarded (channelStart c lv s) = guarded s := by
  cases c <;> rfl

theorem channelStart_frame (c : Chan) (lv : SinLevels) (s : State) : Frame channelParts s (channelStart c lv s) := setC_frame ..

theorem linksStart_frame (s : State) : Frame [.ax] s (linksStart s) := .of

/-- O9: safety operational. -/
theorem safetyOperational_starts {s : State} (hc : s.sys.ctrlUp = true) (hl : s.cf.loaded = true) (ho : s.sys.oper = false)
    (ha : s.sys.stA = some true) (hb : s.sys.stB = some true) (hs : Safe s) (t : Nat) (lv : ChannelLevels) :
    Answers (.safetyOperational t lv) s fun u => u.sys.oper = true ∧ AllOpen u ∧ u.safA.rwait = 15 ∧ u.safB.rwait = 15 ∧
      (s.sys.cameFromStandby = false → u.pw.req = cfgN s 0x1100 8) := by
  have hif (s : State) (hc : s.sys.ctrlUp = true) (hl : s.cf.loaded = true) (ho : s.sys.oper = false) (ha : s.sys.stA = some true)
      (hb : s.sys.stB = some true) : (s.sys.ctrlUp && s.cf.loaded && !s.sys.oper && s.sys.stA == some true && s.sys.stB == some true) = true := by
    rw [hc, hl, ho, ha, hb]
    rfl
  refine ⟨_, rfl, ?_⟩
  rw [safetyOper_eq (hif (advance t s) hc hl ho ha hb)]
  have hf : Frame (.ax :: channelParts) (advance t s) (linksStart (channelStart .b lv.b (channelStart .a lv.a (advance t s)))) := by
    refine Frame.trans (l := channelParts) ?_ (linksStart_frame _)
    exact (channelStart_frame ..).trans (channelStart_frame ..)
  have hg : guarded (linksStart (channelStart .b lv.b (channelStart .a lv.a (advance t s)))) = guarded (advance t s) :=
    (channelStart_guarded' ..).trans (channelStart_guarded' ..)
  generalize linksStart (channelStart .b lv.b (channelStart .a lv.a (advance t s))) = v at hf hg ⊢
  have hr : Rests v := (Rests.of_safe hs ho).of_same (congrArg Guarded.switches hg) (congrArg Guarded.log hg)
  have hcf : v.cf = s.cf := hf.same .cf
  have hsys : v.sys = (advance t s).sys := hf.same .sys
  have hst : v.sys.cameFromStandby = s.sys.cameFromStandby := by rw [hsys]; rfl
  refine operational_settles (v := operationalBegin v) ?_ ?_ fun h => ?_
  · unfold operationalBegin
    dsimp only
    split
    · exact hr.of_same rfl rfl
    · exact hr.of_same rfl rfl
  · unfold operationalBegin
    dsimp only
    split
    · rfl
    · rfl
  · unfold operationalBegin
    dsimp only
    rw [hst, h, if_neg Bool.false_ne_true]
    dsimp only
    exact cfgN_congr (by exact hcf) ..

/-! ### Boundary scan and debug (R111 to R113) -/

theorem pinLevel_congr {s u : State} (he : u.ed = s.ed) (hw : u.pw = s.pw) (hv : u.sys.variant = s.sys.variant) (hp : u.sys.pinReset = s.sys.pinReset) (ht : u.tf = s.tf) (k : Nat) :
    pinLevel u k = pinLevel s k := by
  have hl : ∀ k, intLevel u k = intLevel s k := fun k => by
    unfold intLevel tLine signalledTo localReady tAwake
    rw [he, hw, hv]
  unfold pinLevel
  rw [hl, hp, ht]

section Scan

variable {s : State} (hp : s.sys.powered = true) (hn : pinScan s = false) (t : Nat)
include hp hn

theorem jtagLoad_loads {j : Jtag} (hj : j ≠ .samplePreload) : jtagLoad j (advance t s) =
    { advance t s with sys := { (advance t s).sys with jtag := j } } := by
  have hn' : pinScan (advance t s) = false := hn
  unfold jtagLoad
  rw [advance_sys_powered, hp, hn']
  exact if_neg hj

/-- O9: SAMPLE/PRELOAD captures the pins. -/
theorem samplePreload_captures : Answers (.jtagSamplePreload t) s fun u =>
    u = pinCapture { advance t s with sys := { (advance t s).sys with jtag := .samplePreload } } ∧
      ∀ k, k < 6 → mget false u.sys.bscan k = pinLevel s k := by
  have hn' : pinScan (advance t s) = false := hn
  have h : jtagLoad .samplePreload (advance t s) = pinCapture { advance t s with sys := { (advance t s).sys with jtag := .samplePreload } } := by
    unfold jtagLoad
    rw [advance_sys_powered, hp, hn']
    rfl
  refine ⟨_, rfl, h, fun k hk => ?_⟩
  rw [h]
  exact (mget_mtab _ _ _ _ hk).trans (pinLevel_congr rfl rfl rfl rfl rfl k)

theorem jtagPins_bypassed (hs : s.cf.safety = true) (j : Jtag) : jtagPins j (advance t s) =
    { advance t s with sys := { (advance t s).sys with jtag := .bypass } } := by
  unfold jtagPins
  rw [advance_sys_powered, hp, advance_cf, hs]
  exact jtagLoad_loads hp hn t (by decide)

omit hn in
/-- O9: a pin-controlling instruction is a protective stop. -/
theorem jtagPins_stops (hs : s.cf.safety = false) (j : Jtag) : (jtagPins j (advance t s)).sys.jtag = j ∧ AllOpen (jtagPins j (advance t s)) ∧
    (jtagPins j (advance t s)).sys.stops = satAdd 32 s.sys.stops 1 := by
  have ha := abandonFrame_frame (openBoth (advance t s))
  have ho := openBoth_open (advance t s)
  have hy : (openBoth (advance t s)).sys = (advance t s).sys := (openBoth_frame _).same .sys
  unfold jtagPins
  rw [advance_sys_powered, hp, advance_cf, hs, if_neg (by decide), if_neg (by decide)]
  generalize openBoth (advance t s) = v at ha ho hy ⊢
  generalize abandonFrame v = u at ha ⊢
  have hu : u.sys.stops = s.sys.stops := by
    rw [show u.sys = v.sys from ha.same .sys, hy]
    rfl
  refine ⟨rfl, ⟨?_, ?_⟩, congrArg (satAdd 32 · 1) hu⟩
  · exact (congrArg Saf.sw (ha.same .safA)).trans ho.1
  · exact (congrArg Saf.sw (ha.same .safB)).trans ho.2

omit hp hn in
/-- O9: the debug port halts SP. -/
theorem debugHalt_halts (hc : s.sys.ctrlUp = true) (hs : s.cf.safety = false) : Answers (.spDebugHalt t) s fun u =>
    u.sys.spHalt = true ∧ u.safA.sw = 0 ∧ u.safB.latch = s.safB.latch ∧ ((∀ p, p < 4 → (tpGet s p).by_ = none) → u.safB = s.safB) := by
  have h : debugHalt (advance t s) = openAll .a { advance t s with sys := { (advance t s).sys with spHalt := true } } := by
    unfold debugHalt
    rw [advance_sys_ctrlUp, hc, advance_cf, hs]
    rfl
  refine ⟨_, rfl, ?_⟩
  rw [h]
  refine ⟨congrArg Sys.spHalt ((openAll_frame ..).same .sys), openAll_sw .a _, openAll_latch .a .b _, fun hp => ?_⟩
  have hp' : NoPulse { advance t s with sys := { (advance t s).sys with spHalt := true } } := hp
  exact (openAll_other .a hp').1

omit hp hn in
theorem debugHalt_refused (hs : s.cf.safety = true) : Answers (.spDebugHalt t) s fun u => u = advance t s := by
  refine ⟨_, rfl, ?_⟩
  unfold debugHalt
  rw [advance_cf, hs, Bool.not_true, Bool.and_false]
  rfl

end Scan

/-- Settles O9: it holds. -/
theorem selfTestsAndDebug : Obligations.SelfTestsAndDebug := by
  unfold Obligations.SelfTestsAndDebug
  refine ⟨fun s t c lv hc hl ho => ⟨selfTest_passes hc hl ho t c, selfTest_fails hc hl ho t c,
    fun ha hb hs => safetyOperational_starts hc hl ho ha hb hs t lv⟩, fun s t hp hc hn => ?_⟩
  refine ⟨samplePreload_captures hp hn t, ⟨_, rfl, jtagLoad_loads hp hn t (by decide)⟩, fun hs => ?_, fun hs => ?_⟩
  · exact ⟨⟨_, rfl, jtagPins_stops hp t hs _⟩, ⟨_, rfl, jtagPins_stops hp t hs _⟩, ⟨_, rfl, jtagPins_stops hp t hs _⟩,
      debugHalt_halts t hc hs⟩
  · exact ⟨⟨_, rfl, jtagPins_bypassed hp hn t hs _⟩, ⟨_, rfl, jtagPins_bypassed hp hn t hs _⟩, ⟨_, rfl, jtagPins_bypassed hp hn t hs _⟩,
      debugHalt_refused t hs⟩

end Sys2Proof.Machine
end

section
/-! PROOF. O15: the clock checks, one after another, each with its effect; power requests. -/

namespace Sys2Proof.Machine

-- One after another the proofs need less memory than all at once.
set_option Elab.async false

/-! ### What each check changes -/

theorem checkLfx_frame (e : Bool) (s : State) : Frame [.pw, .ed] s (checkLfx e s) := by
  unfold checkLfx
  split
  · exact .of
  · split
    · exact .refl ..
    · exact (Frame.of (l := [.pw])).trans (raise_frame ..)

theorem checkLfx_pw (e : Bool) (s : State) : (checkLfx e s).pw = { s.pw with lfxFail := (checkLfx e s).pw.lfxFail } := by
  unfold checkLfx
  split
  · rfl
  · split
    · rfl
    · have h : ∀ s : State, (raise evClock s).pw = s.pw := fun s => (raise_frame ..).same .pw
      rw [h]

theorem mrcOut_eq_true {ppm : Int} (h : 30000 < ppm.natAbs) : mrcOut ppm = true := decide_eq_true h

theorem mrcOut_eq_false {ppm : Int} (h : ppm.natAbs ≤ 30000) : mrcOut ppm = false := decide_eq_false (Nat.not_lt.2 h)

theorem checkMrcA_pw (ppm : Int) (s : State) : (checkMrcA ppm s).pw =
    { s.pw with mrcAFault := mrcOut ppm, mrcAOkSince := (checkMrcA ppm s).pw.mrcAOkSince } := by
  unfold checkMrcA
  cases hm : mrcOut ppm
  · rfl
  · have h : ∀ s : State, (latchFault .a fltClock s).pw = s.pw := fun s => (latchFault_frame ..).same .pw
    have hr : (raiseIf (!s.pw.mrcAFault) evClock s).pw = s.pw := (raiseIf_frame ..).same .pw
    rw [if_pos rfl, h, hr]

theorem checkMrcA_in {ppm : Int} (h : mrcOut ppm = false) (s : State) :
    (checkMrcA ppm s).safA = s.safA ∧ (checkMrcA ppm s).safB = s.safB := by
  unfold checkMrcA
  rw [h]
  exact ⟨rfl, rfl⟩

theorem checkMrcA_latchB (ppm : Int) (s : State) : (checkMrcA ppm s).safB.latch = s.safB.latch := by
  unfold checkMrcA
  split
  · exact (latchFault_latch_other .a ..).trans (congrArg Saf.latch ((raiseIf_frame ..).same .safB))
  · rfl

theorem checkMrcA_out {ppm : Int} (h : mrcOut ppm = true) (s : State) :
    (checkMrcA ppm s).safA.sw = 0 ∧ (checkMrcA ppm s).safA.latch = bset s.safA.latch fltClock true := by
  have hr : (raiseIf (!s.pw.mrcAFault) evClock s).safA = s.safA := (raiseIf_frame ..).same .safA
  unfold checkMrcA
  rw [if_pos h]
  refine ⟨latchFault_sw .a .., (latchFault_latch .a ..).trans ?_⟩
  exact congrArg (fun f : Saf => bset f.latch fltClock true) hr

/-- What the check of MRC-B keeps of the registers of the clocks. -/
def MrcBOnly (s u : State) : Prop := u.pw =
  { s.pw with mrcBFault := u.pw.mrcBFault, mrcBEnd := u.pw.mrcBEnd, mrcBSince := u.pw.mrcBSince, mrcBOkSince := u.pw.mrcBOkSince }

theorem mrcBSettle_frame (s : State) : Frame [.pw] s (mrcBSettle s) := by
  unfold mrcBSettle
  split
  · split
    · exact .of
    · exact .refl ..
  · exact .refl ..

theorem mrcBSettle_only (s : State) : MrcBOnly s (mrcBSettle s) := by
  unfold mrcBSettle
  split
  · split
    · exact rfl
    · exact rfl
  · exact rfl

/-- What stands before MRC-B's fault is latched: the channels are as they were. -/
theorem mrcBRaised (s : State) : Frame [.pw, .ed] s (raiseIf s.pw.mrcBOkSince.isSome evClock (mrcBSettle s)) :=
  (mrcBSettle_frame _).trans (raiseIf_frame ..)

theorem checkMrcB_only (ppm : Int) (s : State) : MrcBOnly s (checkMrcB ppm s) := by
  unfold checkMrcB
  split
  · have h : ∀ s : State, (latchFault .b fltClock s).pw = s.pw := fun s => (latchFault_frame ..).same .pw
    have hr : (raiseIf s.pw.mrcBOkSince.isSome evClock (mrcBSettle s)).pw = (mrcBSettle s).pw := (raiseIf_frame ..).same .pw
    have hs := mrcBSettle_only s
    unfold MrcBOnly at hs ⊢
    rw [h, hr, hs]
  · exact mrcBSettle_only { s with pw := { s.pw with mrcBOkSince := _ } }

theorem checkMrcB_in {ppm : Int} (h : mrcOut ppm = false) (s : State) :
    (checkMrcB ppm s).safA = s.safA ∧ (checkMrcB ppm s).safB = s.safB := by
  unfold checkMrcB
  rw [if_neg (by rw [h]; exact Bool.false_ne_true)]
  exact ⟨(mrcBSettle_frame _).same .safA, (mrcBSettle_frame _).same .safB⟩

theorem checkMrcB_latchA (ppm : Int) (s : State) : (checkMrcB ppm s).safA.latch = s.safA.latch := by
  unfold checkMrcB
  split
  · exact (latchFault_latch_other .b ..).trans (congrArg Saf.latch ((mrcBRaised s).same .safA))
  · exact congrArg Saf.latch ((mrcBSettle_frame _).same .safA)

theorem latchFault_b_openA {s : State} (h : s.safA.sw = 0) (b : Nat) : (latchFault .b b s).safA.sw = 0 := by
  have hk := (latchFault_opens .b b s).a
  change (latchFault .b b s).safA.sw &&& ~~~s.safA.sw = 0 at hk
  rw [h] at hk
  exact (bv4_and_ones _).symm.trans hk

theorem checkMrcB_openA (ppm : Int) {s : State} (h : s.safA.sw = 0) : (checkMrcB ppm s).safA.sw = 0 := by
  unfold checkMrcB
  split
  · have hr : (raiseIf s.pw.mrcBOkSince.isSome evClock (mrcBSettle s)).safA.sw = 0 :=
      (congrArg Saf.sw ((mrcBRaised s).same .safA)).trans h
    dsimp only
    generalize raiseIf s.pw.mrcBOkSince.isSome evClock (mrcBSettle s) = u at hr ⊢
    refine latchFault_b_openA ?_ _
    exact hr
  · exact (congrArg Saf.sw ((mrcBSettle_frame _).same .safA)).trans h

theorem checkMrcB_out {ppm : Int} (h : mrcOut ppm = true) (s : State) :
    (checkMrcB ppm s).safB.sw = 0 ∧ (checkMrcB ppm s).safB.latch = bset s.safB.latch fltClock true ∧
    (checkMrcB ppm s).pw.mrcBFault = true ∧ (checkMrcB ppm s).lm.sinks = 0 := by
  unfold checkMrcB
  rw [if_pos h]
  refine ⟨latchFault_sw .b .., (latchFault_latch .b ..).trans ?_, ?_, ?_⟩
  · exact congrArg (fun f : Saf => bset f.latch fltClock true) ((mrcBRaised s).same .safB)
  · exact congrArg Pw.mrcBFault ((latchFault_frame ..).same .pw)
  · exact congrArg Lm.sinks ((latchFault_frame ..).same .lm)

/-! ### The data plane stops -/

theorem hfxFollow_hfxOk {s : State} (h : s.pw.hfxOk = false) : (hfxFollow s).pw.hfxOk = false := by
  unfold hfxFollow
  split
  · split
    · exact h
    · exact h
  · rfl

theorem dpStop_off {s : State} (h : s.pw.dp = .off) : dpStop s = s := by
  unfold dpStop
  rw [h]

/-- Of the clocks a stop of the data plane changes the PLLs and HFX. -/
theorem dpStop_pw (s : State) : (dpStop s).pw = { s.pw with
    dp := .off, pllC := (dpStop s).pw.pllC, pllT := (dpStop s).pw.pllT, pllS := (dpStop s).pw.pllS
    abandoned := (dpStop s).pw.abandoned, scanned := (dpStop s).pw.scanned
    hfxOk := (dpStop s).pw.hfxOk, hfxReq := (dpStop s).pw.hfxReq } := by
  unfold dpStop
  split
  next h => rw [← h]
  next =>
    have hu : Frame [.ne, .fp, .hg, .ps, .ex, .rq] s (biasStop (stepVoid (psStop (snapAbandon true (neStopAll s))))) := by
      refine Frame.trans (l := [.ne, .fp, .hg, .ps, .ex]) ?_ (biasStop_frame _)
      refine Frame.trans (l := [.ne, .fp, .hg, .ps]) ?_ (stepVoid_frame _)
      refine Frame.trans (l := [.ne, .fp, .hg]) ?_ (psStop_frame _)
      exact (neStopAll_frame s).trans (snapAbandon_frame ..)
    have hp := hu.same .pw
    generalize biasStop (stepVoid (psStop (snapAbandon true (neStopAll s)))) = u at hp ⊢
    dsimp only
    rw [hfxFollow_pw, show u.pw = s.pw from hp]

theorem dpStop_plls {s : State} (h : s.pw.dp ≠ .off) :
    (dpStop s).pw.pllC = false ∧ (dpStop s).pw.pllT = false ∧ (dpStop s).pw.pllS = false := by
  unfold dpStop
  split
  · contradiction
  · dsimp only
    rw [hfxFollow_pw]
    exact ⟨rfl, rfl, rfl⟩

theorem pllFault_frame (s : State) : Frame (stopParts ++ [.ed, .pllBlock]) s (pllFault s) := by
  refine Frame.trans (l := [.pw, .ed, .pllBlock]) ?_ (dpStop_frame _)
  exact (Frame.of (l := [.pw, .pllBlock])).trans (raise_frame ..)

/-- Of the clocks a fault of a PLL changes what a stop of the data plane changes, and blocks it. -/
theorem pllFault_pw (s : State) : (pllFault s).pw = { s.pw with
    pllBlock := true, dp := .off, pllC := (pllFault s).pw.pllC, pllT := (pllFault s).pw.pllT, pllS := (pllFault s).pw.pllS
    abandoned := (pllFault s).pw.abandoned, scanned := (pllFault s).pw.scanned
    hfxOk := (pllFault s).pw.hfxOk, hfxReq := (pllFault s).pw.hfxReq } := by
  have h : ∀ s : State, (raise evClock s).pw = s.pw := fun s => (raise_frame ..).same .pw
  unfold pllFault
  rw [dpStop_pw, h]

theorem pllFault_blocks (s : State) : PllBlocked s (pllFault s) := by
  have hr : (raise evClock { s with pw := { s.pw with pllBlock := true } }).pw = { s.pw with pllBlock := true } := (raise_frame ..).same .pw
  refine ⟨?_, ?_, fun h => ?_⟩
  · rw [pllFault_pw]
  · rw [pllFault_pw]
  · refine dpStop_plls ?_
    rw [hr]
    exact h

theorem checkHfx_bad {m : Int} {runs : Bool} {s : State} (ho : s.pw.hfxOk = true) (h : runs = false ∨ 500 < m.natAbs) :
    checkHfx m runs s = hfxFollow { pllFault s with pw := { (pllFault s).pw with hfxOk := false, hfxReq := none } } := by
  refine if_pos ?_
  rw [ho, Bool.true_and, Bool.or_eq_true, Bool.not_eq_true', decide_eq_true_iff]
  exact h

theorem checkHfx_frame (m : Int) (runs : Bool) (s : State) : Frame (stopParts ++ [.ed, .pllBlock]) s (checkHfx m runs s) := by
  unfold checkHfx
  split
  · refine Frame.trans (l := stopParts ++ [.ed, .pllBlock]) ?_ (hfxFollow_frame _)
    exact (pllFault_frame s).trans (Frame.of (l := [.pw]))
  · exact .refl ..

/-- The check of HFX leaves the faults of the other clocks. -/
theorem checkHfx_faults (m : Int) (runs : Bool) (s : State) : (checkHfx m runs s).pw.mrcAFault = s.pw.mrcAFault ∧
    (checkHfx m runs s).pw.mrcBFault = s.pw.mrcBFault ∧ (checkHfx m runs s).pw.lfxFail = s.pw.lfxFail := by
  unfold checkHfx
  split
  · dsimp only
    rw [hfxFollow_pw, pllFault_pw]
    exact ⟨rfl, rfl, rfl⟩
  · exact ⟨rfl, rfl, rfl⟩

theorem checkHfx_blocks {m : Int} {runs : Bool} {s : State} (ho : s.pw.hfxOk = true) (h : runs = false ∨ 500 < m.natAbs) :
    PllBlocked s (checkHfx m runs s) ∧ (checkHfx m runs s).pw.hfxOk = false := by
  obtain ⟨hb, hd, hp⟩ := pllFault_blocks s
  rw [checkHfx_bad ho h]
  refine ⟨?_, hfxFollow_hfxOk rfl⟩
  unfold PllBlocked
  rw [hfxFollow_pw]
  exact ⟨hb, hd, hp⟩

theorem checkHfx_good {m : Int} {runs : Bool} (hr : runs = true) (h : m.natAbs ≤ 500) (s : State) : checkHfx m runs s = s := by
  refine if_neg ?_
  rw [hr, decide_eq_false (Nat.not_lt.2 h)]
  simp

theorem clockCheck_eq {m : ClockMeas} {s : State} (hp : s.sys.powered = true) (hc : s.sys.ctrlUp = true) :
    clockCheck m s = checkHfx m.hfx m.hfxRuns (checkMrcB m.mrcB (checkMrcA m.mrcA (checkLfx m.lfxEdge s))) := by
  have hc' : (checkLfx m.lfxEdge s).sys.ctrlUp = true := ((checkLfx_frame ..).same .ctrlUp).trans hc
  unfold clockCheck
  rw [hp, Bool.not_true, if_neg Bool.false_ne_true]
  exact if_pos hc'

section Checks

variable {s : State} (m : ClockMeas) (hp : s.sys.powered = true) (hc : s.sys.ctrlUp = true)

include hp hc

/-- O15: MRC-A outside ±3 %. -/
theorem clockCheck_mrcA_out (h : 30000 < m.mrcA.natAbs) : (clockCheck m s).safA.sw = 0 ∧
    (clockCheck m s).safA.latch = bset s.safA.latch fltClock true ∧ (clockCheck m s).pw.mrcAFault = true := by
  rw [clockCheck_eq hp hc]
  have hl : (checkLfx m.lfxEdge s).safA = s.safA := (checkLfx_frame ..).same .safA
  obtain ⟨ho, hb⟩ := checkMrcA_out (mrcOut_eq_true h) (checkLfx m.lfxEdge s)
  have hh : ∀ x : State, (checkHfx m.hfx m.hfxRuns x).safA = x.safA := fun x => (checkHfx_frame ..).same .safA
  rw [hh, checkMrcB_latchA, checkMrcB_openA _ ho, hb, hl, (checkHfx_faults ..).1, checkMrcB_only, checkMrcA_pw, mrcOut_eq_true h]
  exact ⟨rfl, rfl, rfl⟩

/-- O15: MRC-A within ±3 %. -/
theorem clockCheck_mrcA_in (h : m.mrcA.natAbs ≤ 30000) :
    (clockCheck m s).safA.latch = s.safA.latch ∧ (clockCheck m s).pw.mrcAFault = false := by
  rw [clockCheck_eq hp hc]
  have hl : (checkLfx m.lfxEdge s).safA = s.safA := (checkLfx_frame ..).same .safA
  have hh : ∀ x : State, (checkHfx m.hfx m.hfxRuns x).safA = x.safA := fun x => (checkHfx_frame ..).same .safA
  rw [hh, checkMrcB_latchA, (checkMrcA_in (mrcOut_eq_false h) _).1, hl, (checkHfx_faults ..).1, checkMrcB_only, checkMrcA_pw,
    mrcOut_eq_false h]
  exact ⟨rfl, rfl⟩

/-- O15: MRC-B outside ±3 %. -/
theorem clockCheck_mrcB_out (h : 30000 < m.mrcB.natAbs) : (clockCheck m s).safB.sw = 0 ∧
    (clockCheck m s).safB.latch = bset s.safB.latch fltClock true ∧ (clockCheck m s).pw.mrcBFault = true ∧
    (clockCheck m s).lm.sinks = 0 := by
  rw [clockCheck_eq hp hc]
  have hl : (checkLfx m.lfxEdge s).safB = s.safB := (checkLfx_frame ..).same .safB
  obtain ⟨ho, hb, hf, hs⟩ := checkMrcB_out (mrcOut_eq_true h) (checkMrcA m.mrcA (checkLfx m.lfxEdge s))
  have hh : ∀ x : State, (checkHfx m.hfx m.hfxRuns x).safB = x.safB := fun x => (checkHfx_frame ..).same .safB
  have hm : ∀ x : State, (checkHfx m.hfx m.hfxRuns x).lm = x.lm := fun x => (checkHfx_frame ..).same .lm
  rw [hh, hm, ho, hb, (checkHfx_faults ..).2.1, hf, hs, checkMrcA_latchB, hl]
  exact ⟨rfl, rfl, rfl, rfl⟩

/-- O15: MRC-B within ±3 %. -/
theorem clockCheck_mrcB_in (h : m.mrcB.natAbs ≤ 30000) : (clockCheck m s).safB.latch = s.safB.latch := by
  rw [clockCheck_eq hp hc]
  have hl : (checkLfx m.lfxEdge s).safB = s.safB := (checkLfx_frame ..).same .safB
  have hh : ∀ x : State, (checkHfx m.hfx m.hfxRuns x).safB = x.safB := fun x => (checkHfx_frame ..).same .safB
  rw [hh, (checkMrcB_in (mrcOut_eq_false h) _).2, checkMrcA_latchB, hl]

/-- O15: both within ±3 %. -/
theorem clockCheck_in (ha : m.mrcA.natAbs ≤ 30000) (hb : m.mrcB.natAbs ≤ 30000) :
    (clockCheck m s).safA = s.safA ∧ (clockCheck m s).safB = s.safB := by
  rw [clockCheck_eq hp hc]
  obtain ⟨a1, b1⟩ := checkMrcA_in (mrcOut_eq_false ha) (checkLfx m.lfxEdge s)
  obtain ⟨a2, b2⟩ := checkMrcB_in (mrcOut_eq_false hb) (checkMrcA m.mrcA (checkLfx m.lfxEdge s))
  exact ⟨((checkHfx_frame ..).same .safA).trans (a2.trans (a1.trans ((checkLfx_frame ..).same .safA))),
    ((checkHfx_frame ..).same .safB).trans (b2.trans (b1.trans ((checkLfx_frame ..).same .safB)))⟩

omit hp hc in
/-- Before HFX is checked, the clocks differ in the registers of the other checks only. -/
theorem beforeHfx_pw (s : State) : ∃ l af ao bf be bs bo, (checkMrcB m.mrcB (checkMrcA m.mrcA (checkLfx m.lfxEdge s))).pw =
    { s.pw with lfxFail := l, mrcAFault := af, mrcAOkSince := ao, mrcBFault := bf, mrcBEnd := be, mrcBSince := bs, mrcBOkSince := bo } := by
  have h : (checkMrcB m.mrcB (checkMrcA m.mrcA (checkLfx m.lfxEdge s))).pw = _ := checkMrcB_only ..
  rw [checkMrcA_pw, checkLfx_pw] at h
  exact ⟨_, _, _, _, _, _, _, h⟩

/-- O15: HFX stopped or outside ±500 ppm. -/
theorem clockCheck_hfx_bad (ho : s.pw.hfxOk = true) (h : m.hfxRuns = false ∨ 500 < m.hfx.natAbs) :
    PllBlocked s (clockCheck m s) ∧ (clockCheck m s).pw.hfxOk = false := by
  rw [clockCheck_eq hp hc]
  obtain ⟨l, af, ao, bf, be, bs, bo, hw⟩ := beforeHfx_pw m s
  generalize checkMrcB m.mrcB (checkMrcA m.mrcA (checkLfx m.lfxEdge s)) = w at hw ⊢
  have hw' : w.pw.hfxOk = true := by rw [hw]; exact ho
  have hd : w.pw.dp = s.pw.dp := by rw [hw]
  obtain ⟨hb, hf⟩ := checkHfx_blocks (s := w) hw' h
  refine ⟨?_, hf⟩
  unfold PllBlocked at hb ⊢
  rw [hd] at hb
  exact hb

/-- O15: HFX within ±500 ppm. -/
theorem clockCheck_hfx_good (hr : m.hfxRuns = true) (h : m.hfx.natAbs ≤ 500) : (clockCheck m s).pw.dp = s.pw.dp ∧
    (clockCheck m s).pw.hfxOk = s.pw.hfxOk ∧ (clockCheck m s).pw.pllBlock = s.pw.pllBlock := by
  rw [clockCheck_eq hp hc, checkHfx_good hr h]
  obtain ⟨l, af, ao, bf, be, bs, bo, hw⟩ := beforeHfx_pw m s
  rw [hw]
  exact ⟨rfl, rfl, rfl⟩

/-- O15: an edge of LFX. -/
theorem clockCheck_lfx (h : m.lfxEdge = true) : (clockCheck m s).pw.lfxFail = false := by
  rw [clockCheck_eq hp hc, (checkHfx_faults ..).2.2, checkMrcB_only, checkMrcA_pw, h]
  rfl

end Checks

/-! ### Power requests -/

/-- O15: a PLL that was in lock loses it. -/
theorem pllLoss_blocks {s : State} (t : Nat) (h : s.pw.pllC = true ∨ s.pw.pllT = true ∨ s.pw.pllS = true) :
    Answers (.pllLossOfLock t) s fun u => PllBlocked s u ∧ Kept u s := by
  have hb : ((advance t s).pw.pllC || (advance t s).pw.pllT || (advance t s).pw.pllS) = true := by
    rw [advance_pw, Bool.or_eq_true, Bool.or_eq_true, or_assoc]
    exact h
  have he : pllLoss (advance t s) = pllFault (advance t s) := if_pos hb
  refine ⟨_, rfl, ?_⟩
  rw [he]
  refine ⟨pllFault_blocks (advance t s), ?_⟩
  unfold Kept
  rw [pllFault_guarded, advance_guarded]

theorem pwrReq_other {r : Nat} (h : r < 2 ∨ 5 < r) (s : State) : pwrReq r s = s := if_neg (by omega)

/-- Settles O15: it holds. -/
theorem clocksAndPowerRequests : Obligations.ClocksAndPowerRequests := by
  refine ⟨fun s t m hp hc => ⟨⟨_, rfl, ?_⟩, pllLoss_blocks t⟩, fun s t r => ⟨fun hm hv => ⟨fun h2 h5 => ?_, fun h => ?_⟩, fun hc => ⟨?_, fun h => ?_⟩⟩⟩
  · have hp' : (advance t s).sys.powered = true := hp
    have hc' : (advance t s).sys.ctrlUp = true := hc
    exact ⟨clockCheck_mrcA_out m hp' hc', clockCheck_mrcA_in m hp' hc', clockCheck_mrcB_out m hp' hc', clockCheck_mrcB_in m hp' hc',
      clockCheck_in m hp' hc', clockCheck_hfx_bad m hp' hc', clockCheck_hfx_good m hp' hc', clockCheck_lfx m hp' hc'⟩
  · have he : pwrReq r (advance t s) = vigilClear { advance t s with pw := { (advance t s).pw with
        req := r, demand := r, idleFrom := (advance t s).sys.now, pllBlock := false } } := if_pos ⟨h2, h5⟩
    refine ⟨_, acts (hostUp_of (s := advance t s) hm hv), ?_⟩
    rw [he]
    exact ⟨rfl, rfl, rfl⟩
  · refine ⟨_, acts (hostUp_of (s := advance t s) hm hv), ?_⟩
    exact pwrReq_other h _
  · exact ⟨_, acts (c := (advance t s).sys.ctrlUp) hc, rfl⟩
  · have hd : ((advance t s).sys.ctrlUp && decide ((advance t s).pw.idleFrom + cfgN (advance t s) 0x1100 6 * secNs ≤ (advance t s).sys.now)) = true := by
      rw [show (advance t s).sys.ctrlUp = true from hc, Bool.true_and]
      exact decide_eq_true h
    exact ⟨_, congrArg Host.Outcome.next (if_pos hd), rfl⟩

end Sys2Proof.Machine
end

section
/-! PROOF. O16: STANDBY, its wakes, and the wake comparators. -/

namespace Sys2Proof.Machine

-- One after another the proofs need less memory than all at once.
set_option Elab.async false

/-! ### Wakes from STANDBY -/

theorem standbyWake_asleep {s : State} {src : WakeSrc} (hp : s.sys.powered = true) (hs : s.pw.st = 2) (hw : s.pw.wakeHold = false)
    (hc : (src != .comparator || wakeLatched s) = true) : standbyWake src s = wakeNote (srcCode src) s := by
  refine if_pos ?_
  rw [hp, hs, hw, hc]
  rfl

theorem standbyWake_awake {s : State} (h : s.pw.st ≠ 2 ∨ s.pw.wakeHold = true) (src : WakeSrc) : standbyWake src s = s := by
  refine if_neg ?_
  rcases h with h | h
  · rw [beq_eq_false_iff_ne.2 h]
    simp
  · rw [h]
    simp

/-- What a wake notes. -/
theorem wakeNote_notes (code : Nat) (s : State) : (wakeNote code s).pw.wakeHold = true ∧ (wakeNote code s).pw.wakeCause = code ∧
    (wakeNote code s).pw.demand = cfgN s 0x1100 5 ∧ (wakeNote code s).sys.cameFromStandby = true ∧
    (wakeNote code s).pw.req = (if cfgF s 0x1100 3 then s.pw.req else 3) ∧
    (wakeNote code s).pw.wcMask = if code = 1 then BitVec.ofNat 8 (wakeMask s) else 0 := ⟨rfl, rfl, rfl, rfl, rfl, rfl⟩

theorem wakeNote_kept (code t : Nat) (s : State) : Kept (wakeNote code (advance t s)) s := by
  unfold Kept
  rw [wakeNote_guarded, advance_guarded]

section Wakes

variable {s : State} (t : Nat) (hp : s.sys.powered = true) (hs : s.pw.st = 2) (hw : s.pw.wakeHold = false)

include hp hs hw

/-- O16: a wake by the link. -/
theorem standbyWake_zeley : Answers (.standbyWake t .zeley) s fun u => u.pw.wakeHold = true ∧ u.pw.wakeCause = 2 ∧
    u.pw.demand = cfgN s 0x1100 5 ∧ u.sys.cameFromStandby = true ∧ (cfgF s 0x1100 3 = false → u.pw.req = 3) ∧ Kept u s := by
  obtain ⟨h1, h2, h3, h4, h5, -⟩ := wakeNote_notes (srcCode .zeley) (advance t s)
  refine ⟨_, rfl, ?_⟩
  rw [standbyWake_asleep (s := advance t s) hp hs hw rfl]
  refine ⟨h1, h2, h3, h4, fun h => h5.trans ?_, wakeNote_kept ..⟩
  rw [show cfgF (advance t s) 0x1100 3 = false from h]
  rfl

/-- O16: a wake by the host. -/
theorem standbyWake_host : Answers (.standbyWake t .host) s fun u => u.pw.wakeHold = true ∧ u.pw.wakeCause = 3 ∧ Kept u s := by
  obtain ⟨h1, h2, -⟩ := wakeNote_notes (srcCode .host) (advance t s)
  refine ⟨_, rfl, ?_⟩
  rw [standbyWake_asleep (s := advance t s) hp hs hw rfl]
  exact ⟨h1, h2, wakeNote_kept ..⟩

/-- O16: a wake by a comparator. -/
theorem standbyWake_comparator (hl : wakeLatched s = true) : Answers (.standbyWake t .comparator) s fun u =>
    u.pw.wakeHold = true ∧ u.pw.wakeCause = 1 ∧ u.pw.wcMask = BitVec.ofNat 8 (wakeMask s) ∧ Kept u s := by
  have hl' : wakeLatched (advance t s) = true := hl
  obtain ⟨h1, h2, -, -, -, h6⟩ := wakeNote_notes (srcCode .comparator) (advance t s)
  refine ⟨_, rfl, ?_⟩
  rw [standbyWake_asleep (s := advance t s) hp hs hw (by rw [hl', Bool.or_true])]
  exact ⟨h1, h2, h6, wakeNote_kept ..⟩

end Wakes

/-! ### The end of STANDBY entry -/

/-- What the two islands' loss may change. -/
theorem mgmtLost_frame (s : State) : Frame [.sys, .mgmtUp, .hpUp, .sup, .eFrame, .mw, .cf, .pend, .sess, .ac, .zl, .dc, .hp, .ed, .crc0, .crc1, .lm,
    .res, .regs] s (mgmtLost s) := by
  have hf : Frame [.cf, .pend, .sess] s (endSession { s with cf := { s.cf with pend := none } }) := by
    refine Frame.trans (l := [.cf, .pend]) ?_ (endSession_frame _)
    exact .of
  unfold mgmtLost
  generalize endSession { s with cf := { s.cf with pend := none } } = u at hf ⊢
  dsimp only
  unfold dropResults
  exact hf.trans (Frame.of (l := [.sys, .mgmtUp, .hpUp, .sup, .eFrame, .mw, .cf, .sess, .ac, .zl, .dc, .hp, .ed, .crc0, .crc1, .lm, .res, .regs]))

theorem mgmtLost_down (s : State) : (mgmtLost s).sys.mgmtUp = false := rfl

theorem mgmtLost_log (s : State) : (mgmtLost s).sess.log = s.sess.log := log_of_guarded (mgmtLost_guarded s)

/-- STANDBY entry is complete: both islands are off. -/
def asleep (s : State) : State :=
  let s := ctrlLost (mgmtLost s)
  { s with
    pw := { s.pw with standbyAt := none }
    cf := { s.cf with loaded := false }
    sup := { chargeOff false s.sup with grant := 0, whyMissing := false, whyMains := false, whyRate := false } }

theorem standbyDone_eq {s : State} (h : s.pw.standbyAt.isSome = true) :
    standbyDone s = if wakeLatched (asleep s) && !(asleep s).pw.wakeHold then wakeNote 1 (asleep s) else asleep s := if_pos h

/-- What the end of the entry leaves. -/
def FallenAsleep (s u : State) : Prop :=
  u.pw.standbyAt = none ∧ u.pw.st = s.pw.st ∧ u.sys.ctrlUp = false ∧ u.sys.mgmtUp = false ∧ u.sys.oper = false ∧
  u.safA = safReset ∧ u.safB = safReset ∧ (∀ k, (secGet u k).st = 0) ∧ u.cf.loaded = false ∧ u.sup.grant = 0 ∧ u.wc = s.wc ∧
  u.ax.cntA = s.ax.cntA ∧ u.ax.cntB = s.ax.cntB ∧ u.cf.copyA = s.cf.copyA ∧ u.cf.copyB = s.cf.copyB ∧ u.gov = s.gov ∧
  u.sess.log = s.sess.log

theorem asleep_fallen (s : State) : FallenAsleep s (asleep s) := by
  have hm := mgmtLost_frame s
  have hd := mgmtLost_down s
  have hg := mgmtLost_log s
  unfold asleep
  generalize mgmtLost s = v at hm hd hg ⊢
  have ha : v.ax.cntA = s.ax.cntA := congrArg Ax.cntA (hm.same .ax)
  have hb : v.ax.cntB = s.ax.cntB := congrArg Ax.cntB (hm.same .ax)
  exact ⟨rfl, hm.same .st, rfl, hd, rfl, rfl, rfl, fun _ => rfl, rfl, rfl, hm.same .wc, ha, hb,
    hm.same .copyA, hm.same .copyB, hm.same .gov, hg⟩

theorem FallenAsleep.wakes {s u : State} (h : FallenAsleep s u) (code : Nat) : FallenAsleep s (wakeNote code u) := h

/-- O16: STANDBY entry is complete. -/
theorem standbyDone_fallen {s : State} (h : s.pw.standbyAt.isSome = true) : FallenAsleep s (standbyDone s) := by
  rw [standbyDone_eq h]
  split
  · exact (asleep_fallen s).wakes 1
  · exact asleep_fallen s

/-! ### The wake comparators -/

/-- The sample counts: it is in the selected polarity, and the state changes or its run goes on (R93). -/
def wcCounts (s : State) (n mv : Nat) (x : Wc) : Bool :=
  wcNext s n mv x != bitAt (wcCfg s n) 1 && (x.changed || wcNext s n mv x != x.above)

theorem wcCounts_iff {s : State} {n mv : Nat} {x : Wc} : wcCounts s n mv x = true ↔
    wcNext s n mv x ≠ bitAt (wcCfg s n) 1 ∧ (x.changed = true ∨ wcNext s n mv x ≠ x.above) := by
  unfold wcCounts
  rw [Bool.and_eq_true, Bool.or_eq_true, bne_iff_ne, bne_iff_ne]

theorem wcSample_eq (s : State) (n mv : Nat) (x : Wc) :
    (wcSample s n mv x).1.above = wcNext s n mv x ∧
    (wcSample s n mv x).1.changed = (wcCounts s n mv x && !(wcSample s n mv x).2) ∧
    (wcSample s n mv x).1.latch = (x.latch || (wcSample s n mv x).2) ∧
    (wcSample s n mv x).1.run = (if (wcSample s n mv x).2 then 0 else if wcCounts s n mv x then (if x.changed then x.run + 1 else 1) else 0) ∧
    (wcSample s n mv x).2 = (wcCounts s n mv x &&
      decide ((if wcCounts s n mv x then (if x.changed then x.run + 1 else 1) else 0) = fld (wcCfg s n) 8 2 + 1)) :=
  ⟨rfl, rfl, rfl, rfl, rfl⟩

theorem wcSample_idle {s : State} {n mv : Nat} {x : Wc} (h : wcCounts s n mv x = false) : (wcSample s n mv x).2 = false ∧
    (wcSample s n mv x).1.latch = x.latch ∧ (wcSample s n mv x).1.run = 0 ∧ (wcSample s n mv x).1.changed = false := by
  obtain ⟨-, hc, hl, hr, hf⟩ := wcSample_eq s n mv x
  rw [h, Bool.false_and] at hf
  rw [hf, h] at hc hr
  rw [hf, Bool.or_false] at hl
  exact ⟨hf, hl, hr, hc⟩

theorem wcSample_counts {s : State} {n mv : Nat} {x : Wc} (h : wcCounts s n mv x = true) :
    (wcSample s n mv x).2 = decide ((if x.changed then x.run + 1 else 1) = fld (wcCfg s n) 8 2 + 1) ∧
    (wcSample s n mv x).1.latch = (x.latch || (wcSample s n mv x).2) ∧ (wcSample s n mv x).1.changed = !(wcSample s n mv x).2 ∧
    (wcSample s n mv x).1.run = if (wcSample s n mv x).2 then 0 else if x.changed then x.run + 1 else 1 := by
  obtain ⟨-, hc, hl, hr, hf⟩ := wcSample_eq s n mv x
  simp only [h, if_true, Bool.true_and] at hc hr hf
  exact ⟨hf, hl, hc, hr⟩

theorem wcNext_above {s : State} {n mv : Nat} (x : Wc) (h : wcVth s n < mv) : wcNext s n mv x = true := if_pos h

theorem wcNext_below {s : State} {n mv : Nat} (x : Wc) (h : mv + wcHys s n < wcVth s n) : wcNext s n mv x = false :=
  (if_neg (by omega)).trans (if_pos h)

theorem wcNext_between {s : State} {n mv : Nat} (x : Wc) (h : mv ≤ wcVth s n) (h' : wcVth s n ≤ mv + wcHys s n) :
    wcNext s n mv x = if x.fresh then false else x.above := (if_neg (by omega)).trans (if_neg (by omega))

/-- What a tick that is due does. -/
def wcTicked (n mv : Nat) (s : State) : State :=
  let r := wcSample s n mv (mget {} s.wc n)
  let s' := { s with wc := mset {} s.wc n r.1 }
  if r.2 then
    let s' := if s.sys.mgmtUp then edSync n s' else s'
    if bitAt (wcCfg s n) 2 then wake s' else s'
  else s'

theorem wcTick_due {s : State} {n : Nat} (hp : s.sys.powered = true) (he : bitAt (wcCfg s n) 0 = true)
    (hd : wcTickDue s n (mget {} s.wc n) = true) (mv : Nat) : wcTick n mv s = wcTicked n mv s := by
  refine if_pos ?_
  rw [hp, he, hd]
  rfl

theorem wake_demand (s : State) : (wake s).pw.demand = cfgN s 0x1100 5 := rfl

theorem wcTicked_wc (n mv : Nat) (s : State) : (wcTicked n mv s).wc = mset {} s.wc n (wcSample s n mv (mget {} s.wc n)).1 := by
  have h : ∀ u : State, (if s.sys.mgmtUp then edSync n u else u).wc = u.wc := fun u => by
    split
    · exact (edSync_frame n u).same .wc
    · rfl
  unfold wcTicked
  dsimp only
  split
  · split
    · exact h _
    · exact h _
  · rfl

theorem wcTicked_quiet {n mv : Nat} {s : State} (h : (wcSample s n mv (mget {} s.wc n)).2 = false) : (wcTicked n mv s).pw = s.pw := by
  unfold wcTicked
  dsimp only
  rw [h]
  rfl

theorem wcTicked_wakes {n mv : Nat} {s : State} (h : (wcSample s n mv (mget {} s.wc n)).2 = true) (hw : bitAt (wcCfg s n) 2 = true) :
    (wcTicked n mv s).pw.demand = cfgN s 0x1100 5 := by
  unfold wcTicked
  dsimp only
  rw [h, if_pos rfl, if_pos hw, wake_demand]
  refine cfgN_congr ?_ _ _
  split
  · exact (edSync_frame ..).same .cf
  · rfl

/-! ### Clearing the latches -/

/-- The latches below `k` whose bit of `v` is 1 are clear. -/
theorem wcClear_upTo (v k : Nat) (s : State) : ∃ w e, (List.range k).foldl (fun s n =>
    if bitAt v n then edSync n { s with wc := mset {} s.wc n { mget {} s.wc n with latch := false } } else s) s =
      { s with wc := w, ed := e } ∧
    ∀ n, mget {} w n = { mget {} s.wc n with latch := (mget {} s.wc n).latch && !(decide (n < k) && bitAt v n) } := by
  induction k with
  | zero => exact ⟨s.wc, s.ed, rfl, fun n => by simp⟩
  | succ k ih =>
    obtain ⟨w, e, hu, hw⟩ := ih
    rw [List.range_succ, List.foldl_append, hu, List.foldl_cons, List.foldl_nil]
    split
    next hb =>
      obtain ⟨e', he⟩ := edSync_distributorOnly k { s with wc := mset {} w k { mget {} w k with latch := false }, ed := e }
      refine ⟨_, e', he, fun n => ?_⟩
      rcases eq_or_ne n k with rfl | hn
      · rw [mget_mset_same, hw]
        simp [hb]
      · rw [mget_mset_other _ _ _ _ _ hn, hw, show decide (n < k + 1) = decide (n < k) from decide_eq_decide.2 (by omega)]
    next hb =>
      refine ⟨w, e, rfl, fun n => ?_⟩
      rw [hw]
      rcases eq_or_ne n k with rfl | hn
      · simp [hb]
      · rw [show decide (n < k + 1) = decide (n < k) from decide_eq_decide.2 (by omega)]

theorem wcClear_clears (v : Nat) (s : State) :
    wcClear v s = { s with wc := (wcClear v s).wc, ed := (wcClear v s).ed } ∧ WcLatchesCleared v s (wcClear v s) := by
  obtain ⟨w, e, hu, hw⟩ := wcClear_upTo v 8 s
  have h : wcClear v s = { s with wc := w, ed := e } := hu
  rw [h]
  refine ⟨rfl, fun n hn => (hw n).trans ?_⟩
  rw [decide_eq_true hn, Bool.true_and]

/-- Settles O16: it holds. -/
theorem standbyAndWakes : Obligations.StandbyAndWakes := by
  refine ⟨fun s t => ⟨fun hp hs hw => ⟨standbyWake_zeley t hp hs hw, standbyWake_host t hp hs hw, standbyWake_comparator t hp hs hw⟩,
    fun h src => ⟨_, rfl, standbyWake_awake (s := advance t s) h src⟩, fun h => ⟨_, rfl, standbyDone_fallen (s := advance t s) h⟩⟩,
    fun s t n mv v b => ⟨fun hp he hd => ?_, fun hm hv => ⟨⟨_, acts (hostUp_of hm hv), wcClear_clears ..⟩, ⟨_, acts (hostUp_of hm hv), wcClear_clears ..⟩⟩⟩⟩
  refine ⟨_, rfl, ?_⟩
  have hk : Kept (wcTick n mv (advance t s)) s := by
    unfold Kept
    rw [wcTick_guarded, advance_guarded]
  have hwc := wcTicked_wc n mv (advance t s)
  have hq := wcTicked_quiet (n := n) (mv := mv) (s := advance t s)
  have hwk := wcTicked_wakes (n := n) (mv := mv) (s := advance t s)
  rw [wcTick_due (s := advance t s) hp he hd] at hk ⊢
  generalize wcTicked n mv (advance t s) = u at hk hwc hq hwk ⊢
  have hy : mget {} u.wc n = (wcSample (advance t s) n mv (mget {} s.wc n)).1 := by
    rw [hwc]
    exact mget_mset_same ..
  refine ⟨hk, ⟨rfl, fun k hn => ?_⟩, ?_⟩
  · rw [hwc]
    exact mget_mset_other _ _ _ _ _ hn
  rw [hy]
  refine ⟨rfl, rfl, wcNext_above _, wcNext_below _, fun h1 h2 h3 => ?_, fun h1 h2 h3 => ?_, fun hn => ?_, fun hc hn => ?_, fun hc hn => ?_⟩
  · refine (wcNext_between _ h1 h2).trans ?_
    rw [h3]
    rfl
  · refine (wcNext_between _ h1 h2).trans ?_
    rw [h3]
    rfl
  · obtain ⟨hf, hl, hr, hg⟩ := wcSample_idle (s := advance t s) (Bool.eq_false_iff.2 fun h => hn (wcCounts_iff.1 h))
    exact ⟨hl, hr, hg, hq hf⟩
  · obtain ⟨hf, hl, hg, hr⟩ := wcSample_counts (s := advance t s) (wcCounts_iff.2 hc)
    have hf' := hf.trans (decide_eq_false hn)
    rw [hf'] at hl hg hr
    exact ⟨hl.trans (Bool.or_false _), hr, hg, hq hf'⟩
  · obtain ⟨hf, hl, hg, -⟩ := wcSample_counts (s := advance t s) (wcCounts_iff.2 hc)
    have hf' := hf.trans (decide_eq_true hn)
    rw [hf'] at hl hg
    exact ⟨hl.trans (Bool.or_true _), hg, hwk hf'⟩

end Sys2Proof.Machine
end

section
/-! PROOF. O18 fails: it numbers the sub-pulses in `Fin 7`, where the count after the seventh sub-pulse is 0. -/

namespace Sys2Proof.Machine

-- One after another the proofs need less memory than all at once.
set_option Elab.async false

/-- Emitter 0 is on, and of its burst of code 60 the first six of seven sub-pulses have fired. -/
def sixFired : State := { ({} : State) with
  pw := { dp := .scanning }
  gov := { locked := true }
  cf := { eff := [(okey 0x2000 1, [1])] }
  ex := { bursts := [{ e := 0, slot := 0, code := 60, pass := 0, start := 0, fired := 6 }] } }

theorem gateFree_sixFired : gateFree sixFired 0 = true := by decide

/-- The seventh sub-pulse fires: seven are counted. -/
theorem fireSub_sixFired : (burstAt (fireSub 0 0 6 sixFired) 0 0).map (·.fired) = some 7 := by decide

/-- Refutes O18: after sub-pulse 6 of a code of seven the burst counts 7 sub-pulses fired, but the statement's `i + 1` is a sum in
`Fin 7`, which is 0. -/
theorem not_bursts : ¬ Obligations.Bursts := by
  unfold Obligations.Bursts
  intro h
  obtain ⟨u, hu, -, -, hf, -⟩ := h.2 sixFired 0 0 6 { e := 0, slot := 0, code := 60, pass := 0, start := 0, fired := 6 } rfl rfl rfl
    (by decide) gateFree_sixFired
  have he : exec (.subPulse 0 0 6) sixFired = .next (fireSub 0 0 6 sixFired) := rfl
  obtain rfl : fireSub 0 0 6 sixFired = u := Host.Outcome.next.inj (he.symm.trans hu)
  have h7 : (some 7 : Option Nat) = some 0 := fireSub_sixFired.symm.trans hf
  exact absurd h7 (by decide)

end Sys2Proof.Machine
end

section
/-! PROOF. O19: the governor's windows, the fast trip comparators, and LOCK. -/

namespace Sys2Proof.Machine

-- One after another the proofs need less memory than all at once.
set_option Elab.async false

/-! ### Sub-windows (R135) -/

theorem winSum_winShift (w : Win) : winSum (winShift w) = w.cur + (w.past.take 19).sum := by
  unfold winSum winShift
  rw [List.take_succ_cons, List.sum_cons, Nat.zero_add]

theorem mget_of_mwfFrom {α : Type} [DecidableEq α] (d : α) {lo : Nat} {m : SMap α} (h : mwfFrom d lo m = true) {k : Nat} (hk : k < lo) :
    mget d m k = d := by
  induction m generalizing lo with
  | nil => rfl
  | cons e m ih =>
    rw [mwfFrom, Bool.and_eq_true, Bool.and_eq_true, decide_eq_true_iff] at h
    rw [mget, if_neg (by omega)]
    exact ih h.2 (by omega)

/-- Every window reads shifted: one that is dropped is empty. -/
theorem winSum_winShiftAll {lo : Nat} {m : SMap Win} (h : mwfFrom {} lo m = true) (e : Nat) :
    winSum (mget {} (winShiftAll m) e) = winSum (winShift (mget {} m e)) := by
  induction m generalizing lo with
  | nil => rfl
  | cons x m ih =>
    rw [mwfFrom, Bool.and_eq_true] at h
    have ih := ih h.2
    unfold winShiftAll at ih ⊢
    rw [List.filterMap_cons, mget]
    dsimp only
    split_ifs with hz he he
    · rw [hz, ih, mget_of_mwfFrom _ h.2 (k := e) (by omega)]
      rfl
    · exact ih
    · rw [mget, if_pos he]
    · rw [mget, if_neg he, ih]

theorem winSum_shifted {m : SMap Win} (h : mwf {} m = true) (e : Nat) :
    winSum (mget {} (winShiftAll m) e) = (mget {} m e).cur + ((mget {} m e).past.take 19).sum := by
  rw [winSum_winShiftAll h, winSum_winShift]

/-! ### The fast trip comparators (R129, R130) -/

theorem addSpend_frame (e : Nat) (s : State) : Frame [.sup] s (addSpend e s) := by
  unfold addSpend
  exact .of

/-- The parts that a trip may change. -/
abbrev tripParts : List Part := [.sup, .gov, .ex, .ed]

/-- The latch is set and counted, and bursts in flight do not fire on: the state before its event. -/
def tripTaken (n : Nat) (s : State) : State :=
  let rest := (s.ex.bursts.filter fun b => b.e == n && decide (0 < b.fired)).map fun b => codeLen b.code - b.fired
  let s := addSpend (rest.sum * subEnergy s n) s
  { s with
    gov := { s.gov with trip := bset s.gov.trip n true, fcCnt := mset 0 s.gov.fcCnt n (satAdd 16 (mget 0 s.gov.fcCnt n) 1) }
    ex := { s.ex with bursts := s.ex.bursts.map fun b =>
      if b.e == n && decide (0 < b.fired) then { b with fired := codeLen b.code } else b } }

theorem tripTaken_gov (n : Nat) (s : State) : (tripTaken n s).gov =
    { s.gov with trip := bset s.gov.trip n true, fcCnt := mset 0 s.gov.fcCnt n (satAdd 16 (mget 0 s.gov.fcCnt n) 1) } := rfl

theorem tripTaken_bursts (n : Nat) (s : State) : (tripTaken n s).ex.bursts = s.ex.bursts.map fun b =>
    if b.e == n && decide (0 < b.fired) then { b with fired := codeLen b.code } else b := rfl

theorem tripTaken_frame (n : Nat) (s : State) : Frame tripParts s (tripTaken n s) := by
  unfold tripTaken
  extract_lets rest u
  have hu : Frame [.sup] s u := addSpend_frame ..
  clear_value u
  exact hu.trans (Frame.of (l := [.gov, .ex]))

theorem fcSet_taken (n : Nat) (s : State) : Frame [.ed] (tripTaken n s) (fcSet n s) := by
  change Frame [.ed] (tripTaken n s) (if (tripTaken n s).sys.mgmtUp then edSync 8 (tripTaken n s) else tripTaken n s)
  split
  · exact edSync_frame ..
  · exact .refl ..

theorem fcSet_frame (n : Nat) (s : State) : Frame tripParts s (fcSet n s) := (tripTaken_frame n s).trans (fcSet_taken n s)

theorem fcSet_gov (n : Nat) (s : State) : (fcSet n s).gov =
    { s.gov with trip := bset s.gov.trip n true, fcCnt := mset 0 s.gov.fcCnt n (satAdd 16 (mget 0 s.gov.fcCnt n) 1) } :=
  ((fcSet_taken n s).same .gov).trans (tripTaken_gov n s)

theorem fcSet_bursts (n : Nat) (s : State) : (fcSet n s).ex.bursts = s.ex.bursts.map fun b =>
    if b.e == n && decide (0 < b.fired) then { b with fired := codeLen b.code } else b :=
  (congrArg Ex.bursts ((fcSet_taken n s).same .ex)).trans (tripTaken_bursts n s)

/-- What remains of the emitter's bursts does not fire. -/
theorem fcSet_stops (n : Nat) (s : State) : ∀ b ∈ (fcSet n s).ex.bursts, b.e = n → 0 < b.fired → b.fired = codeLen b.code := by
  rw [fcSet_bursts]
  intro b hb he hf
  obtain ⟨a, -, rfl⟩ := List.mem_map.1 hb
  by_cases h : (a.e == n && decide (0 < a.fired)) = true
  · rw [if_pos h]
  · rw [if_neg h] at he hf
    exact absurd (by rw [beq_iff_eq.2 he, decide_eq_true hf]; rfl) h

theorem fcSense_frame (n uv : Nat) (s : State) : Frame tripParts s (fcSense n uv s) := by
  unfold fcSense
  split
  · dsimp only
    split
    · refine Frame.trans (l := [.gov]) ?_ (fcSet_frame ..)
      exact .of
    · exact .of
  · exact .refl ..

theorem fcCfg_congr {s u : State} (hc : u.cf = s.cf) (n : Nat) : fcCfg u n = fcCfg s n := cfgN_congr hc ..

section Sensed

variable {s : State} {n : Fin 16} {uv : Nat} (he : emtPresent s n = true) (hd : s.pw.dp ≠ .off)

include he hd

/-- The level of FCSn is noted, and a crossing above the reference trips. -/
theorem fcSense_on : fcSense n uv s =
    let s' := { s with gov := { s.gov with fcs := mset 0 s.gov.fcs n uv, level := bset s.gov.level n (fcAbove s n uv) } }
    if fcAbove s n uv && !bget s.gov.level n && bitAt (fcCfg s' n) 15 && !bget s'.gov.trip n then fcSet n s' else s' := by
  refine if_pos ?_
  rw [he, Bool.true_and]
  exact decide_eq_true hd

/-- O19: a crossing above the reference. -/
theorem fcTrip_crosses (hb : bitAt (fcCfg s n) 15 = true) (ht : bget s.gov.trip n = false) (hl : bget s.gov.level n = false)
    (hr : 500 * fld (fcCfg s n) 0 10 < uv) : Answers (.fcTrip ⟨n, uv⟩) s fun u => Kept u s ∧ bget u.gov.trip n = true ∧
      bget u.gov.level n = true ∧ mget 0 u.gov.fcCnt n = satAdd 16 (mget 0 s.gov.fcCnt n) 1 ∧
      (∀ k, k ≠ n.val → bget u.gov.trip k = bget s.gov.trip k) ∧ ∀ b ∈ u.ex.bursts, b.e = n → 0 < b.fired → b.fired = codeLen b.code := by
  have ha : fcAbove s n uv = true := by
    unfold fcAbove fcRef
    rw [decide_eq_true hr, Bool.true_or]
  refine ⟨_, rfl, fcSense_guarded .., ?_⟩
  rw [fcSense_on he hd, ha, hl]
  dsimp only
  rw [if_pos]
  · rw [fcSet_gov]
    refine ⟨?_, ?_, mget_mset_same .., fun k hk => ?_, fcSet_stops _ _⟩
    · rw [bget_bset_true _ n.isLt, decide_eq_true rfl, Bool.or_true]
    · rw [bget_bset_true _ n.isLt, decide_eq_true rfl, Bool.or_true]
    · rw [bget_bset_true _ n.isLt, decide_eq_false hk, Bool.or_false]
  · rw [ht]
    exact (congrArg (fun b => true && !false && b && !false) ((congrArg (bitAt · 15) (fcCfg_congr rfl n)).trans hb)).trans rfl

/-- O19: 5 mV or more below the reference. -/
theorem fcTrip_below (hr : uv + 5000 ≤ 500 * fld (fcCfg s n) 0 10) : Answers (.fcTrip ⟨n, uv⟩) s fun u => Kept u s ∧
    bget u.gov.level n = false ∧ u.gov.trip = s.gov.trip ∧ u.ex = s.ex := by
  have ha : fcAbove s n uv = false := by
    unfold fcAbove fcRef
    rw [decide_eq_false (by omega), decide_eq_false (by omega), Bool.and_false]
    rfl
  refine ⟨_, rfl, fcSense_guarded .., ?_⟩
  rw [fcSense_on he hd, ha]
  refine ⟨?_, rfl, rfl⟩
  change bget (bset s.gov.level n false) n = false
  rw [bget_bset_clear, decide_eq_false (not_not.2 rfl), Bool.and_false]

end Sensed

/-- The latch of comparator `n` sets again after a clear of `w`. -/
def tripsAgain (was w : BitVec 16) (s : State) (n : Nat) : Bool := bget was n && bget w n && bget s.gov.level n && bitAt (fcCfg s n) 15

/-- The latches below `k` have been looked at. -/
theorem fcSet_upTo (was w : BitVec 16) (s : State) {k : Nat} (hk : k ≤ 16) :
    let u := (List.range k).foldl (fun s n => if tripsAgain was w s n then fcSet n s else s) s
    u.gov.level = s.gov.level ∧ u.cf = s.cf ∧
      ∀ j, bget u.gov.trip j = (bget s.gov.trip j || (decide (j < k) && tripsAgain was w s j)) := by
  induction k with
  | zero => exact ⟨rfl, rfl, fun j => by simp⟩
  | succ k ih =>
    obtain ⟨hl, hc, ht⟩ := ih (by omega)
    rw [List.range_succ, List.foldl_append]
    generalize (List.range k).foldl (fun s n => if tripsAgain was w s n then fcSet n s else s) s = v at hl hc ht ⊢
    have hv : tripsAgain was w v k = tripsAgain was w s k := by
      unfold tripsAgain
      rw [hl, fcCfg_congr hc]
    dsimp only [List.foldl_cons, List.foldl_nil]
    cases hb : tripsAgain was w s k
    · rw [if_neg (by rw [hv, hb]; exact Bool.false_ne_true)]
      refine ⟨hl, hc, fun j => (ht j).trans ?_⟩
      rcases eq_or_ne j k with rfl | hj
      · rw [hb, Bool.and_false, Bool.and_false]
      · rw [show decide (j < k + 1) = decide (j < k) from decide_eq_decide.2 (by omega)]
    · rw [if_pos (by rw [hv, hb])]
      refine ⟨?_, ((fcSet_frame k v).same .cf).trans hc, fun j => ?_⟩
      · rw [fcSet_gov]
        exact hl
      · rw [fcSet_gov, bget_bset_true _ (by omega), ht]
        rcases eq_or_ne j k with rfl | hj
        · rw [hb]
          simp
        · rw [show decide (j < k + 1) = decide (j < k) from decide_eq_decide.2 (by omega), decide_eq_false hj, Bool.or_false]

theorem bget_w1c {n : Nat} (v w : BitVec n) {k : Nat} (hk : k < n) : bget (w1c v w) k = (bget v k && !bget w k) := by
  unfold bget w1c
  rw [BitVec.getLsbD_and, BitVec.getLsbD_not, decide_eq_true hk, Bool.true_and]

/-- O19: a clear of the latches. -/
theorem fcClear_trips (w : BitVec 16) (s : State) : TripsAfter w s (fcClear w s) := by
  obtain ⟨hl, -, ht⟩ := fcSet_upTo s.gov.trip w { s with gov := { s.gov with trip := w1c s.gov.trip w } } le_rfl
  have hg : (fcClear w s).gov = ((List.range 16).foldl (fun u n => if tripsAgain s.gov.trip w u n then fcSet n u else u)
    { s with gov := { s.gov with trip := w1c s.gov.trip w } }).gov := (edSync_frame ..).same .gov
  refine ⟨(congrArg Gov.level hg).trans hl, fun n hn => ?_⟩
  rw [hg, ht, bget_w1c _ _ hn, decide_eq_true hn]
  change (_ || (true && (bget s.gov.trip n && bget w n && bget s.gov.level n && bitAt (fcCfg s n) 15))) = _
  cases bget s.gov.trip n <;> cases bget w n <;> simp

/-! ### The change log -/

theorem logAdd_frame (kind user : Nat) (objs : List Nat) (f : BitVec 32) (c o n : Nat) (s : State) :
    Frame [.sess, .ed] s (logAdd kind user objs f c o n s) := by
  unfold logAdd
  split
  · exact .refl ..
  · refine Frame.trans (l := [.sess, .ed]) ?_ (raiseIf_frame ..)
    refine Frame.trans (l := [.sess]) ?_ (raiseIf_frame ..)
    exact .of

/-- An entry is appended where the log has room; nothing else of the sessions changes. -/
theorem logAdd_sess {s : State} (h : s.sess.log.length < 512) (kind user : Nat) (objs : List Nat) (f : BitVec 32) (c o n : Nat) :
    ∃ e, (logAdd kind user objs f c o n s).sess = { s.sess with log := s.sess.log ++ [e] } ∧ e.kind = kind ∧ e.user = user := by
  have hr : ∀ b j (s : State), (raiseIf b j s).sess = s.sess := fun b j s => (raiseIf_frame b j s).same .sess
  unfold logAdd
  rw [if_neg (by rw [logFull, decide_eq_true_iff, logMax]; omega)]
  dsimp only
  rw [hr, hr]
  exact ⟨_, rfl, rfl, rfl⟩

/-! ### A write and its answer -/

theorem answer_frame (p : Path) (r : DictRsp) (s : State) : Frame [.dc, .zl] s (answer p r s) := by
  unfold answer
  split
  · exact .refl ..
  · dsimp only
    split
    · exact .of
    · refine Frame.trans (l := [.dc, .zl]) ?_ (originate_linkOnly ..).frame
      split
      · exact .of
      · exact .of

theorem answerWrite_frame (p : Path) (i sub n : Nat) (r : Nat × State) : Frame [.dc, .zl] r.2 (answerWrite p i sub n r) := answer_frame ..

/-- What an operation of the server must leave for its write to be answered. -/
def Answerable (s u : State) : Prop := u.sys.mgmtUp = s.sys.mgmtUp ∧ u.sup.vstate = s.sup.vstate ∧ u.dc.rsps = s.dc.rsps

theorem Frame.answerable {l : List Part} {s u : State} (h : Frame l s u) (hm : .mgmtUp ∉ l := by decide) (hv : .vstate ∉ l := by decide)
    (hd : .dc ∉ l := by decide) : Answerable s u := ⟨h.same .mgmtUp hm, h.same .vstate hv, congrArg Dc.rsps (h.same .dc hd)⟩

/-- A write is carried out and answered. -/
theorem writeCmd_answers {s : State} (hm : s.sys.mgmtUp = true) (hv : s.sup.vstate ≠ 2) (p : Path) (i sub n : Nat)
    {f : State → Nat × State} {r : Nat × State} (hr : f s = r) (ha : Answerable s r.2) :
    Frame [.dc, .zl] r.2 (writeCmd p i sub n f s) ∧ RespondedTo p i sub n r.1 s (writeCmd p i sub n f s) := by
  obtain ⟨h1, h2, h3⟩ := ha
  rw [writeCmd_up hm hv, hr]
  exact ⟨answerWrite_frame .., answerWrite_responds (h1.trans hm) (h2 ▸ hv) h3 ..⟩

/-! ### LOCK (R137, Table 15.5) -/

theorem govCrc_congr {s u : State} (h : u.gov = s.gov) : govCrc u = govCrc s := by
  rw [govCrc, govBlock, h, govCrc, govBlock]

section Lock

variable {s : State} {p : Path} {c : Nat}

theorem governorLock_shut (h : s.gov.locked = true ∨ s.gov.crcBad = true ∨ 512 ≤ s.sess.log.length) :
    governorLock p c s = (0x0610, s) := by
  refine if_pos ?_
  unfold govShut logFull logMax
  rw [Bool.or_eq_true, Bool.or_eq_true, decide_eq_true_iff, or_assoc]
  exact h

variable (hl : s.gov.locked = false) (hb : s.gov.crcBad = false) (hr : s.sess.log.length < 512)

include hl hb hr

/-- The reasons after the first. -/
theorem governorLock_open : governorLock p c s =
    if !sessionOn s p then (0x0611, s)
    else
      let s := touchSession p s
      if !s.sup.holdReady then (0x0640, s)
      else if c ≠ govCrc s then (0x0650, s)
      else (0, govLockNow (logAdd 3 s.sess.user [objField (0x2100, 2)] 0 s.cf.count (cfgCrc s) (cfgCrc s) s)) := by
  refine if_neg ?_
  unfold govShut logFull logMax
  rw [hl, hb, decide_eq_false (by omega)]
  exact Bool.false_ne_true

theorem governorLock_noSession (hs : sessionOn s p = false) : governorLock p c s = (0x0611, s) := by
  rw [governorLock_open hl hb hr, hs]
  rfl

variable (hs : sessionOn s p = true) (hh : s.sup.holdReady = true)

include hs hh

theorem governorLock_session : governorLock p c s = if c ≠ govCrc s then (0x0650, touchSession p s)
    else (0, govLockNow (logAdd 3 (touchSession p s).sess.user [objField (0x2100, 2)] 0 (touchSession p s).cf.count
      (cfgCrc (touchSession p s)) (cfgCrc (touchSession p s)) (touchSession p s))) := by
  have ht := touchSession_frame p s
  have hh' : (touchSession p s).sup.holdReady = true := (congrArg Sup.holdReady (ht.same .sup)).trans hh
  rw [governorLock_open hl hb hr, hs]
  dsimp only
  rw [hh', govCrc_congr (ht.same .gov)]
  rfl

end Lock

/-- A touch of a session leaves its user and the log. -/
theorem touchSession_sess (p : Path) (s : State) :
    (touchSession p s).sess = { s.sess with lastAct := (touchSession p s).sess.lastAct } := by
  unfold touchSession
  split
  · rfl
  · rfl

theorem govLockNow_frame (s : State) : Frame [.gov] s (govLockNow s) := by
  unfold govLockNow
  exact .of

theorem govLockNow_gov (s : State) : (govLockNow s).gov =
    { s.gov with locked := true, copyA := some (govBlock s), copyB := some (govBlock s) } := rfl

section LockCommand

variable {s : State} (t : Nat) (p : Path) (c : BitVec 32) (hm : s.sys.mgmtUp = true) (hv : s.sup.vstate ≠ 2)

include hm hv

/-- O19: a LOCK that is refused. -/
theorem lock_refused {a : Nat} {u : State} (h : governorLock p c.toNat (advance t s) = (a, u)) (hf : Frame [.sess] (advance t s) u) :
    Answers (.governorLock t p c) s fun v => v.gov = s.gov ∧ RespondedTo p 0x2100 2 4 a s v := by
  obtain ⟨hu, hr⟩ := writeCmd_answers (s := advance t s) hm hv p 0x2100 2 4 h hf.answerable
  exact ⟨_, rfl, (hu.same .gov).trans (hf.same .gov), hr⟩

/-- O19: the matching check value locks the block. -/
theorem lock_locks (hl : s.gov.locked = false) (hb : s.gov.crcBad = false) (hr : s.sess.log.length < 512)
    (hs : sessionOn s p = true) (hh : s.sup.holdReady = true) (hc : c.toNat = govCrc s) : Answers (.governorLock t p c) s fun u =>
      u.gov = { s.gov with locked := true, copyA := some (govBlock s), copyB := some (govBlock s) } ∧
      (∃ e, u.sess.log = s.sess.log ++ [e] ∧ e.kind = 3 ∧ e.user = s.sess.user) ∧ RespondedTo p 0x2100 2 4 0 s u := by
  have hg := governorLock_session (s := advance t s) (p := p) (c := c.toNat) hl hb hr hs hh
  rw [if_neg (not_not.2 (hc.trans (govCrc_congr (advance_gov t s)).symm))] at hg
  have ht := touchSession_frame p (advance t s)
  have hts := touchSession_sess p (advance t s)
  generalize touchSession p (advance t s) = v at hg ht hts
  have hlen : v.sess.log.length < 512 := by
    rw [hts]
    exact hr
  obtain ⟨e, hsess, hk, hu⟩ := logAdd_sess hlen 3 v.sess.user [objField (0x2100, 2)] 0 v.cf.count (cfgCrc v) (cfgCrc v)
  have hla := logAdd_frame 3 v.sess.user [objField (0x2100, 2)] 0 v.cf.count (cfgCrc v) (cfgCrc v) v
  generalize logAdd 3 v.sess.user [objField (0x2100, 2)] 0 v.cf.count (cfgCrc v) (cfgCrc v) v = w at hg hsess hla
  have hw : Frame [.sess, .ed] (advance t s) w := ht.trans hla
  have hgov : w.gov = s.gov := hw.same .gov
  obtain ⟨hf, hrsp⟩ := writeCmd_answers (s := advance t s) hm hv p 0x2100 2 4 hg
    (hw.trans (govLockNow_frame w) (r := [.sess, .ed, .gov])).answerable
  refine ⟨_, rfl, ?_, ⟨e, ?_, hk, hu.trans ?_⟩, hrsp⟩
  · refine (hf.same .gov).trans ((govLockNow_gov w).trans ?_)
    unfold govBlock
    rw [hgov]
  · refine (congrArg Sess.log ((hf.same .sess).trans ((govLockNow_frame w).same .sess))).trans ?_
    change w.sess.log = _
    rw [hsess, hts]
    rfl
  · rw [hts]
    rfl

end LockCommand

/-- Settles O19: it holds. -/
theorem governor : Obligations.Governor := by
  refine ⟨fun s hp h5 h100 => ⟨⟨_, acts hp, rfl, winSum_shifted h5⟩, ⟨_, acts hp, rfl, winSum_shifted h100⟩⟩,
    fun s n uv v w p => ⟨fun he hd => fcTrip_crosses he hd, fun he hd => fcTrip_below he hd,
      ⟨_, rfl, fcClear_guarded .., fcClear_trips v s⟩, ⟨_, rfl, fcClear_guarded .., fcClear_trips w s⟩,
      ⟨_, rfl, rfl, mget_mdel_same .., fun k hk => mget_mdel_other _ _ _ _ hk⟩⟩,
    fun s t p c hm hv => ⟨fun h => ?_, fun hl hb hr => ⟨fun hs => ?_, fun hs hh hc => ?_, fun hs hh hc => ?_⟩⟩⟩
  · exact lock_refused t p c hm hv (governorLock_shut (s := advance t s) h) (.refl ..)
  · exact lock_refused t p c hm hv (governorLock_noSession (s := advance t s) hl hb hr hs) (.refl ..)
  · have hg := governorLock_session (s := advance t s) (p := p) (c := c.toNat) hl hb hr hs hh
    rw [if_pos (fun h => hc (h.trans (govCrc_congr (advance_gov t s))))] at hg
    exact lock_refused t p c hm hv hg (touchSession_frame ..)
  · exact lock_locks t p c hm hv hl hb hr hs hh hc

end Sys2Proof.Machine
end

section
/-! PROOF. The channels: what opening switches, latching a fault and evaluating the demands change of a channel, and what they keep of
both (R305, R309, R311). -/

namespace Sys2Proof.Machine

-- One after another the proofs need less memory than all at once.
set_option Elab.async false

/-! ### Opening -/

/-- Of the channel `f` only switches and restart interlocks differ in `g`. -/
def SwitchOnly (f g : Saf) : Prop := g = { f with sw := g.sw, rwait := g.rwait, opened := g.opened }

theorem SwitchOnly.refl (f : Saf) : SwitchOnly f f := rfl

theorem SwitchOnly.trans {f g h : Saf} (h₁ : SwitchOnly f g) (h₂ : SwitchOnly g h) : SwitchOnly f h := by
  unfold SwitchOnly at *
  rw [h₂, h₁]

theorem updC_leaveOpen_only (d e : Chan) (p at_ : Nat) (s : State) : SwitchOnly (getC s e) (getC (updC d (leaveOpen p at_) s) e) := by
  cases d <;> cases e <;> rfl

theorem openSwitch_only (c d : Chan) (p : Nat) (s : State) : SwitchOnly (getC s d) (getC (openSwitch c p s) d) := by
  unfold openSwitch
  extract_lets was u x v drop w
  have hu : SwitchOnly (getC s d) (getC u d) := updC_leaveOpen_only ..
  have hv : SwitchOnly (getC s d) (getC v d) := by
    unfold v
    split
    · exact hu.trans (updC_leaveOpen_only ..)
    · exact hu
  have hw : getC w d = getC v d := getC_congr rfl rfl d
  have hw' : SwitchOnly (getC s d) (getC w d) := hw ▸ hv
  split
  · split
    · have e : ∀ o : Out, getC { w with out := o } d = getC w d := fun o => getC_congr rfl rfl d
      rw [e]
      exact hw'
    · exact hw'
  · exact hu

theorem foldl_only {α : Type} {f : State → α → State} {d : Chan} (h : ∀ s x, SwitchOnly (getC s d) (getC (f s x) d)) (l : List α) (s : State) :
    SwitchOnly (getC s d) (getC (l.foldl f s) d) := by
  induction l generalizing s with
  | nil => exact .refl _
  | cons x l ih => exact (h s x).trans (ih _)

theorem openAll_only (c d : Chan) (s : State) : SwitchOnly (getC s d) (getC (openAll c s) d) :=
  foldl_only (fun s p => openSwitch_only c d p s) _ s

theorem bget_of_eq_ones {v : BitVec 4} (h : v = 15) {p : Nat} (hp : p < 4) : bget v p = true := by
  subst h
  interval_cases p <;> rfl

theorem eq_ones_of_bget {v : BitVec 4} (h : ∀ p, p < 4 → bget v p = true) : v = 15 := by
  have h0 := h 0 (by decide)
  have h1 := h 1 (by decide)
  have h2 := h 2 (by decide)
  have h3 := h 3 (by decide)
  clear h
  revert v
  decide

/-- The restart interlock of channel `c`. -/
def Switches.rwaitOf (c : Chan) (w : Switches) : BitVec 4 := match c with | .a => w.rwaitA | .b => w.rwaitB

theorem getC_rwait (s : State) (c : Chan) : (getC s c).rwait = (guarded s).switches.rwaitOf c := by cases c <;> rfl

theorem rwaitOf_opened_same (c : Chan) (w : Switches) {p : Nat} (hp : p < 4) : bget ((w.opened c p).rwaitOf c) p = true := by
  cases c
  · exact (bget_bset_true _ hp p).trans (by simp)
  · exact (bget_bset_true _ hp p).trans (by simp)

theorem rwaitOf_opened_mono (c d : Chan) (p q : Nat) (w : Switches) (h : bget (w.rwaitOf d) q = true) :
    bget ((w.opened c p).rwaitOf d) q = true := by
  have hm : ∀ v : BitVec 4, bget v q = true → bget (bset v p true) q = true := fun v hv => by
    unfold bget bset at *
    rw [if_pos rfl, BitVec.getLsbD_or, hv, Bool.true_or]
  cases c <;> cases d
  · exact hm _ h
  · exact h
  · exact h
  · exact hm _ h

theorem openSwitch_rwait_mono (c d : Chan) (p : Nat) {q : Nat} {s : State} (h : bget (getC s d).rwait q = true) :
    bget (getC (openSwitch c p s) d).rwait q = true := by
  rw [getC_rwait] at *
  exact openSwitch_keeps (fun w => bget (w.rwaitOf d) q = true) (fun c p w => rwaitOf_opened_mono c d p q w) c p s h

theorem openSwitch_rwait (c : Chan) {p : Nat} (hp : p < 4) (s : State) : bget (getC (openSwitch c p s) c).rwait p = true := by
  obtain ⟨d, hd⟩ := openSwitch_switches c p s
  rw [getC_rwait, hd]
  exact rwaitOf_opened_mono _ _ _ _ _ (rwaitOf_opened_same c _ hp)

theorem openAll_rwait (c : Chan) (s : State) : (getC (openAll c s) c).rwait = 15 := by
  rw [openAll_eq]
  refine eq_ones_of_bget fun p hp => ?_
  have mono : ∀ q {s : State}, bget (getC s c).rwait p = true → bget (getC (openSwitch c q s) c).rwait p = true := fun q s h =>
    openSwitch_rwait_mono c c q h
  interval_cases p
  · exact mono 3 (mono 2 (mono 1 (openSwitch_rwait c hp _)))
  · exact mono 3 (mono 2 (openSwitch_rwait c hp _))
  · exact mono 3 (openSwitch_rwait c hp _)
  · exact openSwitch_rwait c hp _

theorem openAll_rwait_mono (c d : Chan) {q : Nat} {s : State} (h : bget (getC s d).rwait q = true) :
    bget (getC (openAll c s) d).rwait q = true := by
  rw [openAll_eq]
  exact openSwitch_rwait_mono _ _ _ (openSwitch_rwait_mono _ _ _ (openSwitch_rwait_mono _ _ _ (openSwitch_rwait_mono _ _ _ h)))

/-! ### Operations of one channel that only open -/

theorem NoneCloses.refl (s : State) : NoneCloses s s := ⟨by simp, by simp⟩

theorem NoneCloses.trans {s u v : State} (h : NoneCloses u s) (h' : NoneCloses v u) : NoneCloses v s :=
  ⟨bv4_sub_trans _ _ _ h'.1 h.1, bv4_sub_trans _ _ _ h'.2 h.2⟩

theorem NoneCloses.of_same {s u : State} (ha : u.safA.sw = s.safA.sw) (hb : u.safB.sw = s.safB.sw) : NoneCloses u s :=
  ⟨by rw [ha]; simp, by rw [hb]; simp⟩

theorem NoneCloses.getC {s u : State} (h : NoneCloses u s) (c : Chan) : (getC u c).sw &&& ~~~(getC s c).sw = 0 := by
  cases c
  · exact h.1
  · exact h.2

theorem NoneCloses.bit {s u : State} (h : NoneCloses u s) {c : Chan} {p : Nat} (hp : p < 4) (ho : bget (Machine.getC s c).sw p = false) :
    bget (Machine.getC u c).sw p = false := by
  have hk := congrArg (bget · p) (h.getC c)
  unfold bget at *
  rw [BitVec.getLsbD_and, BitVec.getLsbD_not, ho, decide_eq_true hp] at hk
  simpa using hk

/-- From `s` to `u` channel `c` has only opened switches and latched faults; the other channel's latches are as they were, and where no
test pulse runs all of it is. -/
structure Opening (c : Chan) (s u : State) : Prop where
  closes : NoneCloses u s
  rwait : ∀ p, p < 4 → bget (getC s c).rwait p = true → bget (getC u c).rwait p = true
  latch : ∀ b, bget (getC s c).latch b = true → bget (getC u c).latch b = true
  active : ∀ i, (prGet (getC u c) i).active = true → (prGet (getC s c) i).active = true
  disc : ∀ i, (prGet (getC s c) i).disc = true → (prGet (getC u c) i).disc = true
  other : (getC u (otherC c)).latch = (getC s (otherC c)).latch
  idle : NoPulse s → getC u (otherC c) = getC s (otherC c) ∧ NoPulse u

theorem Opening.refl (c : Chan) (s : State) : Opening c s s :=
  ⟨.refl s, fun _ _ h => h, fun _ h => h, fun _ h => h, fun _ h => h, rfl, fun h => ⟨rfl, h⟩⟩

theorem Opening.trans {c : Chan} {s u v : State} (h : Opening c s u) (h' : Opening c u v) : Opening c s v where
  closes := h.closes.trans h'.closes
  rwait p hp hr := h'.rwait p hp (h.rwait p hp hr)
  latch b hb := h'.latch b (h.latch b hb)
  active i hi := h.active i (h'.active i hi)
  disc i hi := h'.disc i (h.disc i hi)
  other := h'.other.trans h.other
  idle hn := by
    obtain ⟨e, hu⟩ := h.idle hn
    obtain ⟨e', hv⟩ := h'.idle hu
    exact ⟨e'.trans e, hv⟩

theorem Opening.foldl {α : Type} {c : Chan} {f : State → α → State} (h : ∀ s x, Opening c s (f s x)) (l : List α) (s : State) :
    Opening c s (l.foldl f s) := by
  induction l generalizing s with
  | nil => exact .refl c s
  | cons x l ih => exact (h s x).trans (ih _)

theorem Opening.otherKept {c : Chan} {s u : State} (h : Opening c s u) : OtherKept c s u := ⟨h.other, fun hn => (h.idle hn).1⟩

/-- An opening of a state with the same channels and pulses. -/
theorem Opening.before {c : Chan} {s s' u : State} (ha : s'.safA = s.safA) (hb : s'.safB = s.safB) (ho : s'.out.tp = s.out.tp)
    (h : Opening c s' u) : Opening c s u := by
  have e := getC_congr ha hb
  obtain ⟨h1, h2, h3, h4, h5, h6, h7⟩ := h
  rw [e] at h2 h3 h4 h5 h6 h7
  refine ⟨?_, h2, h3, h4, h5, h6, fun hn => h7 (hn.congr ho)⟩
  unfold NoneCloses at *
  rw [← ha, ← hb]
  exact h1

/-- A state with the same channels and pulses as one that has been opened. -/
theorem Opening.after {c : Chan} {s u u' : State} (h : Opening c s u) (ha : u'.safA = u.safA) (hb : u'.safB = u.safB)
    (ho : u'.out.tp = u.out.tp) : Opening c s u' :=
  h.trans (.before ha hb ho (.refl c u'))

/-- A write of channel `c` that opens and latches at most. -/
theorem Opening.setC {c : Chan} {f : Saf} {s : State} (hs : f.sw = (getC s c).sw) (hr : f.rwait = (getC s c).rwait)
    (hl : ∀ b, bget (getC s c).latch b = true → bget f.latch b = true)
    (ha : ∀ i, (prGet f i).active = true → (prGet (getC s c) i).active = true)
    (hd : ∀ i, (prGet (getC s c) i).disc = true → (prGet f i).disc = true) : Opening c s (setC c f s) where
  closes := by
    cases c
    · exact .of_same hs rfl
    · exact .of_same rfl hs
  rwait p _ h := by
    rw [getC_setC_same, hr]
    exact h
  latch b h := by
    rw [getC_setC_same]
    exact hl b h
  active i h := by
    rw [getC_setC_same] at h
    exact ha i h
  disc i h := by
    rw [getC_setC_same]
    exact hd i h
  other := by rw [getC_setC_other]
  idle hn := ⟨getC_setC_other .., by cases c <;> exact hn⟩

/-- A write of channel `c` that leaves switches, interlocks, latches and pairs. -/
theorem Opening.updC {c : Chan} {g : Saf → Saf} {s : State} (hs : (g (getC s c)).sw = (getC s c).sw)
    (hr : (g (getC s c)).rwait = (getC s c).rwait) (hl : (g (getC s c)).latch = (getC s c).latch)
    (hp : (g (getC s c)).pairs = (getC s c).pairs) : Opening c s (updC c g s) := by
  refine .setC hs hr (fun b h => ?_) (fun i h => ?_) (fun i h => ?_)
  · rw [hl]
    exact h
  · rw [prGet, hp] at h
    exact h
  · rw [prGet, hp]
    exact h

theorem prGet_only {f g : Saf} (h : SwitchOnly f g) (i : Nat) : prGet g i = prGet f i := by
  unfold SwitchOnly at h
  rw [h]
  rfl

theorem openSwitch_opening (c : Chan) {p : Nat} (hp : p < 4) (s : State) : Opening c s (openSwitch c p s) where
  closes := (openSwitch_opens c p s).noneCloses
  rwait q _ h := openSwitch_rwait_mono c c p h
  latch b h := by
    rw [openSwitch_latch]
    exact h
  active i h := by
    rw [prGet_only (openSwitch_only ..)] at h
    exact h
  disc i h := by
    rw [prGet_only (openSwitch_only ..)]
    exact h
  other := openSwitch_latch ..
  idle hn := openSwitch_other c hp hn

theorem openAll_opening (c : Chan) (s : State) : Opening c s (openAll c s) where
  closes := (openAll_opens c s).noneCloses
  rwait q _ h := openAll_rwait_mono c c h
  latch b h := by
    rw [openAll_latch]
    exact h
  active i h := by
    rw [prGet_only (openAll_only ..)] at h
    exact h
  disc i h := by
    rw [prGet_only (openAll_only ..)]
    exact h
  other := openAll_latch ..
  idle hn := openAll_other c hn

theorem bget_bset_mono {n : Nat} (v : BitVec n) (k : Nat) {b : Nat} (h : bget v b = true) : bget (bset v k true) b = true := by
  unfold bget bset at *
  rw [if_pos rfl, BitVec.getLsbD_or, h, Bool.true_or]

theorem latchFault_opening (c : Chan) (b : Nat) (s : State) : Opening c s (latchFault c b s) := by
  refine .trans ?_ (openAll_opening c _)
  exact .setC rfl rfl (fun k h => bget_bset_mono _ b h) (fun _ h => h) (fun _ h => h)

/-! ### A latched fault -/

/-- Fault `b` is latched in channel `c`, and its switches are open and wait for a restart. -/
def Latched (c : Chan) (b : Nat) (u : State) : Prop := (getC u c).sw = 0 ∧ (getC u c).rwait = 15 ∧ bget (getC u c).latch b = true

theorem Latched.opening {c : Chan} {b : Nat} {s u : State} (hl : Latched c b s) (h : Opening c s u) : Latched c b u := by
  obtain ⟨h1, h2, h3⟩ := hl
  refine ⟨?_, eq_ones_of_bget fun p hp => h.rwait p hp (bget_of_eq_ones h2 hp), h.latch b h3⟩
  have hk := h.closes.getC c
  rw [h1] at hk
  exact (bv4_and_ones _).symm.trans hk

theorem latchFault_latched (c : Chan) {b : Nat} (hb : b < 16) (s : State) : Latched c b (latchFault c b s) := by
  refine ⟨latchFault_sw .., openAll_rwait .., ?_⟩
  rw [latchFault_latch, bget_bset_true _ hb, decide_eq_true rfl, Bool.or_true]

theorem Opening.faultLatched {c : Chan} {b : Nat} {s u : State} (h : Opening c s u) (hl : Latched c b u) : FaultLatched c b s u :=
  ⟨hl.1, hl.2.1, hl.2.2, h.otherKept⟩

/-- A fault that channel `c` latches. -/
theorem latchFault_faults (c : Chan) {b : Nat} (hb : b < 16) (s : State) : FaultLatched c b s (latchFault c b s) :=
  (latchFault_opening c b s).faultLatched (latchFault_latched c hb s)

/-! ### Discrepancy -/

theorem prGet_prSet_same (i : Nat) (x : Pair) (f : Saf) : prGet (prSet i x f) i = x := mget_mset_same ..

theorem prGet_prSet_other {i j : Nat} (h : j ≠ i) (x : Pair) (f : Saf) : prGet (prSet i x f) j = prGet f j := mget_mset_other _ _ _ _ _ h

theorem latchDisc_opening (c : Chan) (i : Nat) (s : State) : Opening c s (latchDisc c i s) := by
  refine .trans ?_ (latchFault_opening c _ _)
  refine .setC rfl rfl (fun _ h => h) (fun j h => ?_) (fun j h => ?_)
  · rcases eq_or_ne j i with rfl | hj
    · rw [prGet_prSet_same] at h
      exact Bool.noConfusion h
    · rw [prGet_prSet_other hj] at h
      exact h
  · rcases eq_or_ne j i with rfl | hj
    · rw [prGet_prSet_same]
    · rw [prGet_prSet_other hj]
      exact h

theorem latchFault_pairs (c d : Chan) (b i : Nat) (s : State) : prGet (getC (latchFault c b s) d) i = prGet (getC s d) i := by
  unfold latchFault
  rw [prGet_only (openAll_only ..)]
  cases c <;> cases d <;> rfl

theorem latchDisc_disc (c : Chan) (i : Nat) (s : State) : (prGet (getC (latchDisc c i s) c) i).disc = true := by
  unfold latchDisc
  rw [latchFault_pairs]
  unfold updC
  rw [getC_setC_same, prGet_prSet_same]

/-- Only the pair whose fault is latched changes. -/
theorem latchDisc_pairs (c : Chan) {i j : Nat} (h : j ≠ i) (s : State) : prGet (getC (latchDisc c i s) c) j = prGet (getC s c) j := by
  unfold latchDisc
  rw [latchFault_pairs]
  unfold updC
  rw [getC_setC_same, prGet_prSet_other h]

theorem latchDisc_latched (c : Chan) (i : Nat) (s : State) : Latched c fltDisc (latchDisc c i s) := latchFault_latched c (by decide) _

theorem latchDisc_frame (c : Chan) (i : Nat) (s : State) : Frame channelParts s (latchDisc c i s) :=
  (setC_frame ..).trans (latchFault_frame ..)

/-! ### The demands -/

/-- Channel `g` sees the demands that `f` sees: they differ in switches, interlocks and demands noted, and in the monitors' ramps. -/
structure Sees (f g : Saf) : Prop where
  same : g = { f with sw := g.sw, rwait := g.rwait, opened := g.opened, demand := g.demand, ss1 := g.ss1, dm0 := g.dm0, dm1 := g.dm1 }
  stop : ∀ d, ((dmGet g d).st == 0 || (dmGet g d).st == 3) = ((dmGet f d).st == 0 || (dmGet f d).st == 3)

theorem Sees.refl (f : Saf) : Sees f f := ⟨rfl, fun _ => rfl⟩

theorem Sees.trans {f g h : Saf} (h₁ : Sees f g) (h₂ : Sees g h) : Sees f h := by
  refine ⟨?_, fun d => (h₂.stop d).trans (h₁.stop d)⟩
  have e := h₁.same
  rw [h₂.same, e]

theorem SwitchOnly.sees {f g : Saf} (h : SwitchOnly f g) : Sees f g := by
  unfold SwitchOnly at h
  constructor
  · rw [h]
  · intro d
    rw [h]
    rfl

theorem Sees.foldl {α : Type} {f : State → α → State} {c : Chan} (h : ∀ s x, Sees (getC s c) (getC (f s x) c)) (l : List α) (s : State) :
    Sees (getC s c) (getC (l.foldl f s) c) := by
  induction l generalizing s with
  | nil => exact .refl _
  | cons x l ih => exact (h s x).trans (ih _)

theorem dmGet_dmSet (d e : Nat) (x : Dm) (f : Saf) : dmGet (dmSet d x f) e = if (e = 0 ↔ d = 0) then x else dmGet f e := by
  unfold dmGet dmSet
  by_cases hd : d = 0 <;> by_cases he : e = 0 <;> simp [hd, he]

theorem dmGet_zero_iff {d e : Nat} (h : e = 0 ↔ d = 0) (f : Saf) : dmGet f e = dmGet f d := by
  unfold dmGet
  by_cases hd : d = 0
  · rw [if_pos hd, if_pos (h.2 hd)]
  · rw [if_neg hd, if_neg (fun he => hd (h.1 he))]

/-- A ramp starts on a monitor that is IDLE. -/
theorem startRamp_sees (c : Chan) (d : Nat) {s : State} (h : (dmGet (getC s c) d).st = 1) : Sees (getC s c) (getC (startRamp c d s) c) := by
  unfold startRamp updC
  rw [getC_setC_same]
  constructor
  · unfold dmSet
    split
    · rfl
    · rfl
  · intro e
    rw [dmGet_dmSet]
    split
    next he => rw [dmGet_zero_iff he, h]; rfl
    next => rfl

theorem evalDemands_sees (c : Chan) (s : State) : Sees (getC s c) (getC (evalDemands c s) c) := by
  unfold evalDemands
  extract_lets im ss u v
  have hu : Sees (getC s c) (getC u c) := .foldl (fun s p => by
    split
    · exact .refl _
    · exact (openSwitch_only ..).sees) im s
  have hv : Sees (getC u c) (getC v c) := .foldl (fun s p => by
    split
    next h => exact startRamp_sees c _ h
    next => exact .refl _) ss u
  refine (hu.trans hv).trans ?_
  unfold updC
  rw [getC_setC_same]
  exact ⟨rfl, fun _ => rfl⟩

theorem openDemands_opening (c : Chan) {l : List Nat} (hl : ∀ p ∈ l, p < 4) (s : State) :
    Opening c s (l.foldl (fun s p => if sqFunc s p = 0 then s else openSwitch c p s) s) := by
  induction l generalizing s with
  | nil => exact .refl c s
  | cons p l ih =>
    have h1 : Opening c s (if sqFunc s p = 0 then s else openSwitch c p s) := by
      split
      · exact .refl c s
      · exact openSwitch_opening c (hl p (List.mem_cons_self ..)) s
    exact h1.trans (ih (fun q hq => hl q (List.mem_cons_of_mem _ hq)) _)

theorem rampDemands_opening (c : Chan) (l : List Nat) (s : State) :
    Opening c s (l.foldl (fun s p => if (dmGet (getC s c) (sqDm s p)).st = 1 then startRamp c (sqDm s p) s else s) s) :=
  .foldl (fun s p => by
    split
    · refine .updC ?_ ?_ ?_ ?_
      all_goals
        unfold dmSet
        dsimp only
        split
        · rfl
        · rfl
    · exact .refl c s) l s

theorem mem_filter_range_lt {n : Nat} {f : Nat → Bool} {p : Nat} (h : p ∈ (List.range n).filter f) : p < n :=
  List.mem_range.1 (List.mem_filter.1 h).1

theorem evalDemands_opening (c : Chan) (s : State) : Opening c s (evalDemands c s) := by
  unfold evalDemands
  exact ((openDemands_opening c (fun _ => mem_filter_range_lt) s).trans (rampDemands_opening ..)).trans (.updC rfl rfl rfl rfl)

/-- What channel `c` sees as an immediate demand depends on its view, the configuration and the states of safety, power and supply. -/
theorem demandNow_congr {s u : State} {c : Chan} (h : Sees (getC s c) (getC u c)) (hcf : u.cf = s.cf) (hsys : u.sys = s.sys)
    (hsup : u.sup = s.sup) (hpw : u.pw = s.pw) (p : Nat) : demandNow u c p = demandNow s c p := by
  obtain ⟨hs, hd⟩ := h
  have hsin : ∀ k, sinDemand u (getC u c) p k = sinDemand s (getC s c) p k := fun k => by
    unfold sinDemand sinRole
    simp only [cfgN_congr hcf]
    rw [hs]
    rfl
  have hz : ∀ k, zoneDemand u (getC u c) p k = zoneDemand s (getC s c) p k := fun k => by
    unfold zoneDemand zoneOccupied znEpoch cfgB
    rw [hs, hcf]
  have hx : ∀ k, sectionDemand u (getC u c) p k = sectionDemand s (getC s c) p k := fun k => by
    unfold sectionDemand
    simp only [cfgN_congr hcf]
    rw [hs]
  have hl : (getC u c).latch = (getC s c).latch := by rw [hs]
  unfold demandNow
  dsimp only
  rw [hsin, hz, hx, hl, hsin, hz, hx]
  unfold startDemand powerDemand pinScan sqFunc sqDm
  rw [hd]
  simp only [cfgN_congr hcf, hsys, hsup, hpw, hcf]

theorem evalDemands_demandNow (c : Chan) (s : State) (p : Nat) : demandNow (evalDemands c s) c p = demandNow s c p :=
  demandNow_congr (evalDemands_sees c s) ((evalDemands_frame c s).same .cf) ((evalDemands_frame c s).same .sys)
    ((evalDemands_frame c s).same .sup) ((evalDemands_frame c s).same .pw) p

/-- Opening a listed pair opens it for good. -/
theorem openDemands_open (c : Chan) {l : List Nat} (hl : ∀ p ∈ l, p < 4) {p : Nat} (hp : p ∈ l) {s : State} (hf : sqFunc s p ≠ 0) :
    bget (getC (l.foldl (fun s p => if sqFunc s p = 0 then s else openSwitch c p s) s) c).sw p = false := by
  induction l generalizing s with
  | nil => exact absurd hp List.not_mem_nil
  | cons q l ih =>
    have hl' : ∀ p ∈ l, p < 4 := fun q hq => hl q (List.mem_cons_of_mem _ hq)
    have hq : (if sqFunc s q = 0 then s else openSwitch c q s).cf = s.cf := by
      split
      · rfl
      · exact (openSwitch_frame ..).same .cf
    rw [List.foldl_cons]
    rcases List.mem_cons.1 hp with rfl | hp
    · refine (openDemands_opening c hl' _).closes.bit (hl p (List.mem_cons_self ..)) ?_
      rw [if_neg hf, getC_sw]
      exact openSwitch_open ..
    · exact ih hl' hp (by rw [sqFunc, cfgN_congr hq]; exact hf)

/-- After an evaluation the switch is open in every pair with an immediate demand (R309). -/
theorem evalDemands_open (c : Chan) {s : State} {p : Nat} (hp : p < 4) (hf : sqFunc s p ≠ 0) (hd : demandNow s c p = true) :
    bget (getC (evalDemands c s) c).sw p = false := by
  unfold evalDemands
  have ho := openDemands_open c (l := (List.range 4).filter fun p => demandNow s c p) (fun _ => mem_filter_range_lt)
    (List.mem_filter.2 ⟨List.mem_range.2 hp, hd⟩) hf
  exact ((rampDemands_opening c _ _).trans (.updC rfl rfl rfl rfl)).closes.bit hp ho

end Sys2Proof.Machine
end

section
/-! PROOF. O36 and O37: safe inputs, pair evaluation, channel timeouts and cross words. -/

namespace Sys2Proof.Machine

-- One after another the proofs need less memory than all at once.
set_option Elab.async false

theorem Opening.timed {c : Chan} {t : Nat} {s u : State} (h : Opening c (advance t s) u) : Opening c s u := .before (s' := advance t s) rfl rfl rfl h

theorem noteEdge_out (c : Chan) (last : Nat) (ignored : Bool) (s : State) : (noteEdge c last ignored s).safA = s.safA ∧
    (noteEdge c last ignored s).safB = s.safB ∧ (noteEdge c last ignored s).out.tp = s.out.tp := by
  unfold noteEdge
  split
  · exact ⟨rfl, rfl, rfl⟩
  · exact ⟨rfl, rfl, rfl⟩

theorem Opening.noted {c : Chan} {s u : State} (h : Opening c s u) (d : Chan) (last : Nat) (ignored : Bool) :
    Opening c s (noteEdge d last ignored u) := by
  obtain ⟨ha, hb, ho⟩ := noteEdge_out d last ignored u
  exact h.after ha hb ho

theorem Latched.congr {c : Chan} {b : Nat} {s u : State} (ha : u.safA = s.safA) (hb : u.safB = s.safB) (h : Latched c b s) : Latched c b u := by
  unfold Latched at *
  rw [getC_congr ha hb]
  exact h

/-! ### What latching a discrepancy leaves of its channel -/

/-- Of the channel only switches, interlocks, latches and pairs differ. -/
def FaultOnly (f g : Saf) : Prop := g = { f with sw := g.sw, rwait := g.rwait, opened := g.opened, latch := g.latch, pairs := g.pairs }

theorem FaultOnly.refl (f : Saf) : FaultOnly f f := rfl

theorem FaultOnly.trans {f g h : Saf} (h₁ : FaultOnly f g) (h₂ : FaultOnly g h) : FaultOnly f h := by
  unfold FaultOnly at *
  rw [h₂, h₁]

theorem SwitchOnly.faultOnly {f g : Saf} (h : SwitchOnly f g) : FaultOnly f g := by
  unfold SwitchOnly at h
  unfold FaultOnly
  rw [h]

theorem updC_faultOnly (c : Chan) (g : Saf → Saf) (s : State) (h : ∀ f, FaultOnly f (g f)) : FaultOnly (getC s c) (getC (updC c g s) c) := by
  unfold updC
  rw [getC_setC_same]
  exact h _

theorem latchFault_faultOnly (c : Chan) (b : Nat) (s : State) : FaultOnly (getC s c) (getC (latchFault c b s) c) :=
  (updC_faultOnly c (fun f => { f with latch := bset f.latch b true }) s fun _ => rfl).trans (openAll_only ..).faultOnly

theorem latchDisc_faultOnly (c : Chan) (i : Nat) (s : State) : FaultOnly (getC s c) (getC (latchDisc c i s) c) :=
  (updC_faultOnly c (fun f => prSet i { prGet f i with disc := true, discSafe := false, active := false } f) s fun _ => rfl).trans
    (latchFault_faultOnly ..)

/-! ### Discrepancies of several pairs -/

section Discs

variable {c : Chan} {P : State → Nat → Bool}

/-- Discrepancies are latched for the listed pairs where `P` says so. -/
theorem discs_opening (l : List Nat) (s : State) : Opening c s (l.foldl (fun s i => if P s i then latchDisc c i s else s) s) :=
  .foldl (fun s i => by
    split
    · exact latchDisc_opening c i s
    · exact .refl c s) l s

theorem discs_frame (l : List Nat) (s : State) : Frame channelParts s (l.foldl (fun s i => if P s i then latchDisc c i s else s) s) :=
  .foldl (fun s i => by
    split
    · exact latchDisc_frame c i s
    · exact .refl ..) l s

theorem discs_faultOnly (l : List Nat) (s : State) :
    FaultOnly (getC s c) (getC (l.foldl (fun s i => if P s i then latchDisc c i s else s) s) c) := by
  induction l generalizing s with
  | nil => exact .refl _
  | cons i l ih =>
    have h1 : FaultOnly (getC s c) (getC (if P s i then latchDisc c i s else s) c) := by
      split
      · exact latchDisc_faultOnly c i s
      · exact .refl _
    exact h1.trans (ih _)

/-- A pair that is to latch does so, whatever the others do. -/
theorem discs_latched (hP : ∀ s i j, j ≠ i → P (latchDisc c j s) i = P s i) {l : List Nat} {i : Nat} (hi : i ∈ l) {s : State}
    (h : P s i = true) : Latched c fltDisc (l.foldl (fun s i => if P s i then latchDisc c i s else s) s) ∧
      (prGet (getC (l.foldl (fun s i => if P s i then latchDisc c i s else s) s) c) i).disc = true := by
  induction l generalizing s with
  | nil => exact absurd hi List.not_mem_nil
  | cons j l ih =>
    rw [List.foldl_cons]
    rcases eq_or_ne j i with rfl | hj
    · rw [if_pos h]
      have hr := discs_opening (c := c) (P := P) l (latchDisc c j s)
      exact ⟨(latchDisc_latched c j s).opening hr, hr.disc j (latchDisc_disc c j s)⟩
    · refine ih ((List.mem_cons.1 hi).resolve_left hj.symm) ?_
      split
      · rw [hP s i j hj]
        exact h
      · exact h

end Discs

/-! ### Timeouts of a channel -/

theorem discTimeout_due {c : Chan} {n t0 : Nat} {s : State} (ht : (prGet (getC s c) n).timer = some t0)
    (hd : (prGet (getC s c) n).disc = false) (hr : sinRole s n ≠ 0) (h : t0 + tDisc s n + msNs ≤ s.sys.now) :
    discTimeout c n s = latchDisc c n s := by
  have hms : 0 < msNs := by decide
  unfold discTimeout
  dsimp only
  rw [ht, hd]
  dsimp only
  rw [if_neg, if_pos (by omega)]
  rw [Bool.false_or, Bool.or_eq_true, decide_eq_true_iff, decide_eq_true_iff]
  rintro (h' | h')
  · exact hr h'
  · omega

theorem discTimeout_early {c : Chan} {n t0 : Nat} {s : State} (ht : (prGet (getC s c) n).timer = some t0)
    (h : s.sys.now - t0 + msNs ≤ tDisc s n) : discTimeout c n s = s := by
  unfold discTimeout
  dsimp only
  rw [ht]
  dsimp only
  rw [if_pos]
  rw [Bool.or_eq_true, decide_eq_true_iff]
  exact .inr h

theorem jamNow_faults (c : Chan) (s : State) : FaultLatched c fltJammed s (jamNow c s) := by
  obtain ⟨ha, hb, _⟩ := noteEdge_out c 3 false (latchFault c fltJammed (updC c (fun f => { f with rstHigh := none }) s))
  refine Opening.faultLatched ?_ ((latchFault_latched c (by decide) _).congr ha hb)
  exact (Opening.trans (.updC rfl rfl rfl rfl) (latchFault_opening c fltJammed _)).noted c 3 false

theorem resetJam_long {c : Chan} {h : Nat} {s : State} (hh : (getC s c).rstHigh = some h) (hl : h + 3001 * msNs ≤ s.sys.now) :
    resetJam c s = jamNow c s := by
  unfold resetJam
  dsimp only
  rw [hh]
  exact if_pos (by omega)

/-! ### Cross words -/

theorem postMirror_frame (s : State) : Frame [.ed, .res, .regs] s (postMirror s) := by
  unfold postMirror
  dsimp only
  exact (post_frame ..).trans (post_frame ..)

theorem resGet_post_other {a b : Nat} (h : b ≠ a) (low : Nat) (ws : List (Nat × Nat)) (s : State) :
    resGet (post a low ws s) b = resGet s b := by
  obtain ⟨e, he⟩ := post_distributorOnly a low ws s
  rw [he, resGet, regPuts_res, mget_mset_other _ _ _ _ _ h, resGet]

theorem postMirror_fresh (s : State) : (resGet (postMirror s) 0x4C0000).fresh = true := by
  unfold postMirror
  dsimp only
  rw [resGet_post_other (by decide)]
  exact resGet_post_fresh ..

theorem mget_mem {α : Type} [DecidableEq α] {d : α} {m : SMap α} {k : Nat} (h : mget d m k ≠ d) : (k, mget d m k) ∈ m := by
  induction m with
  | nil => exact absurd rfl h
  | cons e m ih =>
    rw [mget] at h ⊢
    split_ifs at h ⊢ with he
    · rw [he]
      exact List.mem_cons_self ..
    · exact List.mem_cons_of_mem _ (ih h)

/-- The count of words in a row in which a pair differs. -/
theorem mget_xDiffs {s : State} {f : Saf} {w : Cross} {i : Nat} (hi : i < 8) : mget 0 (xDiffs s f w) i =
    if sinRole s i != 0 && (prGet f i).active != bget w.pairs i then min 20 (mget 0 f.xDiff i + 1) else 0 := by
  have step : ∀ n m, n ≤ 8 → mget 0 ((List.range n).foldl (fun m i =>
      mset 0 m i (if sinRole s i != 0 && (prGet f i).active != bget w.pairs i then min 20 (mget 0 m i + 1) else 0)) m) i =
      if i < n then (if sinRole s i != 0 && (prGet f i).active != bget w.pairs i then min 20 (mget 0 m i + 1) else 0) else mget 0 m i := by
    intro n m hn
    induction n with
    | zero => rfl
    | succ n ih =>
      rw [List.range_succ, List.foldl_append, List.foldl_cons, List.foldl_nil]
      rcases eq_or_ne i n with rfl | hne
      · rw [mget_mset_same, ih (by omega), if_neg (Nat.lt_irrefl _), if_pos (Nat.lt_succ_self _)]
      · rw [mget_mset_other _ _ _ _ _ hne, ih (by omega)]
        simp only [show (i < n + 1) = (i < n) from propext (by omega)]
  exact (step 8 f.xDiff le_rfl).trans (if_pos hi)

/-- The word is taken and the discrepancy faults that it shows are adopted. -/
def crossAdopted (c : Chan) (w : Cross) (s : State) : State :=
  (List.range 8).foldl (fun s i => if bget w.disc i && sinRole s i != 0 && !(prGet (getC s c) i).disc then latchDisc c i s else s)
    (setC c { getC s c with xIn := some w, xAt := s.sys.now, xDiff := xDiffs s (getC s c) w } s)

/-- The channel's view and the other's disagree. -/
def crossDiffers (f : Saf) (w : Cross) : Bool :=
  f.xDiff.any (fun e => decide (20 ≤ e.2)) || (f.mbGot && w.got && f.mbFrame == w.frame && f.mbCrc != w.crc)

theorem takeCross_eq (c : Chan) (w : Cross) (s : State) : takeCross c w s =
    if crossDiffers (getC (crossAdopted c w s) c) w then latchFault c fltCross (crossAdopted c w s) else crossAdopted c w s := rfl

theorem crossAdopted_opening (c : Chan) (w : Cross) (s : State) : Opening c s (crossAdopted c w s) := by
  unfold crossAdopted
  refine .trans ?_ (discs_opening (P := fun s i => bget w.disc i && sinRole s i != 0 && !(prGet (getC s c) i).disc) _ _)
  exact .setC rfl rfl (fun _ h => h) (fun _ h => h) (fun _ h => h)

theorem takeCross_opening (c : Chan) (w : Cross) (s : State) : Opening c s (takeCross c w s) := by
  rw [takeCross_eq]
  split
  · exact (crossAdopted_opening c w s).trans (latchFault_opening ..)
  · exact crossAdopted_opening c w s

theorem crossAdopted_faultOnly (c : Chan) (w : Cross) (s : State) :
    FaultOnly { getC s c with xIn := some w, xAt := s.sys.now, xDiff := xDiffs s (getC s c) w } (getC (crossAdopted c w s) c) := by
  have h := discs_faultOnly (c := c) (P := fun s i => bget w.disc i && sinRole s i != 0 && !(prGet (getC s c) i).disc) (List.range 8)
    (setC c { getC s c with xIn := some w, xAt := s.sys.now, xDiff := xDiffs s (getC s c) w } s)
  rw [getC_setC_same] at h
  exact h

theorem takeCross_faultOnly (c : Chan) (w : Cross) (s : State) :
    FaultOnly { getC s c with xIn := some w, xAt := s.sys.now, xDiff := xDiffs s (getC s c) w } (getC (takeCross c w s) c) := by
  rw [takeCross_eq]
  split
  · exact (crossAdopted_faultOnly c w s).trans (latchFault_faultOnly ..)
  · exact crossAdopted_faultOnly c w s

theorem takeCross_notes (c : Chan) (w : Cross) (s : State) :
    (getC (takeCross c w s) c).xAt = s.sys.now ∧ (getC (takeCross c w s) c).xIn = some w := by
  have h := takeCross_faultOnly c w s
  unfold FaultOnly at h
  rw [h]
  exact ⟨rfl, rfl⟩

/-- A discrepancy that the other channel has latched is adopted. -/
theorem takeCross_disc {c : Chan} {w : Cross} {s : State} {i : Nat} (hi : i < 8) (hw : bget w.disc i = true) (hr : sinRole s i ≠ 0)
    (hd : (prGet (getC s c) i).disc = false) : Latched c fltDisc (takeCross c w s) ∧ (prGet (getC (takeCross c w s) c) i).disc = true := by
  have hr' : sinRole (setC c { getC s c with xIn := some w, xAt := s.sys.now, xDiff := xDiffs s (getC s c) w } s) i ≠ 0 := by
    rw [sinRole, cfgN_congr ((setC_frame ..).same .cf)]
    exact hr
  obtain ⟨hl, hdd⟩ := discs_latched (c := c) (P := fun s i => bget w.disc i && sinRole s i != 0 && !(prGet (getC s c) i).disc) (fun s i j hj => by
      rw [latchDisc_pairs c hj.symm, sinRole, cfgN_congr ((latchDisc_frame c j s).same .cf), sinRole]) (List.mem_range.2 hi)
    (s := setC c { getC s c with xIn := some w, xAt := s.sys.now, xDiff := xDiffs s (getC s c) w } s) (by
      rw [hw, bne_iff_ne.2 hr', getC_setC_same]
      exact congrArg (! ·) hd)
  rw [takeCross_eq]
  split
  · exact ⟨Latched.opening hl (latchFault_opening c fltCross (crossAdopted c w s)),
      (latchFault_opening c fltCross (crossAdopted c w s)).disc i hdd⟩
  · exact ⟨hl, hdd⟩

/-- The twentieth word in a row with a different pair state. -/
theorem takeCross_differs {c : Chan} {w : Cross} {s : State} {i : Nat} (hi : i < 8) (hr : sinRole s i ≠ 0)
    (ha : (prGet (getC s c) i).active ≠ bget w.pairs i) (hx : 19 ≤ mget 0 (getC s c).xDiff i) : Latched c fltCross (takeCross c w s) := by
  have hd : crossDiffers (getC (crossAdopted c w s) c) w = true := by
    have h := crossAdopted_faultOnly c w s
    unfold FaultOnly at h
    have hxd : (getC (crossAdopted c w s) c).xDiff = xDiffs s (getC s c) w := by rw [h]
    have hm : mget 0 (xDiffs s (getC s c) w) i = 20 := by
      rw [mget_xDiffs hi, bne_iff_ne.2 hr, bne_iff_ne.2 ha]
      exact Nat.min_eq_left (by omega)
    unfold crossDiffers
    rw [hxd, Bool.or_eq_true, List.any_eq_true]
    refine .inl ⟨(i, 20), ?_, rfl⟩
    have := mget_mem (d := 0) (m := xDiffs s (getC s c) w) (k := i) (by rw [hm]; decide)
    rw [hm] at this
    exact this
  rw [takeCross_eq, if_pos hd]
  exact latchFault_latched c (by decide) _

/-- The word on its way to channel `c`. -/
def crossIn (c : Chan) (s : State) : Option Cross := match c with | .a => s.out.xA | .b => s.out.xB
def crossGone (c : Chan) (s : State) : State :=
  match c with
  | .a => { s with out := { s.out with xA := none } }
  | .b => { s with out := { s.out with xB := none } }

theorem crossGone_same (c : Chan) (s : State) : (crossGone c s).safA = s.safA ∧ (crossGone c s).safB = s.safB ∧
    (crossGone c s).out.tp = s.out.tp ∧ (crossGone c s).cf = s.cf ∧ (crossGone c s).sys = s.sys := by
  cases c <;> exact ⟨rfl, rfl, rfl, rfl, rfl⟩

/-- The word is taken where it is valid. -/
def crossTaken (c : Chan) (valid : Bool) (w : Option Cross) (s : State) : State :=
  match w with
  | some w => if valid then takeCross c w s else s
  | none => s

theorem crossTaken_invalid (c : Chan) (w : Option Cross) (s : State) : crossTaken c false w s = s := by
  cases w with
  | none => rfl
  | some w => rfl

theorem receiveCross_eq (c : Chan) (valid : Bool) (s : State) : receiveCross c valid s =
    if c == .a then postMirror (crossTaken c valid (crossIn c s) (crossGone c s)) else crossTaken c valid (crossIn c s) (crossGone c s) := by
  cases c
  · rfl
  · rfl

/-- A valid word: taken, and, by channel A, shown. -/
theorem receiveCross_valid {c : Chan} {w : Cross} {s : State} (h : crossIn c s = some w) : receiveCross c true s =
    if c == .a then postMirror (takeCross c w (crossGone c s)) else takeCross c w (crossGone c s) := by
  rw [receiveCross_eq, h]
  rfl

theorem receiveCross_invalid (c : Chan) (s : State) :
    receiveCross c false s = if c == .a then postMirror (crossGone c s) else crossGone c s := by
  rw [receiveCross_eq, crossTaken_invalid]

section Cross

variable {s : State} (t : Nat) {c : Chan} (ho : s.sys.oper = true)

include ho

/-- O37: a valid cross word. -/
theorem crossWordReceive_takes {w : Cross} (hw : crossIn c s = some w) : Answers (.crossWordReceive t c true) s fun u => NoneCloses u s ∧
    OtherKept c s u ∧ (getC u c).xAt = (advance t s).sys.now ∧ (getC u c).xIn = some w ∧
    (∀ i, i < 8 → bget w.disc i = true → sinRole s i ≠ 0 → (prGet (getC s c) i).disc = false → FaultLatched c fltDisc s u ∧
      (prGet (getC u c) i).disc = true) ∧
    (∀ i, i < 8 → sinRole s i ≠ 0 → (prGet (getC s c) i).active ≠ bget w.pairs i → 19 ≤ mget 0 (getC s c).xDiff i →
      FaultLatched c fltCross s u) := by
  obtain ⟨ga, gb, gt, gc, gs⟩ := crossGone_same c (advance t s)
  have gC : getC (crossGone c (advance t s)) c = getC s c := (getC_congr ga gb c).trans (getC_advance ..)
  have hrole : ∀ i, sinRole (crossGone c (advance t s)) i = sinRole s i := fun i => cfgN_congr (gc.trans (advance_cf t s)) ..
  have hop : Opening c s (takeCross c w (crossGone c (advance t s))) := ((takeCross_opening c w _).before ga gb gt).timed
  obtain ⟨hxa, hxi⟩ := takeCross_notes c w (crossGone c (advance t s))
  have hdisc := fun i hi hw' hr hd => takeCross_disc (c := c) (w := w) (s := crossGone c (advance t s)) (i := i) hi hw' hr hd
  have hdiff := fun i hi hr ha hx => takeCross_differs (c := c) (w := w) (s := crossGone c (advance t s)) (i := i) hi hr ha hx
  rw [gs] at hxa
  simp only [gC, hrole] at hdisc hdiff
  refine ⟨_, acts (c := (advance t s).sys.oper) ho, ?_⟩
  rw [receiveCross_valid (s := advance t s) hw]
  generalize takeCross c w (crossGone c (advance t s)) = v at hop hxa hxi hdisc hdiff
  have hu : Frame [.ed, .res, .regs] v (if c == .a then postMirror v else v) := by
    split
    · exact postMirror_frame v
    · exact .refl ..
  generalize (if c == .a then postMirror v else v) = u at hu
  have ha : u.safA = v.safA := hu.same .safA
  have hb : u.safB = v.safB := hu.same .safB
  have hopu : Opening c s u := hop.after ha hb (congrArg Out.tp (hu.same .out))
  have hC : getC u c = getC v c := getC_congr ha hb c
  refine ⟨hopu.closes, hopu.otherKept, hC ▸ hxa, hC ▸ hxi, fun i hi hw' hr hd => ?_, fun i hi hr hx hn => ?_⟩
  · obtain ⟨hl, hdd⟩ := hdisc i hi hw' hr hd
    exact ⟨hopu.faultLatched (hl.congr ha hb), hC ▸ hdd⟩
  · exact hopu.faultLatched ((hdiff i hi hr hx hn).congr ha hb)

theorem crossWordReceive_a_invalid : Answers (.crossWordReceive t .a false) s fun u =>
    u.safA = s.safA ∧ u.safB = s.safB ∧ (resGet u 0x4C0000).fresh = true := by
  refine ⟨_, acts (c := (advance t s).sys.oper) ho, ?_⟩
  rw [receiveCross_invalid]
  exact ⟨(postMirror_frame _).same .safA, (postMirror_frame _).same .safB, postMirror_fresh _⟩

theorem crossWordReceive_b_invalid : Answers (.crossWordReceive t .b false) s fun u =>
    u = { advance t s with out := { s.out with xB := none } } := by
  refine ⟨_, acts (c := (advance t s).sys.oper) ho, ?_⟩
  rw [receiveCross_invalid]
  rfl

end Cross

theorem FaultLatched.timed {c : Chan} {b t : Nat} {s u : State} (h : FaultLatched c b (advance t s) u) : FaultLatched c b s u := by
  obtain ⟨h1, h2, h3, h4, h5⟩ := h
  rw [getC_advance] at h4 h5
  exact ⟨h1, h2, h3, h4, h5⟩

/-- Settles O37: it holds. -/
theorem channelTimeoutsAndCrossWords : Obligations.ChannelTimeoutsAndCrossWords := by
  refine ⟨fun s t c n ho => ⟨fun t0 ht hd hr h => ?_, fun t0 ht h => ?_, fun h => ?_, fun h hh hl => ?_⟩, fun s t c w ho =>
    ⟨⟨_, acts (c := (advance t s).sys.oper) ho, rfl⟩, ⟨_, acts (c := (advance t s).sys.oper) ho, rfl⟩, fun hw => crossWordReceive_takes t ho hw,
      crossWordReceive_a_invalid t ho, crossWordReceive_b_invalid t ho⟩⟩
  · refine ⟨_, acts (c := (advance t s).sys.oper) ho, ?_⟩
    rw [← getC_advance t s c] at ht hd
    rw [discTimeout_due (s := advance t s) ht hd hr h]
    exact ⟨(latchDisc_opening c n _).timed.faultLatched (latchDisc_latched c n _), latchDisc_disc c n _⟩
  · refine ⟨_, acts (c := (advance t s).sys.oper) ho, ?_⟩
    rw [← getC_advance t s c] at ht
    exact discTimeout_early (s := advance t s) ht h
  · rw [← getC_advance t s c] at h
    refine ⟨_, acts (c := (advance t s).sys.oper && decide ((getC (advance t s) c).xAt + 3 * msNs ≤ (advance t s).sys.now)) ?_, ?_⟩
    · rw [show (advance t s).sys.oper = true from ho, decide_eq_true h]
      rfl
    · exact (latchFault_faults c (by decide) _).timed
  · refine ⟨_, acts (c := (advance t s).sys.oper) ho, ?_⟩
    rw [← getC_advance t s c] at hh
    rw [resetJam_long (s := advance t s) hh hl]
    exact (jamNow_faults c _).timed

end Sys2Proof.Machine
end

section
/-! PROOF. O36: the sampling of the safe inputs and the evaluation of the pairs. -/

namespace Sys2Proof.Machine

-- One after another the proofs need less memory than all at once.
set_option Elab.async false

/-! ### Writing every pair -/

/-- Each of the first `n` pairs is written once, from what it held. -/
theorem pairs_mapped {g : Saf → Nat → Pair → Pair} (hg : ∀ f ps i x, g { f with pairs := ps } i x = g f i x) (n : Nat) (f : Saf) :
    let h := (List.range n).foldl (fun f i => prSet i (g f i (prGet f i)) f) f
    h = { f with pairs := h.pairs } ∧ ∀ i, prGet h i = if i < n then g f i (prGet f i) else prGet f i := by
  induction n with
  | zero => exact ⟨rfl, fun i => rfl⟩
  | succ n ih =>
    rw [List.range_succ, List.foldl_append]
    obtain ⟨he, hp⟩ := ih
    generalize (List.range n).foldl (fun f i => prSet i (g f i (prGet f i)) f) f = h at he hp
    obtain ⟨ps, rfl⟩ : ∃ ps, h = { f with pairs := ps } := ⟨_, he⟩
    refine ⟨rfl, fun i => ?_⟩
    rw [List.foldl_cons, List.foldl_nil]
    rcases eq_or_ne i n with rfl | hi
    · rw [prGet_prSet_same, hg, hp, if_neg (Nat.lt_irrefl _), if_pos (Nat.lt_succ_self _)]
    · rw [prGet_prSet_other hi, hp]
      simp only [show (i < n + 1) = (i < n) from propext (by omega)]

/-! ### Sampling (R288, R290) -/

theorem filterStep_agrees {n : Nat} {cur : Bool} {run : Nat} {raw : Bool} (h : raw = cur) : filterStep n cur run raw = (cur, 0) :=
  if_pos (beq_iff_eq.2 h)

theorem filterStep_counts {n : Nat} {cur : Bool} {run : Nat} {raw : Bool} (h : raw ≠ cur) (hr : run + 1 < n) :
    filterStep n cur run raw = (cur, run + 1) := (if_neg (by rwa [beq_iff_eq])).trans (if_neg (by omega))

theorem filterStep_turns {n : Nat} {cur : Bool} {run : Nat} {raw : Bool} (h : raw ≠ cur) (hr : n ≤ run + 1) :
    filterStep n cur run raw = (raw, 0) := (if_neg (by rwa [beq_iff_eq])).trans (if_pos hr)

/-- A pair after one sample of its terminals. -/
def sampled (s : State) (lv : SinLevels) (i : Nat) (x : Pair) : Pair :=
  { x with
    fA := (filterStep (tFilt s i) x.fA x.runA (termReads s i false lv)).1
    runA := (filterStep (tFilt s i) x.fA x.runA (termReads s i false lv)).2
    fB := (filterStep (tFilt s i) x.fB x.runB (termReads s i true lv)).1
    runB := (filterStep (tFilt s i) x.fB x.runB (termReads s i true lv)).2 }

theorem sampleSin_pair (c : Chan) (lv : SinLevels) (s : State) {i : Nat} (hi : i < 8) :
    prGet (getC (sampleSin c lv s) c) i = sampled s lv i (prGet (getC s c) i) := by
  obtain ⟨-, hp⟩ := pairs_mapped (g := fun _ i x => sampled s lv i x) (fun _ _ _ _ => rfl) 8 (getC s c)
  unfold sampleSin
  rw [getC_setC_same]
  exact (hp i).trans (if_pos hi)

theorem sampleSin_other (c : Chan) (lv : SinLevels) (s : State) : getC (sampleSin c lv s) (otherC c) = getC s (otherC c) :=
  getC_setC_other ..

theorem termReads_a (s : State) (i : Nat) (lv : SinLevels) : termReads s i false lv = true ↔ 11000 < lv.mv.getD (2 * i) 0 := by
  unfold termReads
  dsimp only
  rw [Bool.false_and, if_neg Bool.false_ne_true, decide_eq_true_iff]
  rfl

theorem termReads_b_antivalent {s : State} {i : Nat} (h : sinMode s i = 1) (lv : SinLevels) :
    termReads s i true lv = true ↔ lv.mv.getD (2 * i + 1) 0 < 5000 := by
  unfold termReads
  dsimp only
  rw [h, Bool.true_and, if_pos (by rfl), decide_eq_true_iff]
  rfl

theorem termReads_b {s : State} {i : Nat} (h : sinMode s i ≠ 1) (lv : SinLevels) :
    termReads s i true lv = true ↔ 11000 < lv.mv.getD (2 * i + 1) 0 := by
  unfold termReads
  dsimp only
  rw [Bool.true_and, if_neg (by rwa [beq_iff_eq]), decide_eq_true_iff]
  rfl

/-! ### One evaluation (R291, R293, R294) -/

theorem pairStep_active {s : State} {o i : Nat} {x : Pair} (h : (pairStep s o i x).active = true) :
    x.fA = true ∧ x.fB = true ∧ x.disc = false ∧ sinRole s i ≠ 0 := by
  unfold pairStep at h
  dsimp only at h
  split at h
  · exact Bool.noConfusion h
  next hr =>
    split at h
    · exact Bool.noConfusion h
    next hb =>
      rw [Bool.or_eq_true, Bool.or_eq_true, Bool.not_eq_true', not_or, not_or, Bool.not_eq_true, Bool.not_eq_false, Bool.and_eq_true] at hb
      obtain ⟨⟨-, hd⟩, ha, hb⟩ := hb
      exact ⟨ha, hb, Bool.not_eq_true _ ▸ hd, hr⟩

/-- Where the filtered readings differ, the timer runs on. -/
theorem pairStep_timer {s : State} {o i t0 : Nat} {x : Pair} (hr : sinRole s i ≠ 0) (ht : x.timer = some t0) (hd : x.fA ≠ x.fB) :
    (pairStep s o i x).timer = some t0 ∧ (pairStep s o i x).disc = x.disc := by
  have hp : pairTimer s o i x = some t0 := by
    unfold pairTimer
    rw [if_neg (by rwa [beq_iff_eq]), ht, Option.getD_some]
  unfold pairStep
  rw [if_neg hr]
  dsimp only
  split
  · exact ⟨hp, rfl⟩
  · split
    · exact ⟨hp, rfl⟩
    · exact ⟨hp, rfl⟩

/-- The pairs of channel `c` are evaluated. -/
def pairsStepped (c : Chan) (s : State) : State :=
  updC c (fun f => (List.range 8).foldl (fun f i => prSet i (pairStep s f.operAt i (prGet f i)) f) f) s

theorem pairsStepped_chan (c : Chan) (s : State) : getC (pairsStepped c s) c = { getC s c with pairs := (getC (pairsStepped c s) c).pairs } := by
  obtain ⟨he, -⟩ := pairs_mapped (g := fun f i x => pairStep s f.operAt i x) (fun _ _ _ _ => rfl) 8 (getC s c)
  unfold pairsStepped updC
  rw [getC_setC_same]
  exact he

theorem pairsStepped_pair (c : Chan) (s : State) {i : Nat} (hi : i < 8) :
    prGet (getC (pairsStepped c s) c) i = pairStep s (getC s c).operAt i (prGet (getC s c) i) := by
  obtain ⟨-, hp⟩ := pairs_mapped (g := fun f i x => pairStep s f.operAt i x) (fun _ _ _ _ => rfl) 8 (getC s c)
  unfold pairsStepped updC
  rw [getC_setC_same]
  exact (hp i).trans (if_pos hi)

theorem pairsStepped_frame (c : Chan) (s : State) : Frame channelParts s (pairsStepped c s) := setC_frame ..

theorem pairsStepped_closes (c : Chan) (s : State) : NoneCloses (pairsStepped c s) s := by
  have h : (getC (pairsStepped c s) c).sw = (getC s c).sw := by rw [pairsStepped_chan]
  cases c
  · exact .of_same h rfl
  · exact .of_same rfl h

theorem resetLevel_opening (c : Chan) (was is : Bool) (s : State) : Opening c s (resetLevel c was is s) := by
  refine .updC ?_ ?_ ?_ ?_
  all_goals
    split
    · rfl
    · split
      · rfl
      · rfl

/-- The reset input's level as channel `c` sees it. -/
def resetSeen (c : Chan) (s : State) : Bool := match resetPair s with | some i => pairActive s c i | none => false

/-- The pairs are evaluated and their discrepancies latched. -/
def pairsJudged (c : Chan) (s : State) : State :=
  (List.range 8).foldl (fun s i => if discDue s i (prGet (getC s c) i) then latchDisc c i s else s) (pairsStepped c s)

theorem evalPairs_eq (c : Chan) (s : State) :
    evalPairs c s = evalDemands c (resetLevel c (resetSeen c s) (resetSeen c (pairsJudged c s)) (pairsJudged c s)) := rfl

theorem pairsJudged_opening (c : Chan) (s : State) : Opening c (pairsStepped c s) (pairsJudged c s) :=
  discs_opening (P := fun s i => discDue s i (prGet (getC s c) i)) _ _

theorem evalPairs_opening (c : Chan) (s : State) : Opening c (pairsStepped c s) (evalPairs c s) := by
  rw [evalPairs_eq]
  exact ((pairsJudged_opening c s).trans (resetLevel_opening ..)).trans (evalDemands_opening ..)

/-- A disagreement that has lasted long enough is latched. -/
theorem pairsJudged_disc {c : Chan} {s : State} {i t0 : Nat} (hi : i < 8) (ht : (prGet (getC s c) i).timer = some t0)
    (hd : (prGet (getC s c) i).fA ≠ (prGet (getC s c) i).fB) (hn : (prGet (getC s c) i).disc = false) (hr : sinRole s i ≠ 0)
    (h : t0 + tDisc s i + msNs ≤ s.sys.now) : Latched c fltDisc (pairsJudged c s) ∧ (prGet (getC (pairsJudged c s) c) i).disc = true := by
  have hf := pairsStepped_frame c s
  have hcf : (pairsStepped c s).cf = s.cf := hf.same .cf
  have hnow : (pairsStepped c s).sys.now = s.sys.now := hf.same .now
  refine discs_latched (P := fun s i => discDue s i (prGet (getC s c) i)) (fun s i j hj => ?_) (List.mem_range.2 hi) ?_
  · have hc : (latchDisc c j s).cf = s.cf := (latchDisc_frame c j s).same .cf
    have hw : (latchDisc c j s).sys.now = s.sys.now := (latchDisc_frame c j s).same .now
    unfold discDue sinRole tDisc
    rw [latchDisc_pairs c hj.symm]
    simp only [cfgN_congr hc, hw]
  · obtain ⟨h1, h2⟩ := pairStep_timer (s := s) (o := (getC s c).operAt) (i := i) hr ht hd
    unfold discDue sinRole tDisc
    rw [pairsStepped_pair c s hi]
    simp only [h1, h2, hn, cfgN_congr hcf, hnow]
    rw [Bool.not_false, Bool.true_and, Bool.and_eq_true, bne_iff_ne, decide_eq_true_iff]
    exact ⟨hr, h⟩

theorem sectLevels_frame (was : List Bool) (s : State) : Frame [.ax] s (sectLevels was s) := by
  unfold sectLevels
  refine .foldl (fun s i => ?_) _ s
  dsimp only
  split
  · exact .refl ..
  · split
    · exact .of
    · split
      · exact .of
      · exact .refl ..

/-- After the pairs of channel A the levels of the SECTRESET pairs are taken. -/
theorem pairEvaluate_evaluates {s : State} (ho : s.sys.oper = true) (c : Chan) : Frame [.ax] (evalPairs c s) (pairEvaluate c s) := by
  unfold pairEvaluate
  rw [ho, Bool.not_true, if_neg Bool.false_ne_true]
  dsimp only
  split
  · split
    · exact sectLevels_frame ..
    · exact .refl ..
  · exact .refl ..

/-- Settles O36: it holds. -/
theorem safeInputs : Obligations.SafeInputs := by
  refine ⟨fun s t c lv ho => ?_, fun s t c ho => ?_⟩
  · refine ⟨_, acts (c := (advance t s).sys.oper) ho, ?_, ?_, fun i hi => ?_⟩
    · unfold Kept
      rw [sampleSin_guarded, advance_guarded]
    · exact (sampleSin_other ..).trans (getC_advance ..)
    · have hy := sampleSin_pair c lv (advance t s) hi
      rw [getC_advance] at hy
      intro x y r q
      have hy' : y = sampled s lv i x := hy
      refine ⟨termReads_a s i lv, fun h => termReads_b_antivalent h lv, fun h => termReads_b h lv, by rw [hy']; rfl, by rw [hy']; rfl, by rw [hy']; rfl,
        fun h => ?_, fun h hr => ?_, fun h hr => ?_, fun h => ?_, fun h hr => ?_, fun h hr => ?_⟩
      all_goals
        rw [hy']
        unfold sampled
        dsimp only
      · rw [filterStep_agrees h]
        exact ⟨rfl, rfl⟩
      · rw [filterStep_counts h hr]
        exact ⟨rfl, rfl⟩
      · rw [filterStep_turns h hr]
        exact ⟨rfl, rfl⟩
      · rw [filterStep_agrees h]
        exact ⟨rfl, rfl⟩
      · rw [filterStep_counts h hr]
        exact ⟨rfl, rfl⟩
      · rw [filterStep_turns h hr]
        exact ⟨rfl, rfl⟩
  · have hax := pairEvaluate_evaluates (s := advance t s) ho c
    have hw := evalPairs_opening c (advance t s)
    have hst := pairsStepped_closes c (advance t s)
    have ha : (pairEvaluate c (advance t s)).safA = (evalPairs c (advance t s)).safA := hax.same .safA
    have hb : (pairEvaluate c (advance t s)).safB = (evalPairs c (advance t s)).safB := hax.same .safB
    have hC := getC_congr ha hb c
    have hop : Opening c (pairsStepped c (advance t s)) (pairEvaluate c (advance t s)) := hw.after ha hb (congrArg Out.tp (hax.same .out))
    have hother : getC (pairsStepped c (advance t s)) (otherC c) = getC s (otherC c) := (getC_setC_other ..).trans (getC_advance ..)
    have hkept : OtherKept c s (pairEvaluate c (advance t s)) := by
      obtain ⟨h1, h2⟩ := hop.otherKept
      rw [hother] at h1 h2
      exact ⟨h1, fun hn => h2 (by cases c <;> exact hn)⟩
    refine ⟨_, rfl, NoneCloses.trans (u := pairsStepped c (advance t s)) hst hop.closes, hkept, fun i hi h => ?_, fun i t0 hi ht hd hn hr h => ?_, fun p hp hf hd => ?_⟩
    · have h1 := hop.active i h
      rw [pairsStepped_pair c _ hi, getC_advance] at h1
      exact pairStep_active (s := advance t s) h1
    · rw [← getC_advance t s c] at ht hd hn
      obtain ⟨hl, hdd⟩ := pairsJudged_disc (s := advance t s) hi ht hd hn hr h
      have hj : Opening c (pairsJudged c (advance t s)) (pairEvaluate c (advance t s)) := by
        refine Opening.after ?_ ha hb (congrArg Out.tp (hax.same .out))
        rw [evalPairs_eq]
        exact (resetLevel_opening ..).trans (evalDemands_opening ..)
      obtain ⟨l1, l2, l3⟩ := hl.opening hj
      exact ⟨⟨l1, l2, l3, hkept⟩, hj.disc i hdd⟩
    · rw [hC]
      rw [demandNow_congr (s := evalPairs c (advance t s)) (hC ▸ .refl _) (hax.same .cf) (hax.same .sys) (hax.same .sup) (hax.same .pw)] at hd
      rw [evalPairs_eq] at hd ⊢
      rw [evalDemands_demandNow] at hd
      refine evalDemands_open c hp ?_ hd
      have hcf : (resetLevel c (resetSeen c (advance t s)) (resetSeen c (pairsJudged c (advance t s))) (pairsJudged c (advance t s))).cf = s.cf := by
        refine ((setC_frame ..).same .cf).trans (((discs_frame ..).same .cf).trans ((pairsStepped_frame c (advance t s)).same .cf))
      rw [sqFunc, cfgN_congr hcf]
      exact hf

end Sys2Proof.Machine
end

section
/-! PROOF. O38: readback and test pulses. -/

namespace Sys2Proof.Machine

-- One after another the proofs need less memory than all at once.
set_option Elab.async false

/-! ### What opening leaves of the outputs -/

/-- Of the outputs only scheduled pulses and the count of discarded ones differ; which pulses run, and their numbers, are the same. -/
structure PulsesKept (s u : State) : Prop where
  out : u.out = { s.out with tp := u.out.tp, discarded := u.out.discarded }
  pulse : ∀ p, (tpGet u p).by_ = (tpGet s p).by_ ∧ (tpGet u p).num = (tpGet s p).num

theorem PulsesKept.refl (s : State) : PulsesKept s s := ⟨rfl, fun _ => ⟨rfl, rfl⟩⟩

theorem PulsesKept.trans {s u v : State} (h : PulsesKept s u) (h' : PulsesKept u v) : PulsesKept s v := by
  refine ⟨?_, fun p => ⟨(h'.pulse p).1.trans (h.pulse p).1, (h'.pulse p).2.trans (h.pulse p).2⟩⟩
  rw [h'.out, h.out]

theorem PulsesKept.of_out {s u : State} (h : u.out = s.out) : PulsesKept s u := by
  refine ⟨by rw [h], fun p => ?_⟩
  rw [tpGet, tpGet, h]
  exact ⟨rfl, rfl⟩

theorem PulsesKept.foldl {α : Type} {f : State → α → State} (h : ∀ s x, PulsesKept s (f s x)) (l : List α) (s : State) :
    PulsesKept s (l.foldl f s) := by
  induction l generalizing s with
  | nil => exact .refl s
  | cons x l ih => exact (h s x).trans (ih _)

theorem tpSet_pulsesKept {s : State} {p : Nat} {x : Tp} (hb : x.by_ = (tpGet s p).by_) (hn : x.num = (tpGet s p).num) :
    PulsesKept s (tpSet p x s) := by
  refine ⟨rfl, fun q => ?_⟩
  rcases eq_or_ne q p with rfl | hq
  · rw [tpGet, tpSet, mget_mset_same]
    exact ⟨hb, hn⟩
  · rw [tpGet_tpSet_other _ _ _ _ hq]
    exact ⟨rfl, rfl⟩

theorem openSwitch_pulsesKept (c : Chan) (p : Nat) (s : State) : PulsesKept s (openSwitch c p s) := by
  unfold openSwitch
  extract_lets was u x v drop w
  have hu : PulsesKept s u := .of_out (setC_out ..)
  have hv : v.out = u.out := by
    unfold v
    split
    · exact setC_out ..
    · rfl
  have hx : tpGet v p = x := by rw [tpGet, hv]; rfl
  have hw : PulsesKept v w := tpSet_pulsesKept (by rw [hx]) (by rw [hx])
  have huw : PulsesKept s w := (hu.trans (.of_out hv)).trans hw
  clear_value w
  split
  · split
    · exact huw.trans ⟨rfl, fun _ => ⟨rfl, rfl⟩⟩
    · exact huw
  · exact hu

theorem latchFault_pulsesKept (c : Chan) (b : Nat) (s : State) : PulsesKept s (latchFault c b s) :=
  (PulsesKept.of_out (setC_out ..)).trans (.foldl (fun s p => openSwitch_pulsesKept c p s) _ _)

/-! ### Readback (R312) -/

/-- Channel `c` with the readback of pair `p` noted. -/
def readNoted (c : Chan) (p : Nat) (on : Bool) (s : State) : Saf :=
  let f := getC s c
  let cl := swClosed s .a p && swClosed s .b p
  { f with
    rbOnSince := sinceMap f.rbOnSince p (on && !cl && decide (lastOpened s p + msNs < s.sys.now)) s.sys.now
    rbOffSince := sinceMap f.rbOffSince p (!on && cl && decide (lastClosed s p + 5 * msNs < s.sys.now)) s.sys.now
    offOpenSince := sinceMap f.offOpenSince p (!on && !swClosed s c p) s.sys.now }

theorem readback_eq (c : Chan) (p : Nat) (on : Bool) (s : State) : readback c p on s =
    if sqFunc (setC c (readNoted c p on s) s) p != 0 && (heldFor (mlook (readNoted c p on s).rbOnSince p) msNs s.sys.now ||
      heldFor (mlook (readNoted c p on s).rbOffSince p) msNs s.sys.now) then latchFault c fltReadback (setC c (readNoted c p on s) s)
    else setC c (readNoted c p on s) s := rfl

theorem readNoted_opening (c : Chan) (p : Nat) (on : Bool) (s : State) : Opening c s (setC c (readNoted c p on s) s) :=
  .setC rfl rfl (fun _ h => h) (fun _ h => h) (fun _ h => h)

theorem readback_opening (c : Chan) (p : Nat) (on : Bool) (s : State) : Opening c s (readback c p on s) := by
  rw [readback_eq]
  split
  · exact (readNoted_opening c p on s).trans (latchFault_opening ..)
  · exact readNoted_opening c p on s

theorem readback_pulsesKept (c : Chan) (p : Nat) (on : Bool) (s : State) : PulsesKept s (readback c p on s) := by
  rw [readback_eq]
  have h : PulsesKept s (setC c (readNoted c p on s) s) := .of_out (setC_out ..)
  split
  · exact h.trans (latchFault_pulsesKept ..)
  · exact h

/-- In channel `c` pair `p` has read back on since `t0` while it is open, and has been open for 1 ms. -/
structure ReadsStuck (c : Chan) (p t0 : Nat) (s : State) : Prop where
  open_ : (swClosed s .a p && swClosed s .b p) = false
  since : mlook (getC s c).rbOnSince p = some t0
  opened : lastOpened s p + msNs < s.sys.now
  held : t0 + msNs ≤ s.sys.now
  used : sqFunc s p ≠ 0

theorem mlook_mdel_other {α : Type} (m : SMap α) {k j : Nat} (h : j ≠ k) : mlook (mdel m k) j = mlook m j := by
  induction m with
  | nil => rfl
  | cons e m ih =>
    rw [mdel]
    split_ifs with hk
    · rw [ih, mlook, if_neg (fun he => h (he.trans hk.symm))]
    · rw [mlook, ih, mlook]

theorem mlook_sinceMap_other (m : SMap Nat) {p q : Nat} (h : q ≠ p) (cond : Bool) (now : Nat) : mlook (sinceMap m p cond now) q = mlook m q := by
  unfold sinceMap
  split
  · split
    · rfl
    · exact mlook_mput_other m _ h
  · exact mlook_mdel_other m h

/-- The note of another pair's readback leaves the finding. -/
theorem ReadsStuck.noted {c : Chan} {p q t0 : Nat} {s : State} (h : ReadsStuck c p t0 s) (hq : p ≠ q) (on : Bool) :
    ReadsStuck c p t0 (setC c (readNoted c q on s) s) := by
  obtain ⟨h1, h2, h3, h4, h5⟩ := h
  refine ⟨?_, ?_, ?_, ?_, ?_⟩
  · cases c <;> exact h1
  · rw [getC_setC_same]
    exact (mlook_sinceMap_other _ hq ..).trans h2
  · cases c <;> exact h3
  · rw [setC_sys]
    exact h4
  · rw [sqFunc, cfgN_congr ((setC_frame ..).same .cf)]
    exact h5

/-- The readback of the pair itself latches. -/
theorem ReadsStuck.latches {c : Chan} {p t0 : Nat} {s : State} (h : ReadsStuck c p t0 s) : Latched c fltReadback (readback c p true s) := by
  obtain ⟨h1, h2, h3, h4, h5⟩ := h
  have hs : (readNoted c p true s).rbOnSince = (getC s c).rbOnSince := by
    unfold readNoted sinceMap
    dsimp only
    rw [h1, decide_eq_true h3, h2]
    rfl
  rw [readback_eq, if_pos]
  · exact latchFault_latched c (by decide) _
  · have h5' : sqFunc (setC c (readNoted c p true s) s) p ≠ 0 := by
      rw [sqFunc, cfgN_congr ((setC_frame ..).same .cf)]
      exact h5
    rw [hs, h2, bne_iff_ne.2 h5', heldFor, decide_eq_true h4]
    rfl

theorem readback_stuck {c : Chan} {p t0 : Nat} {s : State} {on : Nat → Bool} (hon : on p = true)
    (h : Latched c fltReadback s ∨ ReadsStuck c p t0 s) {l : List Nat} (hl : p ∈ l ∨ Latched c fltReadback s) :
    Latched c fltReadback (l.foldl (fun s p => readback c p (on p) s) s) := by
  induction l generalizing s with
  | nil => exact hl.resolve_left List.not_mem_nil
  | cons q l ih =>
    rw [List.foldl_cons]
    rcases h with h | h
    · have h' : Latched c fltReadback (readback c q (on q) s) := h.opening (readback_opening ..)
      exact ih (.inl h') (.inr h')
    · rcases eq_or_ne p q with rfl | hq
      · have h' : Latched c fltReadback (readback c p (on p) s) := by
          rw [hon]
          exact h.latches
        exact ih (.inl h') (.inr h')
      · rcases hl with hl | hl
        · refine ih ?_ (.inl ((List.mem_cons.1 hl).resolve_left hq))
          rw [readback_eq]
          split
          · exact .inl (latchFault_latched c (by decide) _)
          · exact .inr (h.noted hq _)
        · have h' : Latched c fltReadback (readback c q (on q) s) := hl.opening (readback_opening ..)
          exact ih (.inl h') (.inr h')

/-- What the comparators read at the terminals. -/
def readOn (mv : List Int) : BitVec 4 := BitVec.ofNat 4 (maskOf 4 fun p => readsOn (mv.getD p 0))

/-- Channel A's readback is shown. -/
def readShown (c : Chan) (mv : List Int) (s : State) : State :=
  if c == .a then { s with out := { s.out with on := readOn mv } } else s

theorem readShown_same (c : Chan) (mv : List Int) (s : State) : (readShown c mv s).safA = s.safA ∧ (readShown c mv s).safB = s.safB ∧
    (readShown c mv s).out.tp = s.out.tp ∧ (readShown c mv s).cf = s.cf ∧ (readShown c mv s).sys = s.sys := by
  cases c <;> exact ⟨rfl, rfl, rfl, rfl, rfl⟩

/-- The readback of the four pairs by channel `c`. -/
def readTaken (c : Chan) (mv : List Int) (s : State) : State :=
  (List.range 4).foldl (fun s p => readback c p (bget (readOn mv) p) s) (readShown c mv s)

theorem readTaken_on (c : Chan) (mv : List Int) (s : State) : (readTaken c mv s).out.on = (readShown c mv s).out.on := by
  have h := (PulsesKept.foldl (fun s p => readback_pulsesKept c p (bget (readOn mv) p) s) (List.range 4) (readShown c mv s)).out
  unfold readTaken
  rw [h]

theorem exec_readbackSample (t : Nat) (c : Chan) (mv : List Int) (s : State) : exec (.readbackSample t c mv) s =
    .next (if (readShown c mv (advance t s)).sys.oper then readTaken c mv (advance t s) else readShown c mv (advance t s)) := rfl

section Readback

variable {s : State} (t : Nat) (c : Chan) (mv : List Int) (ho : s.sys.oper = true)

include ho

/-- O38: a sample of the readback. -/
theorem readbackSample_reads : Answers (.readbackSample t c mv) s fun u => NoneCloses u s ∧ OtherKept c s u ∧
    (c = .a → ∀ p, p < 4 → bget u.out.on p = decide (5000 < mv.getD p 0)) ∧
    (∀ p t0, p < 4 → 5000 < mv.getD p 0 → (swClosed s .a p && swClosed s .b p) = false → lastOpened s p + msNs < (advance t s).sys.now →
      sqFunc s p ≠ 0 → mlook (getC s c).rbOnSince p = some t0 → t0 + msNs ≤ (advance t s).sys.now → FaultLatched c fltReadback s u) := by
  obtain ⟨ha, hb, ht, hcf, hsys⟩ := readShown_same c mv (advance t s)
  have hou : (readShown c mv (advance t s)).sys.oper = true := (congrArg Sys.oper hsys).trans ho
  have hop : Opening c s (readTaken c mv (advance t s)) := ((Opening.foldl (fun s p => readback_opening c p _ s) _ _).before ha hb ht).timed
  refine ⟨_, (exec_readbackSample t c mv s).trans (acts hou), hop.closes, hop.otherKept, fun hc p hp => ?_, fun p t0 hp hm h1 h2 h3 h4 h5 => ?_⟩
  · rw [readTaken_on, hc]
    exact bget_maskOf _ hp
  · refine hop.faultLatched (readback_stuck (p := p) (t0 := t0) (on := fun p => bget (readOn mv) p) ?_ (.inr ?_) (.inl (List.mem_range.2 hp)))
    · exact (bget_maskOf _ hp).trans (decide_eq_true hm)
    · have hC := (getC_congr ha hb c).trans (getC_advance t s c)
      refine ⟨?_, ?_, ?_, ?_, ?_⟩
      · unfold swClosed tpGet getC at *
        rw [ha, hb, ht]
        exact h1
      · rw [hC]
        exact h4
      · unfold lastOpened tpGet at *
        rw [ha, hb, ht, hsys]
        exact h2
      · rw [hsys]
        exact h5
      · rw [sqFunc, cfgN_congr hcf]
        exact h3

end Readback

/-! ### Test pulses (R313 to R315) -/

theorem tpBlocked_congr {s u : State} (ha : u.safA = s.safA) (hb : u.safB = s.safB) (hc : u.cf = s.cf) (p : Nat) :
    tpBlocked u p = tpBlocked s p := by
  unfold tpBlocked sqFunc sqDm
  rw [cfgN_congr hc, cfgN_congr hc, ha, hb]

theorem tpPeriod_congr {s u : State} (hc : u.cf = s.cf) (p : Nat) : tpPeriod u p = tpPeriod s p := by
  rw [tpPeriod, cfgN_congr hc, tpPeriod]

theorem tpWidth_congr {s u : State} (hc : u.cf = s.cf) (p : Nat) : tpWidth u p = tpWidth s p := by
  rw [tpWidth, cfgN_congr hc, tpWidth]

theorem startPulse_starts {p d : Nat} {s : State} (hd : (tpGet s p).due = some d) (hn : d ≤ s.sys.now) (hon : pairOn s p = true)
    (hb : tpBlocked s p = false) (hy : tpBusy s = false) (he : s.out.lastEnd ≤ d ∨ s.out.lastEnd + 20000 ≤ s.sys.now) :
    startPulse p s = tpSet p { tpGet s p with by_ := some (if (tpGet s p).num % 2 = 1 then .a else .b), start := s.sys.now, dropped := false,
                                              due := some (s.sys.now + tpPeriod s p) } s := by
  unfold startPulse
  dsimp only
  rw [hd]
  refine if_pos ?_
  rw [pulseFree, decide_eq_true hn, hy, hon, hb, Bool.and_true, Bool.not_false, Bool.and_true, Bool.and_true, Bool.true_and, Bool.or_eq_true,
    decide_eq_true_iff, decide_eq_true_iff]
  exact he

/-- O38: a test pulse starts. -/
theorem testPulseStart_starts {s : State} (t : Nat) {p : Fin 4} {d : Nat} (hd : (tpGet s p).due = some d) (hn : d ≤ (advance t s).sys.now)
    (hon : pairOn s p = true) (hb : tpBlocked s p = false) (hy : tpBusy s = false)
    (he : s.out.lastEnd ≤ d ∨ s.out.lastEnd + 20000 ≤ (advance t s).sys.now) : Answers (.testPulseStart t p) s fun u => SwitchesKept s u ∧
      (tpGet u p).by_ = some (if (tpGet s p).num % 2 = 1 then Chan.a else Chan.b) ∧ (tpGet u p).start = (advance t s).sys.now ∧
      (tpGet u p).due = some ((advance t s).sys.now + tpPeriod s p) ∧ ∀ k, k ≠ p.val → tpGet u k = tpGet s k := by
  refine ⟨_, rfl, ?_, ?_⟩
  · unfold SwitchesKept
    rw [startPulse_guarded, advance_guarded]
  · rw [startPulse_starts (s := advance t s) hd hn hon ((tpBlocked_congr rfl rfl rfl _).trans hb) hy he, tpPeriod_congr (s := s) rfl]
    have hg : ∀ x, tpGet (tpSet p x (advance t s)) p = x := fun x => mget_mset_same ..
    rw [hg]
    exact ⟨rfl, rfl, rfl, fun k hk => tpGet_tpSet_other _ _ _ _ hk⟩

/-- A pulse has ended: the schedule after it. -/
def pulseOver (p : Nat) (s : State) : State :=
  let x := tpGet s p
  let s := tpSet p { x with by_ := none, num := x.num + 1, dropped := false } s
  { s with out := { s.out with lastEnd := s.sys.now, tests := if x.dropped then s.out.tests else satAdd 16 s.out.tests 1 } }

/-- The closing of both switches at the pulse's end. -/
def pulseClosed (p : Nat) (s : State) : State := bothC (fun c s => updC c (fun f => { f with closed := mput f.closed p s.sys.now }) s) s

/-- The judgement of a pulse by the two channels. -/
def pulseJudged (onA onB : Bool) (s : State) : State :=
  let s := if onA then latchFault .a fltReadback s else s
  if onB then latchFault .b fltReadback s else s

theorem endPulse_due {p : Nat} {d : Chan} {s : State} (hb : (tpGet s p).by_ = some d) (hw : (tpGet s p).start + tpWidth s p ≤ s.sys.now)
    (onA onB : Bool) : endPulse p onA onB s =
      if (tpGet s p).dropped then pulseOver p s else pulseJudged onA onB (pulseClosed p (pulseOver p s)) := by
  unfold endPulse
  dsimp only
  rw [if_neg]
  · rfl
  · rw [hb, decide_eq_false (Nat.not_lt.2 hw)]
    exact Bool.false_ne_true

theorem pulseOver_pulse (p : Nat) (s : State) : (tpGet (pulseOver p s) p).by_ = none ∧ (tpGet (pulseOver p s) p).num = (tpGet s p).num + 1 ∧
    (pulseOver p s).out.lastEnd = s.sys.now ∧
    (pulseOver p s).out.tests = if (tpGet s p).dropped then s.out.tests else satAdd 16 s.out.tests 1 := by
  have hg : tpGet (pulseOver p s) p = { tpGet s p with by_ := none, num := (tpGet s p).num + 1, dropped := false } := mget_mset_same ..
  rw [hg]
  exact ⟨rfl, rfl, rfl, rfl⟩

theorem pulseJudged_pulsesKept (onA onB : Bool) (s : State) : PulsesKept s (pulseJudged onA onB s) := by
  have h : ∀ (b : Bool) (c : Chan) (s : State), PulsesKept s (if b then latchFault c fltReadback s else s) := fun b c s => by
    split
    · exact latchFault_pulsesKept ..
    · exact .refl s
  exact (h onA .a s).trans (h onB .b _)

/-- A channel whose readback reads on latches READBACK. -/
theorem pulseJudged_latches (onA onB : Bool) (s : State) :
    (onA = true → (pulseJudged onA onB s).safA.sw = 0 ∧ bget (pulseJudged onA onB s).safA.latch fltReadback = true) ∧
    (onB = true → (pulseJudged onA onB s).safB.sw = 0 ∧ bget (pulseJudged onA onB s).safB.latch fltReadback = true) ∧
    (onA = false → onB = false → pulseJudged onA onB s = s) := by
  refine ⟨?_, ?_, ?_⟩
  · rintro rfl
    obtain ⟨h1, -, h3⟩ := latchFault_latched .a (b := fltReadback) (by decide) s
    unfold pulseJudged
    dsimp only
    rw [if_pos rfl]
    split
    · exact ⟨latchFault_b_openA h1 _, (congrArg (bget · fltReadback) (latchFault_latch_other .b ..)).trans h3⟩
    · exact ⟨h1, h3⟩
  · rintro rfl
    obtain ⟨h1, -, h3⟩ := latchFault_latched .b (b := fltReadback) (by decide) (if onA then latchFault .a fltReadback s else s)
    exact ⟨h1, h3⟩
  · rintro rfl rfl
    rfl

/-- O38: a test pulse ends. -/
theorem testPulseEnd_ends {s : State} (t : Nat) {p : Fin 4} {x : Chan} (a b : Int) (hb : (tpGet s p).by_ = some x)
    (hw : (tpGet s p).start + tpWidth s p ≤ (advance t s).sys.now) : Answers (.testPulseEnd t p a b) s fun u => (tpGet u p).by_ = none ∧
    (tpGet u p).num = (tpGet s p).num + 1 ∧ u.out.lastEnd = (advance t s).sys.now ∧ NoneCloses u s ∧
    ((tpGet s p).dropped = true → SwitchesKept s u ∧ u.out.tests = s.out.tests) ∧
    ((tpGet s p).dropped = false → u.out.tests = satAdd 16 s.out.tests 1 ∧
      (5000 < a → u.safA.sw = 0 ∧ bget u.safA.latch fltReadback = true) ∧
      (5000 < b → u.safB.sw = 0 ∧ bget u.safB.latch fltReadback = true) ∧ (a ≤ 5000 → b ≤ 5000 → SwitchesKept s u)) := by
  have hcl := (endPulse_opens p (readsOn a) (readsOn b) (advance t s)).timed.noneCloses
  obtain ⟨h1, h2, h3, h4⟩ := pulseOver_pulse p (advance t s)
  have hsw : SwitchesKept s (pulseOver p (advance t s)) := rfl
  rw [endPulse_due (s := advance t s) hb ((tpWidth_congr (s := s) rfl _).symm ▸ hw)] at hcl
  refine ⟨_, rfl, ?_⟩
  rw [endPulse_due (s := advance t s) hb ((tpWidth_congr (s := s) rfl _).symm ▸ hw)]
  have hd : (tpGet (advance t s) p).dropped = (tpGet s p).dropped := rfl
  rw [hd] at hcl h4 ⊢
  cases hdr : (tpGet s p).dropped
  · rw [hdr] at hcl h4
    rw [if_neg Bool.false_ne_true] at hcl h4 ⊢
    generalize hv : pulseClosed p (pulseOver p (advance t s)) = v at hcl ⊢
    have hvo : v.out = (pulseOver p (advance t s)).out := by rw [← hv]; rfl
    have hvs : SwitchesKept s v := by rw [← hv]; exact hsw
    have hk := pulseJudged_pulsesKept (readsOn a) (readsOn b) v
    obtain ⟨ja, jb, jn⟩ := pulseJudged_latches (readsOn a) (readsOn b) v
    have hvt : ∀ q, tpGet v q = tpGet (pulseOver p (advance t s)) q := fun q => by rw [tpGet, hvo, tpGet]
    refine ⟨?_, ?_, ?_, hcl, fun h => Bool.noConfusion h, fun _ => ⟨?_, fun h => ja (decide_eq_true h), fun h => jb (decide_eq_true h), fun h h' => ?_⟩⟩
    · rw [(hk.pulse p).1, hvt, h1]
    · rw [(hk.pulse p).2, hvt, h2]
      rfl
    · rw [hk.out]
      exact (congrArg Out.lastEnd hvo).trans h3
    · rw [hk.out]
      exact (congrArg Out.tests hvo).trans h4
    · rw [jn (decide_eq_false (Int.not_lt.2 h)) (decide_eq_false (Int.not_lt.2 h'))]
      exact hvs
  · rw [hdr] at hcl h4
    rw [if_pos rfl] at hcl h4 ⊢
    exact ⟨h1, h2, h3, hcl, fun _ => ⟨hsw, h4⟩, fun h => Bool.noConfusion h⟩

/-- Settles O38: it holds. -/
theorem readbackAndTestPulses : Obligations.ReadbackAndTestPulses := by
  intro s t c mv p a b
  exact ⟨fun ho => readbackSample_reads t c mv ho, fun d hd hn hon hb hy he => testPulseStart_starts t hd hn hon hb hy he,
    fun x hx hw => testPulseEnd_ends t a b hx hw⟩

end Sys2Proof.Machine
end

section
/-! PROOF. O40: the restart edge. A valid edge clears latches, then monitors leave STO, then switches close; each of the three leaves
what the others judge by. -/

namespace Sys2Proof.Machine

-- One after another the proofs need less memory than all at once.
set_option Elab.async false

/-! ### The latches that the edge clears (R322, Table 14.4) -/

/-- The pairs after the edge. -/
def pairsCleared (s : State) (f : Saf) : Saf := (List.range 8).foldl (fun f i =>
  let x := prGet f i
  if x.disc && x.discSafe && resetPair s != some i then prSet i (pairStep s f.operAt i { x with disc := false, discSafe := false }) f else f) f

/-- The channel after its latches. -/
def latchesCleared (c : Chan) (s : State) (f : Saf) : Saf :=
  let now := (List.range 8).filter fun b => clearable s c b
  let f := pairsCleared s f
  let f := if now.contains fltDrive then { f with dm0 := { f.dm0 with latched := false }, dm1 := { f.dm1 with latched := false } } else f
  { f with latch := now.foldl (fun l b => bset l b false) f.latch }

theorem clearLatches_eq (c : Chan) (s : State) : clearLatches c s = updC c (latchesCleared c s) s := by
  unfold clearLatches latchesCleared pairsCleared
  rfl

theorem pairsCleared_only (s : State) (f : Saf) : ∃ ps, pairsCleared s f = { f with pairs := ps } := by
  unfold pairsCleared
  generalize List.range 8 = l
  induction l generalizing f with
  | nil => exact ⟨_, rfl⟩
  | cons i l ih =>
    obtain ⟨ps, h⟩ := ih (if (prGet f i).disc && (prGet f i).discSafe && resetPair s != some i then
      prSet i (pairStep s f.operAt i { prGet f i with disc := false, discSafe := false }) f else f)
    rw [List.foldl_cons, h]
    split
    · exact ⟨ps, rfl⟩
    · exact ⟨ps, rfl⟩

/-- Where no pair has a discrepancy fault, the pairs stay. -/
theorem pairsCleared_idle {s : State} {f : Saf} (h : ∀ i, i < 8 → (prGet f i).disc = false) : pairsCleared s f = f := by
  unfold pairsCleared
  have : ∀ l : List Nat, (∀ i ∈ l, i < 8) → l.foldl (fun f i =>
      let x := prGet f i
      if x.disc && x.discSafe && resetPair s != some i then prSet i (pairStep s f.operAt i { x with disc := false, discSafe := false }) f else f) f = f := by
    intro l hl
    induction l with
    | nil => rfl
    | cons i l ih =>
      rw [List.foldl_cons]
      dsimp only
      rw [h i (hl i (List.mem_cons_self ..)), Bool.false_and, Bool.false_and, if_neg Bool.false_ne_true]
      exact ih fun j hj => hl j (List.mem_cons_of_mem _ hj)
  exact this _ fun i hi => List.mem_range.1 hi

theorem foldl_clear_bit (l : List Nat) {v : BitVec 16} {b : Nat} (h : bget v b = false) :
    bget (l.foldl (fun v b => bset v b false) v) b = false := by
  induction l generalizing v with
  | nil => exact h
  | cons k l ih =>
    refine ih ?_
    rw [bget_bset_clear, h, Bool.false_and]

theorem foldl_clear_zero (l : List Nat) : l.foldl (fun v b => bset v b false) (0 : BitVec 16) = 0 := by
  induction l with
  | nil => rfl
  | cons k l ih =>
    rw [List.foldl_cons, show bset (0 : BitVec 16) k false = 0 from BitVec.zero_and]
    exact ih

/-- From `f` to `g` at most pairs, latches and monitors differ, and no latch sets. -/
structure Cleared (f g : Saf) : Prop where
  same : g = { f with latch := g.latch, pairs := g.pairs, dm0 := g.dm0, dm1 := g.dm1 }
  latch : ∀ b, bget f.latch b = false → bget g.latch b = false

theorem Cleared.refl (f : Saf) : Cleared f f := ⟨rfl, fun _ h => h⟩

theorem Cleared.trans {f g h : Saf} (h₁ : Cleared f g) (h₂ : Cleared g h) : Cleared f h := by
  refine ⟨?_, fun b hb => h₂.latch b (h₁.latch b hb)⟩
  have e := h₁.same
  rw [h₂.same, e]

theorem latchesCleared_cleared (c : Chan) (s : State) (f : Saf) : Cleared f (latchesCleared c s f) := by
  obtain ⟨ps, h⟩ := pairsCleared_only s f
  unfold latchesCleared
  dsimp only
  rw [h]
  refine ⟨?_, fun b hb => foldl_clear_bit _ ?_⟩
  · split
    · rfl
    · rfl
  · split
    · exact hb
    · exact hb

theorem dmSet_cleared (d : Nat) (x : Dm) (f : Saf) : Cleared f (dmSet d x f) := by
  unfold dmSet
  split
  · exact ⟨rfl, fun _ h => h⟩
  · exact ⟨rfl, fun _ h => h⟩

/-! ### The channel before its switches close -/

/-- From `s` to `u` channel `c` goes as `R` says; nothing else differs. -/
structure ChanGoes (c : Chan) (R : Saf → Saf → Prop) (s u : State) : Prop where
  chan : R (getC s c) (getC u c)
  set : u = setC c (getC u c) s

theorem setC_setC (c : Chan) (f g : Saf) (s : State) : setC c f (setC c g s) = setC c f s := by cases c <;> rfl

theorem setC_getC (c : Chan) (s : State) : setC c (getC s c) s = s := by cases c <;> rfl

theorem ChanGoes.refl (c : Chan) (s : State) : ChanGoes c Cleared s s := ⟨.refl _, (setC_getC c s).symm⟩

theorem ChanGoes.trans {c : Chan} {s u v : State} (h : ChanGoes c Cleared s u) (h' : ChanGoes c Cleared u v) : ChanGoes c Cleared s v := by
  refine ⟨h.chan.trans h'.chan, ?_⟩
  have e := h.set
  generalize getC u c = f at e
  rw [h'.set, e, setC_setC, getC_setC_same]

theorem ChanGoes.setC {c : Chan} {f : Saf} {s : State} (h : Cleared (getC s c) f) : ChanGoes c Cleared s (setC c f s) :=
  ⟨by rw [getC_setC_same]; exact h, by rw [getC_setC_same]⟩

theorem clearLatches_goes (c : Chan) (s : State) : ChanGoes c Cleared s (clearLatches c s) := by
  rw [clearLatches_eq]
  exact .setC (latchesCleared_cleared c s _)

theorem edgeMonitor_goes (c : Chan) (d : Nat) (s : State) : ChanGoes c Cleared s (edgeMonitor c d s) := by
  unfold edgeMonitor
  dsimp only
  split
  · exact .setC (dmSet_cleared ..)
  · exact .refl c s

/-- The channel once latches and monitors have been judged. -/
def edgeReady (c : Chan) (s : State) : State := edgeMonitor c 1 (edgeMonitor c 0 (clearLatches c s))

theorem edgeReady_goes (c : Chan) (s : State) : ChanGoes c Cleared s (edgeReady c s) :=
  ((clearLatches_goes c s).trans (edgeMonitor_goes c 0 _)).trans (edgeMonitor_goes c 1 _)

/-! ### Switches close (R322) -/

/-- What closing switches of channel `c` leaves. -/
structure Closing (c : Chan) (s u : State) : Prop where
  latch : ∀ d, (getC u d).latch = (getC s d).latch
  other : (getC u (otherC c)).sw = (getC s (otherC c)).sw
  fall : ∀ d, (getC u d).rstHigh = (getC s d).rstHigh

theorem Closing.refl (c : Chan) (s : State) : Closing c s s := ⟨fun _ => rfl, rfl, fun _ => rfl⟩

theorem Closing.trans {c : Chan} {s u v : State} (h : Closing c s u) (h' : Closing c u v) : Closing c s v :=
  ⟨fun d => (h'.latch d).trans (h.latch d), h'.other.trans h.other, fun d => (h'.fall d).trans (h.fall d)⟩

/-- DSTOP is released in both channels. -/
def stopReleased (d : Nat) (s : State) : State := bothC (fun c s => updC c (fun f => dmSet d { dmGet f d with dstop := false } f) s) s

theorem stopReleased_chan (d : Nat) (s : State) (c : Chan) :
    getC (stopReleased d s) c = dmSet d { dmGet (getC s c) d with dstop := false } (getC s c) := by cases c <;> rfl

theorem dmSet_same (d : Nat) (x : Dm) (f : Saf) : (dmSet d x f).sw = f.sw ∧ (dmSet d x f).latch = f.latch ∧ (dmSet d x f).rstHigh = f.rstHigh := by
  unfold dmSet
  split
  · exact ⟨rfl, rfl, rfl⟩
  · exact ⟨rfl, rfl, rfl⟩

theorem stopReleased_closing (c : Chan) (d : Nat) (s : State) : Closing c s (stopReleased d s) := by
  refine ⟨fun e => ?_, ?_, fun e => ?_⟩
  · rw [stopReleased_chan]
    exact (dmSet_same ..).2.1
  · rw [stopReleased_chan]
    exact (dmSet_same ..).1
  · rw [stopReleased_chan]
    exact (dmSet_same ..).2.2

/-- The switch of pair `p` is closed in channel `f`. -/
def closedNow (p now : Nat) (f : Saf) : Saf :=
  { f with sw := bset f.sw p true, rwait := bset f.rwait p false, closed := if bget f.sw p then f.closed else mput f.closed p now }

theorem closeSwitch_closing (c : Chan) (p : Nat) (s : State) : Closing c s (closeSwitch c p s) := by
  unfold closeSwitch
  extract_lets u v
  have hu : Closing c s u := by
    refine ⟨fun d => ?_, by rw [show u = setC c (closedNow p s.sys.now (getC s c)) s from rfl, getC_setC_other], fun d => ?_⟩
    · cases c <;> cases d <;> rfl
    · cases c <;> cases d <;> rfl
  have hv : Closing c u v := by
    have e : ∀ d, getC v d = getC u d := getC_congr rfl rfl
    exact ⟨fun d => by rw [e], by rw [e], fun d => by rw [e]⟩
  clear_value u v
  split
  · split
    · exact (hu.trans hv).trans (stopReleased_closing c _ v)
    · exact hu.trans hv
  · exact hu

theorem foldl_closing (c : Chan) (l : List Nat) (s : State) : Closing c s (l.foldl (fun s p => closeSwitch c p s) s) := by
  induction l generalizing s with
  | nil => exact .refl c s
  | cons p l ih => exact (closeSwitch_closing c p s).trans (ih _)

theorem closeSwitch_sw (c : Chan) (p : Nat) (s : State) : (getC (closeSwitch c p s) c).sw = bset (getC s c).sw p true := by
  rw [getC_sw, closeSwitch_switches, getC_sw]
  cases c <;> rfl

/-- The closed switches are those that were and those listed. -/
theorem foldl_close_sw (c : Chan) {l : List Nat} (hl : ∀ p ∈ l, p < 4) (s : State) (q : Nat) :
    bget (getC (l.foldl (fun s p => closeSwitch c p s) s) c).sw q = (bget (getC s c).sw q || decide (q ∈ l)) := by
  induction l generalizing s with
  | nil => simp
  | cons p l ih =>
    rw [List.foldl_cons, ih (fun q hq => hl q (List.mem_cons_of_mem _ hq)), closeSwitch_sw, bget_bset_true _ (hl p (List.mem_cons_self ..)),
      Bool.or_assoc]
    simp only [List.mem_cons, Bool.decide_or]

/-! ### The valid edge -/

/-- The pairs that the edge switches on. -/
def edgeGo (c : Chan) (s : State) : List Nat := (List.range 4).filter fun p => mayClose (edgeReady c s) c p

theorem validEdge_eq (c : Chan) (s : State) : validEdge c s =
    noteEdge c (if decide ((getC (edgeReady c s) c).latch ≠ (getC s c).latch) || !(edgeGo c s).isEmpty then 1 else 4)
      (!(decide ((getC (edgeReady c s) c).latch ≠ (getC s c).latch) || !(edgeGo c s).isEmpty))
      ((edgeGo c s).foldl (fun s p => closeSwitch c p s) (edgeReady c s)) := rfl

theorem noteEdge_chan (c : Chan) (last : Nat) (ignored : Bool) (s : State) (d : Chan) : getC (noteEdge c last ignored s) d = getC s d :=
  getC_congr (noteEdge_out ..).1 (noteEdge_out ..).2.1 d

theorem edgeGo_lt {c : Chan} {s : State} : ∀ p ∈ edgeGo c s, p < 4 := fun _ => mem_filter_range_lt

theorem validEdge_sw (c : Chan) (s : State) (q : Nat) :
    bget (getC (validEdge c s) c).sw q = (bget (getC s c).sw q || decide (q ∈ edgeGo c s)) := by
  rw [validEdge_eq, noteEdge_chan, foldl_close_sw c edgeGo_lt, (edgeReady_goes c s).chan.same]

theorem validEdge_closing (c : Chan) (s : State) : Closing c (edgeReady c s) (validEdge c s) := by
  have h := foldl_closing c (edgeGo c s) (edgeReady c s)
  rw [validEdge_eq]
  exact ⟨fun d => by rw [noteEdge_chan, h.latch], by rw [noteEdge_chan, h.other], fun d => by rw [noteEdge_chan, h.fall]⟩

theorem ChanGoes.other {c : Chan} {s u : State} (h : ChanGoes c Cleared s u) : getC u (otherC c) = getC s (otherC c) := by
  rw [h.set, getC_setC_other]

/-- What a switch that closes needs (R322). -/
theorem mayClose_needs {s : State} {c : Chan} {p : Nat} (h : mayClose s c p = true) : (getC s c).latch = 0 ∧ sqFunc s p ≠ 0 ∧
    s.sup.vstate ≠ 2 ∧ demandNow s c p = false := by
  unfold mayClose at h
  simp only [Bool.and_eq_true, bne_iff_ne, beq_iff_eq, Bool.not_eq_true'] at h
  obtain ⟨⟨⟨⟨⟨⟨⟨⟨-, hf⟩, hd⟩, -⟩, hl⟩, -⟩, -⟩, -⟩, hv⟩ := h
  exact ⟨hl, hf, hv, hd⟩

/-- Without an immediate demand the start-up conditions hold. -/
theorem started_of_noDemand {s : State} {c : Chan} {p : Nat} (h : demandNow s c p = false) :
    s.sup.holdReady = true ∧ s.cf.safety = true ∧ s.cf.defaults = false := by
  unfold demandNow at h
  simp only [Bool.or_eq_false_iff] at h
  obtain ⟨⟨⟨⟨⟨-, hs⟩, -⟩, -⟩, -⟩, -⟩ := h
  unfold startDemand at hs
  simp only [Bool.or_eq_false_iff, Bool.not_eq_false'] at hs
  obtain ⟨⟨⟨⟨-, h1⟩, h2⟩, h3⟩, -⟩ := hs
  exact ⟨h3, h1, h2⟩

/-- A DIRECT pair's demands depend on the channel's inputs, zones, sections and latches. -/
theorem demandNow_direct {s u : State} {c : Chan} {p : Nat} (hf : sqFunc s p = 1)
    (h : ∃ hi lo d0 d1, getC u c = { getC s c with rstHigh := hi, rstLowSince := lo, dm0 := d0, dm1 := d1 })
    (hcf : u.cf = s.cf) (hsys : u.sys = s.sys) (hsup : u.sup = s.sup) (hpw : u.pw = s.pw) : demandNow u c p = demandNow s c p := by
  obtain ⟨hi, lo, d0, d1, hg⟩ := h
  have hf' : sqFunc u p = 1 := by rw [sqFunc, cfgN_congr hcf]; exact hf
  have hsin : ∀ k, sinDemand u (getC u c) p k = sinDemand s (getC s c) p k := fun k => by
    unfold sinDemand sinRole
    simp only [cfgN_congr hcf]
    rw [hg]
    rfl
  have hz : ∀ k, zoneDemand u (getC u c) p k = zoneDemand s (getC s c) p k := fun k => by
    unfold zoneDemand zoneOccupied znEpoch cfgB
    rw [hg, hcf]
  have hx : ∀ k, sectionDemand u (getC u c) p k = sectionDemand s (getC s c) p k := fun k => by
    unfold sectionDemand
    simp only [cfgN_congr hcf]
    rw [hg]
  have hl : (getC u c).latch = (getC s c).latch := by rw [hg]
  unfold demandNow
  dsimp only
  rw [hsin, hz, hx, hl, hsin, hz, hx, hf, hf']
  unfold startDemand powerDemand pinScan
  simp only [hsys, hsup, hpw, hcf]
  rfl

theorem demandSs1_direct {s : State} {c : Chan} {p : Nat} (hf : sqFunc s p = 1) : demandSs1 s c p = false := by
  unfold demandSs1
  rw [hf]
  rfl

/-! ### An edge without faults -/

theorem edgeMonitor_dms (c : Chan) (d : Nat) (s : State) : ∃ d0 d1, edgeMonitor c d s = setC c { getC s c with dm0 := d0, dm1 := d1 } s := by
  unfold edgeMonitor
  dsimp only
  split
  · unfold dmSet
    split
    · exact ⟨_, _, rfl⟩
    · exact ⟨_, _, rfl⟩
  · exact ⟨_, _, (setC_getC c s).symm⟩

/-- Without latches and discrepancies the edge changes the monitors at most before switches close. -/
theorem edgeReady_idle {c : Chan} {s : State} (hl : (getC s c).latch = 0) (hd : ∀ i, i < 8 → (prGet (getC s c) i).disc = false) :
    ∃ d0 d1, edgeReady c s = setC c { getC s c with dm0 := d0, dm1 := d1 } s := by
  have hc : ∃ d0 d1, clearLatches c s = setC c { getC s c with dm0 := d0, dm1 := d1 } s := by
    rw [clearLatches_eq]
    unfold updC latchesCleared
    dsimp only
    rw [pairsCleared_idle hd]
    split
    · rw [show ({ getC s c with dm0 := { (getC s c).dm0 with latched := false }, dm1 := { (getC s c).dm1 with latched := false } } : Saf).latch = 0 from hl,
        foldl_clear_zero, ← hl]
      exact ⟨_, _, rfl⟩
    · rw [hl, foldl_clear_zero, ← hl]
      exact ⟨_, _, rfl⟩
  obtain ⟨a0, a1, h0⟩ := hc
  obtain ⟨b0, b1, h1⟩ := edgeMonitor_dms c 0 (clearLatches c s)
  obtain ⟨c0, c1, h2⟩ := edgeMonitor_dms c 1 (edgeMonitor c 0 (clearLatches c s))
  refine ⟨c0, c1, ?_⟩
  unfold edgeReady
  rw [h2, h1, h0]
  simp only [getC_setC_same, setC_setC]

theorem edgeReady_frame (c : Chan) (s : State) : Frame channelParts s (edgeReady c s) := by
  rw [(edgeReady_goes c s).set]
  exact setC_frame ..

/-- A DIRECT pair in RESTART_WAIT without a demand switches on. -/
theorem mem_edgeGo {c : Chan} {s : State} (hl : (getC s c).latch = 0) (hd : ∀ i, i < 8 → (prGet (getC s c) i).disc = false)
    (h1 : s.pw.st ≠ 1) (h2 : s.pw.st ≠ 2) (hv : s.sup.vstate ≠ 2) {p : Nat} (hp : p < 4) (hf : sqFunc s p = 1)
    (hr : bget (s.safA.rwait ||| s.safB.rwait) p = true) (hn : demandNow s c p = false) : p ∈ edgeGo c s := by
  obtain ⟨d0, d1, he⟩ := edgeReady_idle hl hd
  have hf' := edgeReady_frame c s
  have hg : getC (edgeReady c s) c = { getC s c with dm0 := d0, dm1 := d1 } := by rw [he, getC_setC_same]
  have hfn : sqFunc (edgeReady c s) p = 1 := by rw [sqFunc, cfgN_congr (hf'.same .cf)]; exact hf
  have hdm : demandNow (edgeReady c s) c p = false :=
    (demandNow_direct hf ⟨_, _, d0, d1, hg⟩ (hf'.same .cf) (hf'.same .sys) (hf'.same .sup) (hf'.same .pw)).trans hn
  have hrw : (edgeReady c s).safA.rwait ||| (edgeReady c s).safB.rwait = s.safA.rwait ||| s.safB.rwait := by
    rw [he]
    cases c <;> rfl
  have hlt : (getC (edgeReady c s) c).latch = 0 := by rw [hg]; exact hl
  have hpw : (edgeReady c s).pw = s.pw := hf'.same .pw
  have hsup : (edgeReady c s).sup = s.sup := hf'.same .sup
  refine List.mem_filter.2 ⟨List.mem_range.2 hp, ?_⟩
  unfold mayClose
  dsimp only
  rw [hrw, hr, hfn, hdm, demandSs1_direct hfn, hlt, hpw, hsup, bne_iff_ne.2 h1, bne_iff_ne.2 h2, bne_iff_ne.2 hv]
  rfl

/-! ### The falling edge (Table 14.3) -/

/-- The input of channel `c` has fallen. -/
def edgeFallen (c : Chan) (s : State) : State := updC c (fun f => { f with rstHigh := none, rstLowSince := some s.sys.now }) s

theorem edgeFallen_chan (c : Chan) (s : State) : getC (edgeFallen c s) c = { getC s c with rstHigh := none, rstLowSince := some s.sys.now } :=
  getC_setC_same ..

section Edge

variable {c : Chan} {s : State} {h : Nat} (hh : (getC s c).rstHigh = some h)

include hh

theorem resetFall_short (hd : s.sys.now - h ≤ 99 * msNs) : resetFall c s = noteEdge c 2 true (edgeFallen c s) := by
  unfold resetFall
  rw [hh]
  exact if_pos hd

theorem resetFall_long (hd : 3001 * msNs ≤ s.sys.now - h) : resetFall c s = noteEdge c 3 false (latchFault c fltJammed (edgeFallen c s)) := by
  have hms : 0 < msNs := by decide
  unfold resetFall
  rw [hh]
  exact (if_neg (by omega)).trans ((if_neg (by omega)).trans ((if_neg (by omega)).trans (if_neg (by omega))))

theorem resetFall_valid (hd : 101 * msNs ≤ s.sys.now - h) (hd' : s.sys.now - h ≤ 2999 * msNs) :
    resetFall c s = validEdge c (edgeFallen c s) := by
  have hms : 0 < msNs := by decide
  unfold resetFall
  rw [hh]
  exact (if_neg (by omega)).trans ((if_neg (by omega)).trans (if_pos hd'))

end Edge

theorem edgeFallen_opening (c : Chan) (s : State) : Opening c s (edgeFallen c s) := .updC rfl rfl rfl rfl

section FallingEdge

variable {s : State} (t : Nat) {c : Chan} {h : Nat} (ho : s.sys.oper = true) (hh : (getC s c).rstHigh = some h)

include ho hh

/-- O40: a short pulse. -/
theorem resetFallingEdge_short (hd : (advance t s).sys.now - h ≤ 99 * msNs) : Answers (.resetFallingEdge t c) s fun u =>
    SwitchesKept s u ∧ (getC u c).rstHigh = none ∧ getC u (otherC c) = getC s (otherC c) := by
  refine ⟨_, acts (c := (advance t s).sys.oper) ho, ?_⟩
  rw [resetFall_short ((congrArg Saf.rstHigh (getC_advance t s c)).trans hh) hd]
  refine ⟨?_, by rw [noteEdge_chan, edgeFallen_chan], ?_⟩
  · unfold SwitchesKept
    rw [noteEdge_guarded]
    cases c <;> rfl
  · exact (noteEdge_chan ..).trans ((getC_setC_other ..).trans (getC_advance ..))

/-- O40: a pulse that is too long. -/
theorem resetFallingEdge_long (hd : 3001 * msNs ≤ (advance t s).sys.now - h) :
    Answers (.resetFallingEdge t c) s (FaultLatched c fltJammed s) := by
  refine ⟨_, acts (c := (advance t s).sys.oper) ho, ?_⟩
  rw [resetFall_long ((congrArg Saf.rstHigh (getC_advance t s c)).trans hh) hd]
  obtain ⟨ha, hb, -⟩ := noteEdge_out c 3 false (latchFault c fltJammed (edgeFallen c (advance t s)))
  exact (((edgeFallen_opening c _).trans (latchFault_opening ..)).noted c 3 false).timed.faultLatched
    ((latchFault_latched c (by decide) _).congr ha hb)

/-- O40: a valid edge. -/
theorem resetFallingEdge_valid (hd : 101 * msNs ≤ (advance t s).sys.now - h) (hd' : (advance t s).sys.now - h ≤ 2999 * msNs) :
    Answers (.resetFallingEdge t c) s fun u =>
    (getC u (otherC c)).sw = (getC s (otherC c)).sw ∧ (getC u (otherC c)).latch = (getC s (otherC c)).latch ∧
    (getC u c).rstHigh = none ∧ (∀ p, p < 4 → bget (getC s c).sw p = true → bget (getC u c).sw p = true) ∧
    (∀ p, p < 4 → bget (getC u c).sw p = true → bget (getC s c).sw p = false →
      (getC u c).latch = 0 ∧ sqFunc s p ≠ 0 ∧ s.sup.holdReady = true ∧ s.sup.vstate ≠ 2 ∧ s.cf.safety = true ∧ s.cf.defaults = false) ∧
    (∀ b, b < 16 → bget (getC s c).latch b = false → bget (getC u c).latch b = false) ∧
    ((getC s c).latch = 0 → (∀ i, i < 8 → (prGet (getC s c) i).disc = false) → s.pw.st ≠ 1 → s.pw.st ≠ 2 → s.sup.vstate ≠ 2 →
      ∀ p, p < 4 → sqFunc s p = 1 → bget (s.safA.rwait ||| s.safB.rwait) p = true → demandNow (advance t s) c p = false →
        demandSs1 (advance t s) c p = false → bget (getC u c).sw p = true) := by
  refine ⟨_, acts (c := (advance t s).sys.oper) ho, ?_⟩
  rw [resetFall_valid ((congrArg Saf.rstHigh (getC_advance t s c)).trans hh) hd hd']
  have hv : getC (edgeFallen c (advance t s)) c = { getC s c with rstHigh := none, rstLowSince := some (advance t s).sys.now } := by
    rw [edgeFallen_chan, getC_advance]
  have hvo : getC (edgeFallen c (advance t s)) (otherC c) = getC s (otherC c) := (getC_setC_other ..).trans (getC_advance ..)
  have hvf : Frame channelParts (advance t s) (edgeFallen c (advance t s)) := setC_frame ..
  have hvr : (edgeFallen c (advance t s)).safA.rwait ||| (edgeFallen c (advance t s)).safB.rwait = s.safA.rwait ||| s.safB.rwait := by
    cases c <;> rfl
  have hvd : ∀ p, sqFunc s p = 1 → demandNow (edgeFallen c (advance t s)) c p = demandNow (advance t s) c p := fun p hf =>
    demandNow_direct (s := advance t s) hf ⟨_, _, _, _, edgeFallen_chan ..⟩ (hvf.same .cf) (hvf.same .sys) (hvf.same .sup) (hvf.same .pw)
  have hcf : (edgeFallen c (advance t s)).cf = s.cf := hvf.same .cf
  have hsup : (edgeFallen c (advance t s)).sup = s.sup := hvf.same .sup
  have hpw : (edgeFallen c (advance t s)).pw = s.pw := hvf.same .pw
  generalize edgeFallen c (advance t s) = v at hv hvo hvr hvd hcf hsup hpw
  have hg := edgeReady_goes c v
  have hf := edgeReady_frame c v
  have hcl := validEdge_closing c v
  have hfn : ∀ p, sqFunc v p = sqFunc s p := fun p => cfgN_congr hcf ..
  refine ⟨?_, ?_, ?_, fun p _ h => ?_, fun p hp h hn => ?_, fun b _ h => ?_, fun hl hd h1 h2 h3 p hp hq hr hn _ => ?_⟩
  · rw [hcl.other, hg.other, hvo]
  · rw [hcl.latch, hg.other, hvo]
  · rw [hcl.fall, hg.chan.same, hv]
  · rw [validEdge_sw, hv, h, Bool.true_or]
  · rw [validEdge_sw, hv, hn, Bool.false_or, decide_eq_true_iff] at h
    obtain ⟨n1, n2, n3, n4⟩ := mayClose_needs (List.mem_filter.1 h).2
    obtain ⟨n5, n6, n7⟩ := started_of_noDemand n4
    have ec : (edgeReady c v).cf = s.cf := (hf.same .cf).trans hcf
    have es : (edgeReady c v).sup = s.sup := (hf.same .sup).trans hsup
    rw [es] at n3 n5
    rw [ec] at n6 n7
    refine ⟨(hcl.latch c).trans n1, ?_, n5, n3, n6, n7⟩
    rw [sqFunc, cfgN_congr ec] at n2
    exact n2
  · rw [hcl.latch]
    refine hg.chan.latch b ?_
    rw [hv]
    exact h
  · rw [validEdge_sw, decide_eq_true, Bool.or_true]
    refine mem_edgeGo (by rw [hv]; exact hl) (by rw [hv]; exact hd) (by rw [hpw]; exact h1) (by rw [hpw]; exact h2) (by rw [hsup]; exact h3) hp
      ((hfn p).trans hq) (by rw [hvr]; exact hr) ((hvd p hq).trans hn)

end FallingEdge

/-- Settles O40: it holds. -/
theorem restartEdge : Obligations.RestartEdge := fun _ t _ _ ho hh =>
  ⟨fun hd => resetFallingEdge_short t ho hh hd, fun hd => resetFallingEdge_long t ho hh hd, fun hd hd' => resetFallingEdge_valid t ho hh hd hd'⟩

end Sys2Proof.Machine
end

section
/-! PROOF. O35 fails: it says that a channel's mailbox leaves the other channel as it is, but a demand that the mailbox raises opens the pair's
switch, and where a test pulse of the other channel runs on that pair, the switch that the pulse has opened stays open (R315). -/

namespace Sys2Proof.Machine

-- One after another the proofs need less memory than all at once.
set_option Elab.async false

/-- Pair 0 is on and a test pulse of channel A runs on it; a mailbox copy is on its way to channel B, in time. No safety set is loaded, so
that every pair is demanded off. -/
def pulseRuns : State := { ({} : State) with
  sys := { oper := true }
  safA := { sw := 1 }
  safB := { sw := 1, lastBnd := some 0 }
  out := { tp := [(0, { by_ := some .a })] }
  ze := { mboxB := some ⟨0, 0, [], 0⟩ }
  cf := { eff := [(okey 0x4400 0x10, [1])] } }

theorem pulseRuns_now : (advance 0 pulseRuns).sys.now = 0 := rfl

theorem atStart {n : Nat} (h : n = 0) (k : Nat) : n ≤ 0 + k := by omega

/-- Channel B has accepted its copy. -/
def pulseMailed : State := mboxAccept .b ⟨0, 0, [], 0⟩ (mboxGone .b (advance 0 pulseRuns))

theorem mailboxReceive_pulseRuns : mailboxReceive .b true (advance 0 pulseRuns) = evalDemands .b pulseMailed := rfl

theorem sqFunc_pulseMailed : sqFunc pulseMailed 0 ≠ 0 := by decide

theorem demandNow_of_startDemand {s : State} (h : startDemand s = true) (c : Chan) (p : Nat) : demandNow s c p = true := by
  unfold demandNow
  rw [h]
  simp

theorem startDemand_pulseMailed : startDemand pulseMailed = true := rfl

/-- Opening channel B's switch leaves channel A's open, which the pulse had opened. -/
theorem openSwitch_pulseMailed : (openSwitch .b 0 pulseMailed).safA.sw = 0 := rfl

theorem evalDemands_pulseMailed : bget (getC (evalDemands .b pulseMailed) .a).sw 0 = false := by
  have him : (List.range 4).filter (fun p => demandNow pulseMailed .b p) = 0 :: [1, 2, 3] :=
    List.filter_eq_self.2 fun p _ => demandNow_of_startDemand startDemand_pulseMailed .b p
  have h0 : bget (getC (openSwitch .b 0 pulseMailed) .a).sw 0 = false := congrArg (bget · 0) openSwitch_pulseMailed
  have h1 : bget (getC ([0, 1, 2, 3].foldl (fun s p => if sqFunc s p = 0 then s else openSwitch .b p s) pulseMailed) .a).sw 0 = false := by
    rw [List.foldl_cons, if_neg sqFunc_pulseMailed]
    exact (openDemands_opening .b (l := [1, 2, 3]) (by decide) _).closes.bit (c := .a) (by decide) h0
  unfold evalDemands
  rw [him]
  exact ((rampDemands_opening .b _ _).trans (.updC rfl rfl rfl rfl)).closes.bit (c := .a) (by decide) h1

/-- Refutes O35: channel B's mailbox opens channel A's switch in pair 0. -/
theorem not_mailboxes : ¬ Obligations.Mailboxes := by
  unfold Obligations.Mailboxes
  intro h
  obtain ⟨-, -, hr, -⟩ := h.1 pulseRuns 0 .b ⟨0, 0, [], 0⟩
  obtain ⟨u, hu, -, -, ho, -⟩ := hr rfl rfl 0 rfl (fun h => Bool.noConfusion h) rfl (atStart pulseRuns_now _)
  have he : exec (.mailboxReceive 0 .b true) pulseRuns = .next (mailboxReceive .b true (advance 0 pulseRuns)) := rfl
  obtain rfl : mailboxReceive .b true (advance 0 pulseRuns) = u := Host.Outcome.next.inj (he.symm.trans hu)
  rw [mailboxReceive_pulseRuns] at ho
  exact absurd (ho ▸ evalDemands_pulseMailed : bget (getC pulseRuns .a).sw 0 = false) (by decide)

end Sys2Proof.Machine
end

section
/-! PROOF. O22: the update of the base note. -/

namespace Sys2Proof.Machine

-- One after another the proofs need less memory than all at once.
set_option Elab.async false

/-- How far an update moves the base note, by the counted rate `c` against the target `tg` (R151). -/
def baseMoved (tg c : Nat) (b : Int) : Int :=
  if 8 * tg < c then b + 16 else if 2 * tg < c then b + 4 else if 2 * c < tg then b - 4 else b

theorem baseMoved_far {tg c : Nat} (h : 8 * tg < c) (b : Int) : baseMoved tg c b = b + 16 := if_pos h
theorem baseMoved_up {tg c : Nat} (h : 2 * tg < c) (h8 : c ≤ 8 * tg) (b : Int) : baseMoved tg c b = b + 4 := by
  rw [baseMoved, if_neg (by omega), if_pos h]
theorem baseMoved_down {tg c : Nat} (h : 2 * c < tg) (b : Int) : baseMoved tg c b = b - 4 := by
  rw [baseMoved, if_neg (by omega), if_neg (by omega), if_pos h]
theorem baseMoved_stay {tg c : Nat} (h : c ≤ 2 * tg) (h2 : tg ≤ 2 * c) (b : Int) : baseMoved tg c b = b := by
  rw [baseMoved, if_neg (by omega), if_neg (by omega), if_neg (by omega)]

/-- The base note of channel `ch` after an update. -/
def baseAfter (ch : Nat) (s : State) : Nat :=
  (clampI (baseMin s ch) (baseTop s ch)
    (baseMoved (baseTarget s (ch / 48)) ((rxGet s ch).gap * 10000000) (rxGet s ch).baseNext)).toNat

/-- The rate is above twice the target with the base note at the top of its range (R152). -/
def baseLoud (ch : Nat) (s : State) : Bool :=
  baseAfter ch s == baseTop s ch && decide (2 * baseTarget s (ch / 48) < (rxGet s ch).gap * 10000000)

theorem baseUpdate_waits {ch : Nat} {s : State}
    (h : (rxGet s ch).steps < ambSteps s (ch / 48) ∨ dpClocked s = false ∧ s.sys.now ≠ s.pw.lastB) : baseUpdate ch s = s := by
  refine if_pos ?_
  obtain hs | ⟨hc, hn⟩ := h
  · simp [hs]
  · simp [hc, hn]

/-- What an update that is due leaves in its channel. -/
theorem rxGet_baseUpdate {ch : Nat} {s : State} (hd : dpOn s = true) (hc : dpClocked s = true ∨ s.sys.now = s.pw.lastB)
    (hs : ambSteps s (ch / 48) ≤ (rxGet s ch).steps) :
    ∃ y : RxCh, baseUpdate ch s = rxPut ch y s ∧ y.gap = 0 ∧ y.steps = 0 ∧ y.base = (rxGet s ch).base ∧ y.baseNext = baseAfter ch s ∧
      y.noisyRun = (if baseLoud ch s then min 64 ((rxGet s ch).noisyRun + 1) else 0) ∧
      y.calmRun = (if baseLoud ch s then 0 else min 64 ((rxGet s ch).calmRun + 1)) ∧
      y.noisy = (if y.noisyRun = 64 then true else if y.calmRun = 64 then false else (rxGet s ch).noisy) ∧
      ((rxGet s ch).gap ≠ 0 ∨ rqCfg s (ch / 48) 0x24 = 0 → y.silent = false) := by
  refine ⟨_, if_neg ?_, rfl, rfl, rfl, rfl, rfl, rfl, rfl, ?_⟩
  · obtain hc | hc := hc <;> simp [hd, hc, Nat.not_lt.2 hs]
  · rintro (hg | hl)
    · simp [hg]
    · simp [hl]

/-- Settles O22: it holds. -/
theorem baseNotes : Obligations.BaseNotes := by
  unfold Obligations.BaseNotes
  intro s ch hd
  refine ⟨fun hc hs => ?_, fun h => ⟨s, congrArg Host.Outcome.next (baseUpdate_waits h), rfl⟩⟩
  obtain ⟨y, hu, hg, hst, hb, hn, hr, hcalm, hy, hsil⟩ := rxGet_baseUpdate hd hc hs
  refine ⟨_, congrArg Host.Outcome.next hu, ⟨rfl, fun k hk => rxGet_rxPut_other hk _ _⟩, ?_⟩
  have htg : max 1 (rqCfg s (ch / 48) 0x20) * ambSteps s (ch / 48) * 6611000 = baseTarget s (ch / 48) := rfl
  simp only [rxGet_rxPut_same, htg]
  refine ⟨hg, hst, hb, fun h => ?_, fun h h8 => ?_, fun h => ?_, fun h h2 => ?_, fun h ht hm => ?_, fun h hm => ?_, hsil⟩
  · rw [hn, baseAfter, baseMoved_far h]
  · rw [hn, baseAfter, baseMoved_up h h8]
  · rw [hn, baseAfter, baseMoved_down h]
  · rw [hn, baseAfter, baseMoved_stay h h2]
  · have hl : baseLoud ch s = true := by
      rw [baseLoud, ← hn, ht]
      simpa using h
    rw [hy, hr, hl, if_pos rfl, if_pos (by omega)]
  · have hl : baseLoud ch s = false := by
      rw [baseLoud]
      simpa using fun _ => h
    have hcalm : y.calmRun = 64 := by
      rw [hcalm, hl, if_neg (by simp)]
      omega
    rw [hy, hr, hl, if_neg (by simp), if_pos hcalm]

end Sys2Proof.Machine
end

section
/-! PROOF. O42 and O43: safety sessions, passphrases, the lockout, the clearing of the log and the full-chip erase. -/

namespace Sys2Proof.Machine

-- One after another the proofs need less memory than all at once.
set_option Elab.async false

/-! ### The lockout -/

theorem lockExpire_frame (s : State) : Frame [.sess] s (lockExpire s) := by
  unfold lockExpire
  split
  · exact .of
  · exact .refl ..

/-- Of the session state an ended lockout changes only its own fields. -/
theorem lockExpire_sess (s : State) : (lockExpire s).sess =
    { s.sess with fails := (lockExpire s).sess.fails, lockLeft := (lockExpire s).sess.lockLeft, lockMram := (lockExpire s).sess.lockMram } := by
  unfold lockExpire
  split
  · rfl
  · rfl

theorem lockOn_lockExpire {s : State} (h : lockOn s = false) : lockOn (lockExpire s) = false := by
  unfold lockExpire
  split
  · exact decide_eq_false (by rw [lockLeft, Nat.zero_sub]; exact Nat.lt_irrefl 0)
  · exact h

theorem passMatches_congr {s u : State} (h : u.sess.slots = s.sess.slots) (n : Nat) (d : List Byte) :
    passMatches u n d = passMatches s n d := by
  unfold passMatches
  rw [h]

theorem passMatches_lockExpire (s : State) (n : Nat) (d : List Byte) : passMatches (lockExpire s) n d = passMatches s n d :=
  passMatches_congr (by rw [lockExpire_sess]) n d

theorem wrongPass_frame (s : State) : Frame [.sess] s (wrongPass s) := by
  unfold wrongPass
  dsimp only
  split
  · exact .of
  · exact .of

theorem wrongPass_sess (s : State) : (wrongPass s).sess.user = s.sess.user ∧ (wrongPass s).sess.fails = s.sess.fails + 1 := by
  unfold wrongPass
  dsimp only
  split <;> exact ⟨rfl, rfl⟩

/-- The fifth wrong attempt in a row starts the lockout. -/
theorem wrongPass_locks {s : State} (h : 4 ≤ s.sess.fails) :
    (wrongPass s).sess = { s.sess with fails := s.sess.fails + 1, lockLeft := lockNs, lockAt := s.sys.now, lockMram := lockNs } := by
  unfold wrongPass
  dsimp only
  rw [if_pos (by omega)]

theorem lockOn_started {s : State} (hl : s.sess.lockLeft = lockNs) (ha : s.sess.lockAt = s.sys.now) : lockOn s = true := by
  unfold lockOn lockLeft
  rw [hl, ha, Nat.sub_self, Nat.sub_zero]
  rfl

theorem lockOn_frame {l : List Part} {s u : State} (h : Frame l s u) (hs : .sess ∉ l := by decide) (hy : .sys ∉ l := by decide) :
    lockOn u = lockOn s := by
  unfold lockOn lockLeft
  rw [show u.sess = s.sess from h.same .sess hs, show u.sys.now = s.sys.now from congrArg Sys.now (h.same .sys hy)]

/-! ### The end of a session -/

/-- With no commit pending the end of a session discards every staged safety value and the staged map. -/
theorem endSession_cf {s : State} (hu : s.sess.user ≠ 0) (hp : s.cf.pend = none) :
    (endSession s).cf = { s.cf with staged := s.cf.staged.filter (fun e => !isSafetyKey e.1), mapStage := none } := by
  unfold endSession
  rw [if_neg hu]
  simp only [hp]

theorem endSession_eff (s : State) : (endSession s).cf.eff = s.cf.eff := congrArg Guarded.eff (endSession_guarded s)

/-- What ends with a session (R330). -/
theorem endSession_ends {s : State} (hu : s.sess.user ≠ 0) : (endSession s).sess.user = 0 ∧
    (s.cf.pend = none → (∀ e ∈ (endSession s).cf.staged, isSafetyKey e.1 = false) ∧
      (∀ e ∈ s.cf.staged, isSafetyKey e.1 = false → e ∈ (endSession s).cf.staged) ∧ (endSession s).cf.mapStage = none) ∧
    (endSession s).cf.eff = s.cf.eff := by
  refine ⟨endSession_user s, fun hp => ?_, endSession_eff s⟩
  rw [endSession_cf hu hp]
  exact ⟨fun e he => by simpa using (List.mem_filter.1 he).2, fun e he hk => List.mem_filter.2 ⟨he, by simp [hk]⟩, rfl⟩

/-! ### A passphrase that is checked -/

/-- A good passphrase is accepted, and changes nothing but the count of wrong attempts and a lockout that has ended. -/
theorem passCheck_good {s : State} {n : Nat} {pass : List Byte} (hl : lockOn s = false) (hp : passMatches s n pass = true) :
    passCheck n pass s = (0, { lockExpire s with sess := { (lockExpire s).sess with fails := 0 } }) := by
  unfold passCheck
  simp [lockOn_lockExpire hl, passMatches_lockExpire, hp]

/-- What a good passphrase leaves. -/
def passTaken (s : State) : State := { lockExpire s with sess := { (lockExpire s).sess with fails := 0 } }

theorem passTaken_frame (s : State) : Frame [.sess] s (passTaken s) :=
  (lockExpire_frame s).trans (Frame.of (l := [.sess]))

theorem passTaken_sess (s : State) : (passTaken s).sess =
    { s.sess with fails := 0, lockLeft := (passTaken s).sess.lockLeft, lockMram := (passTaken s).sess.lockMram } := by
  unfold passTaken
  rw [lockExpire_sess]

/-- An answered write leaves guarded what its operation left. -/
theorem writeCmd_guarded {s : State} (hm : s.sys.mgmtUp = true) (hv : s.sup.vstate ≠ 2) (p : Path) (i sub n : Nat)
    {f : State → Nat × State} {r : Nat × State} (hr : f s = r) : guarded (writeCmd p i sub n f s) = guarded r.2 := by
  rw [writeCmd_up hm hv, hr, answerWrite_guarded]

/-! ### The sessions' commands -/

section Commands

variable {s : State} (t : Nat) (p : Path) (d : List Byte) (hm : s.sys.mgmtUp = true) (hv : s.sup.vstate ≠ 2)

/-- SESSION_OPEN up to the passphrase. -/
theorem sessionOpen_judged {s : State} {p : Path} {d : List Byte} (h1 : 2 ≤ d.length) (h2 : passLenOk d 1 = true)
    (h3 : passRange d 1 = true) (h4 : passChars (passAt d 1) = true) (h5 : 1 ≤ leAt d 0 1) (h6 : leAt d 0 1 ≤ 4)
    (hh : s.sup.holdReady = true) (hl : lockOn s = false) (hu : s.sess.user = 0) : sessionOpen p d s =
      if passMatches s (leAt d 0 1) (passAt d 1) = true then
        (0, { lockExpire s with sess := { (lockExpire s).sess with user := leAt d 0 1, path := p, lastAct := (lockExpire s).sys.now, fails := 0 } })
      else (0x0610, wrongPass (lockExpire s)) := by
  have hh' : (lockExpire s).sup.holdReady = true := (congrArg Sup.holdReady ((lockExpire_frame s).same .sup)).trans hh
  have hu' : (lockExpire s).sess.user = 0 := by rw [lockExpire_sess]; exact hu
  unfold sessionOpen
  dsimp only
  rw [if_neg (by simp [h2, h3]; omega), if_neg (by simp [h4]), if_neg (by omega), if_neg (by simp [hh']),
    if_neg (by simp [lockOn_lockExpire hl]), if_neg (by simp [hu']), passMatches_lockExpire]
  cases passMatches s (leAt d 0 1) (passAt d 1) <;> rfl

include hm hv

/-- O42: the passphrase of its slot opens the session. -/
theorem sessionOpen_opens (h1 : 2 ≤ d.length) (h2 : passLenOk d 1 = true) (h3 : passRange d 1 = true)
    (h4 : passChars (passAt d 1) = true) (h5 : 1 ≤ leAt d 0 1) (h6 : leAt d 0 1 ≤ 4) (hh : s.sup.holdReady = true)
    (hl : lockOn (advance t s) = false) (hu : s.sess.user = 0) (hp : passMatches s (leAt d 0 1) (passAt d 1) = true) :
    Answers (.sessionOpen t p d) s fun u => u.sess.user = leAt d 0 1 ∧ u.sess.path = p ∧ u.sess.fails = 0 ∧
      u.sess.lastAct = (advance t s).sys.now ∧ RespondedTo p 0x4000 0x30 d.length 0 s u ∧ Kept u s := by
  have he := (sessionOpen_judged (p := p) h1 h2 h3 h4 h5 h6 (s := advance t s) hh hl hu).trans (if_pos hp)
  have hf := lockExpire_frame (advance t s)
  obtain ⟨ha, hr⟩ := writeCmd_answers (s := advance t s) hm hv p 0x4000 0x30 d.length he
    (hf.trans (Frame.of (l := [.sess])) : Frame [.sess] _ _).answerable
  refine ⟨_, rfl, ?_, ?_, ?_, ?_, hr, ?_⟩
  · exact congrArg Sess.user (ha.same .sess)
  · exact congrArg Sess.path (ha.same .sess)
  · exact congrArg Sess.fails (ha.same .sess)
  · exact (congrArg Sess.lastAct (ha.same .sess)).trans (congrArg Sys.now (hf.same .sys))
  · exact (writeCmd_guarded (s := advance t s) hm hv p 0x4000 0x30 d.length he).trans (lockExpire_guarded _)

/-- O42: a wrong passphrase is counted, and the fifth in a row starts the lockout. -/
theorem sessionOpen_wrong (h1 : 2 ≤ d.length) (h2 : passLenOk d 1 = true) (h3 : passRange d 1 = true)
    (h4 : passChars (passAt d 1) = true) (h5 : 1 ≤ leAt d 0 1) (h6 : leAt d 0 1 ≤ 4) (hh : s.sup.holdReady = true)
    (hl : lockOn (advance t s) = false) (hu : s.sess.user = 0) (hp : passMatches s (leAt d 0 1) (passAt d 1) = false) :
    Answers (.sessionOpen t p d) s fun u => u.sess.user = 0 ∧ u.sess.fails = (lockExpire (advance t s)).sess.fails + 1 ∧
      RespondedTo p 0x4000 0x30 d.length 0x0610 s u ∧
      (4 ≤ (lockExpire (advance t s)).sess.fails → u.sess.lockLeft = 600 * secNs ∧ lockOn u = true) := by
  have he := (sessionOpen_judged (p := p) h1 h2 h3 h4 h5 h6 (s := advance t s) hh hl hu).trans
    (if_neg fun h => Bool.noConfusion (h.symm.trans hp))
  have hf := (lockExpire_frame (advance t s)).trans (wrongPass_frame _) (r := [.sess])
  obtain ⟨ha, hr⟩ := writeCmd_answers (s := advance t s) hm hv p 0x4000 0x30 d.length he hf.answerable
  obtain ⟨hw, hn⟩ := wrongPass_sess (lockExpire (advance t s))
  have hs := ha.same .sess
  refine ⟨_, rfl, ?_, (congrArg Sess.fails hs).trans hn, hr, fun h => ?_⟩
  · refine (congrArg Sess.user hs).trans (hw.trans ?_)
    rw [lockExpire_sess]
    exact hu
  · have hk := wrongPass_locks h
    refine ⟨(congrArg Sess.lockLeft hs).trans (congrArg Sess.lockLeft hk), ?_⟩
    rw [lockOn_frame ha]
    refine lockOn_started (congrArg Sess.lockLeft hk) ((congrArg Sess.lockAt hk).trans ?_)
    exact congrArg Sys.now ((wrongPass_frame _).same .sys).symm

/-- O42: SESSION_CLOSE on the session's own path ends it. -/
theorem sessionClose_ends (hs : sessionOn s p = true) : Answers (.sessionClose t p) s fun u =>
    (u.sess = (endSession (advance t s)).sess ∧ u.cf = (endSession (advance t s)).cf) ∧ RespondedTo p 0x4000 0x31 1 0 s u := by
  have he : sessionClose p (advance t s) = (0, endSession (advance t s)) := if_pos hs
  obtain ⟨ha, hr⟩ := writeCmd_answers (s := advance t s) hm hv p 0x4000 0x31 1 he (endSession_frame _).answerable
  exact ⟨_, rfl, ⟨ha.same .sess, ha.same .cf⟩, hr⟩

/-- O42: on any other path it is refused. -/
theorem sessionClose_refused (hs : sessionOn s p = false) : Answers (.sessionClose t p) s fun u =>
    u.sess = s.sess ∧ u.cf = s.cf ∧ RespondedTo p 0x4000 0x31 1 0x0611 s u := by
  have he : sessionClose p (advance t s) = (0x0611, advance t s) := if_neg fun h => Bool.noConfusion (hs.symm.trans h)
  obtain ⟨ha, hr⟩ := writeCmd_answers (s := advance t s) hm hv p 0x4000 0x31 1 he (Frame.refl [] _).answerable
  exact ⟨_, rfl, ha.same .sess, ha.same .cf, hr⟩

end Commands

theorem user_of_sessionOn {s : State} {p : Path} (h : sessionOn s p = true) : s.sess.user ≠ 0 :=
  of_decide_eq_true (Bool.and_eq_true_iff.1 h).1

/-! ### Passphrases -/

/-- PASS_SET up to its log entry. -/
theorem passSet_judged {s : State} {p : Path} {d : List Byte} (hr : s.sess.log.length < 512)
    (h0 : if s.sess.slots = [] then leAt d 0 1 = 1 else sessionOn s p = true) (h1 : 2 ≤ d.length) (h2 : d.length ≤ 34)
    (h3 : passLenOk d 1 = true) (hh : s.sup.holdReady = true) (h4 : 1 ≤ leAt d 0 1) (h5 : leAt d 0 1 ≤ 4)
    (h6 : passChars (passAt d 1) = true) (h7 : leAt d 1 1 = 0 ∨ passRange d 1 = true)
    (h8 : leAt d 1 1 = 0 → s.sess.slots.map (·.1) ≠ [leAt d 0 1]) : ∃ u, Frame [.sess, .ed] s u ∧
      (∃ e, u.sess = { s.sess with log := s.sess.log ++ [e] } ∧ e.kind = 2) ∧
      passSet p d s = if leAt d 1 1 = 0 then (0, { u with sess := { u.sess with slots := mdel u.sess.slots (leAt d 0 1) } })
        else (0, { (drawSalt u).2 with sess := { (drawSalt u).2.sess with
          slots := mput (drawSalt u).2.sess.slots (leAt d 0 1) ((drawSalt u).1, passHash (drawSalt u).1 (passAt d 1)) } }) := by
  obtain ⟨e, he, hk, -⟩ := logAdd_sess hr 2 (if s.sess.user = 0 then 1 else s.sess.user) [objField (0x4000, 0x34)] 0 s.cf.count (cfgCrc s) (cfgCrc s)
  refine ⟨_, logAdd_frame .., ⟨e, he, hk⟩, ?_⟩
  have hs : (!(if s.sess.slots.isEmpty then leAt d 0 1 == 1 else sessionOn s p)) = false := by
    cases hsl : s.sess.slots with
    | nil => simpa [hsl] using h0
    | cons => simpa [hsl] using h0
  unfold passSet
  dsimp only
  rw [if_neg (by rw [logFull, decide_eq_true_iff, logMax]; omega), if_neg (by rw [hs]; exact Bool.false_ne_true), if_neg (by omega), if_neg, if_neg (by simp [hh]), if_neg]
  · rintro (h | h | h | ⟨h, h'⟩)
    · omega
    · omega
    · exact Bool.noConfusion (h.symm.trans h6)
    · exact h8 h h'
  · rintro (h | h | ⟨h, h'⟩)
    · omega
    · exact Bool.noConfusion (h.symm.trans h3)
    · exact h7.elim h fun h7 => Bool.noConfusion (h'.symm.trans h7)

theorem leBytes_length (n v : Nat) : (leBytes n v).length = n := by
  induction n generalizing v with
  | zero => rfl
  | succ n ih => exact congrArg (· + 1) (ih _)

theorem drawSalt_length (s : State) : (drawSalt s).1.length = 16 := by
  unfold drawSalt
  rw [List.length_append, leBytes_length, leBytes_length]

theorem drawSalt_frame (s : State) : Frame [.sys] s (drawSalt s).2 := by
  unfold drawSalt
  exact (drawn_frame s).trans (drawn_frame _)

section PassSet

variable {s : State} (t : Nat) (p : Path) (d : List Byte) (hm : s.sys.mgmtUp = true) (hv : s.sup.vstate ≠ 2)
  (hr : s.sess.log.length < 512) (h0 : if s.sess.slots = [] then leAt d 0 1 = 1 else sessionOn s p = true) (h1 : 2 ≤ d.length)
  (h2 : d.length ≤ 34) (h3 : passLenOk d 1 = true) (hh : s.sup.holdReady = true) (h4 : 1 ≤ leAt d 0 1) (h5 : leAt d 0 1 ≤ 4)
  (h6 : passChars (passAt d 1) = true)

include hm hv hr h0 h1 h2 h3 hh h4 h5 h6

/-- O42: PASS_SET stores the hash of a passphrase with a new salt. -/
theorem passSet_stores (hn : leAt d 1 1 ≠ 0) (h7 : passRange d 1 = true) : Answers (.passSet t p d) s fun u =>
    RespondedTo p 0x4000 0x34 d.length 0 s u ∧
    (∃ salt, mlook u.sess.slots (leAt d 0 1) = some (salt, passHash salt (passAt d 1)) ∧ salt.length = 16) ∧
    (∃ e, u.sess.log = s.sess.log ++ [e] ∧ e.kind = 2) ∧ u.cf = s.cf := by
  obtain ⟨u, hf, ⟨e, he, hk⟩, hj⟩ := passSet_judged (s := advance t s) (p := p) hr h0 h1 h2 h3 hh h4 h5 h6 (.inr h7) fun h => absurd h hn
  rw [if_neg hn] at hj
  have hd := drawSalt_frame u
  have hl := drawSalt_length u
  generalize drawSalt u = r at hd hl hj
  have hfr : Frame [.sess, .ed, .sys] (advance t s) r.2 := hf.trans hd
  have hs : r.2.sess = { s.sess with log := s.sess.log ++ [e] } := (hd.same .sess).trans he
  have hmu : r.2.sys.mgmtUp = s.sys.mgmtUp := (hd.same .mgmtUp).trans (hf.same .mgmtUp)
  obtain ⟨hw, hresp⟩ := writeCmd_answers (s := advance t s) hm hv p 0x4000 0x34 d.length hj
    ⟨hmu, hfr.same .vstate, congrArg Dc.rsps (hfr.same .dc)⟩
  have hse := hw.same .sess
  refine ⟨_, rfl, hresp, ⟨r.1, ?_, hl⟩, ⟨e, (congrArg Sess.log hse).trans (congrArg Sess.log hs), hk⟩, (hw.same .cf).trans (hfr.same .cf)⟩
  exact (congrArg (fun x : Sess => mlook x.slots (leAt d 0 1)) hse).trans (mlook_mput_same _ _ _)

/-- O42: PASS_SET of an empty passphrase empties the slot. -/
theorem passSet_empties (hn : leAt d 1 1 = 0) (h8 : s.sess.slots.map (·.1) ≠ [leAt d 0 1]) : Answers (.passSet t p d) s fun u =>
    RespondedTo p 0x4000 0x34 d.length 0 s u ∧ mlook u.sess.slots (leAt d 0 1) = none ∧
    ∃ e, u.sess.log = s.sess.log ++ [e] ∧ e.kind = 2 := by
  obtain ⟨u, hf, ⟨e, he, hk⟩, hj⟩ := passSet_judged (s := advance t s) (p := p) hr h0 h1 h2 h3 hh h4 h5 h6 (.inl hn) fun _ => h8
  rw [if_pos hn] at hj
  obtain ⟨hw, hresp⟩ := writeCmd_answers (s := advance t s) hm hv p 0x4000 0x34 d.length hj
    (hf.trans (Frame.of (l := [.sess])) (r := [.sess, .ed])).answerable
  have hse := hw.same .sess
  refine ⟨_, rfl, hresp, ?_, e, (congrArg Sess.log hse).trans (congrArg Sess.log he), hk⟩
  exact (congrArg (fun x : Sess => mlook x.slots (leAt d 0 1)) hse).trans (mlook_mdel_same _ _)

end PassSet

/-! ### The lockout's commands -/

theorem lockoutExpiry_ends {s : State} (t : Nat) (hp : s.sys.powered = true) (hn : s.sess.lockLeft ≠ 0)
    (hl : lockOn (advance t s) = false) : Answers (.lockoutExpiry t) s fun u =>
      u = { advance t s with sess := { s.sess with fails := 0, lockLeft := 0, lockMram := 0 } } :=
  ⟨_, congrArg Host.Outcome.next ((if_pos hp).trans (if_pos ⟨hn, hl⟩)), rfl⟩

theorem lockoutSave_saves {s : State} (t : Nat) (hm : s.sys.mgmtUp = true) (hl : lockOn (advance t s) = true) :
    Answers (.lockoutSave t) s fun u => u = { advance t s with sess := { s.sess with lockMram := lockLeft (advance t s) } } :=
  ⟨_, congrArg Host.Outcome.next (if_pos (Bool.and_eq_true_iff.2 ⟨hm, hl⟩)), rfl⟩

theorem sessionIdle_ends {s : State} (t : Nat) (hu : s.sess.user ≠ 0)
    (hi : s.sess.lastAct + cfgN s 0x4000 0x33 * secNs ≤ (advance t s).sys.now) :
    Answers (.sessionIdleExpiry t) s fun u => u = endSession (advance t s) :=
  ⟨_, congrArg Host.Outcome.next (if_pos ⟨hu, hi⟩), rfl⟩

/-- Settles O42: it holds. -/
theorem sessionsAndPassphrases : Obligations.SessionsAndPassphrases := by
  unfold Obligations.SessionsAndPassphrases
  refine ⟨fun s t p d hm hv => ⟨?_, fun hs => ?_, fun hs => sessionClose_refused t p hm hv hs, fun hu hi => ?_⟩, fun s t p d => ⟨?_, ?_, ?_⟩⟩
  · rintro ⟨h1, -, h2, h3, h4, h5, h6⟩ hh hl hu
    exact ⟨sessionOpen_opens t p d hm hv h1 h2 h3 h4 h5 h6 hh hl hu, sessionOpen_wrong t p d hm hv h1 h2 h3 h4 h5 h6 hh hl hu⟩
  · obtain ⟨u, he, ⟨hse, hcf⟩, hr⟩ := sessionClose_ends t p hm hv hs
    refine ⟨u, he, ?_, hr⟩
    dsimp only
    rw [hse, hcf]
    exact endSession_ends (s := advance t s) (user_of_sessionOn hs)
  · obtain ⟨u, he, rfl⟩ := sessionIdle_ends t hu hi
    exact ⟨_, he, endSession_ends (s := advance t s) hu⟩
  · intro hm hv hr h0 h1 h2 h3 hh h4 h5 h6
    exact ⟨passSet_stores t p d hm hv hr h0 h1 h2 h3 hh h4 h5 h6, passSet_empties t p d hm hv hr h0 h1 h2 h3 hh h4 h5 h6⟩
  · exact lockoutExpiry_ends t
  · exact lockoutSave_saves t

/-! ### Clearing the log -/

theorem logCrc_congr {s u : State} (h : u.sess.log = s.sess.log) : logCrc u = logCrc s := by
  unfold logCrc
  rw [h]

/-- The state in which a command with a passphrase is carried out: the session is kept, the wrong attempts forgotten. -/
def passedIn (p : Path) (s : State) : State := passTaken (touchSession p s)

theorem passedIn_frame (p : Path) (s : State) : Frame [.sess] s (passedIn p s) := (touchSession_frame p s).trans (passTaken_frame _)

theorem passedIn_sess (p : Path) (s : State) : (passedIn p s).sess.log = s.sess.log ∧ (passedIn p s).sess.user = s.sess.user ∧
    (passedIn p s).sess.clears = s.sess.clears := by
  unfold passedIn
  rw [passTaken_sess, touchSession_sess]
  exact ⟨rfl, rfl, rfl⟩

/-- A good passphrase on the session's path is accepted. -/
theorem passCheck_session {s : State} {o : Nat} {d : List Byte} (p : Path) (h : PassGood s s.sess.user o d) :
    passCheck (touchSession p s).sess.user (passAt d o) (touchSession p s) = (0, passedIn p s) := by
  obtain ⟨-, -, -, -, hl, hp⟩ := h
  refine passCheck_good ?_ ?_
  · unfold lockOn lockLeft at hl ⊢
    rw [touchSession_sess, show (touchSession p s).sys = s.sys from (touchSession_frame p s).same .sys]
    exact hl
  · rw [passMatches_congr (s := s) (by rw [touchSession_sess]), touchSession_sess]
    exact hp

theorem logClear_judged {s : State} {p : Path} {d : List Byte} (hs : sessionOn s p = true) (hg : PassGood s s.sess.user 8 d)
    (hp : s.cf.pend = none) (hh : s.sup.holdReady = true) (hn : leAt d 0 4 = s.sess.log.length) (hc : leAt d 4 4 = logCrc s) :
    ∃ c o n x, logClear p d s = (0, logAdd 5 s.sess.user [] 0 c o n
      { passedIn p s with sess := { (passedIn p s).sess with log := [], clears := x } }) ∧ x = satAdd 32 s.sess.clears 1 := by
  obtain ⟨hlog, hu, hcl⟩ := passedIn_sess p s
  have hf := passedIn_frame p s
  have hpend : (passedIn p s).cf.pend = none := (congrArg Cf.pend (hf.same .cf)).trans hp
  have hhold : (passedIn p s).sup.holdReady = true := (congrArg Sup.holdReady (hf.same .sup)).trans hh
  have he := passCheck_session p hg
  obtain ⟨h1, h2, h3, h4, -, -⟩ := hg
  unfold logClear
  rw [if_neg (by simp [hs])]
  dsimp only
  rw [if_neg (by omega), if_neg (by simp [h3, h4]; omega), he]
  dsimp only
  rw [if_neg (by simp), if_neg (by simp [hpend, hhold]), if_neg (by simp [hlog, logCrc_congr hlog, hn, hc]), hu, hcl]
  exact ⟨_, _, _, _, rfl, rfl⟩

/-- O43: LOG_CLEAR empties the log but for its own entry. -/
theorem logClear_clears {s : State} (t : Nat) (p : Path) (d : List Byte) (hm : s.sys.mgmtUp = true) (hv : s.sup.vstate ≠ 2)
    (hs : sessionOn s p = true) (hh : s.sup.holdReady = true) (hg : PassGood (advance t s) s.sess.user 8 d) (hp : s.cf.pend = none)
    (hn : leAt d 0 4 = s.sess.log.length) (hc : leAt d 4 4 = logCrc s) :
    Answers (.logClear t p d) s fun u => RespondedTo p 0x4800 6 d.length 0 s u ∧ u.sess.clears = satAdd 32 s.sess.clears 1 ∧
      (∃ e, u.sess.log = [e] ∧ e.kind = 5 ∧ e.user = s.sess.user) ∧ u.cf = s.cf ∧ u.gov = s.gov := by
  obtain ⟨c, o, n, x, he, rfl⟩ := logClear_judged (s := advance t s) hs hg hp hh hn hc
  have hf : Frame [.sess] (advance t s)
      { passedIn p (advance t s) with sess := { (passedIn p (advance t s)).sess with log := [], clears := satAdd 32 s.sess.clears 1 } } :=
    (passedIn_frame p _).trans (Frame.of (l := [.sess]))
  have ha := logAdd_frame 5 s.sess.user [] 0 c o n
    { passedIn p (advance t s) with sess := { (passedIn p (advance t s)).sess with log := [], clears := satAdd 32 s.sess.clears 1 } }
  obtain ⟨e, hes, hk, hu⟩ := logAdd_sess
    (s := { passedIn p (advance t s) with sess := { (passedIn p (advance t s)).sess with log := [], clears := satAdd 32 s.sess.clears 1 } })
    (by simp) 5 s.sess.user [] 0 c o n
  have hfa := hf.trans ha (r := [.sess, .ed])
  obtain ⟨hw, hr⟩ := writeCmd_answers (s := advance t s) hm hv p 0x4800 6 d.length he hfa.answerable
  have hsess := (hw.same .sess).trans hes
  exact ⟨_, rfl, hr, congrArg Sess.clears hsess, ⟨e, congrArg Sess.log hsess, hk, hu⟩, (hw.same .cf).trans (hfa.same .cf),
    (hw.same .gov).trans (hfa.same .gov)⟩

/-! ### The full-chip erase -/

/-- Of the governor a stop of the data plane clears only what its comparators show. -/
theorem dpStop_gov (s : State) : (dpStop s).gov = { s.gov with fcs := (dpStop s).gov.fcs, level := (dpStop s).gov.level } := by
  have hg : (biasStop (stepVoid (psStop (snapAbandon true (neStopAll s))))).gov = s.gov := by
    refine Frame.same (l := [.ne, .fp, .hg, .ps, .ex, .rq]) ?_ .gov
    refine Frame.trans (l := [.ne, .fp, .hg, .ps, .ex]) ?_ (biasStop_frame _)
    refine Frame.trans (l := [.ne, .fp, .hg, .ps]) ?_ (stepVoid_frame _)
    refine Frame.trans (l := [.ne, .fp, .hg]) ?_ (psStop_frame _)
    exact (neStopAll_frame s).trans (snapAbandon_frame ..)
  unfold dpStop
  split
  · rfl
  · dsimp only
    rw [show ∀ v : State, (hfxFollow v).gov = v.gov from fun v => (hfxFollow_frame v).same .gov]
    dsimp only
    rw [hg]

theorem govKept_of {g h : Gov} {f : SMap Nat} {l : BitVec 16} (e : g = { h with fcs := f, level := l }) :
    g.limb = h.limb ∧ g.lim5 = h.lim5 ∧ g.lim100 = h.lim100 ∧ g.locked = h.locked ∧ g.copyA = h.copyA ∧ g.copyB = h.copyB := by
  rw [e]
  exact ⟨rfl, rfl, rfl, rfl, rfl, rfl⟩

theorem endSession_safety (s : State) : (endSession s).cf.safety = s.cf.safety := by
  unfold endSession
  dsimp only
  (repeat' split) <;> rfl

/-- What a reset of the device keeps of the governor and of the configuration: limits, lock and copies, and whether a safety set is loaded. -/
theorem deviceReset_keeps (cause : Nat) (s : State) : (deviceReset cause s).cf.safety = s.cf.safety ∧
    (deviceReset cause s).gov.limb = s.gov.limb ∧ (deviceReset cause s).gov.lim5 = s.gov.lim5 ∧
    (deviceReset cause s).gov.lim100 = s.gov.lim100 ∧ (deviceReset cause s).gov.locked = s.gov.locked ∧
    (deviceReset cause s).gov.copyA = s.gov.copyA ∧ (deviceReset cause s).gov.copyB = s.gov.copyB := by
  have hb := openBoth_frame { s with cf := { s.cf with pend := none } }
  have hs : (endSession (dpStop (openBoth { s with cf := { s.cf with pend := none } }))).cf.safety = s.cf.safety :=
    (endSession_safety _).trans ((congrArg Cf.safety ((dpStop_frame _).same .cf)).trans (congrArg Cf.safety (hb.same .cf :) :))
  have hg : (endSession (dpStop (openBoth { s with cf := { s.cf with pend := none } }))).gov =
      { s.gov with fcs := (dpStop (openBoth { s with cf := { s.cf with pend := none } })).gov.fcs
                   level := (dpStop (openBoth { s with cf := { s.cf with pend := none } })).gov.level } := by
    have ho : (openBoth { s with cf := { s.cf with pend := none } }).gov = s.gov := hb.same .gov
    refine ((endSession_frame _).same .gov).trans ((dpStop_gov _).trans ?_)
    rw [ho]
  have hk := govKept_of hg
  unfold deviceReset
  generalize endSession (dpStop (openBoth { s with cf := { s.cf with pend := none } })) = u at hs hk ⊢
  exact ⟨hs, hk⟩

/-- What an erase leaves (R338). -/
structure Erased (s u : State) : Prop where
  reset : u.sys.cause = 3 ∧ u.sys.planes = 7 ∧ AllOpen u ∧ u.sys.oper = false ∧ u.sess.user = 0
  gov : u.gov.locked = false ∧ u.gov.limb = [] ∧ u.gov.lim5 = [] ∧ u.gov.lim100 = [] ∧ u.gov.copyA = none ∧ u.gov.copyB = none
  copies : u.cf.safety = false ∧ u.cf.copyA = u.cf.copyB ∧ u.cf.copyA.map = {} ∧ ∀ e ∈ u.cf.copyA.objs, isSafetyKey e.1 = false
  log : ∃ e, u.sess.log = s.sess.log ++ [e] ∧ e.kind = 4

theorem erasedCopy_objs (s : State) : ∀ e ∈ (erasedCopy s).objs, isSafetyKey e.1 = false := by
  unfold erasedCopy
  exact fun e he => by simpa using (List.mem_filter.1 he).2

/-- The reset that ends an erase, of a state whose log has its entry. -/
theorem eraseReset_erased {s v : State} {c : Copy} {e : LogE} (hl : v.sess.log = s.sess.log ++ [e]) (hk : e.kind = 4) (hm : c.map = {})
    (ho : ∀ e ∈ c.objs, isSafetyKey e.1 = false) :
    Erased s (deviceReset 3 (govErase { v with cf := { v.cf with copyA := c, copyB := c, safety := false } })) := by
  obtain ⟨⟨hc, hp, -, -⟩, ⟨-, -, -, hop⟩, ⟨ha, hb⟩, -, -, hu, -, -, hca, hcb, hlog⟩ :=
    deviceReset_isReset 3 (govErase { v with cf := { v.cf with copyA := c, copyB := c, safety := false } })
  obtain ⟨hsf, hlb, h5, h100, hlk, hga, hgb⟩ :=
    deviceReset_keeps 3 (govErase { v with cf := { v.cf with copyA := c, copyB := c, safety := false } })
  refine ⟨⟨hc, hp, ⟨congrArg Saf.sw ha, congrArg Saf.sw hb⟩, hop, hu⟩, ⟨hlk, hlb, h5, h100, hga, hgb⟩,
    ⟨hsf, hca.trans hcb.symm, (congrArg Copy.map hca).trans hm, ?_⟩, e, hlog.trans hl, hk⟩
  rw [hca]
  exact ho

theorem eraseNow_erased {s : State} (hr : s.sess.log.length < 512) : Erased s (eraseNow s) := by
  have hs : (openBoth s).sess = s.sess := (openBoth_frame s).same .sess
  unfold eraseNow
  extract_lets o c new ks objs l
  obtain ⟨e, he, hk, -⟩ := logAdd_sess (s := o) (hs ▸ hr) 4 o.sess.user objs 0 (o.cf.count + 1) (cfgCrc o) new
  have hl : l.sess.log = s.sess.log ++ [e] := (congrArg Sess.log he).trans (congrArg (fun x : Sess => x.log ++ [e]) hs)
  exact eraseReset_erased hl hk rfl (erasedCopy_objs o)

theorem safetyErase_judged {s : State} {p : Path} {d : List Byte} (hs : sessionOn s p = true) (hr : s.sess.log.length < 512)
    (hg : PassGood s s.sess.user 2 d) (hh : s.sup.holdReady = true) (hk : leAt d 0 2 = 0xE7A5) :
    safetyErase p d s = (0, eraseNow (passedIn p s)) := by
  have hhold : (passedIn p s).sup.holdReady = true := (congrArg Sup.holdReady ((passedIn_frame p s).same .sup)).trans hh
  have he := passCheck_session p hg
  obtain ⟨h1, h2, h3, h4, -, -⟩ := hg
  unfold safetyErase
  rw [if_neg (by rw [logFull, decide_eq_true_iff, logMax]; omega), if_neg (by simp [hs])]
  dsimp only
  rw [if_neg (by omega), if_neg (by simp [h3, h4]; omega), he]
  dsimp only
  rw [if_neg (by simp), if_neg (by simp [hhold]), if_neg (by simp [hk])]

/-- O43: a full-chip erase. -/
theorem safetyErase_erases {s : State} (t : Nat) (p : Path) (d : List Byte) (hm : s.sys.mgmtUp = true) (hv : s.sup.vstate ≠ 2)
    (hs : sessionOn s p = true) (hh : s.sup.holdReady = true) (hg : PassGood (advance t s) s.sess.user 2 d)
    (hr : s.sess.log.length < 512) (hk : leAt d 0 2 = 0xE7A5) : Answers (.safetyErase t p d) s (Erased s) := by
  have he : execSafetyErase t p d s = .next (answerWrite p 0x4000 0x35 d.length (0, eraseNow (passedIn p (advance t s)))) := by
    unfold execSafetyErase
    rw [writeCmd_up (s := advance t s) hm hv, safetyErase_judged (s := advance t s) hs hr hg hh hk]
  have hlog : (passedIn p (advance t s)).sess.log = s.sess.log := (passedIn_sess p (advance t s)).1
  obtain ⟨hreset, hgov, hcop, e, hl, hke⟩ := eraseNow_erased (s := passedIn p (advance t s)) (hlog ▸ hr)
  have hf := answerWrite_frame p 0x4000 0x35 d.length (0, eraseNow (passedIn p (advance t s)))
  refine ⟨_, he, ?_⟩
  generalize answerWrite p 0x4000 0x35 d.length (0, eraseNow (passedIn p (advance t s))) = u at hf ⊢
  have hsys : u.sys = _ := hf.same .sys
  have hA : u.safA = _ := hf.same .safA
  have hB : u.safB = _ := hf.same .safB
  have hgv : u.gov = _ := hf.same .gov
  have hcf : u.cf = _ := hf.same .cf
  have hse : u.sess = _ := hf.same .sess
  refine ⟨?_, hgv ▸ hgov, hcf ▸ hcop, e, ?_, hke⟩
  · unfold AllOpen at hreset ⊢
    rw [hsys, hA, hB, hse]
    exact hreset
  · rw [hse, ← hlog]
    exact hl

/-- Settles O43: it holds. -/
theorem logClearAndErase : Obligations.LogClearAndErase := by
  unfold Obligations.LogClearAndErase
  intro s t p d hm hv hs hh
  refine ⟨fun hg hp hn hc => logClear_clears t p d hm hv hs hh hg hp hn hc, fun hg hr hk => ?_⟩
  obtain ⟨u, he, ⟨h1, h2, h3, h4, h5⟩, hgov, hcop, hlog⟩ := safetyErase_erases t p d hm hv hs hh hg hr hk
  exact ⟨u, he, h1, h2, h3, h4, h5, hgov, hcop, hlog⟩

end Sys2Proof.Machine
end

section
/-! PROOF. O44: map staging and MRAM staging. -/

namespace Sys2Proof.Machine

-- One after another the proofs need less memory than all at once.
set_option Elab.async false

/-! ### A response leaves -/

theorem respond_frame (p : Path) (op : Nat) (r : DictReq) (x : DictRsp) (s : State) : Frame [.dc, .zl] s (respond p op r x s) := by
  unfold respond
  exact Frame.trans (l := [.dc]) .of (answer_frame ..)

/-- Where the server runs and SAVE has not begun a response leaves. -/
theorem respond_says {s : State} (hm : s.sys.mgmtUp = true) (hv : s.sup.vstate ≠ 2) (p : Path) (op : Nat) (r : DictReq) (x : DictRsp) :
    OnlyServer s (respond p op r x s) ∧ Says p x s (respond p op r x s) := by
  unfold respond OnlyServer Says
  extract_lets keep
  obtain ⟨z, hz⟩ := answer_says (s := { s with dc := { s.dc with prev := (p, op, s.sys.now, r, x) :: keep } }) hm hv p x
  rw [hz]
  exact ⟨rfl, rfl⟩

/-! ### The staging in MRAM -/

theorem ackWrite_frame (e : Path × DictReq) (s : State) : Frame [.dc, .zl] s (ackWrite e s) := by
  unfold ackWrite say
  exact respond_frame ..

theorem ackWrite_rsps {s : State} (hm : s.sys.mgmtUp = true) (hv : s.sup.vstate ≠ 2) (e : Path × DictReq) :
    (ackWrite e s).dc.rsps = s.dc.rsps ++ [(e.1, stageAck e.2)] := by
  unfold ackWrite say
  exact (respond_says hm hv ..).2

/-- The writes are acknowledged in their order. -/
theorem foldl_ackWrite {l : List (Path × DictReq)} {s : State} (hm : s.sys.mgmtUp = true) (hv : s.sup.vstate ≠ 2) :
    (l.foldl (fun t e => ackWrite e t) s).dc.rsps = s.dc.rsps ++ l.map fun e => (e.1, stageAck e.2) := by
  induction l generalizing s with
  | nil => simp
  | cons e l ih =>
    have hf := ackWrite_frame e s
    rw [List.foldl_cons, ih ((hf.same .mgmtUp).trans hm) (by rw [show (ackWrite e s).sup = s.sup from hf.same .sup]; exact hv),
      ackWrite_rsps hm hv, List.append_assoc]
    rfl

theorem foldl_ackWrite_frame (l : List (Path × DictReq)) (s : State) : Frame [.dc, .zl] s (l.foldl (fun t e => ackWrite e t) s) :=
  .foldl (fun s e => ackWrite_frame e s) l s

/-- O44: what has been received is staged, and acknowledged. -/
theorem mramStage_stages {s : State} (t : Nat) (hm : s.sys.mgmtUp = true) (hv : s.sup.vstate ≠ 2) (hh : s.sup.holdReady = true) :
    Answers (.mramStage t) s fun u => Kept u s ∧ u.cf = { s.cf with unacked := [], staged := stagedSoon s } ∧
      u.dc.rsps = s.dc.rsps ++ s.cf.unacked.map fun e => (e.1, stageAck e.2) := by
  have he : mramStage (advance t s) = s.cf.unacked.foldl (fun t e => ackWrite e t) (stageUnacked (advance t s)) :=
    if_pos (by simp [hostUp, canStage, hm, hv, hh])
  refine ⟨_, congrArg Host.Outcome.next he, ?_, ?_, foldl_ackWrite (s := stageUnacked (advance t s)) hm hv⟩
  · rw [Kept, ← he, mramStage_guarded, advance_guarded]
  · exact (foldl_ackWrite_frame _ _).same .cf

/-! ### Cells of the map -/

/-- An entry that a test of the keys keeps is found as before, any other is not. -/
theorem mlook_filter {α : Type} (f : Nat → Bool) (m : SMap α) (k : Nat) :
    mlook (m.filter fun e => f e.1) k = if f k = true then mlook m k else none := by
  induction m with
  | nil => simp [mlook]
  | cons e m ih =>
    obtain ⟨j, v⟩ := e
    by_cases h : k = j
    · subst h
      cases hf : f k <;> simp [hf, mlook, ih]
    · cases hf : f j <;> simp [hf, mlook, ih, h]

theorem mget_eq_mlook {α : Type} (d : α) (m : SMap α) (k : Nat) : mget d m k = (mlook m k).getD d := by
  induction m with
  | nil => rfl
  | cons e m ih =>
    obtain ⟨j, v⟩ := e
    by_cases h : k = j
    · simp [mget, mlook, h]
    · simpa [mget, mlook, h] using ih

theorem mlook_append {α : Type} (m n : SMap α) (k : Nat) : mlook (m ++ n) k = (mlook m k).or (mlook n k) := by
  induction m with
  | nil => simp [mlook]
  | cons e m ih =>
    obtain ⟨j, v⟩ := e
    by_cases h : k = j
    · simp [mlook, h]
    · simpa [mlook, h] using ih

theorem mlook_keys {α : Type} (l : List Nat) (v : α) (k : Nat) : mlook (l.map fun j => (j, v)) k = if k ∈ l then some v else none := by
  induction l with
  | nil => rfl
  | cons j l ih =>
    by_cases h : k = j
    · simp [mlook, h]
    · simpa [mlook, h] using ih

theorem mlook_fill (lo hi w k : Nat) : mlook (if w = 0 then [] else (List.range' lo (hi + 1 - lo)).map fun k => (k, w)) k =
    if w ≠ 0 ∧ lo ≤ k ∧ k ≤ hi then some w else none := by
  by_cases hw : w = 0
  · simp [hw, mlook]
  · have hin : k ∈ List.range' lo (hi + 1 - lo) ↔ w ≠ 0 ∧ lo ≤ k ∧ k ≤ hi := by
      rw [List.mem_range'_1]
      omega
    rw [if_neg hw, mlook_keys]
    exact if_congr hin rfl rfl

/-- A fill writes every key of its range and no other. -/
theorem mget_mfill (lo hi w : Nat) (m : SMap Nat) (k : Nat) : mget 0 (mfill lo hi w m) k = if lo ≤ k ∧ k ≤ hi then w else mget 0 m k := by
  unfold mfill
  rw [mget_eq_mlook, mget_eq_mlook, mlook_append, mlook_append, mlook_filter (fun j => decide (j < lo)), mlook_filter (fun j => decide (hi < j)),
    mlook_fill]
  simp only [decide_eq_true_iff]
  by_cases h : lo ≤ k ∧ k ≤ hi
  · rw [if_neg (by omega), if_neg (c := hi < k) (by omega), if_pos h]
    by_cases hw : w = 0
    · simp [hw]
    · rw [if_pos ⟨hw, h⟩]
      rfl
  · rw [if_neg (c := w ≠ 0 ∧ _) (fun hw => h hw.2), if_neg h, Option.or_none]
    by_cases hl : k < lo
    · rw [if_pos hl]
      cases mlook m k
      · simp
      · rfl
    · rw [if_neg hl, if_pos (by omega)]
      rfl

/-- The cells of the channels of `l` from row `k0` to `k1` are filled. -/
def cellsFilled (k0 k1 w : Nat) (l : List Nat) (m : SMap Nat) : SMap Nat := l.foldl (fun m ch => mfill (1800 * ch + k0) (1800 * ch + k1) w m) m

theorem mget_cellsFilled {k0 k1 : Nat} (h1 : k1 ≤ 1799) (w : Nat) (l : List Nat) (m : SMap Nat) {ch k : Nat} (hk : k < 1800) :
    mget 0 (cellsFilled k0 k1 w l m) (1800 * ch + k) = if ch ∈ l ∧ k0 ≤ k ∧ k ≤ k1 then w else mget 0 m (1800 * ch + k) := by
  induction l generalizing m with
  | nil => simp [cellsFilled]
  | cons c l ih =>
    refine (ih _).trans ?_
    rw [mget_mfill]
    by_cases hc : ch = c
    · subst hc
      have hi : 1800 * ch + k0 ≤ 1800 * ch + k ∧ 1800 * ch + k ≤ 1800 * ch + k1 ↔ k0 ≤ k ∧ k ≤ k1 := by omega
      simp only [hi, List.mem_cons, true_or, true_and]
      by_cases hr : k0 ≤ k ∧ k ≤ k1
      · simp [hr]
      · rw [if_neg (fun h => hr h.2)]
    · rw [if_neg (c := 1800 * c + k0 ≤ 1800 * ch + k ∧ _) (by omega)]
      simp [hc]

/-- The staged map with the rectangle that the value `d` of a MAP_FILL names filled. -/
def filledStage (d : List Byte) (s : State) : ZMap :=
  { mapStageNow s with
    cells := cellsFilled (leAt d 4 2) (leAt d 6 2) (leAt d 8 8) (List.range' (leAt d 0 2) (leAt d 2 2 + 1 - leAt d 0 2)) (mapStageNow s).cells }

/-! ### The map's commands -/

theorem touchSession_eq (p : Path) (s : State) : ∃ x, touchSession p s = { s with sess := x } := by
  unfold touchSession
  split
  · exact ⟨_, rfl⟩
  · exact ⟨s.sess, rfl⟩

theorem mapPut_fits {m : ZMap} (h : mapSize m ≤ 163840) (s : State) : mapPut m s = (0, { s with cf := { s.cf with mapStage := some m } }) :=
  if_neg (by omega)

theorem mapSize_empty : mapSize {} ≤ 163840 := by decide

section Commands

variable {s : State} (t : Nat) (p : Path) (d : List Byte) (hm : s.sys.mgmtUp = true) (hv : s.sup.vstate ≠ 2)

include hm hv

/-- A map command that is carried out in the session that it keeps. -/
theorem mapCmd_acts {i n a : Nat} {f : State → Nat × State} {z : Option ZMap} {x : Sess}
    (he : f (advance t s) = (a, { advance t s with sess := x, cf := { s.cf with mapStage := z } })) :
    (writeCmd p 0x3400 i n f (advance t s)).cf = { s.cf with mapStage := z } ∧
    RespondedTo p 0x3400 i n a s (writeCmd p 0x3400 i n f (advance t s)) := by
  obtain ⟨hw, hr⟩ := writeCmd_answers (s := advance t s) hm hv p 0x3400 i n he (Frame.of (l := [.sess, .cf])).answerable
  exact ⟨hw.same .cf, hr⟩

/-- O44: without a session on the path the commands are refused. -/
theorem mapCmd_refused {i n : Nat} {f : State → Nat × State} (he : f (advance t s) = (0x0611, advance t s)) :
    (writeCmd p 0x3400 i n f (advance t s)).cf = s.cf ∧ RespondedTo p 0x3400 i n 0x0611 s (writeCmd p 0x3400 i n f (advance t s)) := by
  obtain ⟨hw, hr⟩ := writeCmd_answers (s := advance t s) hm hv p 0x3400 i n he (Frame.refl [] _).answerable
  exact ⟨hw.same .cf, hr⟩

/-- O44: MAP_FILL stages a rectangle of cells. -/
theorem mapFill_fills (hp : mapPending s = false) (hs : sessionOn s p = true) (hl : d.length = 16) (hc : leAt d 0 2 ≤ leAt d 2 2)
    (hc1 : leAt d 2 2 ≤ 191) (hk : leAt d 4 2 ≤ leAt d 6 2) (hk1 : leAt d 6 2 ≤ 1799)
    (hw : cellOk s.sys.variant (leAt d 2 2) (leAt d 8 8) = true)
    (hz : mapSize (filledStage d s) ≤ 163840) :
    Answers (.mapFill t p d) s fun u => RespondedTo p 0x3400 0x14 16 0 s u ∧ u.cf = { s.cf with mapStage := some (filledStage d s) } := by
  obtain ⟨x, hx⟩ := touchSession_eq p (advance t s)
  have he : mapFill p d (advance t s) = (0, { advance t s with sess := x, cf := { s.cf with mapStage := some (filledStage d s) } }) := by
    have hs' : sessionOn (advance t s) p = true := hs
    unfold mapFill
    rw [if_neg (by simp [hs']), hx]
    dsimp only
    rw [if_neg (by omega), if_neg (by omega), if_neg (by omega), if_neg, if_neg]
    · exact mapPut_fits hz _
    · rintro (h | h | h)
      · omega
      · omega
      · exact Bool.noConfusion (h.symm.trans hw)
    · exact fun h => Bool.noConfusion (hp.symm.trans h)
  obtain ⟨hcf, hr⟩ := mapCmd_acts t p hm hv he (n := d.length) (i := 0x14)
  exact ⟨_, rfl, hl ▸ hr, hcf⟩

/-- O44: MAP_CLEAR stages an empty map. -/
theorem mapClear_clears (hp : mapPending s = false) (hs : sessionOn s p = true) : Answers (.mapClear t p) s fun u =>
    RespondedTo p 0x3400 0x15 1 0 s u ∧ u.cf = { s.cf with mapStage := some {} } := by
  obtain ⟨x, hx⟩ := touchSession_eq p (advance t s)
  have he : mapClear p (advance t s) = (0, { advance t s with sess := x, cf := { s.cf with mapStage := some {} } }) := by
    have hs' : sessionOn (advance t s) p = true := hs
    unfold mapClear
    rw [if_neg (by simp [hs']), hx]
    exact (if_neg fun h => Bool.noConfusion (hp.symm.trans h)).trans (mapPut_fits mapSize_empty _)
  obtain ⟨hcf, hr⟩ := mapCmd_acts t p hm hv he (n := 1) (i := 0x15)
  exact ⟨_, rfl, hr, hcf⟩

/-- O44: MAP_REVERT discards what is staged. -/
theorem mapRevert_discards (hp : mapPending s = false) : Answers (.mapRevert t p) s fun u =>
    RespondedTo p 0x3400 0x16 1 0 s u ∧ u.cf = { s.cf with mapStage := none } := by
  have he : mapRevert (advance t s) = (0, { advance t s with sess := s.sess, cf := { s.cf with mapStage := none } }) :=
    if_neg fun h => Bool.noConfusion (hp.symm.trans h)
  obtain ⟨hcf, hr⟩ := mapCmd_acts t p hm hv he (n := 1) (i := 0x16)
  exact ⟨_, rfl, hr, hcf⟩

end Commands

/-- Settles O44: it holds. -/
theorem mapAndMramStaging : Obligations.MapAndMramStaging := by
  unfold Obligations.MapAndMramStaging
  refine ⟨fun s t p d hm hv => ⟨fun hp => ⟨?_, fun hs => mapClear_clears t p hm hv hp hs, mapRevert_discards t p hm hv hp⟩, fun hs => ?_⟩,
    fun s t hm hv hh => mramStage_stages t hm hv hh⟩
  · intro hs hl hc hc1 hk hk1 hw hz
    obtain ⟨u, he, hr, hcf⟩ := mapFill_fills t p d hm hv hp hs hl hc hc1 hk hk1 hw hz
    refine ⟨u, he, hr, (congrArg Cf.map hcf :), _, (congrArg Cf.mapStage hcf :), rfl, fun ch k hk => ?_⟩
    have hin : ch ∈ List.range' (leAt d 0 2) (leAt d 2 2 + 1 - leAt d 0 2) ↔ leAt d 0 2 ≤ ch ∧ ch ≤ leAt d 2 2 := by
      rw [List.mem_range'_1]
      omega
    refine (mget_cellsFilled hk1 _ _ _ hk).trans (if_congr ?_ rfl rfl)
    rw [hin, and_assoc]
  · have hs' : (!sessionOn (advance t s) p) = true := by simp [show sessionOn (advance t s) p = false from hs]
    exact ⟨⟨_, rfl, mapCmd_refused t p hm hv (if_pos hs')⟩, ⟨_, rfl, mapCmd_refused t p hm hv (if_pos hs')⟩⟩

end Sys2Proof.Machine
end

section
/-! PROOF. O45: a sample of the track front end. -/

namespace Sys2Proof.Machine

-- One after another the proofs need less memory than all at once.
set_option Elab.async false

/-! ### A sample's word -/

/-- The fields of a delivered sample's word. -/
theorem sample_fields {g st : Nat} {d : Int} (hst : st < 4) (hl : -524288 ≤ d) (hh : d ≤ 524287) :
    let w := BitVec.ofNat 24 (put g 22 2 + put st 20 2 + toU 20 d)
    smpRange w = g % 4 ∧ smpStatus w = st ∧ smpData w = d := by
  have hd : (toU 20 d : Int) = d % 1048576 := Int.toNat_of_nonneg (Int.emod_nonneg _ (by decide))
  have hw : (BitVec.ofNat 24 (put g 22 2 + put st 20 2 + toU 20 d)).toNat = g % 4 * 4194304 + st * 1048576 + toU 20 d := by
    rw [BitVec.toNat_ofNat, put, put]
    omega
  dsimp only
  unfold smpRange smpStatus smpData fld toS
  rw [hw]
  refine ⟨by omega, by omega, ?_⟩
  split <;> omega

theorem tfStatus_lt (s : State) (n t : Nat) : tfStatus s n t < 4 := by
  unfold tfStatus
  dsimp only
  (repeat' split) <;> decide

theorem clampI_bounds {lo hi : Int} (h : lo ≤ hi) (x : Int) : lo ≤ clampI lo hi x ∧ clampI lo hi x ≤ hi := by
  unfold clampI
  omega

/-! ### Ranging and onset -/

/-- Ranging changes nothing but the gain and its counters. -/
theorem tfRange_eq (a o : Bool) (d : Int) (x : Tf) : tfRange a o d x = { x with
    gain := (tfRange a o d x).gain, gainFrom := (tfRange a o d x).gainFrom, hiRun := (tfRange a o d x).hiRun
    loRun := (tfRange a o d x).loRun, rangech := (tfRange a o d x).rangech } := by
  unfold tfRange
  dsimp only
  (repeat' split) <;> rfl

theorem tfRange_keeps {a o : Bool} (h : a = false ∨ o = false) (d : Int) (x : Tf) : (tfRange a o d x).gain = x.gain := by
  unfold tfRange
  rw [if_pos (by obtain rfl | rfl := h <;> simp)]

/-- The fourth sample in a row above 90 % of full scale lowers the gain. -/
theorem tfRange_lowers {d : Int} {x : Tf} (hd : 471858 < d.natAbs) (hr : x.hiRun = 3) (hg : 0 < x.gain) :
    (tfRange true true d x).gain = x.gain - 1 := by
  unfold tfRange
  dsimp only
  rw [if_neg (by decide), if_pos hd, hr, if_pos ⟨rfl, hg⟩]

/-- The 32nd sample in a row below 20 % raises it. -/
theorem tfRange_raises {d : Int} {x : Tf} (hd : d.natAbs < 104858) (hr : x.loRun = 31) (hg : x.gain < 3) :
    (tfRange true true d x).gain = x.gain + 1 := by
  unfold tfRange
  dsimp only
  rw [if_neg (by decide), if_neg (c := 471858 < d.natAbs) (by omega), if_pos hd, hr, if_neg (by simp), if_pos ⟨rfl, hg⟩]

/-- The onset detector changes nothing but its own fields. -/
theorem tfOnset_eq (th : Nat) (o : Bool) (uv : Int) (now : Nat) (x : Tf) : (tfOnset th o uv now x).1 = { x with
    onRun := (tfOnset th o uv now x).1.onRun, basel := (tfOnset th o uv now x).1.basel, baseGot := (tfOnset th o uv now x).1.baseGot
    frozen := (tfOnset th o uv now x).1.frozen, fired := (tfOnset th o uv now x).1.fired
    quietSince := (tfOnset th o uv now x).1.quietSince } := by
  unfold tfOnset
  dsimp only
  (repeat' split) <;> rfl

/-- The third sample in a row beyond the threshold fires the detector and freezes it. -/
theorem tfOnset_fires {th now : Nat} {uv : Int} {x : Tf} (hb : x.baseGot = true) (hf : x.frozen = false) (hr : 2 ≤ x.onRun)
    (hd : th * 65536 < (uv - x.basel).natAbs) : (tfOnset th true uv now x).1.fired = true ∧ (tfOnset th true uv now x).1.frozen = true := by
  unfold tfOnset
  dsimp only
  rw [if_neg (by decide), if_neg (by simp [hb]), if_neg (by simp [hf]), if_pos (by rw [if_pos hd]; omega)]
  exact ⟨rfl, rfl⟩

/-- While it is frozen, the baseline stays. -/
theorem tfOnset_frozen {x : Tf} (hf : x.frozen = true) (th now : Nat) (o : Bool) (uv : Int) :
    (tfOnset th o uv now x).1.basel = x.basel ∨ x.baseGot = false := by
  unfold tfOnset
  cases hb : x.baseGot
  · exact .inr rfl
  · cases o
    · exact .inl rfl
    · rw [if_neg (by decide), if_neg (by decide)]
      dsimp only
      rw [if_pos hf]
      exact .inl rfl

/-! ### Delivery -/

/-- What a delivery carries: status, data, gain and the data in the unit of the onset detector. -/
def tfData (n : Nat) (raw : Int) (s : State) : Int := if tfStatus s n s.sys.now = 3 then 0 else clampI (-524288) 524287 raw
def tfUv (n : Nat) (raw : Int) (s : State) : Int := tfData n raw s * rangeFs (gainOf (tfGet s n) s.sys.now) / 8
def tfWord (n : Nat) (raw : Int) (s : State) : BitVec 24 :=
  BitVec.ofNat 24 (put (gainOf (tfGet s n) s.sys.now) 22 2 + put (tfStatus s n s.sys.now) 20 2 + toU 20 (tfData n raw s))

/-- The record with the sample, before ranging. -/
def tfNoted (n : Nat) (raw : Int) (s : State) : Tf :=
  { tfGet s n with
    sample := tfWord n raw s, lastAt := s.sys.now
    clips := if tfStatus s n s.sys.now ≠ 3 ∧ clampI (-524288) 524287 raw ≠ raw then satAdd 16 (tfGet s n).clips 1 else (tfGet s n).clips
    blanks := if tfStatus s n s.sys.now = 2 then satAdd 16 (tfGet s n).blanks 1 else (tfGet s n).blanks }

def tfRanged (n : Nat) (raw : Int) (s : State) : Tf :=
  tfRange (cfgF s (0x5000 + n) 5) (tfStatus s n s.sys.now == 0) (tfData n raw s) (tfNoted n raw s)

/-- The record after the delivery, and whether the onset detector fires. -/
def tfTaken (n : Nat) (raw : Int) (s : State) : Tf × Bool :=
  if cfgF s (0x5000 + n) 0xB then
    tfOnset (cfgN s (0x5000 + n) 0xC) (tfStatus s n s.sys.now == 0) (tfUv n raw s) s.sys.now (tfRanged n raw s)
  else (tfRanged n raw s, false)

theorem tfRanged_eq (n : Nat) (raw : Int) (s : State) : tfRanged n raw s = { tfNoted n raw s with
    gain := (tfRanged n raw s).gain, gainFrom := (tfRanged n raw s).gainFrom, hiRun := (tfRanged n raw s).hiRun
    loRun := (tfRanged n raw s).loRun, rangech := (tfRanged n raw s).rangech } := tfRange_eq ..

theorem tfTaken_eq (n : Nat) (raw : Int) (s : State) : (tfTaken n raw s).1 = { tfRanged n raw s with
    onRun := (tfTaken n raw s).1.onRun, basel := (tfTaken n raw s).1.basel, baseGot := (tfTaken n raw s).1.baseGot
    frozen := (tfTaken n raw s).1.frozen, fired := (tfTaken n raw s).1.fired, quietSince := (tfTaken n raw s).1.quietSince } := by
  unfold tfTaken
  split
  · exact tfOnset_eq ..
  · rfl

theorem tfTaken_sample (n : Nat) (raw : Int) (s : State) : (tfTaken n raw s).1.sample = tfWord n raw s := by
  rw [tfTaken_eq, tfRanged_eq]
  rfl

theorem tfTaken_lastAt (n : Nat) (raw : Int) (s : State) : (tfTaken n raw s).1.lastAt = s.sys.now := by
  rw [tfTaken_eq, tfRanged_eq]
  rfl

theorem tfTaken_gain (n : Nat) (raw : Int) (s : State) : (tfTaken n raw s).1.gain = (tfRanged n raw s).gain := by
  rw [tfTaken_eq]

/-- The fields that ranging reads and those of the onset detector are as they were. -/
theorem tfNoted_rest (n : Nat) (raw : Int) (s : State) : (tfNoted n raw s).baseGot = (tfGet s n).baseGot ∧
    (tfNoted n raw s).frozen = (tfGet s n).frozen ∧ (tfNoted n raw s).onRun = (tfGet s n).onRun ∧
    (tfNoted n raw s).basel = (tfGet s n).basel ∧ (tfNoted n raw s).gain = (tfGet s n).gain ∧
    (tfNoted n raw s).hiRun = (tfGet s n).hiRun ∧ (tfNoted n raw s).loRun = (tfGet s n).loRun := by
  unfold tfNoted
  exact ⟨rfl, rfl, rfl, rfl, rfl, rfl, rfl⟩

theorem tfRanged_onset (n : Nat) (raw : Int) (s : State) : (tfRanged n raw s).baseGot = (tfGet s n).baseGot ∧
    (tfRanged n raw s).frozen = (tfGet s n).frozen ∧ (tfRanged n raw s).onRun = (tfGet s n).onRun ∧
    (tfRanged n raw s).basel = (tfGet s n).basel := by
  obtain ⟨hb, hf, hr, hl, -⟩ := tfNoted_rest n raw s
  rw [tfRanged_eq]
  exact ⟨hb, hf, hr, hl⟩

section Ranged

variable {n : Nat} {raw : Int} {s : State}

theorem tfRanged_lowers (h0 : tfStatus s n s.sys.now = 0) (hc : cfgF s (0x5000 + n) 5 = true) (hi : 471858 < (tfData n raw s).natAbs)
    (hr : (tfGet s n).hiRun = 3) (hg : 0 < (tfGet s n).gain) : (tfRanged n raw s).gain = (tfGet s n).gain - 1 := by
  obtain ⟨-, -, -, -, eg, eh, -⟩ := tfNoted_rest n raw s
  have hok : (tfStatus s n s.sys.now == 0) = true := beq_iff_eq.2 h0
  have hx := tfRange_lowers (x := tfNoted n raw s) hi (eh.trans hr) (by rw [eg]; exact hg)
  rw [tfRanged, hc, hok, hx, eg]

theorem tfRanged_raises (h0 : tfStatus s n s.sys.now = 0) (hc : cfgF s (0x5000 + n) 5 = true) (hl : (tfData n raw s).natAbs < 104858)
    (hr : (tfGet s n).loRun = 31) (hg : (tfGet s n).gain < 3) : (tfRanged n raw s).gain = (tfGet s n).gain + 1 := by
  obtain ⟨-, -, -, -, eg, -, el⟩ := tfNoted_rest n raw s
  have hok : (tfStatus s n s.sys.now == 0) = true := beq_iff_eq.2 h0
  have hx := tfRange_raises (x := tfNoted n raw s) hl (el.trans hr) (by rw [eg]; exact hg)
  rw [tfRanged, hc, hok, hx, eg]

theorem tfRanged_keeps (h : tfStatus s n s.sys.now ≠ 0 ∨ cfgF s (0x5000 + n) 5 = false) : (tfRanged n raw s).gain = (tfGet s n).gain := by
  obtain ⟨-, -, -, -, eg, -, -⟩ := tfNoted_rest n raw s
  unfold tfRanged
  rw [← eg]
  exact tfRange_keeps (h.elim (fun h => .inr (by simpa using h)) .inl) ..

end Ranged

/-! ### What a delivery leaves of the other channels -/

theorem tfCapture_ch (n : Nat) (w : BitVec 24) (fire : Bool) (s : State) : (tfCapture n w fire s).tf.ch = s.tf.ch := by
  unfold tfCapture
  (repeat' split) <;> rfl

theorem SectionsOnly.frame {s u : State} (h : SectionsOnly s u) : Frame [.ax, .ed] s u := by
  obtain ⟨_, _, _, rfl⟩ := h
  exact .of

theorem headPass_frame (h : Nat) (ba : Bool) (s : State) : Frame [.ax] s (headPass h ba s) := by
  unfold headPass passageAt hdSet
  refine Frame.trans (l := [.ax]) ?_ (Frame.foldl (fun s c => Frame.of (l := [.ax])) _ _)
  exact .of

theorem headEval_frame (h : Nat) (s : State) : Frame [.ax, .ed] s (headEval h s) := by
  unfold headEval
  extract_lets x wA wB now off past t0 ok late a b x' st s1 s2
  have hset : ∀ y, Frame [.ax] s (hdSet h y s) := fun y => .of
  have h1 : Frame [.ax, .ed] s s1 := .of
  have h2 : Frame [.ax, .ed] s s2 := by
    unfold s2
    split
    · exact h1.trans (disturbCps_sectionsOnly ..).frame
    · exact h1
  split
  · exact (hset _).mono
  split
  · exact (hset _).trans (disturbCps_sectionsOnly ..).frame
  split
  · exact (hset _).mono
  · split
    · exact h2.trans (headPass_frame ..)
    · exact h2

theorem startWrite_frame (s : State) : Frame [.ax] s (startWrite s) := by
  unfold startWrite
  split
  · exact .of
  · exact .refl ..

theorem axleSample_frame (n : Nat) (s : State) : Frame [.ax, .ed] s (axleSample n s) := by
  unfold axleSample
  refine Frame.trans (l := [.ax, .ed]) ?_ (startWrite_frame _)
  exact (Frame.foldl (fun s h => headEval_frame h s) _ s).trans (secUpdateAll_sectionsOnly _).frame

/-- A delivery writes its channel's record and no other's. -/
theorem tfDeliver_ch (n : Nat) (raw : Int) (s : State) : (tfDeliver n raw s).tf.ch = (tfPut n (tfTaken n raw s).1 s).tf.ch := by
  have hw : ∀ (c : Bool) (v : State), (if c then wake v else v).tf = v.tf := by
    intro c v
    cases c <;> rfl
  have he : ∀ (c : Bool) (v : State), (if c then edSync 9 v else v).tf = v.tf := by
    intro c v
    cases c
    · rfl
    · exact (edSync_frame 9 v).same .tf
  unfold tfDeliver
  dsimp only
  rw [show ∀ v : State, (axleSample n v).tf = v.tf from fun v => (axleSample_frame n v).same .tf, tfCapture_ch, hw, he,
    show ∀ (a b : Nat) (v : State), (post a b [] v).tf = v.tf from fun a b v => (post_frame a b [] v).same .tf]
  rfl

theorem tfGet_of_ch {s u : State} (h : u.tf.ch = s.tf.ch) (n : Nat) : tfGet u n = tfGet s n := by
  unfold tfGet
  rw [h]

/-- Settles O45: it holds. -/
theorem trackSamples : Obligations.TrackSamples := by
  unfold Obligations.TrackSamples
  intro s t n raw ha
  have hch := tfDeliver_ch n raw (advance t s)
  have hy : tfGet (tfDeliver n raw (advance t s)) n = (tfTaken n raw (advance t s)).1 := (tfGet_of_ch hch n).trans (tfGet_tfPut_same ..)
  obtain ⟨hbg, hfz, hon, hbl⟩ := tfRanged_onset n raw (advance t s)
  obtain ⟨hdl, hdh⟩ : -524288 ≤ tfData n raw (advance t s) ∧ tfData n raw (advance t s) ≤ 524287 := by
    unfold tfData
    split
    · decide
    · exact clampI_bounds (by decide) raw
  obtain ⟨hr, hst, hd⟩ := sample_fields (g := gainOf (tfGet (advance t s) n) (advance t s).sys.now) (tfStatus_lt (advance t s) n (advance t s).sys.now) hdl hdh
  refine ⟨_, congrArg Host.Outcome.next (if_pos ha), ⟨?_, fun m hm => ?_⟩, ?_⟩
  · rw [Kept, tfDeliver_guarded, advance_guarded]
  · exact (tfGet_of_ch hch m).trans ((oneChan_tfPut ..).others m hm)
  rw [hy, tfTaken_sample, tfTaken_lastAt, tfTaken_gain]
  refine ⟨hr, hst, hd, rfl, fun h0 hc hi hr3 hg => ?_, fun h0 hc hi hr3 hg => ?_, fun h => ?_, fun h0 hc hb hf hn hi => ?_, fun hf => ?_⟩
  · exact tfRanged_lowers h0 hc hi hr3 hg
  · exact tfRanged_raises h0 hc hi hr3 hg
  · exact tfRanged_keeps h
  · have ho : cfgF (advance t s) (0x5000 + n) 0xB = true := hc
    have hok : (tfStatus (advance t s) n (advance t s).sys.now == 0) = true := beq_iff_eq.2 h0
    unfold tfTaken
    rw [if_pos ho, hok]
    exact tfOnset_fires (hbg.trans hb) (hfz.trans hf) (hon ▸ hn) (by rw [hbl]; exact hi)
  · unfold tfTaken
    split
    · have h := tfOnset_frozen (hfz.trans hf) (cfgN (advance t s) (0x5000 + n) 0xC) (advance t s).sys.now
        (tfStatus (advance t s) n (advance t s).sys.now == 0) (tfUv n raw (advance t s))
      rw [hbl, hbg] at h
      exact h
    · exact .inl hbl

end Sys2Proof.Machine
end

section
/-! PROOF. O48: section resets and section words. -/

namespace Sys2Proof.Machine

-- One after another the proofs need less memory than all at once.
set_option Elab.async false

/-- The counting points and what is known of them are the same. -/
structure PointsKept (s u : State) : Prop where
  cf : u.cf = s.cf
  heads : u.ax.heads = s.ax.heads
  gates : u.ax.gates = s.ax.gates
  tl : ∀ l, tlGet u l = tlGet s l
  queue : u.ax.queue = s.ax.queue
  writing : u.ax.writing = s.ax.writing

section Counting

variable {s u : State} (h : PointsKept s u)
include h

theorem cpHealthy_congr (c : Nat) : cpHealthy u c = cpHealthy s c := by
  simp only [cpHealthy, cpAt_of_cf h.cf, headOn, headCfg, gateOn, gateCfg, cfgN_congr h.cf, hdGet, gtGet, h.tl, h.heads, h.gates]

theorem cpInPassage_congr (c : Nat) : cpInPassage u c = cpInPassage s c := by
  simp only [cpInPassage, cpAt_of_cf h.cf, hdGet, gtGet, h.heads, h.gates, h.queue, h.writing]

theorem secHealthy_congr (k : Nat) : secHealthy u k = secHealthy s k := by
  unfold secHealthy
  rw [cpsOf_of_cf h.cf, show cpHealthy u = cpHealthy s from funext (cpHealthy_congr h)]

theorem secProgress_congr (k : Nat) : secProgress u k = secProgress s k := by
  unfold secProgress
  rw [cpsOf_of_cf h.cf, show cpInPassage u = cpInPassage s from funext (cpInPassage_congr h)]

end Counting

/-! ### Section resets -/

theorem startWrite_secs (s : State) : (startWrite s).ax.secs = s.ax.secs ∧ (startWrite s).ax.rstref = s.ax.rstref := by
  unfold startWrite
  split <;> exact ⟨rfl, rfl⟩

theorem secGet_of_secs {s u : State} (h : u.ax.secs = s.ax.secs) (k : Nat) : secGet u k = secGet s k := by
  unfold secGet
  rw [h]

/-- Section `k` made PREPARATORY with count 0. -/
def prepared (k : Nat) (s : State) : State := secChange k (secSet k { secGet s k with st := 1, count := 0, zprep := 0, rose := false } s)

theorem prepared_oneSection (k : Nat) (s : State) : OneSection k s (prepared k s) := (oneSection_secSet ..).trans (oneSection_secChange ..)

theorem secGet_prepared (k : Nat) (s : State) :
    secGet (prepared k s) k = { secGet s k with st := 1, count := 0, zprep := 0, rose := false } :=
  (secGet_secChange ..).trans (secGet_secSet_same ..)

/-- A request that the evaluator accepts; a count that changes is to be written. -/
theorem sectionRequest_prepares {k : Nat} {s : State} (h0 : (secGet s k).st = 0) (hn : cpsOf s k ≠ []) (hh : secHealthy s k = true)
    (hp : secProgress s k = false) : ∃ d, sectionRequest k s = startWrite { prepared k s with ax := { (prepared k s).ax with dirty := d } } := by
  have he : sectionRequest k s = startWrite (if (secGet s k).count = 0 then prepared k s
      else { prepared k s with ax := { (prepared k s).ax with dirty := true } }) := if_pos ⟨h0, by simpa using hn, hh, hp⟩
  rw [he]
  split
  · exact ⟨(prepared k s).ax.dirty, rfl⟩
  · exact ⟨true, rfl⟩

theorem sectionRequest_accepts {k : Nat} {s : State} (h0 : (secGet s k).st = 0) (hn : cpsOf s k ≠ []) (hh : secHealthy s k = true)
    (hp : secProgress s k = false) : secGet (sectionRequest k s) k = { secGet s k with st := 1, count := 0, zprep := 0, rose := false } ∧
      (sectionRequest k s).ax.rstref = s.ax.rstref ∧ ∀ j, j ≠ k → secGet (sectionRequest k s) j = secGet s j := by
  obtain ⟨d, he⟩ := sectionRequest_prepares h0 hn hh hp
  obtain ⟨hsec, hrst⟩ := startWrite_secs { prepared k s with ax := { (prepared k s).ax with dirty := d } }
  have hv := prepared_oneSection k s
  have hr : (prepared k s).ax.rstref = s.ax.rstref := by
    obtain ⟨_, _, _, he⟩ := hv.shared
    rw [he]
  rw [he]
  exact ⟨(secGet_of_secs hsec k).trans (secGet_prepared k s), hrst.trans hr, fun j hj => (secGet_of_secs hsec j).trans (hv.others j hj)⟩

/-- Any other is refused and counted. -/
theorem sectionRequest_refuses {k : Nat} {s : State} (h : (secGet s k).st ≠ 0 ∨ secHealthy s k = false ∨ secProgress s k = true) :
    sectionRequest k s = { s with ax := { s.ax with rstref := satAdd 16 s.ax.rstref 1 } } := by
  refine if_neg ?_
  rintro ⟨h0, -, hh, hp⟩
  obtain h | h | h := h
  · exact h h0
  · exact Bool.noConfusion (h.symm.trans hh)
  · exact Bool.noConfusion (hp.symm.trans h)

/-- The state in which the request of a session is judged. -/
def sessionKept (s : State) : State := { s with sess := { s.sess with lastAct := s.sys.now } }

theorem touchSession_on {s : State} {p : Path} (h : sessionOn s p = true) : touchSession p s = sessionKept s := if_pos h

theorem sectionReset_requests {s : State} {p : Path} (k : Nat) (ht : hasTrack s = true) (hc : s.sys.ctrlUp = true)
    (hs : saveStopped s = false) (ho : sessionOn s p = true) : sectionReset k (some p) s = sectionRequest k (sessionKept s) := by
  unfold sectionReset
  rw [if_pos (by simp [ht, hc, hs])]
  dsimp only
  rw [if_pos ho, touchSession_on ho]

theorem sectionReset_idle {s : State} {p : Path} (k : Nat) (ho : sessionOn s p = false) : sectionReset k (some p) s = s := by
  unfold sectionReset
  dsimp only
  rw [if_neg (c := sessionOn s p = true) (by simp [ho])]
  exact ite_self _

section Resets

variable {s : State} (t : Nat) (k : Fin 32) (p : Path)

/-- O48: a DISTURBED section becomes PREPARATORY with count 0. -/
theorem sectionReset_prepares (ht : hasTrack s = true) (hc : s.sys.ctrlUp = true) (hs : saveStopped (advance t s) = false)
    (ho : sessionOn s p = true) (h0 : (secGet s k).st = 0) (hn : cpsOf s k ≠ []) (hh : secHealthy s k = true)
    (hg : secProgress s k = false) : Answers (.sectionReset t k (some p)) s fun u => Kept u s ∧ (secGet u k).st = 1 ∧
      (secGet u k).count = 0 ∧ (secGet u k).rose = false ∧ u.ax.rstref = s.ax.rstref ∧ ∀ j, j ≠ k.val → secGet u j = secGet s j := by
  have hp : PointsKept s (sessionKept (advance t s)) := ⟨rfl, rfl, rfl, fun _ => rfl, rfl, rfl⟩
  obtain ⟨hk, hr, hj⟩ := sectionRequest_accepts (s := sessionKept (advance t s)) (k := k) h0 (cpsOf_of_cf hp.cf k ▸ hn)
    ((secHealthy_congr hp k).trans hh) ((secProgress_congr hp k).trans hg)
  refine ⟨_, congrArg Host.Outcome.next (sectionReset_requests (s := advance t s) k ht hc hs ho), ?_, ?_, ?_, ?_, hr, hj⟩
  · rw [Kept, sectionRequest_guarded]
    rfl
  · exact congrArg Sec.st hk
  · exact congrArg Sec.count hk
  · exact congrArg Sec.rose hk

/-- O48: any other request in the session is refused and counted. -/
theorem sectionReset_refuses (ht : hasTrack s = true) (hc : s.sys.ctrlUp = true) (hs : saveStopped (advance t s) = false)
    (ho : sessionOn s p = true) (h : (secGet s k).st ≠ 0 ∨ secHealthy s k = false ∨ secProgress s k = true) :
    Answers (.sectionReset t k (some p)) s fun u => Kept u s ∧ u.ax = { s.ax with rstref := satAdd 16 s.ax.rstref 1 } ∧
      u.sess.lastAct = (advance t s).sys.now := by
  have hp : PointsKept s (sessionKept (advance t s)) := ⟨rfl, rfl, rfl, fun _ => rfl, rfl, rfl⟩
  have he := (sectionReset_requests (s := advance t s) k ht hc hs ho).trans
    (sectionRequest_refuses (by rw [secHealthy_congr hp, secProgress_congr hp]; exact h))
  exact ⟨_, congrArg Host.Outcome.next he, rfl, rfl, rfl⟩

/-- O48: without a session on the path the request does nothing. -/
theorem sectionReset_nothing (ho : sessionOn s p = false) : Answers (.sectionReset t k (some p)) s fun u => u = advance t s :=
  ⟨_, congrArg Host.Outcome.next (sectionReset_idle (s := advance t s) k ho), rfl⟩

end Resets

/-! ### A jammed pair -/

theorem sectJam_high {i h : Nat} {s : State} (hh : mlook s.ax.srHigh i = some h) : sectJam i s =
    if sinRole s i = 4 ∧ pairActive s .a i = true ∧ mget false s.ax.srJam i = false ∧ h + 3000 * msNs ≤ s.sys.now then
      raise evSectrstJam { s with ax := { s.ax with srJam := mset false s.ax.srJam i true } }
    else s := by
  unfold sectJam
  rw [hh]

section Jam

variable {s : State} (t : Nat) (i : Fin 8) {h : Nat} (hh : mlook s.ax.srHigh i = some h)
include hh

/-- O48: a pair that has been HIGH for 3 s is jammed. -/
theorem sectJam_jams (hr : sinRole s i = 4) (ha : pairActive s .a i = true) (hj : mget false s.ax.srJam i = false)
    (hd : h + 3000 * msNs ≤ (advance t s).sys.now) : Answers (.sectrstJamTimeout t i) s fun u =>
      Kept u s ∧ mget false u.ax.srJam i = true ∧ u.ax.secs = s.ax.secs := by
  have he := (sectJam_high (s := advance t s) hh).trans (if_pos ⟨hr, ha, hj, hd⟩)
  have hax : (raise evSectrstJam { advance t s with ax := { s.ax with srJam := mset false s.ax.srJam i true } }).ax =
      { s.ax with srJam := mset false s.ax.srJam i true } := (raise_frame ..).same .ax
  refine ⟨_, congrArg Host.Outcome.next he, ?_, ?_, ?_⟩
  · rw [Kept, ← show sectJam i (advance t s) = _ from he, sectJam_guarded, advance_guarded]
  · exact (congrArg (fun x : Ax => mget false x.srJam i) hax :).trans (mget_mset_same false s.ax.srJam i true)
  · exact (congrArg Ax.secs hax :)

theorem sectJam_waits (hd : (advance t s).sys.now < h + 3000 * msNs) : Answers (.sectrstJamTimeout t i) s fun u => u = advance t s :=
  ⟨_, congrArg Host.Outcome.next ((sectJam_high (s := advance t s) hh).trans (if_neg fun hc => absurd hc.2.2.2 (by omega))), rfl⟩

end Jam

/-! ### Section words -/

section Words

variable {s : State} (t : Nat) (c : Chan)

/-- O48: a section word carries the states of all sections. -/
theorem sectionWord_sent (hc : s.sys.ctrlUp = true) (ht : hasTrack s = true) : Answers (.sectionWordSend t) s fun u =>
    ∃ w, u.out.secWord = some (w, s.out.secSeq) ∧ (∀ k, k < 32 → mget 0 w k = (secGet s k).st) ∧
      u = { advance t s with out := { s.out with secWord := some (w, s.out.secSeq), secSeq := s.out.secSeq + 1 } } := by
  have ht' : hasTrack (advance t s) = true := ht
  refine ⟨_, congrArg Host.Outcome.next (if_pos (Bool.and_eq_true_iff.2 ⟨hc, ht'⟩)), _, rfl, fun k hk => ?_, rfl⟩
  exact mget_mtab 0 32 _ k hk

variable {w : SMap Nat × Nat}

theorem takeSecWord_valid (hs : s.sys.oper = true) (hw : s.out.secWord = some w) : takeSecWord c true s =
    setC c { getC s c with secStates := w.1, secGot := true, secAt := s.sys.now, secUnk := false } s := by
  unfold takeSecWord
  rw [hw]
  exact if_pos (by simp [hs])

theorem takeSecWord_bad (hw : s.out.secWord = some w) : takeSecWord c false s = s := by
  unfold takeSecWord
  rw [hw]
  exact if_neg (by simp)

/-- O48: a valid word is the channel's view. -/
theorem sectionWord_received (hs : s.sys.oper = true) (hw : s.out.secWord = some w) : Answers (.sectionWordReceive t c true) s fun u =>
    Kept u s ∧ getC u (otherC c) = getC s (otherC c) ∧
      getC u c = { getC s c with secStates := w.1, secGot := true, secAt := (advance t s).sys.now, secUnk := false } := by
  have he := takeSecWord_valid (s := advance t s) c hs hw
  refine ⟨_, congrArg Host.Outcome.next he, ?_, ?_, ?_⟩
  · rw [Kept, ← he, takeSecWord_guarded, advance_guarded]
  · exact (getC_setC_other ..).trans (getC_advance ..)
  · exact getC_setC_same ..

/-- O48: 3 ms without a word make the states unknown. -/
theorem sectionWord_missed (hs : s.sys.oper = true) (hd : (getC s c).secAt + 3 * msNs ≤ (advance t s).sys.now) :
    Answers (.sectionWordTimeout t c) s fun u => Kept u s ∧ getC u (otherC c) = getC s (otherC c) ∧
      getC u c = { getC s c with secUnk := true } := by
  have hc : ((advance t s).sys.oper && decide ((getC (advance t s) c).secAt + 3 * msNs ≤ (advance t s).sys.now)) = true :=
    Bool.and_eq_true_iff.2 ⟨hs, decide_eq_true (by rw [getC_advance]; exact hd)⟩
  refine ⟨_, congrArg Host.Outcome.next (if_pos hc), ?_, ?_, ?_⟩
  · cases c <;> rfl
  · exact (getC_setC_other ..).trans (getC_advance ..)
  · exact getC_setC_same ..

theorem sectionWord_inTime (hd : (advance t s).sys.now < (getC s c).secAt + 3 * msNs) :
    Answers (.sectionWordTimeout t c) s fun u => u = advance t s := by
  have hc : ¬ ((advance t s).sys.oper && decide ((getC (advance t s) c).secAt + 3 * msNs ≤ (advance t s).sys.now)) = true := by
    rw [getC_advance, decide_eq_false (by omega), Bool.and_false]
    exact Bool.false_ne_true
  exact ⟨_, congrArg Host.Outcome.next (if_neg hc), rfl⟩

end Words

/-- Settles O48: it holds. -/
theorem sectionResetsAndWords : Obligations.SectionResetsAndWords := by
  unfold Obligations.SectionResetsAndWords
  refine ⟨fun s t k p i => ⟨fun ht hc hs ho => ⟨?_, ?_⟩, sectionReset_nothing t k p, fun h hh hr ha hj => ⟨?_, ?_⟩⟩,
    fun s t c => ⟨sectionWord_sent t, fun w hs hw => ⟨sectionWord_received t c hs hw, ?_⟩, sectionWord_missed t c, sectionWord_inTime t c⟩⟩
  · exact sectionReset_prepares t k p ht hc hs ho
  · exact sectionReset_refuses t k p ht hc hs ho
  · exact sectJam_jams t i hh hr ha hj
  · exact sectJam_waits t i hh
  · exact ⟨_, congrArg Host.Outcome.next (takeSecWord_bad (s := advance t s) c hw), rfl⟩

end Sys2Proof.Machine
end

section
/-! PROOF. O47: the counts of the sections. -/

namespace Sys2Proof.Machine

-- One after another the proofs need less memory than all at once.
set_option Elab.async false

/-! ### What the steps of a write of the counts may change -/

/-- Only the sections, their counters, the links' queues of passages and the event distributor differ. -/
def CountingOnly (s u : State) : Prop :=
  ∃ secs n ep t0 t1 e, u = { s with ax := { s.ax with secs := secs, disturbs := n, epdisc := ep, tl0 := t0, tl1 := t1 }, ed := e }

theorem CountingOnly.refl (s : State) : CountingOnly s s := ⟨_, _, _, _, _, _, rfl⟩

theorem CountingOnly.trans {s t u : State} (h₁ : CountingOnly s t) (h₂ : CountingOnly t u) : CountingOnly s u := by
  obtain ⟨_, _, _, _, _, _, rfl⟩ := h₁
  exact h₂

theorem CountingOnly.foldl {α : Type} {f : State → α → State} (hf : ∀ s x, CountingOnly s (f s x)) (l : List α) (s : State) :
    CountingOnly s (l.foldl f s) := by
  induction l generalizing s with
  | nil => exact .refl s
  | cons x l ih => exact (hf s x).trans (ih _)

theorem SectionsOnly.counting {s u : State} (h : SectionsOnly s u) : CountingOnly s u := by
  obtain ⟨_, _, _, rfl⟩ := h
  exact ⟨_, _, _, _, _, _, rfl⟩

section Fields

variable {s u : State} (h : CountingOnly s u)
include h

theorem CountingOnly.cf : u.cf = s.cf := by obtain ⟨_, _, _, _, _, _, rfl⟩ := h; rfl
theorem CountingOnly.ax : u.ax =
    { s.ax with secs := u.ax.secs, disturbs := u.ax.disturbs, epdisc := u.ax.epdisc, tl0 := u.ax.tl0, tl1 := u.ax.tl1 } := by
  obtain ⟨_, _, _, _, _, _, rfl⟩ := h
  rfl

end Fields

/-- From `s` to `u` every count stays, and no section leaves the state DISTURBED. -/
structure Later (s u : State) : Prop where
  count : ∀ k, (secGet u k).count = (secGet s k).count
  halted : ∀ k, (secGet s k).st = 0 → (secGet u k).st = 0

theorem Later.refl (s : State) : Later s s := ⟨fun _ => rfl, fun _ h => h⟩

theorem Later.trans {s t u : State} (h₁ : Later s t) (h₂ : Later t u) : Later s u :=
  ⟨fun k => (h₂.count k).trans (h₁.count k), fun k h => h₂.halted k (h₁.halted k h)⟩

theorem Later.foldl {α : Type} {f : State → α → State} (hf : ∀ s x, Later s (f s x)) (l : List α) (s : State) : Later s (l.foldl f s) := by
  induction l generalizing s with
  | nil => exact .refl s
  | cons x l ih => exact (hf s x).trans (ih _)

theorem Later.of_secs {s u : State} (h : u.ax.secs = s.ax.secs) : Later s u :=
  ⟨fun k => by rw [secGet_of_secs h], fun k h0 => by rw [secGet_of_secs h]; exact h0⟩

/-- A change of one section that keeps its count, and leaves it DISTURBED where it is. -/
theorem Later.of_one {k : Nat} {s u : State} (h : OneSection k s u) (hc : (secGet u k).count = (secGet s k).count)
    (hs : (secGet s k).st = 0 → (secGet u k).st = 0) : Later s u := by
  constructor
  · intro j
    obtain rfl | hne := eq_or_ne j k
    · exact hc
    · rw [h.others j hne]
  · intro j
    obtain rfl | hne := eq_or_ne j k
    · exact hs
    · rw [h.others j hne]
      exact id

theorem disturb_later (cause k : Nat) (s : State) : Later s (disturb cause k s) := by
  refine .of_one (oneSection_disturb cause k s) ?_ fun _ => ?_
  · rw [secGet_disturb_same]
  · rw [secGet_disturb_same]

theorem disturbCps_later (cause : Nat) (cps : List Nat) (s : State) : Later s (disturbCps cause cps s) :=
  .foldl (fun s k => disturb_later cause k s) _ s

theorem secGet_secGo_same (k st : Nat) (s : State) : secGet (secGo k st s) k = { secGet s k with st := st } := by
  unfold secGo
  extract_lets x
  split
  · next h => rw [← h]
  · exact (secGet_secChange ..).trans (secGet_secSet_same ..)

theorem secUpdate_count (k : Nat) (s : State) : (secGet (secUpdate k s) k).count = (secGet s k).count := by
  have hgo : ∀ st, (secGet (secGo k st s) k).count = (secGet s k).count := fun st => by rw [secGet_secGo_same]
  unfold secUpdate
  extract_lets x v
  have hv : (secGet v k).count = x.count := by rw [show secGet v k = _ from secGet_secSet_same ..]
  split
  · split
    · exact hv
    · rw [secGet_secChange]
      exact hv
  split
  · rfl
  split
  · exact (disturb_later 9 k s).count k
  split
  · split
    · exact hgo _
    split
    · exact hgo _
    · rfl
  · exact hgo _

theorem secUpdate_later (k : Nat) (s : State) : Later s (secUpdate k s) := by
  refine .of_one (oneSection_secUpdate k s) (secUpdate_count k s) fun h0 => ?_
  unfold secUpdate
  extract_lets x v
  split
  · exact congrArg Sec.st (secGet_secSet_same k _ s)
  · exact h0

theorem secUpdateAll_later (s : State) : Later s (secUpdateAll s) := .foldl (fun s k => secUpdate_later k s) _ s

/-! ### The passages -/

theorem passAdd_of_cf {s u : State} (h : u.cf = s.cf) (p : Pass) (k : Nat) (x : Int) : passAdd u p k x = passAdd s p k x := by
  unfold passAdd
  rw [cpAt_of_cf h]

theorem passDiscard_later (s : State) (p : Pass) : Later s (passDiscard s p) := by
  unfold passDiscard
  exact Later.trans (t := { s with ax := { s.ax with epdisc := satAdd 16 s.ax.epdisc 1 } }) (.of_secs rfl) (disturbCps_later ..)

theorem passDiscard_counting (s : State) (p : Pass) : CountingOnly s (passDiscard s p) := by
  unfold passDiscard
  exact CountingOnly.trans ⟨_, _, _, _, _, _, rfl⟩ (disturbCps_sectionsOnly ..).counting

theorem passDiscard_epdisc (s : State) (p : Pass) : (passDiscard s p).ax.epdisc = satAdd 16 s.ax.epdisc 1 := by
  unfold passDiscard
  exact (disturbCps_sectionsOnly ..).epdisc

theorem passDiscard_halts {s : State} {p : Pass} {k : Nat} (hk : k ∈ secsOf s p.cp) : (secGet (passDiscard s p) k).st = 0 := by
  unfold passDiscard
  exact (haltedBy_disturbCps (C := fun _ => True) trivial (List.mem_singleton.2 rfl) (mem_secsOf_of_cf (by rfl) hk)).1

/-- A passage that is discarded leaves the sections that its counting point bounds DISTURBED. -/
theorem foldl_passDiscard_halts {l : List Pass} {s : State} {p : Pass} (hp : p ∈ l) {k : Nat} (hk : k ∈ secsOf s p.cp) :
    (secGet (l.foldl passDiscard s) k).st = 0 := by
  induction l generalizing s with
  | nil => cases hp
  | cons q l ih =>
    obtain rfl | hl := List.mem_cons.mp hp
    · exact (Later.foldl passDiscard_later l _).halted k (passDiscard_halts hk)
    · exact ih hl (mem_secsOf_of_cf (passDiscard_counting s q).cf hk)

/-- One section counts a passage. -/
theorem countPass_one (p : Pass) (k : Nat) (s : State) :
    OneSection k s (secSet k { secGet s k with count := passAdd s p k (secGet s k).count } s) := oneSection_secSet ..

theorem applyPass_sectionsOnly (s : State) (p : Pass) : SectionsOnly s (applyPass s p) := by
  unfold applyPass
  exact .foldl (fun s k => (countPass_one p k s).shared) _ s

theorem applyPass_st (s : State) (p : Pass) (k : Nat) : (secGet (applyPass s p) k).st = (secGet s k).st := by
  unfold applyPass
  refine foldl_keeps (fun s => (secGet s k).st) (fun s j => ?_) _ s
  obtain rfl | hne := eq_or_ne k j
  · rw [secGet_secSet_same]
  · rw [(countPass_one p j s).others k hne]

/-- A section that a counting point does not bound keeps its count at a passage. -/
theorem applyPass_other {s : State} {p : Pass} {k : Nat} (h : k ∉ secsOf s p.cp) : secGet (applyPass s p) k = secGet s k := by
  unfold applyPass
  generalize secsOf s p.cp = l at h
  induction l generalizing s with
  | nil => rfl
  | cons j l ih =>
    obtain ⟨hne, hl⟩ := not_or.mp (mt List.mem_cons.mpr h)
    exact (ih hl).trans ((countPass_one p j s).others k hne)

/-- A passage between two sections counts in both. -/
theorem applyPass_two {s : State} {p : Pass} (ha : (cpAt s p.cp).aside < 32) (hb : (cpAt s p.cp).bside < 32)
    (hne : (cpAt s p.cp).aside ≠ (cpAt s p.cp).bside) {k : Nat} (hk : k = (cpAt s p.cp).aside ∨ k = (cpAt s p.cp).bside) :
    (secGet (applyPass s p) k).count = passAdd s p k (secGet s k).count := by
  have hl : secsOf s p.cp = [(cpAt s p.cp).aside, (cpAt s p.cp).bside] := by
    unfold secsOf
    rw [List.filter_cons_of_pos (by simpa using ha), List.filter_cons_of_pos (by simpa using hb), List.filter_nil]
  unfold applyPass
  rw [hl]
  simp only [List.foldl_cons, List.foldl_nil]
  obtain rfl | rfl := hk
  · rw [(countPass_one p _ _).others _ hne, secGet_secSet_same]
  · rw [secGet_secSet_same, (countPass_one p _ s).others _ hne.symm]
    exact passAdd_of_cf (by rfl) ..

theorem exportPass_counting (s : State) (p : Pass) : CountingOnly s (exportPass s p) := by
  unfold exportPass
  refine .foldl (fun s l => ?_) _ s
  split
  · unfold tlSet
    split <;> exact ⟨_, _, _, _, _, _, rfl⟩
  · exact .refl s

theorem exportPass_secs (s : State) (p : Pass) : (exportPass s p).ax.secs = s.ax.secs := by
  unfold exportPass
  refine foldl_keeps (fun s => s.ax.secs) (fun s l => ?_) _ s
  split
  · unfold tlSet
    split <;> rfl
  · rfl

/-- A PREPARATORY section whose count has risen is noted. -/
def noteRoseAt (s : State) (k : Nat) : State :=
  let x := secGet s k
  if x.st = 1 ∧ 0 < x.count ∧ x.rose = false then secSet k { x with rose := true } s else s

theorem noteRose_eq (s : State) : noteRose s = (List.range 32).foldl noteRoseAt s := rfl

theorem noteRoseAt_one (s : State) (k : Nat) : OneSection k s (noteRoseAt s k) := by
  unfold noteRoseAt
  extract_lets x
  split
  · exact oneSection_secSet ..
  · exact .refl k s

theorem noteRoseAt_same (s : State) (j k : Nat) : (secGet (noteRoseAt s j) k).st = (secGet s k).st ∧
    (secGet (noteRoseAt s j) k).count = (secGet s k).count := by
  obtain rfl | hne := eq_or_ne k j
  · unfold noteRoseAt
    extract_lets x
    split
    · rw [secGet_secSet_same]
      exact ⟨rfl, rfl⟩
    · exact ⟨rfl, rfl⟩
  · rw [(noteRoseAt_one s j).others k hne]
    exact ⟨rfl, rfl⟩

theorem noteRose_sectionsOnly (s : State) : SectionsOnly s (noteRose s) := by
  rw [noteRose_eq]
  exact .foldl (fun s k => (noteRoseAt_one s k).shared) _ s

theorem noteRose_same (s : State) (k : Nat) : (secGet (noteRose s) k).st = (secGet s k).st ∧
    (secGet (noteRose s) k).count = (secGet s k).count := by
  rw [noteRose_eq]
  exact ⟨foldl_keeps (fun s => (secGet s k).st) (fun s j => (noteRoseAt_same s j k).1) _ s,
    foldl_keeps (fun s => (secGet s k).count) (fun s j => (noteRoseAt_same s j k).2) _ s⟩

theorem noteRose_later (s : State) : Later s (noteRose s) :=
  ⟨fun k => (noteRose_same s k).2, fun k h => (noteRose_same s k).1.trans h⟩

/-! ### Counts out of range -/

/-- The count of section `k` lies outside 0 to 1,023. -/
abbrev OutOfRange (k : Nat) (s : State) : Prop := (secGet s k).count < 0 ∨ 1023 < (secGet s k).count

/-- Section `k`, where it is one of `hit` and its count is out of range, becomes DISTURBED. -/
def overrunAt (hit : List Nat) (s : State) (k : Nat) : State := if hit.contains k ∧ OutOfRange k s then disturb 9 k s else s

def overrun (hit : List Nat) (s : State) : State := (List.range 32).foldl (overrunAt hit) s

section Overrun

variable {hit : List Nat} {s : State}

theorem overrunAt_one (hit : List Nat) (s : State) (k : Nat) : OneSection k s (overrunAt hit s k) := by
  unfold overrunAt
  split
  · exact oneSection_disturb ..
  · exact .refl k s

theorem overrunAt_later (hit : List Nat) (s : State) (k : Nat) : Later s (overrunAt hit s k) := by
  unfold overrunAt
  split
  · exact disturb_later ..
  · exact .refl s

theorem overrun_sectionsOnly (hit : List Nat) (s : State) : SectionsOnly s (overrun hit s) :=
  .foldl (fun s k => (overrunAt_one hit s k).shared) _ s

theorem overrun_later (hit : List Nat) (s : State) : Later s (overrun hit s) := .foldl (overrunAt_later hit) _ s

/-- A section in range is left as it is. -/
theorem overrun_inRange {k : Nat} (h : ¬ OutOfRange k s) : secGet (overrun hit s) k = secGet s k := by
  unfold overrun
  generalize List.range 32 = l
  induction l generalizing s with
  | nil => rfl
  | cons j l ih =>
    have hj : secGet (overrunAt hit s j) k = secGet s k := by
      obtain rfl | hne := eq_or_ne k j
      · rw [overrunAt, if_neg fun hc => h hc.2]
      · exact (overrunAt_one hit s j).others k hne
    exact (ih (by rw [OutOfRange, hj]; exact h)).trans hj

theorem overrun_halts {k : Nat} (h32 : k < 32) (hk : k ∈ hit) (h : OutOfRange k s) : (secGet (overrun hit s) k).st = 0 := by
  have hm : k ∈ List.range 32 := List.mem_range.2 h32
  unfold overrun
  generalize List.range 32 = l at hm
  induction l generalizing s with
  | nil => cases hm
  | cons j l ih =>
    obtain rfl | hne := List.mem_cons.mp hm
    · refine (Later.foldl (overrunAt_later hit) l _).halted k ?_
      rw [overrunAt, if_pos ⟨by simpa using hk, h⟩, secGet_disturb_same]
    · exact ih (by rw [OutOfRange, (overrunAt_later hit s j).count]; exact h) hne

end Overrun

/-! ### Table 17.4 -/

theorem SectionsOnly.points {s u : State} (h : SectionsOnly s u) : PointsKept s u := by
  obtain ⟨_, _, _, rfl⟩ := h
  exact ⟨rfl, rfl, rfl, fun _ => rfl, rfl, rfl⟩

/-- Table 17.4 reads of the section its count and its run of clear zones alone. -/
theorem secTable_congr {s u : State} (h : SectionsOnly s u) {k : Nat} (hc : (secGet u k).count = (secGet s k).count)
    (hz : (secGet u k).zrun = (secGet s k).zrun) : secTable u k = secTable s k := by
  unfold secTable secZclear secZones
  rw [hc, hz, secProgress_congr h.points, secHealthy_congr h.points, show cfgB u = cfgB s from funext fun _ => funext fun _ => by
    simp only [cfgB, h.cf], cfgN_congr h.cf]

theorem secUpdate_table {s : State} {k : Nat} (hn : cpsOf s k ≠ []) (h0 : (secGet s k).st ≠ 0) (h1 : (secGet s k).st ≠ 1)
    (hr : ¬ OutOfRange k s) : secUpdate k s = secGo k (secTable s k) s := by
  have he : ¬ (cpsOf s k).isEmpty = true := by simpa using hn
  exact (if_neg he).trans ((if_neg h0).trans ((if_neg hr).trans (if_neg h1)))

theorem foldl_secUpdate_other {l : List Nat} {k : Nat} (h : k ∉ l) (s : State) :
    secGet (l.foldl (fun s k => secUpdate k s) s) k = secGet s k := by
  induction l generalizing s with
  | nil => rfl
  | cons j l ih =>
    obtain ⟨hne, hl⟩ := not_or.mp (mt List.mem_cons.mpr h)
    exact (ih hl _).trans ((oneSection_secUpdate j s).others k hne)

/-- A section in use that is neither DISTURBED nor PREPARATORY, in range, is as Table 17.4 says once all are brought up to date. -/
theorem secUpdateAll_table {s : State} {k : Nat} (h32 : k < 32) (hn : cpsOf s k ≠ []) (h0 : (secGet s k).st ≠ 0)
    (h1 : (secGet s k).st ≠ 1) (hr : ¬ OutOfRange k s) : (secGet (secUpdateAll s) k).st = secTable (secUpdateAll s) k := by
  obtain ⟨a, b, hab⟩ := List.append_of_mem (List.mem_range.2 h32)
  have hnd := hab ▸ (List.nodup_range (n := 32))
  have ha : k ∉ a := fun h => (List.nodup_append.1 hnd).2.2 k h k (List.mem_cons_self ..) rfl
  have hb : k ∉ b := (List.nodup_cons.1 (List.nodup_append.1 hnd).2.1).1
  have hsplit : secUpdateAll s = b.foldl (fun s k => secUpdate k s) (secUpdate k (a.foldl (fun s k => secUpdate k s) s)) := by
    unfold secUpdateAll
    rw [hab, List.foldl_append, List.foldl_cons]
  have hv : SectionsOnly s (a.foldl (fun s k => secUpdate k s) s) := .foldl (fun s k => (oneSection_secUpdate k s).shared) a s
  have hk : secGet (a.foldl (fun s k => secUpdate k s) s) k = secGet s k := foldl_secUpdate_other ha s
  generalize a.foldl (fun s k => secUpdate k s) s = v at hsplit hv hk
  have hgo : secUpdate k v = secGo k (secTable v k) v :=
    secUpdate_table (cpsOf_ne_nil_of_cf hv.cf hn) (hk ▸ h0) (hk ▸ h1) (by rw [OutOfRange, hk]; exact hr)
  have hu : secGet (secUpdateAll s) k = { secGet v k with st := secTable v k } := by
    rw [hsplit, foldl_secUpdate_other hb, hgo, secGet_secGo_same]
  have hvu : SectionsOnly v (secUpdateAll s) := by
    rw [hsplit]
    exact (oneSection_secUpdate k v).shared.trans (.foldl (fun s k => (oneSection_secUpdate k s).shared) b _)
  rw [secTable_congr hvu (by rw [hu]) (by rw [hu]), hu]

/-! ### Copy A is written -/

/-- The passages of the write that count, and the state once those of older epochs are discarded, and once the others have been applied. -/
def freshIn (s : State) : List Pass := s.ax.writing.filter (passFresh s)
def discardedIn (s : State) : State := (s.ax.writing.filter fun p => !passFresh s p).foldl passDiscard s
def appliedIn (s : State) : State := (freshIn s).foldl applyPass (discardedIn s)
def exportedIn (s : State) : State := (freshIn s).foldl exportPass (appliedIn s)

/-- Copy A as it is written. -/
def copyAOf (s : State) : CntCopy :=
  ⟨max (exportedIn s).ax.cntA.num (exportedIn s).ax.cntB.num + 1,
    mtab 0 32 fun k => (freshIn s).foldl (fun x p => passAdd (discardedIn s) p k x) (mget 0 (discardedIn s).ax.wcounts k)⟩

def copiedIn (s : State) : State :=
  { exportedIn s with ax := { (exportedIn s).ax with
    writing := [], wstate := 2, passages := satAdd 16 (exportedIn s).ax.passages (freshIn s).length, cntA := copyAOf s } }

/-- The sections that the passages concern. -/
def hitIn (s : State) : List Nat := (freshIn s).flatMap fun p => secsOf (noteRose (copiedIn s)) p.cp

theorem copyAWritten_eq {s : State} (h : s.ax.wstate = 1) :
    copyAWritten s = secUpdateAll (overrun (hitIn s) (noteRose (copiedIn s))) := by
  unfold copyAWritten
  rw [startWrite_busy (by omega)]
  exact if_pos h

theorem discardedIn_counting (s : State) : CountingOnly s (discardedIn s) := .foldl passDiscard_counting _ s
theorem discardedIn_later (s : State) : Later s (discardedIn s) := .foldl passDiscard_later _ s

theorem appliedIn_sections (s : State) : SectionsOnly (discardedIn s) (appliedIn s) := .foldl applyPass_sectionsOnly _ _

theorem appliedIn_st (s : State) (k : Nat) : (secGet (appliedIn s) k).st = (secGet (discardedIn s) k).st :=
  foldl_keeps (fun s => (secGet s k).st) (fun s p => applyPass_st s p k) _ _

theorem exportedIn_secs (s : State) : (exportedIn s).ax.secs = (appliedIn s).ax.secs :=
  foldl_keeps (fun s => s.ax.secs) exportPass_secs _ _

theorem exportedIn_counting (s : State) : CountingOnly s (exportedIn s) :=
  (discardedIn_counting s).trans ((appliedIn_sections s).counting.trans (.foldl exportPass_counting _ _))

theorem copiedIn_cf (s : State) : (copiedIn s).cf = s.cf := (exportedIn_counting s).cf

/-- After the copy is written: nothing but sections changes. -/
theorem written_sections (s : State) : SectionsOnly (copiedIn s) (secUpdateAll (overrun (hitIn s) (noteRose (copiedIn s)))) :=
  (noteRose_sectionsOnly _).trans ((overrun_sectionsOnly ..).trans (secUpdateAll_sectionsOnly _))

theorem written_later (s : State) : Later (appliedIn s) (secUpdateAll (overrun (hitIn s) (noteRose (copiedIn s)))) :=
  (Later.of_secs (u := copiedIn s) (exportedIn_secs s)).trans
    ((noteRose_later _).trans ((overrun_later ..).trans (secUpdateAll_later _)))

section CopyA

variable {s u : State} (hu : copyAWritten s = u) (h : s.ax.wstate = 1)
include hu h

theorem copyAWritten_ax : u.ax.wstate = 2 ∧ u.ax.writing = [] ∧ u.ax.queue = s.ax.queue ∧
    u.ax.passages = satAdd 16 s.ax.passages (freshIn s).length ∧ u.ax.cntA = copyAOf s ∧ u.ax.epdisc = (exportedIn s).ax.epdisc := by
  rw [copyAWritten_eq h] at hu
  obtain ⟨_, _, _, he⟩ := hu ▸ written_sections s
  have hx := (exportedIn_counting s).ax
  rw [he]
  refine ⟨rfl, rfl, (congrArg Ax.queue hx :), ?_, rfl, rfl⟩
  show satAdd 16 (exportedIn s).ax.passages _ = _
  rw [hx]

theorem copyAWritten_later : Later (appliedIn s) u := by
  rw [copyAWritten_eq h] at hu
  exact hu ▸ written_later s

/-- A discarded passage leaves its sections DISTURBED. -/
theorem copyAWritten_discards {p : Pass} (hp : p ∈ s.ax.writing) (hf : passFresh s p = false) {k : Nat} (hk : k ∈ secsOf s p.cp) :
    (secGet u k).st = 0 := by
  refine (copyAWritten_later hu h).halted k ((appliedIn_st s k).trans ?_)
  exact foldl_passDiscard_halts (List.mem_filter.2 ⟨hp, by simp [hf]⟩) hk

/-- Every section that a counted passage concerns, and whose count is out of range, is DISTURBED. -/
theorem copyAWritten_overruns {p : Pass} (hp : p ∈ freshIn s) {k : Nat} (hk : k ∈ secsOf s p.cp) (hr : OutOfRange k u) :
    (secGet u k).st = 0 := by
  have h32 : k < 32 := of_decide_eq_true (List.mem_filter.1 hk).2
  have hcf : (noteRose (copiedIn s)).cf = s.cf := (noteRose_sectionsOnly _).cf.trans (copiedIn_cf s)
  have hhit : k ∈ hitIn s := List.mem_flatMap.2 ⟨p, hp, mem_secsOf_of_cf hcf hk⟩
  rw [copyAWritten_eq h] at hu
  have hl := (overrun_later (hitIn s) (noteRose (copiedIn s))).trans (secUpdateAll_later _)
  subst hu
  exact (secUpdateAll_later _).halted k (overrun_halts h32 hhit (by rw [OutOfRange, ← hl.count]; exact hr))

/-- A section in use and in range is as Table 17.4 says. -/
theorem copyAWritten_table (hf : freshIn s = s.ax.writing) {k : Nat} (h32 : k < 32) (hn : cpsOf s k ≠ []) (h0 : (secGet s k).st ≠ 0)
    (h1 : (secGet s k).st ≠ 1) (hr : ¬ OutOfRange k u) : (secGet u k).st = secTable u k := by
  have hd : discardedIn s = s := by
    have : (s.ax.writing.filter fun p => !passFresh s p) = [] :=
      List.filter_eq_nil_iff.2 fun p hp => by simp [(List.filter_eq_self.1 hf) p hp]
    rw [discardedIn, this]
    rfl
  have hl := (copyAWritten_later hu h).count k
  rw [copyAWritten_eq h] at hu
  subst hu
  have hcount : (secGet (noteRose (copiedIn s)) k).count = (secGet (appliedIn s) k).count :=
    (noteRose_same (copiedIn s) k).2.trans (congrArg Sec.count (secGet_of_secs (exportedIn_secs s) k))
  have hst : (secGet (noteRose (copiedIn s)) k).st = (secGet s k).st :=
    (noteRose_same (copiedIn s) k).1.trans ((congrArg Sec.st (secGet_of_secs (exportedIn_secs s) k)).trans ((appliedIn_st s k).trans (by rw [hd])))
  have hv : ¬ OutOfRange k (noteRose (copiedIn s)) := by rw [OutOfRange, hcount, ← hl]; exact hr
  have hk := overrun_inRange (hit := hitIn s) hv
  have hcf : (overrun (hitIn s) (noteRose (copiedIn s))).cf = s.cf :=
    (overrun_sectionsOnly ..).cf.trans ((noteRose_sectionsOnly _).cf.trans (copiedIn_cf s))
  refine secUpdateAll_table h32 (cpsOf_ne_nil_of_cf hcf hn) ?_ ?_ ?_
  · rw [hk, hst]
    exact h0
  · rw [hk, hst]
    exact h1
  · rw [OutOfRange, hk]
    exact hv

/-- With one passage of an older epoch alone nothing counts. -/
theorem copyAWritten_none (hf : freshIn s = []) (hl : s.ax.writing.length = 1) :
    u.ax.epdisc = satAdd 16 s.ax.epdisc 1 ∧ ∀ k, (secGet u k).count = (secGet s k).count := by
  have ha : appliedIn s = discardedIn s := by rw [appliedIn, hf]; rfl
  have hx : exportedIn s = discardedIn s := by rw [exportedIn, hf]; exact ha
  obtain ⟨p, hp⟩ := List.length_eq_one_iff.1 hl
  have hd : discardedIn s = passDiscard s p := by
    have hpf : passFresh s p = false := by
      have := List.filter_eq_nil_iff.1 hf p (hp ▸ List.mem_singleton.2 rfl)
      simpa using this
    rw [discardedIn, hp, List.filter_cons_of_pos (by simp [hpf]), List.filter_nil]
    rfl
  refine ⟨?_, fun k => ?_⟩
  · rw [(copyAWritten_ax hu h).2.2.2.2.2, hx, hd, passDiscard_epdisc]
  · rw [(copyAWritten_later hu h).count, ha, (discardedIn_later s).count]

/-- One passage between two sections: one more on one side, one fewer on the other. -/
theorem copyAWritten_one {p : Pass} (hf : freshIn s = [p]) (ha : (cpAt s p.cp).aside < 32) (hb : (cpAt s p.cp).bside < 32)
    (hne : (cpAt s p.cp).aside ≠ (cpAt s p.cp).bside) (k : Nat) : (secGet u k).count = passAdd s p k (secGet s k).count := by
  have hcf := (discardedIn_counting s).cf
  have hap : appliedIn s = applyPass (discardedIn s) p := by rw [appliedIn, hf]; rfl
  rw [(copyAWritten_later hu h).count, hap, ← passAdd_of_cf hcf, ← (discardedIn_later s).count k]
  rw [← cpAt_of_cf hcf] at ha hb hne
  by_cases hk : k = (cpAt (discardedIn s) p.cp).aside ∨ k = (cpAt (discardedIn s) p.cp).bside
  · exact applyPass_two ha hb hne hk
  · have hm : k ∉ secsOf (discardedIn s) p.cp := fun hm => hk (by simpa using (List.mem_filter.1 hm).1)
    obtain ⟨hka, hkb⟩ := not_or.1 hk
    rw [applyPass_other hm]
    unfold passAdd
    extract_lets e up dn
    have hup : k ≠ up := by
      unfold up
      split
      · exact hka
      · exact hkb
    have hdn : k ≠ dn := by
      unfold dn
      split
      · exact hkb
      · exact hka
    rw [if_neg hup, if_neg hdn]

end CopyA

/-! ### Copy B and the heads -/

theorem instantOpen_counts (s : State) (a : Ax) : instantOpen { s with ax := a } = instantOpen s := rfl

/-- O47: copy B repeats copy A, and a write that is due starts. -/
theorem copyBWritten_repeats {s : State} (t : Nat) (h : s.ax.wstate = 2) : Answers (.countCopyBWritten t) s fun u =>
    Kept u s ∧ u.ax.cntA = s.ax.cntA ∧ u.ax.cntB = s.ax.cntA ∧ u.ax.secs = s.ax.secs ∧
      (u.ax.wstate = if (s.ax.queue ≠ [] ∨ s.ax.dirty = true) ∧ instantOpen (advance t s) = false then 1 else 0) := by
  have he : copyBWritten (advance t s) = startWrite { advance t s with ax := { s.ax with wstate := 0, cntB := s.ax.cntA } } := if_pos h
  have hi := instantOpen_counts (advance t s) { s.ax with wstate := 0, cntB := s.ax.cntA }
  refine ⟨_, congrArg Host.Outcome.next he, ?_⟩
  unfold startWrite
  rw [hi]
  simp only [true_and]
  by_cases hc : (s.ax.queue ≠ [] ∨ s.ax.dirty = true) ∧ instantOpen (advance t s) = false
  · rw [if_pos hc, if_pos hc]
    exact ⟨rfl, rfl, rfl, rfl, rfl⟩
  · rw [if_neg hc, if_neg hc]
    exact ⟨rfl, rfl, rfl, rfl, rfl⟩

section Heads

theorem hdGet_of_heads {s u : State} (h : u.ax.heads = s.ax.heads) (k : Nat) : hdGet u k = hdGet s k := by
  unfold hdGet
  rw [h]

theorem headHealthy_faulty {s : State} {h f : Nat} (hf : (hdGet s h).faulty = true) (ha : (tfGet s (headA s h)).open_ = false)
    (hb : (tfGet s (headB s h)).open_ = false) (ho : (hdGet s h).offSince = some f) : headHealthy h s =
      if f + secNs ≤ s.sys.now then secUpdateAll (hdSet h { hdGet s h with faulty := false } s) else s := by
  unfold headHealthy
  dsimp only
  rw [hf, ha, hb, ho]
  by_cases hd : f + secNs ≤ s.sys.now
  · rw [if_pos hd, if_pos (by simp only [heldFor, decide_eq_true hd]; rfl)]
  · rw [if_neg hd, if_neg (by simp only [heldFor, decide_eq_false hd]; exact Bool.false_ne_true)]

variable {s : State} (t : Nat) (h : Fin 8) (hf : (hdGet s h).faulty = true) (ha : (tfGet s (headA s h)).open_ = false)
  (hb : (tfGet s (headB s h)).open_ = false) {f : Nat} (ho : (hdGet s h).offSince = some f)
include hf ha hb ho

/-- O47: a head is healthy again after 1 s. -/
theorem headHealthy_heals (hd : f + secNs ≤ (advance t s).sys.now) : Answers (.headHealthyTimer t h) s fun u => Kept u s ∧
    hdGet u h = { hdGet s h with faulty := false } ∧ ∀ k, k ≠ h.val → hdGet u k = hdGet s k := by
  have hk := (secUpdateAll_headsKept (hdSet h { hdGet (advance t s) h with faulty := false } (advance t s))).heads
  refine ⟨_, congrArg Host.Outcome.next ((headHealthy_faulty (s := advance t s) hf ha hb ho).trans (if_pos hd)), ?_, ?_, fun k hne => ?_⟩
  · rw [Kept, secUpdateAll_guarded]
    rfl
  · exact (hdGet_of_heads hk _).trans (mget_mset_same _ _ _ _)
  · exact (hdGet_of_heads hk _).trans (mget_mset_other _ _ _ _ _ hne)

theorem headHealthy_waits (hd : (advance t s).sys.now < f + secNs) : Answers (.headHealthyTimer t h) s fun u => u = advance t s :=
  ⟨_, congrArg Host.Outcome.next ((headHealthy_faulty (s := advance t s) hf ha hb ho).trans (if_neg (by omega))), rfl⟩

end Heads

/-- Settles O47: it holds. -/
theorem countsAndSections : Obligations.CountsAndSections := by
  unfold Obligations.CountsAndSections
  intro s t h
  refine ⟨fun hw => ?_, copyBWritten_repeats t, fun hf ha hb f ho => ⟨headHealthy_heals t h hf ha hb ho, headHealthy_waits t h hf ha hb ho⟩⟩
  refine ⟨copyAWritten (advance t s), rfl, ?_⟩
  have hkept : Kept (copyAWritten (advance t s)) s := by rw [Kept, copyAWritten_guarded, advance_guarded]
  generalize hu : copyAWritten (advance t s) = u at hkept
  have hw' : (advance t s).ax.wstate = 1 := hw
  obtain ⟨h1, h2, h3, h4, h5, -⟩ := copyAWritten_ax hu hw'
  have hcf := (discardedIn_counting (advance t s)).cf
  refine ⟨hkept, h1, h2, h3, h4, ?_, fun k hk => ?_, fun p hp hf k hk => copyAWritten_discards hu hw' hp hf hk,
    fun hf hl => copyAWritten_none (s := advance t s) hu hw' hf hl, fun p hf ha hb hne => ?_, fun p hp k hk hr => copyAWritten_overruns hu hw' hp hk hr,
    fun hf k h32 hn h0 h1 hl hr => copyAWritten_table hu hw' hf h32 hn h0 h1 (by omega)⟩
  · rw [h5]
    exact (congrArg (fun x : Ax => max x.cntA.num x.cntB.num + 1) (exportedIn_counting (advance t s)).ax :)
  · rw [h5]
    unfold copyAOf
    dsimp only
    rw [mget_mtab _ _ _ _ hk]
    rw [show (discardedIn (advance t s)).ax.wcounts = s.ax.wcounts from (congrArg Ax.wcounts (discardedIn_counting (advance t s)).ax :)]
    simp only [passAdd_of_cf hcf]
    rfl
  · have hc := copyAWritten_one hu hw' hf ha hb hne
    have hud : (if p.ba then (cpAt s p.cp).bside else (cpAt s p.cp).aside) ≠ (if p.ba then (cpAt s p.cp).aside else (cpAt s p.cp).bside) := by
      split
      · exact hne.symm
      · exact hne
    refine ⟨(hc _).trans (if_pos rfl), (hc _).trans ((if_neg hud).trans (if_pos rfl)), fun k hk hk' => (hc k).trans ((if_neg hk).trans (if_neg hk'))⟩

end Sys2Proof.Machine
end

section
/-! PROOF. The link's operations: what sending leaves unchanged, and what a frame that is sent at an idle port looks like. -/

namespace Sys2Proof.Machine

-- One after another the proofs need less memory than all at once.
set_option Elab.async false

/-- A flag that is raised while the management plane runs is set. -/
theorem raise_evt {s : State} (hm : s.sys.mgmtUp = true) {j : Nat} (hj : j < 56) : bget (raise j s).ed.evt j = true := by
  unfold raise
  rw [if_pos hm]
  have h : (edSync (320 + j) { s with ed := { s.ed with evt := bset s.ed.evt j true } }).ed.evt = bset s.ed.evt j true :=
    congrArg EdFlags.evt (edSync_arbitrated (320 + j) { s with ed := { s.ed with evt := bset s.ed.evt j true } }).flags
  refine (congrArg (bget · j) h).trans ?_
  rw [bget_bset_true _ hj]
  simp

/-! ### Ports -/

theorem zpGet_zpPut_same (p : Nat) (x : Zp) (s : State) : zpGet (zpPut p x s) p = x := by
  unfold zpGet zpPut
  split <;> rfl

theorem zpGet_zpPut_other {p j : Nat} (hp : p < 2) (hj : j < 2) (h : j ≠ p) (x : Zp) (s : State) : zpGet (zpPut p x s) j = zpGet s j := by
  unfold zpGet zpPut
  obtain rfl | rfl : p = 0 ∨ p = 1 := by omega
  · obtain rfl : j = 1 := by omega
    rfl
  · obtain rfl : j = 0 := by omega
    rfl

theorem other_lt {p : Nat} (hp : p < 2) : 1 - p < 2 ∧ 1 - p ≠ p := by omega

theorem zpGet_zpUpd_same (p : Nat) (f : Zp → Zp) (s : State) : zpGet (zpUpd p f s) p = f (zpGet s p) := zpGet_zpPut_same ..

theorem zpGet_of_zl {s u : State} (h : u.zl = s.zl) (p : Nat) : zpGet u p = zpGet s p := by
  unfold zpGet
  rw [h]

/-! ### What sending may change -/

/-- The fields of a port that sending leaves. -/
def PortSent (x y : Zp) : Prop := y = { x with q := y.q, busyTo := y.busyTo, pdT1 := y.pdT1, rd := y.rd, wire := y.wire }

theorem PortSent.refl (x : Zp) : PortSent x x := rfl

theorem PortSent.trans {x y z : Zp} (h₁ : PortSent x y) (h₂ : PortSent y z) : PortSent x z := by
  unfold PortSent at *
  rw [h₂, h₁]

/-- Only ports, SEQ, the count of drops and what has left differ; the ports keep all but their sending, and nothing that has left is lost. -/
structure Sending (s u : State) : Prop where
  only : ∃ a b n d o, u = { s with zl := { s.zl with p0 := a, p1 := b, seq := n, qdrop := d, out := o } }
  port : ∀ p, PortSent (zpGet s p) (zpGet u p)
  out : ∀ e ∈ s.zl.out, e ∈ u.zl.out

theorem Sending.refl (s : State) : Sending s s := ⟨⟨_, _, _, _, _, rfl⟩, fun _ => .refl _, fun _ h => h⟩

theorem Sending.trans {s t u : State} (h₁ : Sending s t) (h₂ : Sending t u) : Sending s u := by
  refine ⟨?_, fun p => (h₁.port p).trans (h₂.port p), fun e he => h₂.out e (h₁.out e he)⟩
  obtain ⟨_, _, _, _, _, rfl⟩ := h₁.only
  exact h₂.only

theorem Sending.foldl {α : Type} {f : State → α → State} (hf : ∀ s x, Sending s (f s x)) (l : List α) (s : State) : Sending s (l.foldl f s) := by
  induction l generalizing s with
  | nil => exact .refl s
  | cons x l ih => exact (hf s x).trans (ih _)

section Sent

variable {s u : State} (h : Sending s u)
include h

theorem Sending.frame : Frame [.zl] s u := by
  obtain ⟨_, _, _, _, _, rfl⟩ := h.only
  exact .of

theorem Sending.zl : u.zl = { s.zl with p0 := u.zl.p0, p1 := u.zl.p1, seq := u.zl.seq, qdrop := u.zl.qdrop, out := u.zl.out } := by
  obtain ⟨_, _, _, _, _, rfl⟩ := h.only
  rfl

end Sent

theorem zpPut_sending {s : State} {p : Nat} {x : Zp} (hp : PortSent (zpGet s p) x) : Sending s (zpPut p x s) := by
  refine ⟨?_, fun j => ?_, ?_⟩
  · unfold zpPut
    split <;> exact ⟨_, _, _, _, _, rfl⟩
  · by_cases h0 : p = 0
    · by_cases hj : j = 0
      · subst h0 hj
        exact hp
      · unfold zpPut zpGet
        simp only [if_pos h0, if_neg hj]
        exact .refl _
    · by_cases hj : j = 0
      · unfold zpPut zpGet
        simp only [if_neg h0, if_pos hj]
        exact .refl _
      · unfold zpPut zpGet
        unfold zpGet at hp
        simp only [if_neg h0, if_neg hj] at hp ⊢
        exact hp
  · unfold zpPut
    split <;> exact fun _ h => h

theorem zpUpd_sending {p : Nat} {f : Zp → Zp} (hf : ∀ x, PortSent x (f x)) (s : State) : Sending s (zpUpd p f s) := zpPut_sending (hf _)

theorem leave_sending (s : State) (p : Nat) (f : ZlFrame) : Sending s { s with zl := { s.zl with out := s.zl.out ++ [(p, f)] } } :=
  ⟨⟨_, _, _, _, _, rfl⟩, fun _ => rfl, fun _ h => List.mem_append_left _ h⟩

theorem transmit_sending (p : Nat) (x : ZlQ) (a : Nat) (s : State) : Sending s (transmit p x a s) := by
  unfold transmit
  exact (zpUpd_sending (by intro x; rfl) _).trans (leave_sending ..)

theorem portSend_sending (p : Nat) (x : ZlQ) (s : State) : Sending s (portSend p x s) := by
  unfold portSend
  split
  · exact .refl s
  split
  · exact (zpUpd_sending (by intro x; rfl) _).trans ⟨⟨_, _, _, _, _, rfl⟩, fun _ => rfl, fun _ h => h⟩
  · exact transmit_sending ..

theorem originate_sending (type dmode dst : Nat) (ports : List Nat) (body : List Byte) (s : State) :
    Sending s (originate type dmode dst ports body s) := by
  unfold originate
  exact Sending.trans (t := { s with zl := { s.zl with seq := (s.zl.seq + 1) % 65536 } }) ⟨⟨_, _, _, _, _, rfl⟩, fun _ => rfl, fun _ h => h⟩
    (.foldl (fun s p => portSend_sending ..) ports _)

/-! ### What leaves an idle port -/

theorem zpGet_transmit_other {p j : Nat} (hp : p < 2) (hj : j < 2) (h : j ≠ p) (x : ZlQ) (a : Nat) (s : State) :
    zpGet (transmit p x a s) j = zpGet s j := zpGet_zpPut_other hp hj h _ s

theorem zpGet_portSend_other {p j : Nat} (hp : p < 2) (hj : j < 2) (h : j ≠ p) (x : ZlQ) (s : State) :
    zpGet (portSend p x s) j = zpGet s j := by
  unfold portSend
  split
  · rfl
  split
  · exact zpGet_zpPut_other hp hj h _ s
  · exact zpGet_transmit_other hp hj h ..

theorem portUp_congr {s u : State} {p : Nat} (h : zpGet u p = zpGet s p) : portUp u p = portUp s p := by
  unfold portUp
  rw [h]

theorem portBusy_congr {s u : State} {p : Nat} (h : zpGet u p = zpGet s p) (hn : u.sys.now = s.sys.now) : portBusy u p = portBusy s p := by
  unfold portBusy
  rw [h, hn]

theorem departing_congr {s u : State} (h : u.sys.sysTime = s.sys.sysTime) (x : ZlQ) (a : Nat) : departing u x a = departing s x a := by
  unfold departing
  rw [h]

/-- An idle port sends a frame at once. -/
theorem portSend_idle {s : State} {p : Nat} (hu : portUp s p = true) (hb : portBusy s p = false) (x : ZlQ) :
    portSend p x s = transmit p x (max s.sys.now (earliest x)) s := by
  unfold portSend
  rw [if_neg (by simp [hu]), if_neg (by simp [hb])]

/-- A frame that the device originates leaves each idle port on which it is sent. -/
theorem foldl_portSend_leaves {l : List Nat} (hl : ∀ j ∈ l, j < 2) {p : Nat} (hm : p ∈ l) (hnd : l.Nodup) {s : State}
    (hu : portUp s p = true) (hb : portBusy s p = false) (x : ZlQ) :
    ∃ v, Sending s v ∧ zpGet v p = zpGet s p ∧ Sending (transmit p x (max s.sys.now (earliest x)) v) (l.foldl (fun s j => portSend j x s) s) ∧
      (l = [p] → l.foldl (fun s j => portSend j x s) s = transmit p x (max s.sys.now (earliest x)) s) := by
  induction l generalizing s with
  | nil => cases hm
  | cons j l ih =>
    obtain ⟨hj, hnl⟩ := List.nodup_cons.1 hnd
    have hp2 : p < 2 := hl p hm
    obtain rfl | hml := List.mem_cons.1 hm
    · rw [List.foldl_cons, portSend_idle hu hb]
      refine ⟨s, .refl s, rfl, .foldl (fun s p => portSend_sending ..) l _, fun h => ?_⟩
      rw [(List.cons.inj h).2]
      rfl
    · have hne : p ≠ j := fun h => hj (h ▸ hml)
      have hget := zpGet_portSend_other (hl j (List.mem_cons_self ..)) hp2 hne x s
      have hs := portSend_sending j x s
      have hsys : (portSend j x s).sys = s.sys := hs.frame.same .sys
      obtain ⟨v, hv, hvp, hvl, -⟩ := ih (fun k hk => hl k (List.mem_cons_of_mem _ hk)) hml hnl (s := portSend j x s)
        ((portUp_congr hget).trans hu) ((portBusy_congr hget (by rw [hsys])).trans hb)
      rw [hsys] at hvl
      exact ⟨v, hs.trans hv, hvp.trans hget, hvl, fun h => absurd (List.cons.inj h).1 hne.symm⟩

/-! ### Check values -/

theorem zlHcrcOk_seal (f : ZlFrame) : zlHcrcOk (zlSeal f) = true := beq_iff_eq.2 rfl
theorem zlCrcOk_seal (f : ZlFrame) : zlCrcOk (zlSeal f) = true := beq_iff_eq.2 rfl

/-- A frame that this device originates. -/
def ownFrame (type dmode dst : Nat) (body : List Byte) (s : State) : ZlFrame :=
  zlSeal ⟨type, dmode, dst, !zlAssigned s, zlAddr s, 0, s.zl.seq, 2 + body.length, body, 0, 0⟩

/-- What leaves for a frame of this device: the same, but for the body of a TIME frame and of a PDELAY response. -/
theorem departing_own (type dmode dst : Nat) (body : List Byte) (s v : State) (a : Nat) :
    ∃ b c d, departing v ⟨ownFrame type dmode dst body s, none⟩ a = { ownFrame type dmode dst body s with body := b, hcrc := c, crc := d } ∧
      zlHcrcOk (departing v ⟨ownFrame type dmode dst body s, none⟩ a) = true ∧
      zlCrcOk (departing v ⟨ownFrame type dmode dst body s, none⟩ a) = true ∧ (type ≠ 1 → type ≠ 6 → b = body) := by
  unfold departing
  dsimp only
  split
  · next h => exact ⟨_, _, _, rfl, zlHcrcOk_seal _, zlCrcOk_seal _, fun h1 => absurd h h1⟩
  split
  · next h => exact ⟨_, _, _, rfl, zlHcrcOk_seal _, zlCrcOk_seal _, fun _ h6 => absurd h.1 h6⟩
  · exact ⟨_, _, _, rfl, zlHcrcOk_seal _, zlCrcOk_seal _, fun _ _ => rfl⟩

/-- A frame originated on the ports `l` has left every idle one of them. -/
theorem originate_leaves {l : List Nat} (hl : ∀ j ∈ l, j < 2) {p : Nat} (hm : p ∈ l) (hnd : l.Nodup) {s : State}
    (hu : portUp s p = true) (hb : portBusy s p = false) (type dmode dst : Nat) (body : List Byte) :
    ∃ f, (p, f) ∈ (originate type dmode dst l body s).zl.out ∧ f.type = type ∧ f.dmode = dmode ∧ f.dst = dst ∧ f.src = zlAddr s ∧
      f.seq = s.zl.seq ∧ f.hops = 0 ∧ zlHcrcOk f = true ∧ zlCrcOk f = true ∧ (type ≠ 1 → type ≠ 6 → f.body = body) := by
  obtain ⟨v, -, -, hv, -⟩ := foldl_portSend_leaves hl hm hnd (s := { s with zl := { s.zl with seq := (s.zl.seq + 1) % 65536 } }) hu hb
    ⟨ownFrame type dmode dst body s, none⟩
  obtain ⟨b, c, d, he, h1, h2, h3⟩ := departing_own type dmode dst body s v (max s.sys.now (earliest ⟨ownFrame type dmode dst body s, none⟩))
  refine ⟨departing v ⟨ownFrame type dmode dst body s, none⟩ (max s.sys.now (earliest ⟨ownFrame type dmode dst body s, none⟩)),
    hv.out _ (List.mem_append_right _ (List.mem_singleton.2 rfl)), ?_, ?_, ?_, ?_, ?_, ?_, h1, h2, fun h h' => ?_⟩
  all_goals rw [he]
  · rfl
  · rfl
  · rfl
  · rfl
  · rfl
  · rfl
  · exact h3 h h'

theorem mem_upPorts {s : State} {p : Nat} (hp : p < 2) (hu : portUp s p = true) : p ∈ upPorts s :=
  List.mem_filter.2 ⟨by simp; omega, hu⟩

theorem upPorts_lt {s : State} {j : Nat} (h : j ∈ upPorts s) : j < 2 := by
  have := (List.mem_filter.1 h).1
  simp at this
  omega

theorem upPorts_nodup (s : State) : (upPorts s).Nodup := List.Nodup.filter _ (by decide)

end Sys2Proof.Machine
end

section
/-! PROOF. O52: address conflicts, and system time set through the host port. -/

namespace Sys2Proof.Machine

-- One after another the proofs need less memory than all at once.
set_option Elab.async false

/-! ### The coordinator's run -/

theorem Sending.withAc {s u : State} (h : Sending s u) (a : Ac) : Sending { s with ac := a } { u with ac := a } := by
  refine ⟨?_, h.port, h.out⟩
  obtain ⟨_, _, _, _, _, rfl⟩ := h.only
  exact ⟨_, _, _, _, _, rfl⟩

/-- Assignments may be written, to this device or over the link: of the accords only the assignment and what it implies differ. -/
structure CoordSent (s u : State) : Prop where
  sent : Sending s { u with ac := s.ac }
  ac : u.ac = { s.ac with assign := u.ac.assign, lastAssign := u.ac.lastAssign, stale := u.ac.stale, staged := u.ac.staged
                          stagedAt := u.ac.stagedAt, stopped := u.ac.stopped, conflict := u.ac.conflict }

theorem CoordSent.refl (s : State) : CoordSent s s := ⟨.refl s, rfl⟩

theorem CoordSent.trans {s t u : State} (h₁ : CoordSent s t) (h₂ : CoordSent t u) : CoordSent s u := by
  refine ⟨h₁.sent.trans (h₂.sent.withAc s.ac), ?_⟩
  rw [h₂.ac, h₁.ac]

theorem CoordSent.foldl {α : Type} {f : State → α → State} (hf : ∀ s x, CoordSent s (f s x)) (l : List α) (s : State) :
    CoordSent s (l.foldl f s) := by
  induction l generalizing s with
  | nil => exact .refl s
  | cons x l ih => exact (hf s x).trans (ih _)

theorem CoordSent.of_sending {s u : State} (h : Sending s u) : CoordSent s u := by
  have ha : u.ac = s.ac := h.frame.same .ac
  refine ⟨?_, by rw [ha]⟩
  rw [← ha]
  exact h

theorem CoordSent.zl {s u : State} (h : CoordSent s u) :
    u.zl = { s.zl with p0 := u.zl.p0, p1 := u.zl.p1, seq := u.zl.seq, qdrop := u.zl.qdrop, out := u.zl.out } := h.sent.zl

theorem CoordSent.frame {s u : State} (h : CoordSent s u) : Frame [.zl, .ac] s u :=
  Frame.trans (l := [.zl]) (l' := [.ac]) h.sent.frame (u := { u with ac := s.ac }) .of

theorem assignTake_sent (a : Assign) (s : State) : CoordSent s (assignTake a s) := by
  unfold assignTake
  dsimp only
  (repeat' split) <;> exact ⟨.refl s, rfl⟩

theorem coordSend_sent (d : Nat) (a : Assign) (s : State) : CoordSent s (coordSend d a s) := by
  unfold coordSend
  split
  · exact assignTake_sent ..
  · exact .of_sending (originate_sending ..)

theorem coordRun_sent (s : State) : ∃ a, CoordSent { s with ac := a } (coordRun s) := by
  unfold coordRun
  split
  · exact ⟨_, .foldl (fun s e => coordSend_sent ..) _ _⟩
  · exact ⟨s.ac, .refl s⟩

theorem coordRun_frame (s : State) : Frame [.zl, .ac] s (coordRun s) := by
  obtain ⟨a, h⟩ := coordRun_sent s
  exact (Frame.of (l := [.ac])).trans h.frame

theorem coordRun_zl (s : State) : (coordRun s).zl = { s.zl with
    p0 := (coordRun s).zl.p0, p1 := (coordRun s).zl.p1, seq := (coordRun s).zl.seq, qdrop := (coordRun s).zl.qdrop
    out := (coordRun s).zl.out } := by
  obtain ⟨a, h⟩ := coordRun_sent s
  exact h.zl

/-! ### A frame that is accepted -/

section Accepted

variable {s u : State} (hc : u.cf = s.cf)
include hc

theorem zlAddr_of_cf : zlAddr u = zlAddr s := by simp only [zlAddr, cfgN_congr hc]
theorem zlAssigned_of_cf : zlAssigned u = zlAssigned s := by simp only [zlAssigned, cfgN_congr hc]
theorem ownSrc_of_cf (f : ZlFrame) : ownSrc u f = ownSrc s f := by simp only [ownSrc, zlAddr_of_cf hc, zlAssigned_of_cf hc]

theorem zlAccepts_congr (hi : u.zl.inConflict = s.zl.inConflict) (f : ZlFrame) : zlAccepts u f = zlAccepts s f := by
  unfold zlAccepts
  rw [zlAddr_of_cf hc, zlAssigned_of_cf hc, hi]

theorem zlForwards_congr (hi : u.zl.inConflict = s.zl.inConflict) {p : Nat} (hp : zpGet u (1 - p) = zpGet s (1 - p)) (f : ZlFrame) :
    zlForwards u p f = zlForwards s p f := by
  unfold zlForwards
  rw [zlAccepts_congr hc hi, portUp_congr hp, ownSrc_of_cf hc]

end Accepted

theorem zpUpd_frame (p : Nat) (f : Zp → Zp) (s : State) : Frame [.zl] s (zpUpd p f s) := (zpUpd_linkOnly ..).frame

theorem zpUpd_zpUpd (p : Nat) (f g : Zp → Zp) (s : State) : zpUpd p g (zpUpd p f s) = zpUpd p (g ∘ f) s := by
  unfold zpUpd zpPut zpGet
  by_cases h : p = 0
  · simp only [if_pos h]
    rfl
  · simp only [if_neg h]
    rfl

theorem zpUpd_zl (p : Nat) (f : Zp → Zp) (s : State) :
    (zpUpd p f s).zl = { s.zl with p0 := (zpUpd p f s).zl.p0, p1 := (zpUpd p f s).zl.p1 } := by
  unfold zpUpd zpPut
  split <;> rfl

theorem zpGet_zpUpd_other {p j : Nat} (hp : p < 2) (hj : j < 2) (h : j ≠ p) (f : Zp → Zp) (s : State) : zpGet (zpUpd p f s) j = zpGet s j :=
  zpGet_zpPut_other hp hj h _ s

/-- A new frame, whose header has been handled before or is not forwarded, is taken. -/
theorem frameIn_takes {s : State} {p : Nat} (hp2 : p < 2) {f : ZlFrame} (hu : portUp s p = true) (hh : zlHcrcOk f = true)
    (hc : zlCrcOk f = true) (ha : zlAccepts s f = true) (hf : (zpGet s p).hdr = true ∨ zlForwards s p f = false)
    (hs : ∀ e ∈ s.zl.seen, e.1 ≠ f.src) (ho : ownSrc s f = false ∨ f.type = 3) : frameIn p f s = (true, taken p f s) := by
  have h1 := zpUpd_frame p (fun x => { x with hdr := false }) s
  have hcf : (zpUpd p (fun x => { x with hdr := false }) s).cf = s.cf := h1.same .cf
  have hz := zpUpd_zl p (fun x => { x with hdr := false }) s
  have hi : (zpUpd p (fun x => { x with hdr := false }) s).zl.inConflict = s.zl.inConflict := by rw [hz]
  have hacc := zlAccepts_congr hcf hi f
  have hfw := zlForwards_congr hcf hi (zpGet_zpUpd_other hp2 (other_lt hp2).1 (other_lt hp2).2 _ s) f
  have hseen : seenBefore (zpUpd p (fun x => { x with frames := satAdd 32 x.frames 1 }) (zpUpd p (fun x => { x with hdr := false }) s)) f = false := by
    unfold seenBefore
    rw [zpUpd_zl, hz]
    refine List.any_eq_false.2 fun e he => ?_
    simp [hs e he]
  have hown : ownSrc (noteSeen f (zpUpd p (fun x => { x with frames := satAdd 32 x.frames 1 }) (zpUpd p (fun x => { x with hdr := false }) s))) f =
      ownSrc s f := ownSrc_of_cf (((zpUpd_frame ..).same .cf).trans hcf) f
  unfold frameIn
  dsimp only
  rw [if_neg (by simp [hu]), if_neg (by simp [hh]), if_neg (c := (!(zpGet s p).hdr && _) = true), if_neg (by simp [hc]), hacc,
    if_neg (by simp [ha]), hseen, hown, if_neg (by simp), if_neg, zpUpd_zpUpd]
  · rfl
  · obtain ho | ho := ho <;> simp [ho]
  · rw [hfw]
    obtain hf | hf := hf <;> simp [hf]

theorem linkFrame_takes {s : State} {p : Nat} {f : ZlFrame} (hr : frameIn p f s = (true, taken p f s)) :
    linkFrame f.type p f s = takeLinkFrame p f (taken p f s) := by
  unfold linkFrame
  rw [if_pos rfl, hr]
  rfl

theorem taken_frame (p : Nat) (f : ZlFrame) (s : State) : Frame [.zl] s (taken p f s) :=
  (zpUpd_frame ..).trans (Frame.of (l := [.zl]))

theorem taken_zl (p : Nat) (f : ZlFrame) (s : State) :
    (taken p f s).zl = { s.zl with p0 := (taken p f s).zl.p0, p1 := (taken p f s).zl.p1, seen := (taken p f s).zl.seen } := by
  unfold taken noteSeen
  dsimp only
  rw [zpUpd_zl]

/-! ### HELLO -/

/-- The HELLO's device is noted as `d`; where it was not present the coordinator runs. -/
def helloNoted (d : Dev) (f : ZlFrame) (s : State) : State :=
  if (present s).contains f.src then { s with zl := { s.zl with devs := mput s.zl.devs f.src d } }
  else coordRun { s with zl := { s.zl with devs := mput s.zl.devs f.src d } }

/-- What a HELLO says of its device at port `p`. -/
def SaidBy (f : ZlFrame) (p : Nat) (s : State) (d : Dev) : Prop :=
  d.at_ = s.sys.now ∧ d.hops = f.hops + 1 ∧ d.nonce = leAt f.body 4 4 ∧ d.port = p

theorem takeHello_notes {s : State} {p : Nat} {f : ZlFrame} (hn : ownSrc s f = false ∨ helloConflict s f = true) (hu : f.unasg = false) :
    ∃ d w, SaidBy f p s d ∧ w = helloNoted d f s ∧ takeHello p f s = if helloConflict w f = true then
      raise evZlConflict { w with zl := { w.zl with conflict := true, inConflict := true, lastConflict := s.sys.now } }
    else w := by
  unfold takeHello
  extract_lets n now twin d known z v w
  have hw : w = helloNoted d f s := by
    unfold w v
    rw [hu, Bool.false_or, if_neg Bool.false_ne_true]
    rfl
  refine ⟨d, w, ⟨rfl, rfl, rfl, rfl⟩, hw, ?_⟩
  clear_value w
  rw [if_neg (by obtain hn | hn := hn <;> simp [hn])]

theorem helloNoted_frame (d : Dev) (f : ZlFrame) (s : State) : Frame [.zl, .ac] s (helloNoted d f s) := by
  unfold helloNoted
  split
  · exact .of
  · exact Frame.trans (l := [.zl]) .of (coordRun_frame _)

theorem helloNoted_zl (d : Dev) (f : ZlFrame) (s : State) : (helloNoted d f s).zl.nonce = s.zl.nonce ∧
    mlook (helloNoted d f s).zl.devs f.src = some d := by
  unfold helloNoted
  split
  · exact ⟨rfl, mlook_mput_same ..⟩
  · rw [coordRun_zl]
    exact ⟨rfl, mlook_mput_same ..⟩

theorem helloConflict_noted (d : Dev) (f : ZlFrame) (s : State) : helloConflict (helloNoted d f s) f = helloConflict s f := by
  unfold helloConflict
  rw [ownSrc_of_cf ((helloNoted_frame d f s).same .cf), (helloNoted_zl d f s).1]

theorem raise_zl (j : Nat) (s : State) : (raise j s).zl = s.zl := (raise_frame j s).same .zl

theorem raised {s : State} {z : Zl} (hm : s.sys.mgmtUp = true) : bget (raise evZlConflict { s with zl := z }).ed.evt evZlConflict = true :=
  raise_evt (s := { s with zl := z }) hm (by decide)

/-- A HELLO with this device's address and another NONCE is a conflict. -/
theorem takeHello_conflict {s : State} {p : Nat} {f : ZlFrame} (hm : s.sys.mgmtUp = true) (hu : f.unasg = false)
    (hc : helloConflict s f = true) : (takeHello p f s).zl.conflict = true ∧ (takeHello p f s).zl.inConflict = true ∧
      (takeHello p f s).zl.lastConflict = s.sys.now ∧ bget (takeHello p f s).ed.evt evZlConflict = true := by
  obtain ⟨d, w, -, hw, he⟩ := takeHello_notes (p := p) (.inr hc) hu
  have hm' : w.sys.mgmtUp = true := hw ▸ ((helloNoted_frame d f s).same .mgmtUp).trans hm
  rw [he, if_pos (hw ▸ (helloConflict_noted d f s).trans hc), raise_zl]
  exact ⟨rfl, rfl, rfl, raised hm'⟩

/-! ### O52 -/

theorem hello_conflicts (s : State) (t : Nat) (p : Fin 2) (f : ZlFrame) (hu : portUp s p = true) (hh : zlHcrcOk f = true)
    (hc : zlCrcOk f = true) (ht : f.type = 3) (hd : f.dmode = 2) (ho : ownSrc s f = true) (hn : leAt f.body 4 4 ≠ s.zl.nonce.toNat)
    (hs : ∀ e ∈ s.zl.seen, e.1 ≠ f.src) (hm : s.sys.mgmtUp = true) : Answers (.zlHelloFrame t p f) s fun u => u.zl.conflict = true ∧
      u.zl.inConflict = true ∧ u.zl.lastConflict = (advance t s).sys.now ∧ bget u.ed.evt evZlConflict = true ∧ Kept u s := by
  have ho' : ownSrc (advance t s) f = true := ho
  have hacc : zlAccepts (advance t s) f = true := by
    unfold zlAccepts typeOk
    rw [ht, hd]
    rfl
  have hfw : zlForwards (advance t s) p f = false := by simp [zlForwards, ho']
  have hr := frameIn_takes (s := advance t s) p.isLt hu hh hc hacc (.inr hfw) hs (.inr ht)
  have hl := linkFrame_takes hr
  have hf := taken_frame p f (advance t s)
  have hz := taken_zl p f (advance t s)
  have hcon : helloConflict (taken p f (advance t s)) f = true := by
    unfold helloConflict
    rw [ownSrc_of_cf (hf.same .cf), ho', hz]
    simpa using hn
  have hua : f.unasg = false := by
    unfold ownSrc at ho
    simp only [Bool.and_eq_true, Bool.not_eq_true'] at ho
    exact ho.1.2
  obtain ⟨h1, h2, h3, h4⟩ := takeHello_conflict (p := p) ((hf.same .mgmtUp).trans hm) hua hcon
  rw [ht] at hl
  have htake : takeLinkFrame p f (taken p f (advance t s)) = takeHello p f (taken p f (advance t s)) := by
    unfold takeLinkFrame
    rw [ht]
    rfl
  have he := hl.trans htake
  refine ⟨_, congrArg Host.Outcome.next he, h1, h2, h3.trans (congrArg Sys.now (hf.same .sys)), h4, ?_⟩
  rw [Kept, ← he, linkFrame_guarded, advance_guarded]

section TimeSet

variable {s : State} (t : Nat) (v : BitVec 64) (hm : s.sys.mgmtUp = true) (hv : s.sup.vstate ≠ 2)
include hm hv

/-- O52: on the master TIME_SET sets system time. -/
theorem timeSet_sets (h : s.zl.master = true) : Answers (.timeSet t v) s fun u => RespondedTo .host 0x1400 5 8 0 s u ∧
    u = { advance t s with sys := { (advance t s).sys with sysTime := v, slewLeft := 0 }, dc := u.dc } := by
  have hr : timeSetRun v (advance t s) = (0, { advance t s with sys := { (advance t s).sys with sysTime := v, slewLeft := 0 } }) := if_pos h
  have he := (writeCmd_up (s := advance t s) hm hv .host 0x1400 5 8 (timeSetRun v)).trans (congrArg (answerWrite .host 0x1400 5 8) hr)
  exact ⟨_, congrArg Host.Outcome.next (he.trans (answer_host (s := { advance t s with sys := { (advance t s).sys with sysTime := v, slewLeft := 0 } }) hm hv _)), rfl, rfl⟩

/-- O52: elsewhere it is refused. -/
theorem timeSet_refused (h : s.zl.master = false) : Answers (.timeSet t v) s fun u => RespondedTo .host 0x1400 5 8 0x0610 s u ∧
    u = { advance t s with dc := u.dc } := by
  have hr : timeSetRun v (advance t s) = (0x0610, advance t s) := if_neg fun h' => Bool.noConfusion (h.symm.trans h')
  have he := (writeCmd_up (s := advance t s) hm hv .host 0x1400 5 8 (timeSetRun v)).trans (congrArg (answerWrite .host 0x1400 5 8) hr)
  exact ⟨_, congrArg Host.Outcome.next (he.trans (answer_host (s := advance t s) hm hv _)), rfl, rfl⟩

end TimeSet

theorem zlIdWrite_clears (w : Word) (s : State) :
    zlIdWrite w.toNat s = { s with zl := { s.zl with conflict := s.zl.conflict && !w.getLsbD 17 } } := by
  unfold zlIdWrite
  rw [bitAt_eq_getLsbD]
  cases w.getLsbD 17
  · rw [Bool.not_false, Bool.and_true]
    rfl
  · rw [Bool.not_true, Bool.and_false]
    rfl

/-- Settles O52: it holds. -/
theorem zeleyAddressesAndTime : Obligations.ZeleyAddressesAndTime := by
  unfold Obligations.ZeleyAddressesAndTime
  exact ⟨hello_conflicts, fun s t v w => ⟨fun hm hv => ⟨timeSet_sets t v hm hv, timeSet_refused t v hm hv⟩,
    _, congrArg Host.Outcome.next (zlIdWrite_clears w s), rfl⟩⟩

end Sys2Proof.Machine
end

section
/-! PROOF. O51: the frames that the device sends of itself, and TIME, HELLO and PDELAY frames that it takes. -/

namespace Sys2Proof.Machine

-- One after another the proofs need less memory than all at once.
set_option Elab.async false

/-! ### Frames sent -/

/-- A frame that this device originates on its ports leaves an idle one of them as it is sent. -/
theorem originate_sends {s v : State} {l : List Nat} {p : Nat} (hl : ∀ j ∈ l, j < 2) (hm : p ∈ l) (hnd : l.Nodup)
    (hc : v.cf = s.cf) (hq : v.zl.seq = s.zl.seq) (hu : portUp v p = true) (hb : portBusy v p = false) (ty dm : Nat) (b : List Byte)
    {u : State} (ho : u.zl.out = (originate ty dm 0 l b v).zl.out) : Sends p ty dm s u := by
  obtain ⟨f, hf, h1, h2, -, h3, h4, h5, h6, h7, -⟩ := originate_leaves hl hm hnd hu hb ty dm 0 b
  exact ⟨f, ho ▸ hf, h1, h2, h3.trans (zlAddr_of_cf hc), h4.trans hq, h5, h6, h7⟩

theorem max_earliest_own (n : Nat) (f : ZlFrame) : max n (earliest ⟨f, none⟩) = n := Nat.max_eq_left (Nat.zero_le _)

/-- The departure of a PDELAY request is t1 of its exchange. -/
theorem originate_pdelay {p : Nat} (hp : p < 2) {s : State} (hu : portUp s p = true) (hb : portBusy s p = false) (b : List Byte)
    (h0 : leAt b 0 1 = 0) : (zpGet (originate 6 3 0 [p] b s) p).pdT1 = some s.sys.now := by
  obtain ⟨v, -, -, -, he⟩ := foldl_portSend_leaves (l := [p]) (by simpa using hp) (List.mem_singleton.2 rfl) (List.nodup_singleton _)
    (s := { s with zl := { s.zl with seq := (s.zl.seq + 1) % 65536 } }) hu hb ⟨ownFrame 6 3 0 b s, none⟩
  have hr : originate 6 3 0 [p] b s = _ := he rfl
  rw [hr, max_earliest_own]
  have hd : departing { s with zl := { s.zl with seq := (s.zl.seq + 1) % 65536 } } ⟨ownFrame 6 3 0 b s, none⟩ s.sys.now = ownFrame 6 3 0 b s := by
    unfold departing
    exact (if_neg fun h : (6 : Nat) = 1 => absurd h (by decide)).trans (if_neg fun h => absurd (h0.symm.trans h.2.2) (by decide))
  unfold transmit
  dsimp only
  rw [hd]
  exact (congrArg Zp.pdT1 (zpGet_zpUpd_same p _ _)).trans (if_pos ⟨rfl, h0⟩)

/-- The body of a HELLO. -/
def helloBody (s : State) : List Byte :=
  leBytes 4 (ident s) ++ leBytes 4 s.zl.nonce.toNat ++ leBytes 1 s.pw.st ++
    leBytes 1 (s.zl.sync.toNat + 2 * s.zl.master.toNat + 4 * (coordActive s).toNat) ++ leBytes 2 0

/-- A HELLO has been sent. -/
def helloSent (s : State) : State :=
  let s := originate 3 2 0 (upPorts s) (helloBody s) s
  { s with zl := { s.zl with lastHello := some s.sys.now } }

theorem helloSend_due {s : State} (hm : s.sys.mgmtUp = true) (hn : (upPorts s).isEmpty = false)
    (hd : periodPassed s.zl.lastHello secNs s = true) : helloSend s = helloSent s :=
  if_pos (by rw [hm, hn, hd]; rfl)

section Sent

variable {s : State} (t : Nat) (p : Fin 2)

section Idle

variable (hu : portUp s p = true) (hb : portBusy (advance t s) p = false)
include hu hb

/-- O51: HELLO every second. -/
theorem helloSend_sends (hm : s.sys.mgmtUp = true) (hd : periodPassed s.zl.lastHello secNs (advance t s) = true) :
    Answers (.zlHelloSend t) s fun u => Sends p 3 2 s u ∧ u.zl.lastHello = some (advance t s).sys.now ∧ Kept u s := by
  have hmem : p.val ∈ upPorts (advance t s) := mem_upPorts p.isLt hu
  have hne : (upPorts (advance t s)).isEmpty = false := by
    rw [List.isEmpty_eq_false_iff]
    exact List.ne_nil_of_mem hmem
  have he := helloSend_due (s := advance t s) hm hne hd
  have hf := (originate_sending 3 2 0 (upPorts (advance t s)) (helloBody (advance t s)) (advance t s)).frame
  refine ⟨_, congrArg Host.Outcome.next he, ?_, ?_, ?_⟩
  · exact originate_sends (v := advance t s) (fun j hj => upPorts_lt hj) hmem (upPorts_nodup _) rfl rfl hu hb 3 2 (helloBody (advance t s)) rfl
  · exact congrArg (fun x : Sys => some x.now) (hf.same .sys)
  · rw [Kept, ← he, helloSend_guarded, advance_guarded]

/-- O51: TIME every 10 ms. -/
theorem timeSend_sends (hm : s.zl.master = true) (hd : periodPassed s.zl.timeAt (10 * msNs) (advance t s) = true) :
    Answers (.zlTimeSend t) s fun u => Sends p 1 2 s u ∧ u.zl.timeAt = some (advance t s).sys.now ∧ Kept u s := by
  have hmem : p.val ∈ upPorts (advance t s) := mem_upPorts p.isLt hu
  have he : timeSend (advance t s) = originate 1 2 0 (upPorts (advance t s)) (List.replicate 16 0)
      { advance t s with zl := { s.zl with timeAt := some (advance t s).sys.now } } := if_pos (Bool.and_eq_true_iff.2 ⟨hm, hd⟩)
  refine ⟨_, congrArg Host.Outcome.next he, ?_, ?_, ?_⟩
  · exact originate_sends (v := { advance t s with zl := { s.zl with timeAt := some (advance t s).sys.now } })
      (fun j hj => upPorts_lt hj) hmem (upPorts_nodup _) rfl rfl hu hb 1 2 _ rfl
  · exact congrArg Zl.timeAt (originate_sending ..).zl
  · rw [Kept, ← he, timeSend_guarded, advance_guarded]

/-- O51: PDELAY every second. -/
theorem pdelaySend_sends (hd : periodPassed (zpGet s p).pdAt secNs (advance t s) = true) : Answers (.zlPdelaySend t p) s fun u =>
    Sends p 6 3 s u ∧ (zpGet u p).pdT1 = some (advance t s).sys.now ∧ (zpGet u p).pdAt = some (advance t s).sys.now ∧ Kept u s := by
  have he : pdelaySend p (advance t s) = originate 6 3 0 [p] (List.replicate 20 0)
      (zpUpd p (fun x => { x with pdAt := some (advance t s).sys.now }) (advance t s)) := if_pos (Bool.and_eq_true_iff.2 ⟨hu, hd⟩)
  have hf := zpUpd_frame p (fun x => { x with pdAt := some (advance t s).sys.now }) (advance t s)
  have hz := zpUpd_zl p (fun x => { x with pdAt := some (advance t s).sys.now }) (advance t s)
  have hg := zpGet_zpUpd_same p (fun x => { x with pdAt := some (advance t s).sys.now }) (advance t s)
  have hsys : (zpUpd p (fun x => { x with pdAt := some (advance t s).sys.now }) (advance t s)).sys = (advance t s).sys := hf.same .sys
  generalize zpUpd p (fun x => { x with pdAt := some (advance t s).sys.now }) (advance t s) = v at *
  have hu' : portUp v p = true := by
    unfold portUp
    rw [hg]
    exact hu
  have hb' : portBusy v p = false := by
    unfold portBusy
    rw [hg, hsys]
    exact hb
  refine ⟨_, congrArg Host.Outcome.next he, ?_, ?_, ?_, ?_⟩
  · exact originate_sends (by simpa using p.isLt) (List.mem_singleton.2 rfl) (List.nodup_singleton _) (hf.same .cf)
      (congrArg Zl.seq hz :) hu' hb' 6 3 _ rfl
  · exact (originate_pdelay p.isLt hu' hb' _ (by decide)).trans (by rw [hsys])
  · refine (congrArg Zp.pdAt ((originate_sending ..).port p)).trans ?_
    rw [hg]
  · rw [Kept, ← he, pdelaySend_guarded, advance_guarded]

end Idle

theorem helloSend_waits (hd : periodPassed s.zl.lastHello secNs (advance t s) = false) : Answers (.zlHelloSend t) s fun u => u = advance t s := by
  have hd' : periodPassed (advance t s).zl.lastHello secNs (advance t s) = false := hd
  exact ⟨_, congrArg Host.Outcome.next (if_neg (by rw [hd', Bool.and_false]; exact Bool.false_ne_true)), rfl⟩

theorem timeSend_waits (hd : periodPassed s.zl.timeAt (10 * msNs) (advance t s) = false) :
    Answers (.zlTimeSend t) s fun u => u = advance t s := by
  have hd' : periodPassed (advance t s).zl.timeAt (10 * msNs) (advance t s) = false := hd
  exact ⟨_, congrArg Host.Outcome.next (if_neg (by rw [hd', Bool.and_false]; exact Bool.false_ne_true)), rfl⟩

theorem pdelaySend_waits (hd : periodPassed (zpGet s p).pdAt secNs (advance t s) = false) :
    Answers (.zlPdelaySend t p) s fun u => u = advance t s := by
  have hd' : periodPassed (zpGet (advance t s) p).pdAt secNs (advance t s) = false := hd
  exact ⟨_, congrArg Host.Outcome.next (if_neg (by rw [hd', Bool.and_false]; exact Bool.false_ne_true)), rfl⟩

theorem conflictEnd_due {s : State} (hi : s.zl.inConflict = true) (hd : s.zl.lastConflict + 3 * secNs ≤ s.sys.now) :
    conflictEnd s = { s with zl := { s.zl with inConflict := false } } := if_pos (Bool.and_eq_true_iff.2 ⟨hi, decide_eq_true hd⟩)

/-- O51: a conflict ends 3 s after its last HELLO. -/
theorem conflictEnd_ends (hi : s.zl.inConflict = true) (hd : s.zl.lastConflict + 3 * secNs ≤ (advance t s).sys.now) :
    Answers (.zlConflictEnd t) s fun u => u = { advance t s with zl := { s.zl with inConflict := false } } :=
  ⟨_, congrArg Host.Outcome.next (conflictEnd_due (s := advance t s) hi (by rw [advance_zl]; exact hd)), rfl⟩

theorem syncTimeout_due {s : State} (hs : s.zl.sync = true) (hm : s.zl.master = false) (hd : s.zl.lastTime + 100 * msNs ≤ s.sys.now) :
    syncTimeout s = syncLost s := if_pos (by rw [hm, hs, decide_eq_true hd]; rfl)

/-- O51: synchronisation is lost 100 ms after the last TIME frame. -/
theorem syncTimeout_ends (hs : s.zl.sync = true) (hm : s.zl.master = false) (hd : s.zl.lastTime + 100 * msNs ≤ (advance t s).sys.now) :
    Answers (.zlSyncTimeout t) s fun u => u = { advance t s with zl := { s.zl with sync := false, stepDue := true, goodRun := 0 } } :=
  ⟨_, congrArg Host.Outcome.next (syncTimeout_due (s := advance t s) hs hm (by rw [advance_zl]; exact hd)), rfl⟩

/-- The state of a device that becomes master, before the coordinator runs. -/
def masterNow (s : State) : State := { s with zl := { s.zl with master := true, sync := true, mhops := 0, maddr := zlAddr s } }

theorem masterTimeout_due {s : State} (hm : s.sys.mgmtUp = true) (hc : cfgN s 0x1400 3 = 1) (ha : zlAssigned s = true)
    (hn : s.zl.master = false) (hd : s.zl.lastLower + 50 * msNs ≤ s.sys.now) : masterTimeout s = coordRun (masterNow s) :=
  if_pos (by rw [hm, hc, ha, hn, decide_eq_true hd]; rfl)

/-- O51: mastership after 50 ms without a TIME frame from a lower address. -/
theorem masterTimeout_takes (hm : s.sys.mgmtUp = true) (hc : cfgN s 0x1400 3 = 1) (ha : zlAssigned s = true) (hn : s.zl.master = false)
    (hd : s.zl.lastLower + 50 * msNs ≤ (advance t s).sys.now) : Answers (.zlMasterTimeout t) s fun u =>
      u.zl.master = true ∧ u.zl.sync = true ∧ u.zl.mhops = 0 ∧ u.zl.maddr = zlAddr s ∧ Kept u s := by
  have he := masterTimeout_due (s := advance t s) hm hc ha hn (by rw [advance_zl]; exact hd)
  have hz := coordRun_zl (masterNow (advance t s))
  refine ⟨_, congrArg Host.Outcome.next he, ?_, ?_, ?_, ?_, ?_⟩
  · exact (congrArg Zl.master hz :)
  · exact (congrArg Zl.sync hz :)
  · exact (congrArg Zl.mhops hz :)
  · exact (congrArg Zl.maddr hz :)
  · rw [Kept, ← he, masterTimeout_guarded, advance_guarded]

end Sent

/-! ### TIME frames taken -/

/-- OFS of a TIME frame on port `p`: this device's time at its SOF, less the estimate that the frame gives (R401). -/
def timeOfs (p : Nat) (f : ZlFrame) (s : State) : Int :=
  ((s.sys.sysTime.toNat : Int) - frameNs f) - ((leAt f.body 0 8 : Int) + ((leAt f.body 8 8 + (zpGet s p).delayPs) / 1000 : Nat))

def timeGood (p : Nat) (f : ZlFrame) (s : State) : Nat := if (timeOfs p f s).natAbs ≤ 200 then s.zl.goodRun + 1 else 0

/-- A TIME frame has been noted. -/
def timeNoted (p : Nat) (f : ZlFrame) (s : State) : State :=
  { s with zl := { s.zl with ofs := satS 32 (timeOfs p f s), mhops := f.hops + 1, maddr := f.src, goodRun := min 4 (timeGood p f s) } }

/-- System time steps. -/
def timeStepped (ofs : Int) (s : State) : State :=
  { s with
    sys := { s.sys with sysTime := s.sys.sysTime + BitVec.ofInt 64 (-ofs), slewLeft := 0 }
    zl := { s.zl with sync := false, stepDue := false, timesteps := satAdd 16 s.zl.timesteps 1 } }

/-- System time slews; `got` = synchronisation is gained. -/
def timeSlewed (ofs : Int) (got : Bool) (s : State) : State :=
  { s with sys := { s.sys with slewLeft := -ofs, slewEnd := s.sys.now + secNs }, zl := { s.zl with sync := s.zl.sync || got } }

def timeGot (p : Nat) (f : ZlFrame) (s : State) : Bool := !s.zl.sync && decide (4 ≤ timeGood p f s)

theorem followTime_steps {p : Nat} {f : ZlFrame} {s : State} (h : s.zl.stepDue = true ∨ 1000 < (timeOfs p f s).natAbs) :
    followTime p f s = localEdge 20 (lmStepped (timeStepped (timeOfs p f s) (timeNoted p f s))) :=
  if_pos (by rw [Bool.or_eq_true, decide_eq_true_iff]; exact h)

theorem followTime_slews {p : Nat} {f : ZlFrame} {s : State} (h : s.zl.stepDue = false) (ho : (timeOfs p f s).natAbs ≤ 1000) :
    followTime p f s = if timeGot p f s then coordRun (timeSlewed (timeOfs p f s) (timeGot p f s) (timeNoted p f s))
      else timeSlewed (timeOfs p f s) (timeGot p f s) (timeNoted p f s) := by
  refine if_neg ?_
  rw [Bool.or_eq_true, decide_eq_true_iff]
  exact fun hc => hc.elim (fun h' => Bool.noConfusion (h.symm.trans h')) fun h' => absurd h' (by unfold timeOfs at ho; exact Nat.not_lt.2 ho)

/-- What a step leaves. -/
theorem followTime_step_leaves {p : Nat} {f : ZlFrame} {s : State} (h : s.zl.stepDue = true ∨ 1000 < (timeOfs p f s).natAbs) :
    (followTime p f s).zl = (timeStepped (timeOfs p f s) (timeNoted p f s)).zl ∧
    (followTime p f s).sys.sysTime = s.sys.sysTime - BitVec.ofInt 64 (timeOfs p f s) ∧ (followTime p f s).lm.sinks = 0 := by
  have hf := localEdge_frame 20 (lmStepped (timeStepped (timeOfs p f s) (timeNoted p f s)))
  rw [followTime_steps h]
  refine ⟨hf.same .zl, (congrArg Sys.sysTime (hf.same .sys)).trans ?_, congrArg Lm.sinks (hf.same .lm)⟩
  show s.sys.sysTime + BitVec.ofInt 64 (-timeOfs p f s) = _
  rw [BitVec.ofInt_neg, BitVec.sub_eq_add_neg]

/-- What a slew leaves. -/
theorem followTime_slew_leaves {p : Nat} {f : ZlFrame} {s : State} (h : s.zl.stepDue = false) (ho : (timeOfs p f s).natAbs ≤ 1000) :
    (∃ a b n d o, (followTime p f s).zl =
      { (timeSlewed (timeOfs p f s) (timeGot p f s) (timeNoted p f s)).zl with p0 := a, p1 := b, seq := n, qdrop := d, out := o }) ∧
    (followTime p f s).sys = { s.sys with slewLeft := -timeOfs p f s, slewEnd := s.sys.now + secNs } := by
  rw [followTime_slews h ho]
  split
  · exact ⟨⟨_, _, _, _, _, coordRun_zl _⟩, (coordRun_frame _).same .sys⟩
  · exact ⟨⟨_, _, _, _, _, rfl⟩, rfl⟩

/-- Synchronisation is gained by the fourth good frame in a row. -/
theorem timeSlewed_sync {p : Nat} {f : ZlFrame} {s : State} (ho : (timeOfs p f s).natAbs ≤ 200) (hg : 3 ≤ s.zl.goodRun) :
    (timeSlewed (timeOfs p f s) (timeGot p f s) (timeNoted p f s)).zl.sync = true := by
  have hd : decide (4 ≤ timeGood p f s) = true := decide_eq_true (by rw [timeGood, if_pos ho]; omega)
  show (s.zl.sync || timeGot p f s) = true
  rw [timeGot, hd]
  cases s.zl.sync <;> rfl

/-- The instant of a TIME frame is noted. -/
def timeHeard (f : ZlFrame) (s : State) : State :=
  { s with zl := { s.zl with
      lastTime := s.sys.now, lastLower := if !zlAssigned s || decide (f.src < zlAddr s) then s.sys.now else s.zl.lastLower } }

theorem takeTime_follows {p : Nat} {f : ZlFrame} {s : State} (hm : s.zl.master = false) : takeTime p f s = followTime p f (timeHeard f s) := by
  have hm' : (timeHeard f s).zl.master = false := hm
  unfold takeTime
  dsimp only
  refine (if_neg (by rw [hm]; exact Bool.false_ne_true)).trans ?_
  exact congrArg (followTime p f) (if_neg (by rw [hm]; exact Bool.false_ne_true))

/-! ### New frames -/

section New

variable {s : State} (t : Nat) {p : Fin 2} {f : ZlFrame}

theorem takes_new (hn : NewFrame p f (advance t s)) (hh : (zpGet s p).hdr = true) :
    frameIn p f (advance t s) = (true, taken p f (advance t s)) := by
  obtain ⟨hu, hhc, hcc, ha, ho, hs⟩ := hn
  exact frameIn_takes p.isLt hu hhc hcc ha (.inl hh) hs (.inl ho)

theorem zpGet_taken (q : Nat) (s : State) : zpGet (taken q f s) q =
    { zpGet s q with hdr := false, frames := satAdd 32 (zpGet s q).frames 1 } := zpGet_zpUpd_same q _ s

theorem timeOfs_taken (q : Nat) (s : State) : timeOfs q f (timeHeard f (taken q f s)) = timeOfs q f s := by
  have hs : (taken q f s).sys = s.sys := (taken_frame q f s).same .sys
  have hz : zpGet (timeHeard f (taken q f s)) q = _ := zpGet_taken (f := f) q s
  unfold timeOfs
  rw [hz, show (timeHeard f (taken q f s)).sys = s.sys from hs]

variable (hn : NewFrame p f (advance t s)) (hh : (zpGet s p).hdr = true)
include hn hh

/-- O51: a TIME frame at a device that is not master. -/
theorem timeFrame_follows (ht : f.type = 1) (hm : s.zl.master = false) : Answers (.zlTimeFrame t p f) s fun u =>
    Kept u s ∧ u.zl.lastTime = (advance t s).sys.now ∧ u.zl.maddr = f.src ∧ u.zl.mhops = f.hops + 1 ∧
    (s.zl.stepDue = true ∨ 1000 < (timeOfs p f (advance t s)).natAbs →
      u.sys.sysTime = (advance t s).sys.sysTime - BitVec.ofInt 64 (timeOfs p f (advance t s)) ∧ u.zl.sync = false ∧
      u.zl.stepDue = false ∧ u.zl.timesteps = satAdd 16 s.zl.timesteps 1 ∧ u.lm.sinks = 0) ∧
    (s.zl.stepDue = false → (timeOfs p f (advance t s)).natAbs ≤ 1000 → u.sys.sysTime = (advance t s).sys.sysTime ∧
      u.sys.slewLeft = -timeOfs p f (advance t s) ∧ u.sys.slewEnd = (advance t s).sys.now + secNs ∧
      ((timeOfs p f (advance t s)).natAbs ≤ 200 → 3 ≤ s.zl.goodRun → u.zl.sync = true)) := by
  have hz := taken_zl p f (advance t s)
  have hsys : (taken p f (advance t s)).sys = (advance t s).sys := (taken_frame p f (advance t s)).same .sys
  have hm' : (taken p f (advance t s)).zl.master = false := (congrArg Zl.master hz :).trans hm
  have hsd : (taken p f (advance t s)).zl.stepDue = s.zl.stepDue := (congrArg Zl.stepDue hz :)
  have hgr : (taken p f (advance t s)).zl.goodRun = s.zl.goodRun := (congrArg Zl.goodRun hz :)
  have hts : (taken p f (advance t s)).zl.timesteps = s.zl.timesteps := (congrArg Zl.timesteps hz :)
  have hofs := timeOfs_taken (f := f) p (advance t s)
  have hl := linkFrame_takes (takes_new t hn hh)
  have htake : takeLinkFrame p f (taken p f (advance t s)) = takeTime p f (taken p f (advance t s)) := by
    unfold takeLinkFrame
    rw [ht]
    rfl
  rw [ht] at hl
  have he := (hl.trans htake).trans (takeTime_follows hm')
  refine ⟨_, congrArg Host.Outcome.next he, ?_⟩
  have hk : Kept (followTime p f (timeHeard f (taken p f (advance t s)))) s := by
    rw [Kept, ← he, linkFrame_guarded, advance_guarded]
  generalize hv : timeHeard f (taken p f (advance t s)) = v at *
  have hvz : v.zl.lastTime = v.sys.now ∧ v.zl.stepDue = s.zl.stepDue ∧ v.zl.goodRun = s.zl.goodRun ∧
      v.zl.timesteps = s.zl.timesteps := by
    subst hv
    exact ⟨rfl, hsd, hgr, hts⟩
  have hvs : v.sys = (advance t s).sys := by
    subst hv
    exact hsys
  obtain ⟨hlt, hvd, hvg, hvt⟩ := hvz
  rw [← hofs, ← hvd, ← hvg, ← hvt, ← hvs]
  dsimp only
  by_cases hstep : v.zl.stepDue = true ∨ 1000 < (timeOfs p f v).natAbs
  · obtain ⟨h1, h2, h3⟩ := followTime_step_leaves hstep
    rw [h1]
    refine ⟨hk, hlt, rfl, rfl, fun _ => ⟨h2, rfl, rfl, rfl, h3⟩, fun h ho => ?_⟩
    exact absurd hstep (by rw [h]; simpa using ho)
  · obtain ⟨hd, ho⟩ := not_or.1 hstep
    obtain ⟨⟨_, _, _, _, _, h1⟩, h2⟩ := followTime_slew_leaves (by simpa using hd) (Nat.not_lt.1 ho)
    rw [h1, h2]
    exact ⟨hk, hlt, rfl, rfl, fun h => absurd h hstep, fun _ _ => ⟨rfl, rfl, rfl, fun ho2 hg => timeSlewed_sync ho2 hg⟩⟩

/-- O51: a HELLO is noted. -/
theorem helloFrame_noted (ht : f.type = 3) (hu : f.unasg = false) : Answers (.zlHelloFrame t p f) s fun u => Kept u s ∧
    ∃ v, mlook u.zl.devs f.src = some v ∧ v.at_ = (advance t s).sys.now ∧ v.hops = f.hops + 1 ∧ v.nonce = leAt f.body 4 4 ∧ v.port = p := by
  have hsys : (taken p f (advance t s)).sys = (advance t s).sys := (taken_frame p f (advance t s)).same .sys
  have ho : ownSrc (taken p f (advance t s)) f = false := (ownSrc_of_cf ((taken_frame p f (advance t s)).same .cf) f).trans hn.2.2.2.2.1
  have hl := linkFrame_takes (takes_new t hn hh)
  have htake : takeLinkFrame p f (taken p f (advance t s)) = takeHello p f (taken p f (advance t s)) := by
    unfold takeLinkFrame
    rw [ht]
    rfl
  rw [ht] at hl
  obtain ⟨d, w, ⟨hat, hhops, hnonce, hport⟩, hw, hd⟩ := takeHello_notes (p := p) (.inl ho) hu
  have hc : ¬ helloConflict w f = true := by
    rw [hw, helloConflict_noted, helloConflict, ho]
    exact Bool.false_ne_true
  have he := ((hl.trans htake).trans hd).trans (if_neg hc)
  refine ⟨w, congrArg Host.Outcome.next he, ?_, d, ?_, ?_, hhops, hnonce, hport⟩
  · rw [Kept, ← he, linkFrame_guarded, advance_guarded]
  · rw [hw]
    exact (helloNoted_zl d f _).2
  · rw [hat, hsys]

/-- O51: a PDELAY response gives the link delay. -/
theorem pdelayFrame_measures {t1 : Nat} (ht : f.type = 6) (hb : leAt f.body 0 1 ≠ 0) (h1 : (zpGet s p).pdT1 = some t1) :
    Answers (.zlPdelayFrame t p f) s fun u => Kept u s ∧ (zpGet u p).pdT1 = none ∧ (zpGet u p).delayPs =
      ((((((advance t s).sys.now - frameNs f : Nat) : Int) - t1 - ((leAt f.body 12 8 : Int) - leAt f.body 4 8)) * 500).toNat) := by
  have hsys : (taken p f (advance t s)).sys = (advance t s).sys := (taken_frame p f (advance t s)).same .sys
  have hpd : (zpGet (taken p f (advance t s)) p).pdT1 = some t1 := (congrArg Zp.pdT1 (zpGet_taken p.val (advance t s))).trans h1
  have hl := linkFrame_takes (takes_new t hn hh)
  have htake : takeLinkFrame p f (taken p f (advance t s)) = takePdelay p f (taken p f (advance t s)) := by
    unfold takeLinkFrame
    rw [ht]
    rfl
  rw [ht] at hl
  have hpdelay : takePdelay p f (taken p f (advance t s)) = zpUpd p (fun x => { x with pdT1 := none, delayPs :=
      (((((taken p f (advance t s)).sys.now - frameNs f : Nat) : Int) - t1 - ((leAt f.body 12 8 : Int) - leAt f.body 4 8)) * 500).toNat })
      (taken p f (advance t s)) := by
    unfold takePdelay
    dsimp only
    rw [if_neg hb, hpd]
  have he := (hl.trans htake).trans hpdelay
  refine ⟨_, congrArg Host.Outcome.next he, ?_, ?_, ?_⟩
  · rw [Kept, ← he, linkFrame_guarded, advance_guarded]
  · exact congrArg Zp.pdT1 (zpGet_zpUpd_same ..)
  · refine (congrArg Zp.delayPs (zpGet_zpUpd_same ..)).trans ?_
    rw [hsys]

end New

/-- Settles O51: it holds. -/
theorem zeleyFrames : Obligations.ZeleyFrames := by
  unfold Obligations.ZeleyFrames
  refine ⟨fun s t p => ⟨fun hu hb => ⟨helloSend_sends t p hu hb, timeSend_sends t p hu hb, pdelaySend_sends t p hu hb⟩, helloSend_waits t,
    timeSend_waits t, pdelaySend_waits t p, conflictEnd_ends t, masterTimeout_takes t, syncTimeout_ends t⟩, ?_⟩
  intro s t p f hn A own ofs hh
  exact ⟨timeFrame_follows t hn hh, helloFrame_noted t hn hh, fun t1 => pdelayFrame_measures t hn hh⟩

end Sys2Proof.Machine
end

section
/-! PROOF. O50: the ports of the link, their queues, and the forwarding of frames. -/

namespace Sys2Proof.Machine

-- One after another the proofs need less memory than all at once.
set_option Elab.async false

/-! ### Ports -/

theorem zpPut_eq (p : Nat) (x : Zp) (s : State) : zpPut p x s = { s with zl := (zpPut p x s).zl } := by
  unfold zpPut
  split <;> rfl

/-- A change of a port's record that is raised. -/
theorem raised_port (p : Nat) (x : Zp) (s : State) : PortBecomes p x s (raise evZlPort (zpPut p x s)) := by
  have hz := raise_zl evZlPort (zpPut p x s)
  refine ⟨?_, (zpGet_of_zl hz p).trans (zpGet_zpPut_same ..), hz⟩
  obtain ⟨e, he⟩ := raise_distributorOnly evZlPort (zpPut p x s)
  rw [he]
  conv_lhs => rw [zpPut_eq]

theorem portSyncing_due {p : Nat} {s : State} (hl : linkOn s = true) (h0 : (zpGet s p).st = 0) :
    portSyncing p s = raise evZlPort (zpPut p { zpGet s p with st := 1, commaAt := s.sys.now } s) :=
  if_pos (by rw [hl, h0]; rfl)

theorem linkOn_mgmtUp {s : State} (h : linkOn s = true) : s.sys.mgmtUp = true := by
  unfold linkOn at h
  simp only [Bool.and_eq_true] at h
  exact h.1.1.1

theorem zpPut_mgmtUp (p : Nat) (x : Zp) (s : State) : (zpPut p x s).sys = s.sys := by
  rw [zpPut_eq]

theorem portGoesUp_due {p : Nat} {s : State} (h1 : (zpGet s p).st = 1) (hd : (zpGet s p).commaAt + 10000 ≤ s.sys.now) :
    portGoesUp p s = raise evZlPort (zpPut p { zpGet s p with st := 2 } s) := if_pos ⟨h1, hd⟩

/-- A port that goes DOWN holds nothing; the other is as it was. -/
theorem portDown_isDown {p : Nat} (hp : p < 2) {s : State} (h : (zpGet s p).st ≠ 0) : PortIsDown p (zpGet s p).codeerr s (portDown p s) := by
  have he : portDown p s = raise evZlPort { zpPut p { zpGet s p with
      st := 0, q := [], busyTo := 0, hdr := false, pdT1 := none, pdAt := none } s with zl := { (zpPut p { zpGet s p with
      st := 0, q := [], busyTo := 0, hdr := false, pdT1 := none, pdAt := none } s).zl with downs := satAdd 16 (zpPut p { zpGet s p with
      st := 0, q := [], busyTo := 0, hdr := false, pdT1 := none, pdAt := none } s).zl.downs 1 } } := if_neg h
  generalize hx : { zpGet s p with st := 0, q := [], busyTo := 0, hdr := false, pdT1 := none, pdAt := none } = x at he
  have hs := zpPut_eq p x s
  have hdn : (zpPut p x s).zl.downs = s.zl.downs := by
    unfold zpPut
    split <;> rfl
  have hg := zpGet_zpPut_same p x s
  have ho := zpGet_zpPut_other hp (other_lt hp).1 (other_lt hp).2 x s
  generalize zpPut p x s = v at he hs hdn hg ho
  have hz := raise_zl evZlPort { v with zl := { v.zl with downs := satAdd 16 v.zl.downs 1 } }
  obtain ⟨e, hr⟩ := raise_distributorOnly evZlPort { v with zl := { v.zl with downs := satAdd 16 v.zl.downs 1 } }
  rw [he]
  have hget : ∀ j, zpGet (raise evZlPort { v with zl := { v.zl with downs := satAdd 16 v.zl.downs 1 } }) j = zpGet v j := by
    intro j
    rw [zpGet_of_zl hz]
    rfl
  refine ⟨?_, ?_, ?_, ?_, ?_, (hget _).trans ho, ?_⟩
  · rw [hr, hs]
  · rw [hget, hg, ← hx]
  · rw [hget, hg, ← hx]
  · rw [hget, hg, ← hx]
  · rw [hget, hg, ← hx]
  · rw [hz]
    exact congrArg (satAdd 16 · 1) hdn

/-- Code errors take the port DOWN and are counted. -/
theorem codeErrors_isDown {p : Nat} (hp : p < 2) {s : State} (h : (zpGet s p).st ≠ 0) :
    PortIsDown p (satAdd 16 (zpGet s p).codeerr 4) s (codeErrors p s) := by
  have he : codeErrors p s = portDown p (zpUpd p (fun x => { x with codeerr := satAdd 16 x.codeerr 4 }) s) := if_neg h
  have hg := zpGet_zpUpd_same p (fun x => { x with codeerr := satAdd 16 x.codeerr 4 }) s
  have ho := zpGet_zpUpd_other hp (other_lt hp).1 (other_lt hp).2 (fun x => { x with codeerr := satAdd 16 x.codeerr 4 }) s
  have hz := zpUpd_zl p (fun x => { x with codeerr := satAdd 16 x.codeerr 4 }) s
  have hs : zpUpd p (fun x => { x with codeerr := satAdd 16 x.codeerr 4 }) s = { s with zl := _ } := zpPut_eq ..
  rw [he]
  generalize zpUpd p (fun x => { x with codeerr := satAdd 16 x.codeerr 4 }) s = v at hg ho hz hs ⊢
  obtain ⟨h1, h2, h3, h4, h5, h6, h7⟩ := portDown_isDown hp (s := v) (by rw [hg]; exact h)
  refine ⟨?_, h2, h3, h4, h5.trans (by rw [hg]), h6.trans ho, h7.trans (by rw [hz])⟩
  rw [h1, hs]

section Ports

variable {s : State} (t : Nat) (p : Fin 2)

theorem portSyncing_syncs (hl : linkOn s = true) (h0 : (zpGet s p).st = 0) : Answers (.zlPortSyncing t p) s fun u =>
    PortBecomes p { zpGet s p with st := 1, commaAt := (advance t s).sys.now } (advance t s) u ∧ bget u.ed.evt evZlPort = true := by
  have hl' : linkOn (advance t s) = true := hl
  refine ⟨_, congrArg Host.Outcome.next (portSyncing_due (s := advance t s) hl' h0), raised_port .., raise_evt ?_ (by decide)⟩
  rw [zpPut_mgmtUp]
  exact linkOn_mgmtUp hl'

theorem portGoesUp_up (h1 : (zpGet s p).st = 1) (hd : (zpGet s p).commaAt + 10000 ≤ (advance t s).sys.now) :
    Answers (.zlPortUp t p) s fun u => PortBecomes p { zpGet s p with st := 2 } (advance t s) u :=
  ⟨_, congrArg Host.Outcome.next (portGoesUp_due (s := advance t s) h1 (by rw [zpGet_of_zl (advance_zl t s)]; exact hd)), raised_port ..⟩

theorem commaTimeout_due {p : Nat} {s : State} (hh : (zpGet s p).hdr = false) (hd : (zpGet s p).commaAt + 20000 ≤ s.sys.now) :
    commaTimeout p s = portDown p s :=
  if_neg (by rw [hh, decide_eq_false (Nat.not_lt.2 hd)]; exact Bool.false_ne_true)

theorem commaTimeout_down (h : (zpGet s p).st ≠ 0) (hh : (zpGet s p).hdr = false)
    (hd : (zpGet s p).commaAt + 20000 ≤ (advance t s).sys.now) :
    Answers (.zlCommaTimeout t p) s (PortIsDown p (zpGet s p).codeerr (advance t s)) :=
  ⟨_, congrArg Host.Outcome.next (commaTimeout_due (s := advance t s) hh (by rw [zpGet_of_zl (advance_zl t s)]; exact hd)),
    portDown_isDown (s := advance t s) p.isLt h⟩

theorem commaTimeout_inFrame (hh : (zpGet s p).hdr = true) : Answers (.zlCommaTimeout t p) s fun u => u = advance t s := by
  have hh' : (zpGet (advance t s) p).hdr = true := hh
  exact ⟨_, congrArg Host.Outcome.next (if_pos (by rw [hh']; rfl)), rfl⟩

theorem frameTooLong_counts (hu : portUp s p = true) : Answers (.zlFrameTooLong t p) s fun u => u = zpPut p
    { zpGet s p with codeerr := satAdd 16 (zpGet s p).codeerr 1, hdr := false, commaAt := (advance t s).sys.now } (advance t s) :=
  ⟨_, congrArg Host.Outcome.next (if_pos hu), rfl⟩

end Ports

/-! ### The queue -/

/-- The next frame: the first TIME frame, else the first COMMIT frame, else the first. -/
theorem nextFrame_first {q : List ZlQ} (h : q ≠ []) : ∃ i x, nextFrame q = some i ∧ q[i]? = some x ∧
    ((∃ y ∈ q, y.f.type = 1) → x.f.type = 1) ∧ ((∀ y ∈ q, y.f.type ≠ 1) → (∃ y ∈ q, y.f.type = 2) → x.f.type = 2) ∧
    ∀ j y, j < i → q[j]? = some y → y.f.type ≠ x.f.type := by
  unfold nextFrame
  cases h1 : q.findIdx? (fun x => x.f.type == 1) with
  | some i =>
    obtain ⟨hi, hx, hb⟩ := List.findIdx?_eq_some_iff_getElem.1 h1
    have hx' : q[i].f.type = 1 := beq_iff_eq.1 hx
    refine ⟨i, q[i], rfl, List.getElem?_eq_getElem hi, fun _ => hx', fun hn => absurd hx' (hn _ (List.getElem_mem hi)), fun j y hj hy => ?_⟩
    obtain ⟨hjl, rfl⟩ := List.getElem?_eq_some_iff.1 hy
    rw [hx']
    simpa using hb j hj
  | none =>
    have hn : ∀ y ∈ q, y.f.type ≠ 1 := fun y hy => by simpa using List.findIdx?_eq_none_iff.1 h1 y hy
    cases h2 : q.findIdx? (fun x => x.f.type == 2) with
    | some i =>
      obtain ⟨hi, hx, hb⟩ := List.findIdx?_eq_some_iff_getElem.1 h2
      have hx' : q[i].f.type = 2 := beq_iff_eq.1 hx
      refine ⟨i, q[i], rfl, List.getElem?_eq_getElem hi, fun ⟨y, hy, h⟩ => absurd h (hn y hy), fun _ _ => hx', fun j y hj hy => ?_⟩
      obtain ⟨hjl, rfl⟩ := List.getElem?_eq_some_iff.1 hy
      rw [hx']
      simpa using hb j hj
    | none =>
      have hn2 : ∀ y ∈ q, y.f.type ≠ 2 := fun y hy => by simpa using List.findIdx?_eq_none_iff.1 h2 y hy
      have he : ¬ q.isEmpty = true := by simpa using h
      cases q with
      | nil => exact absurd rfl h
      | cons x q =>
        exact ⟨0, x, if_neg he, rfl, fun ⟨y, hy, h⟩ => absurd h (hn y hy), fun _ ⟨y, hy, h⟩ => absurd h (hn2 y hy),
          fun j y hj => absurd hj (Nat.not_lt_zero j)⟩

theorem transmit_zl (p : Nat) (x : ZlQ) (a : Nat) (s : State) :
    (transmit p x a s).zl.out = s.zl.out ++ [(p, departing s x a)] ∧ zpGet (transmit p x a s) p = { zpGet s p with
      busyTo := a + frameNs (departing s x a)
      pdT1 := if (departing s x a).type = 6 ∧ leAt (departing s x a).body 0 1 = 0 then some a else (zpGet s p).pdT1
      rd := (groupsOf (frameGroups (departing s x a)) (zpGet s p).rd).2
      wire := (groupsOf (frameGroups (departing s x a)) (zpGet s p).rd).1 } := by
  unfold transmit
  dsimp only
  exact ⟨by rw [zpUpd_zl], zpGet_zpUpd_same ..⟩

theorem queuedSend_sends {p i : Nat} {x : ZlQ} {s : State} (hd : (zpGet s p).busyTo ≤ s.sys.now) (hi : nextFrame (zpGet s p).q = some i)
    (hx : (zpGet s p).q[i]? = some x) : queuedSend p s =
      transmit p x (max s.sys.now (earliest x)) (zpPut p { zpGet s p with q := (zpGet s p).q.eraseIdx i } s) := by
  unfold queuedSend
  dsimp only
  rw [if_neg (Nat.not_lt.2 hd), hi]
  dsimp only
  rw [hx]

theorem queuedSend_waits {p : Nat} {s : State} (h : (zpGet s p).q = [] ∨ s.sys.now < (zpGet s p).busyTo) : queuedSend p s = s := by
  unfold queuedSend
  dsimp only
  obtain h | h := h
  · rw [h]
    exact ite_self s
  · exact if_pos h

section Queue

variable {s : State} (t : Nat) (p : Fin 2)

/-- O50: a port that becomes free sends TIME before COMMIT before all others, in arrival order. -/
theorem queuedFrame_leaves (hq : (zpGet s p).q ≠ []) (hd : (zpGet s p).busyTo ≤ (advance t s).sys.now) :
    Answers (.zlQueuedFrameSend t p) s fun u => ∃ i x, (zpGet s p).q[i]? = some x ∧
    (zpGet u p).q = (zpGet s p).q.eraseIdx i ∧ u.zl.out = s.zl.out ++ [(p.val, departing (advance t s) x (max (advance t s).sys.now (earliest x)))] ∧
    (zpGet u p).busyTo = max (advance t s).sys.now (earliest x) + frameNs (departing (advance t s) x (max (advance t s).sys.now (earliest x))) ∧
    (zpGet u p).wire = (groupsOf (frameGroups (departing (advance t s) x (max (advance t s).sys.now (earliest x)))) (zpGet s p).rd).1 ∧
    ((∃ y ∈ (zpGet s p).q, y.f.type = 1) → x.f.type = 1) ∧
    ((∀ y ∈ (zpGet s p).q, y.f.type ≠ 1) → (∃ y ∈ (zpGet s p).q, y.f.type = 2) → x.f.type = 2) ∧
    ∀ j y, j < i → (zpGet s p).q[j]? = some y → y.f.type ≠ x.f.type := by
  obtain ⟨i, x, hi, hx, h1, h2, h3⟩ := nextFrame_first hq
  have hdep := departing_congr (s := advance t s) (u := zpPut p { zpGet s p with q := (zpGet s p).q.eraseIdx i } (advance t s))
    (by rw [zpPut_mgmtUp]) x (max (advance t s).sys.now (earliest x))
  have hg := zpGet_zpPut_same p { zpGet s p with q := (zpGet s p).q.eraseIdx i } (advance t s)
  have ho : (zpPut p { zpGet s p with q := (zpGet s p).q.eraseIdx i } (advance t s)).zl.out = s.zl.out := by
    unfold zpPut
    split <;> rfl
  obtain ⟨hout, hget⟩ := transmit_zl p x (max (advance t s).sys.now (earliest x))
    (zpPut p { zpGet s p with q := (zpGet s p).q.eraseIdx i } (advance t s))
  refine ⟨_, congrArg Host.Outcome.next (queuedSend_sends (s := advance t s) hd hi hx), i, x, hx, ?_, ?_, ?_, ?_, h1, h2, h3⟩
  · exact (congrArg Zp.q hget).trans (congrArg Zp.q hg)
  · exact hout.trans (by rw [ho, hdep])
  · exact (congrArg Zp.busyTo hget).trans (by rw [hdep])
  · exact (congrArg Zp.wire hget).trans (by rw [hdep, hg])

end Queue

/-! ### Forwarding -/

/-- A frame sent on has a right HCRC, and its CRC-32C holds where the one received held. -/
theorem zlRewrite_checks (f g : ZlFrame) : zlHcrcOk (zlRewrite f g) = true ∧ zlCrcOk (zlRewrite f g) = zlCrcOk f := by
  refine ⟨beq_iff_eq.2 rfl, ?_⟩
  have hc : zlCrc (zlRewrite f g) = zlCrc (zlSeal g) := rfl
  have hs : (zlRewrite f g).crc = (zlSeal g).crc ^^^ f.crc ^^^ zlCrc f := rfl
  have hg : (zlSeal g).crc = zlCrc (zlSeal g) := rfl
  unfold zlCrcOk
  rw [hc, hs, ← hg, BitVec.xor_assoc]
  generalize (zlSeal g).crc = a
  generalize zlCrc f = b
  generalize f.crc = c
  rw [Bool.eq_iff_iff, beq_iff_eq, beq_iff_eq]
  constructor
  · intro h
    have h' : c ^^^ b = 0#32 := by
      have := congrArg (a ^^^ ·) h
      simpa [← BitVec.xor_assoc] using this
    exact BitVec.xor_eq_zero_iff.1 h'
  · rintro rfl
    simp

theorem departing_forwarded (s : State) {f g : ZlFrame} (h1 : f.type ≠ 1) (ht : g.type = f.type) (a : Nat × Nat) (n : Nat) :
    departing s ⟨g, some a⟩ n = g := by
  unfold departing
  dsimp only
  rw [if_neg (ht ▸ h1), if_neg (fun h => by cases h.2.1)]

theorem forward_idle {p n : Nat} {f : ZlFrame} {s : State} (hb : portBusy s (1 - p) = false) : ∃ v, v.sys = s.sys ∧ v.zl.out = s.zl.out ∧
    v.zl.p0 = s.zl.p0 ∧ v.zl.p1 = s.zl.p1 ∧ forward p n f s = transmit (1 - p) ⟨zlRewrite f { f with hops := f.hops + 1 }, some (n, (zpGet v p).delayPs)⟩
      (n + hopNs (zlRewrite f { f with hops := f.hops + 1 })) v := by
  unfold forward
  extract_lets long z v x
  refine ⟨v, ?_, ?_, ?_, ?_, ?_⟩
  · unfold v; split <;> rfl
  · unfold v; split <;> rfl
  · unfold v; split <;> rfl
  · unfold v; split <;> rfl
  · have hv : portBusy v (1 - p) = false := by
      unfold v
      split <;> exact hb
    rw [if_neg (by rw [hv]; exact Bool.false_ne_true)]
    rfl

section Headers

variable {s : State} (t : Nat) (p : Fin 2) {f : ZlFrame} (hu : portUp s p = true)
include hu

theorem headerReceive_up : headerReceive p f (advance t s) =
    if zlHcrcOk f && zlForwards (zpUpd p (fun x => { x with hdr := true }) (advance t s)) p f then
      forward p ((zpUpd p (fun x => { x with hdr := true }) (advance t s)).sys.now - 880) f (zpUpd p (fun x => { x with hdr := true }) (advance t s))
    else zpUpd p (fun x => { x with hdr := true }) (advance t s) := by
  have hu' : portUp (advance t s) p = true := hu
  unfold headerReceive
  rw [if_neg (by rw [hu']; exact Bool.false_ne_true)]

omit hu in
theorem zlForwards_hdr : zlForwards (zpUpd p (fun x => { x with hdr := true }) (advance t s)) p f = zlForwards s p f :=
  zlForwards_congr (s := advance t s) ((zpUpd_frame ..).same .cf) (by rw [zpUpd_zl])
    (zpGet_zpUpd_other p.isLt (other_lt p.isLt).1 (other_lt p.isLt).2 ..) f

/-- O50: a header is forwarded to an idle port, with one more hop. -/
theorem header_forwarded (hh : zlHcrcOk f = true) (hf : zlForwards s p f = true) (h1 : f.type ≠ 1)
    (hb : portBusy (advance t s) (1 - p) = false) : Answers (.zlHeaderReceive t p f) s fun u =>
    ∃ g, u.zl.out = s.zl.out ++ [(1 - p.val, g)] ∧ g = { f with hops := f.hops + 1, hcrc := g.hcrc, crc := g.crc } ∧
      zlHcrcOk g = true ∧ zlCrcOk g = zlCrcOk f ∧
      (zpGet u (1 - p)).busyTo = (advance t s).sys.now - 880 + (if 1024 < frameSize f then 1040 else 1000) + frameNs f ∧
      (zpGet u p).hdr = true ∧ u.sys.now = (advance t s).sys.now := by
  have he := headerReceive_up t p (f := f) hu
  rw [zlForwards_hdr t p, hh, hf, if_pos (by rfl)] at he
  have hz := zpUpd_zl p.val (fun x => { x with hdr := true }) (advance t s)
  have hsys : (zpUpd p.val (fun x => { x with hdr := true }) (advance t s)).sys = (advance t s).sys := (zpUpd_frame ..).same .sys
  have hp := zpGet_zpUpd_same p.val (fun x => { x with hdr := true }) (advance t s)
  have ho := zpGet_zpUpd_other p.isLt (other_lt p.isLt).1 (other_lt p.isLt).2 (fun x => { x with hdr := true }) (advance t s)
  generalize zpUpd p.val (fun x => { x with hdr := true }) (advance t s) = w at he hz hsys hp ho
  obtain ⟨v, hvs, hvo, hv0, hv1, hfw⟩ := forward_idle (p := p) (n := w.sys.now - 880) (f := f) (s := w)
    ((portBusy_congr ho (by rw [hsys])).trans hb)
  have hvg : ∀ j, zpGet v j = zpGet w j := by
    intro j
    unfold zpGet
    rw [hv0, hv1]
  have hdep := departing_forwarded v (g := zlRewrite f { f with hops := f.hops + 1 }) h1 rfl (w.sys.now - 880, (zpGet v p).delayPs)
    (w.sys.now - 880 + hopNs (zlRewrite f { f with hops := f.hops + 1 }))
  obtain ⟨hout, hget⟩ := transmit_zl (1 - p) ⟨zlRewrite f { f with hops := f.hops + 1 }, some (w.sys.now - 880, (zpGet v p).delayPs)⟩
    (w.sys.now - 880 + hopNs (zlRewrite f { f with hops := f.hops + 1 })) v
  rw [hdep] at hout hget
  obtain ⟨hc1, hc2⟩ := zlRewrite_checks f { f with hops := f.hops + 1 }
  refine ⟨_, congrArg Host.Outcome.next (he.trans hfw), zlRewrite f { f with hops := f.hops + 1 }, ?_, rfl, hc1, hc2, ?_, ?_, ?_⟩
  · rw [hout, hvo, hz]
    rfl
  · refine (congrArg Zp.busyTo hget).trans ?_
    rw [hsys]
    rfl
  · have hne : p.val ≠ 1 - p.val := (other_lt p.isLt).2.symm
    rw [zpGet_transmit_other (other_lt p.isLt).1 p.isLt hne, hvg, hp]
  · rw [show (transmit _ _ _ v).sys = v.sys from (transmit_linkOnly ..).frame.same .sys, hvs, hsys]

theorem header_kept (h : zlHcrcOk f = false ∨ zlForwards s p f = false) : Answers (.zlHeaderReceive t p f) s fun u =>
    u = zpPut p { zpGet s p with hdr := true } (advance t s) := by
  have he := headerReceive_up t p (f := f) hu
  rw [zlForwards_hdr t p, if_neg (by obtain h | h := h <;> simp [h])] at he
  exact ⟨_, congrArg Host.Outcome.next he, rfl⟩

end Headers

/-- Settles O50: it holds. -/
theorem zeleyPortsAndForwarding : Obligations.ZeleyPortsAndForwarding := by
  unfold Obligations.ZeleyPortsAndForwarding
  refine ⟨fun s t p => ⟨portSyncing_syncs t p, portGoesUp_up t p, fun h => ⟨?_, commaTimeout_down t p h⟩, commaTimeout_inFrame t p,
    frameTooLong_counts t p⟩, fun s t p f => ⟨fun h => ?_, queuedFrame_leaves t p, fun hu hh hf h1 _ hb => header_forwarded t p hu hh hf h1 hb,
    header_kept t p⟩⟩
  · exact ⟨_, rfl, codeErrors_isDown (s := advance t s) p.isLt h⟩
  · exact ⟨_, congrArg Host.Outcome.next (queuedSend_waits (s := advance t s) h), rfl⟩

end Sys2Proof.Machine
end

section
/-! PROOF. O53 and O54: the dictionary's requests. -/

namespace Sys2Proof.Machine

-- One after another the proofs need less memory than all at once.
set_option Elab.async false

/-! ### Requests and replies -/

/-- The operations of Table 18.6, on a state without expired transfers. -/
def dictServe (op : Nat) (p : Path) (r : DictReq) (s : State) : State :=
  match op with
  | 1 => dictRead p r s | 2 => dictReadSeg p r s | 3 => dictWrite p r s | 4 => dictWriteSeg p r s | 5 => dictCancel p r s
  | _ => say p op r (freeNow s % 2 ^ 16) 0 (drawn s)

theorem dictRequest_fresh {op : Nat} {p : Path} {r : DictReq} {s : State} (h : Fresh op p r s) :
    dictRequest op p r s = dictServe op p r (xferPrune s) := by
  obtain ⟨hm, hv, hr, ha⟩ := h
  unfold dictRequest
  rw [if_neg (by rw [hostUp_of hm hv]; exact Bool.false_ne_true), hr]
  dsimp only
  rw [if_neg (by rw [ha]; exact Bool.false_ne_true)]
  rfl

theorem Fresh.running {op : Nat} {p : Path} {r : DictReq} {s : State} (h : Fresh op p r s) : (xferPrune s).sys.mgmtUp = true := h.1

theorem Fresh.unsaved {op : Nat} {p : Path} {r : DictReq} {s : State} (h : Fresh op p r s) : (xferPrune s).sup.vstate ≠ 2 := h.2.1

/-- Only the response has been noted and left: the open transfers stay. -/
def Replied (p : Path) (x : DictRsp) (s u : State) : Prop := OnlyServer s u ∧ Says p x s u ∧ u.dc.xfers = s.dc.xfers

theorem respond_replies {s : State} (hm : s.sys.mgmtUp = true) (hv : s.sup.vstate ≠ 2) (p : Path) (op : Nat) (r : DictReq) (x : DictRsp) :
    Replied p x s (respond p op r x s) := by
  unfold respond Replied OnlyServer Says
  extract_lets keep
  obtain ⟨z, hz⟩ := answer_says (s := { s with dc := { s.dc with prev := (p, op, s.sys.now, r, x) :: keep } }) hm hv p x
  rw [hz]
  exact ⟨rfl, rfl, rfl⟩

theorem say_replies {s : State} (hm : s.sys.mgmtUp = true) (hv : s.sup.vstate ≠ 2) (p : Path) (op : Nat) (r : DictReq) (ab v : Nat) :
    Replied p (rspTo op r ab v) s (say p op r ab v s) := respond_replies hm hv ..

/-- The open transfers of the state before do not count. -/
theorem Replied.server {p : Path} {x : DictRsp} {l : List Xfer} {s u : State} (h : Replied p x { s with dc := { s.dc with xfers := l } } u) :
    OnlyServer s u ∧ Says p x s u := by
  obtain ⟨h1, h2, -⟩ := h
  exact ⟨h1, h2⟩

theorem xferOf_congr {s u : State} (h : u.dc.xfers = s.dc.xfers) (p : Path) (r : DictReq) : xferOf u p r = xferOf s p r := by
  unfold xferOf
  rw [h]

theorem xferOf_xferDrop (p : Path) (r : DictReq) (s : State) : xferOf (xferDrop p r.tid s) p r = none := by
  refine List.find?_eq_none.2 fun x hx => ?_
  obtain ⟨-, hk⟩ := List.mem_filter.1 hx
  simpa only [Bool.not_eq_true', Bool.not_eq_true] using hk

/-- A transfer opened after the one before is gone is the one of its path and TID. -/
theorem xferOf_reopened {p : Path} {r : DictReq} {s u : State} {x y : Xfer} (h : xferOf s p r = some x) (hp : y.path = x.path) (ht : y.tid = x.tid)
    (hu : u.dc.xfers = (xferDrop p r.tid s).dc.xfers ++ [y]) : xferOf u p r = some y := by
  have hx : (y.path == p && y.tid == r.tid) = true := by rw [hp, ht]; exact List.find?_some (p := fun x : Xfer => x.path == p && x.tid == r.tid) h
  have hn : (xferDrop p r.tid s).dc.xfers.find? (fun x => x.path == p && x.tid == r.tid) = none := xferOf_xferDrop p r s
  unfold xferOf
  rw [hu, List.find?_append, hn, List.find?_cons, hx]
  rfl

/-! ### READ and READ_SEG -/

section
variable {s : State} {p : Path} {r : DictReq} {o : Obj}

theorem dictRead_unlocated (hl : (locate s r.index r.sub).2 = none) : dictRead p r s = say p 1 r (locate s r.index r.sub).1 0 s := by
  unfold dictRead
  dsimp only
  rw [hl]

theorem dictRead_refuses (hl : (locate s r.index r.sub).2 = some o) (ho : o.acc = .wo ∨ o.acc = .wos) :
    dictRead p r s = say p 1 r 0x0610 0 s := by
  unfold dictRead
  dsimp only
  rw [hl]
  exact if_pos (by rcases ho with ho | ho <;> rw [ho] <;> rfl)

theorem readable {o : Obj} (h1 : o.acc ≠ .wo) (h2 : o.acc ≠ .wos) : ¬(o.acc == Acc.wo || o.acc == Acc.wos) = true := by
  simp [h1, h2]

/-- A read in a session keeps it. -/
def readKeeps (o : Obj) (p : Path) (s : State) : State := if o.acc == .rws then touchSession p s else s

theorem readKeeps_eq (o : Obj) (p : Path) (s : State) : ∃ x, readKeeps o p s = { s with sess := x } := by
  unfold readKeeps
  split
  · exact touchSession_eq ..
  · exact ⟨_, rfl⟩

theorem judged_read (h2 : o.acc ≠ .wos) : judged false o p r s = readKeeps o p (xferPrune s) := by
  have hn : needsSession o = (o.acc == .rws) := by simp [needsSession, h2]
  unfold judged
  rw [hn]
  rfl

theorem dictRead_reads (hl : (locate s r.index r.sub).2 = some o) (h1 : o.acc ≠ .wo) (h2 : o.acc ≠ .wos)
    (hi : ¬(r.index = 0x1700 ∧ r.sub % 16 = 5)) {v : List Byte} (hr : objRead (readKeeps o p s) o r.index r.sub = (0, v))
    (hv : v.length ≤ 992) : dictRead p r s = respond p 1 r (rspTo 1 r 0 v.length v)
      (objReadDone r.index r.sub (xferDrop p r.tid (readKeeps o p s))) := by
  unfold dictRead
  dsimp only
  rw [hl]
  dsimp only
  rw [if_neg (readable h1 h2), if_neg hi]
  rw [show objRead (if o.acc == .rws then touchSession p s else s) o r.index r.sub = (0, v) from hr]
  dsimp only
  rw [if_neg (fun h => h rfl), if_pos hv]
  rfl

theorem dictReadSeg_reads (hl : (locate s r.index r.sub).2 = some o) (h1 : o.acc ≠ .wo) (h2 : o.acc ≠ .wos) {x : Xfer}
    (hx : xferOf s p r = some x) (hw : x.write = false) (hk : x.key = okey r.index r.sub) (ho : r.val % 992 = 0) (hv : r.val < x.total) :
    dictReadSeg p r s = respond p 2 r (rspTo 2 r 0 r.val (segment x.data r.val))
      (if x.total ≤ r.val + 992 then xferDrop p r.tid s else xferOpen { x with last := s.sys.now } (xferDrop p r.tid s)) := by
  unfold dictReadSeg
  dsimp only
  rw [hl]
  dsimp only
  rw [if_neg (readable h1 h2), hx]
  dsimp only
  rw [if_neg (by simp [hw, hk, ho, hv])]
  rfl

end

theorem clearFresh_frame (a : Nat) (s : State) : Frame [.res, .ed] s (clearFresh a s) := by
  unfold clearFresh
  dsimp only
  split
  · exact Frame.trans (l := [.res]) .of (edSync_frame ..)
  · exact .of

theorem objReadDone_frame (i sub : Nat) (s : State) : Frame [.res, .ed] s (objReadDone i sub s) := by
  unfold objReadDone
  refine .foldl (fun s a => ?_) ..
  split
  · exact clearFresh_frame ..
  · exact .refl ..

section
variable {s : State} {t : Nat} {p : Path} {r : DictReq} {o : Obj}

theorem read_unlocated (h : Fresh 1 p r (advance t s)) (hl : (locate s r.index r.sub).2 = none) : Answers (.dictRead t p r) s fun u =>
    OnlyServer (advance t s) u ∧ Says p (rspTo 1 r (locate s r.index r.sub).1 0) s u :=
  ⟨_, congrArg Host.Outcome.next ((dictRequest_fresh h).trans (dictRead_unlocated (s := xferPrune (advance t s)) hl)), (say_replies h.running h.unsaved ..).server⟩

theorem read_refused (h : Fresh 1 p r (advance t s)) (hl : (locate s r.index r.sub).2 = some o) (ho : o.acc = .wo ∨ o.acc = .wos) :
    Answers (.dictRead t p r) s fun u => OnlyServer (advance t s) u ∧ Says p (rspTo 1 r 0x0610 0) s u :=
  ⟨_, congrArg Host.Outcome.next ((dictRequest_fresh h).trans (dictRead_refuses (s := xferPrune (advance t s)) hl ho)), (say_replies h.running h.unsaved ..).server⟩

theorem read_shows (h : Fresh 1 p r (advance t s)) (hl : (locate s r.index r.sub).2 = some o) (h1 : o.acc ≠ .wo) (h2 : o.acc ≠ .wos)
    (hi : ¬(r.index = 0x1700 ∧ r.sub % 16 = 5)) {v : List Byte} (hr : objRead (judged false o p r (advance t s)) o r.index r.sub = (0, v))
    (hv : v.length ≤ 992) : Answers (.dictRead t p r) s fun u => Kept u s ∧ Says p (rspTo 1 r 0 v.length v) s u := by
  rw [judged_read h2] at hr
  have he := (dictRequest_fresh h).trans (dictRead_reads (s := xferPrune (advance t s)) hl h1 h2 hi hr hv)
  have hk : Kept (dictRequest 1 p r (advance t s)) s := by
    rw [Kept, dictRequest_fresh h]
    exact (dictRead_guarded ..).trans ((xferPrune_guarded _).trans (advance_guarded ..))
  obtain ⟨x, hx⟩ := readKeeps_eq o p (xferPrune (advance t s))
  have hf := objReadDone_frame r.index r.sub (xferDrop p r.tid (readKeeps o p (xferPrune (advance t s))))
  have hd := hf.same .dc
  have hm := hf.same .mgmtUp
  have hv := hf.same .vstate
  rw [he] at hk
  refine ⟨_, congrArg Host.Outcome.next he, hk, ?_⟩
  generalize objReadDone .. = w at *
  rw [hx] at hd hm hv
  obtain ⟨-, hs, -⟩ := respond_replies (s := w) (hm.trans h.1) (fun hw => h.2.1 (hv.symm.trans hw)) p 1 r (rspTo 1 r 0 v.length v)
  exact hs.trans (congrArg (· ++ [(p, rspTo 1 r 0 v.length v)]) (congrArg (fun d : Dc => d.rsps) hd :))

theorem readSeg_continues (h : Fresh 2 p r (advance t s)) (hl : (locate s r.index r.sub).2 = some o) (h1 : o.acc ≠ .wo) (h2 : o.acc ≠ .wos)
    {x : Xfer} (hx : xferOf (xferPrune (advance t s)) p r = some x) (hw : x.write = false) (hk : x.key = okey r.index r.sub)
    (ho : r.val % 992 = 0) (hv : r.val < x.total) : Answers (.dictReadSeg t p r) s fun u => OnlyServer (advance t s) u ∧
      Says p (rspTo 2 r 0 r.val (segment x.data r.val)) s u ∧ (x.total ≤ r.val + 992 → xferOf u p r = none) ∧
      (r.val + 992 < x.total → xferOf u p r = some { x with last := (advance t s).sys.now }) := by
  have he := (dictRequest_fresh h).trans (dictReadSeg_reads (s := xferPrune (advance t s)) hl h1 h2 hx hw hk ho hv)
  refine ⟨_, congrArg Host.Outcome.next he, ?_⟩
  by_cases hn : x.total ≤ r.val + 992
  · rw [if_pos hn]
    have hr := respond_replies (s := xferDrop p r.tid (xferPrune (advance t s))) h.1 h.2.1 p 2 r (rspTo 2 r 0 r.val (segment x.data r.val))
    exact ⟨hr.server.1, hr.server.2, fun _ => (xferOf_congr hr.2.2 p r).trans (xferOf_xferDrop ..), fun hc => absurd hn (by omega)⟩
  · rw [if_neg hn]
    have hr := respond_replies (s := xferOpen { x with last := (advance t s).sys.now } (xferDrop p r.tid (xferPrune (advance t s)))) h.1 h.2.1 p 2 r
      (rspTo 2 r 0 r.val (segment x.data r.val))
    exact ⟨hr.server.1, hr.server.2, fun hc => absurd hc hn, fun _ => xferOf_reopened hx rfl rfl hr.2.2⟩

theorem read_repeats {x : DictRsp} (hm : s.sys.mgmtUp = true) (hv : s.sup.vstate ≠ 2) (hr : repeated (advance t s) p 1 r = some x) :
    Answers (.dictRead t p r) s fun u => OnlyServer (advance t s) u ∧ Says p x s u := by
  have he : dictRequest 1 p r (advance t s) = answer p x (advance t s) := by
    unfold dictRequest
    rw [if_neg (by rw [hostUp_of (s := advance t s) hm hv]; exact Bool.false_ne_true), hr]
  obtain ⟨z, hz⟩ := answer_says (s := advance t s) hm hv p x
  rw [hz] at he
  exact ⟨_, congrArg Host.Outcome.next he, rfl, rfl⟩

end

/-! ### WRITE, WRITE_SEG and CANCEL -/

section
variable {s : State} {p : Path} {r : DictReq} {o : Obj}

/-- A write in a session keeps it. -/
def writeKeeps (o : Obj) (p : Path) (s : State) : State := if needsSession o then touchSession p s else s

theorem writeKeeps_eq (o : Obj) (p : Path) (s : State) : ∃ x, writeKeeps o p s = { s with sess := x } := by
  unfold writeKeeps
  split
  · exact touchSession_eq ..
  · exact ⟨_, rfl⟩

theorem writeKeeps_guarded (o : Obj) (p : Path) (s : State) : guarded (writeKeeps o p s) = guarded s := by
  unfold writeKeeps
  split
  · exact touchSession_guarded ..
  · rfl

theorem dictWrite_unlocated (hl : (locate s r.index r.sub).2 = none) :
    dictWrite p r s = say p 3 r (locate s r.index r.sub).1 0 (xferDrop p r.tid s) := by
  unfold dictWrite
  dsimp only
  rw [hl]

theorem dictWrite_gated (hl : (locate s r.index r.sub).2 = some o) (hv : r.val ≤ 992) (hg : writeGate o p r.index r.sub r.epoch s ≠ 0)
    (hc : o.eff = .commit) : dictWrite p r s = say p 3 r (writeGate o p r.index r.sub r.epoch s) 0 (xferDrop p r.tid s) := by
  unfold dictWrite
  dsimp only
  rw [hl]
  dsimp only
  rw [if_pos hv, if_neg (by simp [hc])]
  exact if_pos hg

theorem dictWrite_whole (hl : (locate s r.index r.sub).2 = some o) (hv : r.val ≤ 992) (hg : writeGate o p r.index r.sub r.epoch s = 0)
    (hn : r.val = r.data.length) : dictWrite p r s = writeWhole o p 3 r r.data (xferDrop p r.tid s) := by
  have hg' : writeGate o p r.index r.sub r.epoch (xferDrop p r.tid s) = 0 := hg
  unfold dictWrite
  dsimp only
  rw [hl]
  dsimp only
  rw [if_pos hv, hg', if_neg (by simp), if_neg (fun h => h rfl), if_neg (fun h => h hn)]

theorem writeWhole_stages (op : Nat) (d : List Byte) (hc : o.eff = .commit) (ha : stageAbort o r.index r.sub d (writeKeeps o p s) = 0) :
    writeWhole o p op r d s = { writeKeeps o p s with cf := { s.cf with unacked := s.cf.unacked ++ [(p, { r with data := d })] } } := by
  have hk : writeKeeps o p s = if needsSession o = true then touchSession p s else s := rfl
  obtain ⟨x, hx⟩ := writeKeeps_eq o p s
  unfold writeWhole
  rw [if_pos (by rw [hc]; rfl)]
  dsimp only
  rw [← hk, ha, if_neg (fun h => h rfl), hx]

theorem writeWhole_aborts (op : Nat) (d : List Byte) (hc : o.eff = .commit) (ha : stageAbort o r.index r.sub d (writeKeeps o p s) ≠ 0) :
    writeWhole o p op r d s = say p op r (stageAbort o r.index r.sub d (writeKeeps o p s)) 0 (writeKeeps o p s) := by
  unfold writeWhole
  rw [if_pos (by rw [hc]; rfl)]
  exact if_pos ha

theorem writeWhole_acts (op : Nat) (d : List Byte) (hc : o.eff ≠ .commit) :
    writeWhole o p op r d s = say p op r (nowWrite o p r.index r.sub d s).1 d.length (nowWrite o p r.index r.sub d s).2 := by
  unfold writeWhole
  exact if_neg (by simpa using hc)

theorem dictWriteSeg_takes (hl : (locate s r.index r.sub).2 = some o) (hg : writeGate o p r.index r.sub r.epoch s = 0) {x : Xfer}
    (hx : xferOf s p r = some x) (hw : x.write = true) (hk : x.key = okey r.index r.sub) (hv : r.val = x.data.length)
    (hn : r.data.length = min 992 (x.total - x.data.length)) : dictWriteSeg p r s =
      if x.data.length + r.data.length = x.total then writeWhole o p 4 r (x.data ++ r.data) (xferDrop p r.tid s)
      else say p 4 r 0 (x.data.length + r.data.length)
        (xferOpen { x with data := x.data ++ r.data, last := (writeKeeps o p (xferDrop p r.tid s)).sys.now } (writeKeeps o p (xferDrop p r.tid s))) := by
  unfold dictWriteSeg
  dsimp only
  rw [hl]
  dsimp only
  rw [hg, if_neg (fun h => h rfl), hx]
  dsimp only
  rw [if_neg (by simp [hw, hk, ← hv, hn]), List.length_append]
  rfl

theorem dictCancel_ends (hl : (locate s r.index r.sub).2 = some o) (hx : xferOf s p r ≠ none) :
    dictCancel p r s = say p 5 r 0 0 (xferDrop p r.tid s) := by
  obtain ⟨x, hx⟩ := Option.ne_none_iff_exists'.1 hx
  unfold dictCancel
  dsimp only
  rw [hl, hx]

theorem dictCancel_misses (hl : (locate s r.index r.sub).2 = some o) (hx : xferOf s p r = none) : dictCancel p r s = say p 5 r 0x0621 0 s := by
  unfold dictCancel
  dsimp only
  rw [hl, hx]

end

section
variable {s : State} {t : Nat} {p : Path} {r : DictReq} {o : Obj}

/-- The state in which a write is judged is the time, the transfers and the session of the one before. -/
theorem judged_write (s : State) (o : Obj) (p : Path) (r : DictReq) : judged true o p r s = writeKeeps o p (xferDrop p r.tid (xferPrune s)) := rfl

theorem write_unlocated (h : Fresh 3 p r (advance t s)) (hl : (locate s r.index r.sub).2 = none) : Answers (.dictWrite t p r) s fun u =>
    OnlyServer (advance t s) u ∧ Says p (rspTo 3 r (locate s r.index r.sub).1 0) s u :=
  ⟨_, congrArg Host.Outcome.next ((dictRequest_fresh h).trans (dictWrite_unlocated (s := xferPrune (advance t s)) hl)),
    (say_replies (s := xferDrop p r.tid (xferPrune (advance t s))) h.1 h.2.1 ..).server⟩

theorem write_gated (h : Fresh 3 p r (advance t s)) (hl : (locate s r.index r.sub).2 = some o) (hv : r.val ≤ 992)
    (hg : writeGate o p r.index r.sub r.epoch s ≠ 0) (hc : o.eff = .commit) : Answers (.dictWrite t p r) s fun u =>
      OnlyServer (advance t s) u ∧ Says p (rspTo 3 r (writeGate o p r.index r.sub r.epoch s) 0) s u :=
  ⟨_, congrArg Host.Outcome.next ((dictRequest_fresh h).trans (dictWrite_gated (s := xferPrune (advance t s)) hl hv hg hc)),
    (say_replies (s := xferDrop p r.tid (xferPrune (advance t s))) h.1 h.2.1 ..).server⟩

theorem writeWhole_kept (op : Nat) (d : List Byte) (hc : o.eff = .commit) : Kept (writeWhole o p op r d s) s := by
  unfold writeWhole
  rw [if_pos (by rw [hc]; rfl), Kept]
  dsimp only
  (repeat' split) <;> simp

theorem write_staged (h : Fresh 3 p r (advance t s)) (hl : (locate s r.index r.sub).2 = some o) (hv : r.val ≤ 992)
    (hg : writeGate o p r.index r.sub r.epoch s = 0) (hn : r.val = r.data.length) (hc : o.eff = .commit)
    (ha : stageAbort o r.index r.sub r.data (judged true o p r (advance t s)) = 0) : Answers (.dictWrite t p r) s fun u =>
      u.cf = { s.cf with unacked := s.cf.unacked ++ [(p, r)] } ∧ u.dc.rsps = s.dc.rsps ∧ Kept u s := by
  have he := (dictRequest_fresh h).trans (dictWrite_whole (s := xferPrune (advance t s)) hl hv hg hn)
  rw [judged_write] at ha
  refine ⟨_, congrArg Host.Outcome.next he, ?_, ?_, ?_⟩
  · rw [writeWhole_stages 3 r.data hc ha]
    rfl
  · obtain ⟨x, hx⟩ := writeKeeps_eq o p (xferDrop p r.tid (xferPrune (advance t s)))
    rw [writeWhole_stages 3 r.data hc ha, hx]
    rfl
  · exact (writeWhole_kept 3 r.data hc).trans ((xferDrop_guarded ..).trans ((xferPrune_guarded _).trans (advance_guarded ..)))

theorem write_unstaged (h : Fresh 3 p r (advance t s)) (hl : (locate s r.index r.sub).2 = some o) (hv : r.val ≤ 992)
    (hg : writeGate o p r.index r.sub r.epoch s = 0) (hn : r.val = r.data.length) (hc : o.eff = .commit)
    (ha : stageAbort o r.index r.sub r.data (judged true o p r (advance t s)) ≠ 0) : Answers (.dictWrite t p r) s fun u =>
      u.cf = s.cf ∧ Kept u s ∧ Says p (rspTo 3 r (stageAbort o r.index r.sub r.data (judged true o p r (advance t s))) 0) s u := by
  have he := (dictRequest_fresh h).trans (dictWrite_whole (s := xferPrune (advance t s)) hl hv hg hn)
  have hk : Kept (writeWhole o p 3 r r.data (xferDrop p r.tid (xferPrune (advance t s)))) s :=
    (writeWhole_kept 3 r.data hc).trans ((xferDrop_guarded ..).trans ((xferPrune_guarded _).trans (advance_guarded ..)))
  rw [judged_write] at ha ⊢
  rw [writeWhole_aborts (p := p) 3 r.data hc ha] at hk he
  obtain ⟨x, hx⟩ := writeKeeps_eq o p (xferDrop p r.tid (xferPrune (advance t s)))
  generalize stageAbort .. = ab at *
  rw [hx] at hk he
  obtain ⟨hu, hs, -⟩ := say_replies (s := { xferDrop p r.tid (xferPrune (advance t s)) with sess := x }) h.1 h.2.1 p 3 r ab 0
  exact ⟨_, congrArg Host.Outcome.next he, (congrArg State.cf hu :), hk, hs⟩

theorem write_acts (h : Fresh 3 p r (advance t s)) (hl : (locate s r.index r.sub).2 = some o) (hv : r.val ≤ 992)
    (hg : writeGate o p r.index r.sub r.epoch s = 0) (hn : r.val = r.data.length) (hc : o.eff ≠ .commit) {w : Nat × State}
    (hw : nowWrite o p r.index r.sub r.data (xferDrop p r.tid (xferPrune (advance t s))) = w) (hm : w.2.sys.mgmtUp = true)
    (hs : w.2.sup.vstate ≠ 2) : Answers (.dictWrite t p r) s fun u => OnlyServer w.2 u ∧ Says p (rspTo 3 r w.1 r.data.length) w.2 u := by
  have he := (dictRequest_fresh h).trans ((dictWrite_whole (s := xferPrune (advance t s)) hl hv hg hn).trans (writeWhole_acts 3 r.data hc))
  rw [hw] at he
  obtain ⟨h1, h2, -⟩ := say_replies hm hs p 3 r w.1 r.data.length
  exact ⟨_, congrArg Host.Outcome.next he, h1, h2⟩

theorem writeSeg_continues (h : Fresh 4 p r (advance t s)) (hl : (locate s r.index r.sub).2 = some o)
    (hg : writeGate o p r.index r.sub r.epoch s = 0) {x : Xfer} (hx : xferOf (xferPrune (advance t s)) p r = some x) (hw : x.write = true)
    (hk : x.key = okey r.index r.sub) (hv : r.val = x.data.length) (hn : r.data.length = min 992 (x.total - x.data.length))
    (hc : x.data.length + r.data.length < x.total) : Answers (.dictWriteSeg t p r) s fun u => Kept u s ∧ u.cf = s.cf ∧
      Says p (rspTo 4 r 0 (x.data.length + r.data.length)) s u ∧
      xferOf u p r = some { x with data := x.data ++ r.data, last := (advance t s).sys.now } := by
  have he := (dictRequest_fresh h).trans ((dictWriteSeg_takes (s := xferPrune (advance t s)) hl hg hx hw hk hv hn).trans (if_neg (by omega)))
  have hq : guarded (writeKeeps o p (xferDrop p r.tid (xferPrune (advance t s)))) = guarded s :=
    (writeKeeps_guarded ..).trans ((xferDrop_guarded ..).trans ((xferPrune_guarded _).trans (advance_guarded ..)))
  obtain ⟨y, hy⟩ := writeKeeps_eq o p (xferDrop p r.tid (xferPrune (advance t s)))
  rw [hy] at he hq
  refine ⟨_, congrArg Host.Outcome.next he, ?_⟩
  obtain ⟨hu, hs, hf⟩ := say_replies (p := p) (op := 4) (r := r) (ab := 0) (v := x.data.length + r.data.length)
    (s := xferOpen { x with data := x.data ++ r.data, last := (advance t s).sys.now }
      { xferDrop p r.tid (xferPrune (advance t s)) with sess := y }) h.1 h.2.1
  exact ⟨(say_guarded ..).trans ((xferOpen_guarded ..).trans hq), (congrArg State.cf hu :), hs, xferOf_reopened hx rfl rfl hf⟩

theorem writeSeg_completes (h : Fresh 4 p r (advance t s)) (hl : (locate s r.index r.sub).2 = some o)
    (hg : writeGate o p r.index r.sub r.epoch s = 0) {x : Xfer} (hx : xferOf (xferPrune (advance t s)) p r = some x) (hw : x.write = true)
    (hk : x.key = okey r.index r.sub) (hv : r.val = x.data.length) (hn : r.data.length = min 992 (x.total - x.data.length))
    (hc : x.data.length + r.data.length = x.total) (hf : o.eff = .commit)
    (ha : stageAbort o r.index r.sub (x.data ++ r.data) (judged true o p r (advance t s)) = 0) : Answers (.dictWriteSeg t p r) s fun u =>
      Kept u s ∧ u.cf = { s.cf with unacked := s.cf.unacked ++ [(p, { r with data := x.data ++ r.data })] } ∧ u.dc.rsps = s.dc.rsps ∧
        xferOf u p r = none := by
  have he := (dictRequest_fresh h).trans ((dictWriteSeg_takes (s := xferPrune (advance t s)) hl hg hx hw hk hv hn).trans (if_pos hc))
  rw [judged_write] at ha
  refine ⟨_, congrArg Host.Outcome.next he, ?_, ?_⟩
  · exact (writeWhole_kept 4 _ hf).trans ((xferDrop_guarded ..).trans ((xferPrune_guarded _).trans (advance_guarded ..)))
  · obtain ⟨y, hy⟩ := writeKeeps_eq o p (xferDrop p r.tid (xferPrune (advance t s)))
    rw [writeWhole_stages 4 (x.data ++ r.data) hf ha, hy]
    exact ⟨rfl, rfl, xferOf_xferDrop p r (xferPrune (advance t s))⟩

theorem cancel_ends (h : Fresh 5 p r (advance t s)) (hl : (locate s r.index r.sub).2 = some o)
    (hx : xferOf (xferPrune (advance t s)) p r ≠ none) : Answers (.dictCancel t p r) s fun u => OnlyServer (advance t s) u ∧
      xferOf u p r = none ∧ Says p (rspTo 5 r 0 0) s u := by
  have hr := say_replies (s := xferDrop p r.tid (xferPrune (advance t s))) h.1 h.2.1 p 5 r 0 0
  exact ⟨_, congrArg Host.Outcome.next ((dictRequest_fresh h).trans (dictCancel_ends (s := xferPrune (advance t s)) hl hx)), hr.server.1,
    (xferOf_congr hr.2.2 p r).trans (xferOf_xferDrop ..), hr.server.2⟩

theorem cancel_misses (h : Fresh 5 p r (advance t s)) (hl : (locate s r.index r.sub).2 = some o)
    (hx : xferOf (xferPrune (advance t s)) p r = none) : Answers (.dictCancel t p r) s fun u => OnlyServer (advance t s) u ∧
      Says p (rspTo 5 r 0x0621 0) s u :=
  ⟨_, congrArg Host.Outcome.next ((dictRequest_fresh h).trans (dictCancel_misses (s := xferPrune (advance t s)) hl hx)), (say_replies h.running h.unsaved ..).server⟩

theorem transfers_expire (s : State) (t : Nat) (p : Path) (tid : Nat) : Answers (.dictTransferExpiry t p tid) s fun u =>
    u = { advance t s with dc := { s.dc with xfers := u.dc.xfers } } ∧
      ∀ x, x ∈ u.dc.xfers ↔ x ∈ s.dc.xfers ∧ ¬(x.path = p ∧ x.tid = tid ∧ x.last + secNs ≤ (advance t s).sys.now) := by
  refine ⟨_, rfl, rfl, fun x => ?_⟩
  rw [xferExpire]
  generalize secNs = n
  rw [List.mem_filter]
  refine and_congr_right fun _ => ?_
  simp only [Bool.not_eq_true', ← Bool.not_eq_true, Bool.and_eq_true, beq_iff_eq, decide_eq_true_iff, and_assoc]

end

/-! ### Frames for the dictionary -/

section
variable {s : State} {t : Nat} {p : Fin 2} {f : ZlFrame}

theorem reqFrame_requests (h : NewFrame p f (advance t s)) (hh : (zpGet s p).hdr = true) (ht : f.type = 4) (hu : f.unasg = false)
    (hb : 12 ≤ f.body.length) :
    frameRun p f (advance t s) = dictRequest (reqOf f.body).1 (.zeley f.src) (reqOf f.body).2 (taken p f (advance t s)) := by
  have hi : frameIn p f (advance t s) = (true, taken p f (advance t s)) :=
    frameIn_takes p.isLt h.1 h.2.1 h.2.2.1 h.2.2.2.1 (.inl hh) h.2.2.2.2.2 (.inl h.2.2.2.2.1)
  unfold frameRun
  rw [hi]
  dsimp only
  unfold takeFrame takeReq
  rw [if_pos rfl, ht]
  exact if_neg (by simp [hu, hb])

theorem commitFrame_taken (h : NewFrame p f (advance t s)) (hh : (zpGet s p).hdr = true) (ht : f.type = 2) :
    Answers (.zlCommitFrame t p f) s fun u => u = takeCommit f (taken p f (advance t s)) := by
  have hi : frameIn p f (advance t s) = (true, taken p f (advance t s)) :=
    frameIn_takes p.isLt h.1 h.2.1 h.2.2.1 h.2.2.2.1 (.inl hh) h.2.2.2.2.2 (.inl h.2.2.2.2.1)
  have he : (if f.type = 2 then frameRun p f (advance t s) else advance t s) = takeCommit f (taken p f (advance t s)) := by
    rw [if_pos ht]
    unfold frameRun
    rw [hi]
    dsimp only
    unfold takeFrame
    rw [if_pos rfl, ht]
    rfl
  exact ⟨_, congrArg Host.Outcome.next he, rfl⟩

end

/-! ### Live values -/

theorem valIn_valPut_same (m : SMap (List Byte)) (k : Nat) (v : List Byte) : valIn (valPut m k v) k = v := by
  unfold valIn valPut
  split
  case isTrue h => rw [mlook_mdel_same, Option.getD_none, h]
  case isFalse => rw [mlook_mput_same]; rfl

theorem valIn_valPut_other (m : SMap (List Byte)) {j k : Nat} (h : j ≠ k) (v : List Byte) : valIn (valPut m k v) j = valIn m j := by
  unfold valIn valPut
  split
  · rw [mlook_mdel_other m h]
  · rw [mlook_mput_other m v h]

theorem liveN_setLive {s : State} {i sub : Nat} {o : Obj} (ho : objAt (keyIx (okey i sub)) (keySub (okey i sub)) = some o) (v : List Byte) :
    liveN (setLive s i sub v) i sub = (decVal o.ty v).toNat := by
  unfold liveN intIn setLive
  rw [ho, valIn_valPut_same]

theorem liveN_setLive_other (s : State) {i sub j q : Nat} (h : okey i sub ≠ okey j q) (v : List Byte) :
    liveN (setLive s j q v) i sub = liveN s i sub := by
  unfold liveN intIn setLive
  rw [valIn_valPut_other _ h]

theorem liveN_congr {s u : State} (h : u.cf.live = s.cf.live) (i sub : Nat) : liveN u i sub = liveN s i sub := by
  unfold liveN
  rw [h]

theorem leNat_leBytes (n x : Nat) : leNat (leBytes n x) = x % 256 ^ n := by
  induction n generalizing x with
  | zero => simp [leBytes, leNat, Nat.mod_one]
  | succ n ih =>
    rw [leBytes, leNat, ih, BitVec.toNat_ofNat, Nat.pow_succ' (n := n)]
    exact (Nat.mod_mul (a := 256)).symm

theorem decVal_leBytes {ty : Ty} (h : ty.signed = false) (n x : Nat) : (decVal ty (leBytes n x)).toNat = x % 256 ^ n := by
  unfold decVal
  rw [if_neg (by rw [h]; exact Bool.false_ne_true), Int.toNat_natCast, leNat_leBytes]

theorem leNat_lt (b : List Byte) : leNat b < 256 ^ b.length := by
  induction b with
  | nil => simp [leNat]
  | cons x b ih =>
    have hx := x.isLt
    rw [leNat, List.length_cons, Nat.pow_succ']
    omega

theorem leAt_lt (b : List Byte) (o n : Nat) : leAt b o n < 256 ^ n :=
  (leNat_lt _).trans_le (Nat.pow_le_pow_right (by decide) (List.length_take_le ..))

theorem commitMode_obj : ∃ o, objAt (keyIx (okey 0x1100 0x11)) (keySub (okey 0x1100 0x11)) = some o ∧ o.ty.signed = false := ⟨_, rfl, rfl⟩
theorem commitTime_obj : ∃ o, objAt (keyIx (okey 0x1100 0x13)) (keySub (okey 0x1100 0x13)) = some o ∧ o.ty.signed = false := ⟨_, rfl, rfl⟩
theorem commitTag_obj : ∃ o, objAt (keyIx (okey 0x1400 8)) (keySub (okey 0x1400 8)) = some o ∧ o.ty.signed = false := ⟨_, rfl, rfl⟩

/-! ### A COMMIT frame acts (R404) -/

theorem postCommit_live (st : Nat) (s : State) : (postCommit st s).cf.live = s.cf.live :=
  (congrArg (fun c : Cf => c.live) ((post_frame aCommit st [] { s with cf := { s.cf with status := st } }).same .cf) :)

theorem postCommit_frame (st : Nat) (s : State) : Frame [.cf, .ed, .res, .regs] s (postCommit st s) :=
  Frame.trans (l := [.cf]) .of (post_frame ..)

theorem postCommit_valid (st : Nat) (s : State) : (resGet (postCommit st s) aCommit).valid = true := by
  rw [postCommit, resGet_post]
  rfl

theorem commitTry_posts (s : State) : ∃ st v, commitTry s = postCommit st v ∧ v.cf.live = s.cf.live ∧ Frame [.sys, .cf, .pend] s v := by
  unfold commitTry
  dsimp only
  split_ifs
  · exact ⟨2, s, rfl, rfl, .refl ..⟩
  · exact ⟨3, s, rfl, rfl, .refl ..⟩
  · exact ⟨8, s, rfl, rfl, .refl ..⟩
  · exact ⟨7, s, rfl, rfl, .refl ..⟩
  · exact ⟨_, drawn s, rfl, rfl, (drawn_frame s).mono⟩
  · exact ⟨4, s, rfl, rfl, .refl ..⟩
  all_goals exact ⟨1, _, rfl, rfl, .of⟩

theorem commitGo_live (p : Path) (s : State) : (commitGo p s).2.cf.live = s.cf.live := by
  unfold commitGo
  obtain ⟨st, v, hv, hl, -⟩ := commitTry_posts s
  split_ifs
  · rfl
  · rfl
  · rfl
  · rw [hv, postCommit_live, hl]

theorem commitGo_frame (p : Path) (s : State) : Frame [.sys, .cf, .pend, .ed, .res, .regs] s (commitGo p s).2 := by
  unfold commitGo
  obtain ⟨st, v, hv, -, hf⟩ := commitTry_posts s
  split_ifs
  · exact .refl ..
  · exact .refl ..
  · exact .refl ..
  · rw [hv]
    exact hf.trans (postCommit_frame ..)

theorem commitGo_valid {s : State} (p : Path) (hh : s.sup.holdReady = true) (hs : stagedSafety s = false) (hm : stagedMaskZero s = false) :
    (resGet (commitGo p s).2 aCommit).valid = true := by
  obtain ⟨st, v, hv, -, -⟩ := commitTry_posts s
  unfold commitGo
  rw [hs, hh, hm, if_neg (by simp), if_neg (by simp), if_neg (by simp), hv, postCommit_valid]

/-- The registers that a COMMIT frame stands for: mode 2, at the time in the frame. -/
def commitWrites (f : ZlFrame) (s : State) : State :=
  setLive (setLive s 0x1100 0x11 (leBytes 1 2)) 0x1100 0x13 (leBytes 8 (leAt f.body 0 8))

theorem takeCommit_acts {f : ZlFrame} {s : State} (h0 : liveN s 0x1400 8 ≠ 0) (ht : leAt f.body 8 2 = liveN s 0x1400 8) :
    takeCommit f s = setLive (commitGo (.zeley f.src) (commitWrites f s)).2 0x1400 8 (leBytes 2 0) := by
  unfold takeCommit
  exact if_neg (by simp [h0, ht])

theorem takeCommit_tag {f : ZlFrame} {s : State} (h : liveN s 0x1400 8 = 0 ∨ leAt f.body 8 2 ≠ liveN s 0x1400 8) : takeCommit f s = s := if_pos h

theorem commitWrites_mode (f : ZlFrame) (s : State) : liveN (commitWrites f s) 0x1100 0x11 = 2 := by
  obtain ⟨o, ho, hs⟩ := commitMode_obj
  rw [commitWrites, liveN_setLive_other _ (by decide), liveN_setLive ho, decVal_leBytes hs]
  rfl

theorem commitWrites_time (f : ZlFrame) (s : State) : liveN (commitWrites f s) 0x1100 0x13 = leAt f.body 0 8 := by
  obtain ⟨o, ho, hs⟩ := commitTime_obj
  rw [commitWrites, liveN_setLive ho, decVal_leBytes hs, Nat.mod_eq_of_lt (leAt_lt ..)]

section
variable {s : State} {t : Nat} {p : Fin 2} {f : ZlFrame}

theorem commitFrame_acts (h : NewFrame p f (advance t s)) (hh : (zpGet s p).hdr = true) (ht : f.type = 2) (h0 : liveN s 0x1400 8 ≠ 0)
    (hg : leAt f.body 8 2 = liveN s 0x1400 8) : Answers (.zlCommitFrame t p f) s fun u =>
      liveN u 0x1400 8 = 0 ∧ liveN u 0x1100 0x11 = 2 ∧ liveN u 0x1100 0x13 = leAt f.body 0 8 ∧ u.dc = s.dc ∧
      (s.sup.holdReady = true → stagedSafety s = false → stagedMaskZero s = false → (resGet u aCommit).valid = true) := by
  obtain ⟨u, hu, he⟩ := commitFrame_taken h hh ht
  have hf := taken_frame p f (advance t s)
  have hc : (taken p f (advance t s)).cf = s.cf := hf.same .cf
  have hd : (taken p f (advance t s)).dc = s.dc := hf.same .dc
  have hp : (taken p f (advance t s)).sup = s.sup := hf.same .sup
  have hn : liveN (taken p f (advance t s)) 0x1400 8 = liveN s 0x1400 8 := liveN_congr (congrArg (fun c : Cf => c.live) hc) ..
  rw [takeCommit_acts (by rw [hn]; exact h0) (by rw [hn]; exact hg)] at he
  obtain ⟨o, ho, hs⟩ := commitTag_obj
  have hl := liveN_congr (commitGo_live (.zeley f.src) (commitWrites f (taken p f (advance t s))))
  rw [he] at hu
  refine ⟨_, hu, ?_, ?_, ?_, ?_, fun h1 h2 h3 => ?_⟩
  · rw [liveN_setLive ho, decVal_leBytes hs]
    rfl
  · rw [liveN_setLive_other _ (by decide), hl, commitWrites_mode]
  · rw [liveN_setLive_other _ (by decide), hl, commitWrites_time]
  · exact ((commitGo_frame (.zeley f.src) (commitWrites f (taken p f (advance t s)))).same .dc).trans hd
  · refine commitGo_valid (s := commitWrites f (taken p f (advance t s))) _ ?_ ?_ ?_
    · exact (congrArg (fun x : Sup => x.holdReady) hp).trans h1
    · exact (congrArg (fun c : Cf => c.staged.any (fun e => isSafetyKey e.1) || c.mapStage.isSome) hc).trans h2
    · exact (congrArg (fun c : Cf => c.staged.any fun e => isMaskKey e.1 && leNat e.2 == 0) hc).trans h3

end

/-- Settles O53: it holds. -/
theorem dictionaryAccess : Obligations.DictionaryAccess := by
  unfold Obligations.DictionaryAccess
  refine ⟨fun s t p r => ⟨fun h => ⟨read_unlocated h, fun o hl => ⟨read_refused h hl, fun h1 h2 hi v => read_shows h hl h1 h2 hi⟩⟩,
    fun o x h hl h1 h2 => readSeg_continues h hl h1 h2, fun x => read_repeats⟩, fun s t p r h => ⟨write_unlocated h, fun o hl hv => ⟨?_, ?_, ?_⟩⟩⟩
  · exact write_gated h hl hv
  · exact fun hg hn hc => ⟨write_staged h hl hv hg hn hc, write_unstaged h hl hv hg hn hc⟩
  · exact fun hg hn hc => write_acts h hl hv hg hn hc rfl

/-- Settles O54: it holds. -/
theorem dictionaryTransfers : Obligations.DictionaryTransfers := by
  unfold Obligations.DictionaryTransfers
  refine ⟨fun s t p r => ⟨fun o x h hl hg hx hw hk hv hn => ⟨writeSeg_continues h hl hg hx hw hk hv hn, writeSeg_completes h hl hg hx hw hk hv hn⟩,
    fun o h hl => ⟨cancel_ends h hl, cancel_misses h hl⟩, transfers_expire s t p r.tid⟩, fun s t p f h hh => ⟨?_, ?_⟩⟩
  · intro ht hu hb
    have he := reqFrame_requests h hh ht hu hb
    exact ⟨⟨_, congrArg Host.Outcome.next ((if_pos ht).trans he), rfl⟩, ⟨_, congrArg Host.Outcome.next he, rfl⟩⟩
  · intro ht
    refine ⟨fun h0 hg _ => commitFrame_acts h hh ht h0 hg, fun hg => ?_⟩
    obtain ⟨u, hu, he⟩ := commitFrame_taken h hh ht
    have hc : (taken p f (advance t s)).cf = s.cf := (taken_frame p f (advance t s)).same .cf
    have hn : liveN (taken p f (advance t s)) 0x1400 8 = liveN s 0x1400 8 := liveN_congr (congrArg (fun c : Cf => c.live) hc) ..
    exact ⟨u, hu, he.trans (takeCommit_tag (by rw [hn]; exact hg))⟩

end Sys2Proof.Machine
end

section
/-! PROOF. O20: accord assignments and the coordinator. -/

namespace Sys2Proof.Machine

-- One after another the proofs need less memory than all at once.
set_option Elab.async false

/-! ### The state behind a frame -/

/-- `s` with the listed parts of `u`. -/
def Part.merged (l : List Part) (s u : State) : State where
  sys := Part.pick l u s .sys
  sup := Part.pick l u s .sup
  mw := Part.pick l u s .mw
  pw := Part.pick l u s .pw
  wc := Part.pick l u s .wc
  mir := Part.pick l u s .mir
  ex := Part.pick l u s .ex
  gov := Part.pick l u s .gov
  rx := Part.pick l u s .rx
  rq := Part.pick l u s .rq
  hg := Part.pick l u s .hg
  ne := Part.pick l u s .ne
  ac := Part.pick l u s .ac
  fp := Part.pick l u s .fp
  ze := Part.pick l u s .ze
  ps := Part.pick l u s .ps
  safA := Part.pick l u s .safA
  safB := Part.pick l u s .safB
  out := Part.pick l u s .out
  cf := Part.pick l u s .cf
  sess := Part.pick l u s .sess
  tf := Part.pick l u s .tf
  ax := Part.pick l u s .ax
  zl := Part.pick l u s .zl
  dc := Part.pick l u s .dc
  hp := Part.pick l u s .hp
  ed := Part.pick l u s .ed
  crc0 := Part.pick l u s .crc0
  crc1 := Part.pick l u s .crc1
  lm := Part.pick l u s .lm
  res := Part.pick l u s .res
  regs := Part.pick l u s .regs
  pending := Part.pick l u s .pending

theorem Frame.pick {l : List Part} {s u : State} (h : Frame l s u) (p : Part) : Part.pick l u s p = p.get u := by
  have hp := h.parts p
  unfold Part.pick at *
  cases hl : l.contains p with
  | false => rwa [hl, cond_false, eq_comm] at hp
  | true => rfl

/-- A frame is an update of the listed parts. -/
theorem Frame.eq {l : List Part} {s u : State} (h : Frame l s u) : u = Part.merged l s u := by
  unfold Part.merged
  simp only [h.pick]
  rfl

/-! ### Assignments (R222 to R224) -/

theorem assignFresh_iff (s : State) (a : Assign) : assignFresh s a = true ↔
    ∃ b, s.ac.assign = some b ∧ b.codes = a.codes ∧ b.phi = a.phi ∧ b.hop = a.hop ∧ b.coord = a.coord := by
  unfold assignFresh
  cases s.ac.assign with
  | none => simp
  | some b => simp [and_assoc]

theorem assignTake_frame (a : Assign) (s : State) : Frame [.ac] s (assignTake a s) := by
  unfold assignTake
  dsimp only
  (repeat' split) <;> exact .of

theorem assignTake_lastAssign (a : Assign) (s : State) : (assignTake a s).ac.lastAssign = s.sys.now := by
  unfold assignTake
  dsimp only
  (repeat' split) <;> rfl

/-- The same assignment is renewed at once. -/
theorem assignTake_renews {a : Assign} {s : State} (h : assignFresh s a = true) :
    (assignTake a s).ac.assign = some a ∧ (assignTake a s).ac.staged = s.ac.staged ∧ (assignTake a s).ac.stale = false := by
  unfold assignTake
  dsimp only
  rw [if_pos h]
  split <;> exact ⟨rfl, rfl, rfl⟩

/-- Any other is staged. -/
theorem assignTake_stages {a : Assign} {s : State} (h : ¬assignFresh s a = true) :
    (assignTake a s).ac.assign = s.ac.assign ∧ (assignTake a s).ac.staged = some a ∧ (assignTake a s).ac.stagedAt = s.sys.now := by
  unfold assignTake
  dsimp only
  rw [if_neg h]
  split <;> exact ⟨rfl, rfl, rfl⟩

theorem assignRun_accepts {d : List Byte} {s : State} (h : assignAbort s d = 0) : assignRun d s = (0, assignTake (assignOf d) s) := if_pos h

theorem assignRun_refuses {d : List Byte} {s : State} (h : assignAbort s d ≠ 0) : ∃ u, assignRun d s = (assignAbort s d, u) ∧
    Frame [.ac, .ed] s u ∧ u.ac = { s.ac with conflict := u.ac.conflict } := by
  unfold assignRun
  dsimp only
  rw [if_neg h]
  split
  · have hf := raise_frame evCoordConflict { s with ac := { s.ac with conflict := true } }
    have ha := hf.same .ac
    refine ⟨_, rfl, Frame.trans (l := [.ac]) .of hf, ?_⟩
    rw [show (raise evCoordConflict { s with ac := { s.ac with conflict := true } }).ac = { s.ac with conflict := true } from ha]
  · exact ⟨s, rfl, .refl .., rfl⟩

section
variable {s : State} {p : Path} {d : List Byte}

theorem assignWrite_accepts (t : Nat) (hm : s.sys.mgmtUp = true) (hv : s.sup.vstate ≠ 2) (ha : assignAbort s d = 0) :
    ∃ u, exec (.assignWrite t ⟨p, d⟩) s = .next u ∧ Frame [.dc, .zl] (assignTake (assignOf d) (advance t s)) u ∧
      RespondedTo p 0x2600 0x40 d.length 0 s u := by
  have hr := assignRun_accepts (d := d) (s := advance t s) ha
  obtain ⟨hf, hp⟩ := writeCmd_answers (s := advance t s) hm hv p 0x2600 0x40 d.length hr (assignTake_frame ..).answerable
  exact ⟨_, rfl, hf, hp⟩

theorem assignWrite_takes (t : Nat) (hm : s.sys.mgmtUp = true) (hv : s.sup.vstate ≠ 2) (ha : assignAbort s d = 0) :
    Answers (.assignWrite t ⟨p, d⟩) s fun u => u = { advance t s with ac := u.ac, dc := u.dc, zl := u.zl } ∧
      RespondedTo p 0x2600 0x40 d.length 0 s u ∧ u.ac = (assignTake (assignOf d) (advance t s)).ac := by
  obtain ⟨u, he, hf, hp⟩ := assignWrite_accepts (p := p) t hm hv ha
  have hall : Frame [.ac, .dc, .zl] (advance t s) u := (assignTake_frame (assignOf d) (advance t s)).trans hf
  exact ⟨u, he, hall.eq, hp, hf.same .ac⟩

theorem assignWrite_refuses (t : Nat) (hm : s.sys.mgmtUp = true) (hv : s.sup.vstate ≠ 2) (ha : assignAbort s d ≠ 0) :
    Answers (.assignWrite t ⟨p, d⟩) s fun u => RespondedTo p 0x2600 0x40 d.length (assignAbort s d) s u ∧ u.ac.assign = s.ac.assign ∧
      u.ac.staged = s.ac.staged ∧ u.ac.lastAssign = s.ac.lastAssign ∧ Kept u s := by
  obtain ⟨v, hr, hf, hv'⟩ := assignRun_refuses (d := d) (s := advance t s) ha
  obtain ⟨h1, hp⟩ := writeCmd_answers (s := advance t s) hm hv p 0x2600 0x40 d.length hr hf.answerable
  have hu : (writeCmd p 0x2600 0x40 d.length (assignRun d) (advance t s)).ac = { s.ac with conflict := v.ac.conflict } :=
    (h1.same .ac).trans hv'
  have hg : guarded v = guarded (advance t s) := by
    rw [show v = (assignRun d (advance t s)).2 by rw [hr], assignRun_guarded]
  refine ⟨_, rfl, hp, ?_, ?_, ?_, ?_⟩
  · rw [hu]
  · rw [hu]
  · rw [hu]
  · exact (writeCmd_guarded (s := advance t s) hm hv p 0x2600 0x40 d.length hr).trans (hg.trans (advance_guarded ..))

end

theorem accordNow_congr {s u : State} (hc : u.cf = s.cf) (ha : u.ac = s.ac) : accordNow u = accordNow s := by
  unfold accordNow
  simp only [cfgN_congr hc, ha, zlAddr_of_cf hc]

/-- COORD_TIMEOUT has passed without an assignment. -/
theorem assignOld_stale {s : State} (hs : (accordNow s).src = 1) (hf : s.ac.stale = false)
    (hd : s.ac.lastAssign + cfgN s 0x2600 0xD * secNs ≤ s.sys.now) :
    assignOld s = raise evCoordLost { s with ac := { s.ac with stale := true } } := by
  unfold assignOld
  rw [hs, hf, decide_eq_true hd]
  rfl

theorem staleAssign_lost {s : State} (t : Nat) (hs : (accordNow s).src = 1) (hf : s.ac.stale = false)
    (hd : s.ac.lastAssign + cfgN s 0x2600 0xD * secNs ≤ (advance t s).sys.now) : Answers (.assignStale t) s fun u =>
      u = { advance t s with ac := { s.ac with stale := true }, ed := u.ed } ∧ (s.sys.mgmtUp = true → bget u.ed.evt evCoordLost = true) := by
  have ha : accordNow (advance t s) = accordNow s := accordNow_congr rfl rfl
  have he : assignOld (advance t s) = raise evCoordLost { advance t s with ac := { s.ac with stale := true } } :=
    assignOld_stale (by rw [ha]; exact hs) hf (by rw [advance_ac, cfgN_congr (s := s) (advance_cf t s)]; exact hd)
  have hr := raise_frame evCoordLost { advance t s with ac := { s.ac with stale := true } }
  exact ⟨_, congrArg Host.Outcome.next he, hr.eq, fun hm =>
    raise_evt (s := { advance t s with ac := { s.ac with stale := true } }) hm (by decide)⟩

theorem acStatClear_eq (v : Word) (s : State) :
    acStatClear v.toNat s = { s with ac := { s.ac with conflict := s.ac.conflict && !v.getLsbD 1 } } := by
  unfold acStatClear
  rw [bitAt_eq_getLsbD]
  cases v.getLsbD 1
  · rw [Bool.not_false, Bool.and_true]
    rfl
  · rw [Bool.not_true, Bool.and_false]
    rfl

/-! ### The coordinator (R225) -/

theorem CoordSent.keeps {s u : State} (h : CoordSent s u) :
    u.ac.colours = s.ac.colours ∧ u.ac.gen = s.ac.gen ∧ u.ac.coordApply = s.ac.coordApply := by
  rw [h.ac]
  exact ⟨rfl, rfl, rfl⟩

/-- The colours given out anew. -/
def recoloured (s : State) : List (Nat × Nat) :=
  (colourAll s).filterMap fun e => match e.2 with
    | some c => if mlook s.ac.colours e.1 == some (some c) then none else some (e.1, c)
    | none => none

/-- The coordinator's records of a run. -/
def recolouredAc (s : State) : Ac := { s.ac with
  colours := colourAll s
  gen := if (recoloured s).isEmpty then s.ac.gen else (s.ac.gen + 1) % 2 ^ 32
  lastRefresh := if s.ac.colours.isEmpty then s.sys.now else s.ac.lastRefresh
  asked := if (recoloured s).isEmpty then s.ac.asked else []
  coordApply := if (recoloured s).isEmpty then s.ac.coordApply else applyTime s
  changed := s.ac.changed.filter (fun d => !((recoloured s).any fun e => e.1 == d)) ++ (recoloured s).map (·.1) }

theorem coordRun_runs {s : State} (ha : coordActive s = true) (hs : s.zl.sync = true) : coordRun s =
    (recoloured s).foldl (fun u e => coordSend e.1 (colourAssign u e.2 (recolouredAc s).gen (applyTime s)) u)
      { s with ac := recolouredAc s } := by
  unfold coordRun
  rw [ha, hs, Bool.and_self, if_pos rfl]
  dsimp only
  generalize hl : List.filterMap _ (colourAll s) = l
  have hr : recoloured s = l := hl
  rw [hr]
  unfold recolouredAc
  rw [hr]

theorem recolouredAc_colours (s : State) : (recolouredAc s).colours = colourAll s := by
  unfold recolouredAc
  dsimp only

theorem recolouredAc_kept {s : State} (h : recoloured s = []) : (recolouredAc s).gen = s.ac.gen := by
  unfold recolouredAc
  dsimp only
  rw [h, List.isEmpty_nil, if_pos rfl]

theorem recolouredAc_new {s : State} (h : recoloured s ≠ []) :
    (recolouredAc s).gen = (s.ac.gen + 1) % 2 ^ 32 ∧ (recolouredAc s).coordApply = applyTime s := by
  have he : ¬(recoloured s).isEmpty = true := fun hn => h (List.isEmpty_iff.1 hn)
  unfold recolouredAc
  dsimp only
  exact ⟨if_neg he, if_neg he⟩

theorem recoloured_eq_nil {s : State} (h : ∀ e ∈ colourAll s, e.2 = none ∨ mlook s.ac.colours e.1 = some e.2) : recoloured s = [] := by
  refine List.filterMap_eq_nil_iff.2 fun e he => ?_
  rcases h e he with hn | hl
  · rw [hn]
  · rw [hl]
    cases e.2 with
    | none => rfl
    | some c => simp

theorem recoloured_ne_nil {s : State} {e : Nat × Option Nat} (he : e ∈ colourAll s) (hn : e.2 ≠ none) (hl : mlook s.ac.colours e.1 ≠ some e.2) :
    recoloured s ≠ [] := by
  intro h
  have hx := List.filterMap_eq_nil_iff.1 h e he
  obtain ⟨c, hc⟩ := Option.ne_none_iff_exists'.1 hn
  rw [hc] at hl
  rw [hc] at hx
  simp [hl] at hx

section
variable {s : State} {t : Nat}

theorem reassign_colours (hc : coordActive s = true) (hm : s.sys.mgmtUp = true) (hs : s.zl.sync = true) :
    Answers (.reassign t) s fun u => Kept u s ∧ u.ac.colours = colourAll (advance t s) ∧
      ((∀ e ∈ colourAll (advance t s), e.2 = none ∨ mlook s.ac.colours e.1 = some e.2) → u.ac.gen = s.ac.gen ∧ u.zl = s.zl) ∧
      ((∃ e ∈ colourAll (advance t s), e.2 ≠ none ∧ mlook s.ac.colours e.1 ≠ some e.2) → u.ac.gen = (s.ac.gen + 1) % 2 ^ 32 ∧
        u.ac.coordApply = applyTime (advance t s)) := by
  have he : (if (advance t s).sys.mgmtUp then coordRun (advance t s) else advance t s) = coordRun (advance t s) := if_pos hm
  have hr := coordRun_runs (s := advance t s) hc hs
  have hk : CoordSent { advance t s with ac := recolouredAc (advance t s) } (coordRun (advance t s)) := by
    rw [hr]
    exact .foldl (fun _ _ => coordSend_sent ..) _ _
  obtain ⟨hcol, hgen, happ⟩ := hk.keeps
  refine ⟨_, congrArg Host.Outcome.next he, (coordRun_guarded _).trans (advance_guarded ..), hcol.trans (recolouredAc_colours _), fun h => ⟨?_, ?_⟩, fun h => ⟨?_, ?_⟩⟩
  · exact hgen.trans (recolouredAc_kept (recoloured_eq_nil h))
  · rw [hr, recoloured_eq_nil h]
    rfl
  · obtain ⟨e, h1, h2, h3⟩ := h
    exact hgen.trans (recolouredAc_new (recoloured_ne_nil h1 h2 h3)).1
  · obtain ⟨e, h1, h2, h3⟩ := h
    exact happ.trans (recolouredAc_new (recoloured_ne_nil h1 h2 h3)).2

/-- A write of an assignment to another device leaves on an idle port. -/
theorem coordSend_leaves {d : Nat} (a : Assign) (hd : d ≠ zlAddr s) (hu : portUp s 0 = true) (hb : portBusy s 0 = false) :
    ∃ f, (0, f) ∈ (coordSend d a s).zl.out ∧ f.type = 4 ∧ f.dst = d := by
  unfold coordSend
  rw [if_neg hd]
  obtain ⟨f, hf, ht, -, hdst, -⟩ := originate_leaves (fun j => upPorts_lt (s := s)) (mem_upPorts (by decide) hu) (upPorts_nodup s) hu hb 4 0 d
    (leBytes 1 3 ++ leBytes 1 0x40 ++ leBytes 2 0x2600 ++ leBytes 2 0 ++ leBytes 2 s.zl.seq ++ leBytes 4 24 ++ assignBytes a)
  exact ⟨f, hf, ht, hdst⟩

/-- The writes of a refresh. -/
def refreshSent (s : State) : State :=
  s.ac.colours.foldl (fun u e => match e.2 with
    | some c => coordSend e.1 (colourAssign u c s.ac.gen (if genMissing s e.1 then applyTime s else s.ac.coordApply)) u
    | none => u) s

theorem refreshSent_sent (s : State) : CoordSent s (refreshSent s) := by
  refine .foldl (fun u e => ?_) _ _
  cases e.2
  · exact .refl u
  · exact coordSend_sent ..

theorem coordRefreshAll_due (hc : coordActive s = true) (hd : s.ac.lastRefresh + 10 * secNs ≤ s.sys.now) :
    ∃ at_ asked, coordRefreshAll s = { refreshSent s with
      ac := { (refreshSent s).ac with lastRefresh := (refreshSent s).sys.now, coordApply := at_, asked := asked } } := by
  unfold coordRefreshAll
  rw [hc, decide_eq_true hd]
  exact ⟨_, _, rfl⟩

theorem coordRefresh_refreshes (hc : coordActive s = true) (hd : s.ac.lastRefresh + 10 * secNs ≤ (advance t s).sys.now) :
    Answers (.coordRefresh t) s fun u => Kept u s ∧ u.ac.lastRefresh = (advance t s).sys.now ∧ u.ac.gen = s.ac.gen ∧
      u.ac.colours = s.ac.colours ∧ ∀ d c, s.ac.colours = [(d, some c)] → d ≠ zlAddr s → portUp s 0 = true → portBusy (advance t s) 0 = false →
        ∃ f, (0, f) ∈ u.zl.out ∧ f.type = 4 ∧ f.dst = d := by
  obtain ⟨x, y, he⟩ := coordRefreshAll_due (s := advance t s) hc hd
  have hs := refreshSent_sent (advance t s)
  have hn : (refreshSent (advance t s)).sys.now = (advance t s).sys.now := hs.frame.same .now
  have hk := (coordRefreshAll_guarded (advance t s)).trans (advance_guarded ..)
  rw [he] at hk
  refine ⟨_, congrArg Host.Outcome.next he, hk, hn, ?_, ?_, fun d c h1 h2 h3 h4 => ?_⟩
  · rw [hs.ac]
    rfl
  · rw [hs.ac]
    rfl
  · have hz : ∃ a, refreshSent (advance t s) = coordSend d a (advance t s) := by
      unfold refreshSent
      rw [show (advance t s).ac.colours = [(d, some c)] from h1]
      exact ⟨_, rfl⟩
    obtain ⟨a, hz⟩ := hz
    rw [hz]
    exact coordSend_leaves (s := advance t s) a h2 h3 h4

theorem coordCheck_asks {d : Nat} (hc : coordActive s = true) (hd : s.ac.coordApply + secNs ≤ s.sys.sysTime.toNat) (hm : d ∈ s.ac.changed)
    (hn : ∀ e ∈ s.ac.asked, e.1 ≠ d) : coordCheck d s = coordAsk d s := by
  have hg : genMissing s d = false := by
    rw [genMissing, List.any_eq_false.2 (fun e he => by simpa using hn e he), Bool.and_false]
  unfold coordCheck
  rw [hc, decide_eq_true hd, List.contains_iff_mem.2 hm, hg]
  rfl

theorem coordCheck_rests {d : Nat} (h : s.sys.sysTime.toNat < s.ac.coordApply + secNs ∨ d ∉ s.ac.changed ∨ ∃ e ∈ s.ac.asked, e.1 = d) :
    coordCheck d s = s := by
  unfold coordCheck
  refine if_neg fun hc => ?_
  simp only [Bool.and_eq_true, decide_eq_true_iff, Bool.not_eq_true', List.contains_iff_mem] at hc
  obtain ⟨⟨⟨-, hd⟩, hm⟩, hn⟩ := hc
  rcases h with h | h | ⟨e, he, hx⟩
  · exact absurd hd (Nat.not_le_of_lt h)
  · exact h hm
  · have hg : genMissing s d = true := by
      rw [genMissing, List.contains_iff_mem.2 hm, List.any_eq_true.2 ⟨e, he, by simpa using hx⟩]
      rfl
    rw [hg] at hn
    exact Bool.noConfusion hn

/-- A device that was asked is noted; of the coordinator's records the pending list alone may differ too. -/
theorem coordAsk_ac (d : Nat) (s : State) : ∃ l tid, (coordAsk d s).ac = { s.ac with asked := (d, tid) :: s.ac.asked, changed := l } := by
  unfold coordAsk
  split
  · unfold genSeen
    split
    · exact ⟨_, 0, rfl⟩
    · exact ⟨s.ac.changed, 0, rfl⟩
  · exact ⟨s.ac.changed, s.zl.seq, (originate_sending ..).frame.same .ac⟩

theorem coordAsk_leaves {d : Nat} (hd : d ≠ zlAddr s) (hu : portUp s 0 = true) (hb : portBusy s 0 = false) :
    ∃ f, (0, f) ∈ (coordAsk d s).zl.out ∧ f.type = 4 ∧ f.dst = d ∧ f.body.take 4 = [1#8, 0x10#8, 0x00#8, 0x26#8] := by
  unfold coordAsk
  rw [if_neg hd]
  obtain ⟨f, hf, ht, -, hdst, -, -, -, -, -, hbody⟩ := originate_leaves (fun j => upPorts_lt (s := s)) (mem_upPorts (by decide) hu) (upPorts_nodup s)
    (s := { s with ac := { s.ac with asked := (d, s.zl.seq) :: s.ac.asked } }) hu hb 4 0 d
    (leBytes 1 1 ++ leBytes 1 0x10 ++ leBytes 2 0x2600 ++ leBytes 2 0 ++ leBytes 2 s.zl.seq ++ leBytes 4 0)
  refine ⟨f, hf, ht, hdst, ?_⟩
  rw [hbody (by decide) (by decide)]
  rfl

theorem genCheck_asks {d : Fin 1024} (hc : coordActive s = true) (hd : s.ac.coordApply + secNs ≤ (advance t s).sys.sysTime.toNat)
    (hm : d.val ∈ s.ac.changed) (hn : ∀ e ∈ s.ac.asked, e.1 ≠ d.val) : Answers (.coordGenCheck t d) s fun u => Kept u s ∧
      u.ac.gen = s.ac.gen ∧ u.ac.colours = s.ac.colours ∧ (∃ e ∈ u.ac.asked, e.1 = d.val) ∧
      (d.val ≠ zlAddr s → portUp s 0 = true → portBusy (advance t s) 0 = false →
        ∃ f, (0, f) ∈ u.zl.out ∧ f.type = 4 ∧ f.dst = d.val ∧ f.body.take 4 = [1#8, 0x10#8, 0x00#8, 0x26#8]) := by
  have he := coordCheck_asks (s := advance t s) hc hd hm hn
  have hk := (coordCheck_guarded d.val (advance t s)).trans (advance_guarded ..)
  rw [he] at hk
  obtain ⟨l, tid, ha⟩ := coordAsk_ac d.val (advance t s)
  refine ⟨_, congrArg Host.Outcome.next he, hk, ?_, ?_, ⟨(d.val, tid), ?_, rfl⟩, coordAsk_leaves (s := advance t s)⟩
  · rw [ha]
    rfl
  · rw [ha]
    rfl
  · rw [ha]
    exact List.mem_cons_self

end

/-- Settles O20: it holds. -/
theorem accordRoles : Obligations.AccordRoles := by
  unfold Obligations.AccordRoles
  refine ⟨fun s t p d v => ⟨fun hm hv ha => ?_, assignWrite_refuses t, staleAssign_lost t,
    ⟨_, congrArg Host.Outcome.next (acStatClear_eq v s), rfl⟩, ⟨_, rfl, rfl⟩⟩, fun s t d hc => ⟨reassign_colours hc, coordRefresh_refreshes hc,
    genCheck_asks hc, fun h => ⟨_, congrArg Host.Outcome.next (coordCheck_rests (s := advance t s) h), rfl⟩⟩⟩
  obtain ⟨u, he, hu, hr, hac⟩ := assignWrite_takes (p := p) t hm hv ha
  refine ⟨u, he, hu, hr, ?_, fun hs => ?_, fun hs => ?_⟩
  · rw [hac, assignTake_lastAssign]
  · rw [hac]
    exact assignTake_renews (s := advance t s) ((assignFresh_iff s (assignOf d)).2 hs)
  · rw [hac]
    exact assignTake_stages (s := advance t s) fun h => hs ((assignFresh_iff s (assignOf d)).1 h)

end Sys2Proof.Machine
end

section
/-! PROOF. O14: supply states, the hold-up charger, the supervised rails and the mains watch. -/

namespace Sys2Proof.Machine

-- One after another the proofs need less memory than all at once.
set_option Elab.async false

/-! ### RIDE, its end and the lockout (R54, R55) -/

/-- The supply as RIDE begins at `now`: the charger has run up to then and stops. -/
def rideSup (now : Nat) (p : Sup) : Sup := { p with
  vstate := 1, vinPath := false, holdPath := true, rides := satAdd 16 p.rides 1
  chgOn := false, chgFull := false, runV := none, spanV := none, spanQ := 0, chgAt := now
  eChg := p.eChg + p.vhold * (if p.chgOn then p.chgI * (now - p.chgAt) else 0) }

theorem rideBegin_rides {s : State} (hm : s.sys.mgmtUp = true) (hv : s.sup.vstate = 0) :
    rideBegin s = raise evRide { s with sup := rideSup s.sys.now s.sup } := by
  unfold rideBegin
  rw [hm, hv]
  rfl

theorem supplyBecomes_of_frame {s u : State} {g : Sup} (h : Frame [.ed] { s with sup := g } u) : SupplyBecomes s u g := h.eq

section
variable {s : State} {t : Nat}

theorem rideEnter_rides {vin : Nat} (hm : s.sys.mgmtUp = true) (hv : s.sup.vstate = 0) (hl : vin < cfgN s 0x1200 8 ∨ s.sup.uvlo = true) :
    Answers (.rideEnter ⟨t, vin⟩) s fun u => SupplyBecomes (advance t s) u (rideSup (advance t s).sys.now s.sup) := by
  have he : rideEnter vin (advance t s) = raise evRide { advance t s with sup := rideSup (advance t s).sys.now s.sup } :=
    (if_pos hl).trans (rideBegin_rides (s := advance t s) hm hv)
  exact ⟨_, congrArg Host.Outcome.next he, supplyBecomes_of_frame (raise_frame ..)⟩

theorem rideEnter_not {vin : Nat} (h : cfgN s 0x1200 8 ≤ vin) (hu : s.sup.uvlo = false) :
    Answers (.rideEnter ⟨t, vin⟩) s fun u => u = advance t s := by
  have he : rideEnter vin (advance t s) = advance t s := if_neg fun hc => hc.elim (Nat.not_lt.2 h) (by simp [hu])
  exact ⟨_, congrArg Host.Outcome.next he, rfl⟩

theorem rideExit_ends {vin held : Nat} (hv : s.sup.vstate = 1) (hi : cfgN s 0x1200 8 + 500 ≤ vin) (hh : msNs ≤ held) :
    rideExit vin held s = { s with sup := { s.sup with
      vstate := 0, vinPath := true, holdPath := false, uvlo := false, runV := none, spanV := none, spanQ := 0
      chgOn := decide (s.sup.vhold < 34000), chgFull := decide (34000 ≤ s.sup.vhold)
      chgAt := if s.sup.vhold < 34000 then s.sys.now else s.sup.chgAt } } := by
  unfold rideExit
  rw [if_pos ⟨hv, hi, hh⟩]
  dsimp only
  by_cases hl : s.sup.vhold < 34000
  · rw [if_pos hl, if_pos hl, decide_eq_true hl, decide_eq_false (Nat.not_le.2 hl)]
    rfl
  · rw [if_neg hl, if_neg hl, decide_eq_false hl, decide_eq_true (Nat.not_lt.1 hl)]
    rfl

theorem rideExit_not {vin held : Nat} (h : vin < cfgN s 0x1200 8 + 500 ∨ held < msNs) : rideExit vin held s = s := by
  refine if_neg fun ⟨_, hi, hh⟩ => ?_
  rcases h with h | h
  · exact absurd hi (Nat.not_le.2 h)
  · exact absurd hh (Nat.not_le.2 h)

theorem uvlo_opens (hm : s.sys.mgmtUp = true) (hv : s.sup.vstate = 0) : Answers (.uvloEngage t) s fun u => AllOpen u ∧
    u.sup.uvlo = true ∧ u.sup.vinPath = false ∧ u.sup.vstate = 1 ∧ u.sup.holdPath = true := by
  have hf := openBoth_frame { advance t s with sup := { s.sup with uvlo := true, vinPath := false } }
  have ho := openBoth_open { advance t s with sup := { s.sup with uvlo := true, vinPath := false } }
  have hs := hf.same .sup
  have hb := rideBegin_rides ((hf.same .mgmtUp).trans hm) ((hf.same .vstate).trans hv)
  have he : uvloEngage (advance t s) =
      (let v := rideBegin (openBoth { advance t s with sup := { s.sup with uvlo := true, vinPath := false } })
       { v with sup := { v.sup with vinPath := false } }) := rfl
  refine ⟨_, congrArg Host.Outcome.next he, ?_⟩
  generalize openBoth .. = w at *
  rw [hb]
  have hr := raise_frame evRide { w with sup := rideSup w.sys.now w.sup }
  have hsup := hr.same .sup
  have ha := hr.same .safA
  have hb' := hr.same .safB
  generalize raise .. = u at *
  have hw : w.sup.uvlo = true := (congrArg (fun p : Sup => p.uvlo) hs :)
  have hu : u.sup = rideSup w.sys.now w.sup := hsup
  refine ⟨⟨?_, ?_⟩, ?_, rfl, ?_, ?_⟩
  · exact (congrArg (fun f : Saf => f.sw) ha).trans ho.1
  · exact (congrArg (fun f : Saf => f.sw) hb').trans ho.2
  · exact (congrArg (fun p : Sup => p.uvlo) hu).trans hw
  · exact congrArg (fun p : Sup => p.vstate) hu
  · exact congrArg (fun p : Sup => p.holdPath) hu

/-! ### The charger and the rails (R58, R59, R61, R63) -/

theorem chargerStop_stops {mv : Nat} (hc : s.sup.chgOn = true) (hv : 34000 ≤ mv) : chargerStop mv s = { s with sup := { s.sup with
    chgOn := false, chgFull := true, runV := none, spanV := none, spanQ := 0, chgAt := s.sys.now
    eChg := s.sup.eChg + mv * (if s.sup.chgOn then s.sup.chgI * (s.sys.now - s.sup.chgAt) else 0) } } := by
  unfold chargerStop
  rw [if_pos ⟨hc, hv⟩]
  rfl

theorem chargeSpan_start (now mv : Nat) (p : Sup) : chargeSpan mv (chargeOn now p) = { p with
    chgOn := true, chgFull := false, chgAt := now, spanQ := 0, runV := if p.cmeas = 0 then some mv else none
    spanV := if p.cmeas = 0 ∧ 10000 ≤ mv then some mv else none } := by
  unfold chargeSpan chargeOn
  by_cases hc : p.cmeas = 0
  · by_cases hv : 10000 ≤ mv
    · simp [hc, hv]
    · simp [hc, hv]
  · simp [hc]

theorem chargerResume_resumes {mv : Nat} (hm : s.sys.mgmtUp = true) (hv : s.sup.vstate = 0) (hf : s.sup.chgFull = true) (hl : mv < 33000) :
    chargerResume mv s = { s with sup := chargeSpan mv (chargeOn s.sys.now s.sup) } := by
  unfold chargerResume
  rw [hm, hv, hf, decide_eq_true hl]
  rfl

theorem vldJudge_becomes (mv : Nat) (s : State) : SupplyBecomes s (vldJudge mv s) { s.sup with
    vld := mv, vldBad := decide (mv < cfgN s 0x1200 0xC ∨ cfgN s 0x1200 0xD < mv) } := by
  refine supplyBecomes_of_frame ?_
  rw [Bool.decide_or]
  exact raiseIf_frame ..

theorem vossdFault_latches (h : s.sys.ctrlUp = true) : Answers (.vossdFault t) s fun u => AllOpen u ∧
    u.safA.latch = bset s.safA.latch fltSupply true ∧ u.safB.latch = bset s.safB.latch fltSupply true ∧ u.safA.rwait = 15 ∧ u.safB.rwait = 15 := by
  have he : vossdFault (advance t s) = latchFault .b fltSupply (latchFault .a fltSupply
      { advance t s with sup := { s.sup with vossdOkSince := none } }) := by
    unfold vossdFault
    exact if_pos h
  refine ⟨_, congrArg Host.Outcome.next he, ?_⟩
  have hla := latchFault_latch .a fltSupply { advance t s with sup := { s.sup with vossdOkSince := none } }
  have hoa := (latchFault_opening .a fltSupply { advance t s with sup := { s.sup with vossdOkSince := none } }).other
  obtain ⟨h1, h2, -⟩ := latchFault_latched .a (b := fltSupply) (by decide) { advance t s with sup := { s.sup with vossdOkSince := none } }
  generalize latchFault .a .. = v at *
  have hlb := latchFault_latch .b fltSupply v
  have hob := latchFault_opening .b fltSupply v
  obtain ⟨h3, h4, -⟩ := latchFault_latched .b (b := fltSupply) (by decide) v
  have hw : (getC (latchFault .b fltSupply v) .a).rwait = 15 :=
    eq_ones_of_bget fun p hp => openAll_rwait_mono .b .a (bget_of_eq_ones h2 hp)
  have hz := hob.closes.getC .a
  rw [h1] at hz
  refine ⟨⟨(bv4_and_ones _).symm.trans hz, h3⟩, hob.other.trans hla, hlb.trans ?_, hw, h4⟩
  exact congrArg (bset · fltSupply true) hoa

/-- The capacitance is measured at the end of the span. -/
theorem cmeasDone_measures {mv v0 v1 q c : Nat} (hm : s.sys.mgmtUp = true) (hon : s.sup.chgOn = true) (h0 : s.sup.cmeas = 0)
    (hr : s.sup.runV = some v0) (hs : s.sup.spanV = some v1) (he : (if v0 ≤ 10000 then 20000 else v1 + 1000) ≤ mv) (hv : v1 < mv)
    (hq : q = s.sup.chgI * (s.sys.now - s.sup.chgAt)) (hc : c = max 1 ((s.sup.spanQ + q) / (1000 * (mv - v1)))) :
    cmeasDone v1 mv s = raiseIf (decide (c < cfgN s 0x1200 5)) evHoldLow { s with sup := { s.sup with
      chgAt := s.sys.now, eChg := s.sup.eChg + mv * q, spanQ := s.sup.spanQ + q, cmeas := c, holdLow := decide (c < cfgN s 0x1200 5) } } := by
  have hp : chargeSpan mv (chargeInteg mv s).sup =
      { s.sup with chgAt := s.sys.now, eChg := s.sup.eChg + mv * q, spanQ := s.sup.spanQ + q } := by
    unfold chargeSpan chargeInteg
    simp [hon, h0, hr, hs, hq]
  unfold cmeasDone
  dsimp only
  rw [hp]
  dsimp only
  rw [hr, hs]
  dsimp only
  have hg : (chargeInteg mv s).sys.mgmtUp = true := hm
  have hs' : spanEnd v0 v1 ≤ mv := he
  rw [hg, hon, h0, decide_eq_true hs', decide_eq_true hv, if_pos (by simp)]
  subst hc
  rfl

theorem cmeas_becomes {mv v0 v1 q c : Nat} (hm : s.sys.mgmtUp = true) (hon : s.sup.chgOn = true) (h0 : s.sup.cmeas = 0)
    (hr : s.sup.runV = some v0) (hs : s.sup.spanV = some v1) (he : (if v0 ≤ 10000 then 20000 else v1 + 1000) ≤ mv) (hv : v1 < mv)
    (hq : q = s.sup.chgI * ((advance t s).sys.now - s.sup.chgAt)) (hc : c = max 1 ((s.sup.spanQ + q) / (1000 * (mv - v1)))) :
    Answers (.cmeasDone t v1 mv) s fun u => SupplyBecomes (advance t s) u { s.sup with
      chgAt := (advance t s).sys.now, eChg := s.sup.eChg + mv * q, spanQ := s.sup.spanQ + q
      cmeas := c, holdLow := decide (c < cfgN s 0x1200 5) } :=
  ⟨_, congrArg Host.Outcome.next (cmeasDone_measures (s := advance t s) hm hon h0 hr hs he hv hq hc), supplyBecomes_of_frame (raiseIf_frame ..)⟩

end

/-! ### The mains watch (R67 to R69, Table 2.5) -/

/-- The classification of Table 2.5: what a value says for a state before it. -/
theorem mwNext_says (h cur v : Nat) : (v < 500 → mwNext h cur v = 3) ∧ (500 ≤ v → v < 9000 → cur = 1 ∨ cur = 2 → mwNext h cur v = 2) ∧
    (500 ≤ v → v < 500 + h → cur = 3 → mwNext h cur v = 3) ∧ (9000 ≤ v → v < 9000 + h → cur = 2 → mwNext h cur v = 2) ∧
    (9000 ≤ v → v ≤ 11000 → cur = 1 → mwNext h cur v = 1) ∧ (11000 < v → cur = 1 → mwNext h cur v = 4) := by
  unfold mwNext
  refine ⟨fun h1 => if_pos h1, fun h1 h2 hc => ?_, fun h1 h2 hc => ?_, fun h1 h2 hc => ?_, fun h1 h2 hc => ?_, fun h1 hc => ?_⟩
  · rcases hc with hc | hc
    · simp [hc, h2, Nat.not_lt.2 h1]
    · simp [hc, h2, Nat.not_lt.2 h1]
  · simp [hc, Nat.not_le.2 h2]
  · simp [hc, Nat.not_le.2 h2, show ¬v < 500 by omega]
  · simp [hc, Nat.not_lt.2 h1, Nat.not_lt.2 h2, show ¬v < 500 by omega]
  · simp [hc, h1, show ¬v < 500 by omega, show ¬v < 9000 by omega]

/-- The watch after a refreshed value. -/
def mwJudged (v : Nat) (s : State) : Mw :=
  let m := s.mw
  let n := mwNext (10 * cfgN s 0x1200 0x13) m.mstate v
  let into := fun k => n == k && m.mstate != k
  { m with
    mstate := n, rms := v, minRms := min m.minRms v
    dips := satAdd 5 m.dips (into 2).toNat, ints := satAdd 5 m.ints (into 3).toNat, swells := satAdd 6 m.swells (into 4).toNat
    recoverAt := if n == 2 || n == 3 then none else if m.mstate == 2 || m.mstate == 3 then some s.sys.now else m.recoverAt }

theorem mwJudged_low {v : Nat} {s : State} (h : (mwJudged v s).mstate = 2 ∨ (mwJudged v s).mstate = 3) : (mwJudged v s).recoverAt = none :=
  if_pos (by rcases h with h | h <;> rw [show mwNext _ s.mw.mstate v = _ from h] <;> rfl)

theorem mwJudged_recovers {v : Nat} {s : State} (h : (mwJudged v s).mstate = 1 ∨ (mwJudged v s).mstate = 4)
    (hs : s.mw.mstate = 2 ∨ s.mw.mstate = 3) : (mwJudged v s).recoverAt = some s.sys.now :=
  (if_neg (by rcases h with h | h <;> rw [show mwNext _ s.mw.mstate v = _ from h] <;> simp)).trans (if_pos (by simpa using hs))

/-- A refresh: the watch has judged the value, a dip or an interruption has lowered the grant, and the results are posted. -/
theorem mwRefresh_posts {s : State} {xs : List Int} (hn : cfgN s 0x1200 0x10 ≠ 0) (hm : s.sys.mgmtUp = true) :
    ∃ w l ws, Frame [.ed] { s with mw := mwJudged (mwRms s xs) s } w ∧ mwRefresh xs s = post 0x010300 l ws
      (if ((mwJudged (mwRms s xs) s).mstate == 2 || (mwJudged (mwRms s xs) s).mstate == 3) && w.sup.vstate != 2 then lowerGrant w else w) := by
  unfold mwRefresh
  rw [if_neg (by simp [hn, hm])]
  exact ⟨_, _, _, ((raiseIf_frame ..).trans (raiseIf_frame ..) (r := [.ed])).trans (raiseIf_frame ..), rfl⟩

/-- What a refresh leaves (R67 to R69, R76): the value `v`, the period `p`, the posted result and the classification. -/
def MainsRefreshed (s : State) (t v p : Nat) (u : State) : Prop :=
  (u.mw.rms = v ∧ u.mw.period = p ∧ u.mw.minRms = min s.mw.minRms v) ∧
  (resGet u 0x010300).valid = true ∧ (resGet u 0x010300).fresh = true ∧ u.sup.vstate = s.sup.vstate ∧ Kept u s ∧
  (v < 500 → u.mw.mstate = 3) ∧ (500 ≤ v → v < 9000 → s.mw.mstate = 1 ∨ s.mw.mstate = 2 → u.mw.mstate = 2) ∧
  (500 ≤ v → v < 500 + 10 * cfgN s 0x1200 0x13 → s.mw.mstate = 3 → u.mw.mstate = 3) ∧
  (9000 ≤ v → v < 9000 + 10 * cfgN s 0x1200 0x13 → s.mw.mstate = 2 → u.mw.mstate = 2) ∧
  (9000 ≤ v → v ≤ 11000 → s.mw.mstate = 1 → u.mw.mstate = 1) ∧ (11000 < v → s.mw.mstate = 1 → u.mw.mstate = 4) ∧
  (u.mw.mstate = 2 ∨ u.mw.mstate = 3 → u.mw.recoverAt = none ∧
    (s.sup.vstate ≠ 2 → u.sup.grant = min s.sup.grant s.sup.floorUj ∧ u.sup.whyMains = true)) ∧
  (u.mw.mstate = 1 ∨ u.mw.mstate = 4 → u.sup.grant = s.sup.grant ∧
    (s.mw.mstate = 2 ∨ s.mw.mstate = 3 → u.mw.recoverAt = some (advance t s).sys.now))

/-- A refresh of a state whose watch has noted the crossing or the force. -/
theorem mwRefresh_refreshes {s : State} {t : Nat} {xs : List Int} {m : Mw} {p : Nat} (hn : cfgN s 0x1200 0x10 ≠ 0) (hm : s.sys.mgmtUp = true)
    (hs : m.mstate = s.mw.mstate) (hr : m.minRms = s.mw.minRms) (hp : m.period = p) :
    MainsRefreshed s t (mwRms s xs) p (mwRefresh xs { advance t s with mw := m }) ∧
    (mwRefresh xs { advance t s with mw := m }).mw.pos = m.pos ∧ (mwRefresh xs { advance t s with mw := m }).mw.crossAt = m.crossAt ∧
    (mwRefresh xs { advance t s with mw := m }).mw.forcedAt = m.forcedAt := by
  obtain ⟨w, l, ws, hw, he⟩ := mwRefresh_posts (s := { advance t s with mw := m }) (xs := xs) hn hm
  have hk : Kept (mwRefresh xs { advance t s with mw := m }) s := by
    rw [Kept, mwRefresh_guarded]
    exact advance_guarded t s
  have hv : mwRms { advance t s with mw := m } xs = mwRms s xs := rfl
  rw [hv] at hw he
  obtain ⟨c1, c2, c3, c4, c5, c6⟩ := mwNext_says (10 * cfgN s 0x1200 0x13) s.mw.mstate (mwRms s xs)
  generalize mwRms s xs = v at *
  have hj : (mwJudged v { advance t s with mw := m }).mstate = mwNext (10 * cfgN s 0x1200 0x13) s.mw.mstate v := by
    rw [← hs]
    rfl
  have hmw : w.mw = mwJudged v { advance t s with mw := m } := hw.same .mw
  have hsup : w.sup = s.sup := hw.same .sup
  generalize hlow : ((mwJudged v { advance t s with mw := m }).mstate == 2 || (mwJudged v { advance t s with mw := m }).mstate == 3) = low at *
  have hx : ∀ x, (if low && w.sup.vstate != 2 then lowerGrant w else w) = x → x.mw = w.mw ∧ x.sup.vstate = s.sup.vstate ∧
      (low = true → s.sup.vstate ≠ 2 → x.sup.grant = min s.sup.grant s.sup.floorUj ∧ x.sup.whyMains = true) ∧
      (low = false → x.sup.grant = s.sup.grant) := by
    rintro x rfl
    rw [hsup]
    split
    case isTrue hc =>
      refine ⟨rfl, (congrArg (fun p : Sup => p.vstate) hsup :), fun _ _ => ⟨?_, rfl⟩, fun hl => ?_⟩
      · exact (congrArg (fun p : Sup => min p.grant p.floorUj) hsup :)
      · rw [hl] at hc
        exact Bool.noConfusion hc
    case isFalse hc =>
      refine ⟨rfl, by rw [hsup], fun hl hv2 => ?_, fun _ => by rw [hsup]⟩
      exact absurd (by simpa [hl] using hv2) hc
  obtain ⟨x1, x2, x3, x4⟩ := hx _ rfl
  rw [he] at hk ⊢
  generalize (if low && w.sup.vstate != 2 then lowerGrant w else w) = x at *
  have hf := post_frame 0x010300 l ws x
  have hpm : (post 0x010300 l ws x).mw = mwJudged v { advance t s with mw := m } := (hf.same .mw).trans (x1.trans hmw)
  have hps : (post 0x010300 l ws x).sup = x.sup := hf.same .sup
  have hres := resGet_post 0x010300 l ws x
  generalize post 0x010300 l ws x = u at *
  have hlow' : low = true ↔ mwNext (10 * cfgN s 0x1200 0x13) s.mw.mstate v = 2 ∨ mwNext (10 * cfgN s 0x1200 0x13) s.mw.mstate v = 3 := by
    rw [← hlow, hj]
    simp
  have hj1 := mwJudged_low (v := v) (s := { advance t s with mw := m })
  have hj2 := mwJudged_recovers (v := v) (s := { advance t s with mw := m })
  rw [hj] at hj1 hj2
  unfold MainsRefreshed
  rw [hpm, hps, hres, hj]
  refine ⟨⟨⟨rfl, hp, congrArg (min · v) hr⟩, rfl, rfl, x2, hk, c1, c2, c3, c4, c5, c6, fun h => ⟨hj1 h, x3 (hlow'.2 h)⟩, fun h => ⟨x4 ?_, fun h3 => ?_⟩⟩,
    rfl, rfl, rfl⟩
  · exact Bool.eq_false_iff.2 fun hl => by have := hlow'.1 hl; omega
  · exact hj2 h (by rw [← hs] at h3; exact h3)

section
variable {s : State} {t : Nat}

theorem mwCross_beyond {xs : List Int} {x : Int} (hl : xs.getLast? = some x) (hb : mwBeyond s x = true) (hp : s.mw.pos ≠ some (decide (0 < x))) :
    mwCross s xs = some (decide (0 < x)) := by
  unfold mwCross
  rw [hl]
  exact if_pos (by simp [hb, hp])

/-- The period that a crossing gives: the time between two crossings, where the watch has run since the last but one. -/
theorem mwNote_period (pos : Bool) (s : State) :
    (∀ a, s.mw.crossPrev = some a → (s.mw.pos ≠ none ∧ s.mw.forcedAt = none) → (mwNote pos s).mw.period = (s.sys.now - a) / 1000) ∧
    (s.mw.crossPrev = none ∨ ¬(s.mw.pos ≠ none ∧ s.mw.forcedAt = none) → (mwNote pos s).mw.period = s.mw.period) := by
  have hr : (s.mw.pos.isSome && s.mw.forcedAt.isNone) = true ↔ s.mw.pos ≠ none ∧ s.mw.forcedAt = none := by
    rw [Bool.and_eq_true, Option.isSome_iff_ne_none, Option.isNone_iff_eq_none]
  have hp : (mwNote pos s).mw.period = match s.mw.crossPrev with
    | some a => if (s.mw.pos.isSome && s.mw.forcedAt.isNone) = true then (s.sys.now - a) / 1000 else s.mw.period
    | none => s.mw.period := rfl
  rw [hp]
  refine ⟨fun a ha h => ?_, fun h => ?_⟩
  · rw [ha]
    exact if_pos (hr.2 h)
  · cases hc : s.mw.crossPrev with
    | none => rfl
    | some a => exact if_neg fun hn => h.elim (fun e => by rw [hc] at e; cases e) fun e => e (hr.1 hn)

theorem mwRefresh_classifies {x1 x2 : List Int} {x : Int} (hm : s.sys.mgmtUp = true) (hn : cfgN s 0x1200 0x10 ≠ 0)
    (hl : (x1 ++ x2).getLast? = some x) (hb : mwBeyond s x = true) (hp : s.mw.pos ≠ some (decide (0 < x))) :
    Answers (.mwRefresh t x1 x2) s fun u => u.mw.pos = some (decide (0 < x)) ∧ u.mw.crossAt = (advance t s).sys.now ∧ u.mw.forcedAt = none ∧
      (∀ a, s.mw.crossPrev = some a → (s.mw.pos ≠ none ∧ s.mw.forcedAt = none) →
        MainsRefreshed s t (mwRms s (x1 ++ x2)) (((advance t s).sys.now - a) / 1000) u) ∧
      (s.mw.crossPrev = none ∨ ¬(s.mw.pos ≠ none ∧ s.mw.forcedAt = none) → MainsRefreshed s t (mwRms s (x1 ++ x2)) s.mw.period u) := by
  have he : mwCrossing (x1 ++ x2) (advance t s) = mwRefresh (x1 ++ x2) (mwNote (decide (0 < x)) (advance t s)) := by
    unfold mwCrossing
    rw [mwCross_beyond (s := advance t s) hl hb hp]
  obtain ⟨h1, h2⟩ := mwNote_period (decide (0 < x)) (advance t s)
  have hr := mwRefresh_refreshes (s := s) (t := t) (xs := x1 ++ x2) (m := (mwNote (decide (0 < x)) (advance t s)).mw) (p := _) hn hm rfl rfl rfl
  obtain ⟨hr, hpos, hat, hforced⟩ := hr
  refine ⟨_, congrArg Host.Outcome.next he, hpos, hat, hforced, fun a ha h => ?_, fun h => ?_⟩
  · have hper := h1 a ha h
    rw [hper] at hr
    exact hr
  · have hper := h2 h
    rw [hper] at hr
    exact hr

theorem mwForced_classifies {xs : List Int} (hm : s.sys.mgmtUp = true) (hn : cfgN s 0x1200 0x10 ≠ 0) (hd : mwForcedDue (advance t s) = true) :
    Answers (.mwForcedRefresh t xs) s fun u => MainsRefreshed s t (mwRms s xs) s.mw.period u ∧
      u.mw.forcedAt = some (advance t s).sys.now ∧ u.mw.crossAt = s.mw.crossAt := by
  have he : mwForced xs (advance t s) = mwRefresh xs { advance t s with mw := { s.mw with forcedAt := some (advance t s).sys.now } } := if_pos hd
  obtain ⟨hr, -, hat, hforced⟩ := mwRefresh_refreshes (s := s) (t := t) (xs := xs) (m := { s.mw with forcedAt := some (advance t s).sys.now })
    hn hm rfl rfl rfl
  exact ⟨_, congrArg Host.Outcome.next he, hr, hforced, hat⟩

theorem mwRecovered_ends {s : State} {a : Nat} (ha : s.mw.recoverAt = some a) (hd : a + cfgN s 0x1200 0x14 * msNs ≤ s.sys.now) :
    mwRecovered s = { s with mw := { s.mw with recoverAt := none }, sup := { s.sup with whyMains := false } } := by
  unfold mwRecovered
  rw [ha]
  exact if_pos hd

end

/-- Settles O14: it holds. -/
theorem supplyWatch : Obligations.SupplyWatch := by
  unfold Obligations.SupplyWatch
  refine ⟨fun s t vin held mv => ⟨rideEnter_rides, rideEnter_not, fun hv hi hh => ?_, fun h => ?_, uvlo_opens, fun hc hv => ?_, fun hm hv hf hl => ?_⟩,
    fun s t mv v0 v1 => ⟨vossdFault_latches, fun hm => ?_, fun hm hon h0 hr hs he hv q c hq hc => cmeas_becomes hm hon h0 hr hs he hv hq hc⟩,
    fun s t x1 x2 x hm hn => ⟨mwRefresh_classifies hm hn, mwForced_classifies hm hn, fun a ha hd => ?_⟩⟩
  · exact ⟨_, congrArg Host.Outcome.next (rideExit_ends (s := advance t s) hv hi hh), rfl⟩
  · exact ⟨_, congrArg Host.Outcome.next (rideExit_not (s := advance t s) h), rfl⟩
  · exact ⟨_, congrArg Host.Outcome.next (chargerStop_stops (s := advance t s) hc hv), rfl⟩
  · have he := (chargerResume_resumes (s := advance t s) hm hv hf hl).trans (congrArg (fun p => { advance t s with sup := p })
      (chargeSpan_start (advance t s).sys.now mv s.sup))
    exact ⟨_, congrArg Host.Outcome.next he, rfl⟩
  · exact ⟨_, congrArg Host.Outcome.next (if_pos hm), vldJudge_becomes ..⟩
  · exact ⟨_, congrArg Host.Outcome.next (mwRecovered_ends (s := advance t s) ha
      (by rw [cfgN_congr (s := s) (advance_cf t s)]; exact hd)), rfl⟩

end Sys2Proof.Machine
end

section
/-! PROOF. O13: the energy meter, SAVE and loss of VBUS. -/

namespace Sys2Proof.Machine

-- One after another the proofs need less memory than all at once.
set_option Elab.async false

/-! ### The refresh of the meter (R60 to R62, R76) -/

theorem chargeSpan_eq (mv : Nat) (p : Sup) : ∃ r v q, chargeSpan mv p = { p with runV := r, spanV := v, spanQ := q } := by
  unfold chargeSpan
  dsimp only
  (repeat' split) <;> exact ⟨_, _, _, rfl⟩

/-- The limits of VLD have been judged. -/
def meterJudged (m : Meter) (s : State) : State := vldJudge m.vld (meterRead m.vin (energyOf s m.prod).1 s).2

/-- The charger has been integrated and the stores have been read. -/
def meterRead' (m : Meter) (s : State) : State :=
  m.vst.zipIdx.foldl (fun s x => if qPresent s x.2 then storeRead x.2 x.1 s else s) (chargeInteg m.vhold (meterJudged m s))

/-- The figures of a refresh. -/
def figures (m : Meter) (s : State) (now : Nat) (p : Sup) : Sup :=
  let av := eAvail (holdCap (meterJudged m s)) m.vhold
  let fb := freeboard (meterJudged m s)
  let e := (meterRead m.vin (energyOf s m.prod).1 s).1
  { p with
    vin := m.vin, iin := iinOf s m.shunt, eRem := (energyOf s m.prod).2, vhold := m.vhold, vossd := m.vossd, avail := av, free := av - fb
    uvlo := p.uvlo && decide (m.vin ≤ 4300)
    vossdOkSince := holdSince (decide (18000 ≤ m.vossd) && decide (m.vossd ≤ 31000)) p.vossdOkSince now
    eFrame := p.eFrame + e, eTotal := p.eTotal + e, eInt := satAdd 32 p.eInt e
    holdReady := s.sup.holdReady || (decide (fb ≤ av) && p.vstate != 2) }

/-- The state with the figures, before SAVE is judged. -/
def metered (m : Meter) (s : State) : State :=
  { meterRead' m s with sup := figures m s (meterRead' m s).sys.now (chargeSpan m.vhold (meterRead' m s).sup) }

theorem emRefresh_up {s : State} (hm : s.sys.mgmtUp = true) (m : Meter) : emRefresh m s = postFig
    (if s.sup.holdReady && decide (eAvail (holdCap (meterJudged m s)) m.vhold ≤ freeboard (meterJudged m s)) && (metered m s).sup.vstate != 2
      then saveStart (metered m s) else metered m s) := by
  unfold emRefresh
  rw [if_neg (by simp [hm])]
  rfl

theorem meterRead_frame (vin e : Nat) (s : State) : Frame [.sys] s (meterRead vin e s).2 := by
  unfold meterRead
  split
  · exact drawn_frame s
  · exact .refl ..

theorem meterRead_exact {vin : Nat} (h : 6000 ≤ vin) (e : Nat) (s : State) : (meterRead vin e s).1 = e :=
  congrArg Prod.fst (if_neg (Nat.not_lt.2 h) : meterRead vin e s = (e, s))

theorem meterJudged_frame (m : Meter) (s : State) : Frame [.sys, .sup, .ed] s (meterJudged m s) :=
  (meterRead_frame ..).trans (vldJudge_frame ..)

theorem meterJudged_sup (m : Meter) (s : State) : ∃ b, (meterJudged m s).sup = { s.sup with vld := m.vld, vldBad := b } := by
  have h := vldJudge_becomes m.vld (meterRead m.vin (energyOf s m.prod).1 s).2
  have hs : (meterRead m.vin (energyOf s m.prod).1 s).2.sup = s.sup := (meterRead_frame ..).same .sup
  have hj := congrArg State.sup h
  rw [hs] at hj
  exact ⟨_, hj⟩

theorem storesRead_frame (l : List (Nat × Nat)) (s : State) :
    Frame [.gov] s (l.foldl (fun s x => if qPresent s x.2 then storeRead x.2 x.1 s else s) s) := by
  refine .foldl (fun s x => ?_) ..
  split
  · exact .of (l := [.gov])
  · exact .refl ..

theorem meterRead'_frame (m : Meter) (s : State) : Frame [.sys, .sup, .ed, .gov] s (meterRead' m s) :=
  (meterJudged_frame m s).trans ((Frame.of (l := [.sup])).trans (storesRead_frame ..) (r := [.sup, .gov]))

/-- The figures touch of the supply what follows, the charger's run and the limits' judgement. -/
theorem metered_sup (m : Meter) (s : State) : ∃ b x y r v q, (metered m s).sup = figures m s s.sys.now { s.sup with
    vld := m.vld, vldBad := b, chgAt := x, eChg := y, runV := r, spanV := v, spanQ := q } := by
  obtain ⟨b, hb⟩ := meterJudged_sup m s
  have hn : (meterRead' m s).sys.now = s.sys.now := (meterRead'_frame m s).same .now
  have hp : (meterRead' m s).sup = (chargeInteg m.vhold (meterJudged m s)).sup := (storesRead_frame ..).same .sup
  obtain ⟨r, v, q, hq⟩ := chargeSpan_eq m.vhold (meterRead' m s).sup
  refine ⟨b, (meterRead' m s).sup.chgAt, (meterRead' m s).sup.eChg, r, v, q, ?_⟩
  unfold metered
  dsimp only
  rw [hq, hn, hp]
  unfold chargeInteg
  dsimp only
  rw [hb]

theorem metered_frame (m : Meter) (s : State) : Frame [.sys, .sup, .ed, .gov, .eFrame, .vstate] s (metered m s) :=
  (meterRead'_frame m s).trans (Frame.of (l := [.sup, .eFrame, .vstate]))

theorem postFig_frame (s : State) : Frame [.ed, .res, .regs] s (postFig s) := by
  unfold postFig
  exact post_frame ..

theorem metered_guarded (m : Meter) (s : State) : guarded (metered m s) = guarded s := by
  have hs : ∀ (u : State) (x : Nat × Nat), guarded (if qPresent u x.2 then storeRead x.2 x.1 u else u) = guarded u := by
    intro u x
    split
    · exact storeRead_guarded ..
    · rfl
  calc guarded (metered m s) = guarded (meterRead' m s) := rfl
    _ = guarded (chargeInteg m.vhold (meterJudged m s)) := foldl_guarded (fun u => u) _ _ _ hs
    _ = guarded (meterRead m.vin (energyOf s m.prod).1 s).2 := (chargeInteg_guarded ..).trans (vldJudge_guarded ..)
    _ = guarded s := by
      unfold meterRead
      split
      · exact drawn_guarded s
      · rfl

theorem meterJudged_av (m : Meter) (s : State) : eAvail (holdCap (meterJudged m s)) m.vhold = eAvail (holdCap s) m.vhold ∧
    freeboard (meterJudged m s) = cfgN s 0x1200 4 := by
  obtain ⟨b, hb⟩ := meterJudged_sup m s
  have hc := cfgN_congr (s := s) ((meterJudged_frame m s).same .cf)
  unfold holdCap freeboard
  rw [hb]
  simp only [hc, and_self]

theorem figures_eq (m : Meter) (s : State) (now : Nat) (p : Sup) : ∃ o, figures m s now p = { p with
    vin := m.vin, iin := iinOf s m.shunt, eRem := (energyOf s m.prod).2, vhold := m.vhold, vossd := m.vossd
    avail := eAvail (holdCap s) m.vhold, free := eAvail (holdCap s) m.vhold - cfgN s 0x1200 4
    uvlo := p.uvlo && decide (m.vin ≤ 4300), vossdOkSince := o
    eFrame := p.eFrame + (meterRead m.vin (energyOf s m.prod).1 s).1, eTotal := p.eTotal + (meterRead m.vin (energyOf s m.prod).1 s).1
    eInt := satAdd 32 p.eInt (meterRead m.vin (energyOf s m.prod).1 s).1
    holdReady := s.sup.holdReady || (decide (cfgN s 0x1200 4 ≤ eAvail (holdCap s) m.vhold) && p.vstate != 2) } := by
  obtain ⟨hav, hfb⟩ := meterJudged_av m s
  unfold figures
  rw [hav, hfb]
  exact ⟨_, rfl⟩

/-- SAVE begins where E_avail has come down to FREEBOARD with HOLD_READY set. -/
theorem emRefresh_judges {s : State} (hm : s.sys.mgmtUp = true) (m : Meter) : emRefresh m s = postFig
    (if s.sup.holdReady = true ∧ eAvail (holdCap s) m.vhold ≤ cfgN s 0x1200 4 ∧ s.sup.vstate ≠ 2 then saveStart (metered m s)
      else metered m s) := by
  obtain ⟨hav, hfb⟩ := meterJudged_av m s
  have hv : (metered m s).sup.vstate = s.sup.vstate := by
    obtain ⟨b, x, y, r, v, q, hs⟩ := metered_sup m s
    rw [hs]
    rfl
  rw [emRefresh_up hm, hav, hfb, hv]
  refine congrArg postFig (if_congr ?_ rfl rfl)
  simp [and_assoc]

section
variable {s : State} {t : Nat}

/-- The figures of a refresh that does not begin SAVE. -/
theorem emRefresh_reads {m : Meter} (hm : s.sys.mgmtUp = true)
    (h : s.sup.holdReady = false ∨ cfgN s 0x1200 4 < eAvail (holdCap s) m.vhold ∨ s.sup.vstate = 2) :
    Answers (.emRefresh t m) s fun u => Kept u s ∧
      u.sup.vin = m.vin ∧ u.sup.iin = iinOf s m.shunt ∧ u.sup.vhold = m.vhold ∧ u.sup.vossd = m.vossd ∧ u.sup.vld = m.vld ∧
      u.sup.avail = eAvail (holdCap s) m.vhold ∧ u.sup.free = eAvail (holdCap s) m.vhold - cfgN s 0x1200 4 ∧ u.sup.vstate = s.sup.vstate ∧
      u.sup.holdReady = (s.sup.holdReady || decide (cfgN s 0x1200 4 ≤ eAvail (holdCap s) m.vhold ∧ s.sup.vstate ≠ 2)) ∧
      (6000 ≤ m.vin → u.sup.eFrame = s.sup.eFrame + (energyOf s m.prod).1 ∧ u.sup.eTotal = s.sup.eTotal + (energyOf s m.prod).1) := by
  have hn : ¬((advance t s).sup.holdReady = true ∧ eAvail (holdCap (advance t s)) m.vhold ≤ cfgN (advance t s) 0x1200 4 ∧
      (advance t s).sup.vstate ≠ 2) := by
    rintro ⟨h1, h2, h3⟩
    rcases h with h | h | h
    · exact Bool.noConfusion (h.symm.trans h1)
    · exact absurd h2 (Nat.not_le.2 h)
    · exact h3 h
  have he := (emRefresh_judges (s := advance t s) hm m).trans (congrArg postFig (if_neg hn))
  have hk : Kept (postFig (metered m (advance t s))) s := (postFig_guarded _).trans ((metered_guarded ..).trans (advance_guarded t s))
  have hp : (postFig (metered m (advance t s))).sup = (metered m (advance t s)).sup := (postFig_frame _).same .sup
  obtain ⟨b, x, y, r, v, q, hs⟩ := metered_sup m (advance t s)
  have hf := figures_eq m (advance t s) (advance t s).sys.now
    { s.sup with vld := m.vld, vldBad := b, chgAt := x, eChg := y, runV := r, spanV := v, spanQ := q }
  obtain ⟨o, hf⟩ := hf
  refine ⟨_, congrArg Host.Outcome.next he, hk, ?_⟩
  rw [hp, hs.trans hf]
  refine ⟨rfl, rfl, rfl, rfl, rfl, rfl, rfl, rfl, ?_, fun hv => ?_⟩
  · rw [Bool.decide_and]
    simp [bne, beq_eq_decide]
    rfl
  · have hr := meterRead_exact hv (energyOf s m.prod).1 (advance t s)
    exact ⟨congrArg (s.sup.eFrame + ·) hr, congrArg (s.sup.eTotal + ·) hr⟩

theorem saveStart_saves (w : State) : (saveStart w).sup.vstate = 2 ∧ (saveStart w).sup.t0 = some w.sys.now ∧
    (saveStart w).sup.holdReady = false ∧ (saveStart w).sup.grant = 0 ∧ AllOpen (saveStart w) ∧ (saveStart w).sess.user = 0 ∧
    (saveStart w).pw.dp = .off ∧ (saveStart w).lm.sinks = 0 := by
  unfold saveStart
  dsimp only
  generalize hg : ({ w with sup := _ } : State) = g
  have hsup : g.sup.vstate = 2 ∧ g.sup.t0 = some w.sys.now ∧ g.sup.holdReady = false ∧ g.sup.grant = 0 := by
    subst hg
    exact ⟨rfl, rfl, rfl, rfl⟩
  have hu := endSession_user g
  have he : (endSession g).sup = g.sup := (endSession_frame g).same .sup
  generalize endSession g = e at *
  have hd := dpStop_frame e
  have hdp : (dpStop e).pw.dp = .off := by rw [dpStop_pw]
  have hds : (dpStop e).sup = e.sup := hd.same .sup
  have hdu : (dpStop e).sess = e.sess := hd.same .sess
  generalize dpStop e = d at *
  have ho := openBoth_frame (regPut 0x010200 0 d)
  have hall := openBoth_open (regPut 0x010200 0 d)
  have hos : (openBoth (regPut 0x010200 0 d)).sup = d.sup := ho.same .sup
  have hop : (openBoth (regPut 0x010200 0 d)).pw = d.pw := ho.same .pw
  have hou : (openBoth (regPut 0x010200 0 d)).sess = d.sess := ho.same .sess
  generalize openBoth _ = o at *
  have hs : o.sup = g.sup := hos.trans (hds.trans he)
  refine ⟨?_, ?_, ?_, ?_, hall, ?_, ?_, rfl⟩
  · exact (congrArg (fun p : Sup => p.vstate) hs).trans hsup.1
  · exact (congrArg (fun p : Sup => p.t0) hs).trans hsup.2.1
  · exact (congrArg (fun p : Sup => p.holdReady) hs).trans hsup.2.2.1
  · exact (congrArg (fun p : Sup => p.grant) hs).trans hsup.2.2.2
  · exact (congrArg (fun p : Sess => p.user) (hou.trans hdu)).trans hu
  · exact (congrArg (fun p : Pw => p.dp) hop).trans hdp

theorem emRefresh_saves {m : Meter} (hm : s.sys.mgmtUp = true) (hr : s.sup.holdReady = true)
    (ha : eAvail (holdCap s) m.vhold ≤ cfgN s 0x1200 4) (hv : s.sup.vstate ≠ 2) : Answers (.emRefresh t m) s fun u =>
      u.sup.vstate = 2 ∧ u.sup.t0 = some (advance t s).sys.now ∧ u.sup.holdReady = false ∧ u.sup.grant = 0 ∧ AllOpen u ∧
      u.sess.user = 0 ∧ u.pw.dp = .off ∧ u.lm.sinks = 0 ∧
      ∀ w, saveStopped (advance w u) = decide ((advance t s).sys.now + 50000 ≤ (advance w u).sys.now) := by
  have he := (emRefresh_judges (s := advance t s) hm m).trans (congrArg postFig (if_pos ⟨hr, ha, hv⟩))
  have hn : (metered m (advance t s)).sys.now = (advance t s).sys.now := (metered_frame ..).same .now
  obtain ⟨h1, h2, h3, h4, h5, h6, h7, h8⟩ := saveStart_saves (metered m (advance t s))
  rw [hn] at h2
  have hf := postFig_frame (saveStart (metered m (advance t s)))
  have hsup : (postFig (saveStart (metered m (advance t s)))).sup = (saveStart (metered m (advance t s))).sup := hf.same .sup
  have hsa : (postFig (saveStart (metered m (advance t s)))).safA = (saveStart (metered m (advance t s))).safA := hf.same .safA
  have hsb : (postFig (saveStart (metered m (advance t s)))).safB = (saveStart (metered m (advance t s))).safB := hf.same .safB
  have hse : (postFig (saveStart (metered m (advance t s)))).sess = (saveStart (metered m (advance t s))).sess := hf.same .sess
  have hpw : (postFig (saveStart (metered m (advance t s)))).pw = (saveStart (metered m (advance t s))).pw := hf.same .pw
  have hlm : (postFig (saveStart (metered m (advance t s)))).lm = (saveStart (metered m (advance t s))).lm := hf.same .lm
  refine ⟨_, congrArg Host.Outcome.next he, ?_⟩
  rw [← hsup] at h1 h2 h3 h4
  rw [← hse] at h6
  rw [← hpw] at h7
  rw [← hlm] at h8
  unfold AllOpen at *
  rw [← hsa, ← hsb] at h5
  generalize postFig _ = u at *
  refine ⟨h1, h2, h3, h4, h5, h6, h7, h8, fun w => ?_⟩
  unfold saveStopped
  rw [advance_sup, h2, h1]
  rfl

end

/-! ### What SAVE writes (Table 2.7) -/

theorem CountingOnly.frame {s u : State} (h : CountingOnly s u) : Frame [.ax, .ed] s u := by
  obtain ⟨_, _, _, _, _, _, rfl⟩ := h
  exact .of

theorem startWrite_idem (s : State) : startWrite (startWrite s) = startWrite s := by
  by_cases h : s.ax.wstate = 0 ∧ (s.ax.queue ≠ [] ∨ s.ax.dirty = true) ∧ instantOpen s = false
  · exact startWrite_busy (by unfold startWrite; rw [if_pos h]; exact Nat.one_ne_zero)
  · have hs : startWrite s = s := if_neg h
    rw [hs, hs]

theorem copyAWritten_frame (s : State) : Frame [.ax, .ed] s (copyAWritten s) := by
  have hw : copyAWritten s = if (startWrite s).ax.wstate = 1 then copyAWritten (startWrite s) else startWrite s := by
    by_cases h : (startWrite s).ax.wstate = 1
    · rw [if_pos h]
      unfold copyAWritten
      rw [startWrite_idem]
    · rw [if_neg h]
      exact if_neg h
  rw [hw]
  split
  case isTrue h =>
    refine (startWrite_frame s).trans (Frame.trans (l := [.ax, .ed]) (l' := [.ax, .ed]) (u := copiedIn (startWrite s)) ?_ ?_ (r := [.ax, .ed]))
    · exact (exportedIn_counting _).frame.trans (Frame.of (l := [.ax]))
    · rw [copyAWritten_eq h]
      exact (written_sections _).frame
  case isFalse => exact (startWrite_frame s).mono

theorem copyBWritten_frame (s : State) : Frame [.ax] s (copyBWritten s) := by
  unfold copyBWritten
  split
  · exact (Frame.of (l := [.ax])).trans (startWrite_frame _)
  · exact .refl ..

/-- Both copies are written at once with the counts of the sections. -/
def countsSaved (s : State) : State :=
  { s with ax := { s.ax with
      cntA := ⟨max s.ax.cntA.num s.ax.cntB.num + 1, secCounts s⟩, cntB := ⟨max s.ax.cntA.num s.ax.cntB.num + 1, secCounts s⟩, wstate := 0 } }

theorem countsSaved_frame (s : State) : Frame [.ax] s (countsSaved s) := .of

theorem saveCounts_eq (s : State) :
    saveCounts s = countsSaved (copyBWritten (copyAWritten (startWrite (copyBWritten (copyAWritten s))))) := by
  unfold saveCounts countsSaved
  dsimp only

theorem saveCounts_frame (s : State) : Frame [.ax, .ed] s (saveCounts s) := by
  have hw : ∀ u, Frame [.ax, .ed] u (copyBWritten (copyAWritten u)) := fun u => (copyAWritten_frame u).trans (copyBWritten_frame _)
  rw [saveCounts_eq]
  exact ((hw s).trans ((startWrite_frame _).trans (hw _) (r := [.ax, .ed])) (r := [.ax, .ed])).trans (countsSaved_frame _)

theorem saveCounts_equal (s : State) : (saveCounts s).ax.cntA = (saveCounts s).ax.cntB := by
  rw [saveCounts_eq]
  rfl

theorem stageUnacked_frame (s : State) : Frame [.cf] s (stageUnacked s) := .of

theorem copyCut_frame (at_ : Nat) (s : State) : Frame [.cf, .copyA] s (copyCut at_ s) := by
  unfold copyCut
  (repeat' split) <;> exact .of

theorem copyCut_keeps (at_ : Nat) {s : State} (h : ∀ p, s.cf.pend = some p → p.writeAt = none) : copyCut at_ s = s := by
  unfold copyCut
  cases hp : s.cf.pend with
  | none => rfl
  | some p =>
    dsimp only
    rw [h p hp]

theorem copyCut_writes {at_ w : Nat} {s : State} {p : Pend} (hp : s.cf.pend = some p) (hw : p.writeAt = some w) (hn : p.written = false)
    (ha : w + copyATime p s ≤ at_) : (copyCut at_ s).cf.copyA = copyAfter p s := by
  unfold copyCut
  rw [hp]
  dsimp only
  rw [hw]
  dsimp only
  rw [hn, if_pos (by rw [decide_eq_true ha]; rfl)]

/-- The energy totals are written, and what remains of a lockout. -/
def totalsSaved (s : State) : State :=
  { s with sup := { s.sup with eTotalMram := s.sup.eTotal }
           sess := { s.sess with lockMram := s.sess.lockLeft - (s.sys.now - s.sess.lockAt) } }

/-- What SAVE writes leaves alone: the copies, the governor's blocks, the log and the passphrases. -/
structure SaveKeeps (s u : State) : Prop where
  copyA : u.cf.copyA = s.cf.copyA
  copyB : u.cf.copyB = s.cf.copyB
  gov : u.gov = s.gov
  sess : u.sess.log = s.sess.log ∧ u.sess.slots = s.sess.slots
  sys : u.sys = s.sys

theorem SaveKeeps.refl (s : State) : SaveKeeps s s := ⟨rfl, rfl, rfl, ⟨rfl, rfl⟩, rfl⟩

theorem SaveKeeps.trans {s u v : State} (h : SaveKeeps s u) (h' : SaveKeeps u v) : SaveKeeps s v :=
  ⟨h'.copyA.trans h.copyA, h'.copyB.trans h.copyB, h'.gov.trans h.gov, ⟨h'.sess.1.trans h.sess.1, h'.sess.2.trans h.sess.2⟩, h'.sys.trans h.sys⟩

theorem SaveKeeps.of_frame {s u : State} (h : Frame [.ax, .ed, .cf] s u) : SaveKeeps s u := by
  have hs : u.sess = s.sess := h.same .sess
  exact ⟨h.same .copyA, h.same .copyB, h.same .gov, ⟨by rw [hs], by rw [hs]⟩, h.same .sys⟩

theorem totalsSaved_keeps (s : State) : SaveKeeps s (totalsSaved s) := ⟨rfl, rfl, rfl, ⟨rfl, rfl⟩, rfl⟩

theorem saveWrites_eq (dt : Nat) (s : State) : saveWrites dt s =
    (let s := if 600000 ≤ dt then saveCounts s else s
     let s := if 2000000 ≤ dt then totalsSaved s else s
     if 3600000 ≤ dt then stageUnacked s else s) := rfl

theorem saveWrites_keeps (dt : Nat) (s : State) : SaveKeeps s (saveWrites dt s) := by
  rw [saveWrites_eq]
  dsimp only
  have h1 : SaveKeeps s (if 600000 ≤ dt then saveCounts s else s) := by
    split
    · exact .of_frame (saveCounts_frame s).mono
    · exact .refl s
  refine h1.trans ?_
  generalize (if 600000 ≤ dt then saveCounts s else s) = v
  have h2 : SaveKeeps v (if 2000000 ≤ dt then totalsSaved v else v) := by
    split
    · exact totalsSaved_keeps v
    · exact .refl v
  refine h2.trans ?_
  generalize (if 2000000 ≤ dt then totalsSaved v else v) = x
  split
  · exact .of_frame (stageUnacked_frame _).mono
  · exact .refl _

theorem saveWrites_all {dt : Nat} (h : 3600000 ≤ dt) (s : State) :
    saveWrites dt s = stageUnacked (totalsSaved (saveCounts s)) := by
  rw [saveWrites_eq]
  dsimp only
  rw [if_pos (show 600000 ≤ dt by omega), if_pos (show 2000000 ≤ dt by omega), if_pos h]

theorem saveWritten_keeps (s : State) : SaveKeeps s (saveWritten s) := by
  unfold saveWritten
  split
  · exact saveWrites_keeps ..
  · exact .refl s

/-! ### OFF (R57, R72) -/

/-- The device is off after a save that left the copies of `s` in place. -/
theorem powerOff_isOff {s v : State} (hb : v.cf.copyB = s.cf.copyB) (ha : (∀ p, s.cf.pend = some p → p.writeAt = none) → v.cf.copyA = s.cf.copyA)
    (hg : v.gov = s.gov) (hs : v.sess.log = s.sess.log ∧ v.sess.slots = s.sess.slots) : IsOff s (powerOff v) := by
  refine ⟨rfl, rfl, ⟨rfl, rfl⟩, rfl, rfl, rfl, hb, ha, ⟨?_, ?_⟩, hs.1, hs.2, rfl⟩
  · exact (congrArg (fun g : Gov => g.copyA) hg :)
  · exact (congrArg (fun g : Gov => g.copyB) hg :)

/-- The state before OFF: a commit's copy A is cut, and what SAVE writes is written. -/
theorem cutSaved_isOff {s v w : State} {at_ : Nat} (hv : SaveKeeps (copyCut at_ s) v) (hc : w.cf = v.cf) (hg : w.gov = v.gov)
    (hs : w.sess = v.sess) : IsOff s (powerOff w) := by
  have hf := copyCut_frame at_ s
  have hfg : (copyCut at_ s).gov = s.gov := hf.same .gov
  have hfs : (copyCut at_ s).sess = s.sess := hf.same .sess
  have hfb : (copyCut at_ s).cf.copyB = s.cf.copyB := hf.same .copyB
  refine powerOff_isOff ?_ (fun hp => ?_) ?_ ?_
  · rw [hc, hv.copyB, hfb]
  · rw [hc, hv.copyA, copyCut_keeps at_ hp]
  · rw [hg, hv.gov, hfg]
  · rw [hs, hv.sess.1, hv.sess.2, hfs]
    exact ⟨rfl, rfl⟩

section
variable {s : State} {t : Nat}

/-- The save-complete record is written. -/
def saveRecorded (v : State) : State := { v with sys := { v.sys with saves := satAdd 32 v.sys.saves 1, saveRecord := true } }

theorem saveRecorded_parts (v : State) : (saveRecorded v).cf = v.cf ∧ (saveRecorded v).gov = v.gov ∧ (saveRecorded v).sess = v.sess :=
  ⟨rfl, rfl, rfl⟩

theorem powerOff_saved (v : State) : (powerOff (saveRecorded (stageUnacked (totalsSaved v)))).sup.eTotal = v.sup.eTotal ∧
    (powerOff (saveRecorded (stageUnacked (totalsSaved v)))).ax.cntA = v.ax.cntA ∧
    (powerOff (saveRecorded (stageUnacked (totalsSaved v)))).ax.cntB = v.ax.cntB := ⟨rfl, rfl, rfl⟩

theorem saveComplete_saves (hv : s.sup.vstate = 2) :
    saveComplete s = powerOff (saveRecorded (saveWrites 4000000 (copyCut (s.sup.t0.getD s.sys.now) s))) := by
  unfold saveComplete saveRecorded
  rw [if_pos hv]

theorem saveComplete_off (hv : s.sup.vstate = 2) : Answers (.saveComplete t) s fun u => IsOff s u ∧ u.sys.saveRecord = true ∧
    u.sys.saves = satAdd 32 s.sys.saves 1 ∧ u.sup.eTotal = s.sup.eTotal ∧ u.cf.unacked = [] ∧ u.ax.cntA = u.ax.cntB := by
  have he := saveComplete_saves (s := advance t s) hv
  refine ⟨_, congrArg Host.Outcome.next he, ?_⟩
  generalize (advance t s).sup.t0.getD (advance t s).sys.now = at_
  have hk := saveWrites_keeps 4000000 (copyCut at_ (advance t s))
  have hall := saveWrites_all (dt := 4000000) (by omega) (copyCut at_ (advance t s))
  have hsys : (saveWrites 4000000 (copyCut at_ (advance t s))).sys.saves = s.sys.saves := by
    rw [hk.sys]
    exact (congrArg (fun x : Sys => x.saves) ((copyCut_frame at_ (advance t s)).same .sys) :)
  have hoff := cutSaved_isOff hk (w := saveRecorded (saveWrites 4000000 (copyCut at_ (advance t s)))) (saveRecorded_parts _).1
    (saveRecorded_parts _).2.1 (saveRecorded_parts _).2.2
  have hx : (saveCounts (copyCut at_ (advance t s))).sup = s.sup :=
    ((saveCounts_frame _).same .sup).trans ((copyCut_frame at_ (advance t s)).same .sup)
  refine ⟨hoff, rfl, congrArg (satAdd 32 · 1) hsys, ?_, rfl, ?_⟩
  · rw [hall, (powerOff_saved _).1, hx]
  · rw [hall, (powerOff_saved _).2.1, (powerOff_saved _).2.2, saveCounts_equal]

theorem vbusLoss_off (hp : s.sys.powered = true) : Answers (.vbusLoss t) s fun u => IsOff s u ∧ u.sys.saveRecord = false ∧
    u.sys.saves = s.sys.saves ∧ (s.sup.t0 = none → (∀ p w, s.cf.pend = some p → p.writeAt = some w → p.written = false →
      w + copyATime p s ≤ (advance t s).sys.now → u.cf.copyA = copyAfter p s) ∧ u.sup.eTotal = s.sup.eTotalMram ∧
      u.cf.staged = s.cf.staged ∧ u.ax.cntA = s.ax.cntA ∧ u.ax.cntB = s.ax.cntB) := by
  have he : vbusLoss (advance t s) =
      (let v := saveWritten (copyCut (s.sup.t0.getD (advance t s).sys.now) (advance t s))
       powerOff { v with sys := { v.sys with saveRecord := false } }) := if_neg (by rw [show (advance t s).sys.powered = true from hp]; decide)
  refine ⟨_, congrArg Host.Outcome.next he, ?_⟩
  generalize hat : s.sup.t0.getD (advance t s).sys.now = at_
  have hk := saveWritten_keeps (copyCut at_ (advance t s))
  have hcut := copyCut_frame at_ (advance t s)
  have hsys : (saveWritten (copyCut at_ (advance t s))).sys.saves = s.sys.saves := by
    rw [hk.sys]
    exact (congrArg (fun x : Sys => x.saves) (hcut.same .sys) :)
  have hoff : IsOff (advance t s) _ := cutSaved_isOff hk (w := { saveWritten (copyCut at_ (advance t s)) with
    sys := { (saveWritten (copyCut at_ (advance t s))).sys with saveRecord := false } }) rfl rfl rfl
  refine ⟨hoff, rfl, hsys, fun h0 => ?_⟩
  have hn : saveWritten (copyCut at_ (advance t s)) = copyCut at_ (advance t s) := by
    unfold saveWritten
    rw [show (copyCut at_ (advance t s)).sup = s.sup from hcut.same .sup, h0]
  rw [hn]
  have hax : (copyCut at_ (advance t s)).ax = s.ax := hcut.same .ax
  have hst : (copyCut at_ (advance t s)).cf.staged = s.cf.staged := by
    unfold copyCut
    (repeat' split) <;> rfl
  rw [h0] at hat
  refine ⟨fun p w h1 h2 h3 h4 => ?_, ?_, hst, (congrArg (fun x : Ax => x.cntA) hax :), (congrArg (fun x : Ax => x.cntB) hax :)⟩
  · exact copyCut_writes (s := advance t s) h1 h2 h3 (by rw [← hat]; exact h4)
  · exact (congrArg (fun p : Sup => p.eTotalMram) (hcut.same .sup) :)

end

/-- Settles O13: it holds. -/
theorem metersAndPowerLoss : Obligations.MetersAndPowerLoss := by
  unfold Obligations.MetersAndPowerLoss
  exact ⟨fun s t m hm => ⟨emRefresh_reads hm, emRefresh_saves hm⟩, fun s t => ⟨saveComplete_off, vbusLoss_off⟩⟩

end Sys2Proof.Machine
end

section
/-! PROOF. O21: events of the receive channels. -/

namespace Sys2Proof.Machine

-- One after another the proofs need less memory than all at once.
set_option Elab.async false

/-! ### What a receive channel's record does not decide -/

section
variable {s u : State}

theorem viewFrame_cf (hc : u.cf = s.cf) (hp : u.pw = s.pw) (f : BitVec 32) : (viewFrame f u).cf = (viewFrame f s).cf := by
  unfold viewFrame
  rw [hp]
  split
  · exact hc
  · rw [hc]

theorem servingCh_congr (hc : u.cf = s.cf) (ch : Nat) : servingCh u ch = servingCh s ch := by
  unfold servingCh serving emtStrip
  simp only [cfgN_congr hc]

theorem correct_congr (hc : u.cf = s.cf) (ch : Nat) (cal : Int × SMap Walk) (raw : Int) (cls : EvClass) (tot : Nat) :
    correct u ch cal raw cls tot = correct s ch cal raw cls tot := by
  unfold correct
  rw [cfgI_congr hc]

theorem bufFrame_congr (hg : u.hg = s.hg) (buf : Nat) : bufFrame u buf = bufFrame s buf := by
  unfold bufFrame
  rw [hg]

theorem bufClosed_congr (hg : u.hg = s.hg) (hp : u.pw = s.pw) (buf : Nat) : bufClosed u buf = bufClosed s buf := by
  unfold bufClosed
  rw [bufFrame_congr hg, hp]

theorem windowAt_congr (hc : u.cf = s.cf) (hp : u.pw = s.pw) (hg : u.hg = s.hg) (hx : u.ex = s.ex) (ch : Nat) (t : Int) :
    windowAt u ch t = windowAt s ch t := by
  unfold windowAt stepBursts inStep
  simp only [hg, hx, bufFrame_congr hg, servingCh_congr (viewFrame_cf hc hp _)]

end

/-! ### Counters of the frame of a step -/

section
variable (ch buf : Nat) (f : RxCnt → RxCnt) (s : State)

theorem rxCount_only : ∃ r, rxCount ch buf f s = rxPut ch r s ∧ r.deadUntil = (rxGet s ch).deadUntil := by
  unfold rxCount
  split <;> exact ⟨_, rfl, rfl⟩

theorem rxCount_frame : Frame [.rx] s (rxCount ch buf f s) := by
  unfold rxCount
  split <;> exact .of

theorem rxCntOf_rxCount : rxCntOf (rxCount ch buf f s) ch buf = f (rxCntOf s ch buf) := by
  have hf := rxCount_frame ch buf f s
  unfold rxCntOf
  rw [bufClosed_congr (hf.same .hg) (hf.same .pw)]
  unfold rxCount
  split
  · rw [rxGet_rxUpd_same]
  · rw [rxGet_rxUpd_same]

theorem rxCount_dead : (rxGet (rxCount ch buf f s) ch).deadUntil = (rxGet s ch).deadUntil := by
  obtain ⟨r, hr, hd⟩ := rxCount_only ch buf f s
  rw [hr, rxGet_rxPut_same, hd]

theorem rxGet_rxCount_other {k : Nat} (h : k ≠ ch) : rxGet (rxCount ch buf f s) k = rxGet s k := by
  obtain ⟨r, hr, -⟩ := rxCount_only ch buf f s
  rw [hr, rxGet_rxPut_other h]

end

theorem rxCntOf_congr {s u : State} {ch : Nat} (hg : bufFrame u = bufFrame s) (hp : u.pw = s.pw) (hr : (rxGet u ch).last = (rxGet s ch).last)
    (hr' : (rxGet u ch).cnt = (rxGet s ch).cnt) (buf : Nat) : rxCntOf u ch buf = rxCntOf s ch buf := by
  unfold rxCntOf bufClosed
  rw [hg, hp, hr, hr']

theorem ctxGet_ctxPut_same (buf ch : Nat) (c : Ctx) (s : State) : ctxGet (ctxPut buf ch c s) buf ch = c := mget_mset_same ..

theorem hgQueue_put_same (strip : Nat) (l : List Ev) (s : State) : hgQueue (hgQueuePut strip l s) strip = l := mget_mset_same ..

/-! ### An event is taken (R147 to R157) -/

/-- The dead time of the TDC runs (R149). -/
def deadSet (ch : Nat) (x : Edges) (s : State) : State := rxUpd ch (fun c => { c with deadUntil := x.tBF + 256 }) s

/-- The time over threshold of an excursion (R147). -/
def exTot (x : Edges) : Nat :=
  match x.tH with
  | some h => (match x.tHF with | some f => (f - h).toNat | none => 4096)
  | none => (x.tBF - x.tB).toNat

/-- The corrected time of an excursion in the window of `b` (R154). -/
def exTime (ch buf : Nat) (b : Burst) (x : Edges) (s : State) : Int :=
  correct (viewFrame (bufFrame s buf) s) ch (calOf (rxGet s ch) (bufClosed s buf)) (inStep s buf (exRaw x) - b.start) (exClass x) (exTot x)

/-- The event word, before LOSS. -/
def exWord (ch buf : Nat) (b : Burst) (x : Edges) (s : State) : Ev where
  buf := buf
  ch := ch
  slot := b.slot
  t := exTime ch buf b x s
  cls := exClass x
  tot := totField (exTot x)
  sat := decide (1024 ≤ x.overTop)
  long := x.long
  loss := false

theorem takeEvent_outside {ch : Nat} {x : Edges} {s : State} (h : windowAt s ch x.tB = none) : takeEvent ch x s =
    if dpClocked s && inGap s (ch / 48) x.tB then rxUpd ch (fun c => { c with gap := c.gap + 1 }) (deadSet ch x s) else deadSet ch x s := by
  have hw : windowAt (deadSet ch x s) ch x.tB = none := (windowAt_congr (s := s) (u := deadSet ch x s) rfl rfl rfl rfl ..).trans h
  unfold takeEvent
  dsimp only
  rw [show windowAt (rxUpd ch _ s) ch x.tB = none from hw]
  rfl

theorem exTime_deadSet (ch buf : Nat) (b : Burst) (x : Edges) (s : State) : exTime ch buf b x (deadSet ch x s) = exTime ch buf b x s := by
  have hc : calOf (rxGet (deadSet ch x s) ch) (bufClosed (deadSet ch x s) buf) = calOf (rxGet s ch) (bufClosed s buf) := by
    unfold deadSet
    rw [rxGet_rxUpd_same]
    rfl
  unfold exTime
  rw [hc]
  exact correct_congr (viewFrame_cf (s := s) (u := deadSet ch x s) rfl rfl _) ..

theorem takeEvent_inside {ch buf : Nat} {b : Burst} {x : Edges} {s : State} (h : windowAt s ch x.tB = some (buf, b)) : takeEvent ch x s =
    if exTime ch buf b x s < 0 then rxCount ch buf (fun c => { c with early := satAdd 8 c.early 1 }) (deadSet ch x s)
    else enqueueEv ch (exWord ch buf b x s) (deadSet ch x s) := by
  have hw : windowAt (deadSet ch x s) ch x.tB = some (buf, b) := (windowAt_congr (s := s) (u := deadSet ch x s) rfl rfl rfl rfl ..).trans h
  rw [exWord, ← exTime_deadSet]
  unfold takeEvent
  dsimp only
  rw [show windowAt (rxUpd ch _ s) ch x.tB = some (buf, b) from hw]
  rfl

section
variable {ch : Nat} {x : Edges} {s : State}

theorem deadSet_dead : (rxGet (deadSet ch x s) ch).deadUntil = x.tBF + 256 := by
  unfold deadSet
  rw [rxGet_rxUpd_same]

theorem deadSet_cnt (buf : Nat) : rxCntOf (deadSet ch x s) ch buf = rxCntOf s ch buf := by
  refine rxCntOf_congr (s := s) (u := deadSet ch x s) rfl rfl ?_ ?_ buf
  · unfold deadSet
    rw [rxGet_rxUpd_same]
  · unfold deadSet
    rw [rxGet_rxUpd_same]

theorem rxGet_deadSet_other {k : Nat} (h : k ≠ ch) : rxGet (deadSet ch x s) k = rxGet s k := rxGet_rxUpd_other h ..

/-- A full queue drops the event and marks its channel and slot. -/
theorem enqueueEv_drops {e : Ev} (hq : 64 ≤ (hgQueue s (ch / 12)).length) : enqueueEv ch e s =
    ctxPut e.buf ch { ctxGet s e.buf ch with evloss := true, lossSlot := bset (ctxGet s e.buf ch).lossSlot e.slot true }
      (rxCount ch e.buf (fun x => { x with drops := satAdd 16 x.drops 1 }) s) := if_pos hq

theorem enqueueEv_queues {e : Ev} (hq : (hgQueue s (ch / 12)).length < 64) : enqueueEv ch e s =
    hgQueuePut (ch / 12) (hgQueue s (ch / 12) ++ [{ e with loss := bget (ctxGet s e.buf ch).lossSlot e.slot }])
      (rxCount ch e.buf (fun x => { x with events := satAdd 32 x.events 1 }) s) := by
  have hf : (rxCount ch e.buf (fun x => { x with events := satAdd 32 x.events 1 }) s).hg = s.hg := (rxCount_frame ..).same .hg
  unfold enqueueEv
  dsimp only
  rw [if_neg (Nat.not_le.2 hq)]
  unfold hgQueue
  rw [hf]

theorem takeEvent_takes_outside (hw : windowAt s ch x.tB = none) : ExcursionTaken ch x s (takeEvent ch x s) := by
  have hk : Kept (takeEvent ch x s) s := takeEvent_guarded ..
  have he := takeEvent_outside hw
  by_cases hg : (dpClocked s && inGap s (ch / 48) x.tB) = true
  · rw [if_pos hg] at he
    rw [he] at hk ⊢
    rw [Bool.and_eq_true] at hg
    refine ⟨⟨hk, fun k h => (rxGet_rxUpd_other h ..).trans (rxGet_deadSet_other h)⟩, ?_, fun _ => ⟨rfl, ?_⟩, fun buf b h => ?_⟩
    · rw [rxGet_rxUpd_same]
      exact deadSet_dead
    · rw [if_pos hg, rxGet_rxUpd_same]
      unfold deadSet
      rw [rxGet_rxUpd_same]
    · rw [hw] at h
      cases h
  · rw [if_neg hg] at he
    rw [he] at hk ⊢
    rw [Bool.and_eq_true] at hg
    refine ⟨⟨hk, fun k h => rxGet_deadSet_other h⟩, deadSet_dead, fun _ => ⟨rfl, ?_⟩, fun buf b h => ?_⟩
    · rw [if_neg hg]
      unfold deadSet
      rw [rxGet_rxUpd_same]
    · rw [hw] at h
      cases h

theorem exTot_says (x : Edges) : (∀ h f, x.tH = some h → x.tHF = some f → exTot x = (f - h).toNat) ∧
    ((∃ h, x.tH = some h) → x.tHF = none → exTot x = 4096) ∧ (x.tH = none → exTot x = (x.tBF - x.tB).toNat) := by
  unfold exTot
  refine ⟨fun h f hh hf => ?_, fun ⟨h, hh⟩ hf => ?_, fun hh => ?_⟩
  · rw [hh, hf]
  · rw [hh, hf]
  · rw [hh]

/-- What an event in the window of `b` does to its channel's counters and to its strip's queue. -/
theorem takeEvent_queue {buf : Nat} {b : Burst} (hw : windowAt s ch x.tB = some (buf, b)) :
    (exTime ch buf b x s < 0 → (takeEvent ch x s).hg = s.hg ∧
      (rxCntOf (takeEvent ch x s) ch buf).early = satAdd 8 (rxCntOf s ch buf).early 1) ∧
    (0 ≤ exTime ch buf b x s → (hgQueue s (ch / 12)).length < 64 →
      hgQueue (takeEvent ch x s) (ch / 12) = hgQueue s (ch / 12) ++ [{ exWord ch buf b x s with loss := bget (ctxGet s buf ch).lossSlot b.slot }] ∧
      (rxCntOf (takeEvent ch x s) ch buf).events = satAdd 32 (rxCntOf s ch buf).events 1) ∧
    (0 ≤ exTime ch buf b x s → 64 ≤ (hgQueue s (ch / 12)).length →
      hgQueue (takeEvent ch x s) (ch / 12) = hgQueue s (ch / 12) ∧
      (rxCntOf (takeEvent ch x s) ch buf).drops = satAdd 16 (rxCntOf s ch buf).drops 1 ∧ (ctxGet (takeEvent ch x s) buf ch).evloss = true ∧
      (b.slot < 8 → bget (ctxGet (takeEvent ch x s) buf ch).lossSlot b.slot = true)) := by
  have he := takeEvent_inside hw
  refine ⟨fun ht => ?_, fun ht hq => ?_, fun ht hq => ?_⟩
  · rw [if_pos ht] at he
    rw [he, rxCntOf_rxCount, deadSet_cnt]
    exact ⟨(rxCount_frame ..).same .hg, rfl⟩
  · rw [if_neg (Int.not_lt.2 ht), enqueueEv_queues (s := deadSet ch x s) hq] at he
    rw [he]
    refine ⟨hgQueue_put_same .., ?_⟩
    have hc := rxCntOf_rxCount ch buf (fun x => { x with events := satAdd 32 x.events 1 }) (deadSet ch x s)
    rw [deadSet_cnt] at hc
    exact (congrArg RxCnt.events (rxCntOf_congr rfl rfl rfl rfl buf)).trans (congrArg RxCnt.events hc)
  · rw [if_neg (Int.not_lt.2 ht), enqueueEv_drops (s := deadSet ch x s) hq] at he
    have hg : (rxCount ch buf (fun x => { x with drops := satAdd 16 x.drops 1 }) (deadSet ch x s)).hg = s.hg := (rxCount_frame ..).same .hg
    have hc := rxCntOf_rxCount ch buf (fun x => { x with drops := satAdd 16 x.drops 1 }) (deadSet ch x s)
    rw [deadSet_cnt] at hc
    rw [he]
    refine ⟨(congrArg (fun h : Hg => mget [] h.queue (ch / 12)) hg :), ?_, ?_, fun h8 => ?_⟩
    · exact (congrArg RxCnt.drops (rxCntOf_congr rfl rfl rfl rfl buf)).trans (congrArg RxCnt.drops hc)
    · exact congrArg Ctx.evloss (ctxGet_ctxPut_same buf ch _ _)
    · refine (congrArg (fun c : Ctx => bget c.lossSlot b.slot) (ctxGet_ctxPut_same buf ch _ _)).trans ?_
      exact (bget_bset_true _ h8 _).trans (by simp)

theorem takeEvent_takes_inside {buf : Nat} {b : Burst} (hw : windowAt s ch x.tB = some (buf, b)) : ExcursionTaken ch x s (takeEvent ch x s) := by
  have hk : Kept (takeEvent ch x s) s := takeEvent_guarded ..
  have hrx : (∀ k, k ≠ ch → rxGet (takeEvent ch x s) k = rxGet s k) ∧ (rxGet (takeEvent ch x s) ch).deadUntil = x.tBF + 256 := by
    have he := takeEvent_inside hw
    have hcount : ∀ f, (∀ k, k ≠ ch → rxGet (rxCount ch buf f (deadSet ch x s)) k = rxGet s k) ∧
        (rxGet (rxCount ch buf f (deadSet ch x s)) ch).deadUntil = x.tBF + 256 := fun f =>
      ⟨fun k h => (rxGet_rxCount_other ch buf f _ h).trans (rxGet_deadSet_other h), (rxCount_dead ..).trans deadSet_dead⟩
    by_cases ht : exTime ch buf b x s < 0
    · rw [he, if_pos ht]
      exact hcount _
    · by_cases hq : (hgQueue s (ch / 12)).length < 64
      · rw [he, if_neg ht, enqueueEv_queues (s := deadSet ch x s) hq]
        exact hcount _
      · rw [he, if_neg ht, enqueueEv_drops (s := deadSet ch x s) (Nat.not_lt.1 hq)]
        exact hcount _
  obtain ⟨h1, h2, h3⟩ := takeEvent_queue hw
  obtain ⟨t1, t2, t3⟩ := exTot_says x
  refine ⟨⟨hk, hrx.1⟩, hrx.2, fun h => ?_, fun buf' b' h => ?_⟩
  · rw [hw] at h
    cases h
  · rw [hw] at h
    cases h
    exact ⟨exTot x, t1, t2, t3, h1, h2, h3⟩

/-- An excursion that is taken is classified, corrected and queued. -/
theorem takeEvent_takes : ExcursionTaken ch x s (takeEvent ch x s) := by
  cases hw : windowAt s ch x.tB with
  | none => exact takeEvent_takes_outside hw
  | some w => exact takeEvent_takes_inside hw

end

/-! ### Which excursions are events (R147 to R149) -/

section
variable {s : State} {ch : Fin 192} {x : Excursion}

theorem rxEvent_takes {e : Edges} (he : edgesOf s ch x = some e) (hr : rxOn s ch = true) (hd : dpOn s = true)
    (hu : (rxGet s ch).deadUntil ≤ e.tB) (long : Bool) : rxEvent ch x long s = if e.long = long then takeEvent ch e s else s := by
  unfold rxEvent
  rw [he]
  dsimp only
  rw [hr, hd, decide_eq_true hu]
  refine if_congr ?_ rfl rfl
  simp

theorem rxEvent_outside {e : Edges} (he : edgesOf s ch x = some e) (h : rxOn s ch = false ∨ dpOn s = false ∨ e.tB < (rxGet s ch).deadUntil)
    (long : Bool) : rxEvent ch x long s = s := by
  unfold rxEvent
  rw [he]
  refine if_neg fun hc => ?_
  simp only [Bool.and_eq_true, decide_eq_true_iff] at hc
  obtain ⟨⟨⟨h1, h2⟩, -⟩, h3⟩ := hc
  rcases h with h | h | h
  · exact Bool.noConfusion (h.symm.trans h1)
  · exact Bool.noConfusion (h.symm.trans h2)
  · omega

theorem rxEvent_none (he : edgesOf s ch x = none) (long : Bool) : rxEvent ch x long s = s := by
  unfold rxEvent
  rw [he]

/-- A level that stays at or below the threshold has no span above it. -/
theorem spansAbove_low {thr : Nat} {w : List (Int × Nat)} (h : ∀ e ∈ w, e.2 ≤ thr) : spansAbove thr none w = [] := by
  induction w with
  | nil => rfl
  | cons e w ih =>
    obtain ⟨t, v⟩ := e
    have hv : ¬thr < v := Nat.not_lt.2 (h (t, v) List.mem_cons_self)
    rw [spansAbove, if_neg hv]
    exact ih fun e he => h e (List.mem_cons_of_mem _ he)

theorem edgesOf_low (h : ∀ e ∈ x.wave, tiaOut s ch e.2 ≤ 1000 * (rxGet s ch).base) : edgesOf s ch x = none := by
  have hl : spansAbove (1000 * (rxGet s ch).base) none (x.wave.map fun e => (e.1, tiaOut s ch e.2)) = [] := by
    refine spansAbove_low fun e he => ?_
    obtain ⟨e, he', rfl⟩ := List.mem_map.1 he
    exact h e he'
  unfold edgesOf
  dsimp only
  rw [hl]

theorem tiaOut_zero (s : State) (ch : Nat) : tiaOut s ch 0 = 0 := by simp [tiaOut]

/-- A constant level is above a threshold from its start on, or never. -/
theorem spansAbove_pulse (thr v : Nat) (a : Int) : spansAbove thr none [(a, v)] = if thr < v then [(a, none)] else [] := by
  by_cases h : thr < v
  · simp [spansAbove, h]
  · simp [spansAbove, h]

theorem edgesOf_pulse {a b : Int} {i : Nat} (hw : x.wave = [(a, i), (b, 0)]) (hab : a < b) (hb : 1000 * (rxGet s ch).base < tiaOut s ch i) :
    edgesOf s ch x = some
      { tB := a
        tH := if decide (1000 * cfgN s (0x2200 + ch) 4 < tiaOut s ch i) = true then some a else none
        tHF := if decide (1000 * cfgN s (0x2200 + ch) 4 < tiaOut s ch i) = true then (if b ≤ a + 4096 then some b else none) else none
        tT := if decide (1000 * cfgN s (0x2200 + ch) 5 < tiaOut s ch i) = true then some a else none, tBF := min b (a + 4096)
        overTop := if decide (1000 * cfgN s (0x2200 + ch) 5 < tiaOut s ch i) = true then (min b (a + 4096) - a).toNat else 0
        long := decide (a + 4096 < b) } := by
  have hspan : spansAbove (1000 * (rxGet s ch).base) none [(a, tiaOut s ch i), (b, tiaOut s ch 0)] = [(a, some b)] := by
    rw [tiaOut_zero]
    simp [spansAbove, hb]
  have hclose : (if decide (a + 4096 < b) = true then a + 4096 else (some b).getD a) = min b (a + 4096) := by
    by_cases h : a + 4096 < b
    · rw [if_pos (decide_eq_true h)]
      omega
    · rw [if_neg (by simpa using h), Option.getD_some]
      omega
  have hv : ([(a, tiaOut s ch i), (b, tiaOut s ch 0)] : List (Int × Nat)).filter (fun e => decide (e.1 < min b (a + 4096))) =
      [(a, tiaOut s ch i)] := by
    have h1 : a < min b (a + 4096) := by omega
    have h2 : ¬b < min b (a + 4096) := by omega
    simp only [List.filter_cons, List.filter_nil, decide_eq_true h1, decide_eq_false h2, if_true]
    rfl
  unfold edgesOf
  dsimp only
  rw [hw]
  simp only [List.map_cons, List.map_nil]
  rw [hspan]
  dsimp only
  rw [hclose, hv, spansAbove_pulse, spansAbove_pulse]
  simp only [decide_eq_true_iff]
  congr 1
  by_cases hh : 1000 * cfgN s (0x2200 + ch) 4 < tiaOut s ch i
  · by_cases hp : 1000 * cfgN s (0x2200 + ch) 5 < tiaOut s ch i
    · by_cases hl : a + 4096 < b
      · simp [hh, hp, hl, Int.not_le.2 hl]
      · simp [hh, hp, hl, Int.not_lt.1 hl]
    · by_cases hl : a + 4096 < b
      · simp [hh, hp, hl, Int.not_le.2 hl]
      · simp [hh, hp, hl, Int.not_lt.1 hl]
  · by_cases hp : 1000 * cfgN s (0x2200 + ch) 5 < tiaOut s ch i
    · simp [hh, hp]
    · simp [hh, hp]

end

/-- Settles O21: it holds. -/
theorem receiveEvents : Obligations.ReceiveEvents := by
  unfold Obligations.ReceiveEvents
  refine fun s ch x => ⟨fun e he => ⟨fun hr hd hu => ⟨fun hl => ?_, fun hl => ?_⟩, fun h => ?_⟩, fun he => ?_, edgesOf_low, fun a b i hw => edgesOf_pulse hw⟩
  · have h1 := (rxEvent_takes he hr hd hu false).trans (if_pos hl)
    have h2 := (rxEvent_takes he hr hd hu true).trans (if_neg (by rw [hl]; exact Bool.false_ne_true))
    exact ⟨⟨_, congrArg Host.Outcome.next h1, takeEvent_takes⟩, ⟨_, congrArg Host.Outcome.next h2, rfl⟩⟩
  · have h1 := (rxEvent_takes he hr hd hu true).trans (if_pos hl)
    have h2 := (rxEvent_takes he hr hd hu false).trans (if_neg (by rw [hl]; exact Bool.noConfusion))
    exact ⟨⟨_, congrArg Host.Outcome.next h1, takeEvent_takes⟩, ⟨_, congrArg Host.Outcome.next h2, rfl⟩⟩
  · exact ⟨⟨_, congrArg Host.Outcome.next (rxEvent_outside he h false), rfl⟩, ⟨_, congrArg Host.Outcome.next (rxEvent_outside he h true), rfl⟩⟩
  · exact ⟨⟨_, congrArg Host.Outcome.next (rxEvent_none he false), rfl⟩, ⟨_, congrArg Host.Outcome.next (rxEvent_none he true), rfl⟩⟩

end Sys2Proof.Machine
end

section
/-! PROOF. O24: events enter the histograms. -/

namespace Sys2Proof.Machine

-- One after another the proofs need less memory than all at once.
set_option Elab.async false

/-! ### What binning an event may change -/

/-- Only the bins, the contexts, the held events, the increments and the counters of the histograms differ. -/
def HistOnly (s u : State) : Prop :=
  ∃ b c h i n l, u = { s with hg := { s.hg with bins := b, ctx := c, held := h, incs := i, cnt := n, last := l } }

theorem HistOnly.refl (s : State) : HistOnly s s := ⟨_, _, _, _, _, _, rfl⟩

theorem HistOnly.trans {s u v : State} (h : HistOnly s u) (h' : HistOnly u v) : HistOnly s v := by
  obtain ⟨_, _, _, _, _, _, rfl⟩ := h
  exact h'

theorem HistOnly.frame {s u : State} (h : HistOnly s u) : Frame [.hg] s u := by
  obtain ⟨_, _, _, _, _, _, rfl⟩ := h
  exact .of

theorem HistOnly.queue {s u : State} (h : HistOnly s u) (strip : Nat) : hgQueue u strip = hgQueue s strip := by
  obtain ⟨_, _, _, _, _, _, rfl⟩ := h
  rfl

theorem HistOnly.bufClosed {s u : State} (h : HistOnly s u) (buf : Nat) : bufClosed u buf = bufClosed s buf := by
  obtain ⟨_, _, _, _, _, _, rfl⟩ := h
  rfl

theorem HistOnly.foldl {α : Type} {f : State → α → State} (hf : ∀ s x, HistOnly s (f s x)) (l : List α) (s : State) :
    HistOnly s (l.foldl f s) := by
  induction l generalizing s with
  | nil => exact .refl s
  | cons x l ih => exact (hf s x).trans (ih _)

/-- No bin of another region changes, and none falls or passes its ceiling (R166, R175). -/
def BinsGrow (buf ch : Nat) (s u : State) : Prop :=
  ∀ j, (j / 0x1000 ≠ 0xC0 * buf + ch → hgBin u j = hgBin s j) ∧ (hgBin s j ≤ 65535 → hgBin s j ≤ hgBin u j ∧ hgBin u j ≤ 65535)

theorem BinsGrow.of_same {buf ch : Nat} {s u : State} (h : u.hg.bins = s.hg.bins) : BinsGrow buf ch s u := by
  intro j
  have hj : hgBin u j = hgBin s j := by
    unfold hgBin
    rw [h]
  exact ⟨fun _ => hj, fun hl => ⟨hj.ge, hj ▸ hl⟩⟩

theorem BinsGrow.trans {buf ch : Nat} {s u v : State} (h : BinsGrow buf ch s u) (h' : BinsGrow buf ch u v) : BinsGrow buf ch s v := by
  intro j
  refine ⟨fun hj => ((h' j).1 hj).trans ((h j).1 hj), fun hl => ?_⟩
  obtain ⟨h1, h2⟩ := (h j).2 hl
  obtain ⟨h3, h4⟩ := (h' j).2 h2
  exact ⟨h1.trans h3, h4⟩

/-- Binning for the channel-point of `buf` and `ch`: the windows of its context stay; where they are the eight at most that the picker
places, no bin outside the region changes. -/
structure Binning (buf ch : Nat) (s u : State) : Prop where
  only : HistOnly s u
  wins : (ctxGet u buf ch).wins = (ctxGet s buf ch).wins
  bins : (ctxGet s buf ch).wins.length ≤ 8 → BinsGrow buf ch s u

theorem Binning.refl (buf ch : Nat) (s : State) : Binning buf ch s s := ⟨.refl s, rfl, fun _ => .of_same rfl⟩

theorem Binning.trans {buf ch : Nat} {s u v : State} (h : Binning buf ch s u) (h' : Binning buf ch u v) : Binning buf ch s v :=
  ⟨h.only.trans h'.only, h'.wins.trans h.wins, fun hw => (h.bins hw).trans (h'.bins (by rw [h.wins]; exact hw))⟩

/-! ### The operations of a match -/

section
variable (buf ch : Nat) (s : State)

theorem hgCnt_only (b q : Nat) (f : HgCnt → HgCnt) : HistOnly s (hgCnt b q f s) := by
  unfold hgCnt
  split <;> exact ⟨_, _, _, _, _, _, rfl⟩

theorem hgCnt_bins (b q : Nat) (f : HgCnt → HgCnt) : (hgCnt b q f s).hg.bins = s.hg.bins ∧ (hgCnt b q f s).hg.held = s.hg.held ∧
    (hgCnt b q f s).hg.ctx = s.hg.ctx := by
  unfold hgCnt
  split <;> exact ⟨rfl, rfl, rfl⟩

theorem hgCntOf_hgCnt (q : Nat) (f : HgCnt → HgCnt) : hgCntOf (hgCnt buf q f s) buf q = f (hgCntOf s buf q) := by
  unfold hgCntOf
  rw [(hgCnt_only s buf q f).bufClosed]
  unfold hgCnt
  split
  · exact mget_mupd_same ..
  · exact mget_mupd_same ..

theorem ctxGet_hgCnt (b q : Nat) (f : HgCnt → HgCnt) : ctxGet (hgCnt b q f s) buf ch = ctxGet s buf ch := by
  unfold ctxGet
  rw [(hgCnt_bins s b q f).2.2]

theorem hgCnt_binning (b q : Nat) (f : HgCnt → HgCnt) : Binning buf ch s (hgCnt b q f s) :=
  ⟨hgCnt_only .., by rw [ctxGet_hgCnt], fun _ => .of_same (hgCnt_bins ..).1⟩

theorem ctxPut_only (c : Ctx) : HistOnly s (ctxPut buf ch c s) := ⟨_, _, _, _, _, _, rfl⟩

theorem ctxPut_binning {c : Ctx} (h : c.wins = (ctxGet s buf ch).wins) : Binning buf ch s (ctxPut buf ch c s) :=
  ⟨ctxPut_only .., (congrArg Ctx.wins (ctxGet_ctxPut_same ..)).trans h, fun _ => .of_same rfl⟩

/-- The bin `i` has taken the weight `w`. -/
def binSet (i w : Nat) : State := { s with hg := { s.hg with bins := mset 0 s.hg.bins (binKey buf ch i) (satAdd 16 (binGet s buf ch i) w) } }

theorem satAdd16_grows {v w : Nat} (h : v ≤ 65535) : v ≤ satAdd 16 v w ∧ satAdd 16 v w ≤ 65535 := by
  unfold satAdd
  omega

theorem binSet_binning {i : Nat} (hi : (ctxGet s buf ch).wins.length ≤ 8 → i < 4096) (w : Nat) : Binning buf ch s (binSet buf ch s i w) := by
  refine ⟨⟨_, _, _, _, _, _, rfl⟩, rfl, fun hw j => ?_⟩
  have hi := hi hw
  have hk : binKey buf ch i / 0x1000 = 0xC0 * buf + ch := by
    unfold binKey
    omega
  unfold hgBin binSet
  by_cases hj : j = binKey buf ch i
  · subst hj
    exact ⟨fun hn => absurd hk hn, fun hl => by rw [mget_mset_same]; exact satAdd16_grows hl⟩
  · have he : mget 0 (mset 0 s.hg.bins (binKey buf ch i) (satAdd 16 (binGet s buf ch i) w)) j = mget 0 s.hg.bins j := mget_mset_other _ _ _ _ _ hj
    exact ⟨fun _ => he, fun hl => ⟨he.ge, he ▸ hl⟩⟩

theorem binAdd_binning {i : Nat} (hi : (ctxGet s buf ch).wins.length ≤ 8 → i < 4096) (w : Nat) : Binning buf ch s (binAdd buf ch i w s) := by
  have hb := binSet_binning buf ch s hi w
  unfold binAdd
  dsimp only
  split
  · exact hb.trans (hgCnt_binning ..)
  · exact hb

theorem incrAt_binning {i : Nat} (hi : (ctxGet s buf ch).wins.length ≤ 8 → i < 4096) (w : Nat) : Binning buf ch s (incrAt buf ch i w s) := by
  have hb := (binAdd_binning buf ch s hi w).trans (hgCnt_binning buf ch _ buf (ch / 48) (fun c => { c with incr := satAdd 32 c.incr 1 }))
  unfold incrAt
  exact hb.trans (ctxPut_binning _ _ _ rfl)

end

/-- The bins that a match lands in lie in the region of its channel-point. -/
theorem landing_lt {s : State} {buf ch pass : Nat} {tau : Int} {l : List Nat} (hw : (ctxGet s buf ch).wins.length ≤ 8)
    (hl : landing s buf ch pass tau = .bins l) : ∀ i ∈ l, i < 4096 := by
  unfold landing at hl
  dsimp only at hl
  split at hl
  case isTrue =>
    split at hl
    · cases hl
    · cases hl
      intro i hi
      obtain ⟨e, he, hx⟩ := List.mem_filterMap.1 hi
      have h8 : e.2 < 8 := by
        have := List.snd_lt_add_of_mem_zipIdx he
        omega
      split at hx
      · simp only [Option.some.injEq] at hx
        omega
      · cases hx
  case isFalse =>
    split at hl
    · cases hl
    · cases hl
      intro i hi
      rw [List.mem_singleton] at hi
      split at hi <;> omega

theorem foldl_incrAt_binning {buf ch : Nat} {l : List Nat} {s : State} (hi : (ctxGet s buf ch).wins.length ≤ 8 → ∀ i ∈ l, i < 4096)
    (w : State → Nat) : Binning buf ch s (l.foldl (fun s i => incrAt buf ch i (w s) s) s) := by
  induction l generalizing s with
  | nil => exact .refl ..
  | cons i l ih =>
    have h1 := incrAt_binning buf ch s (fun hw => hi hw i List.mem_cons_self) (w s)
    exact h1.trans (ih fun hw j hj => hi (by rw [← h1.wins]; exact hw) j (List.mem_cons_of_mem _ hj))

theorem makeMatch_binning (ch : Nat) (b : Burst) (ev : Ev) (idx : List Nat) (tau : Int) (s : State) :
    Binning ev.buf ch s (makeMatch ch b ev idx tau s).1 := by
  unfold makeMatch
  extract_lets q k held evs marked g v
  have hv : Binning ev.buf ch s v := ⟨⟨_, _, _, _, _, _, rfl⟩, rfl, fun _ => .of_same rfl⟩
  clear_value v
  split
  case h_1 => exact hv.trans (hgCnt_binning ..)
  case h_2 => exact hv
  case h_3 l hl => exact hv.trans (foldl_incrAt_binning (fun hw => landing_lt hw hl) fun s' => weightOf s' _ _)

/-- What every hypothesis does to the state, all of them do. -/
theorem foldl_fst_binning {buf ch : Nat} {s : State} {f : State × Bool × Bool → Nat → State × Bool × Bool}
    (hf : ∀ acc i, Binning buf ch s acc.1 → Binning buf ch s (f acc i).1) (l : List Nat) {acc : State × Bool × Bool}
    (h : Binning buf ch s acc.1) : Binning buf ch s (l.foldl f acc).1 := by
  induction l generalizing acc with
  | nil => exact h
  | cons i l ih => exact ih (hf acc i h)

/-- One hypothesis of an arriving event. -/
def gateStep (ch : Nat) (b : Burst) (ev : Ev) (os : List Nat) (tol need : Nat) (acc : State × Bool × Bool) (i : Nat) : State × Bool × Bool :=
  let s := acc.1
  let k := csKey ev.buf ch b.slot
  let tau := ev.t - os.getD i 0
  let held := (mget [] s.hg.held k).zipIdx.map fun h => (h.2, h.1)
  let idx := (List.range i).filterMap fun j => nearest held (tau + os.getD j 0) tol
  let blocked := (mget [] s.hg.incs k).any fun x => decide ((x - tau).natAbs ≤ tol)
  if need ≤ 1 + idx.length ∧ blocked = false then
    let r := makeMatch ch b ev idx tau s
    (r.1, true, acc.2.2 || r.2)
  else acc

theorem gateStep_matches (ch : Nat) (b : Burst) (ev : Ev) (os : List Nat) (tol need : Nat) (acc : State × Bool × Bool) (i : Nat) :
    (gateStep ch b ev os tol need acc i).1 = acc.1 ∨
    ∃ idx tau, (gateStep ch b ev os tol need acc i).1 = (makeMatch ch b ev idx tau acc.1).1 := by
  unfold gateStep
  dsimp only
  split
  · exact .inr ⟨_, _, rfl⟩
  · exact .inl rfl

theorem gateEvent_binning (ch : Nat) (b : Burst) (ev : Ev) (s : State) : Binning ev.buf ch s (gateEvent ch b ev s).1 := by
  have he : gateEvent ch b ev s = (List.range (codeOffsets b.code).length).foldl (gateStep ch b ev (codeOffsets b.code) (gateTol s (ch / 48))
    (min (gateK s (ch / 48)) (codeOffsets b.code).length)) (s, false, false) := rfl
  rw [he]
  refine foldl_fst_binning (fun acc i h => ?_) _ (.refl ..)
  rcases gateStep_matches ch b ev (codeOffsets b.code) (gateTol s (ch / 48)) (min (gateK s (ch / 48)) (codeOffsets b.code).length) acc i with
    hn | ⟨idx, tau, hm⟩
  · rw [hn]
    exact h
  · rw [hm]
    exact h.trans (makeMatch_binning ch b ev idx tau _)

/-! ### Held, foreign and late events (R168, R172, R174) -/

section
variable (buf ch n : Nat) (s : State)

theorem addForeign_only : HistOnly s (addForeign buf ch n s) := by
  unfold addForeign
  exact (hgCnt_only ..).trans (ctxPut_only ..)

theorem addForeign_store : (addForeign buf ch n s).hg.bins = s.hg.bins ∧ (addForeign buf ch n s).hg.held = s.hg.held := by
  obtain ⟨h1, h2, -⟩ := hgCnt_bins s buf (ch / 48) (fun c => { c with foreign := satAdd 32 c.foreign n })
  unfold addForeign
  exact ⟨h1, h2⟩

theorem addForeign_foreign : (ctxGet (addForeign buf ch n s) buf ch).foreign = satAdd 16 (ctxGet s buf ch).foreign n := by
  unfold addForeign
  dsimp only
  rw [ctxGet_ctxPut_same, ctxGet_hgCnt]

theorem ctxGet_addForeign_other {c : Nat} (h : c ≠ ch) : ctxGet (addForeign buf ch n s) buf c = ctxGet s buf c := by
  unfold addForeign
  dsimp only
  refine (mget_mset_other _ _ _ _ _ (by omega)).trans ?_
  exact congrArg (mget {} · (192 * buf + c)) (hgCnt_bins ..).2.2

end

section
variable (ev : Ev) (s : State)

theorem lateEvent_only : HistOnly s (lateEvent ev s) := by
  unfold lateEvent
  exact (hgCnt_only ..).trans (ctxPut_only ..)

theorem lateEvent_store : (lateEvent ev s).hg.bins = s.hg.bins ∧ (lateEvent ev s).hg.held = s.hg.held := by
  obtain ⟨h1, h2, -⟩ := hgCnt_bins s ev.buf (ev.ch / 48) (fun c => { c with lateev := satAdd 16 c.lateev 1 })
  unfold lateEvent
  exact ⟨h1, h2⟩

theorem lateEvent_evloss : (ctxGet (lateEvent ev s) ev.buf ev.ch).evloss = true := by
  unfold lateEvent
  dsimp only
  rw [ctxGet_ctxPut_same]

theorem lateEvent_counted : (hgCntOf (lateEvent ev s) ev.buf (ev.ch / 48)).lateev =
    satAdd 16 (hgCntOf s ev.buf (ev.ch / 48)).lateev 1 := by
  unfold lateEvent
  dsimp only
  exact congrArg HgCnt.lateev (hgCntOf_hgCnt ev.buf s (ev.ch / 48) fun c => { c with lateev := satAdd 16 c.lateev 1 })

end

/-- The held events of a channel and slot after one more. -/
def heldNext (b : Burst) (h : Held) (l : List Held) : List Held := l ++ [if b.closed then { h with used := true } else h]

/-- How many events are judged foreign as one joins. -/
def judgedForeign (b : Burst) (h : Held) (l : List Held) : Nat :=
  (((heldNext b h l).take ((heldNext b h l).length - 16)).filter isForeign).length + (if b.closed && isForeign h then 1 else 0)

/-- The event has joined the last 16. -/
def heldPut (ch : Nat) (b : Burst) (h : Held) (s : State) : State :=
  let k := csKey h.ev.buf ch b.slot
  let l := heldNext b h (mget [] s.hg.held k)
  { s with hg := { s.hg with held := mset [] s.hg.held k (l.drop (l.length - 16)) } }

theorem holdEvent_eq (ch : Nat) (b : Burst) (h : Held) (s : State) : holdEvent ch b h s =
    if judgedForeign b h (mget [] s.hg.held (csKey h.ev.buf ch b.slot)) = 0 then heldPut ch b h s
    else addForeign h.ev.buf ch (judgedForeign b h (mget [] s.hg.held (csKey h.ev.buf ch b.slot))) (heldPut ch b h s) := rfl

section
variable (ch : Nat) (b : Burst) (h : Held) (s : State)

theorem holdEvent_only : HistOnly s (holdEvent ch b h s) := by
  have hp : HistOnly s (heldPut ch b h s) := ⟨_, _, _, _, _, _, rfl⟩
  rw [holdEvent_eq]
  split
  · exact hp
  · exact hp.trans (addForeign_only ..)

theorem holdEvent_store : (holdEvent ch b h s).hg.bins = s.hg.bins ∧ (holdEvent ch b h s).hg.held = (heldPut ch b h s).hg.held := by
  rw [holdEvent_eq]
  split
  · exact ⟨rfl, rfl⟩
  · exact addForeign_store ..

theorem holdEvent_last : (mget [] (holdEvent ch b h s).hg.held (csKey h.ev.buf ch b.slot)).getLast? =
    some (if b.closed then { h with used := true } else h) := by
  rw [(holdEvent_store ch b h s).2]
  unfold heldPut
  dsimp only
  rw [mget_mset_same, List.getLast?_drop, if_neg (by simp [heldNext]), heldNext, List.getLast?_concat]

theorem holdEvent_foreign (hc : b.closed = true) (hu : h.used = false)
    (hl : (mget [] s.hg.held (csKey h.ev.buf ch b.slot)).length < 16) :
    (ctxGet (holdEvent ch b h s) h.ev.buf ch).foreign = satAdd 16 (ctxGet s h.ev.buf ch).foreign 1 := by
  have hj : judgedForeign b h (mget [] s.hg.held (csKey h.ev.buf ch b.slot)) = 1 := by
    have h0 : (heldNext b h (mget [] s.hg.held (csKey h.ev.buf ch b.slot))).length - 16 = 0 := by
      simp [heldNext]
      omega
    rw [judgedForeign, h0, hc]
    simp [isForeign, hu]
  rw [holdEvent_eq, hj, if_neg Nat.one_ne_zero, addForeign_foreign]
  rfl

end

/-! ### An event at the head of its queue -/

/-- The event of burst `b` is matched, and held with whether it took part. -/
theorem gateBurst_holds (b : Burst) (ev : Ev) (s : State) : ∃ used v, gateBurst b ev s = holdEvent ev.ch b ⟨ev, used⟩ v ∧
    Binning ev.buf ev.ch s v ∧ (slotBinned (passesOf (stepShots s ev.buf) b.e) b.slot = false → used = false ∧ v = s) := by
  unfold gateBurst
  dsimp only
  split
  case isTrue hb =>
    have hg := gateEvent_binning ev.ch b ev s
    refine ⟨_, _, rfl, ?_, fun hn => Bool.noConfusion (hb.symm.trans hn)⟩
    generalize gateEvent ev.ch b ev s = r at *
    split
    · exact hg.trans (hgCnt_binning ..)
    · exact hg
  case isFalse hb => exact ⟨false, s, rfl, .refl .., fun _ => ⟨rfl, rfl⟩⟩

/-- An event that is in time: it is held, and of the bins those of its region alone may grow. -/
theorem gateBurst_bins (b : Burst) (ev : Ev) (s : State) : HistOnly s (gateBurst b ev s) ∧
    (mget [] (gateBurst b ev s).hg.held (csKey ev.buf ev.ch b.slot)).getLast?.map (·.ev) = some ev ∧
    ((ctxGet s ev.buf ev.ch).wins.length ≤ 8 → BinsGrow ev.buf ev.ch s (gateBurst b ev s)) := by
  obtain ⟨used, v, he, hv, -⟩ := gateBurst_holds b ev s
  rw [he]
  refine ⟨hv.only.trans (holdEvent_only ..), ?_, fun hw => (hv.bins hw).trans (.of_same (holdEvent_store ..).1)⟩
  have hl := holdEvent_last ev.ch b ⟨ev, used⟩ v
  rw [show csKey ev.buf ev.ch b.slot = csKey (⟨ev, used⟩ : Held).ev.buf ev.ch b.slot from rfl, hl]
  cases b.closed <;> rfl

/-- An event of a burst that its strip discards reaches no bin. -/
theorem gateBurst_discards (b : Burst) (ev : Ev) {s : State} (hn : slotBinned (passesOf (stepShots s ev.buf) b.e) b.slot = false) :
    (gateBurst b ev s).hg.bins = s.hg.bins ∧
    (mget [] (gateBurst b ev s).hg.held (csKey ev.buf ev.ch b.slot)).getLast? = some ⟨ev, b.closed⟩ ∧
    (b.closed = true → (mget [] s.hg.held (csKey ev.buf ev.ch b.slot)).length < 16 →
      (ctxGet (gateBurst b ev s) ev.buf ev.ch).foreign = satAdd 16 (ctxGet s ev.buf ev.ch).foreign 1) := by
  obtain ⟨used, v, he, -, hs⟩ := gateBurst_holds b ev s
  obtain ⟨rfl, rfl⟩ := hs hn
  rw [he]
  refine ⟨(holdEvent_store ..).1, (holdEvent_last ev.ch b ⟨ev, false⟩ v).trans ?_, fun hc hl => holdEvent_foreign ev.ch b ⟨ev, false⟩ v hc rfl hl⟩
  cases b.closed <;> rfl

theorem binTaken_late {at_ : Int} {ev : Ev} {s : State} {b : Burst}
    (hb : (stepBursts s ev.buf).find? (fun b => b.e == servingCh s ev.ch && b.slot == ev.slot) = some b)
    (hl : b.start + windowLen + 9600 < inStep s ev.buf at_ ∨ bufReleased s ev.buf (ev.ch / 48) = true) : binTaken at_ ev s = lateEvent ev s := by
  unfold binTaken
  rw [hb]
  exact if_pos (by rw [Bool.or_eq_true, decide_eq_true_iff]; exact hl)

theorem binTaken_intime {at_ : Int} {ev : Ev} {s : State} {b : Burst}
    (hb : (stepBursts s ev.buf).find? (fun b => b.e == servingCh s ev.ch && b.slot == ev.slot) = some b)
    (hl : ¬(b.start + windowLen + 9600 < inStep s ev.buf at_ ∨ bufReleased s ev.buf (ev.ch / 48) = true)) :
    binTaken at_ ev s = gateBurst b ev s := by
  unfold binTaken
  rw [hb]
  exact if_neg (by rw [Bool.or_eq_true, decide_eq_true_iff]; exact hl)

/-- The state in which an event from the head of a queue reaches the binner: the queue's rest, under the configuration of its frame. -/
def binView (strip : Nat) (ev : Ev) (rest : List Ev) (s : State) : State := viewFrame (bufFrame s ev.buf) (hgQueuePut strip rest s)

theorem viewFrame_frame (f : BitVec 32) (s : State) : Frame [.cf, .eff] s (viewFrame f s) := by
  unfold viewFrame
  split
  · exact .refl ..
  · exact .of

section
variable {s : State} {strip : Nat} {ev : Ev} {rest : List Ev}

theorem binEvent_takes (hq : hgQueue s strip = ev :: rest) (at_ : Int) :
    binEvent strip at_ s = { binTaken at_ ev (binView strip ev rest s) with cf := s.cf } := by
  unfold binEvent
  rw [hq]
  rfl

theorem binView_parts : (binView strip ev rest s).hg = (hgQueuePut strip rest s).hg ∧ (binView strip ev rest s).ex = s.ex ∧
    (binView strip ev rest s).rx = s.rx ∧ (binView strip ev rest s).pw = s.pw := by
  have h := viewFrame_frame (bufFrame s ev.buf) (hgQueuePut strip rest s)
  exact ⟨h.same .hg, h.same .ex, h.same .rx, h.same .pw⟩

theorem binView_serving (ch : Nat) : servingCh (binView strip ev rest s) ch = servingCh (viewFrame (bufFrame s ev.buf) s) ch :=
  servingCh_congr (viewFrame_cf (s := s) (u := hgQueuePut strip rest s) rfl rfl _) ch

theorem binView_step (buf : Nat) (at_ : Int) (q : Nat) : stepBursts (binView strip ev rest s) buf = stepBursts s buf ∧
    stepShots (binView strip ev rest s) buf = stepShots s buf ∧ inStep (binView strip ev rest s) buf at_ = inStep s buf at_ ∧
    bufReleased (binView strip ev rest s) buf q = bufReleased s buf q ∧ bufClosed (binView strip ev rest s) buf = bufClosed s buf := by
  obtain ⟨hg, hx, -, hp⟩ := binView_parts (s := s) (strip := strip) (ev := ev) (rest := rest)
  have hc := bufClosed_congr hg (hp.trans (show s.pw = (hgQueuePut strip rest s).pw from rfl)) buf
  unfold stepBursts stepShots inStep bufReleased
  rw [hg, hx]
  exact ⟨rfl, rfl, rfl, rfl, hc⟩

theorem binView_queue : hgQueue (binView strip ev rest s) strip = rest := by
  obtain ⟨hg, -, -, -⟩ := binView_parts (s := s) (strip := strip) (ev := ev) (rest := rest)
  unfold hgQueue
  rw [hg]
  exact hgQueue_put_same ..

theorem binView_store : (binView strip ev rest s).hg.bins = s.hg.bins ∧ (binView strip ev rest s).hg.held = s.hg.held ∧
    (binView strip ev rest s).hg.ctx = s.hg.ctx ∧ (binView strip ev rest s).hg.cnt = s.hg.cnt ∧
    (binView strip ev rest s).hg.last = s.hg.last := by
  obtain ⟨hg, -, -, -⟩ := binView_parts (s := s) (strip := strip) (ev := ev) (rest := rest)
  rw [hg]
  exact ⟨rfl, rfl, rfl, rfl, rfl⟩

variable {b : Burst} {at_ : Int} (hq : hgQueue s strip = ev :: rest)
  (hb : (stepBursts s ev.buf).find? (fun b => b.e == servingCh (viewFrame (bufFrame s ev.buf) s) ev.ch && b.slot == ev.slot) = some b)

include hb in
theorem binView_finds : (stepBursts (binView strip ev rest s) ev.buf).find?
    (fun b => b.e == servingCh (binView strip ev rest s) ev.ch && b.slot == ev.slot) = some b := by
  rw [(binView_step ev.buf 0 0).1, binView_serving]
  exact hb

include hq hb

theorem binEvent_late (hl : b.start + windowLen + 9600 < inStep s ev.buf at_ ∨ bufReleased s ev.buf (ev.ch / 48) = true) :
    Kept (binEvent strip at_ s) s ∧ hgQueue (binEvent strip at_ s) strip = rest ∧ (binEvent strip at_ s).hg.bins = s.hg.bins ∧
    (binEvent strip at_ s).hg.held = s.hg.held ∧ (ctxGet (binEvent strip at_ s) ev.buf ev.ch).evloss = true ∧
    (hgCntOf (binEvent strip at_ s) ev.buf (ev.ch / 48)).lateev = satAdd 16 (hgCntOf s ev.buf (ev.ch / 48)).lateev 1 := by
  obtain ⟨-, -, hi, hr, hcl⟩ := binView_step (s := s) (strip := strip) (ev := ev) (rest := rest) ev.buf at_ (ev.ch / 48)
  obtain ⟨hbins, hheld, -, hcnt, hlast⟩ := binView_store (s := s) (strip := strip) (ev := ev) (rest := rest)
  have ht := binTaken_late (binView_finds hb) (at_ := at_) (by rw [hi, hr]; exact hl)
  have hk : Kept (binEvent strip at_ s) s := binEvent_guarded ..
  have he := binEvent_takes hq at_
  rw [ht] at he
  rw [he] at hk ⊢
  refine ⟨hk, ?_, ?_, ?_, lateEvent_evloss ev (binView strip ev rest s), ?_⟩
  · exact ((lateEvent_only ev _).queue strip).trans binView_queue
  · exact (lateEvent_store ev _).1.trans hbins
  · exact (lateEvent_store ev _).2.trans hheld
  · refine (lateEvent_counted ev (binView strip ev rest s)).trans ?_
    unfold hgCntOf
    rw [hcl, hcnt, hlast]

theorem binEvent_intime (hl : ¬(b.start + windowLen + 9600 < inStep s ev.buf at_ ∨ bufReleased s ev.buf (ev.ch / 48) = true)) :
    Kept (binEvent strip at_ s) s ∧ hgQueue (binEvent strip at_ s) strip = rest ∧ (binEvent strip at_ s).rx = s.rx ∧
    (binEvent strip at_ s).cf = s.cf ∧
    (mget [] (binEvent strip at_ s).hg.held (csKey ev.buf ev.ch b.slot)).getLast?.map (·.ev) = some ev ∧
    (slotBinned (passesOf (stepShots s ev.buf) b.e) b.slot = false → (binEvent strip at_ s).hg.bins = s.hg.bins ∧
      (mget [] (binEvent strip at_ s).hg.held (csKey ev.buf ev.ch b.slot)).getLast? = some ⟨ev, b.closed⟩ ∧
      (b.closed = true → (mget [] s.hg.held (csKey ev.buf ev.ch b.slot)).length < 16 →
        (ctxGet (binEvent strip at_ s) ev.buf ev.ch).foreign = satAdd 16 (ctxGet s ev.buf ev.ch).foreign 1)) ∧
    ((ctxGet s ev.buf ev.ch).wins.length ≤ 8 → BinsGrow ev.buf ev.ch s (binEvent strip at_ s)) := by
  obtain ⟨-, hsh, hi, hr, -⟩ := binView_step (s := s) (strip := strip) (ev := ev) (rest := rest) ev.buf at_ (ev.ch / 48)
  obtain ⟨-, -, hrx, -⟩ := binView_parts (s := s) (strip := strip) (ev := ev) (rest := rest)
  obtain ⟨hbins, hheld, hctx, -, -⟩ := binView_store (s := s) (strip := strip) (ev := ev) (rest := rest)
  have hc : ctxGet (binView strip ev rest s) ev.buf ev.ch = ctxGet s ev.buf ev.ch := by
    unfold ctxGet; rw [hctx]
  have ht := binTaken_intime (binView_finds hb) (at_ := at_) (by rw [hi, hr]; exact hl)
  have hk : Kept (binEvent strip at_ s) s := binEvent_guarded ..
  have he := binEvent_takes hq at_
  rw [ht] at he
  obtain ⟨ho, hlast, hgrow⟩ := gateBurst_bins b ev (binView strip ev rest s)
  have hdisc := gateBurst_discards b ev (s := binView strip ev rest s)
  rw [hsh, hbins, hheld, hc] at hdisc
  rw [he] at hk ⊢
  refine ⟨hk, (ho.queue strip).trans binView_queue, (ho.frame.same .rx).trans hrx, rfl, hlast, hdisc, fun hw => ?_⟩
  exact (BinsGrow.of_same hbins).trans (hgrow (by rw [hc]; exact hw))

end

/-! ### A window closes (R174) -/

/-- The held events of a channel are judged as the window of slot `k` closes. -/
def judgeHeld (k : Nat) (s : State) (ch : Nat) : State :=
  let key := csKey s.hg.buf ch k
  let h := mget [] s.hg.held key
  let n := (h.filter isForeign).length
  let s := { s with hg := { s.hg with held := mset [] s.hg.held key (h.map fun x => { x with used := true }) } }
  if n = 0 then s else addForeign s.hg.buf ch n s

theorem closeWindow_closes {s : State} {e k : Nat} {b : Burst} (hb : burstAt s e k = some b) (hc : b.closed = false) (hf : b.fired ≠ 0) :
    closeWindow e k s = (channelsOf s e).foldl (judgeHeld k) (burstUpd e k (fun b => { b with closed := true }) s) := by
  unfold closeWindow
  rw [hb]
  exact if_neg (by simp [hc, hf])

/-- How many held events of a channel count as foreign. -/
def foreignHeld (k : Nat) (s : State) (ch : Nat) : Nat := ((mget [] s.hg.held (csKey s.hg.buf ch k)).filter isForeign).length

section
variable (k : Nat) (s : State) (ch : Nat)

/-- The held events have been judged. -/
def heldJudged : State := { s with hg := { s.hg with
  held := mset [] s.hg.held (csKey s.hg.buf ch k) ((mget [] s.hg.held (csKey s.hg.buf ch k)).map fun x => { x with used := true }) } }

theorem judgeHeld_eq : judgeHeld k s ch =
    if foreignHeld k s ch = 0 then heldJudged k s ch else addForeign s.hg.buf ch (foreignHeld k s ch) (heldJudged k s ch) := rfl

theorem judgeHeld_only : HistOnly s (judgeHeld k s ch) := by
  have hp : HistOnly s (heldJudged k s ch) := ⟨_, _, _, _, _, _, rfl⟩
  rw [judgeHeld_eq]
  split
  · exact hp
  · exact hp.trans (addForeign_only ..)

theorem judgeHeld_bins : (judgeHeld k s ch).hg.bins = s.hg.bins := by
  rw [judgeHeld_eq]
  split
  · rfl
  · exact (addForeign_store ..).1

theorem HistOnly.buf {s u : State} (h : HistOnly s u) : u.hg.buf = s.hg.buf := by
  obtain ⟨_, _, _, _, _, _, rfl⟩ := h
  rfl

theorem judgeHeld_foreign : (ctxGet (judgeHeld k s ch) s.hg.buf ch).foreign =
    if foreignHeld k s ch = 0 then (ctxGet s s.hg.buf ch).foreign else satAdd 16 (ctxGet s s.hg.buf ch).foreign (foreignHeld k s ch) := by
  rw [judgeHeld_eq]
  split
  · rfl
  · exact addForeign_foreign ..

variable {k ch} in
theorem judgeHeld_other (hk : k < 8) {c : Nat} (h : c ≠ ch) : foreignHeld k (judgeHeld k s ch) c = foreignHeld k s c ∧
    ctxGet (judgeHeld k s ch) s.hg.buf c = ctxGet s s.hg.buf c := by
  have hbuf := (judgeHeld_only k s ch).buf
  have hne : csKey s.hg.buf c k ≠ csKey s.hg.buf ch k := by
    unfold csKey
    omega
  have hh : (judgeHeld k s ch).hg.held = (heldJudged k s ch).hg.held := by
    rw [judgeHeld_eq]
    split
    · rfl
    · exact (addForeign_store ..).2
  refine ⟨?_, ?_⟩
  · unfold foreignHeld
    rw [hbuf, hh]
    unfold heldJudged
    dsimp only
    rw [mget_mset_other _ _ _ _ _ hne]
  · rw [judgeHeld_eq]
    split
    · rfl
    · exact ctxGet_addForeign_other _ _ _ _ h

end

theorem foldl_judgeHeld_bins (k : Nat) (l : List Nat) (s : State) : (l.foldl (judgeHeld k) s).hg.bins = s.hg.bins := by
  induction l generalizing s with
  | nil => rfl
  | cons c l ih => exact (ih _).trans (judgeHeld_bins k s c)

theorem foldl_judgeHeld_other {k : Nat} (hk : k < 8) {l : List Nat} {ch : Nat} (h : ch ∉ l) (s : State) :
    ctxGet (l.foldl (judgeHeld k) s) s.hg.buf ch = ctxGet s s.hg.buf ch := by
  induction l generalizing s with
  | nil => rfl
  | cons c l ih =>
    have hb := (judgeHeld_only k s c).buf
    have hi := ih (fun hl => h (List.mem_cons_of_mem _ hl)) (judgeHeld k s c)
    rw [hb] at hi
    exact hi.trans (judgeHeld_other s hk fun e => h (by rw [e]; exact List.mem_cons_self)).2

/-- Every channel of a list without repetition is judged by what it held before. -/
theorem foldl_judgeHeld_foreign {k : Nat} (hk : k < 8) {l : List Nat} (hnd : l.Nodup) {ch : Nat} (h : ch ∈ l) (s : State) :
    (ctxGet (l.foldl (judgeHeld k) s) s.hg.buf ch).foreign =
      if foreignHeld k s ch = 0 then (ctxGet s s.hg.buf ch).foreign else satAdd 16 (ctxGet s s.hg.buf ch).foreign (foreignHeld k s ch) := by
  induction l generalizing s with
  | nil => cases h
  | cons c l ih =>
    obtain ⟨hc, hl⟩ := List.nodup_cons.1 hnd
    have hb := (judgeHeld_only k s c).buf
    rcases List.mem_cons.1 h with rfl | hm
    · have ho := foldl_judgeHeld_other hk hc (judgeHeld k s ch)
      rw [hb] at ho
      exact (congrArg Ctx.foreign ho).trans (judgeHeld_foreign k s ch)
    · have hne : ch ≠ c := fun e => hc (e ▸ hm)
      have hi := ih hl hm (judgeHeld k s c)
      rw [hb, (judgeHeld_other s hk hne).1, (judgeHeld_other s hk hne).2] at hi
      exact hi

theorem channelsOf_nodup (s : State) (e : Nat) : (channelsOf s e).Nodup :=
  (List.nodup_map_iff_inj_on List.nodup_range).2 fun i _ j _ h => by omega

theorem burstAt_closed {s : State} {e k : Nat} {b : Burst} (h : burstAt (burstUpd e k (fun b => { b with closed := true }) s) e k = some b) :
    b.closed = true := by
  have hm := List.mem_of_find?_eq_some h
  have hp := List.find?_some h
  obtain ⟨a, -, ha⟩ := List.mem_map.1 hm
  split at ha
  case isTrue => rw [← ha]
  case isFalse hn => exact absurd (ha ▸ hp) hn

theorem windowClose_judges {s : State} {e : Fin 16} {k : Fin 8} {b : Burst} (ho : s.ex.open_ = true) (hb : burstAt s e k = some b)
    (hc : b.closed = false) (hf : b.fired ≠ 0) : Answers (.windowClose e k) s fun u => Kept u s ∧ u.hg.bins = s.hg.bins ∧
      (∀ b', burstAt u e k = some b' → b'.closed = true) ∧ ∀ ch ∈ channelsOf s e,
        (foreignHeld k s ch ≠ 0 → (ctxGet u s.hg.buf ch).foreign = satAdd 16 (ctxGet s s.hg.buf ch).foreign (foreignHeld k s ch)) ∧
        (foreignHeld k s ch = 0 → (ctxGet u s.hg.buf ch).foreign = (ctxGet s s.hg.buf ch).foreign) := by
  have he := closeWindow_closes hb hc hf
  have hk : Kept (closeWindow e k s) s := closeWindow_guarded ..
  rw [he] at hk
  have hex : ((channelsOf s e).foldl (judgeHeld k) (burstUpd e k (fun b => { b with closed := true }) s)).ex =
      (burstUpd e k (fun b => { b with closed := true }) s).ex := (HistOnly.foldl (judgeHeld_only k) _ _).frame.same .ex
  refine ⟨_, congrArg Host.Outcome.next ((if_pos ho).trans he), hk, foldl_judgeHeld_bins .., fun b' h => ?_, fun ch hch => ?_⟩
  · refine burstAt_closed (s := s) (e := e) (k := k) ?_
    unfold burstAt at *
    rw [← hex]
    exact h
  · have hj := foldl_judgeHeld_foreign k.isLt (channelsOf_nodup s e) hch (burstUpd e k (fun b => { b with closed := true }) s)
    exact ⟨fun hn => hj.trans (if_neg hn), fun hn => hj.trans (if_pos hn)⟩

theorem windowClose_not {s : State} {e : Fin 16} {k : Fin 8} (h : s.ex.open_ = false ∨ burstAt s e k = none) :
    Answers (.windowClose e k) s fun u => u = s := by
  have he : (if s.ex.open_ then closeWindow e k s else s) = s := by
    split
    case isTrue ho =>
      have hb : burstAt s e k = none := h.resolve_left fun hn => Bool.noConfusion (ho.symm.trans hn)
      unfold closeWindow
      rw [hb]
    case isFalse => rfl
  exact ⟨_, congrArg Host.Outcome.next he, rfl⟩

/-- Settles O24: it holds. -/
theorem eventBinning : Obligations.EventBinning := by
  unfold Obligations.EventBinning
  refine fun s strip at_ e k => ⟨fun ev rest b hq hb => ⟨fun hl => ⟨_, rfl, binEvent_late hq hb hl⟩, fun hl => ⟨_, rfl, binEvent_intime hq hb hl⟩⟩,
    fun hq => ?_, fun b ho hb hc hf => windowClose_judges ho hb hc hf, windowClose_not⟩
  have he : binEvent strip at_ s = s := by
    unfold binEvent
    rw [hq]
  exact ⟨_, congrArg Host.Outcome.next he, rfl⟩

end Sys2Proof.Machine
end

section
/-! PROOF. O25: the picker, its windows, and snapshots. -/

namespace Sys2Proof.Machine

-- One after another the proofs need less memory than all at once.
set_option Elab.async false

/-! ### Windows are placed inside the span (R178, R179) -/

/-- The windows placed so far are within their number, inside the span from `o`, and each is a candidate's of `cs`. -/
def Placed (o fineMax : Nat) (cs ws : List (Nat × Nat)) : Prop :=
  ws.length ≤ fineMax ∧ ∀ p ∈ ws, o ≤ p.1 ∧ p.1 ≤ o + 130048 ∧ ∃ c ∈ cs, c.1 = p.2

theorem window_in_span (o : Nat) (lo : Int) : o ≤ (clampI o (o + 130048) lo).toNat ∧ (clampI o (o + 130048) lo).toNat ≤ o + 130048 := by
  obtain ⟨h1, h2⟩ := clampI_bounds (lo := (o : Int)) (hi := (o : Int) + 130048) (by omega) lo
  omega

theorem placed_append {o fineMax : Nat} {cs ws : List (Nat × Nat)} (h : Placed o fineMax cs ws) (hl : ws.length < fineMax) {c : Nat × Nat}
    (hc : c ∈ cs) (lo : Int) : Placed o fineMax cs (ws ++ [((clampI o (o + 130048) lo).toNat, c.1)]) := by
  refine ⟨by rw [List.length_append]; exact hl, fun p hp => ?_⟩
  rcases List.mem_append.1 hp with h' | h'
  · exact h.2 p h'
  · rw [List.mem_singleton.1 h']
    exact ⟨(window_in_span o lo).1, (window_in_span o lo).2, c, hc, rfl⟩

theorem placeWindows_placed (o fineMax : Nat) (cs : List (Nat × Nat)) : Placed o fineMax cs (placeWindows o fineMax cs) := by
  unfold placeWindows
  refine List.foldlRecOn cs _ (motive := Placed o fineMax cs) ⟨Nat.zero_le _, fun _ h => absurd h List.not_mem_nil⟩ fun ws h c hc => ?_
  dsimp only
  split_ifs with hl _
  · exact h
  · exact h
  · exact placed_append h (Nat.lt_of_not_le hl) hc _

theorem candidate_passes {s : State} {ch m : Nat} {c : Nat × Nat} (h : c ∈ candidates s ch m) :
    c.1 < 512 ∧ m + hgN s (ch / 48) 7 ≤ binGet s s.hg.buf ch c.1 := by
  obtain ⟨i, hi, he⟩ := List.mem_filterMap.1 (List.mem_mergeSort.1 h)
  obtain ⟨hv, he⟩ := Option.ite_none_right_eq_some.1 he
  obtain rfl := Option.some.inj he
  exact ⟨List.mem_range.1 hi, hv.1⟩

/-! ### The picker's pass over the channels of a strip -/

/-- The windows that the picker places for channel `ch` of a strip. -/
def pickedWins (s : State) (strip ch : Nat) : List (Nat × Nat) :=
  placeWindows (origin s strip) (clampN 1 8 (hgN s (strip / 4) 8)) (candidates s ch (coarseMean s ch))

/-- The picker's work on channel `i` of a strip. -/
def pickAt (strip : Nat) (s : State) (i : Nat) : State :=
  ctxPut s.hg.buf (12 * strip + i) { ctxGet s s.hg.buf (12 * strip + i) with
    mean := sat 16 (coarseMean s (12 * strip + i)), wins := pickedWins s strip (12 * strip + i) } s

/-- Only contexts differ. -/
def CtxOnly (s u : State) : Prop := ∃ c, u = { s with hg := { s.hg with ctx := c } }

theorem pickAt_ctxOnly (strip : Nat) (s : State) (i : Nat) : CtxOnly s (pickAt strip s i) := ⟨_, rfl⟩

theorem pickedWins_ctxOnly {s u : State} (h : CtxOnly s u) (strip ch : Nat) :
    pickedWins u strip ch = pickedWins s strip ch ∧ coarseMean u ch = coarseMean s ch := by
  obtain ⟨_, rfl⟩ := h
  exact ⟨rfl, rfl⟩

theorem ctxGet_pickAt_other (strip : Nat) (s : State) {i j : Nat} (h : j ≠ i) :
    ctxGet (pickAt strip s i) s.hg.buf (12 * strip + j) = ctxGet s s.hg.buf (12 * strip + j) :=
  mget_mset_other _ _ _ _ _ (by omega)

theorem foldl_pickAt_ctxOnly (strip : Nat) (l : List Nat) (s : State) : CtxOnly s (l.foldl (pickAt strip) s) := by
  induction l generalizing s with
  | nil => exact ⟨_, rfl⟩
  | cons i l ih =>
    obtain ⟨c, hc⟩ := ih (pickAt strip s i)
    exact ⟨c, hc⟩

theorem foldl_pickAt_other (strip : Nat) {l : List Nat} {j : Nat} (h : j ∉ l) (s : State) :
    ctxGet (l.foldl (pickAt strip) s) s.hg.buf (12 * strip + j) = ctxGet s s.hg.buf (12 * strip + j) := by
  induction l generalizing s with
  | nil => rfl
  | cons i l ih =>
    obtain ⟨hi, hl⟩ := not_or.1 (mt List.mem_cons.2 h)
    exact (ih hl (pickAt strip s i)).trans (ctxGet_pickAt_other strip s hi)

/-- Every channel of the list gets the mean and the windows of the state before the pass. -/
theorem foldl_pickAt_picks (strip : Nat) {l : List Nat} (hnd : l.Nodup) {j : Nat} (h : j ∈ l) (s : State) :
    (ctxGet (l.foldl (pickAt strip) s) s.hg.buf (12 * strip + j)).mean = sat 16 (coarseMean s (12 * strip + j)) ∧
    (ctxGet (l.foldl (pickAt strip) s) s.hg.buf (12 * strip + j)).wins = pickedWins s strip (12 * strip + j) := by
  induction l generalizing s with
  | nil => cases h
  | cons i l ih =>
    obtain ⟨hi, hl⟩ := List.nodup_cons.1 hnd
    rcases List.mem_cons.1 h with rfl | hm
    · have ho : ctxGet ((j :: l).foldl (pickAt strip) s) s.hg.buf (12 * strip + j) = _ :=
        (foldl_pickAt_other strip hi (pickAt strip s j)).trans (ctxGet_ctxPut_same ..)
      rw [ho]
      exact ⟨rfl, rfl⟩
    · have hp := pickedWins_ctxOnly (pickAt_ctxOnly strip s i) strip (12 * strip + j)
      have hj := ih hl hm (pickAt strip s i)
      rw [hp.1, hp.2] at hj
      exact hj

section
variable {s : State} {strip : Fin 16}

theorem pick_picks (hm : stripMode (passesOf s.ex.list (serving s (strip.val / 4) (strip.val % 4))) = 1)
    (hn : stripNowin (passesOf s.ex.list (serving s (strip.val / 4) (strip.val % 4))) = false)
    (hf : firstFine (passesOf s.ex.list (serving s (strip.val / 4) (strip.val % 4))) < 8) :
    pick strip s = (List.range 12).foldl (pickAt strip) s := if_pos ⟨hm, hn, hf⟩

theorem pickerRun_places (ho : s.ex.open_ = true) (hm : stripMode (passesOf s.ex.list (serving s (strip.val / 4) (strip.val % 4))) = 1)
    (hn : stripNowin (passesOf s.ex.list (serving s (strip.val / 4) (strip.val % 4))) = false)
    (hf : firstFine (passesOf s.ex.list (serving s (strip.val / 4) (strip.val % 4))) < 8) :
    Answers (.pickerRun strip) s fun u => Kept u s ∧
      u.hg.bins = s.hg.bins ∧ ∀ i, i < 12 → (ctxGet u s.hg.buf (12 * strip.val + i)).wins.length ≤ clampN 1 8 (hgN s (strip.val / 4) 8) ∧
        (ctxGet u s.hg.buf (12 * strip.val + i)).mean = sat 16 (coarseMean s (12 * strip.val + i)) ∧
        ∀ p ∈ (ctxGet u s.hg.buf (12 * strip.val + i)).wins, origin s strip ≤ p.1 ∧ p.1 ≤ origin s strip + 130048 ∧ p.2 < 512 ∧
          coarseMean s (12 * strip.val + i) + hgN s ((12 * strip.val + i) / 48) 7 ≤ binGet s s.hg.buf (12 * strip.val + i) p.2 := by
  have hk : Kept (pick strip s) s := pick_guarded ..
  rw [pick_picks hm hn hf] at hk
  refine ⟨_, congrArg Host.Outcome.next ((if_pos ho).trans (pick_picks hm hn hf)), hk, ?_, fun i hi => ?_⟩
  · obtain ⟨c, hc⟩ := foldl_pickAt_ctxOnly strip (List.range 12) s
    rw [hc]
  · obtain ⟨hmean, hwins⟩ := foldl_pickAt_picks strip List.nodup_range (List.mem_range.2 hi) s
    have hp := placeWindows_placed (origin s strip) (clampN 1 8 (hgN s (strip.val / 4) 8))
      (candidates s (12 * strip.val + i) (coarseMean s (12 * strip.val + i)))
    refine ⟨?_, hmean, fun p hp' => ?_⟩
    · rw [hwins]
      exact hp.1
    · rw [hwins] at hp'
      obtain ⟨hlo, hhi, c, hc, hcp⟩ := hp.2 p hp'
      have hpass := candidate_passes hc
      rw [hcp] at hpass
      exact ⟨hlo, hhi, hpass.1, hpass.2⟩

theorem pickerRun_not (h : stripNowin (passesOf s.ex.list (serving s (strip.val / 4) (strip.val % 4))) = true ∨
    stripMode (passesOf s.ex.list (serving s (strip.val / 4) (strip.val % 4))) ≠ 1) : Answers (.pickerRun strip) s fun u => u = s := by
  have hp : pick strip s = s := by
    refine if_neg fun hc => ?_
    obtain ⟨hm, hn, -⟩ := hc
    exact h.elim (fun h' => Bool.noConfusion (h'.symm.trans hn)) fun h' => h' hm
  refine ⟨_, congrArg Host.Outcome.next (?_ : (if s.ex.open_ then pick strip s else s) = s), rfl⟩
  rw [hp, ite_self]

end

/-! ### Snapshots (R184, R185) -/

theorem ReportsOnly.hg {s u : State} (h : ReportsOnly s u) : u.hg = s.hg := by
  obtain ⟨_, _, _, rfl⟩ := h
  rfl

theorem snapGet_congr {s u : State} (h : u.hg = s.hg) (q : Nat) : snapGet u q = snapGet s q := by
  unfold snapGet
  rw [h]

@[simp] theorem snapGet_snapPut_same (q : Nat) (x : Snap) (s : State) : snapGet (snapPut q x s) q = x := mget_mset_same ..

section
variable {s : State} {q : Fin 4} {w : Word}

/-- What a snapshot command answers that puts `x` into the snapshot's record. -/
theorem hgSnapCmd_puts {x : Snap} (h : snapCmd q w.toNat s = snapPut q x s) :
    Answers (.hgSnapCmd q w) s fun u => Kept u s ∧ snapGet u q = x := by
  have hk : Kept (snapCmd q w.toNat s) s := snapCmd_guarded ..
  rw [h] at hk
  exact ⟨_, congrArg Host.Outcome.next h, hk, snapGet_snapPut_same ..⟩

section
variable (hg : bitAt w.toNat 31 = true) (hq : qPresent s q = true)
include hg hq

theorem snapCmd_asks : snapCmd q w.toNat s =
    if (snapGet s q).state ≠ 0 then snapPut q { snapGet s q with last := 4 } s
    else if 47 < fld w.toNat 16 6 ∨ stepsPerFrame s ≤ fld w.toNat 0 13 then snapPut q { snapGet s q with last := 5 } s
    else if bitAt w.toNat 30 && stepBegun s (BitVec.ofNat 32 (snapGet s q).frame) (fld w.toNat 0 13) then
      snapPut q { snapGet s q with last := 2 } s
    else snapPut q { snapGet s q with state := 1, at1 := bitAt w.toNat 30, ch := fld w.toNat 16 6, step := fld w.toNat 0 13,
                                      armFrame := BitVec.ofNat 32 (snapGet s q).frame } s :=
  if_neg (by rw [hg, hq]; decide)

theorem snapCmd_busy (hs : (snapGet s q).state ≠ 0) : snapCmd q w.toNat s = snapPut q { snapGet s q with last := 4 } s :=
  (snapCmd_asks hg hq).trans (if_pos hs)

variable (hs : (snapGet s q).state = 0)
include hs

theorem snapCmd_bad (hb : 47 < fld w.toNat 16 6 ∨ stepsPerFrame s ≤ fld w.toNat 0 13) :
    snapCmd q w.toNat s = snapPut q { snapGet s q with last := 5 } s := by
  rw [snapCmd_asks hg hq, if_neg fun h => h hs, if_pos hb]

variable (hc : fld w.toNat 16 6 ≤ 47) (ht : fld w.toNat 0 13 < stepsPerFrame s)
include hc ht

theorem snapCmd_past (h30 : bitAt w.toNat 30 = true)
    (hb : stepBegun s (BitVec.ofNat 32 (snapGet s q).frame) (fld w.toNat 0 13) = true) :
    snapCmd q w.toNat s = snapPut q { snapGet s q with last := 2 } s := by
  rw [snapCmd_asks hg hq, if_neg fun h => h hs, if_neg (by omega), if_pos (by rw [h30, hb]; rfl)]

theorem snapCmd_arms (hb : bitAt w.toNat 30 = false ∨ stepBegun s (BitVec.ofNat 32 (snapGet s q).frame) (fld w.toNat 0 13) = false) :
    snapCmd q w.toNat s = snapPut q { snapGet s q with
      state := 1, at1 := bitAt w.toNat 30, ch := fld w.toNat 16 6, step := fld w.toNat 0 13,
      armFrame := BitVec.ofNat 32 (snapGet s q).frame } s := by
  rw [snapCmd_asks hg hq, if_neg fun h => h hs, if_neg (by omega), if_neg]
  rcases hb with h | h <;> simp [h]

end

theorem snapshotComplete_copies (hs : (snapGet s q).state = 2) :
    Answers (.snapshotComplete q) s fun u => Kept u s ∧ (snapGet u q).state = 0 ∧ (snapGet u q).last = 1 ∧
      (snapGet u q).bins = region s s.hg.relBuf (48 * q.val + (snapGet s q).ch) ∧
      (resGet u (0x0A0000 + 0x4000 * q.val + 0x1FC0)).fresh = true ∧ u.hg.bins = s.hg.bins := by
  have hk : Kept (snapDone q s) s := snapDone_guarded ..
  refine ⟨_, rfl, hk, ?_⟩
  have he : snapDone q s = _ := if_pos hs
  rw [he]
  generalize hv : snapPut q _ s = v
  generalize snapHeader _ _ _ = ws
  generalize put _ _ _ + _ + _ + _ + _ + _ + _ = low
  have hh := (post_reportsOnly (0x0A0000 + 0x4000 * q.val + 0x1FC0) low ws v).hg
  rw [snapGet_congr hh, hh, resGet_post, ← hv, snapGet_snapPut_same]
  exact ⟨rfl, rfl, rfl, rfl, rfl⟩

theorem snapshotComplete_not (hs : (snapGet s q).state ≠ 2) : Answers (.snapshotComplete q) s fun u => u = s :=
  ⟨_, congrArg Host.Outcome.next (if_neg hs), rfl⟩

end

/-- Settles O25: it holds. -/
theorem pickerAndSnapshots : Obligations.PickerAndSnapshots := by
  unfold Obligations.PickerAndSnapshots
  refine fun s strip q w => ⟨pickerRun_places, pickerRun_not, fun hg hq => ⟨?busy, ?bad, ?past, ?arms⟩, snapshotComplete_copies,
    snapshotComplete_not⟩
  case busy => exact fun hs => hgSnapCmd_puts (snapCmd_busy hg hq hs)
  case bad => exact fun hs hb => hgSnapCmd_puts (snapCmd_bad hg hq hs hb)
  case past => exact fun hs hc ht h30 hb => hgSnapCmd_puts (snapCmd_past hg hq hs hc ht h30 hb)
  case arms =>
    intro hs hc ht hb
    obtain ⟨u, he, hk, hx⟩ := hgSnapCmd_puts (snapCmd_arms hg hq hs hc ht hb)
    exact ⟨u, he, hk, by rw [hx], by rw [hx], by rw [hx], by rw [hx]⟩

end Sys2Proof.Machine
end

section
/-! PROOF. Azimuth steps: what the end of a step, the cut of an engine and the start of the next step leave unchanged. -/

namespace Sys2Proof.Machine

-- One after another the proofs need less memory than all at once.
set_option Elab.async false

/-! ### The bins and the step that waits for its release -/

/-- The bins, the buffer that accumulates, and the step that waits for its release. -/
def stored (s : State) : SMap Nat × Nat × Nat × BitVec 4 × Nat × BitVec 32 :=
  (s.hg.bins, s.hg.buf, s.hg.relBuf, s.hg.relDue, s.hg.relStep, s.hg.relFrame)

theorem stored_says {s : State} {bins : SMap Nat} {buf relBuf relStep : Nat} {relDue : BitVec 4} {relFrame : BitVec 32}
    (h : stored s = (bins, buf, relBuf, relDue, relStep, relFrame)) : s.hg.bins = bins ∧ s.hg.buf = buf ∧ s.hg.relBuf = relBuf ∧
      s.hg.relDue = relDue ∧ s.hg.relStep = relStep ∧ s.hg.relFrame = relFrame := by
  simpa only [stored, Prod.mk.injEq] using h

theorem stored_congr {s u : State} (h : u.hg = s.hg) : stored u = stored s := by
  unfold stored
  rw [h]

theorem Frame.stored {l : List Part} {s u : State} (h : Frame l s u) (hp : Part.hg ∉ l := by decide) : stored u = stored s :=
  stored_congr (h.same .hg hp)

theorem HistOnly.stored {s u : State} (h : HistOnly s u) (hb : u.hg.bins = s.hg.bins) : stored u = stored s := by
  obtain ⟨b, c, e, i, n, l, rfl⟩ := h
  obtain rfl : b = s.hg.bins := hb
  rfl

theorem hgCnt_stored (b q : Nat) (f : HgCnt → HgCnt) (s : State) : stored (hgCnt b q f s) = stored s :=
  (hgCnt_only ..).stored (hgCnt_bins ..).1

theorem lateEvent_stored (ev : Ev) (s : State) : stored (lateEvent ev s) = stored s := (lateEvent_only ..).stored (lateEvent_store ..).1

theorem judgeHeld_stored (k : Nat) (s : State) (ch : Nat) : stored (judgeHeld k s ch) = stored s :=
  (judgeHeld_only ..).stored (judgeHeld_bins ..)

/-! ### A step ends (R168, R181) -/

/-- A window that closes judges the held events of the channels of its emitter, or it was not open. -/
theorem closeWindow_cases (e k : Nat) (s : State) : closeWindow e k s = s ∨
    closeWindow e k s = (channelsOf s e).foldl (judgeHeld k) (burstUpd e k (fun b => { b with closed := true }) s) := by
  unfold closeWindow
  split
  · exact .inl rfl
  · split
    · exact .inl rfl
    · exact .inr rfl

theorem burstUpd_frame (e k : Nat) (f : Burst → Burst) (s : State) : Frame [.ex] s (burstUpd e k f s) := .of

theorem closeWindow_frame (e k : Nat) (s : State) : Frame [.ex, .hg] s (closeWindow e k s) := by
  rcases closeWindow_cases e k s with h | h
  · rw [h]
    exact .refl ..
  · rw [h]
    exact (burstUpd_frame ..).trans (HistOnly.foldl (judgeHeld_only k) _ _).frame

theorem closeWindow_stored (e k : Nat) (s : State) : stored (closeWindow e k s) = stored s := by
  rcases closeWindow_cases e k s with h | h
  · rw [h]
  · rw [h]
    exact foldl_keeps stored (judgeHeld_stored k) _ _

/-- The sequencer's record but its bursts. -/
def burstless (x : Ex) : Ex := { x with bursts := [] }
def sequencer (s : State) : Ex := burstless s.ex

theorem sequencer_burstUpd (e k : Nat) (f : Burst → Burst) (s : State) : sequencer (burstUpd e k f s) = sequencer s := rfl

theorem closeWindow_sequencer (e k : Nat) (s : State) : sequencer (closeWindow e k s) = sequencer s := by
  rcases closeWindow_cases e k s with h | h
  · rw [h]
  · have hx : _ = State.ex _ := (HistOnly.foldl (judgeHeld_only k) (channelsOf s e) (burstUpd e k (fun b => { b with closed := true }) s)).frame.same .ex
    rw [h]
    exact (congrArg burstless hx).trans (sequencer_burstUpd ..)

/-- The context of a channel as its step ends. -/
def channelEnd (buf : Nat) (s : State) (ch : Nat) : State :=
  let x := ctxGet s buf ch
  let bs := s.ex.bursts.filter fun b => b.e == servingCh s ch && decide (0 < b.fired)
  let r := rxGet s ch
  let s := if x.mixed then hgCnt buf (ch / 48) (fun c => { c with mixed := satAdd 16 c.mixed 1 }) s else s
  let s := if x.nowin then hgCnt buf (ch / 48) (fun c => { c with nowin := satAdd 16 c.nowin 1 }) s else s
  ctxPut buf ch { x with
    nc := (bs.filter fun b => b.pass != 2).length, nf := (bs.filter fun b => b.pass == 2).length
    notOk := r.health != 0, health := r.health } s

theorem channelEnd_only (buf : Nat) (s : State) (ch : Nat) : HistOnly s (channelEnd buf s ch) := by
  unfold channelEnd
  extract_lets x bs r s1 s2
  have h1 : HistOnly s s1 := by
    unfold s1
    split
    · exact hgCnt_only ..
    · exact .refl ..
  have h2 : HistOnly s1 s2 := by
    unfold s2
    split
    · exact hgCnt_only ..
    · exact .refl ..
  exact (h1.trans h2).trans (ctxPut_only ..)

theorem channelEnd_stored (buf : Nat) (s : State) (ch : Nat) : stored (channelEnd buf s ch) = stored s := by
  unfold channelEnd
  extract_lets x bs r s1 s2
  have h1 : stored s1 = stored s := by
    unfold s1
    split
    · exact hgCnt_stored ..
    · rfl
  have h2 : stored s2 = stored s1 := by
    unfold s2
    split
    · exact hgCnt_stored ..
    · rfl
  exact h2.trans h1

/-- The contexts of the step in progress are complete. -/
def contextsEnd (s : State) : State :=
  let u := s.ex.bursts.foldl (fun s b => closeWindow b.e b.slot s) s
  (List.range (48 * quadrants u.sys.variant)).foldl (channelEnd s.hg.buf) u

/-- The buffer that accumulated waits for its release. -/
def bufferWaits (buf : Nat) (s : State) : State :=
  { s with hg := { s.hg with
      relBuf := buf, relAt := s.sys.now + 150, relDue := BitVec.ofNat 4 (2 ^ quadrants s.sys.variant - 1), relStep := s.ex.step
      relFrame := s.pw.frameNo, relStime := s.ex.stepAt - s.pw.lastB } }

theorem hgEnd_eq (s : State) : hgEnd s = bufferWaits s.hg.buf (contextsEnd s) := rfl

theorem contextsEnd_frame (s : State) : Frame [.ex, .hg] s (contextsEnd s) :=
  Frame.trans (l := [.ex, .hg]) (.foldl (fun s (b : Burst) => closeWindow_frame b.e b.slot s) _ s) (HistOnly.foldl (channelEnd_only _) _ _).frame

theorem contextsEnd_stored (s : State) : stored (contextsEnd s) = stored s :=
  (foldl_keeps stored (channelEnd_stored _) _ _).trans (foldl_keeps stored (fun s (b : Burst) => closeWindow_stored b.e b.slot s) _ s)

theorem contextsEnd_sequencer (s : State) : sequencer (contextsEnd s) = sequencer s :=
  (congrArg burstless ((HistOnly.foldl (channelEnd_only _) _ _).frame.same .ex)).trans
    (foldl_keeps sequencer (fun s (b : Burst) => closeWindow_sequencer b.e b.slot s) _ s)

theorem hgEnd_frame (s : State) : Frame [.ex, .hg] s (hgEnd s) := (contextsEnd_frame s).trans (Frame.of (l := [.hg]) : Frame [.hg] _ (hgEnd s))

theorem rxUpd_frame (ch : Nat) (f : RxCh → RxCh) (s : State) : Frame [.rx] s (rxUpd ch f s) := .of

theorem rxStepped_frame (s : State) : Frame [.rx] s (rxStepped s) := .foldl (fun _ _ => rxUpd_frame ..) _ s

/-- No step is in progress. -/
def stepShut (s : State) : State := { s with ex := { s.ex with open_ := false } }

theorem stepShut_frame (s : State) : Frame [.ex] s (stepShut s) := .of

theorem sequencer_stepShut (s : State) : sequencer (stepShut s) = { sequencer s with open_ := false } := rfl

theorem stepEnd_open {s : State} (h : s.ex.open_ = true) : stepEnd s = stepShut (rxStepped (hgEnd s)) := if_pos h

theorem stepEnd_frame (s : State) : Frame [.ex, .hg, .rx] s (stepEnd s) := by
  by_cases h : s.ex.open_ = true
  · rw [stepEnd_open h]
    exact ((hgEnd_frame s).trans (rxStepped_frame _) (r := [.ex, .hg, .rx])).trans (stepShut_frame _)
  · have he : stepEnd s = s := if_neg h
    rw [he]
    exact .refl ..

/-- The end of the step in progress: its buffer waits for release to every quadrant present. -/
theorem stepEnd_stored {s : State} (h : s.ex.open_ = true) : stored (stepEnd s) =
    (s.hg.bins, s.hg.buf, s.hg.buf, BitVec.ofNat 4 (2 ^ quadrants s.sys.variant - 1), s.ex.step, s.pw.frameNo) := by
  have hf := contextsEnd_frame s
  have hs := contextsEnd_stored s
  have hq : (contextsEnd s).ex.step = s.ex.step := (congrArg Ex.step (contextsEnd_sequencer s) :)
  have hsys : (contextsEnd s).sys = s.sys := hf.same .sys
  have hpw : (contextsEnd s).pw = s.pw := hf.same .pw
  have hw (v : State) (b : Nat) : stored (bufferWaits b v) =
      (v.hg.bins, v.hg.buf, b, BitVec.ofNat 4 (2 ^ quadrants v.sys.variant - 1), v.ex.step, v.pw.frameNo) := rfl
  have hb : (contextsEnd s).hg.bins = s.hg.bins := congrArg (·.1) hs
  have hbuf : (contextsEnd s).hg.buf = s.hg.buf := congrArg (·.2.1) hs
  rw [stepEnd_open h]
  refine (stepShut_frame _).stored.trans ((rxStepped_frame _).stored.trans ?_)
  rw [hgEnd_eq, hw, hq, hsys, hpw, hb, hbuf]

theorem stepEnd_sequencer {s : State} (h : s.ex.open_ = true) : sequencer (stepEnd s) = { sequencer s with open_ := false } := by
  have hx : (rxStepped (hgEnd s)).ex = (contextsEnd s).ex := (rxStepped_frame _).same .ex
  rw [stepEnd_open h, sequencer_stepShut, ← contextsEnd_sequencer s]
  unfold sequencer
  rw [hx]

/-! ### An engine that is cut (R191) -/

/-- What the end of an engine's step may change. -/
abbrev engineParts : List Part := [.ed, .res, .regs, .hg, .rx, .ne, .ze, .ps, .fp]

theorem postRx_frame (ch : Nat) (s : State) : Frame [.ed, .res, .regs, .rx] s (postRx ch s) := by
  unfold postRx
  dsimp only
  exact (post_frame ..).trans (rxUpd_frame ..)

theorem postQuadrantRx_frame (q : Nat) (s : State) : Frame [.ed, .res, .regs, .rx] s (postQuadrantRx q s) := by
  unfold postQuadrantRx
  exact (post_frame ..).trans (.foldl (fun s c => postRx_frame ..) _ _)

theorem postHg_frame (q : Nat) (s : State) : Frame [.ed, .res, .regs, .hg] s (postHg q s) := by
  unfold postHg
  dsimp only
  exact (post_frame ..).trans (Frame.of (l := [.hg]))

theorem postHg_stored (q : Nat) (s : State) : stored (postHg q s) = stored s := by
  unfold postHg
  dsimp only
  exact (post_frame ..).stored

theorem nePut_frame (q : Nat) (x : Ne) (s : State) : Frame [.ne] s (nePut q x s) := .of

theorem neUpd_frame (q : Nat) (f : Ne → Ne) (s : State) : Frame [.ne] s (neUpd q f s) := nePut_frame ..

theorem qualLatch_frame (s : State) : Frame [.fp] s (qualLatch s) := .of

theorem fillAdd_frame (l n : Nat) (s : State) : Frame [.ps] s (fillAdd l n s) := laneUpd_frame ..

theorem psHeaders_frame (s : State) : Frame [.ps] s (psHeaders s) := by
  unfold psHeaders
  refine Frame.trans (l := [.ps]) (l' := [.ps]) .of (.foldl (fun s l => ?_) _ _)
  split
  · exact (fillAdd_frame ..).trans (laneUpd_frame ..)
  · exact .refl ..

theorem psLatch_frame (f : BitVec 32) (s : State) : Frame [.ed, .res, .regs, .ps] s (psLatch f s) := by
  unfold psLatch
  dsimp only
  split
  · exact ((post_frame ..).trans (psCountsEnd_frame _) (r := [.ed, .res, .regs, .ps])).trans (psHeaders_frame _)
  · exact (post_frame ..).trans (psCountsEnd_frame _)

/-- An engine posts the statistics of its frame, and with them the quadrant's results. -/
def statsPosted (q : Nat) (s : State) : State :=
  let x := neGet s q
  let a := 0x0E0040 + 0x4000 * q
  postHg q (postQuadrantRx q (post a 0 [(a + 4, put (sat 16 x.cycMax) 16 16 + put x.overruns 0 16), (a + 8, x.notproc), (a + 12, x.echoes),
    (a + 16, put x.capdrop 16 16 + put x.dups 0 16), (a + 20, put x.sillage 16 16 + put x.ovtecho 0 16),
    (a + 24, put x.progfault 8 8 + put x.winerr 0 8), (a + 28, put x.cause 28 4 + put x.faultPc 0 10)] s))

theorem statsPosted_frame (q : Nat) (s : State) : Frame [.ed, .res, .regs, .hg, .rx] s (statsPosted q s) :=
  ((post_frame ..).trans (postQuadrantRx_frame ..) (r := [.ed, .res, .regs, .hg, .rx])).trans (postHg_frame ..)

theorem statsPosted_stored (q : Nat) (s : State) : stored (statsPosted q s) = stored s :=
  (postHg_stored ..).trans ((postQuadrantRx_frame ..).stored.trans (post_frame ..).stored)

/-- Every engine has latched: the quality table and the lanes' statistics are latched. -/
def allLatched (f : BitVec 32) (s : State) : State :=
  (List.range 4).foldl (fun s k => neUpd k (fun x => { x with latched := false }) s) (qualLatch (psLatch f s))

theorem allLatched_frame (f : BitVec 32) (s : State) : Frame [.ed, .res, .regs, .ps, .fp, .ne] s (allLatched f s) :=
  ((psLatch_frame f s).trans (qualLatch_frame _) (r := [.ed, .res, .regs, .ps, .fp])).trans (.foldl (fun s k => neUpd_frame ..) _ _)

theorem neLatch_eq (q : Nat) (s : State) : neLatch q s =
    let u := nePut q { neCleared (neGet s q) with latched := true } (statsPosted q s)
    if (List.range (quadrants u.sys.variant)).all fun k => (neGet u k).latched then allLatched (neGet s q).frame u else u := rfl

theorem neLatch_frame (q : Nat) (s : State) : Frame engineParts s (neLatch q s) := by
  rw [neLatch_eq]
  have hu := (statsPosted_frame q s).trans (nePut_frame q { neCleared (neGet s q) with latched := true } _) (r := engineParts)
  dsimp only
  split
  · exact hu.trans (allLatched_frame ..)
  · exact hu

theorem neLatch_stored (q : Nat) (s : State) : stored (neLatch q s) = stored s := by
  rw [neLatch_eq]
  have hu := (nePut_frame q { neCleared (neGet s q) with latched := true } (statsPosted q s)).stored.trans (statsPosted_stored q s)
  dsimp only
  split
  · exact (allLatched_frame ..).stored.trans hu
  · exact hu

theorem neStepDone_frame (q : Nat) (s : State) : Frame engineParts s (neStepDone q s) := by
  unfold neStepDone
  dsimp only
  split
  · exact (nePut_frame ..).trans (neLatch_frame ..)
  · exact (nePut_frame ..).mono

theorem neStepDone_stored (q : Nat) (s : State) : stored (neStepDone q s) = stored s := by
  unfold neStepDone
  dsimp only
  split
  · exact (neLatch_stored ..).trans (nePut_frame ..).stored
  · exact (nePut_frame ..).stored

theorem cutPoints_frame (q : Nat) (s : State) : Frame [.ne, .ze, .ps, .fp] s (cutPoints q s) := by
  unfold cutPoints
  exact .foldl (fun s i => (neUpd_frame ..).trans (deliver_deliveryOnly ..).frame) _ s

theorem neCut_frame (q : Nat) (s : State) : Frame engineParts s (neCut q s) := by
  unfold neCut
  dsimp only
  refine Frame.trans (l := engineParts) ?_ (raise_frame ..)
  exact ((cutPoints_frame q s).trans (neUpd_frame ..) (r := engineParts)).trans (neStepDone_frame ..)

theorem neCut_stored (q : Nat) (s : State) : stored (neCut q s) = stored s :=
  (raise_frame ..).stored.trans ((neStepDone_stored ..).trans ((neUpd_frame ..).stored.trans (cutPoints_frame ..).stored))

theorem noProgram_stored (q : Nat) (s : State) : stored (noProgram q s) = stored s :=
  (neStepDone_stored ..).trans (cutPoints_frame ..).stored

theorem groupStart_stored (q g : Nat) (s : State) : stored (groupStart q g s) = stored s := by
  unfold groupStart
  dsimp only
  split
  · exact (neCut_stored ..).trans ((neUpd_frame ..).stored.trans (nePut_frame ..).stored)
  · exact (nePut_frame ..).stored

/-! ### A step begins (R126, R168) -/

/-- The engines still at work are cut. -/
def enginesCut (s : State) : State := (List.range 4).foldl (fun s q => if (neGet s q).run then neCut q s else s) s

theorem enginesCut_frame (s : State) : Frame engineParts s (enginesCut s) :=
  .foldl (fun s q => by
    split
    · exact neCut_frame ..
    · exact .refl ..) _ s

theorem enginesCut_stored (s : State) : stored (enginesCut s) = stored s :=
  foldl_keeps stored (fun s q => by
    split
    · exact neCut_stored ..
    · rfl) _ s

theorem chargeStep_frame (s : State) : Frame [.fp] s (chargeStep s) := by
  unfold chargeStep
  split
  · exact .refl ..
  · exact .of

theorem healthStep_frame (ch : Nat) (s : State) : Frame [.rx, .ed] s (healthStep ch s) := by
  unfold healthStep
  dsimp only
  split
  · exact .refl ..
  · exact (rxUpd_frame ..).trans (raise_frame ..)

theorem rxStep_frame (len : Nat) (s : State) : Frame [.rx, .ed] s (rxStep len s) :=
  .foldl (fun s ch => (rxUpd_frame ..).trans (healthStep_frame ..)) _ s

theorem stepCount_frame (tdc : Nat) (s : State) : Frame [.ex, .rx, .ed] s (stepCount tdc s) :=
  Frame.trans (l := [.ex]) .of (rxStep_frame ..)

theorem stepCount_ex (tdc : Nat) (s : State) : (stepCount tdc s).ex = { s.ex with
    stepAt := s.sys.now, stepTdc := tdc, stepsRun := s.ex.stepsRun + 1, prevLen := tdc - s.ex.stepTdc } := (rxStep_frame _ _).same .ex

theorem snapPut_frame (q : Nat) (x : Snap) (s : State) : Frame [.hg] s (snapPut q x s) := .of

theorem snapPut_stored (q : Nat) (x : Snap) (s : State) : stored (snapPut q x s) = stored s := rfl

theorem snapStep_frame (s : State) : Frame [.hg] s (snapStep s) :=
  .foldl (fun s q => by
    dsimp only
    split
    · exact snapPut_frame ..
    · exact .refl ..) _ s

theorem snapStep_stored (s : State) : stored (snapStep s) = stored s :=
  foldl_keeps stored (fun s q => by
    dsimp only
    split
    · exact snapPut_stored ..
    · rfl) _ s

theorem hgTooLate_frame (buf : Nat) (s : State) : Frame [.hg] s (hgTooLate buf s) :=
  .foldl (fun s strip => Frame.trans (l := [.hg]) (l' := [.hg]) .of (.foldl (fun s e => (lateEvent_only e s).frame) _ _)) _ s

theorem hgQueuePut_stored (strip : Nat) (l : List Ev) (s : State) : stored (hgQueuePut strip l s) = stored s := rfl

theorem hgTooLate_stored (buf : Nat) (s : State) : stored (hgTooLate buf s) = stored s :=
  foldl_keeps stored (fun _ _ => (foldl_keeps stored (fun s e => lateEvent_stored e s) _ _).trans (hgQueuePut_stored ..)) _ s

/-- The other buffer is cleared and accumulates. -/
def bufferTaken (buf : Nat) (ctx : SMap Ctx) (s : State) : State :=
  { s with hg := { s.hg with
    buf := buf, bins := mfilter (fun k => k / 0xC0000 != buf) s.hg.bins, ctx := ctx
    held := mfilter (fun k => k / 1536 != buf) s.hg.held, incs := mfilter (fun k => k / 1536 != buf) s.hg.incs
    curFrame := s.pw.frameNo, oldFrame := s.hg.curFrame } }

theorem bufferTaken_frame (buf : Nat) (ctx : SMap Ctx) (s : State) : Frame [.hg] s (bufferTaken buf ctx s) := .of

theorem hgBegin_eq (s : State) : ∃ ctx, hgBegin s = bufferTaken (1 - s.hg.buf) ctx (hgTooLate (1 - s.hg.buf) s) := ⟨_, rfl⟩

theorem hgBegin_frame (s : State) : Frame [.hg] s (hgBegin s) := by
  obtain ⟨ctx, h⟩ := hgBegin_eq s
  rw [h]
  exact (hgTooLate_frame ..).trans (bufferTaken_frame ..)

theorem hgBegin_stored (s : State) : stored (hgBegin s) = (mfilter (fun k => k / 0xC0000 != 1 - s.hg.buf) s.hg.bins, 1 - s.hg.buf,
    s.hg.relBuf, s.hg.relDue, s.hg.relStep, s.hg.relFrame) := by
  obtain ⟨ctx, h⟩ := hgBegin_eq s
  have ht := hgTooLate_stored (1 - s.hg.buf) s
  have hb (b : Nat) (v : State) : stored (bufferTaken b ctx v) = (mfilter (fun k => k / 0xC0000 != b) (stored v).1, b, (stored v).2.2) := rfl
  rw [h, hb, ht]
  rfl

/-- Step `k` has its list and the phase computed for it. -/
def stepTaken (k : Nat) (s : State) : State :=
  { s with ex := { s.ex with
    step := k, open_ := true, begun := k + 1, list := if s.ex.takenOk then s.ex.taken else []
    todo := if s.ex.takenOk then s.ex.taken else [], bursts := [], taken := [], takenOk := false, missed := false
    listPrev := s.ex.list, burstsPrev := s.ex.bursts, phase := s.ex.nextPhase, hop := s.ex.nextHop, j := s.ex.nextJ } }

theorem stepTaken_frame (k : Nat) (s : State) : Frame [.ex] s (stepTaken k s) := .of

/-- The engines are cut, and the charge of the step that ended is booked. -/
def stepCharged (k : Nat) (s : State) : State := if k = 0 then enginesCut s else chargeStep (enginesCut s)

theorem stepCharged_frame (k : Nat) (s : State) : Frame engineParts s (stepCharged k s) := by
  unfold stepCharged
  split
  · exact enginesCut_frame s
  · exact (enginesCut_frame s).trans (chargeStep_frame _)

theorem stepCharged_stored (k : Nat) (s : State) : stored (stepCharged k s) = stored s := by
  unfold stepCharged
  split
  · exact enginesCut_stored s
  · exact (chargeStep_frame _).stored.trans (enginesCut_stored s)

/-- Step `k` is counted and has its list. -/
def stepCounted (k : Nat) (s : State) : State := stepCount (angleTdc (stepCharged k s) k) (stepTaken k (stepCharged k s))

theorem stepBegin_eq (k : Nat) (s : State) : stepBegin k s = snapStep (hgBegin (stepCounted k s)) := rfl

theorem stepBegin_stored (k : Nat) (s : State) : stored (stepBegin k s) = (mfilter (fun i => i / 0xC0000 != 1 - s.hg.buf) s.hg.bins,
    1 - s.hg.buf, s.hg.relBuf, s.hg.relDue, s.hg.relStep, s.hg.relFrame) := by
  have h : stored (stepCounted k s) = stored s :=
    (stepCount_frame ..).stored.trans ((stepTaken_frame k _).stored.trans (stepCharged_stored k s))
  have hb (v : State) (w : SMap Nat × Nat × Nat × BitVec 4 × Nat × BitVec 32) (he : stored v = w) :
      stored (hgBegin v) = (mfilter (fun i => i / 0xC0000 != 1 - w.2.1) w.1, 1 - w.2.1, w.2.2) := he ▸ hgBegin_stored v
  rw [stepBegin_eq]
  exact (snapStep_stored _).trans (hb _ _ h)

/-- What the record of the sequencer shows of a step that has begun. -/
theorem stepBegin_ex (k : Nat) (s : State) : (stepBegin k s).ex.step = k ∧ (stepBegin k s).ex.open_ = true ∧
    (stepBegin k s).ex.stepAt = s.sys.now ∧ (stepBegin k s).ex.taken = [] ∧ (stepBegin k s).ex.takenOk = false ∧
    (stepBegin k s).ex.list = if s.ex.takenOk then s.ex.taken else [] := by
  have hx : (stepBegin k s).ex = (stepCounted k s).ex := by
    rw [stepBegin_eq]
    exact ((hgBegin_frame _).trans (snapStep_frame _) (r := [.hg])).same .ex
  have hc : (stepCharged k s).ex = s.ex := (stepCharged_frame k s).same .ex
  have hs : (stepTaken k (stepCharged k s)).sys = s.sys := (stepCharged_frame k s).same .sys
  have hn : (stepTaken k (stepCharged k s)).sys.now = s.sys.now := congrArg Sys.now hs
  rw [hx, stepCounted, stepCount_ex, hn]
  unfold stepTaken
  dsimp only
  rw [hc]
  exact ⟨rfl, rfl, rfl, rfl, rfl, rfl⟩

end Sys2Proof.Machine
end

section
/-! PROOF. O26: azimuth steps, releases and point-stream packets. -/

namespace Sys2Proof.Machine

-- One after another the proofs need less memory than all at once.
set_option Elab.async false

/-! ### Azimuth steps (R126) -/

theorem bget_quadrants (v : Variant) {q : Nat} (h : q < 4) : bget (BitVec.ofNat 4 (2 ^ quadrants v - 1)) q = decide (q < quadrants v) := by
  unfold bget
  cases v <;> interval_cases q <;> rfl

section
variable {s : State} {t : Nat}

theorem azimuthStepStart_begins (hd : s.pw.dp = .scanning) (hs : s.pw.scanned = true) (hp : pinScan s = false) (ho : s.ex.open_ = true)
    (hk : s.ex.step + 1 < stepsPerFrame s) (ha : angleDue s (s.ex.step + 1) = true) :
    azimuthStepStart s = stepBegin (s.ex.step + 1) (stepEnd s) := by
  unfold azimuthStepStart
  rw [hd]
  dsimp only
  rw [if_neg (by rw [hs, hp]; decide), if_pos ho, ha, decide_eq_true hk]
  rfl

theorem azimuthStepStart_stopped (hd : s.pw.dp = .scanning) (h : s.pw.scanned = false ∨ pinScan s = true) : azimuthStepStart s = s := by
  unfold azimuthStepStart
  rw [hd]
  dsimp only
  rw [if_pos]
  rcases h with h | h <;> simp [h]

theorem azimuthStepStart_waits (hd : s.pw.dp = .scanning) (ho : s.ex.open_ = true) (ha : angleDue s (s.ex.step + 1) = false) :
    azimuthStepStart s = s := by
  unfold azimuthStepStart
  rw [hd]
  dsimp only
  rw [if_pos ho, ha, Bool.and_false, if_neg Bool.false_ne_true, ite_self]

theorem azimuthStepStart_off (hd : s.pw.dp = .off) : azimuthStepStart s = s := by
  unfold azimuthStepStart
  rw [hd]

/-- The step in progress ends and step `k` begins. -/
theorem nextStep_says (k : Nat) (ho : s.ex.open_ = true) :
    let u := stepBegin k (stepEnd s)
    u.ex.step = k ∧ u.ex.open_ = true ∧ u.ex.stepAt = s.sys.now ∧ u.hg.buf = 1 - s.hg.buf ∧ u.hg.relBuf = s.hg.buf ∧
      u.hg.relStep = s.ex.step ∧ u.hg.relFrame = s.pw.frameNo ∧ (∀ q, q < 4 → bget u.hg.relDue q = qPresent s q) ∧ u.ex.taken = [] ∧
      u.ex.takenOk = false ∧ u.ex.list = (if s.ex.takenOk then s.ex.taken else []) ∧
      ∀ k, hgBin u k = if k / 0xC0000 = 1 - s.hg.buf then 0 else hgBin s k := by
  obtain ⟨h1, h2, h3, h4, h5, h6⟩ := stepBegin_ex k (stepEnd s)
  have hsys : (stepEnd s).sys = s.sys := (stepEnd_frame s).same .sys
  have hq := stepEnd_sequencer ho
  have htok : (stepEnd s).ex.takenOk = s.ex.takenOk := (congrArg Ex.takenOk hq :)
  have htak : (stepEnd s).ex.taken = s.ex.taken := (congrArg Ex.taken hq :)
  have hst := stepBegin_stored k (stepEnd s)
  obtain ⟨hb, hbuf, hrb, hrd, hrs, hrf⟩ := stored_says (stepEnd_stored ho)
  rw [hsys] at h3
  rw [htok, htak] at h6
  rw [hb, hbuf, hrb, hrd, hrs, hrf] at hst
  obtain ⟨gb, gbuf, grb, grd, grs, grf⟩ := stored_says hst
  refine ⟨h1, h2, h3, gbuf, grb, grs, grf, fun q hq => ?_, h4, h5, h6, fun i => ?_⟩
  · rw [grd]
    exact bget_quadrants _ hq
  · unfold hgBin
    rw [gb, mget_mfilter]
    by_cases hi : i / 0xC0000 = 1 - s.hg.buf
    · rw [if_pos hi, if_neg (by rw [hi]; simp)]
    · rw [if_neg hi, if_pos (bne_iff_ne.2 hi)]

end

/-! ### Releases (R168, R190) -/

theorem neLoaded_congr {v w : State} (h : v.cf = w.cf) (q : Nat) : neLoaded v q = neLoaded w q := by
  unfold neLoaded cfgQN cfgQI
  rw [h]

theorem neLen_congr {v w : State} (h : v.cf = w.cf) (q : Nat) : neLen v q = neLen w q := by
  unfold neLen
  rw [neLoaded_congr h]
  unfold cfgQN cfgQI
  rw [h]

/-- The engine holds the step whose buffer has been released. -/
def neStarted (q : Nat) (s : State) : State :=
  nePut q { neGet s q with
    run := true, group := 0, cyc := 0, buf := s.hg.relBuf, step := s.hg.relStep, stime := s.hg.relStime, frame := s.hg.relFrame
    lastStep := decide (s.hg.relStep + 1 = stepsPerFrame (viewFrame s.hg.relFrame s)) } s

theorem neStart_eq (q : Nat) (s : State) : neStart q s =
    if neLoaded (viewFrame s.hg.relFrame s) q && neLen (viewFrame s.hg.relFrame s) q == 0 then noProgram q (neStarted q s)
    else groupStart q 0 (neStarted q s) := rfl

theorem neStarted_frame (q : Nat) (s : State) : Frame [.ne] s (neStarted q s) := nePut_frame ..

theorem neStart_stored (q : Nat) (s : State) : stored (neStart q s) = stored s := by
  rw [neStart_eq]
  split
  · exact (noProgram_stored ..).trans (neStarted_frame ..).stored
  · exact (groupStart_stored ..).trans (neStarted_frame ..).stored

section
variable {s : State} {q : Nat}

/-- An engine with a program, whose budget exceeds a group's start, runs its first group. -/
theorem neStart_runs (h : neLoaded (viewFrame s.hg.relFrame s) q = false ∨ neLen (viewFrame s.hg.relFrame s) q ≠ 0)
    (hb : 8 < neBudget (viewFrame s.hg.relFrame s) q) :
    let u := neStart q s
    (neGet u q).run = true ∧ (neGet u q).group = 0 ∧ (neGet u q).pc = 0 ∧ (neGet u q).cyc = 8 ∧ (neGet u q).step = s.hg.relStep ∧
      (neGet u q).frame = s.hg.relFrame ∧ (neGet u q).buf = s.hg.relBuf := by
  have hx : neGet (neStarted q s) q = _ := neGet_nePut_same ..
  have hc : (neGet (neStarted q s) q).cyc = 0 := by rw [hx]
  have hf : (neGet (neStarted q s) q).frame = s.hg.relFrame := by rw [hx]
  have hbud : neBudget (viewFrame (neGet (neStarted q s) q).frame (neStarted q s)) q = neBudget (viewFrame s.hg.relFrame s) q := by
    rw [hf]
    exact nePut_budget ..
  have hg := (groupStart_goes (g := 0) (by rw [hbud, hc]; exact hb : (neGet (neStarted q s) q).cyc + 8 < _)).2
  have he : neStart q s = groupStart q 0 (neStarted q s) := by
    rw [neStart_eq, if_neg]
    rcases h with h | h <;> simp [h]
  intro u
  have hu : neGet u q = _ := (congrArg (neGet · q) he).trans hg
  rw [hu, hx]
  exact ⟨rfl, rfl, rfl, rfl, rfl, rfl, rfl⟩

/-- An engine without a program has ended its step. -/
theorem neStart_idle (hl : neLoaded (viewFrame s.hg.relFrame s) q = true) (hn : neLen (viewFrame s.hg.relFrame s) q = 0) :
    (neGet (neStart q s) q).run = false := by
  rw [neStart_eq, if_pos (by rw [hl, hn]; rfl)]
  exact neStepDone_run ..

end

theorem interfereCheck_frame (s : State) : Frame [.ac, .ed] s (interfereCheck s) := by
  unfold interfereCheck
  split
  · exact Frame.trans (l := [.ac]) .of (raise_frame ..)
  · exact .refl ..

theorem frameReleased_frame (s : State) : Frame [.ac, .ed] s (frameReleased s) := by
  unfold frameReleased
  split
  · exact interfereCheck_frame s
  · exact .refl ..

theorem snapRelease_frame (q : Nat) (s : State) : Frame [.hg] s (snapRelease q s) := by
  unfold snapRelease
  dsimp only
  split
  · exact snapPut_frame ..
  · exact .refl ..

theorem snapRelease_stored (q : Nat) (s : State) : stored (snapRelease q s) = stored s := by
  unfold snapRelease
  dsimp only
  split
  · exact snapPut_stored ..
  · rfl

/-- Quadrant `q` has got its buffer. -/
def quadrantReleased (q : Nat) (s : State) : State := { s with hg := { s.hg with relDue := bset s.hg.relDue q false } }

/-- The snapshot and the interference of the release are seen to before the engine starts. -/
def releaseSeen (q : Nat) (s : State) : State := snapRelease q (frameReleased (quadrantReleased q s))

theorem releaseSeen_frame (q : Nat) (s : State) : Frame [.hg, .ac, .ed] s (releaseSeen q s) :=
  (Frame.trans (l := [.hg]) (.of) (frameReleased_frame (quadrantReleased q s)) (r := [.hg, .ac, .ed])).trans (snapRelease_frame ..)

theorem releaseSeen_stored (q : Nat) (s : State) : stored (releaseSeen q s) =
    (s.hg.bins, s.hg.buf, s.hg.relBuf, bset s.hg.relDue q false, s.hg.relStep, s.hg.relFrame) :=
  (snapRelease_stored ..).trans (frameReleased_frame (quadrantReleased q s)).stored

section
variable {s v : State} {q : Nat} (hv : v.cf = (viewFrame s.hg.relFrame s).cf)
include hv

/-- What a release to quadrant `q` does, the configuration of its frame being that of `v`. -/
theorem release_says : let u := neStart q (releaseSeen q s)
    u.hg.relDue = bset s.hg.relDue q false ∧ u.hg.bins = s.hg.bins ∧
      (neLoaded v q = false ∨ neLen v q ≠ 0 → 8 < neBudget v q → (neGet u q).run = true ∧ (neGet u q).group = 0 ∧ (neGet u q).pc = 0 ∧
        (neGet u q).cyc = 8 ∧ (neGet u q).step = s.hg.relStep ∧ (neGet u q).frame = s.hg.relFrame ∧ (neGet u q).buf = s.hg.relBuf) ∧
      (neLoaded v q = true → neLen v q = 0 → (neGet u q).run = false) := by
  have hst := releaseSeen_stored q s
  have hu := (neStart_stored q (releaseSeen q s)).trans hst
  have hfr := releaseSeen_frame q s
  generalize releaseSeen q s = w at hst hu hfr ⊢
  obtain ⟨-, -, hb, -, hsp, hf⟩ := stored_says hst
  obtain ⟨hbins, -, -, hdue, -, -⟩ := stored_says hu
  have hvw : v.cf = (viewFrame w.hg.relFrame w).cf := by
    rw [hf]
    exact hv.trans (viewFrame_cf (hfr.same .cf) (hfr.same .pw) _).symm
  refine ⟨hdue, hbins, fun hl hbud => ?_, fun hl hn => ?_⟩
  · rw [neLoaded_congr hvw, neLen_congr hvw] at hl
    rw [neBudget_congr (congrArg Cf.eff hvw)] at hbud
    have hr := neStart_runs hl hbud
    rw [hf, hsp, hb] at hr
    exact hr
  · rw [neLoaded_congr hvw] at hl
    rw [neLen_congr hvw] at hn
    exact neStart_idle hl hn

end

theorem bufferRelease_eq {s : State} {q : Nat} (hd : bget s.hg.relDue q = true) (hq : qPresent s q = true) (ha : s.hg.relAt ≤ s.sys.now) :
    bufferRelease q s = neStart q (releaseSeen q s) :=
  if_pos (Bool.and_eq_true_iff.2 ⟨Bool.and_eq_true_iff.2 ⟨hd, hq⟩, decide_eq_true ha⟩)

theorem bufferRelease_starts {s : State} {t : Nat} {q : Fin 4} (hd : bget s.hg.relDue q = true) (hq : qPresent s q = true)
    (ha : s.hg.relAt ≤ (advance t s).sys.now) :
    let v := viewFrame s.hg.relFrame s
    Answers (.bufferRelease t q) s fun u => Kept u s ∧ u.hg.relDue = bset s.hg.relDue q false ∧ u.hg.bins = s.hg.bins ∧
      (neLoaded v q = false ∨ neLen v q ≠ 0 → 8 < neBudget v q → (neGet u q).run = true ∧ (neGet u q).group = 0 ∧ (neGet u q).pc = 0 ∧
        (neGet u q).cyc = 8 ∧ (neGet u q).step = s.hg.relStep ∧ (neGet u q).frame = s.hg.relFrame ∧ (neGet u q).buf = s.hg.relBuf) ∧
      (neLoaded v q = true → neLen v q = 0 → (neGet u q).run = false) := by
  have hk : Kept (bufferRelease q (advance t s)) s := (bufferRelease_guarded ..).trans (advance_guarded ..)
  have he := bufferRelease_eq (s := advance t s) hd hq ha
  rw [he] at hk
  have hv : (viewFrame s.hg.relFrame s).cf = (viewFrame (advance t s).hg.relFrame (advance t s)).cf :=
    (viewFrame_cf (advance_cf t s) (advance_pw t s) _).symm
  exact ⟨_, congrArg Host.Outcome.next he, hk, release_says hv⟩

theorem bufferRelease_not {s : State} {t : Nat} {q : Fin 4} (h : bget s.hg.relDue q = false ∨ (advance t s).sys.now < s.hg.relAt) :
    Answers (.bufferRelease t q) s fun u => u = advance t s := by
  refine ⟨_, congrArg Host.Outcome.next (if_neg fun hc => ?_), rfl⟩
  obtain ⟨hc, ht⟩ := Bool.and_eq_true_iff.1 hc
  obtain ⟨hd, -⟩ := Bool.and_eq_true_iff.1 hc
  rcases h with h | h
  · exact Bool.noConfusion (h.symm.trans hd)
  · exact absurd (of_decide_eq_true ht) (Nat.not_le.2 h)

theorem qPresent_advance (t : Nat) (s : State) (q : Nat) : qPresent (advance t s) q = qPresent s q := rfl
theorem hgBin_advance (t : Nat) (s : State) (k : Nat) : hgBin (advance t s) k = hgBin s k := rfl

theorem azimuthStep_begins {s : State} {t : Nat} (hd : s.pw.dp = .scanning) (hs : s.pw.scanned = true) (hp : pinScan s = false)
    (ho : s.ex.open_ = true) (hk : s.ex.step + 1 < stepsPerFrame s) (ha : angleDue (advance t s) (s.ex.step + 1) = true) :
    Answers (.azimuthStepStart t) s fun u => Kept u s ∧ u.ex.step = s.ex.step + 1 ∧ u.ex.open_ = true ∧
      u.ex.stepAt = (advance t s).sys.now ∧ u.hg.buf = 1 - s.hg.buf ∧ u.hg.relBuf = s.hg.buf ∧ u.hg.relStep = s.ex.step ∧
      u.hg.relFrame = s.pw.frameNo ∧ (∀ q, q < 4 → bget u.hg.relDue q = qPresent s q) ∧ u.ex.taken = [] ∧ u.ex.takenOk = false ∧
      u.ex.list = (if s.ex.takenOk then s.ex.taken else []) ∧
      ∀ k, hgBin u k = if k / 0xC0000 = 1 - s.hg.buf then 0 else hgBin s k := by
  have hkept : Kept (azimuthStepStart (advance t s)) s := (azimuthStepStart_guarded ..).trans (advance_guarded ..)
  have he : azimuthStepStart (advance t s) = stepBegin (s.ex.step + 1) (stepEnd (advance t s)) := azimuthStepStart_begins hd hs hp ho hk ha
  have h := nextStep_says (s := advance t s) (s.ex.step + 1) ho
  rw [he] at hkept
  generalize stepBegin (s.ex.step + 1) (stepEnd (advance t s)) = u at h he hkept
  obtain ⟨h1, h2, h3, h4, h5, h6, h7, h8, h9, h10, h11, h12⟩ := h
  refine ⟨_, congrArg Host.Outcome.next he, hkept, h1, h2, h3, h4, h5, h6, h7, fun q hq => (h8 q hq).trans (qPresent_advance ..), h9, h10,
    h11, fun k => ?_⟩
  rw [h12, hgBin_advance, advance_hg]

/-! ### Packets on a lane (R271) -/

theorem laneGet_lanePut_same (l : Fin 2) (x : Lps) (s : State) : laneGet (lanePut l x s) l = x := by
  fin_cases l <;> rfl

theorem laneGet_lanePut_other {l k : Fin 2} (h : k ≠ l) (x : Lps) (s : State) : laneGet (lanePut l x s) k = laneGet s k := by
  have hlk : l = 0 ∧ k = 1 ∨ l = 1 ∧ k = 0 := by omega
  obtain ⟨rfl, rfl⟩ | ⟨rfl, rfl⟩ := hlk
  · rfl
  · rfl

theorem lanePut_asm (l : Nat) (x : Lps) (s : State) : (lanePut l x s).ps.asm = s.ps.asm := by
  unfold lanePut
  split <;> rfl

theorem packetSent_sends {s : State} {l : Fin 2} {p : Nat × List Byte} {rest : List (Nat × List Byte)} (h : (laneGet s l).queue = p :: rest) :
    packetSent l s = lanePut l { laneGet s l with
      queue := rest, fill := (laneGet s l).fill - p.1, wire := (wireOf (p.1 != p.2.length + 16) p.2 (laneGet s l).rd).1
      rd := (wireOf (p.1 != p.2.length + 16) p.2 (laneGet s l).rd).2, up := (laneGet s l).up && !(laneGet s l).ending, ending := false } s := by
  unfold packetSent
  dsimp only
  rw [h]

theorem psPacketSent_leaves {s : State} {l : Fin 2} {p : Nat × List Byte} {rest : List (Nat × List Byte)}
    (h : (laneGet s l).queue = p :: rest) : Answers (.psPacketSent l) s fun u => Kept u s ∧ u.ps.asm = s.ps.asm ∧
      (laneGet u l).queue = rest ∧ (laneGet u l).fill = (laneGet s l).fill - p.1 ∧ (∀ k : Fin 2, k ≠ l → laneGet u k = laneGet s k) ∧
      (laneGet u l).up = ((laneGet s l).up && !(laneGet s l).ending) ∧
      (laneGet u l).wire = (wireOf (p.1 != p.2.length + 16) p.2 (laneGet s l).rd).1 := by
  have hk : Kept (packetSent l s) s := packetSent_guarded ..
  have he := packetSent_sends h
  rw [he] at hk
  refine ⟨_, congrArg Host.Outcome.next he, hk, lanePut_asm .., ?_⟩
  rw [laneGet_lanePut_same]
  exact ⟨rfl, rfl, fun k hk => laneGet_lanePut_other hk .., rfl, rfl⟩

theorem psPacketSent_none {s : State} {l : Fin 2} (h : (laneGet s l).queue = []) : Answers (.psPacketSent l) s fun u => u = s := by
  refine ⟨_, congrArg Host.Outcome.next (?_ : packetSent l s = s), rfl⟩
  unfold packetSent
  dsimp only
  rw [h]

/-- Settles O26: it holds. -/
theorem stepsReleasesAndPackets : Obligations.StepsReleasesAndPackets := by
  unfold Obligations.StepsReleasesAndPackets
  refine ⟨fun s t q => ⟨?begins, ?stopped, ?waits, ?off, ?release, bufferRelease_not⟩, fun s l => ⟨fun p rest => psPacketSent_leaves, psPacketSent_none⟩⟩
  case begins => exact fun hd hs hp ho hk _ ha => azimuthStep_begins hd hs hp ho hk ha
  case stopped => exact fun hd h => ⟨_, congrArg Host.Outcome.next (azimuthStepStart_stopped (s := advance t s) hd h), rfl⟩
  case waits => exact fun hd ho ha => ⟨_, congrArg Host.Outcome.next (azimuthStepStart_waits (s := advance t s) hd ho ha), rfl⟩
  case off => exact fun hd => ⟨_, congrArg Host.Outcome.next (azimuthStepStart_off (s := advance t s) hd), rfl⟩
  case release => exact fun hd hq ha => bufferRelease_starts hd hq ha

end Sys2Proof.Machine
end

section
/-! PROOF. Boundaries: what the end of a frame leaves unchanged (chapter 1). -/

namespace Sys2Proof.Machine

-- One after another the proofs need less memory than all at once.
set_option Elab.async false

/-! ### The frame that closes: emitters, planner, zones, channels -/

theorem planLate_frame (s : State) : Frame [.fp] s (planLate s) := by
  unfold planLate
  split
  · exact .of
  · exact .refl ..

theorem countsTaken_frame (s : State) : Frame [.ex] s { s with ex := { s.ex with cnt := [] } } := .of

theorem latchEmitters_frame (s : State) : Frame [.ed, .res, .regs, .ex] s (latchEmitters s) := by
  unfold latchEmitters
  refine Frame.trans (l := [.ed, .res, .regs]) (l' := [.ex]) (.foldl (fun s e => ?_) _ s) (countsTaken_frame _)
  split
  · exact post_frame ..
  · exact .refl ..

theorem fcClear_frame (w : BitVec 16) (s : State) : Frame tripParts s (fcClear w s) := by
  unfold fcClear
  extract_lets was g u v
  have hu : Frame [.gov] s u := .of
  have hv : Frame tripParts u v := .foldl (fun s n => by
    split
    · exact fcSet_frame ..
    · exact .refl ..) _ _
  clear_value u v
  exact (hu.trans hv (r := tripParts)).trans (edSync_frame ..)

theorem shortRuns_frame (s : State) : Frame [.fp] s (shortRuns s) := .of

theorem postPlanner_frame (s : State) : Frame [.ed, .res, .regs, .fp] s (postPlanner s) := by
  unfold postPlanner
  dsimp only
  exact (post_frame ..).trans (Frame.of (l := [.fp]))

theorem closePlanner_frame (s : State) : Frame [.ed, .res, .regs, .fp] s (closePlanner s) := by
  unfold closePlanner
  dsimp only
  refine Frame.trans (l := [.ed, .fp]) ?_ (postPlanner_frame _)
  split
  · exact (shortRuns_frame s).trans (raiseIf_frame ..)
  · exact .refl ..

theorem closeSpend_frame (s : State) : Frame [.sup] s (closeSpend s) := .of

theorem closeCounts_frame (s : State) : Frame [.fp, .ed, .res, .regs, .ex, .gov, .sup] s (closeCounts s) := by
  unfold closeCounts
  refine Frame.trans (l := [.fp, .ed, .res, .regs, .ex, .gov, .sup]) ?_ (closeSpend_frame _)
  refine Frame.trans (l := [.fp, .ed, .res, .regs, .ex, .gov, .sup]) ?_ (closePlanner_frame _)
  refine Frame.trans (l := [.fp, .ed, .res, .regs, .ex]) ?_ (fcClear_frame ..)
  exact (planLate_frame s).trans (latchEmitters_frame _)

theorem observeBoundary_frame (s : State) : Frame channelParts s (observeBoundary s) := by
  unfold observeBoundary
  split
  · exact bothC_frame (fun c s => setC_frame ..) s
  · exact .refl ..

theorem evalEcho_frame (v : State) (x : QEcho) (s : State) : Frame [.ze] s (evalEcho v x s) := by
  unfold evalEcho
  split
  · exact .of
  · dsimp only
    refine Frame.trans (l := [.ze]) (l' := [.ze]) ?_ (.foldl (fun s z => ?_) _ _)
    · exact .of
    · unfold zoneHit
      split
      · exact .of
      · exact .of

theorem evalPoint_frame (v : State) (x : QPoint) (s : State) : Frame [.ze] s (evalPoint v x s) := by
  unfold evalPoint evalNp
  split
  · exact .foldl (fun s w => .foldl (fun s z => .of) _ s) _ s
  · exact .refl ..

theorem drainFrame_frame (f : BitVec 32) (s : State) : Frame [.ze] s (drainFrame f s) := by
  unfold drainFrame
  extract_lets es ps v z u
  have hu : Frame [.ze] s u := .of
  clear_value u
  exact (hu.trans (.foldl (fun s x => evalEcho_frame v x s) es u) (r := [.ze])).trans (.foldl (fun s x => evalPoint_frame v x s) ps _)

theorem zeSet_frame (z : Ze) (s : State) : Frame [.ze] s { s with ze := z } := .of

theorem znUpd_frame (z : Nat) (f : Zn → Zn) (s : State) : Frame [.ze] s (znUpd z f s) := .of

theorem floorTest_frame (v s : State) : Frame [.ze] s (floorTest v s) := by
  unfold floorTest
  refine .foldl (fun s e => ?_) _ s
  split
  · exact .foldl (fun _ _ => znUpd_frame ..) _ _
  · exact .refl ..

theorem latchZones_frame (f : BitVec 32) (s : State) : Frame [.ze] s (latchZones f s) := by
  unfold latchZones
  dsimp only
  exact ((drainFrame_frame f s).trans (floorTest_frame _ _) (r := [.ze])).trans (zeSet_frame ..)

/-- A complete scanned frame waits for its latch. -/
def latchWaits (s : State) : State :=
  let sys := s.sys
  { s with
    ze := { s.ze with latchDue := true, latchFrame := s.pw.frameNo, latchAt := s.sys.now }
    sys := { sys with frameMs := if sys.frameDone then sys.frameMs else bootMs s, frameDone := true } }

theorem latchWaits_frame (s : State) : Frame [.ze, .sys] s (latchWaits s) := .of

theorem closeScanned_eq (s : State) : closeScanned s =
    if s.pw.scanned && !s.pw.abandoned then latchWaits (if s.ze.latchDue then latchZones s.ze.latchFrame s else s) else s := rfl

theorem closeScanned_frame (s : State) : Frame [.ze, .sys] s (closeScanned s) := by
  rw [closeScanned_eq]
  split
  · refine Frame.trans (l := [.ze]) ?_ (latchWaits_frame _)
    split
    · exact latchZones_frame ..
    · exact .refl ..
  · exact .refl ..

/-! ### Receive and histogram counters -/

theorem dropCounts_frame (s : State) : Frame [.hg, .rx] s (dropCounts s) := .of

theorem rxClose_frame (s : State) : Frame [.rx, .rq] s (rxClose s) := by
  unfold rxClose
  split
  · exact Frame.trans (l := [.rx]) (l' := [.rq]) (.foldl (fun s ch => .of) _ s) (.foldl (fun s q => .of) _ _)
  · exact .refl ..

theorem hgClose_frame (s : State) : Frame [.hg, .ex] s (hgClose s) := .of

theorem postNominal_frame (s : State) : Frame [.ed, .res, .regs, .rx, .hg] s (postNominal s) := by
  unfold postNominal
  split
  · exact .foldl (fun s q => (postQuadrantRx_frame ..).trans (postHg_frame ..)) _ s
  · exact .refl ..

/-- What the closing of the receive and histogram counters may change. -/
abbrev receiveParts : List Part := [.ed, .res, .regs, .rx, .rq, .hg, .ex]

theorem closeReceive_frame (s : State) : Frame receiveParts s (closeReceive s) := by
  unfold closeReceive
  refine Frame.trans (l := receiveParts) ?_ (postNominal_frame _)
  refine Frame.trans (l := receiveParts) ?_ (hgClose_frame _)
  refine Frame.trans (l := [.hg, .rx]) ?_ (rxClose_frame _)
  split
  · exact dropCounts_frame s
  · exact .refl ..

/-! ### The whole frame -/

theorem keepPrev_frame (s : State) : Frame [.cf, .ex, .pw] s (keepPrev s) := .of

/-- What the end of a frame may change but the configuration and the power records. -/
abbrev closingParts : List Part :=
  [.ex, .hg, .rx, .fp, .ed, .res, .regs, .gov, .sup, .safA, .safB, .out, .ze, .sys, .rq]

/-- The frame ends, and the next has its configuration still to take. -/
def frameClosed (s : State) : State := closeReceive (closeScanned (observeBoundary (closeCounts (stepEnd s))))

theorem closeFrame_eq (s : State) : closeFrame s = keepPrev (frameClosed s) := rfl

theorem frameClosed_frame (s : State) : Frame closingParts s (frameClosed s) := by
  unfold frameClosed
  refine Frame.trans (l := closingParts) ?_ (closeReceive_frame _)
  refine Frame.trans (l := closingParts) ?_ (closeScanned_frame _)
  refine Frame.trans (l := closingParts) ?_ (observeBoundary_frame _)
  exact (stepEnd_frame s).trans (closeCounts_frame _)

theorem closeFrame_frame (s : State) : Frame (.cf :: .pw :: closingParts) s (closeFrame s) := (frameClosed_frame s).trans (keepPrev_frame _)

/-- The configuration in effect governs the records still to come of the frame that ends. -/
theorem closeFrame_cf (s : State) : (closeFrame s).cf = { s.cf with effPrev := s.cf.eff, mapPrev := s.cf.map, epochsPrev := s.cf.epochs } := by
  have h : (frameClosed s).cf = s.cf := (frameClosed_frame s).same .cf
  have hk (v : State) : (keepPrev v).cf = { v.cf with effPrev := v.cf.eff, mapPrev := v.cf.map, epochsPrev := v.cf.epochs } := rfl
  rw [closeFrame_eq, hk, h]

end Sys2Proof.Machine
end

section
/-! PROOF. Commits and assignments at a boundary: what the units do when the set in effect changes (R48). -/

namespace Sys2Proof.Machine

-- One after another the proofs need less memory than all at once.
set_option Elab.async false

/-! ### Zones, channels, sections -/

theorem zonesRefill_frame (old s : State) : Frame [.ze] s (zonesRefill old s) := by
  refine .foldl (fun s z => ?_) _ s
  split
  · exact znUpd_frame ..
  · exact znUpd_frame ..

theorem pairsChanged_frame (old s : State) : Frame channelParts s (pairsChanged old s) := by
  refine .foldl (fun s i => ?_) _ s
  split
  · exact .refl ..
  · exact bothC_frame (fun c s => setC_frame ..) s

theorem outputsChanged_frame (old s : State) : Frame channelParts s (outputsChanged old s) := by
  refine .foldl (fun s p => ?_) _ s
  split
  · exact bothC_frame (fun c s => openSwitch_frame ..) s
  · exact .refl ..

theorem disturb_frame (cause k : Nat) (s : State) : Frame [.ax, .ed] s (disturb cause k s) := (oneSection_disturb cause k s).shared.frame

theorem zonesAnew_frame (old : State) (k : Nat) (s : State) : Frame [.ax] s (zonesAnew old k s) := by
  unfold zonesAnew
  split
  · exact .refl ..
  · exact secSet_frame ..

theorem headFaulty_frame (h : Nat) (s : State) : Frame [.ax, .ed] s (headFaulty h s) := by
  have hset (x : Head) : Frame [.ax] s (hdSet h x s) := .of
  unfold headFaulty
  dsimp only
  split
  · exact (hset _).mono
  · exact (hset _).trans (disturbCps_sectionsOnly ..).frame

theorem headsOpen_frame (s : State) : Frame [.ax, .ed] s (headsOpen s) := .foldl (fun s h => headFaulty_frame h s) _ s

theorem tlSet_frame (l : Nat) (x : Tl) (s : State) : Frame [.ax] s (tlSet l x s) := by
  unfold tlSet
  split
  · exact .of
  · exact .of

theorem tlCommitted_frame (s : State) : Frame [.ax] s (tlCommitted s) := by
  refine .foldl (fun s l => ?_) _ s
  split
  · exact tlSet_frame ..
  · exact .refl ..

theorem sectionsChanged_frame (old s : State) : Frame [.ax, .ed] s (sectionsChanged old s) := by
  unfold sectionsChanged
  split
  · dsimp only
    refine Frame.trans (l := [.ax, .ed]) ?_ (secUpdateAll_sectionsOnly _).frame
    refine Frame.trans (l := [.ax, .ed]) ?_ (tlCommitted_frame _)
    refine Frame.trans (l := [.ax, .ed]) ?_ (headsOpen_frame _)
    refine .foldl (fun v k => ?_) _ s
    split
    · exact (disturb_frame ..).trans (zonesAnew_frame ..)
    · exact (zonesAnew_frame ..).mono
  · exact .refl ..

/-! ### Wake comparators, track front end, matrix -/

theorem wcChanged_frame (old s : State) : Frame [.wc] s (wcChanged old s) := by
  refine .foldl (fun s n => ?_) _ s
  split
  · exact .of
  · exact .refl ..

theorem tfBlank_frame (n a b : Nat) (s : State) : Frame [.tf] s (tfBlank n a b s) := by
  unfold tfBlank
  split
  · exact tfPut_frame ..
  · exact .refl ..

theorem tfDrydown_frame (n : Nat) (s : State) : Frame [.tf] s (tfDrydown n s) := by
  unfold tfDrydown
  exact (tfPut_frame ..).trans (tfBlank_frame ..)

theorem tfPinUpdate_frame (n : Nat) (s : State) : Frame [.tf] s (tfPinUpdate n s) := by
  unfold tfPinUpdate
  extract_lets x mask ext u
  have hu : Frame [.tf] s u := by
    unfold u
    split
    · split
      · exact tfBlank_frame ..
      · exact .refl ..
    · exact .refl ..
  clear_value u
  split
  · split
    · exact hu.trans (tfPut_frame ..)
    · exact hu
  · split
    · exact hu
    · exact hu.trans ((tfPut_frame ..).trans (tfBlank_frame ..) (r := [.tf]))

theorem tfPinUpdateAll_frame (s : State) : Frame [.tf] s (tfPinUpdateAll s) := .foldl (fun s n => tfPinUpdate_frame n s) _ s

theorem pinReleased_frame (r : Option Nat) (s : State) : Frame [.tf] s { s with tf := { s.tf with pinRel := r } } := .of

/-- A set switches channel `n` of the front end on or off, or changes its drive. -/
def tfSwitched (old : State) (n : Nat) (s : State) : State :=
  let i := 0x5000 + n
  let was := cfgF old i 1
  let is := cfgF s i 1
  if is && !was then tfStart n s
  else if was && !is then tfPut n { tfGet s n with excited := false, dry := [] } s
  else if is && [2, 3, 4].any (fun k => cfgB old i k != cfgB s i k) then tfDrydown n s else s

/-- A channel whose onset detector is off, or was, forgets its baseline. -/
def onsetKept (old : State) (n : Nat) (s : State) : State :=
  if cfgF s (0x5000 + n) 0xB && cfgF old (0x5000 + n) 0xB then s
  else tfPut n { tfGet s n with frozen := false, onRun := 0, quietSince := none, baseGot := false } s

/-- A set changes channel `n` of the front end. -/
def tfChannelCommitted (old s : State) (n : Nat) : State := onsetKept old n (tfGain n (tfSwitched old n s))

theorem tfSwitched_frame (old : State) (n : Nat) (s : State) : Frame [.tf] s (tfSwitched old n s) := by
  unfold tfSwitched
  dsimp only
  split
  · exact tfStart_frame ..
  split
  · exact tfPut_frame ..
  split
  · exact tfDrydown_frame ..
  · exact .refl ..

theorem onsetKept_frame (old : State) (n : Nat) (s : State) : Frame [.tf] s (onsetKept old n s) := by
  unfold onsetKept
  split
  · exact .refl ..
  · exact tfPut_frame ..

theorem tfChannelCommitted_frame (old s : State) (n : Nat) : Frame [.tf] s (tfChannelCommitted old s n) :=
  ((tfSwitched_frame old n s).trans (tfGain_frame ..) (r := [.tf])).trans (onsetKept_frame ..)

theorem tfCommitted_eq (old s : State) : tfCommitted old s = if tfRuns s then
    tfPinUpdateAll ((List.range 16).foldl (tfChannelCommitted old)
      { s with tf := { s.tf with pinRel := if tfPinActive old && !tfPinActive s then some s.sys.now else s.tf.pinRel } }) else s := rfl

theorem tfCommitted_frame (old s : State) : Frame [.tf] s (tfCommitted old s) := by
  rw [tfCommitted_eq]
  split
  · refine Frame.trans (l := [.tf]) ?_ (tfPinUpdateAll_frame _)
    exact (pinReleased_frame _ s).trans (.foldl (fun s n => tfChannelCommitted_frame ..) _ _)
  · exact .refl ..

theorem lmOff_frame (s : State) : Frame [.lm] s (lmOff s) := .of

theorem matrixCommitted_frame (s : State) : Frame [.lm] s (matrixCommitted s) := by
  unfold matrixCommitted
  extract_lets u
  have hu : Frame [.lm] s u := by
    unfold u
    split
    · exact .refl ..
    · exact lmOff_frame s
  clear_value u
  split
  · exact hu
  · exact hu.trans (Frame.of (l := [.lm]))

/-! ### Governor, bias, lanes, planner -/

theorem fcCommitted_frame (s : State) : Frame tripParts s (fcCommitted s) := .foldl (fun _ _ => fcSense_frame ..) _ s

theorem biasCommitted_frame (s : State) : Frame [.rq] s (biasCommitted s) := .of

theorem psKeep_frame (a : SMap (List Byte)) (p : SMap Nat) (r : SMap (List Byte)) (s : State) :
    Frame [.ps] s { s with ps := { s.ps with asm := a, pts := p, ready := r } } := .of

theorem psCommitted_frame (old s : State) : Frame [.ps] s (psCommitted old s) := by
  refine .foldl (fun s l => ?_) _ s
  split
  · exact .refl ..
  · exact (psKeep_frame ..).trans (laneStop_frame ..)

theorem plannerCommitted_frame (old s : State) : Frame [.fp, .sup, .ed] s (plannerCommitted old s) := by
  unfold plannerCommitted
  split
  · exact (plannerDerive_frame s).trans (raiseIf_frame ..)
  · exact .refl ..

/-! ### Everything that a set changes -/

/-- What the units may change when the set in effect changes. -/
abbrev unitParts : List Part := [.ze, .safA, .safB, .out, .ax, .ed, .wc, .tf, .pw, .sup, .gov, .ex, .rq, .lm, .ps, .zl, .ac, .fp, .mw]

/-- Zones, channels and sections follow a new set; `newMap` = it carries a map. -/
def zonesFollow (newMap : Bool) (s : State) : State :=
  { s with ze := { s.ze with unmapped := unmappedZones s, expanding := s.ze.expanding || (newMap && dpOn s) } }

/-- PLLS runs on only where a lane still wants it. -/
def pllsFollows (s : State) : State := { s with pw := { s.pw with pllS := s.pw.pllS && plsWanted s } }

def demandsFollow (s : State) : State := if s.sys.oper then bothC evalDemands s else s

def coordFollows (old s : State) : State := if adjacencyChanged old s then coordRun s else s

theorem zonesFollow_frame (b : Bool) (s : State) : Frame [.ze] s (zonesFollow b s) := .of

theorem pllsFollows_frame (s : State) : Frame [.pw] s (pllsFollows s) := .of

theorem demandsFollow_frame (s : State) : Frame channelParts s (demandsFollow s) := by
  unfold demandsFollow
  split
  · exact bothC_frame (fun c s => evalDemands_frame ..) s
  · exact .refl ..

theorem coordFollows_frame (old s : State) : Frame [.zl, .ac] s (coordFollows old s) := by
  unfold coordFollows
  split
  · exact coordRun_frame s
  · exact .refl ..

def safetyFollows (old s : State) : State := sectionsChanged old (outputsChanged old (pairsChanged old s))
def frontEndFollows (old s : State) : State := pllsFollows (tfCommitted old (wcChanged old s))
def lanesFollow (old s : State) : State :=
  linkCommitted (hfxFollow (psCommitted old (matrixCommitted (biasCommitted (fcCommitted s)))))
def planFollows (old s : State) : State := supplyCommitted (plannerCommitted old (accordCheck s))

theorem afterSet_eq (newMap : Bool) (old s : State) : afterSet newMap old s = coordFollows old (demandsFollow (planFollows old
    (lanesFollow old (frontEndFollows old (safetyFollows old (zonesFollow newMap (zonesRefill old s))))))) := by
  unfold afterSet
  extract_lets v1 _ v3 v4 v5 _ v7 v8 v9 v10 v11
  have h11 : demandsFollow v10 = v11 := rfl
  have h10 : planFollows old v9 = v10 := rfl
  have h9 : lanesFollow old v7 = v9 := rfl
  have h7 : frontEndFollows old v4 = v7 := rfl
  have h4 : safetyFollows old v3 = v4 := rfl
  have h3 : zonesFollow newMap v1 = v3 := rfl
  have h1 : zonesRefill old s = v1 := rfl
  clear_value v11 v10 v9 v8 v7 v5 v4 v3 v1
  rw [h1, h3, h4, h7, h9, h10, h11]
  rfl

theorem safetyFollows_frame (old s : State) : Frame [.safA, .safB, .out, .ax, .ed] s (safetyFollows old s) :=
  ((pairsChanged_frame old s).trans (outputsChanged_frame old _) (r := channelParts)).trans (sectionsChanged_frame old _)

theorem frontEndFollows_frame (old s : State) : Frame [.wc, .tf, .pw] s (frontEndFollows old s) :=
  ((wcChanged_frame old s).trans (tfCommitted_frame old _) (r := [.wc, .tf])).trans (pllsFollows_frame _)

theorem lanesFollow_frame (old s : State) : Frame [.sup, .gov, .ex, .ed, .rq, .lm, .ps, .pw, .zl] s (lanesFollow old s) := by
  refine Frame.trans (l := [.sup, .gov, .ex, .ed, .rq, .lm, .ps, .pw]) ?_ (linkCommitted_frame _)
  refine Frame.trans (l := [.sup, .gov, .ex, .ed, .rq, .lm, .ps]) ?_ (hfxFollow_frame _)
  refine Frame.trans (l := [.sup, .gov, .ex, .ed, .rq, .lm]) ?_ (psCommitted_frame old _)
  exact ((fcCommitted_frame s).trans (biasCommitted_frame _) (r := [.sup, .gov, .ex, .ed, .rq])).trans (matrixCommitted_frame _)

theorem planFollows_frame (old s : State) : Frame [.ac, .ed, .fp, .sup, .mw] s (planFollows old s) :=
  ((accordCheck_frame s).trans (plannerCommitted_frame old _) (r := [.ac, .ed, .fp, .sup])).trans (supplyCommitted_frame _)

theorem afterSet_frame (newMap : Bool) (old s : State) : Frame unitParts s (afterSet newMap old s) := by
  rw [afterSet_eq]
  refine Frame.trans (l := unitParts) ?_ (coordFollows_frame old _)
  refine Frame.trans (l := unitParts) ?_ (demandsFollow_frame _)
  refine Frame.trans (l := unitParts) ?_ (planFollows_frame old _)
  refine Frame.trans (l := unitParts) ?_ (lanesFollow_frame old _)
  refine Frame.trans (l := unitParts) ?_ (frontEndFollows_frame old _)
  exact ((zonesRefill_frame old s).trans (zonesFollow_frame newMap _) (r := [.ze])).trans (safetyFollows_frame old _)

/-! ### The commit and the assignment of a boundary (R45 to R48, R222) -/

/-- What a commit may change at a boundary. -/
abbrev commitParts : List Part := [.cf, .eff, .pend, .defaults, .res, .regs] ++ unitParts

/-- The configuration after a commit of `p`. -/
def cfApplied (p : Pend) (s : State) : Cf :=
  { s.cf with
    eff := (copyAfter p s).objs, map := (copyAfter p s).map, epochs := (copyAfter p s).epochs, safety := (copyAfter p s).safety
    count := (copyAfter p s).count, defaults := false, pend := none
    staged := s.cf.staged.filter fun e => mlook p.set e.1 != some e.2
    mapStage := if p.map.isSome then none else s.cf.mapStage }

/-- The set of a commit is in effect, and no unit has followed yet. -/
def setTaken (p : Pend) (s : State) : State :=
  { s with
    cf := cfApplied p s
    lm := { s.lm with configured := s.lm.configured || p.set.any fun e => keyIx e.1 == 0x5800 }
    ac := { s.ac with stopped := s.ac.stopped && !(p.set.any fun e => e.1 == okey 0x2600 0xC) } }

theorem setTaken_frame (p : Pend) (s : State) : Frame [.cf, .eff, .pend, .defaults, .lm, .ac] s (setTaken p s) := .of

theorem applyCommit_eq (p : Pend) (s : State) : applyCommit p s = afterSet p.map.isSome s (postCommit 0 (setTaken p s)) := rfl

theorem applyCommit_frame (p : Pend) (s : State) : Frame commitParts s (applyCommit p s) := by
  rw [applyCommit_eq]
  exact ((setTaken_frame p s).trans (postCommit_frame ..) (r := commitParts)).trans (afterSet_frame ..)

theorem commitFail_frame (st : Nat) (s : State) : Frame [.cf, .pend, .ed, .res, .regs] s (commitFail st s) :=
  Frame.trans (l := [.cf, .pend]) .of (postCommit_frame ..)

theorem commitAt_frame (n : BitVec 32) (sys : BitVec 64) (s : State) : Frame commitParts s (commitAt n sys s) := by
  unfold commitAt
  split
  · split
    · split
      · exact applyCommit_frame ..
      · exact (commitFail_frame ..).mono
    · exact .refl ..
  · exact .refl ..

/-- The staged assignment is in effect and in both copies. -/
def assignmentTaken (s : State) : State :=
  { s with
    ac := { s.ac with assign := s.ac.staged, staged := none, stale := false, applied := satAdd 16 s.ac.applied 1 }
    cf := { s.cf with copyA := { s.cf.copyA with assign := s.ac.staged }, copyB := { s.cf.copyB with assign := s.ac.staged } } }

theorem assignmentTaken_frame (s : State) : Frame [.ac, .cf, .copyA, .copyB] s (assignmentTaken s) := .of

theorem assignAt_eq (s : State) : assignAt s =
    if assignDue s s.sys.now s.sys.sysTime then afterSet false s (assignmentTaken s) else s := rfl

/-- What an assignment may change at a boundary. -/
abbrev assignParts : List Part := [.cf, .copyA, .copyB] ++ unitParts

theorem assignAt_frame (s : State) : Frame assignParts s (assignAt s) := by
  rw [assignAt_eq]
  split
  · exact (assignmentTaken_frame s).trans (afterSet_frame ..)
  · exact .refl ..

/-! ### The configuration that they leave -/

theorem postCommit_cf (st : Nat) (s : State) : (postCommit st s).cf = { s.cf with status := st } := (post_frame ..).same .cf

theorem applyCommit_cf (p : Pend) (s : State) : (applyCommit p s).cf = { cfApplied p s with status := 0 } := by
  rw [applyCommit_eq]
  exact ((afterSet_frame ..).same .cf).trans (postCommit_cf ..)

theorem commitFail_cf (st : Nat) (s : State) : (commitFail st s).cf = { s.cf with pend := none, status := st } := postCommit_cf ..

theorem assignAt_cf (s : State) : ∃ a b, (assignAt s).cf = { s.cf with copyA := a, copyB := b } := by
  rw [assignAt_eq]
  split
  · exact ⟨_, _, (afterSet_frame ..).same .cf⟩
  · exact ⟨_, _, rfl⟩

end Sys2Proof.Machine
end

section
/-! PROOF. Boundaries: the state, the grant and the sequencer of the frame that opens (R32, R63, R85 to R87). -/

namespace Sys2Proof.Machine

-- One after another the proofs need less memory than all at once.
set_option Elab.async false

/-! ### The state of the next frame (R85 to R87) -/

/-- What the state taken for the next frame may change. -/
abbrev takeParts : List Part := stopParts ++ [.safA, .safB, .out, .sess, .cf, .tf, .st, .dp, .zl, .ed, .sup, .lm]

theorem captureOff_frame (s : State) : Frame [.tf] s { s with tf := { s.tf with capState := 0, cap := [] } } := .of

theorem tfStopAll_frame (s : State) : Frame [.tf] s (tfStopAll s) :=
  Frame.trans (l := [.tf]) (.foldl (fun _ _ => tfPut_frame ..) _ s) (captureOff_frame _)

theorem stTaken_frame (n : Nat) (s : State) : Frame [.pw, .st] s { s with pw := { s.pw with st := n } } := .of

theorem standbyTaken_frame (s : State) : Frame [.pw, .st] s { s with pw := { s.pw with st := 2, standbyAt := some s.sys.now } } := .of

theorem chargeStopped_frame (full : Bool) (s : State) : Frame [.sup] s { s with sup := chargeOff full s.sup } := .of

theorem enterStandby_frame (s : State) : Frame takeParts s (enterStandby s) := by
  unfold enterStandby
  dsimp only
  refine Frame.trans (l := takeParts) ?_ (hfxFollow_frame _)
  refine Frame.trans (l := takeParts) ?_ (lmOff_frame _)
  refine Frame.trans (l := takeParts) ?_ (chargeStopped_frame false _)
  refine Frame.trans (l := takeParts) ?_ (linkDown_frame _)
  refine Frame.trans (l := takeParts) ?_ (standbyTaken_frame _)
  refine Frame.trans (l := takeParts) ?_ (tfStopAll_frame _)
  refine Frame.trans (l := takeParts) ?_ (endSession_frame _)
  exact (openBoth_frame s).trans (dpStop_frame _)

theorem takeState_frame (sel : Nat) (s : State) : Frame takeParts s (takeState sel s) := by
  unfold takeState
  split
  · exact (stTaken_frame ..).mono
  split
  · exact enterStandby_frame s
  split
  · dsimp only
    exact (dpRemove_frame s).trans (stTaken_frame ..)
  split
  · exact (stTaken_frame ..).mono
  · split
    · exact (stTaken_frame ..).mono
    · exact .refl ..
  · exact .refl ..
  · exact (stTaken_frame 3 s).trans (dpStart_frame _)
  · exact (stTaken_frame ..).mono

/-! ### Scanning does not start, and the mirror's faults stay -/

/-- From `s` to `u` the mirror's fault latches stay, and where it was not locked, or nothing was scanned, it is so still. -/
structure StaysOff (s u : State) : Prop where
  fault : u.mir.fault = s.mir.fault
  locked : s.mir.locked = false → u.mir.locked = false
  dp : s.pw.dp ≠ .scanning → u.pw.dp ≠ .scanning

theorem StaysOff.refl (s : State) : StaysOff s s := ⟨rfl, id, id⟩

theorem StaysOff.trans {s u v : State} (h : StaysOff s u) (h' : StaysOff u v) : StaysOff s v :=
  ⟨h'.fault.trans h.fault, fun hl => h'.locked (h.locked hl), fun hd => h'.dp (h.dp hd)⟩

theorem StaysOff.of_frame {l : List Part} {s u : State} (h : Frame l s u) (hm : Part.mir ∉ l := by decide) (hd : Part.dp ∉ l := by decide) :
    StaysOff s u := by
  have hm : u.mir = s.mir := h.same .mir hm
  have hd : u.pw.dp = s.pw.dp := h.same .dp hd
  exact ⟨by rw [hm], fun hl => by rw [hm, hl], fun hn => by rw [hd]; exact hn⟩

theorem dpStop_mir {s : State} (h : s.pw.dp ≠ .off) :
    (dpStop s).mir = { s.mir with lastMix := none, good := 0, locked := false, lastMenc := none, mencInt := 0, count := 0 } := by
  have hd : Frame [.ne, .fp, .hg, .ps, .ex, .rq] s (biasStop (stepVoid (psStop (snapAbandon true (neStopAll s))))) := by
    refine Frame.trans (l := [.ne, .fp, .hg, .ps, .ex]) ?_ (biasStop_frame _)
    refine Frame.trans (l := [.ne, .fp, .hg, .ps]) ?_ (stepVoid_frame _)
    refine Frame.trans (l := [.ne, .fp, .hg]) ?_ (psStop_frame _)
    exact (neStopAll_frame s).trans (snapAbandon_frame ..)
  have hm : (biasStop (stepVoid (psStop (snapAbandon true (neStopAll s))))).mir = s.mir := hd.same .mir
  unfold dpStop
  split
  · contradiction
  · refine ((hfxFollow_frame _).same .mir).trans ?_
    dsimp only [Part.get]
    rw [hm]

theorem dpStop_staysOff (s : State) : StaysOff s (dpStop s) := by
  by_cases h : s.pw.dp = .off
  · rw [dpStop_off h]
    exact .refl s
  · have hm := dpStop_mir h
    exact ⟨by rw [hm], fun _ => by rw [hm], fun _ => by rw [(dpStop_on h).1]; exact Dp.noConfusion⟩

theorem dpRemove_staysOff (s : State) : StaysOff s (dpRemove s) := by
  unfold dpRemove
  split
  · exact ⟨rfl, fun _ => rfl, fun _ => Dp.noConfusion⟩
  · exact dpStop_staysOff s

theorem dpStart_staysOff (s : State) : StaysOff s (dpStart s) := by
  unfold dpStart
  split
  · exact StaysOff.trans (u := { s with pw := { s.pw with dp := .starting } }) ⟨rfl, id, fun _ => Dp.noConfusion⟩
      (.of_frame (hfxFollow_frame _))
  · exact .refl s

theorem enterStandby_staysOff (s : State) : StaysOff s (enterStandby s) := by
  have h (v : State) : StaysOff v (hfxFollow (lmOff { v with sup := chargeOff false v.sup })) :=
    .of_frame (((chargeStopped_frame false v).trans (lmOff_frame _) (r := [.sup, .lm])).trans (hfxFollow_frame _) (r := [.sup, .lm, .pw]))
  have h' (v : State) : StaysOff v (linkDown { v with pw := { v.pw with st := 2, standbyAt := some v.sys.now } }) :=
    .of_frame ((standbyTaken_frame v).trans (linkDown_frame _) (r := [.pw, .st, .zl, .ed]))
  unfold enterStandby
  dsimp only
  refine StaysOff.trans (StaysOff.trans ?_ (h' _)) (h _)
  exact ((StaysOff.of_frame (openBoth_frame s)).trans (dpStop_staysOff _)).trans
    (.of_frame ((endSession_frame _).trans (tfStopAll_frame _) (r := [.sess, .cf, .tf])))

theorem takeState_staysOff (sel : Nat) (s : State) : StaysOff s (takeState sel s) := by
  unfold takeState
  split
  · exact .of_frame (stTaken_frame ..)
  split
  · exact enterStandby_staysOff s
  split
  · exact (dpRemove_staysOff s).trans (.of_frame (stTaken_frame ..))
  split
  · exact .of_frame (stTaken_frame ..)
  · split
    · exact .of_frame (stTaken_frame ..)
    · exact .refl s
  · exact .refl s
  · exact (StaysOff.of_frame (stTaken_frame 3 s)).trans (dpStart_staysOff _)
  · exact .of_frame (stTaken_frame ..)

/-! ### What the state taken leaves of the configuration -/

theorem endSession_cf_staged (s : State) : ∃ x m, (endSession s).cf = { s.cf with staged := x, mapStage := m } := by
  unfold endSession
  dsimp only
  (repeat' split) <;> exact ⟨_, _, rfl⟩

theorem enterStandby_cf (s : State) : ∃ x m, (enterStandby s).cf = { s.cf with staged := x, mapStage := m } := by
  have h (v : State) : (hfxFollow (lmOff { v with sup := chargeOff false v.sup })).cf = v.cf :=
    (((chargeStopped_frame false v).trans (lmOff_frame _) (r := [.sup, .lm])).trans (hfxFollow_frame _) (r := [.sup, .lm, .pw])).same .cf
  have h' (v : State) : (linkDown { v with pw := { v.pw with st := 2, standbyAt := some v.sys.now } }).cf = v.cf :=
    ((standbyTaken_frame v).trans (linkDown_frame _) (r := [.pw, .st, .zl, .ed])).same .cf
  have hs : (dpStop (openBoth s)).cf = s.cf := ((openBoth_frame s).trans (dpStop_frame _) (r := channelParts ++ stopParts)).same .cf
  obtain ⟨x, m, he⟩ := endSession_cf_staged (dpStop (openBoth s))
  refine ⟨x, m, ?_⟩
  unfold enterStandby
  dsimp only
  rw [h, h']
  exact ((tfStopAll_frame _).same .cf).trans (he.trans (by rw [hs]))

theorem takeState_cf (sel : Nat) (s : State) : ∃ x m, (takeState sel s).cf = { s.cf with staged := x, mapStage := m } := by
  by_cases h2 : sel = 2
  · have he : takeState sel s = enterStandby s := by
      unfold takeState
      rw [if_neg (by omega), if_pos h2]
    rw [he]
    exact enterStandby_cf s
  · refine ⟨s.cf.staged, s.cf.mapStage, ?_⟩
    unfold takeState
    rw [if_neg h2]
    (repeat' split)
    · rfl
    · exact (dpRemove_frame s).same .cf
    · rfl
    · rfl
    · rfl
    · rfl
    · exact (dpStart_frame _).same .cf
    · rfl

/-! ### The grant (R63, R64) -/

theorem chargeInteg_frame (mv : Nat) (s : State) : Frame [.sup] s (chargeInteg mv s) := .of

theorem chargeSet_frame (a b : Nat) (s : State) : Frame [.sup] s (chargeSet a b s) := by
  unfold chargeSet
  dsimp only
  split
  · exact .of
  · exact .of

/-- The supply's record with the grant of the next frame. -/
def supGranted (s : State) : Sup :=
  { s.sup with
    grant := min 0xFFFFFF (if s.sys.mgmtUp then grantRow s else (0, false, false)).1, whyPstate := s.pw.st, whyMissing := !s.sys.mgmtUp
    whyMains := (if s.sys.mgmtUp then grantRow s else (0, false, false)).2.1, whyRate := (if s.sys.mgmtUp then grantRow s else (0, false, false)).2.2
    eVinLast := s.sup.eFrame, eFrame := 0, eChg := 0 }

theorem issueGrant_eq (s : State) : issueGrant s =
    let u := { s with sup := supGranted s }
    if s.sys.mgmtUp then localEdge 18 (post 0x010200 u.sup.grant [] u) else u := rfl

theorem supGranted_frame (s : State) : Frame [.sup, .eFrame] s { s with sup := supGranted s } := .of

theorem issueGrant_posts (s : State) : Frame [.ed, .res, .regs] { s with sup := supGranted s } (issueGrant s) := by
  rw [issueGrant_eq]
  dsimp only
  split
  · exact (post_frame ..).trans (localEdge_frame ..)
  · exact .refl ..

theorem issueGrant_frame (s : State) : Frame [.sup, .eFrame, .ed, .res, .regs] s (issueGrant s) :=
  (supGranted_frame s).trans (issueGrant_posts s)

theorem issueGrant_sup (s : State) : (issueGrant s).sup = supGranted s := (issueGrant_posts s).same .sup

/-- The grant of the next frame, and the charge current of its energies. -/
theorem grantNext_frame (s : State) : Frame [.sup, .eFrame, .ed, .res, .regs] s (grantNext s) := by
  unfold grantNext
  dsimp only
  exact ((chargeInteg_frame s.sup.vhold s).trans (issueGrant_frame _) (r := [.sup, .eFrame, .ed, .res, .regs])).trans (chargeSet_frame ..)

/-- What of the supply's record the charger's current does not touch. -/
def granted (p : Sup) : Nat × Nat × Nat × Nat × Bool × Bool := (p.eFrame, p.eVinLast, p.grant, p.vstate, p.vldBad, p.whyMissing)

theorem chargeSet_granted (a b : Nat) (s : State) : granted (chargeSet a b s).sup = granted s.sup := by
  unfold chargeSet
  dsimp only
  split
  · rfl
  · rfl

theorem grantNext_granted (s : State) : granted (grantNext s).sup = granted (supGranted (chargeInteg s.sup.vhold s)) := by
  unfold grantNext
  dsimp only
  rw [chargeSet_granted, issueGrant_sup]

theorem grantRow_le (s : State) : (grantRow s).1 ≤ cfgN s 0x1200 6 := by
  unfold grantRow
  dsimp only
  (repeat' split)
  · exact Nat.zero_le _
  · exact Nat.min_le_left ..
  · exact Nat.min_le_left ..
  · exact Nat.min_le_left ..

theorem grantRow_none {s : State} (h : s.sup.vstate = 2 ∨ s.sup.vldBad = true) : (grantRow s).1 = 0 := by
  unfold grantRow
  dsimp only
  rw [if_pos h]

theorem supGranted_le (s : State) : (supGranted s).grant ≤ cfgN s 0x1200 6 := by
  unfold supGranted
  dsimp only
  split
  · exact (Nat.min_le_right ..).trans (grantRow_le s)
  · exact (Nat.min_le_right ..).trans (Nat.zero_le _)

theorem supGranted_none {s : State} (h : s.sup.vstate = 2 ∨ s.sup.vldBad = true) : (supGranted s).grant = 0 := by
  unfold supGranted
  dsimp only
  split
  · rw [grantRow_none h, Nat.min_zero]
  · rfl

theorem supGranted_missing {s : State} (h : s.sys.mgmtUp = false) : (supGranted s).grant = 0 ∧ (supGranted s).whyMissing = true := by
  unfold supGranted
  rw [h]
  exact ⟨rfl, rfl⟩

/-- What the grant of the next frame is. -/
theorem grantNext_says (s : State) : let u := grantNext s
    (u.sup.eFrame = 0 ∧ u.sup.eVinLast = s.sup.eFrame) ∧ u.sup.grant ≤ cfgN s 0x1200 6 ∧
      (u.sup.vstate = 2 ∨ u.sup.vldBad = true → u.sup.grant = 0) ∧ (s.sys.mgmtUp = false → u.sup.grant = 0 ∧ u.sup.whyMissing = true) := by
  have h := grantNext_granted s
  have hf := chargeInteg_frame s.sup.vhold s
  have he : (chargeInteg s.sup.vhold s).sup.eFrame = s.sup.eFrame := hf.same .eFrame
  have hm : (chargeInteg s.sup.vhold s).sys.mgmtUp = s.sys.mgmtUp := hf.same .mgmtUp
  have hc : (chargeInteg s.sup.vhold s).cf = s.cf := hf.same .cf
  generalize chargeInteg s.sup.vhold s = v at h he hm hc
  have hle := supGranted_le v
  have hnone := supGranted_none (s := v)
  have hmiss := supGranted_missing (s := v)
  have hv : (supGranted v).eFrame = 0 ∧ (supGranted v).eVinLast = v.sup.eFrame ∧ (supGranted v).vstate = v.sup.vstate ∧
    (supGranted v).vldBad = v.sup.vldBad := ⟨rfl, rfl, rfl, rfl⟩
  obtain ⟨v1, v2, v3, v4⟩ := hv
  simp only [granted, Prod.mk.injEq] at h
  obtain ⟨h1, h2, h3, h4, h5, h6⟩ := h
  intro u
  rw [cfgN_congr hc] at hle
  rw [h1, h2, h3, h4, h5, h6, v1, v2, v3, v4, he]
  rw [hm] at hmiss
  exact ⟨⟨rfl, rfl⟩, hle, hnone, hmiss⟩

/-! ### The frame that opens -/

theorem nextFrameNo_frame (s : State) : Frame [.pw, .frameNo, .frameSys, .lastB, .ex] s (nextFrameNo s) := .of

/-- What the opening of a frame leaves of the sequencer's record. -/
def stepAtHand (x : Ex) : Nat × Bool := (x.step, x.open_)

theorem classFill_frame (s : State) : Frame [.fp] s (classFill s) := .of

theorem laneOpened_frame (s : State) : Frame [.ps] s { s with ps := { s.ps with sync := s.zl.sync } } := .of

theorem headersWait_frame (s : State) : Frame [.ps] s { s with ps := { s.ps with hdrDue := true } } := .of

theorem psFrameStart_frame (b : Bool) (s : State) : Frame [.ps] s (psFrameStart b s) := by
  unfold psFrameStart
  dsimp only
  have h := (laneOpened_frame s).trans (.foldl (fun s l => laneUpd_frame l (laneOpen s l) s) (List.range 2) _) (r := [.ps])
  split
  · exact h.trans (headersWait_frame _)
  · exact h.trans (psHeaders_frame _)

/-- The next frame is scanned or not. -/
def scanTaken (s : State) : State := { s with pw := { s.pw with scanned := scanning s && scannedIn s s.pw.st s.pw.frameNo.toNat } }

/-- The plan of a scanned frame. -/
def planTaken (s : State) : State :=
  { s with fp := { s.fp with plan := planNext s s s.pw.st s.pw.firstScan, nextPlan := none }, pw := { s.pw with firstScan := false } }

/-- A frame that is not scanned has no step to charge and no list. -/
def notScanned (s : State) : State :=
  { s with fp := { s.fp with pend := none }, ex := { s.ex with taken := [], takenOk := false, missed := false } }

theorem scanTaken_frame (s : State) : Frame [.pw] s (scanTaken s) := .of

theorem planTaken_frame (s : State) : Frame [.fp, .pw] s (planTaken s) := .of

theorem notScanned_frame (s : State) : Frame [.fp, .ex] s (notScanned s) := .of

theorem openFrame_eq (s : State) : openFrame s = if scanning s && scannedIn s s.pw.st s.pw.frameNo.toNat then
      let u := planTaken (scanTaken s)
      psFrameStart (u.ze.latchDue && neOwes u u.ze.latchFrame) (classFill (chargeStep u))
    else notScanned (scanTaken s) := rfl

theorem openFrame_frame (s : State) : Frame [.pw, .fp, .ps, .ex] s (openFrame s) := by
  rw [openFrame_eq]
  dsimp only
  split
  · refine Frame.trans (l := [.pw, .fp]) ?_ (psFrameStart_frame ..)
    refine Frame.trans (l := [.pw, .fp]) ?_ (classFill_frame _)
    refine Frame.trans (l := [.pw, .fp]) ?_ (chargeStep_frame _)
    exact (scanTaken_frame s).trans (planTaken_frame _)
  · exact (scanTaken_frame s).trans (notScanned_frame _)

theorem openFrame_stepAtHand (s : State) : stepAtHand (openFrame s).ex = stepAtHand s.ex := by
  rw [openFrame_eq]
  dsimp only
  split
  · refine congrArg stepAtHand (?_ : _ = s.ex)
    refine ((psFrameStart_frame ..).same .ex).trans (((classFill_frame _).same .ex).trans (((chargeStep_frame _).same .ex).trans ?_))
    exact ((planTaken_frame _).same .ex).trans ((scanTaken_frame s).same .ex)
  · rfl

theorem vigilAct_frame (was : Bool) (s : State) : Frame [.pw, .req, .pllBlock] s (vigilAct was s) := by
  unfold vigilAct
  split
  · exact .of
  · exact .refl ..

end Sys2Proof.Machine
end

section
/-! PROOF. Boundaries: a frame ends and the next opens (R32, R33). -/

namespace Sys2Proof.Machine

-- One after another the proofs need less memory than all at once.
set_option Elab.async false

/-! ### The parts of a boundary -/

/-- What may change at a boundary before the frame counter advances. -/
abbrev turnParts : List Part :=
  [.cf, .eff, .pend, .defaults, .copyA, .copyB, .sess, .res, .regs, .sys, .dp, .st, .mir, .ne, .hg, .rx] ++ unitParts

/-- A data plane that waits only for its last mailbox stops. -/
def waitOver (s : State) : State := if s.pw.dp == .stopped then dpStop s else s

/-- The frame has closed, and commit and assignment have taken effect. -/
def configTaken (s : State) : State := assignAt (commitAt s.pw.frameNo (waitOver s).sys.sysTime (closeFrame (waitOver s)))

/-- The state of the next frame has been taken. -/
def stateTaken (s : State) : State :=
  let u := raiseIf (standbyRefused s) evStandbyRefused s
  takeState (selectState u) u

/-- The counter has advanced and the grant is issued. -/
def frameGranted (s : State) : State := grantNext (nextFrameNo (stateTaken (configTaken s)))

theorem boundaryRun_eq (s : State) : boundaryRun s = localEdge 16 (vigilAct s.fp.vigilReq (openFrame (frameGranted s))) := rfl

theorem waitOver_frame (s : State) : Frame stopParts s (waitOver s) := by
  unfold waitOver
  split
  · exact dpStop_frame s
  · exact .refl ..

theorem configTaken_frame (s : State) : Frame turnParts s (configTaken s) := by
  unfold configTaken
  refine Frame.trans (l := turnParts) ?_ (assignAt_frame _)
  refine Frame.trans (l := turnParts) ?_ (commitAt_frame ..)
  exact (waitOver_frame s).trans (closeFrame_frame _)

theorem stateTaken_frame (s : State) : Frame (.ed :: takeParts) s (stateTaken s) := (raiseIf_frame ..).trans (takeState_frame ..)

theorem turned_frame (s : State) : Frame turnParts s (stateTaken (configTaken s)) := (configTaken_frame s).trans (stateTaken_frame _)

/-- After the grant only the data plane's next frame, requests and events change. -/
theorem boundaryRun_frame (s : State) : Frame [.pw, .fp, .ps, .ex, .req, .pllBlock, .ed] (frameGranted s) (boundaryRun s) := by
  rw [boundaryRun_eq]
  refine Frame.trans (l := [.pw, .fp, .ps, .ex, .req, .pllBlock]) ?_ (localEdge_frame ..)
  exact (openFrame_frame _).trans (vigilAct_frame ..)

theorem nextFrameNo_says (s : State) : (nextFrameNo s).pw.frameNo = s.pw.frameNo + 1 ∧ (nextFrameNo s).pw.lastB = s.sys.now ∧
    (nextFrameNo s).pw.frameSys = s.sys.sysTime ∧ stepAtHand (nextFrameNo s).ex = (0, false) := ⟨rfl, rfl, rfl, rfl⟩

theorem boundaryRun_stepAtHand (s : State) : stepAtHand (boundaryRun s).ex = stepAtHand (frameGranted s).ex := by
  have h (v : State) : (localEdge 16 (vigilAct s.fp.vigilReq v)).ex = v.ex :=
    ((vigilAct_frame s.fp.vigilReq v).trans (localEdge_frame ..) (r := [.pw, .req, .pllBlock, .ed])).same .ex
  rw [boundaryRun_eq, h]
  exact openFrame_stepAtHand _

/-- A boundary opens the next frame. -/
theorem boundaryRun_frameOpens (s : State) : FrameOpens s (boundaryRun s) := by
  have ht := turned_frame s
  have hb := boundaryRun_frame s
  have hx := boundaryRun_stepAtHand s
  have hg := grantNext_says (nextFrameNo (stateTaken (configTaken s)))
  have hgf := grantNext_frame (nextFrameNo (stateTaken (configTaken s)))
  have hn := nextFrameNo_says (stateTaken (configTaken s))
  have hnf := nextFrameNo_frame (stateTaken (configTaken s))
  unfold frameGranted at hb hx
  generalize stateTaken (configTaken s) = v at ht hb hx hg hgf hn hnf
  generalize nextFrameNo v = w at hb hx hg hgf hn hnf
  generalize grantNext w = x at hb hx hg hgf
  generalize boundaryRun s = u at hb hx ⊢
  obtain ⟨n1, n2, n3, n4⟩ := hn
  obtain ⟨⟨g1, g2⟩, g3, g4, g5⟩ := hg
  have hno : v.pw.frameNo = s.pw.frameNo := ht.same .frameNo
  have hnow : v.sys.now = s.sys.now := ht.same .now
  have hst : v.sys.sysTime = s.sys.sysTime := ht.same .sysTime
  have hm : w.sys.mgmtUp = s.sys.mgmtUp := (hnf.same .mgmtUp).trans (ht.same .mgmtUp)
  have he : w.sup.eFrame = s.sup.eFrame := (hnf.same .eFrame).trans (ht.same .eFrame)
  have hux : u.sup = x.sup := hb.same .sup
  have hcf : u.cf = w.cf := (hb.same .cf).trans (hgf.same .cf)
  have hxw : x.ex = w.ex := hgf.same .ex
  rw [hxw, n4] at hx
  have hstep : u.ex.step = 0 ∧ u.ex.open_ = false := Prod.mk.inj hx
  have u1 : u.pw.frameNo = w.pw.frameNo := (hb.same .frameNo).trans (hgf.same .frameNo)
  have u2 : u.pw.lastB = w.pw.lastB := (hb.same .lastB).trans (hgf.same .lastB)
  have u3 : u.pw.frameSys = w.pw.frameSys := (hb.same .frameSys).trans (hgf.same .frameSys)
  rw [he] at g2
  rw [hm] at g5
  unfold FrameOpens
  rw [hux, cfgN_congr hcf]
  exact ⟨u1.trans (n1.trans (by rw [hno])), u2.trans (n2.trans hnow), u3.trans (n3.trans hst), hstep.1, hstep.2, ⟨g1, g2⟩, g3, g4, g5⟩

/-! ### What a boundary leaves of the mirror and of the configuration -/

theorem waitOver_staysOff (s : State) : StaysOff s (waitOver s) := by
  unfold waitOver
  split
  · exact dpStop_staysOff s
  · exact .refl s

theorem nextFrameNo_staysOff (s : State) : StaysOff s (nextFrameNo s) := .of_frame (nextFrameNo_frame s)

theorem boundaryRun_staysOff (s : State) : StaysOff s (boundaryRun s) := by
  have h1 : StaysOff (waitOver s) (configTaken s) := by
    unfold configTaken
    refine StaysOff.trans (.of_frame (closeFrame_frame _)) ?_
    exact (StaysOff.of_frame (commitAt_frame ..)).trans (.of_frame (assignAt_frame _))
  have h2 (v : State) : StaysOff v (stateTaken v) := (StaysOff.of_frame (raiseIf_frame ..)).trans (takeState_staysOff ..)
  have h3 (v : State) : StaysOff v (grantNext (nextFrameNo v)) := (nextFrameNo_staysOff v).trans (.of_frame (grantNext_frame _))
  have h4 : StaysOff (frameGranted s) (boundaryRun s) := .of_frame (boundaryRun_frame s)
  exact (((waitOver_staysOff s).trans h1).trans ((h2 _).trans (h3 _))).trans h4

/-- After its commit and assignment a boundary changes nothing of the configuration but what is staged. -/
theorem boundaryRun_cf (s : State) : ∃ x m, (boundaryRun s).cf = { (configTaken s).cf with staged := x, mapStage := m } := by
  have hb : (boundaryRun s).cf = (frameGranted s).cf := (boundaryRun_frame s).same .cf
  have hg : (frameGranted s).cf = (stateTaken (configTaken s)).cf :=
    ((nextFrameNo_frame _).trans (grantNext_frame _) (r := [.pw, .frameNo, .frameSys, .lastB, .ex, .sup, .eFrame, .ed, .res, .regs])).same .cf
  have hr (v : State) (b : Bool) (j : Nat) : (raiseIf b j v).cf = v.cf := (raiseIf_frame ..).same .cf
  obtain ⟨x, m, h⟩ := takeState_cf (selectState (raiseIf (standbyRefused (configTaken s)) evStandbyRefused (configTaken s)))
    (raiseIf (standbyRefused (configTaken s)) evStandbyRefused (configTaken s))
  rw [hr] at h
  exact ⟨x, m, hb.trans (hg.trans h)⟩

/-- The configuration as a frame closes: that in effect governs the records still to come. -/
def cfClosed (s : State) : Cf := { s.cf with effPrev := s.cf.eff, mapPrev := s.cf.map, epochsPrev := s.cf.epochs }

theorem closed_cf (s : State) : (closeFrame (waitOver s)).cf = cfClosed s := by
  have h : (waitOver s).cf = s.cf := (waitOver_frame s).same .cf
  rw [closeFrame_cf, h]
  rfl

/-! ### When there is a boundary -/

theorem boundary_runs {s : State} (hp : s.sys.powered = true) (hc : s.sys.ctrlUp = true) (hs : s.pw.st ≠ 2) : boundary s = boundaryRun s := by
  unfold boundary
  rw [if_neg (by rw [hp]; decide), if_neg hs, if_neg (by rw [hc]; decide)]

theorem boundary_standby {s : State} (hp : s.sys.powered = true) (hs : s.pw.st = 2) : boundary s = nextFrameNo s := by
  unfold boundary
  rw [if_neg (by rw [hp]; decide), if_pos hs]

theorem boundary_staysOff (s : State) : StaysOff s (boundary s) := by
  unfold boundary
  split
  · exact .refl s
  split
  · exact nextFrameNo_staysOff s
  split
  · exact .refl s
  · exact boundaryRun_staysOff s

theorem sequencing_off {s : State} (h : s.pw.dp ≠ .scanning) : sequencing s = false := by
  unfold sequencing scanning
  rw [beq_false_of_ne h]
  rfl

theorem nominalBoundary_comes {s : State} (hd : s.pw.dp ≠ .scanning) (ht : s.pw.lastB + framePeriod s ≤ s.sys.now) :
    nominalBoundary s = boundary s := by
  unfold nominalBoundary
  rw [if_pos (by rw [sequencing_off hd, decide_eq_true ht]; rfl)]

/-- The mirror's angle is measured from the next revolution on. -/
def turnTaken (s : State) : State := { s with mir := { s.mir with turn := s.mir.turn - 1 } }

theorem mirrorBoundary_comes {s : State} (hd : s.pw.dp = .scanning) (hp : pinScan s = false) (ha : angleDue s (stepsPerFrame s) = true) :
    mirrorBoundary s = boundary (turnTaken s) := by
  unfold mirrorBoundary sequencing scanning
  rw [if_pos (by rw [hd, hp, ha]; rfl)]
  rfl

theorem FrameOpens.of_same {s v u : State} (h : FrameOpens v u) (hp : v.pw.frameNo = s.pw.frameNo) (hs : v.sys = s.sys) (he : v.sup = s.sup) :
    FrameOpens s u := by
  unfold FrameOpens at *
  rw [hp, hs, he] at h
  exact h

end Sys2Proof.Machine
end

section
/-! PROOF. O12: frames and the accounting interval. -/

namespace Sys2Proof.Machine

-- One after another the proofs need less memory than all at once.
set_option Elab.async false

/-! ### Results posted elsewhere -/

theorem resGet_of_res {s u : State} (h : u.res = s.res) (a : Nat) : resGet u a = resGet s a := by
  unfold resGet
  rw [h]

/-- A result stands posted. -/
def Stands (a : Nat) (s : State) : Prop := (resGet s a).valid = true ∧ (resGet s a).fresh = true

theorem post_stands (a low : Nat) (ws : List (Nat × Nat)) (s : State) : Stands a (post a low ws s) := by
  unfold Stands
  rw [resGet_post]
  exact ⟨rfl, rfl⟩

theorem Stands.of_res {a : Nat} {s u : State} (h : Stands a s) (hr : u.res = s.res) : Stands a u := by
  unfold Stands at *
  rw [resGet_of_res hr]
  exact h

theorem Stands.post {a b : Nat} {s : State} (h : Stands b s) (hn : b ≠ a) (low : Nat) (ws : List (Nat × Nat)) : Stands b (post a low ws s) := by
  unfold Stands at *
  rw [resGet_post_other hn]
  exact h

/-! ### What the units latch every second (R22) -/

def supplyPost (s : State) : State :=
  post 0x010140 0 [(0x010144, s.sup.eInt), (0x010148, put s.sup.throttle 16 16 + put s.sup.rides 0 16),
    (0x010340, put (sat 16 s.mw.minRms) 16 16 + put s.mw.swells 10 6 + put s.mw.ints 5 5 + put s.mw.dips 0 5)] s

/-- The supply's counters of the second are cleared; every sixtieth second writes the energy total. -/
def supplyCleared (p : Sup) (s : State) : State :=
  { s with
    sup := { s.sup with eInt := 0, rides := 0, throttle := 0, intervals := if p.intervals + 1 = 60 then 0 else p.intervals + 1
                        eTotalMram := if p.intervals + 1 = 60 then p.eTotal else p.eTotalMram }
    mw := { s.mw with minRms := 65535, swells := 0, ints := 0, dips := 0 } }

theorem latchSupply_eq (s : State) : latchSupply s = supplyCleared s.sup (supplyPost s) := rfl

theorem supplyCleared_frame (p : Sup) (s : State) : Frame [.sup, .mw] s (supplyCleared p s) := .of

theorem latchSupply_frame (s : State) : Frame [.ed, .res, .regs, .sup, .mw] s (latchSupply s) := by
  rw [latchSupply_eq]
  exact Frame.trans (l := [.ed, .res, .regs]) (post_frame ..) (supplyCleared_frame ..)

/-- What the supply shows after its latch. -/
structure SupplyLatched (s u : State) : Prop where
  eInt : u.sup.eInt = 0
  rides : u.sup.rides = 0
  throttle : u.sup.throttle = 0
  minRms : u.mw.minRms = 65535
  dips : u.mw.dips = 0
  ints : u.mw.ints = 0
  swells : u.mw.swells = 0
  total : u.sup.eTotalMram = if s.sup.intervals = 59 then s.sup.eTotal else s.sup.eTotalMram

theorem supplyCleared_latched (p : Sup) (s v : State) (h : p = s.sup) : SupplyLatched s (supplyCleared p v) := by
  refine ⟨rfl, rfl, rfl, rfl, rfl, rfl, rfl, ?_⟩
  unfold supplyCleared
  dsimp only
  rw [h]
  exact if_congr (by omega) rfl rfl

theorem SupplyLatched.of_same {s u v : State} (h : SupplyLatched s u) (hs : v.sup = u.sup) (hm : v.mw = u.mw) : SupplyLatched s v := by
  obtain ⟨h1, h2, h3, h4, h5, h6, h7, h8⟩ := h
  exact ⟨by rw [hs, h1], by rw [hs, h2], by rw [hs, h3], by rw [hm, h4], by rw [hm, h5], by rw [hm, h6], by rw [hm, h7], by rw [hs, h8]⟩

def linkPost (s : State) : State :=
  let z := s.zl
  let pw := fun (p : Nat) => let x := zpGet s p; [(0x580044 + 8 * p, x.frames), (0x580048 + 8 * p, b2 x.crcerr x.codeerr)]
  post 0x580040 0 (pw 0 ++ pw 1 ++ [(0x580054, b2 z.qdrop z.dups), (0x580058, b2 z.longfwd z.timesteps),
    (0x58005C, b2 z.downs z.aborts)]) s

/-- The link's counters of the second are cleared. -/
def linkCleared (s : State) : State :=
  let clr := fun (x : Zp) => { x with frames := 0, crcerr := 0, codeerr := 0 }
  { s with zl := { s.zl with p0 := clr s.zl.p0, p1 := clr s.zl.p1, qdrop := 0, dups := 0, longfwd := 0, timesteps := 0, downs := 0, aborts := 0 } }

theorem latchLink_eq (s : State) : latchLink s = linkCleared (linkPost s) := rfl

theorem linkCleared_frame (s : State) : Frame [.zl] s (linkCleared s) := .of

theorem linkCleared_says (s : State) : (linkCleared s).zl.p0.frames = 0 ∧ (linkCleared s).zl.p1.frames = 0 ∧ (linkCleared s).zl.qdrop = 0 ∧
    (linkCleared s).zl.aborts = 0 := ⟨rfl, rfl, rfl, rfl⟩

theorem latchLink_frame (s : State) : Frame [.ed, .res, .regs, .zl] s (latchLink s) := by
  rw [latchLink_eq]
  exact Frame.trans (l := [.ed, .res, .regs]) (post_frame ..) (linkCleared_frame _)

theorem trackCleared_frame (l : List Nat) (g : State → Nat → Tf) (s : State) : Frame [.tf] s (l.foldl (fun s n => tfPut n (g s n) s) s) :=
  .foldl (fun _ _ => tfPut_frame ..) l s

theorem latchTrack_frame (s : State) : Frame [.ed, .res, .regs, .tf] s (latchTrack s) := by
  unfold latchTrack
  dsimp only
  exact (post_frame ..).trans (trackCleared_frame (List.range 16)
    (fun s n => { tfGet s n with rangech := 0, clips := 0, blanks := 0, opens := 0, settles := 0 }) _)

def axlePost (s : State) : State :=
  let tl := fun l => let x := tlGet s l
    [(0x540810 + 0x20 * l, b2 x.crcfail x.gap), (0x540814 + 0x20 * l, b2 x.stale x.wrongpeer),
     (0x540818 + 0x20 * l, b2 x.downs x.txframes)]
  post 0x540010 0
    ([(0x540014, b2 s.ax.disturbs s.ax.passages), (0x540018, b2 s.ax.epdisc s.ax.rstref)] ++ tl 0 ++ tl 1 ++
     (List.range 8).map fun h => (0x540204 + 8 * h, b2 (hdGet s h).passAB (hdGet s h).passBA)) s

/-- The counters of the axle counter's second are cleared. -/
def axleCleared (s' : State) : State :=
  let clr := fun (x : Tl) => { x with crcfail := 0, gap := 0, stale := 0, wrongpeer := 0, downs := 0, txframes := 0 }
  { s' with ax := { s'.ax with
      disturbs := 0, passages := 0, epdisc := 0, rstref := 0, tl0 := clr s'.ax.tl0, tl1 := clr s'.ax.tl1
      heads := s'.ax.heads.filterMap (fun e =>
        let x := { e.2 with passAB := 0, passBA := 0 }; if x = {} then none else some (e.1, x)) } }

theorem latchAxle_eq (s : State) : latchAxle s = axleCleared (axlePost s) := rfl

theorem axleCleared_frame (s : State) : Frame [.ax] s (axleCleared s) := .of

theorem axleCleared_says (s : State) : (axleCleared s).ax.disturbs = 0 ∧ (axleCleared s).ax.passages = 0 ∧
    (axleCleared s).ax.secs = s.ax.secs := ⟨rfl, rfl, rfl⟩

theorem latchAxle_frame (s : State) : Frame [.ed, .res, .regs, .ax] s (latchAxle s) := by
  rw [latchAxle_eq]
  exact Frame.trans (l := [.ed, .res, .regs]) (post_frame ..) (axleCleared_frame _)

theorem latchSafety_frame (s : State) : Frame [.safA, .safB, .out] s (latchSafety s) := .of

theorem latchSafety_says (s : State) : (latchSafety s).safA.crcFail = 0 ∧ (latchSafety s).safB.crcFail = 0 ∧ (latchSafety s).safA.gapN = 0 ∧
    (latchSafety s).safB.gapN = 0 ∧ (latchSafety s).out.tests = 0 := ⟨rfl, rfl, rfl, rfl, rfl⟩

/-! ### The accounting interval -/

/-- The management plane's units have latched. -/
def mgmtLatched (s : State) : State := if s.sys.mgmtUp then latchLink (latchSupply s) else s

/-- The track units have latched, where the variant has them. -/
def trackLatched (s : State) : State := if hasTrack s then latchAxle (latchTrack s) else s

/-- The control plane's units have latched. -/
def ctrlLatched (s : State) : State := if s.sys.ctrlUp then latchSafety (trackLatched s) else s

theorem latchAll_eq (s : State) : latchAll s = localEdge 19 (ctrlLatched (mgmtLatched s)) := rfl

theorem mgmtLatched_frame (s : State) : Frame [.ed, .res, .regs, .sup, .mw, .zl] s (mgmtLatched s) := by
  unfold mgmtLatched
  split
  · exact (latchSupply_frame s).trans (latchLink_frame _)
  · exact .refl ..

theorem trackLatched_frame (s : State) : Frame [.ed, .res, .regs, .tf, .ax] s (trackLatched s) := by
  unfold trackLatched
  split
  · exact (latchTrack_frame s).trans (latchAxle_frame _)
  · exact .refl ..

theorem ctrlLatched_frame (s : State) : Frame [.ed, .res, .regs, .tf, .ax, .safA, .safB, .out] s (ctrlLatched s) := by
  unfold ctrlLatched
  split
  · exact (trackLatched_frame s).trans (latchSafety_frame _)
  · exact .refl ..

theorem latchAll_frame (s : State) : Frame [.ed, .res, .regs, .sup, .mw, .zl, .tf, .ax, .safA, .safB, .out] s (latchAll s) := by
  rw [latchAll_eq]
  exact ((mgmtLatched_frame s).trans (ctrlLatched_frame _) (r := [.ed, .res, .regs, .sup, .mw, .zl, .tf, .ax, .safA, .safB, .out])).trans
    (localEdge_frame ..)

/-- What stands of the supply's result and of the link's counters after the management plane's latch. -/
theorem mgmtLatched_says {s : State} (hm : s.sys.mgmtUp = true) : SupplyLatched s (mgmtLatched s) ∧ Stands 0x010140 (mgmtLatched s) ∧
    (mgmtLatched s).zl.p0.frames = 0 ∧ (mgmtLatched s).zl.p1.frames = 0 ∧ (mgmtLatched s).zl.qdrop = 0 ∧ (mgmtLatched s).zl.aborts = 0 := by
  have he : mgmtLatched s = latchLink (latchSupply s) := if_pos hm
  rw [he]
  have hl : SupplyLatched s (latchSupply s) := by
    rw [latchSupply_eq]
    exact supplyCleared_latched _ _ _ rfl
  have hst : Stands 0x010140 (latchSupply s) := by
    rw [latchSupply_eq]
    exact (post_stands ..).of_res ((supplyCleared_frame ..).same .res)
  refine ⟨hl.of_same ((latchLink_frame _).same .sup) ((latchLink_frame _).same .mw), ?_, ?_⟩
  · rw [latchLink_eq]
    exact (hst.post (by decide) _ _).of_res ((linkCleared_frame _).same .res)
  · rw [latchLink_eq]
    exact linkCleared_says _

theorem trackLatched_stands {a : Nat} {s : State} (h : Stands a s) (h1 : a ≠ 0x500010) (h2 : a ≠ 0x540010) : Stands a (trackLatched s) := by
  have ht : Stands a (latchTrack s) := by
    unfold latchTrack
    dsimp only
    exact (h.post h1 _ _).of_res ((trackCleared_frame (List.range 16)
      (fun s n => { tfGet s n with rangech := 0, clips := 0, blanks := 0, opens := 0, settles := 0 }) _).same .res)
  unfold trackLatched
  split
  · rw [latchAxle_eq]
    exact (ht.post h2 _ _).of_res ((axleCleared_frame _).same .res)
  · exact h

theorem ctrlLatched_stands {s : State} (h : Stands 0x010140 s) : Stands 0x010140 (ctrlLatched s) := by
  unfold ctrlLatched
  split
  · exact (trackLatched_stands h (by decide) (by decide)).of_res ((latchSafety_frame _).same .res)
  · exact h

/-- What stands of the axle counter after its latch. -/
theorem trackLatched_says {s : State} (h : hasTrack s = true) : Stands 0x540010 (trackLatched s) ∧ (trackLatched s).ax.disturbs = 0 ∧
    (trackLatched s).ax.passages = 0 ∧ (trackLatched s).ax.secs = s.ax.secs := by
  have he : trackLatched s = latchAxle (latchTrack s) := if_pos h
  rw [he, latchAxle_eq]
  have hax : (axlePost (latchTrack s)).ax = s.ax := (Frame.trans (latchTrack_frame s) (post_frame ..) (r := [.ed, .res, .regs, .tf])).same .ax
  obtain ⟨h1, h2, h3⟩ := axleCleared_says (axlePost (latchTrack s))
  exact ⟨(post_stands ..).of_res ((axleCleared_frame _).same .res), h1, h2, h3.trans (by rw [hax])⟩

theorem hasTrack_congr {s u : State} (h : u.sys.variant = s.sys.variant) : hasTrack u = hasTrack s := by
  unfold hasTrack
  rw [h]

theorem ctrlLatched_says {s : State} (hc : s.sys.ctrlUp = true) :
    ((ctrlLatched s).safA.crcFail = 0 ∧ (ctrlLatched s).safB.crcFail = 0 ∧ (ctrlLatched s).safA.gapN = 0 ∧ (ctrlLatched s).safB.gapN = 0 ∧
      (ctrlLatched s).out.tests = 0) ∧
    (hasTrack s = true → Stands 0x540010 (ctrlLatched s) ∧ (ctrlLatched s).ax.disturbs = 0 ∧ (ctrlLatched s).ax.passages = 0 ∧
      (ctrlLatched s).ax.secs = s.ax.secs) := by
  have he : ctrlLatched s = latchSafety (trackLatched s) := if_pos hc
  rw [he]
  refine ⟨latchSafety_says _, fun ht => ?_⟩
  obtain ⟨h1, h2⟩ := trackLatched_says ht
  have hax : (latchSafety (trackLatched s)).ax = (trackLatched s).ax := (latchSafety_frame _).same .ax
  exact ⟨h1.of_res ((latchSafety_frame _).same .res), by rw [hax]; exact h2⟩

/-- The second of system time is noted. -/
def secondNoted (s : State) : State := { s with sys := { s.sys with lastSec := sysSecond s } }

theorem secondNoted_frame (s : State) : Frame [.sys] s (secondNoted s) := .of

theorem accountingInterval_latches {s : State} (h : sysSecond s ≠ s.sys.lastSec) : accountingInterval s = latchAll (secondNoted s) := if_neg h

/-- What the units show after they have latched. -/
theorem latchAll_says (s : State) : let u := latchAll s
    (s.sys.mgmtUp = true → Stands 0x010140 u ∧ SupplyLatched s u ∧ u.zl.p0.frames = 0 ∧ u.zl.p1.frames = 0 ∧ u.zl.qdrop = 0 ∧ u.zl.aborts = 0) ∧
    (s.sys.ctrlUp = true → (u.safA.crcFail = 0 ∧ u.safB.crcFail = 0 ∧ u.safA.gapN = 0 ∧ u.safB.gapN = 0 ∧ u.out.tests = 0) ∧
      (hasTrack s = true → Stands 0x540010 u ∧ u.ax.disturbs = 0 ∧ u.ax.passages = 0 ∧ u.ax.secs = s.ax.secs)) := by
  have hm := mgmtLatched_says (s := s)
  have hmf := mgmtLatched_frame s
  have hc := ctrlLatched_says (s := mgmtLatched s)
  have hcf := ctrlLatched_frame (mgmtLatched s)
  have hcs := ctrlLatched_stands (s := mgmtLatched s)
  have hef := localEdge_frame 19 (ctrlLatched (mgmtLatched s))
  rw [latchAll_eq]
  generalize mgmtLatched s = v at *
  generalize ctrlLatched v = w at *
  generalize localEdge 19 w = u at *
  have h1 : u.zl = v.zl := (hef.same .zl).trans (hcf.same .zl)
  have h2 : u.sup = v.sup := (hef.same .sup).trans (hcf.same .sup)
  have h3 : u.mw = v.mw := (hef.same .mw).trans (hcf.same .mw)
  have h4 : u.safA = w.safA := hef.same .safA
  have h5 : u.safB = w.safB := hef.same .safB
  have h6 : u.out = w.out := hef.same .out
  have h7 : u.ax = w.ax := hef.same .ax
  have h8 : u.res = w.res := hef.same .res
  have h9 : v.sys.ctrlUp = s.sys.ctrlUp := hmf.same .ctrlUp
  have h10 : v.ax = s.ax := hmf.same .ax
  refine ⟨fun hup => ?_, fun hup => ?_⟩
  · obtain ⟨hl, hst, hz⟩ := hm hup
    exact ⟨(hcs hst).of_res h8, hl.of_same h2 h3, by rw [h1]; exact hz⟩
  · obtain ⟨hs, ht⟩ := hc (h9.trans hup)
    rw [h4, h5, h6, h7]
    rw [hasTrack_congr (hmf.same .variant), h10] at ht
    exact ⟨hs, fun h => ⟨(ht h).1.of_res h8, (ht h).2⟩⟩

theorem SupplyLatched.of_noted {s u : State} (h : SupplyLatched (secondNoted s) u) : SupplyLatched s u := by
  obtain ⟨h1, h2, h3, h4, h5, h6, h7, h8⟩ := h
  exact ⟨h1, h2, h3, h4, h5, h6, h7, h8⟩

section
variable {s : State} {t : Nat}

theorem SupplyLatched.of_advance {u : State} (h : SupplyLatched (advance t s) u) : SupplyLatched s u := by
  obtain ⟨h1, h2, h3, h4, h5, h6, h7, h8⟩ := h
  exact ⟨h1, h2, h3, h4, h5, h6, h7, h8⟩

theorem accountingInterval_acts (h : sysSecond (advance t s) ≠ s.sys.lastSec) : Answers (.accountingInterval t) s fun u =>
    Kept u s ∧ u.pw = s.pw ∧ u.sys.lastSec = sysSecond (advance t s) ∧
    (s.sys.mgmtUp = true → (resGet u 0x010140).valid = true ∧ (resGet u 0x010140).fresh = true ∧
      u.sup.eInt = 0 ∧ u.sup.rides = 0 ∧ u.sup.throttle = 0 ∧ u.mw.minRms = 65535 ∧ u.mw.dips = 0 ∧ u.mw.ints = 0 ∧ u.mw.swells = 0 ∧
      u.sup.eTotalMram = (if s.sup.intervals = 59 then s.sup.eTotal else s.sup.eTotalMram) ∧
      u.zl.p0.frames = 0 ∧ u.zl.p1.frames = 0 ∧ u.zl.qdrop = 0 ∧ u.zl.aborts = 0) ∧
    (s.sys.ctrlUp = true → u.safA.crcFail = 0 ∧ u.safB.crcFail = 0 ∧ u.safA.gapN = 0 ∧ u.safB.gapN = 0 ∧ u.out.tests = 0 ∧
      (hasTrack s = true → (resGet u 0x540010).valid = true ∧ u.ax.disturbs = 0 ∧ u.ax.passages = 0 ∧ u.ax.secs = s.ax.secs)) := by
  have hk : Kept (accountingInterval (advance t s)) s := (accountingInterval_guarded ..).trans (advance_guarded ..)
  have he := accountingInterval_latches (s := advance t s) h
  have hf := latchAll_frame (secondNoted (advance t s))
  obtain ⟨hm, hc⟩ := latchAll_says (secondNoted (advance t s))
  have hpw : (latchAll (secondNoted (advance t s))).pw = s.pw := (hf.same .pw).trans ((secondNoted_frame _).same .pw)
  have hsec : (latchAll (secondNoted (advance t s))).sys.lastSec = sysSecond (advance t s) :=
    congrArg Sys.lastSec (hf.same .sys : (latchAll (secondNoted (advance t s))).sys = (secondNoted (advance t s)).sys)
  rw [he] at hk
  generalize latchAll (secondNoted (advance t s)) = u at *
  refine ⟨u, congrArg Host.Outcome.next he, hk, hpw, hsec, fun hup => ?_, fun hup => ?_⟩
  · obtain ⟨⟨hv, hfr⟩, hl, hz⟩ := hm hup
    obtain ⟨h1, h2, h3, h4, h5, h6, h7, h8⟩ := hl.of_noted.of_advance
    exact ⟨hv, hfr, h1, h2, h3, h4, h5, h6, h7, h8, hz⟩
  · obtain ⟨⟨h1, h2, h3, h4, h5⟩, ht⟩ := hc hup
    exact ⟨h1, h2, h3, h4, h5, fun hh => ⟨(ht hh).1.1, (ht hh).2⟩⟩

theorem accountingInterval_not (h : sysSecond (advance t s) = s.sys.lastSec) : Answers (.accountingInterval t) s fun u => u = advance t s :=
  ⟨_, congrArg Host.Outcome.next (if_pos h), rfl⟩

/-! ### Boundaries (R32, R33) -/

theorem frameBoundary_opens (hp : s.sys.powered = true) (hc : s.sys.ctrlUp = true) (h2 : s.pw.st ≠ 2) (hd : s.pw.dp = .scanning)
    (hs : pinScan s = false) (ha : angleDue (advance t s) (stepsPerFrame s) = true) :
    Answers (.frameBoundary t) s (FrameOpens (advance t s)) := by
  have he : mirrorBoundary (advance t s) = boundaryRun (turnTaken (advance t s)) :=
    (mirrorBoundary_comes (s := advance t s) hd hs ha).trans (boundary_runs (s := turnTaken (advance t s)) hp hc h2)
  exact ⟨_, congrArg Host.Outcome.next he, (boundaryRun_frameOpens _).of_same rfl rfl rfl⟩

theorem nominalBoundary_answers (hp : s.sys.powered = true) (hc : s.sys.ctrlUp = true) (h2 : s.pw.st ≠ 2) (hd : s.pw.dp ≠ .scanning)
    (hl : s.pw.lastB + framePeriod s ≤ (advance t s).sys.now) : Answers (.nominalBoundary t) s (FrameOpens (advance t s)) := by
  have he : nominalBoundary (advance t s) = boundaryRun (advance t s) :=
    (nominalBoundary_comes (s := advance t s) hd hl).trans (boundary_runs (s := advance t s) hp hc h2)
  exact ⟨_, congrArg Host.Outcome.next he, boundaryRun_frameOpens _⟩

theorem nominalBoundary_counts (hp : s.sys.powered = true) (h2 : s.pw.st = 2) (hd : s.pw.dp ≠ .scanning)
    (hl : s.pw.lastB + framePeriod s ≤ (advance t s).sys.now) : Answers (.nominalBoundary t) s fun u =>
      u.pw.frameNo = s.pw.frameNo + 1 ∧ u = { advance t s with
        pw := { s.pw with frameNo := s.pw.frameNo + 1, frameSys := (advance t s).sys.sysTime, lastB := (advance t s).sys.now },
        ex := { s.ex with step := 0, begun := 0, open_ := false } } := by
  have he : nominalBoundary (advance t s) = nextFrameNo (advance t s) :=
    (nominalBoundary_comes (s := advance t s) hd hl).trans (boundary_standby (s := advance t s) hp h2)
  exact ⟨_, congrArg Host.Outcome.next he, rfl, rfl⟩

end

/-- Settles O12: it holds. -/
theorem framesAndAccounting : Obligations.FramesAndAccounting := by
  unfold Obligations.FramesAndAccounting
  exact ⟨fun s t hp hc => ⟨fun h2 hd hs ha => frameBoundary_opens hp hc h2 hd hs ha, fun h2 hd hl => nominalBoundary_answers hp hc h2 hd hl,
    fun h2 hd hl => nominalBoundary_counts hp h2 hd hl⟩, fun s t => ⟨accountingInterval_not, accountingInterval_acts⟩⟩

end Sys2Proof.Machine
end

section
/-! PROOF. O17: the start of the data plane, mirror edges and mirror faults. -/

namespace Sys2Proof.Machine

-- One after another the proofs need less memory than all at once.
set_option Elab.async false

/-! ### Starts (R79, R81, R100) -/

section
variable {s : State}

theorem hfxStable_done (h : s.pw.hfxReq.isSome = true) : hfxStable s = { s with pw := { s.pw with hfxOk := true, hfxReq := none } } := if_pos h

theorem pllLock_locks (hh : s.pw.hfxOk = true) (hd : s.pw.dp ≠ .off) :
    pllLock s = { s with pw := { s.pw with pllC := true, pllT := true, pllS := decide (cfgN s 0x2800 2 ≠ 0) } } := by
  have ho : dpOn s = true := decide_eq_true hd
  have hw : plsWanted s = decide (cfgN s 0x2800 2 ≠ 0) := by
    unfold plsWanted
    rw [ho, Bool.true_and]
    by_cases h : cfgN s 0x2800 2 = 0
    · rw [h]; rfl
    · rw [bne_iff_ne.2 h, decide_eq_true h]
  unfold pllLock
  rw [hw, if_pos (by rw [hh, ho]; rfl)]

theorem rxStart_frame (s : State) : Frame [.rq, .rx] s (rxStart s) := by
  unfold rxStart
  exact Frame.trans (l := [.rq]) (l' := [.rx]) .of (.foldl (fun s ch => .of) _ _)

theorem plannerStart_frame (s : State) : Frame [.fp, .ex] s (plannerStart s) := .of

/-- The data plane is ready; its units have still to start. -/
def planeReady (s : State) : State :=
  { s with
    pw := { s.pw with dp := .ready, readyAt := s.sys.now, firstScan := true, mirrorRaised := false, scanned := false }
    mir := { s.mir with lastMix := none, good := 0, locked := false, lastMenc := none, mencInt := 0, count := 0 }
    ex := { ({} : Ex) with phase := s.ex.phase, hop := s.ex.hop, j := s.ex.j, stepAt := s.sys.now, stepTdc := 64 * s.sys.now }
    hg := { ({} : Hg) with snap := s.hg.snap }
    ze := { s.ze with q := [], qp := [], zn := [], cnt := {}, expanding := false, latchDue := false, latchOk := false,
                      refillAll := true, unmapped := unmappedZones s } }

theorem planeReady_says (s : State) : (planeReady s).pw.dp = .ready ∧ (planeReady s).pw.readyAt = s.sys.now ∧ (planeReady s).mir.good = 0 ∧
    (planeReady s).mir.locked = false ∧ (planeReady s).hg.bins = [] ∧ (planeReady s).ze.refillAll = true ∧ (planeReady s).gov = s.gov ∧
    (planeReady s).res = s.res := ⟨rfl, rfl, rfl, rfl, rfl, rfl, rfl, rfl⟩

theorem dpReady_starts (hd : s.pw.dp = .starting) (hh : s.pw.hfxOk = true) (hc : s.pw.pllC = true) (ht : s.pw.pllT = true) :
    dpReady s = plannerStart (rxStart (neStopAll (planeReady s))) := by
  unfold dpReady
  split
  · rw [if_pos (by rw [hh, hc, ht]; rfl)]
    rfl
  · exact absurd hd ‹_›

theorem unitsStart_frame (s : State) : Frame [.ne, .fp, .rq, .rx, .ex] s (plannerStart (rxStart (neStopAll s))) :=
  ((neStopAll_frame s).trans (rxStart_frame _) (r := [.ne, .fp, .rq, .rx])).trans (plannerStart_frame _)

theorem dpReady_says (hd : s.pw.dp = .starting) (hh : s.pw.hfxOk = true) (hc : s.pw.pllC = true) (ht : s.pw.pllT = true) :
    (dpReady s).pw.dp = .ready ∧ (dpReady s).pw.readyAt = s.sys.now ∧ (dpReady s).mir.good = 0 ∧
      (dpReady s).mir.locked = false ∧ (dpReady s).hg.bins = [] ∧ (dpReady s).ze.refillAll = true ∧ (dpReady s).gov = s.gov ∧
      (dpReady s).res = s.res := by
  have hf := unitsStart_frame (planeReady s)
  have hp : (dpReady s).pw = (planeReady s).pw := by rw [dpReady_starts hd hh hc ht]; exact hf.same .pw
  have hm : (dpReady s).mir = (planeReady s).mir := by rw [dpReady_starts hd hh hc ht]; exact hf.same .mir
  have hg : (dpReady s).hg = (planeReady s).hg := by rw [dpReady_starts hd hh hc ht]; exact hf.same .hg
  have hz : (dpReady s).ze = (planeReady s).ze := by rw [dpReady_starts hd hh hc ht]; exact hf.same .ze
  have hv : (dpReady s).gov = (planeReady s).gov := by rw [dpReady_starts hd hh hc ht]; exact hf.same .gov
  have hr : (dpReady s).res = (planeReady s).res := by rw [dpReady_starts hd hh hc ht]; exact hf.same .res
  rw [hp, hm, hg, hz, hv, hr]
  exact planeReady_says s

/-! ### Edges of MIX (R126, R128) -/

/-- An active edge of MIX is noted, `x` being the last one before it. -/
def edgeNoted (good x : Nat) (s : State) : State :=
  { s with mir := { s.mir with
    lastMix := some s.sys.now, period := s.sys.now - x, lastCount := s.mir.count, count := 0, good := good, turn := s.mir.turn + 1 } }

/-- The good periods in a row, with the one that ends now. -/
def goodNow (x : Nat) (s : State) : Nat :=
  if periodOk s (s.sys.now - x) && decide (s.mir.count = mencCpr s) then min 4 (s.mir.good + 1) else 0

section
variable {x : Nat} (hx : s.mir.lastMix = some x)
include hx

theorem mixEdge_scanning (hd : s.pw.dp = .scanning) : mixEdge s =
    if !periodOk s (s.sys.now - x) then mirrorFault 0 (edgeNoted (goodNow x s) x s)
    else if !decide (s.mir.count = mencCpr s) then mirrorFault 1 (edgeNoted (goodNow x s) x s)
    else edgeNoted (goodNow x s) x s := by
  have hs : scanning s = true := by unfold scanning; rw [hd]; rfl
  unfold mixEdge
  dsimp only
  rw [hd]
  dsimp only
  rw [hx]
  exact if_pos hs

theorem mixEdge_ready (hd : s.pw.dp = .ready) : mixEdge s =
    if goodNow x s = 4 then mirrorLock (edgeNoted (goodNow x s) x s) else edgeNoted (goodNow x s) x s := by
  have hs : ¬scanning s = true := by unfold scanning; rw [hd]; decide
  unfold mixEdge
  dsimp only
  rw [hd]
  dsimp only
  rw [hx]
  exact if_neg hs

end

end

/-! ### Mirror faults (R128) -/

/-- The fault is latched, and the mirror is not locked. -/
def faultLatched (b : Nat) (s : State) : State :=
  { s with mir := { s.mir with fault := bset s.mir.fault b true, locked := false, good := 0 } }

/-- The mirror check repeats. -/
def checkAgain (s : State) : State := { s with pw := { s.pw with dp := .ready } }

theorem mirrorFault_eq (b : Nat) (s : State) : mirrorFault b s = boundary (checkAgain (abandonFrame (raise evMirror (faultLatched b s)))) := rfl

theorem mirrorFault_says (b : Nat) (s : State) : (mirrorFault b s).mir.fault = bset s.mir.fault b true ∧ (mirrorFault b s).mir.locked = false ∧
    (mirrorFault b s).pw.dp ≠ .scanning := by
  have hm : (abandonFrame (raise evMirror (faultLatched b s))).mir = (faultLatched b s).mir :=
    ((raise_frame ..).trans (abandonFrame_frame _) (r := [.ed, .pw, .hg, .ps, .ne, .fp, .ze, .ex])).same .mir
  have hc (v : State) : (checkAgain v).mir = v.mir ∧ (checkAgain v).pw.dp = .ready := ⟨rfl, rfl⟩
  obtain ⟨h1, h2⟩ := hc (abandonFrame (raise evMirror (faultLatched b s)))
  have hb := boundary_staysOff (checkAgain (abandonFrame (raise evMirror (faultLatched b s))))
  rw [mirrorFault_eq]
  refine ⟨hb.fault.trans ?_, hb.locked ?_, hb.dp ?_⟩
  · rw [h1, hm]
    rfl
  · rw [h1, hm]
    rfl
  · rw [h2]
    exact Dp.noConfusion

/-! ### The mirror locks (R100) -/

theorem cfgI_eff {s u : State} (h : u.cf.eff = s.cf.eff) (i sub : Nat) : cfgI u i sub = cfgI s i sub := by
  unfold cfgI
  rw [h]

/-- What the state selected for the next frame depends on, where the automatic control is off (Table 3.5). -/
theorem selectState_congr {s u : State} (hv : u.sup.vstate = s.sup.vstate) (hd : u.cf.defaults = s.cf.defaults)
    (hb : u.pw.pllBlock = s.pw.pllBlock) (ho : u.sys.oper = s.sys.oper) (hf : u.sys.cameFromStandby = s.sys.cameFromStandby)
    (he : u.cf.eff = s.cf.eff) (hr : u.pw.req = s.pw.req) (hw : u.wc = s.wc) (hst : u.pw.st = s.pw.st) (ha : cfgF s 0x1100 3 = false) :
    selectState u = selectState s := by
  have hq : requested u = requested s := by
    unfold requested
    rw [show cfgF u 0x1100 3 = cfgF s 0x1100 3 from congrArg (fun i : Int => decide (i ≠ 0)) (cfgI_eff he ..), ha]
    exact hr
  have hwl : wakeLatched u = wakeLatched s := by
    unfold wakeLatched cfgN
    simp only [cfgI_eff he, hw]
  have hn : cfgN u 0x1200 9 = cfgN s 0x1200 9 := congrArg Int.toNat (cfgI_eff he ..)
  unfold selectState
  rw [hv, hd, hb, ho, hf, hq, hwl, hst, hn]

section
variable {s : State} (hd : s.pw.dp = .scanning) (hp : s.cf.pend = none) (ha : s.ac.staged = none) (hc : cfgF s 0x1100 3 = false)
  (h4 : 4 ≤ selectState s)

include hd in
theorem waitOver_scanning : waitOver s = s := if_neg (by rw [hd]; decide)

include hd hp ha in
/-- Nothing is committed or assigned. -/
theorem configTaken_none : configTaken s = closeFrame s := by
  have hf := closeFrame_frame s
  have hpe : (closeFrame s).cf.pend = none := (hf.same .pend).trans hp
  have hac : (closeFrame s).ac = s.ac := hf.same .ac
  unfold configTaken
  rw [waitOver_scanning hd]
  have hcommit : commitAt s.pw.frameNo s.sys.sysTime (closeFrame s) = closeFrame s := by
    unfold commitAt
    rw [hpe]
  rw [hcommit, assignAt_eq, if_neg]
  unfold assignDue
  rw [hac, ha]
  exact Bool.false_ne_true

theorem takeState_scanning {sel : Nat} (h : 4 ≤ sel) {v : State} (hd : v.pw.dp = .scanning) :
    takeState sel v = { v with pw := { v.pw with st := sel } } := by
  unfold takeState
  rw [if_neg (by omega), if_neg (by omega), if_neg (by omega), hd]

theorem stateTaken_scanning {v : State} (hd : v.pw.dp = .scanning) (h : 4 ≤ selectState (raiseIf (standbyRefused v) evStandbyRefused v)) :
    (stateTaken v).mir = v.mir ∧ (stateTaken v).pw.dp = .scanning := by
  have hr := raiseIf_frame (standbyRefused v) evStandbyRefused v
  unfold stateTaken
  generalize raiseIf (standbyRefused v) evStandbyRefused v = w at h hr
  dsimp only
  rw [takeState_scanning h ((hr.same .dp).trans hd)]
  exact ⟨hr.same .mir, (hr.same .dp).trans hd⟩

include hd hp ha hc h4 in
/-- The boundary at which the mirror locks goes on scanning. -/
theorem boundaryRun_scans : (boundaryRun s).mir = s.mir ∧ (boundaryRun s).pw.dp = .scanning := by
  have hf := closeFrame_frame s
  have hr := raiseIf_frame (standbyRefused (closeFrame s)) evStandbyRefused (closeFrame s)
  have hsel : selectState (raiseIf (standbyRefused (closeFrame s)) evStandbyRefused (closeFrame s)) = selectState s :=
    selectState_congr ((hr.same .vstate).trans (hf.same .vstate)) ((hr.same .defaults).trans (hf.same .defaults))
      ((hr.same .pllBlock).trans (hf.same .pllBlock)) ((hr.same .oper).trans (hf.same .oper))
      ((hr.same .fromStandby).trans (hf.same .fromStandby)) ((hr.same .eff).trans (hf.same .eff)) ((hr.same .req).trans (hf.same .req))
      ((hr.same .wc).trans (hf.same .wc)) ((hr.same .st).trans (hf.same .st)) hc
  obtain ⟨hm, hd'⟩ := stateTaken_scanning (v := closeFrame s) ((hf.same .dp).trans hd) (h4.trans_eq hsel.symm)
  have hb : Frame [.pw, .frameNo, .frameSys, .lastB, .ex, .sup, .eFrame, .ed, .res, .regs, .fp, .ps, .req, .pllBlock]
      (stateTaken (configTaken s)) (boundaryRun s) :=
    ((nextFrameNo_frame _).trans (grantNext_frame _) (r := [.pw, .frameNo, .frameSys, .lastB, .ex, .sup, .eFrame, .ed, .res, .regs])).trans
      (boundaryRun_frame s)
  rw [configTaken_none hd hp ha] at hb
  exact ⟨(hb.same .mir).trans (hm.trans (hf.same .mir)), (hb.same .dp).trans hd'⟩

end

/-- The mirror check has passed. -/
def mirrorLocked (s : State) : State :=
  { s with mir := { s.mir with locked := true, turn := 0 }, pw := { s.pw with dp := .scanning, mirrorRaised := true } }

theorem mirrorLock_eq (s : State) : mirrorLock s = boundary (mirrorLocked s) := rfl

section
variable {s : State} (hp : s.sys.powered = true) (hu : s.sys.ctrlUp = true) (h2 : s.pw.st ≠ 2) (hn : s.cf.pend = none)
  (ha : s.ac.staged = none) (hc : cfgF s 0x1100 3 = false) (h4 : 4 ≤ selectState s)
include hp hu h2 hn ha hc h4

theorem mirrorLock_scans : (mirrorLock s).mir.locked = true ∧ (mirrorLock s).pw.dp = .scanning ∧ FrameOpens s (mirrorLock s) := by
  have he : mirrorLock s = boundaryRun (mirrorLocked s) := (mirrorLock_eq s).trans (boundary_runs (s := mirrorLocked s) hp hu h2)
  have hsel : selectState (mirrorLocked s) = selectState s := selectState_congr rfl rfl rfl rfl rfl rfl rfl rfl rfl hc
  obtain ⟨hm, hd⟩ := boundaryRun_scans (s := mirrorLocked s) rfl hn ha hc (h4.trans_eq hsel.symm)
  have ho := (boundaryRun_frameOpens (mirrorLocked s)).of_same (s := s) rfl rfl rfl
  rw [he]
  exact ⟨congrArg Mir.locked hm, hd, ho⟩

end

/-! ### Edges and timeouts of a state (R126 to R128) -/

section
variable {s : State} {x y : Nat}

theorem goodNow_good (hg : periodOk s (s.sys.now - x) = true ∧ s.mir.count = mencCpr s) : goodNow x s = min 4 (s.mir.good + 1) := by
  unfold goodNow
  rw [hg.1, decide_eq_true hg.2]
  rfl

theorem mixEdge_keeps (hx : s.mir.lastMix = some x) (hd : s.pw.dp = .scanning)
    (hg : periodOk s (s.sys.now - x) = true ∧ s.mir.count = mencCpr s) : mixEdge s = edgeNoted (min 4 (s.mir.good + 1)) x s := by
  rw [mixEdge_scanning hx hd, goodNow_good hg, hg.1, decide_eq_true hg.2]
  rfl

theorem mixEdge_counts (hx : s.mir.lastMix = some x) (hd : s.pw.dp = .ready)
    (hg : periodOk s (s.sys.now - x) = true ∧ s.mir.count = mencCpr s) (h3 : s.mir.good < 3) : mixEdge s = edgeNoted (s.mir.good + 1) x s := by
  have h : goodNow x s = s.mir.good + 1 := (goodNow_good hg).trans (by omega)
  rw [mixEdge_ready hx hd, h, if_neg (by omega)]

theorem mixEdge_locks (hx : s.mir.lastMix = some x) (hd : s.pw.dp = .ready)
    (hg : periodOk s (s.sys.now - x) = true ∧ s.mir.count = mencCpr s) (h3 : 3 ≤ s.mir.good) : mixEdge s = mirrorLock (edgeNoted 4 x s) := by
  have h : goodNow x s = 4 := (goodNow_good hg).trans (by omega)
  rw [mixEdge_ready hx hd, h, if_pos rfl]

theorem mixEdge_badPeriod (hx : s.mir.lastMix = some x) (hd : s.pw.dp = .scanning) (hp : periodOk s (s.sys.now - x) = false) :
    mixEdge s = mirrorFault 0 (edgeNoted (goodNow x s) x s) := by
  rw [mixEdge_scanning hx hd, hp]
  rfl

theorem mixEdge_badCount (hx : s.mir.lastMix = some x) (hd : s.pw.dp = .scanning) (hp : periodOk s (s.sys.now - x) = true)
    (hc : s.mir.count ≠ mencCpr s) : mixEdge s = mirrorFault 1 (edgeNoted (goodNow x s) x s) := by
  rw [mixEdge_scanning hx hd, hp, decide_eq_false hc]
  rfl

theorem scanning_of (hd : s.pw.dp = .scanning) : scanning s = true := by
  unfold scanning
  rw [hd]
  rfl

theorem mixTimeout_faults (hx : s.mir.lastMix = some x) (hd : s.pw.dp = .scanning) (ht : 101 * framePeriod s ≤ 100 * (s.sys.now - x)) :
    mixTimeout s = mirrorFault 0 s := by
  unfold mixTimeout
  rw [hx]
  exact if_pos (Bool.and_eq_true_iff.2 ⟨scanning_of hd, decide_eq_true ht⟩)

theorem mencStall_faults (hy : s.mir.lastMenc = some y) (hd : s.pw.dp = .scanning) (ht : 4 * framePeriod s ≤ (s.sys.now - y) * mencCpr s) :
    mencStall s = mirrorFault 2 s := by
  unfold mencStall
  rw [hy]
  exact if_pos (Bool.and_eq_true_iff.2 ⟨scanning_of hd, decide_eq_true ht⟩)

/-- An edge of MENC is noted. -/
def mencNoted (count y : Nat) (s : State) : State :=
  { s with mir := { s.mir with lastMenc := some s.sys.now, mencInt := s.sys.now - y, count := count } }

theorem mencEdge_reverse (hy : s.mir.lastMenc = some y) (hd : s.pw.dp = .scanning) :
    mencEdge false s = mirrorFault 3 (mencNoted (s.mir.count - 1) y s) := by
  unfold mencEdge
  dsimp only
  rw [hd, hy]
  exact if_pos (Bool.and_eq_true_iff.2 ⟨scanning_of hd, rfl⟩)

theorem mencEdge_forward (hy : s.mir.lastMenc = some y) (hd : s.pw.dp = .ready ∨ s.pw.dp = .scanning) :
    mencEdge true s = mencNoted (satAdd 16 s.mir.count 1) y s := by
  have hs : ¬(scanning s && !true) = true := by simp
  unfold mencEdge
  dsimp only
  rcases hd with hd | hd
  · rw [hd, hy]
    exact if_neg hs
  · rw [hd, hy]
    exact if_neg hs

/-- The mirror check is noted to be late. -/
def lateNoted (s : State) : State := { s with pw := { s.pw with mirrorRaised := true } }

theorem mirrorCheckLate_raises (hd : s.pw.dp = .ready) (hr : s.pw.mirrorRaised = false) (ht : s.pw.readyAt + 2 * secNs ≤ s.sys.now) :
    mirrorCheckLate s = raise evMirror (lateNoted s) :=
  if_pos (by rw [hd, hr, decide_eq_true ht]; rfl)

end

section
variable {s : State} {t x y : Nat} {pol : Bool}

/-- What a mirror fault of bit `b` answers. -/
theorem faults_answer {i : Instr} {b : Nat} {v : State} (he : exec i s = .next (mirrorFault b v)) (hf : v.mir.fault = s.mir.fault) :
    Answers i s fun u => u.mir.fault = bset s.mir.fault b true ∧ u.mir.locked = false ∧ u.pw.dp ≠ .scanning := by
  obtain ⟨h1, h2⟩ := mirrorFault_says b v
  exact ⟨_, he, by rw [h1, hf], h2⟩

theorem mixEdge_other (hp : cfgF s 0x2000 0x23 = pol) : Answers (.mixEdge ⟨t, pol⟩) s fun u => u = advance t s :=
  ⟨_, congrArg Host.Outcome.next (if_pos (by rw [hp, beq_self_eq_true])), rfl⟩

theorem exec_mixEdge_active (hp : cfgF s 0x2000 0x23 = pol) : exec (.mixEdge ⟨t, !pol⟩) s = .next (mixEdge (advance t s)) :=
  congrArg Host.Outcome.next (if_neg (by rw [hp]; cases pol <;> simp))

theorem mirrorCheckTimeout_raises (hd : s.pw.dp = .ready) (hr : s.pw.mirrorRaised = false)
    (ht : s.pw.readyAt + 2 * secNs ≤ (advance t s).sys.now) (hm : s.sys.mgmtUp = true) : Answers (.mirrorCheckTimeout t) s fun u =>
      u.pw = { s.pw with mirrorRaised := true } ∧ bget u.ed.evt evMirror = true ∧ u.mir = s.mir := by
  have he := mirrorCheckLate_raises (s := advance t s) hd hr ht
  have hf := raise_frame evMirror (lateNoted (advance t s))
  exact ⟨_, congrArg Host.Outcome.next he, hf.same .pw, raise_evt (s := lateNoted (advance t s)) hm (by decide), hf.same .mir⟩

theorem dataPlaneReady_starts (hd : s.pw.dp = .starting) (hh : s.pw.hfxOk = true) (hc : s.pw.pllC = true) (ht : s.pw.pllT = true) :
    Answers (.dataPlaneReady t) s fun u => Kept u s ∧ u.pw.dp = .ready ∧ u.pw.readyAt = (advance t s).sys.now ∧ u.mir.good = 0 ∧
      u.mir.locked = false ∧ u.hg.bins = [] ∧ u.ze.refillAll = true ∧ u.gov = s.gov ∧ u.res = s.res :=
  ⟨_, rfl, (dpReady_guarded ..).trans (advance_guarded ..), dpReady_says (s := advance t s) hd hh hc ht⟩

theorem mirCntClear_bits (w : Word) {b : Nat} (hb : b < 4) :
    bget (mirCntClear w.toNat s).mir.fault b = (bget s.mir.fault b && !w.getLsbD (16 + b)) := by
  have hw : bget (BitVec.ofNat 4 (fld w.toNat 16 4)) b = w.getLsbD (16 + b) := by
    unfold bget
    rw [BitVec.getLsbD_ofNat, decide_eq_true hb, Bool.true_and]
    unfold fld
    rw [Nat.testBit_mod_two_pow, decide_eq_true hb, Bool.true_and, ← Nat.shiftRight_eq_div_pow, Nat.testBit_shiftRight]
    rfl
  rw [← hw]
  exact bget_w1c _ _ hb

end

/-- Settles O17: it holds. -/
theorem dataPlaneAndMirror : Obligations.DataPlaneAndMirror := by
  unfold Obligations.DataPlaneAndMirror
  refine ⟨fun s t => ⟨?stable, ?locked, dataPlaneReady_starts⟩, fun s t x y pol hp hx hy => ?_, fun s w => ?clear⟩
  case stable => exact fun h => ⟨_, congrArg Host.Outcome.next (hfxStable_done (s := advance t s) h), rfl⟩
  case locked => exact fun hh hd => ⟨_, congrArg Host.Outcome.next (pllLock_locks (s := advance t s) hh hd), rfl⟩
  case clear => exact ⟨_, rfl, rfl, fun b hb => mirCntClear_bits w hb⟩
  have hact := exec_mixEdge_active (t := t) hp
  refine ⟨mixEdge_other hp, ?keeps, ?counts, ?locks, ?period, ?count, ?mixLate, ?stall, ?reverse, ?forward, mirrorCheckTimeout_raises⟩
  case keeps => exact fun hd hg => ⟨_, hact.trans (congrArg Host.Outcome.next (mixEdge_keeps (s := advance t s) hx hd hg)), rfl⟩
  case counts => exact fun hd hg h3 => ⟨_, hact.trans (congrArg Host.Outcome.next (mixEdge_counts (s := advance t s) hx hd hg h3)), rfl⟩
  case locks =>
    intro hd hg h3 hpow hup h2 hn ha hc h4
    have hsel : selectState (edgeNoted 4 x (advance t s)) = selectState s := selectState_congr rfl rfl rfl rfl rfl rfl rfl rfl rfl hc
    obtain ⟨h5, h6, h7⟩ := mirrorLock_scans (s := edgeNoted 4 x (advance t s)) hpow hup h2 hn ha hc (h4.trans_eq hsel.symm)
    exact ⟨_, hact.trans (congrArg Host.Outcome.next (mixEdge_locks (s := advance t s) hx hd hg h3)), h5, h6, h7.of_same rfl rfl rfl⟩
  case period => exact fun hd hb => faults_answer (hact.trans (congrArg Host.Outcome.next (mixEdge_badPeriod (s := advance t s) hx hd hb))) rfl
  case count =>
    exact fun hd hb hc => faults_answer (hact.trans (congrArg Host.Outcome.next (mixEdge_badCount (s := advance t s) hx hd hb hc))) rfl
  case mixLate => exact fun hd ht => faults_answer (congrArg Host.Outcome.next (mixTimeout_faults (s := advance t s) hx hd ht)) rfl
  case stall => exact fun hd ht => faults_answer (congrArg Host.Outcome.next (mencStall_faults (s := advance t s) hy hd ht)) rfl
  case reverse => exact fun hd => faults_answer (congrArg Host.Outcome.next (mencEdge_reverse (s := advance t s) hy hd)) rfl
  case forward => exact fun hd => ⟨_, congrArg Host.Outcome.next (mencEdge_forward (s := advance t s) hy hd), rfl⟩

end Sys2Proof.Machine
end

section
/-! PROOF. O41: commits: request, verification and effect. -/

namespace Sys2Proof.Machine

-- One after another the proofs need less memory than all at once.
set_option Elab.async false

/-! ### What a set's checks do not depend on -/

theorem setConsistent_advance (q : Pend) (t : Nat) (s : State) : setConsistent q (advance t s) = setConsistent q s :=
  (consistent_eff (committedView q (advance t s))).trans (consistent_eff (committedView q s)).symm

theorem verifyCause_advance (p : Pend) (c : Chan) (b : Bool) (t : Nat) (s : State) :
    verifyCause (advance t s) p c b = verifyCause s p c b := by
  have hc : getC (advance t s) c = getC s c := getC_congr rfl rfl c
  have hs : setCrc p.set p.map (advance t s) = setCrc p.set p.map s := rfl
  unfold verifyCause
  rw [setConsistent_advance, hc, hs]

/-! ### COMMIT_GO (R45, R46, Table 15.2) -/

theorem commitTry_eq (s : State) : commitTry s =
    if (commitNow s).crc ≠ liveN s 0x1100 0x10 then postCommit 2 s
    else if boundaryPast (commitNow s).mode (commitNow s).frame (commitNow s).time s then postCommit 3 s
    else if s.cf.pend.isSome then postCommit 8 s
    else if (commitNow s).safety && logFull s then postCommit 7 s
    else if !(commitNow s).safety && !setConsistent (commitNow s) s then commitRefused s
    else if !(commitNow s).safety && !timeLeft (commitNow s) s then postCommit 4 s
    else postCommit 1 { s with cf := { s.cf with
      pend := some { commitNow s with writeAt := if (commitNow s).safety then none else some s.sys.now } } } := rfl

/-- From `s` to `u` the commit's status is posted, and `q` is pending. -/
def PostedNow (st : Nat) (q : Option Pend) (s u : State) : Prop :=
  u.cf = { s.cf with status := st, pend := q } ∧ (resGet u aCommit).valid = true ∧ (resGet u aCommit).fresh = true ∧ regGet u aCommit = st

theorem postCommit_posted (st : Nat) {q : Option Pend} {s v : State} (h : v.cf = { s.cf with pend := q }) : PostedNow st q s (postCommit st v) := by
  have hr : resGet (postCommit st v) aCommit = postedRes (resGet v aCommit) := resGet_post ..
  unfold PostedNow
  rw [hr, postCommit_cf, h]
  exact ⟨rfl, rfl, rfl, regGet_post_low ..⟩

section
variable {s : State}

theorem commitTry_crc (h : (commitNow s).crc ≠ liveN s 0x1100 0x10) : PostedNow 2 s.cf.pend s (commitTry s) := by
  rw [commitTry_eq, if_pos h]
  exact postCommit_posted 2 rfl

variable (h : (commitNow s).crc = liveN s 0x1100 0x10)
include h

theorem commitTry_past (hb : boundaryPast (commitNow s).mode (commitNow s).frame (commitNow s).time s = true) :
    PostedNow 3 s.cf.pend s (commitTry s) := by
  rw [commitTry_eq, if_neg fun hn => hn h, if_pos hb]
  exact postCommit_posted 3 rfl

variable (hb : boundaryPast (commitNow s).mode (commitNow s).frame (commitNow s).time s = false)
include hb

theorem commitTry_pending (hp : s.cf.pend ≠ none) : PostedNow 8 s.cf.pend s (commitTry s) := by
  rw [commitTry_eq, if_neg fun hn => hn h, if_neg (by rw [hb]; exact Bool.false_ne_true), if_pos (Option.isSome_iff_ne_none.2 hp)]
  exact postCommit_posted 8 rfl

variable (hp : s.cf.pend = none)
include hp

/-- The checks after those of the boundary and of a commit in progress. -/
theorem commitTry_rest : commitTry s =
    if (commitNow s).safety && logFull s then postCommit 7 s
    else if !(commitNow s).safety && !setConsistent (commitNow s) s then commitRefused s
    else if !(commitNow s).safety && !timeLeft (commitNow s) s then postCommit 4 s
    else postCommit 1 { s with cf := { s.cf with
      pend := some { commitNow s with writeAt := if (commitNow s).safety then none else some s.sys.now } } } := by
  rw [commitTry_eq, if_neg fun hn => hn h, if_neg (by rw [hb]; exact Bool.false_ne_true), if_neg (by rw [hp]; exact Bool.false_ne_true)]

theorem commitTry_full (hs : (commitNow s).safety = true) (hl : logFull s = true) : PostedNow 7 none s (commitTry s) := by
  rw [commitTry_rest h hb hp, if_pos (by rw [hs, hl]; rfl)]
  exact postCommit_posted 7 (by rw [← hp])

/-- A safety set is pending, with its verification still to come. -/
theorem commitTry_safety (hs : (commitNow s).safety = true) (hl : logFull s = false) : PostedNow 1 (some (commitNow s)) s (commitTry s) := by
  rw [commitTry_rest h hb hp, if_neg (by rw [hl]; simp), if_neg (by rw [hs]; simp), if_neg (by rw [hs]; simp), hs]
  exact postCommit_posted 1 rfl

theorem commitTry_inconsistent (hs : (commitNow s).safety = false) (hc : setConsistent (commitNow s) s = false) :
    ∃ st, 2 ≤ st ∧ st ≤ 8 ∧ PostedNow st none s (commitTry s) := by
  refine ⟨2 + freeNow s % 7, by omega, by omega, ?_⟩
  rw [commitTry_rest h hb hp, if_neg (by rw [hs]; simp), if_pos (by rw [hs, hc]; rfl)]
  exact postCommit_posted _ (by rw [← hp]; rfl)

theorem commitTry_late (hs : (commitNow s).safety = false) (hc : setConsistent (commitNow s) s = true)
    (ht : timeLeft (commitNow s) s = false) : PostedNow 4 none s (commitTry s) := by
  rw [commitTry_rest h hb hp, if_neg (by rw [hs]; simp), if_neg (by rw [hc]; simp), if_pos (by rw [hs, ht]; rfl)]
  exact postCommit_posted 4 (by rw [← hp])

theorem commitTry_accepted (hs : (commitNow s).safety = false) (hc : setConsistent (commitNow s) s = true)
    (ht : timeLeft (commitNow s) s = true) : PostedNow 1 (some { commitNow s with writeAt := some s.sys.now }) s (commitTry s) := by
  rw [commitTry_rest h hb hp, if_neg (by rw [hs]; simp), if_neg (by rw [hc]; simp), if_neg (by rw [ht]; simp), hs]
  exact postCommit_posted 1 rfl

end

/-! ### The answer to COMMIT_GO -/

section
variable {s : State} {t : Nat} {p : Path}

theorem commitGo_session (hs : stagedSafety s = true) (hn : sessionOn s p = false) : commitGo p s = (0x0611, s) :=
  if_pos (by rw [hs, hn]; rfl)

variable (hs : stagedSafety s = false ∨ sessionOn s p = true)
include hs

theorem commitGo_allowed : commitGo p s =
    if !s.sup.holdReady then (0x0640, s) else if stagedMaskZero s then (0x0620, s) else (0, commitTry s) :=
  if_neg (by rcases hs with h | h <;> simp [h])

theorem commitGo_hold (hh : s.sup.holdReady = false) : commitGo p s = (0x0640, s) := by
  rw [commitGo_allowed hs, if_pos (by rw [hh]; rfl)]

variable (hh : s.sup.holdReady = true)
include hh

theorem commitGo_mask (hm : stagedMaskZero s = true) : commitGo p s = (0x0620, s) := by
  rw [commitGo_allowed hs, if_neg (by rw [hh]; decide), if_pos hm]

theorem commitGo_tries (hm : stagedMaskZero s = false) : commitGo p s = (0, commitTry s) := by
  rw [commitGo_allowed hs, if_neg (by rw [hh]; decide), if_neg (by rw [hm]; decide)]

end

section
variable {s : State} {t : Nat} {p : Path} (hm : s.sys.mgmtUp = true) (hv : s.sup.vstate ≠ 2)
include hm hv

/-- COMMIT_GO is answered with its outcome, which only the response follows. -/
theorem commitGo_answers {a : Nat} {v : State} (he : commitGo p (advance t s) = (a, v)) :
    Answers (.commitGo t p) s fun u => RespondedTo p 0x1100 0x14 1 a s u ∧ Frame [.dc, .zl] v u := by
  have hf := commitGo_frame p (advance t s)
  rw [he] at hf
  obtain ⟨hg, hr⟩ := writeCmd_answers (s := advance t s) hm hv p 0x1100 0x14 1 he hf.answerable
  exact ⟨_, rfl, hr, hg⟩

/-- A refused COMMIT_GO leaves the configuration. -/
theorem commitGo_refuses {a : Nat} (he : commitGo p (advance t s) = (a, advance t s)) :
    Answers (.commitGo t p) s fun u => u.cf = s.cf ∧ RespondedTo p 0x1100 0x14 1 a s u := by
  obtain ⟨u, hx, hr, hf⟩ := commitGo_answers hm hv he
  exact ⟨u, hx, hf.same .cf, hr⟩

/-- What a commit that is tried posts. -/
theorem commitGo_tried (hs : stagedSafety s = false ∨ sessionOn s p = true) (hh : s.sup.holdReady = true) (hz : stagedMaskZero s = false)
    {st : Nat} {q : Option Pend} (hp : PostedNow st q (advance t s) (commitTry (advance t s))) :
    Answers (.commitGo t p) s (CommitPosted p st q s) := by
  obtain ⟨hc, hva, hfr, hr⟩ := hp
  obtain ⟨u, hx, hresp, hf⟩ := commitGo_answers hm hv (commitGo_tries (s := advance t s) hs hh hz)
  have hres : u.res = (commitTry (advance t s)).res := hf.same .res
  have hregs : u.regs = (commitTry (advance t s)).regs := hf.same .regs
  refine ⟨u, hx, hresp, (hf.same .cf).trans hc, ?_, ?_, ?_⟩
  · rw [resGet_of_res hres]
    exact hva
  · rw [resGet_of_res hres]
    exact hfr
  · unfold regGet
    rw [hregs]
    exact hr

end

theorem logFull_of_le {s : State} (h : 512 ≤ s.sess.log.length) : logFull s = true := decide_eq_true h
theorem logFull_of_lt {s : State} (h : s.sess.log.length < 512) : logFull s = false := decide_eq_false (Nat.not_le.2 h)

/-! ### Verification (R47, R333) -/

section
variable {s : State} {p : Pend}

theorem logAdd_entry (h : s.sess.log.length < 512) (kind user : Nat) (objs : List Nat) (f : BitVec 32) (c o n : Nat) :
    ∃ e, (logAdd kind user objs f c o n s).sess.log = s.sess.log ++ [e] ∧ e.kind = kind ∧ e.user = user ∧ e.time = s.sys.sysTime := by
  have hr : ∀ b j (s : State), (raiseIf b j s).sess = s.sess := fun b j s => (raiseIf_frame b j s).same .sess
  unfold logAdd
  rw [if_neg (by rw [logFull_of_lt h]; exact Bool.false_ne_true)]
  dsimp only
  rw [hr, hr]
  exact ⟨_, rfl, rfl, rfl, rfl⟩

theorem commitFail_says (st : Nat) (s : State) : (commitFail st s).cf = { s.cf with pend := none, status := st } ∧
    (commitFail st s).sess = s.sess := ⟨commitFail_cf .., (commitFail_frame ..).same .sess⟩

/-- The two channels' verdict is noted. -/
def verdictNoted (a b : Nat) (s : State) : State := { s with cf := { s.cf with verify := a + 256 * b } }

/-- The entry of the commit is in the log, and the copies are being written. -/
def commitLogged (p : Pend) (s : State) : State :=
  let v := logAdd 1 p.user (changedObjs p.set p.map s) (s.pw.frameNo + BitVec.ofNat 32 (boundariesTo p.mode p.frame p.time s)) (s.cf.count + 1)
    (cfgCrc s) (setCrc p.set p.map s) s
  { v with cf := { v.cf with pend := some { p with verified := true, writeAt := some v.sys.now } } }

theorem commitLogged_says (hl : s.sess.log.length < 512) : (commitLogged p s).cf.pend =
      some { p with verified := true, writeAt := some s.sys.now } ∧ (commitLogged p s).cf.eff = s.cf.eff ∧
    ∃ e, (commitLogged p s).sess.log = s.sess.log ++ [e] ∧ e.kind = 1 ∧ e.user = p.user ∧ e.time = s.sys.sysTime := by
  have hf := logAdd_frame 1 p.user (changedObjs p.set p.map s)
    (s.pw.frameNo + BitVec.ofNat 32 (boundariesTo p.mode p.frame p.time s)) (s.cf.count + 1) (cfgCrc s) (setCrc p.set p.map s) s
  have he := logAdd_entry hl 1 p.user (changedObjs p.set p.map s)
    (s.pw.frameNo + BitVec.ofNat 32 (boundariesTo p.mode p.frame p.time s)) (s.cf.count + 1) (cfgCrc s) (setCrc p.set p.map s)
  unfold commitLogged
  dsimp only
  generalize logAdd _ _ _ _ _ _ _ s = v at hf he
  have hnow : v.sys.now = s.sys.now := hf.same .now
  rw [hnow]
  exact ⟨rfl, hf.same .eff, he⟩

variable (hp : s.cf.pend = some p) (hs : p.safety = true) (hv : p.verified = false)
include hp hs hv

theorem commitVerified_eq (a b : Bool) : commitVerified a b s =
    let va := verifyCause s p .a a
    let vb := verifyCause s p .b b
    if !timeLeft p s then commitFail 4 s
    else if va ≠ 0 then commitFail 5 (verdictNoted va vb s)
    else if vb ≠ 0 then commitFail 6 (verdictNoted va vb s)
    else if logFull (verdictNoted va vb s) then verdictNoted va vb s
    else commitLogged p (verdictNoted va vb s) := by
  unfold commitVerified
  rw [hp]
  exact if_neg (by rw [hs, hv]; decide)

theorem commitVerified_late {a b : Bool} (ht : timeLeft p s = false) : commitVerified a b s = commitFail 4 s := by
  rw [commitVerified_eq hp hs hv]
  exact if_pos (by rw [ht]; rfl)

theorem commitVerified_inTime {a b : Bool} (ht : timeLeft p s = true) : commitVerified a b s =
    let va := verifyCause s p .a a
    let vb := verifyCause s p .b b
    if va ≠ 0 then commitFail 5 (verdictNoted va vb s)
    else if vb ≠ 0 then commitFail 6 (verdictNoted va vb s)
    else if logFull (verdictNoted va vb s) then verdictNoted va vb s
    else commitLogged p (verdictNoted va vb s) := by
  rw [commitVerified_eq hp hs hv]
  exact if_neg (by rw [ht]; decide)

theorem commitDeadline_comes (hd : deadlineCome p s = true) : commitDeadline s = commitFail 4 s := by
  unfold commitDeadline
  rw [hp]
  exact if_pos (by rw [hs, hv, hd]; rfl)

end

theorem copiesWritten_says {s : State} {p : Pend} (hp : s.cf.pend = some p) (hw : p.written = false)
    (h : p.safety = false ∨ p.verified = true) : copiesWritten s =
      { s with cf := { s.cf with copyA := copyAfter p s, copyB := copyAfter p s, pend := some { p with written := true } } } := by
  unfold copiesWritten
  rw [hp]
  exact if_neg (by rcases h with h | h <;> simp [hw, h])

/-! ### The boundary that the commit names (R48) -/

section
variable {s : State} {p : Pend} (hp : s.cf.pend = some p)
include hp

/-- The pending commit's effect on the configuration, at the boundary that closes the frame in progress. -/
theorem commitAt_cf : (commitAt s.pw.frameNo (waitOver s).sys.sysTime (closeFrame (waitOver s))).cf =
    if commitNamed p s.pw.frameNo s.sys.sysTime then
      (if commitReady p then { cfApplied p (closeFrame (waitOver s)) with status := 0 } else { cfClosed s with pend := none, status := 4 })
    else cfClosed s := by
  have hc := closed_cf s
  have ht : (waitOver s).sys.sysTime = s.sys.sysTime := (waitOver_frame s).same .sysTime
  have hpe : (closeFrame (waitOver s)).cf.pend = some p := by
    rw [hc]
    exact hp
  unfold commitAt
  rw [hpe]
  dsimp only
  rw [ht]
  split
  · split
    · exact applyCommit_cf ..
    · rw [commitFail_cf, hc]
  · exact hc

theorem boundaryRun_commit : ∃ x m a b, (boundaryRun s).cf = { (if commitNamed p s.pw.frameNo s.sys.sysTime then
      (if commitReady p then { cfApplied p (closeFrame (waitOver s)) with status := 0 } else { cfClosed s with pend := none, status := 4 })
    else cfClosed s) with staged := x, mapStage := m, copyA := a, copyB := b } := by
  obtain ⟨x, m, h⟩ := boundaryRun_cf s
  obtain ⟨a, b, h'⟩ := assignAt_cf (commitAt s.pw.frameNo (waitOver s).sys.sysTime (closeFrame (waitOver s)))
  rw [commitAt_cf hp] at h'
  refine ⟨x, m, a, b, h.trans ?_⟩
  have h'' : (configTaken s).cf = _ := h'
  rw [h'']

end

/-- What a commit leaves of the configuration, whatever else is staged and in the copies. -/
theorem cfApplied_says (p : Pend) {s v : State} (hc : v.cf = cfClosed s) : (cfApplied p v).pend = none ∧
    (cfApplied p v).eff = afterCommit s.cf.eff p.set ∧ (cfApplied p v).map = mapAfter p.map s ∧
    (cfApplied p v).count = satAdd 32 s.cf.count 1 ∧ (cfApplied p v).safety = (s.cf.safety || p.safety) ∧
    (cfApplied p v).defaults = false ∧ (cfApplied p v).effPrev = s.cf.eff := by
  have hm : mapAfter p.map v = mapAfter p.map s := by
    unfold mapAfter
    split
    · rfl
    · rw [hc]
      rfl
  unfold cfApplied copyAfter
  dsimp only
  rw [hm, hc]
  exact ⟨rfl, rfl, rfl, rfl, rfl, rfl, rfl⟩

section
variable {s : State} {t : Nat} {p : Pend} (hpow : s.sys.powered = true) (hup : s.sys.ctrlUp = true) (h2 : s.pw.st ≠ 2)
  (hd : s.pw.dp ≠ .scanning) (hl : s.pw.lastB + framePeriod s ≤ (advance t s).sys.now) (hp : s.cf.pend = some p)
include hpow hup h2 hd hl hp

/-- The configuration after a nominal boundary with a commit pending. -/
theorem nominalBoundary_commit : ∃ u x m a b, exec (.nominalBoundary t) s = .next u ∧ u.cf =
    { (if commitNamed p s.pw.frameNo (advance t s).sys.sysTime then
        (if commitReady p then { cfApplied p (closeFrame (waitOver (advance t s))) with status := 0 }
          else { cfClosed s with pend := none, status := 4 })
      else cfClosed s) with staged := x, mapStage := m, copyA := a, copyB := b } := by
  have he : nominalBoundary (advance t s) = boundaryRun (advance t s) :=
    (nominalBoundary_comes (s := advance t s) hd hl).trans (boundary_runs (s := advance t s) hpow hup h2)
  obtain ⟨x, m, a, b, h⟩ := boundaryRun_commit (s := advance t s) hp
  exact ⟨_, x, m, a, b, congrArg Host.Outcome.next he, h⟩

theorem nominalBoundary_applies (hn : commitNamed p s.pw.frameNo (advance t s).sys.sysTime = true) (hr : commitReady p = true) :
    Answers (.nominalBoundary t) s fun u => u.cf.pend = none ∧ u.cf.status = 0 ∧
      u.cf.eff = afterCommit s.cf.eff p.set ∧ u.cf.map = mapAfter p.map s ∧ u.cf.count = satAdd 32 s.cf.count 1 ∧
      u.cf.safety = (s.cf.safety || p.safety) ∧ u.cf.defaults = false ∧ u.cf.effPrev = s.cf.eff := by
  obtain ⟨u, x, m, a, b, he, hc⟩ := nominalBoundary_commit hpow hup h2 hd hl hp
  rw [if_pos hn, if_pos hr] at hc
  obtain ⟨h1, h3, h4, h5, h6, h7, h8⟩ := cfApplied_says p (closed_cf (advance t s))
  refine ⟨u, he, ?_⟩
  beta_reduce
  rw [hc]
  exact ⟨h1, rfl, h3, h4, h5, h6, h7, h8⟩

theorem nominalBoundary_fails (hn : commitNamed p s.pw.frameNo (advance t s).sys.sysTime = true) (hr : commitReady p = false) :
    Answers (.nominalBoundary t) s fun u => u.cf.pend = none ∧ u.cf.status = 4 ∧
      u.cf.eff = s.cf.eff ∧ u.cf.map = s.cf.map ∧ u.cf.count = s.cf.count := by
  obtain ⟨u, x, m, a, b, he, hc⟩ := nominalBoundary_commit hpow hup h2 hd hl hp
  rw [if_pos hn, if_neg (by rw [hr]; exact Bool.false_ne_true)] at hc
  refine ⟨u, he, ?_⟩
  beta_reduce
  rw [hc]
  exact ⟨rfl, rfl, rfl, rfl, rfl⟩

theorem nominalBoundary_passes (hn : commitNamed p s.pw.frameNo (advance t s).sys.sysTime = false) :
    Answers (.nominalBoundary t) s fun u => u.cf.pend = some p ∧ u.cf.eff = s.cf.eff ∧ u.cf.map = s.cf.map ∧ u.cf.count = s.cf.count := by
  obtain ⟨u, x, m, a, b, he, hc⟩ := nominalBoundary_commit hpow hup h2 hd hl hp
  rw [if_neg (by rw [hn]; exact Bool.false_ne_true)] at hc
  refine ⟨u, he, ?_⟩
  beta_reduce
  rw [hc]
  exact ⟨hp, rfl, rfl, rfl⟩

end

/-! ### The statement -/

section
variable {s : State} {t : Nat} {p : Path} (hm : s.sys.mgmtUp = true) (hv : s.sup.vstate ≠ 2)
  (hs : stagedSafety s = false ∨ sessionOn s p = true) (hh : s.sup.holdReady = true) (hz : stagedMaskZero s = false)
include hm hv hs hh hz

/-- The outcomes of a commit that COMMIT_GO tries, in the order of its checks. -/
theorem commitGo_outcomes :
    let q := commitNow s
    let A := Answers (.commitGo t p) s
    (stagedCrc s ≠ liveN s 0x1100 0x10 → A (CommitPosted p 2 s.cf.pend s)) ∧
    (stagedCrc s = liveN s 0x1100 0x10 → boundaryPast q.mode q.frame q.time s = true → A (CommitPosted p 3 s.cf.pend s)) ∧
    (stagedCrc s = liveN s 0x1100 0x10 → boundaryPast q.mode q.frame q.time s = false →
      (s.cf.pend ≠ none → A (CommitPosted p 8 s.cf.pend s)) ∧
      (s.cf.pend = none →
        (q.safety = true → 512 ≤ s.sess.log.length → A (CommitPosted p 7 none s)) ∧
        (q.safety = true → s.sess.log.length < 512 → A (CommitPosted p 1 (some q) s)) ∧
        (q.safety = false → setConsistent q s = false → A fun u => ∃ st, 2 ≤ st ∧ st ≤ 8 ∧ CommitPosted p st none s u) ∧
        (q.safety = false → setConsistent q s = true → timeLeft q (advance t s) = false → A (CommitPosted p 4 none s)) ∧
        (q.safety = false → setConsistent q s = true → timeLeft q (advance t s) = true →
          A (CommitPosted p 1 (some { q with writeAt := some (advance t s).sys.now }) s)))) := by
  have hq (b : Bool) : setConsistent (commitNow s) s = b → setConsistent (commitNow (advance t s)) (advance t s) = b :=
    (setConsistent_advance (commitNow s) t s).trans
  have tried {st : Nat} {q : Option Pend} := commitGo_tried (t := t) (st := st) (q := q) hm hv hs hh hz
  refine ⟨fun hc => tried (commitTry_crc (s := advance t s) hc), fun hc hb => tried (commitTry_past (s := advance t s) hc hb),
    fun hc hb => ⟨fun hp => tried (commitTry_pending (s := advance t s) hc hb hp), fun hp => ⟨?full, ?safety, ?broken, ?late, ?accepted⟩⟩⟩
  case full => exact fun hs hl => tried (commitTry_full (s := advance t s) hc hb hp hs (logFull_of_le hl))
  case safety => exact fun hs hl => tried (commitTry_safety (s := advance t s) hc hb hp hs (logFull_of_lt hl))
  case broken =>
    intro hs hk
    obtain ⟨st, h2, h8, hst⟩ := commitTry_inconsistent (s := advance t s) hc hb hp hs (hq false hk)
    obtain ⟨u, he, hu⟩ := tried hst
    exact ⟨u, he, st, h2, h8, hu⟩
  case late => exact fun hs hk ht => tried (commitTry_late (s := advance t s) hc hb hp hs (hq true hk) ht)
  case accepted => exact fun hs hk ht => tried (commitTry_accepted (s := advance t s) hc hb hp hs (hq true hk) ht)

end

theorem failed_says (st : Nat) {s v : State} (he : v.cf.eff = s.cf.eff) (hs : v.sess = s.sess) : (commitFail st v).cf.pend = none ∧
    (commitFail st v).cf.status = st ∧ (commitFail st v).cf.eff = s.cf.eff ∧ (commitFail st v).sess.log = s.sess.log := by
  obtain ⟨h1, h2⟩ := commitFail_says st v
  rw [h1, h2, hs]
  exact ⟨rfl, rfl, he, rfl⟩

section
variable {s : State} {t : Nat} {a b : Bool} {p : Pend} (hp : s.cf.pend = some p) (hs : p.safety = true) (hv : p.verified = false)
include hp hs hv

/-- The verdict of the two channels on a set that is in time. -/
theorem commitVerifyDone_verdict (ht : timeLeft p (advance t s) = true) :
    let va := verifyCause s p .a a
    let vb := verifyCause s p .b b
    let failed := fun (st : Nat) (u : State) => u.cf.pend = none ∧ u.cf.status = st ∧ u.cf.eff = s.cf.eff ∧ u.sess.log = s.sess.log
    (va ≠ 0 → Answers (.commitVerifyDone t a b) s fun u => failed 5 u ∧ u.cf.verify = va + 256 * vb) ∧
    (va = 0 → vb ≠ 0 → Answers (.commitVerifyDone t a b) s fun u => failed 6 u ∧ u.cf.verify = 256 * vb) ∧
    (va = 0 → vb = 0 → s.sess.log.length < 512 → Answers (.commitVerifyDone t a b) s fun u =>
      u.cf.pend = some { p with verified := true, writeAt := some (advance t s).sys.now } ∧ u.cf.eff = s.cf.eff ∧
      ∃ e, u.sess.log = s.sess.log ++ [e] ∧ e.kind = 1 ∧ e.user = p.user ∧ e.time = (advance t s).sys.sysTime) := by
  have he := commitVerified_inTime (s := advance t s) hp hs hv (a := a) (b := b) ht
  rw [verifyCause_advance, verifyCause_advance] at he
  intro va vb failed
  have hverify (st : Nat) : (commitFail st (verdictNoted va vb (advance t s))).cf.verify = va + 256 * vb := by
    rw [(commitFail_says ..).1]
    rfl
  refine ⟨fun ha => ?_, fun ha hb => ?_, fun ha hb hl => ?_⟩
  · exact ⟨_, congrArg Host.Outcome.next (he.trans (if_pos ha)), failed_says 5 rfl rfl, hverify 5⟩
  · refine ⟨_, congrArg Host.Outcome.next (he.trans ((if_neg fun h => h ha).trans (if_pos hb))), failed_says 6 rfl rfl,
      (hverify 6).trans ?_⟩
    rw [ha, Nat.zero_add]
  · have hfull : logFull (verdictNoted va vb (advance t s)) = false := logFull_of_lt (s := verdictNoted va vb (advance t s)) hl
    exact ⟨_, congrArg Host.Outcome.next (he.trans ((if_neg fun h => h ha).trans ((if_neg fun h => h hb).trans
      (if_neg fun h => Bool.noConfusion (hfull.symm.trans h))))), commitLogged_says (s := verdictNoted va vb (advance t s)) hl⟩

theorem commitVerifyDone_late (ht : timeLeft p (advance t s) = false) : Answers (.commitVerifyDone t a b) s fun u =>
    u.cf.pend = none ∧ u.cf.status = 4 ∧ u.cf.eff = s.cf.eff ∧ u.sess.log = s.sess.log :=
  ⟨_, congrArg Host.Outcome.next (commitVerified_late (s := advance t s) hp hs hv ht), failed_says 4 rfl rfl⟩

theorem commitDeadline_fails (hd : deadlineCome p (advance t s) = true) : Answers (.commitDeadline t) s fun u =>
    u.cf.pend = none ∧ u.cf.status = 4 ∧ u.cf.eff = s.cf.eff ∧ u.sess.log = s.sess.log :=
  ⟨_, congrArg Host.Outcome.next (commitDeadline_comes (s := advance t s) hp hs hv hd), failed_says 4 rfl rfl⟩

end

theorem configCopiesWritten_writes {s : State} {t : Nat} {p : Pend} (hp : s.cf.pend = some p) (hw : p.written = false)
    (h : p.safety = false ∨ p.verified = true) : Answers (.configCopiesWritten t) s fun u =>
      u.cf.copyA = u.cf.copyB ∧ u.cf.copyA.count = satAdd 32 s.cf.count 1 ∧ u.cf.copyA.objs = afterCommit s.cf.eff p.set ∧
      u.cf.copyA.map = mapAfter p.map s ∧ u.cf.eff = s.cf.eff ∧ u.cf.pend = some { p with written := true } :=
  ⟨_, congrArg Host.Outcome.next (copiesWritten_says (s := advance t s) hp hw h), rfl, rfl, rfl, rfl, rfl, rfl⟩

/-- Settles O41: it holds. -/
theorem commitsTakeEffect : Obligations.CommitsTakeEffect := by
  unfold Obligations.CommitsTakeEffect
  refine ⟨fun s t p hm hv => ⟨?session, fun hs => ⟨?hold, ?mask, ?tried⟩⟩, fun s t a b p hp => ⟨fun hs hv => ⟨?late, ?verdict, ?deadline⟩,
    configCopiesWritten_writes hp⟩, fun s t p hpow hup h2 hd hl hp => ⟨?applies, ?fails, ?passes⟩⟩
  case session => exact fun hs hn => commitGo_refuses hm hv (commitGo_session (s := advance t s) hs hn)
  case hold => exact fun hh => commitGo_refuses hm hv (commitGo_hold (s := advance t s) hs hh)
  case mask => exact fun hh hz => commitGo_refuses hm hv (commitGo_mask (s := advance t s) hs hh hz)
  case tried => exact fun hh hz => commitGo_outcomes hm hv hs hh hz
  case late => exact commitVerifyDone_late hp hs hv
  case verdict => exact commitVerifyDone_verdict hp hs hv
  case deadline => exact commitDeadline_fails hp hs hv
  case applies => exact nominalBoundary_applies hpow hup h2 hd hl hp
  case fails => exact nominalBoundary_fails hpow hup h2 hd hl hp
  case passes => exact nominalBoundary_passes hpow hup h2 hd hl hp

end Sys2Proof.Machine
end
